-- ==== Sys2Proof/Word.lean ====
section
/-!
DEFINITION. Word.lean: the word types of the agents (00 "Notation": cluster 16 bits, Shingle 8 bits, register 32 bits).
-/
namespace Sys2Proof

/-- A byte, the Shingle word (00, Notation). -/
abbrev Byte := BitVec 8
/-- A cluster word: D registers, X, Y and C memory (R27, R154). -/
abbrev W16 := BitVec 16
/-- A BAR0 register (00, Registers). -/
abbrev W32 := BitVec 32
/-- A 64-bit value: signatures, latches, device time (R139, R303, R319). -/
abbrev W64 := BitVec 64
/-- A 40-bit accumulator (R27, R82). -/
abbrev W40 := BitVec 40
/-- A P syllable, or an address in P (R53). -/
abbrev Syl := BitVec 14
/-- A Shingle program word (R228). -/
abbrev W12 := BitVec 12

end Sys2Proof
end

