-- ==== Sys2Proof/Syntax.lean ====
section
/-!
DEFINITION. Syntax.lean: the commands, one constructor per row of spec/opcode_table.json, with the row's operands.  The
table gives the rows no operand fields: the operands are what the row's rule names (a register, a number, a line) and,
where a step depends on something outside the part (data of a host read, a measured delay, a wire's bytes), that thing.
-/
namespace Sys2Proof

/-- The four address modes of a generator (R34, R66). -/
inductive AgMode where
  /-- Linear by the signed IMM6. -/
  | imm (n : BitVec 6)
  /-- Linear by Mn. -/
  | byM
  /-- Circular. -/
  | circ
  /-- Bit-reversed. -/
  | brev
deriving DecidableEq, Repr

/-- A received PTP message (R213 to R215). -/
inductive PtpMsg where
  /-- A peer-delay request of the neighbour, to be answered. -/
  | delayReq
  /-- The neighbour's answer to the request outstanding; the neighbour has held the request for `turn` ns. -/
  | delayResp (turn : Nat)
  /-- A foreign Announce message. -/
  | announce
deriving DecidableEq, Repr

/-- The answer to a peer-delay request (R213): it comes `elapsed` ns after the request left, and the neighbour has held the request
for `turn` ns. -/
structure DelayAnswer where
  /-- ns from the request to the answer. -/
  elapsed : Nat
  /-- ns for which the neighbour has held the request. -/
  turn : Nat
deriving DecidableEq, Repr

/-- What a lane receives in place of frames (R189): local fault, remote fault. -/
structure RxFault where
  /-- Local fault. -/
  near : Bool
  /-- Remote fault. -/
  far : Bool
deriving DecidableEq, Repr

/-- The inbound requests that R266 does not serve. -/
inductive BadRequest where
  /-- A BAR0 or BAR2 request of another length. -/
  | length
  /-- An I/O or locked request. -/
  | ioOrLocked
  /-- A poisoned write, whichever BAR it addresses. -/
  | poisonedWrite
deriving DecidableEq, Repr

/-- The commands. -/
inductive Instr where
  /-- T_OF (R6). -/
  | tOf (l : Fin 16)
  /-- T0 (R198). -/
  | t0 (l : Fin 16)
  /-- APPLY_TIME (R209). -/
  | applyTime (l : Fin 16)
  /-- T_IC (R11). -/
  | tIc (l : Fin 16)
  /-- IN_FRAME_ARRIVAL (R205). -/
  | inFrameArrival (l : Fin 16) (bytes : List Byte) (fcsOk : Bool) (first last : Nat)
  /-- PLACEMENT (R204). -/
  | placement (l : Fin 16)
  /-- TIME_RELEASE (R114). -/
  | timeRelease (t : Fin 4096)
  /-- RETURNED_FRAME (R210). -/
  | returnedFrame (l : Fin 16) (firstOut : Bool) (delay : Nat)
  /-- RETURN_LIMIT (R210). -/
  | returnLimit (l : Fin 16)
  /-- LATE_SET (R207). -/
  | lateSet (l : Fin 16)
  /-- CONT_FRAME (R208). -/
  | contFrame (l : Fin 16)
  /-- MESSAGE_RETRY (R201). -/
  | messageRetry (l : Fin 16) (p : Fin 4096) (mseq : Byte)
  /-- DITHER_STOP_RETRY (R170). -/
  | ditherStopRetry (p : Fin 4096) (ch : Fin 64)
  /-- SYNC (R213). -/
  | sync (l : Fin 16)
  /-- ANNOUNCE (R213). -/
  | announce (l : Fin 16)
  /-- PTP_MESSAGE (R214). -/
  | ptpMessage (l : Fin 16) (m : PtpMsg)
  /-- LINK (R218). -/
  | link (l : Fin 16) (signal blockLock hiBer : Bool) (fault : RxFault) (errored : Nat)
  /-- STAGE_IN (R122). -/
  | stageIn (c : Fin 32)
  /-- STAGE_IN_COMPLETE (R122). -/
  | stageInComplete (c : Fin 32)
  /-- PAGE_FETCH (R125). -/
  | pageFetch (c : Fin 32)
  /-- PAGE_FETCH_DONE (R125). -/
  | pageFetchDone (c : Fin 32) (hostOk : Bool)
  /-- GEN_LOADED (R129). -/
  | genLoaded
  /-- RESULT_LANDS (R36). -/
  | resultLands (c : Fin 32)
  /-- TRAP (R72). -/
  | trap (c : Fin 32)
  /-- OVERRUN (R50). -/
  | overrun (c : Fin 32)
  /-- EMULATION_TIMEOUT (R78). -/
  | emulationTimeout (c : Fin 32)
  /-- TRAP_RESUME_GO (R76). -/
  | trapResumeGo (c : Fin 32) (skip : Byte)
  /-- TRAP_RESUME_REDIRECT (R76). -/
  | trapResumeRedirect (c : Fin 32) (skip : Byte)
  /-- TRAP_RESUME_FAIL (R76). -/
  | trapResumeFail (c : Fin 32)
  /-- COMMIT (R140). -/
  | commit (c : Fin 32)
  /-- COMMIT_PUBLICATION (R140). -/
  | commitPublication (c : Fin 32)
  /-- BE_DROP (R121). -/
  | beDrop (t : Fin 4096)
  /-- ALLOC_INIT (R130). -/
  | allocInit (k : Fin 4)
  /-- ALLOC_INIT_DONE (R130). -/
  | allocInitDone (k : Fin 4)
  /-- SCRUB (R159). -/
  | scrub (k : Fin 8)
  /-- LOCKSTEP_MISMATCH (R162). -/
  | lockstepMismatch
  /-- ADD (R59). -/
  | add (c : Fin 32) (u : Fin 2) (f : Bool) (dst sa sb : Fin 32)
  /-- SUB (R59). -/
  | sub (c : Fin 32) (u : Fin 2) (f : Bool) (dst sa sb : Fin 32)
  /-- ADC (R59). -/
  | adc (c : Fin 32) (u : Fin 2) (f : Bool) (dst sa sb : Fin 32)
  /-- SBC (R59). -/
  | sbc (c : Fin 32) (u : Fin 2) (f : Bool) (dst sa sb : Fin 32)
  /-- NEG (R59). -/
  | neg (c : Fin 32) (u : Fin 2) (f : Bool) (dst sa : Fin 32)
  /-- ABS (R59). -/
  | abs (c : Fin 32) (u : Fin 2) (f : Bool) (dst sa : Fin 32)
  /-- MIN (R59). -/
  | min (c : Fin 32) (u : Fin 2) (f : Bool) (dst sa sb : Fin 32)
  /-- MAX (R59). -/
  | max (c : Fin 32) (u : Fin 2) (f : Bool) (dst sa sb : Fin 32)
  /-- AND (R59). -/
  | and (c : Fin 32) (u : Fin 2) (f : Bool) (dst sa sb : Fin 32)
  /-- OR (R59). -/
  | or (c : Fin 32) (u : Fin 2) (f : Bool) (dst sa sb : Fin 32)
  /-- XOR (R59). -/
  | xor (c : Fin 32) (u : Fin 2) (f : Bool) (dst sa sb : Fin 32)
  /-- ANDN (R59). -/
  | andn (c : Fin 32) (u : Fin 2) (f : Bool) (dst sa sb : Fin 32)
  /-- NOT (R59). -/
  | not (c : Fin 32) (u : Fin 2) (f : Bool) (dst sa : Fin 32)
  /-- MOV (R59). -/
  | mov (c : Fin 32) (u : Fin 2) (f : Bool) (dst sa : Fin 32)
  /-- NORM (R59). -/
  | norm (c : Fin 32) (u : Fin 2) (f : Bool) (dst sa : Fin 32)
  /-- LSL (R59). -/
  | lsl (c : Fin 32) (u : Fin 2) (f : Bool) (dst sa sb : Fin 32)
  /-- LSR (R59). -/
  | lsr (c : Fin 32) (u : Fin 2) (f : Bool) (dst sa sb : Fin 32)
  /-- ASR (R59). -/
  | asr (c : Fin 32) (u : Fin 2) (f : Bool) (dst sa sb : Fin 32)
  /-- ROR (R59). -/
  | ror (c : Fin 32) (u : Fin 2) (f : Bool) (dst sa sb : Fin 32)
  /-- LSLI (R59). -/
  | lsli (c : Fin 32) (u : Fin 2) (f : Bool) (dst sa : Fin 32) (n : Fin 32)
  /-- LSRI (R59). -/
  | lsri (c : Fin 32) (u : Fin 2) (f : Bool) (dst sa : Fin 32) (n : Fin 32)
  /-- ASRI (R59). -/
  | asri (c : Fin 32) (u : Fin 2) (f : Bool) (dst sa : Fin 32) (n : Fin 32)
  /-- ADD32 (R59). -/
  | add32 (c : Fin 32) (u : Fin 2) (f : Bool) (dst sa sb : Fin 32)
  /-- SUB32 (R59). -/
  | sub32 (c : Fin 32) (u : Fin 2) (f : Bool) (dst sa sb : Fin 32)
  /-- NEG32 (R59). -/
  | neg32 (c : Fin 32) (u : Fin 2) (f : Bool) (dst sa : Fin 32)
  /-- ABS32 (R59). -/
  | abs32 (c : Fin 32) (u : Fin 2) (f : Bool) (dst sa : Fin 32)
  /-- ASR32I (R59). -/
  | asr32i (c : Fin 32) (u : Fin 2) (f : Bool) (dst sa : Fin 32) (n : Fin 32)
  /-- LSL32I (R59). -/
  | lsl32i (c : Fin 32) (u : Fin 2) (f : Bool) (dst sa : Fin 32) (n : Fin 32)
  /-- MOV32 (R59). -/
  | mov32 (c : Fin 32) (u : Fin 2) (f : Bool) (dst sa : Fin 32)
  /-- CMP (R59). -/
  | cmp (c : Fin 32) (u : Fin 2) (sa sb : Fin 32)
  /-- TST (R59). -/
  | tst (c : Fin 32) (u : Fin 2) (sa sb : Fin 32)
  /-- CMP32 (R59). -/
  | cmp32 (c : Fin 32) (u : Fin 2) (sa sb : Fin 32)
  /-- FADD (R61). -/
  | fadd (c : Fin 32) (u : Fin 2) (f : Bool) (dst sa sb : Fin 32)
  /-- FSUB (R61). -/
  | fsub (c : Fin 32) (u : Fin 2) (f : Bool) (dst sa sb : Fin 32)
  /-- FMUL (R61). -/
  | fmul (c : Fin 32) (u : Fin 2) (f : Bool) (dst sa sb : Fin 32)
  /-- FMIN (R96). -/
  | fmin (c : Fin 32) (u : Fin 2) (f : Bool) (dst sa sb : Fin 32)
  /-- FMAX (R96). -/
  | fmax (c : Fin 32) (u : Fin 2) (f : Bool) (dst sa sb : Fin 32)
  /-- FABS (R96). -/
  | fabs (c : Fin 32) (u : Fin 2) (f : Bool) (dst sa : Fin 32)
  /-- FNEG (R96). -/
  | fneg (c : Fin 32) (u : Fin 2) (f : Bool) (dst sa : Fin 32)
  /-- FCMP (R61). -/
  | fcmp (c : Fin 32) (u : Fin 2) (sa sb : Fin 32)
  /-- FLT (R97). -/
  | flt (c : Fin 32) (u : Fin 2) (f : Bool) (dst sa : Fin 32)
  /-- FIX (R97). -/
  | fix (c : Fin 32) (u : Fin 2) (f : Bool) (dst sa : Fin 32)
  /-- FQ15 (R97). -/
  | fq15 (c : Fin 32) (u : Fin 2) (f : Bool) (dst sa : Fin 32)
  /-- QF15 (R97). -/
  | qf15 (c : Fin 32) (u : Fin 2) (f : Bool) (dst sa : Fin 32)
  /-- FQ31 (R97). -/
  | fq31 (c : Fin 32) (u : Fin 2) (f : Bool) (dst sa : Fin 32)
  /-- QF31 (R97). -/
  | qf31 (c : Fin 32) (u : Fin 2) (f : Bool) (dst sa : Fin 32)
  /-- DIV (R62). -/
  | div (c : Fin 32) (u : Fin 2) (f : Bool) (dst sa sb : Fin 32)
  /-- DIVU (R62). -/
  | divu (c : Fin 32) (u : Fin 2) (f : Bool) (dst sa sb : Fin 32)
  /-- DIVQ (R62). -/
  | divq (c : Fin 32) (u : Fin 2) (f : Bool) (dst sa sb : Fin 32)
  /-- FDIV (R99). -/
  | fdiv (c : Fin 32) (u : Fin 2) (f : Bool) (dst sa sb : Fin 32)
  /-- FSQRT (R99). -/
  | fsqrt (c : Fin 32) (u : Fin 2) (f : Bool) (dst sa : Fin 32)
  /-- SQRTU (R62). -/
  | sqrtu (c : Fin 32) (u : Fin 2) (f : Bool) (dst sa : Fin 32)
  /-- MOVC (R58). -/
  | movc (c : Fin 32) (u : Fin 2) (dir : Fin 4) (d : Fin 32) (cr : Fin 64)
  /-- LDIA (R58). -/
  | ldia (c : Fin 32) (u : Fin 2) (cr : Fin 32) (imm : Syl)
  /-- LDIK (R58). -/
  | ldik (c : Fin 32) (u : Fin 2) (cr : Fin 32) (imm : Syl)
  /-- LDI (R58). -/
  | ldi (c : Fin 32) (u : Fin 2) (dst : Fin 32) (imm : W16)
  /-- CLR (R63). -/
  | clr (c : Fin 32) (u : Fin 2) (k : Fin 8)
  /-- CLRP (R63). -/
  | clrp (c : Fin 32) (u : Fin 2) (k : Fin 8)
  /-- MPY (R63). -/
  | mpy (c : Fin 32) (u : Fin 2) (f : Bool) (k : Fin 8) (da db : Fin 32)
  /-- MAC (R63). -/
  | mac (c : Fin 32) (u : Fin 2) (f : Bool) (k : Fin 8) (da db : Fin 32)
  /-- MSU (R63). -/
  | msu (c : Fin 32) (u : Fin 2) (f : Bool) (k : Fin 8) (da db : Fin 32)
  /-- MAC2 (R63). -/
  | mac2 (c : Fin 32) (u : Fin 2) (f : Bool) (k : Fin 8) (da db : Fin 32)
  /-- MSU2 (R63). -/
  | msu2 (c : Fin 32) (u : Fin 2) (f : Bool) (k : Fin 8) (da db : Fin 32)
  /-- CMPY (R63). -/
  | cmpy (c : Fin 32) (u : Fin 2) (f : Bool) (k : Fin 8) (da db : Fin 32)
  /-- CMAC (R63). -/
  | cmac (c : Fin 32) (u : Fin 2) (f : Bool) (k : Fin 8) (da db : Fin 32)
  /-- CMACJ (R63). -/
  | cmacj (c : Fin 32) (u : Fin 2) (f : Bool) (k : Fin 8) (da db : Fin 32)
  /-- FTAP (R63). -/
  | ftap (c : Fin 32) (u : Fin 2) (f : Bool) (k : Fin 8) (da db : Fin 32)
  /-- MACSU (R63). -/
  | macsu (c : Fin 32) (u : Fin 2) (f : Bool) (k : Fin 8) (da db : Fin 32)
  /-- MACUU (R63). -/
  | macuu (c : Fin 32) (u : Fin 2) (f : Bool) (k : Fin 8) (da db : Fin 32)
  /-- ASH (R86). -/
  | ash (c : Fin 32) (u : Fin 2) (f : Bool) (k : Fin 8) (n : BitVec 6)
  /-- ADDA (R63). -/
  | adda (c : Fin 32) (u : Fin 2) (f : Bool) (k j : Fin 8)
  /-- SUBA (R63). -/
  | suba (c : Fin 32) (u : Fin 2) (f : Bool) (k j : Fin 8)
  /-- LDA (R63). -/
  | lda (c : Fin 32) (u : Fin 2) (k : Fin 8) (da : Fin 32)
  /-- EXT (R86). -/
  | ext (c : Fin 32) (u : Fin 2) (f : Bool) (k : Fin 8) (db : Fin 32)
  /-- EXTL (R86). -/
  | extl (c : Fin 32) (u : Fin 2) (f : Bool) (k : Fin 8) (db : Fin 32)
  /-- EXTD (R86). -/
  | extd (c : Fin 32) (u : Fin 2) (f : Bool) (k : Fin 8) (db : Fin 32)
  /-- EXTG (R86). -/
  | extg (c : Fin 32) (u : Fin 2) (f : Bool) (k : Fin 8) (db : Fin 32)
  /-- LD (R66). -/
  | ld (c : Fin 32) (u : Fin 2) (ag : Fin 8) (mode : AgMode) (r : Fin 32)
  /-- LDD (R66). -/
  | ldd (c : Fin 32) (u : Fin 2) (ag : Fin 8) (mode : AgMode) (r : Fin 32)
  /-- ST (R66). -/
  | st (c : Fin 32) (u : Fin 2) (ag : Fin 8) (mode : AgMode) (r : Fin 32)
  /-- STD (R66). -/
  | std (c : Fin 32) (u : Fin 2) (ag : Fin 8) (mode : AgMode) (r : Fin 32)
  /-- STS (R88). -/
  | sts (c : Fin 32) (u : Fin 2) (f : Bool) (ag : Fin 8) (mode : AgMode) (k : Fin 8)
  /-- STSC (R89). -/
  | stsc (c : Fin 32) (u : Fin 2) (f : Bool) (ag : Fin 8) (mode : AgMode) (k : Fin 8)
  /-- STSD (R89). -/
  | stsd (c : Fin 32) (u : Fin 2) (f : Bool) (ag : Fin 8) (mode : AgMode) (k : Fin 8)
  /-- TLI (R68). -/
  | tli (c : Fin 32) (tb : Fin 4) (k : Fin 8) (sg : Bool) (dx dd : Fin 32)
  /-- TRD (R68). -/
  | trd (c : Fin 32) (tb : Fin 4) (dx dd : Fin 32)
  /-- TRDI (R68). -/
  | trdi (c : Fin 32) (tb : Fin 4) (off : Fin 512) (dd : Fin 32)
  /-- NOP (R69). -/
  | nop (c : Fin 32)
  /-- END (R49). -/
  | endOp (c : Fin 32)
  /-- RET (R43). -/
  | ret (c : Fin 32)
  /-- BR (R70). -/
  | br (c : Fin 32) (cc : Fin 16) (target : Syl)
  /-- CALL (R43). -/
  | call (c : Fin 32) (target : Syl)
  /-- BRD (R69). -/
  | brd (c : Fin 32) (ds : Fin 32)
  /-- LOOPD (R44). -/
  | loopd (c : Fin 32) (ds : Fin 32) (last : Syl)
  /-- LOOPI (R69). -/
  | loopi (c : Fin 32) (count : BitVec 12) (off : BitVec 10)
  /-- SHG_NOP (R229). -/
  | shgNop (k : Fin 65)
  /-- SHG_WAIT (R241). -/
  | shgWait (k : Fin 65)
  /-- SHG_RET (R229). -/
  | shgRet (k : Fin 65)
  /-- SHG_RFE (R248). -/
  | shgRfe (k : Fin 65)
  /-- SHG_SETGM (R229). -/
  | shgSetgm (k : Fin 65)
  /-- SHG_CLRGM (R243). -/
  | shgClrgm (k : Fin 65)
  /-- SHG_RPT (R235). -/
  | shgRpt (k : Fin 65)
  /-- SHG_CPYB (R229). -/
  | shgCpyb (k : Fin 65)
  /-- SHG_FILB (R229). -/
  | shgFilb (k : Fin 65)
  /-- SHG_CMPB (R235). -/
  | shgCmpb (k : Fin 65)
  /-- SHG_PRDB (R229). -/
  | shgPrdb (k : Fin 65)
  /-- SHG_PWRB (R229). -/
  | shgPwrb (k : Fin 65)
  /-- SHG_JPZ (R229). -/
  | shgJpz (k : Fin 65)
  /-- SHG_CALLPZ (R229). -/
  | shgCallpz (k : Fin 65)
  /-- SHG_WAITD (R240). -/
  | shgWaitd (k : Fin 65)
  /-- WAITD_EXPIRY (R240). -/
  | waitdExpiry (k : Fin 65)
  /-- SHG_KCALL (R252). -/
  | shgKcall (k : Fin 65) (n : Fin 16)
  /-- SHG_PUSH (R229). -/
  | shgPush (k : Fin 65) (r : Fin 8)
  /-- SHG_POP (R229). -/
  | shgPop (k : Fin 65) (r : Fin 8)
  /-- SHG_IN (R225). -/
  | shgIn (k : Fin 65) (r : Fin 8) (port : Byte)
  /-- SHG_OUT (R225). -/
  | shgOut (k : Fin 65) (r : Fin 8) (port : Byte)
  /-- SHG_IN_PZ (R229). -/
  | shgInPz (k : Fin 65) (r : Fin 8)
  /-- SHG_OUT_PZ (R229). -/
  | shgOutPz (k : Fin 65) (r : Fin 8)
  /-- SHG_MOVP (R228). -/
  | shgMovp (k : Fin 65) (p : Fin 8) (n : Fin 4)
  /-- SHG_MOVV (R228). -/
  | shgMovv (k : Fin 65) (p : Fin 8) (n : Fin 4)
  /-- SHG_LDP (R239). -/
  | shgLdp (k : Fin 65) (r : Fin 8)
  /-- SHG_STP (R239). -/
  | shgStp (k : Fin 65) (r : Fin 8)
  /-- SHG_INCP (R229). -/
  | shgIncp (k : Fin 65) (p : Fin 8)
  /-- SHG_DECP (R229). -/
  | shgDecp (k : Fin 65) (p : Fin 8)
  /-- SHG_PUSHP (R229). -/
  | shgPushp (k : Fin 65) (p : Fin 8)
  /-- SHG_POPP (R229). -/
  | shgPopp (k : Fin 65) (p : Fin 8)
  /-- SHG_LDIP (R229). -/
  | shgLdip (k : Fin 65) (q : Fin 4) (a : W16)
  /-- SHG_ADD (R230). -/
  | shgAdd (k : Fin 65) (d r : Fin 8)
  /-- SHG_ADC (R230). -/
  | shgAdc (k : Fin 65) (d r : Fin 8)
  /-- SHG_SUB (R230). -/
  | shgSub (k : Fin 65) (d r : Fin 8)
  /-- SHG_SBC (R230). -/
  | shgSbc (k : Fin 65) (d r : Fin 8)
  /-- SHG_AND (R230). -/
  | shgAnd (k : Fin 65) (d r : Fin 8)
  /-- SHG_OR (R230). -/
  | shgOr (k : Fin 65) (d r : Fin 8)
  /-- SHG_XOR (R230). -/
  | shgXor (k : Fin 65) (d r : Fin 8)
  /-- SHG_CMP (R230). -/
  | shgCmp (k : Fin 65) (d r : Fin 8)
  /-- SHG_ADDI (R230). -/
  | shgAddi (k : Fin 65) (d : Fin 8) (imm : Byte)
  /-- SHG_ADCI (R230). -/
  | shgAdci (k : Fin 65) (d : Fin 8) (imm : Byte)
  /-- SHG_SUBI (R230). -/
  | shgSubi (k : Fin 65) (d : Fin 8) (imm : Byte)
  /-- SHG_MOVI (R229). -/
  | shgMovi (k : Fin 65) (d : Fin 8) (imm : Byte)
  /-- SHG_ANDI (R230). -/
  | shgAndi (k : Fin 65) (d : Fin 8) (imm : Byte)
  /-- SHG_ORI (R230). -/
  | shgOri (k : Fin 65) (d : Fin 8) (imm : Byte)
  /-- SHG_XORI (R230). -/
  | shgXori (k : Fin 65) (d : Fin 8) (imm : Byte)
  /-- SHG_CMPI (R230). -/
  | shgCmpi (k : Fin 65) (d : Fin 8) (imm : Byte)
  /-- SHG_MOV (R229). -/
  | shgMov (k : Fin 65) (d r : Fin 8)
  /-- SHG_MUL (R234). -/
  | shgMul (k : Fin 65) (d r : Fin 8)
  /-- SHG_INC (R230). -/
  | shgInc (k : Fin 65) (r : Fin 8)
  /-- SHG_DEC (R230). -/
  | shgDec (k : Fin 65) (r : Fin 8)
  /-- SHG_NOT (R230). -/
  | shgNot (k : Fin 65) (r : Fin 8)
  /-- SHG_NEG (R230). -/
  | shgNeg (k : Fin 65) (r : Fin 8)
  /-- SHG_TST (R230). -/
  | shgTst (k : Fin 65) (r : Fin 8)
  /-- SHG_SWAP (R230). -/
  | shgSwap (k : Fin 65) (r : Fin 8)
  /-- SHG_CLR (R230). -/
  | shgClr (k : Fin 65) (r : Fin 8)
  /-- SHG_SHL (R230). -/
  | shgShl (k : Fin 65) (r : Fin 8)
  /-- SHG_SHR (R230). -/
  | shgShr (k : Fin 65) (r : Fin 8)
  /-- SHG_ASR (R230). -/
  | shgAsr (k : Fin 65) (r : Fin 8)
  /-- SHG_ROL (R230). -/
  | shgRol (k : Fin 65) (r : Fin 8)
  /-- SHG_ROR (R230). -/
  | shgRor (k : Fin 65) (r : Fin 8)
  /-- SHG_RCL (R230). -/
  | shgRcl (k : Fin 65) (r : Fin 8)
  /-- SHG_RCR (R230). -/
  | shgRcr (k : Fin 65) (r : Fin 8)
  /-- SHG_LD (R238). -/
  | shgLd (k : Fin 65) (p m : Fin 4) (r : Fin 8)
  /-- SHG_ST (R238). -/
  | shgSt (k : Fin 65) (p m : Fin 4) (r : Fin 8)
  /-- SHG_LDA (R229). -/
  | shgLda (k : Fin 65) (r : Fin 8) (a : W16)
  /-- SHG_STA (R229). -/
  | shgSta (k : Fin 65) (r : Fin 8) (a : W16)
  /-- SHG_JCC (R231). -/
  | shgJcc (k : Fin 65) (cc : Fin 15) (a : W16)
  /-- SHG_CALL (R229). -/
  | shgCall (k : Fin 65) (a : W16)
  /-- SHG_BR (R231). -/
  | shgBr (k : Fin 65) (cc : Fin 15) (off : BitVec 7)
  /-- SHG_RCALL (R229). -/
  | shgRcall (k : Fin 65) (off : BitVec 7)
  /-- EXCEPTION_ENTRY (R242). -/
  | exceptionEntry (k : Fin 65)
  /-- WATCHDOG (R247). -/
  | watchdog (k : Fin 65)
  /-- WDT_KICK (R247). -/
  | wdtKick (k : Fin 65)
  /-- CLAIM (R288). -/
  | claim (k : Fin 65)
  /-- EOI (R290). -/
  | eoi (k : Fin 65) (hi : Byte)
  /-- KC_HEAD (R252). -/
  | kcHead
  /-- KC_RETURN (R252). -/
  | kcReturn (target status : Byte)
  /-- SA_DATA (R256). -/
  | saData (wr : Bool) (r : Fin 8)
  /-- VERSION (R253). -/
  | svcVersion (k : Fin 64) (denied : Bool)
  /-- WALLCLOCK (R253). -/
  | svcWallclock (k : Fin 64) (denied : Bool)
  /-- LOG (R260). -/
  | svcLog (k : Fin 64) (denied : Bool)
  /-- MAILBOX (R253). -/
  | svcMailbox (k : Fin 64) (denied : Bool)
  /-- RAISE (R253). -/
  | svcRaise (k : Fin 64) (denied : Bool)
  /-- HOST_NOTE (R253). -/
  | svcHostNote (k : Fin 64) (denied : Bool)
  /-- MAILBOX_WRITE (R224). -/
  | mailboxWrite (k : Fin 64) (v : Byte)
  /-- SHG_RUN (R251). -/
  | shgRun (k : Fin 64) (run : Bool)
  /-- SOURCE_EDGE (R285). -/
  | sourceEdge (i : Fin 512)
  /-- PEND (R286). -/
  | pend (i : Fin 512)
  /-- PEND_CLR (R286). -/
  | pendClr (i : Fin 512)
  /-- SRC_CFG (R291). -/
  | srcCfg (i : Fin 512) (v : W32)
  /-- HOST_TARGET_CLAIM (R289). -/
  | hostTargetClaim (v : Fin 64)
  /-- HOST_EOI (R290). -/
  | hostEoi (v : Fin 64) (i : Fin 512)
  /-- START (R295). -/
  | dmaStart (n : Fin 16) (m : Byte)
  /-- ABORT (R295). -/
  | dmaAbort (n : Fin 16) (moved : Nat)
  /-- DMA_DONE (R295). -/
  | dmaDone (n : Fin 16)
  /-- DMA_STOP (R297). -/
  | dmaStop (n : Fin 16)
  /-- FETCH_ADD (R303). -/
  | fetchAdd (m : Byte) (off len : Nat)
  /-- COMPARE_SWAP (R303). -/
  | compareSwap (m : Byte) (off len : Nat)
  /-- BAR4_ACCESS (R266). -/
  | bar4Access (off len : Nat) (data : Option (List Byte))
  /-- REGISTER_WRITE (R3). -/
  | registerWrite (off : Nat) (v : W32) (be : BitVec 4)
  /-- SPARE_MASK (R111). -/
  | spareMask (v : W32)
  /-- FENCE_STATUS (R147). -/
  | fenceStatus (v : W32)
  /-- ADM_CTL (R111). -/
  | admCtl (v : W32)
  /-- SQ_TAIL (R269). -/
  | sqTail (q : Fin 64) (v : W32)
  /-- CHAIN_RESUME (R274). -/
  | chainResume (q : Fin 64)
  /-- CQ_HEAD (R269). -/
  | cqHead (q : Fin 64) (v : W32)
  /-- EVQ_HEAD (R269). -/
  | evqHead (v : W32)
  /-- QUEUE_CTL (R272). -/
  | queueCtl (q : Fin 64) (v : W32)
  /-- SQ_BASE_LO (R268). -/
  | sqBaseLo (q : Fin 64) (v : W32)
  /-- CQ_CFG (R268). -/
  | cqCfg (q : Option (Fin 64)) (v : W32)
  /-- DESCRIPTOR_READ (R271). -/
  | descriptorRead
  /-- READ_COMPLETION (R265). -/
  | readCompletion (q : Fin 64) (data : List Byte) (ok : Bool)
  /-- COMPLETION_TIMEOUT (R265). -/
  | completionTimeout (q : Fin 64)
  /-- MODERATION_TIMER (R282). -/
  | moderationTimer (q : Fin 64)
  /-- MSIX_UNMASK (R283). -/
  | msixUnmask (enable fmask : Bool) (v : Option (Fin 64))
  /-- D_STATE_CHANGE (R264). -/
  | dStateChange (d3hot pmeEn clearPme : Bool)
  /-- BUS_MASTER_ENABLE (R264). -/
  | busMasterEnable (bme : Bool)
  /-- LINK_CHANGE (R264). -/
  | linkChange (up : Bool) (speed width : Fin 4)
  /-- CMD_NOP (R276). -/
  | cmdNop (q : Fin 64)
  /-- TASKLET_DEFINE (R107). -/
  | taskletDefine (q : Fin 64) (hostOk : Bool)
  /-- TASKLET_REBIND (R117). -/
  | taskletRebind (q : Fin 64) (hostOk : Bool)
  /-- TASKLET_REMOVE (R134). -/
  | taskletRemove (q : Fin 64)
  /-- TASKLET_READ (R100). -/
  | taskletRead (q : Fin 64)
  /-- PAGE_PIN (R276). -/
  | pagePin (q : Fin 64) (hostOk : Bool)
  /-- SCHED_START (R350). -/
  | schedStart (q : Fin 64)
  /-- SCHED_STOP (R276). -/
  | schedStop (q : Fin 64)
  /-- SLOT_LOAD (R8). -/
  | slotLoad (q : Fin 64)
  /-- FIELD_LINE_SET (R195). -/
  | fieldLineSet (q : Fin 64)
  /-- FIELD_PARTNER_SET (R195). -/
  | fieldPartnerSet (q : Fin 64)
  /-- PARTNER_READ (R276). -/
  | partnerRead (q : Fin 64)
  /-- FIELD_MSG_POST (R201). -/
  | fieldMsgPost (q : Fin 64)
  /-- MSG_FREE (R276). -/
  | msgFree (q : Fin 64)
  /-- CAL_SLOT_SET (R174). -/
  | calSlotSet (q : Fin 64)
  /-- CAL_SLOT_READ (R276). -/
  | calSlotRead (q : Fin 64)
  /-- CAL_ADOPT (R183). -/
  | calAdopt (q : Fin 64)
  /-- CAL_DISCARD (R276). -/
  | calDiscard (q : Fin 64)
  /-- SHINGLE_LOAD (R257). -/
  | shingleLoad (q : Fin 64)
  /-- REGION_SET (R226). -/
  | regionSet (q : Fin 64)
  /-- LOG_READ (R260). -/
  | logRead (q : Fin 64)
  /-- CLOCK_SET (R111). -/
  | clockSet (q : Fin 64)
  /-- CLOCK_CHANGE (R313). -/
  | clockChange (c : Fin 32)
  /-- POWER_SET (R309). -/
  | powerSet (q : Fin 64)
  /-- TIME_SET_DT (R320). -/
  | timeSetDt (q : Fin 64)
  /-- TIME_SET_STEP (R320). -/
  | timeSetStep (q : Fin 64)
  /-- TIME_SET_RATE (R320). -/
  | timeSetRate (q : Fin 64)
  /-- STATS_READ (R277). -/
  | statsRead (q : Fin 64)
  /-- REG_WRITE (R276). -/
  | regWrite (q : Fin 64)
  /-- STORE_WRITE (R276). -/
  | storeWrite (q : Fin 64)
  /-- STORE_READ (R276). -/
  | storeRead (q : Fin 64)
  /-- OPEN (R180). -/
  | genOpen
  /-- ABANDON (R188). -/
  | genAbandon
  /-- REQ (R180). -/
  | genReq
  /-- GO (R180). -/
  | genGo
  /-- GEN_VERIFICATION_DONE (R181). -/
  | genVerificationDone
  /-- FUNCTION_LEVEL_RESET (R324). -/
  | functionLevelReset
  /-- PERST_N (R323). -/
  | perstN
  /-- PORST_N (R323). -/
  | porstN (mode : BitVec 2)
  /-- BOOT_GO (R329). -/
  | bootGo
  /-- KERNEL_LOADED (R329). -/
  | kernelLoaded (flash : List Byte)
  /-- SOFT_RST_RIDGE (R325). -/
  | softRstRidge
  /-- SOFT_RST_SHINGLE (R323). -/
  | softRstShingle (g : Fin 4)
  /-- SOFT_RST_FIELD (R323). -/
  | softRstField (g : Fin 2)
  /-- POWER_RAMP_DONE (R308). -/
  | powerRampDone (d : Fin 50)
  /-- MEM_CLEAR_DONE (R158). -/
  | memClearDone (d : Fin 50)
  /-- DRAIN_DONE (R309). -/
  | drainDone (d : Fin 50)
  /-- THERM_SAMPLE (R314). -/
  | thermSample (t : BitVec 12)
  /-- THERMTRIP (R315). -/
  | thermtrip
  /-- CAL_TICK (R316). -/
  | calTick
  /-- CAL_SEC_HI (R317). -/
  | calSecHi (v : W32)
  /-- CAL_SEC_LO (R317). -/
  | calSecLo
  /-- BACKUP_LOSS (R318). -/
  | backupLoss
  /-- DT_LO (R319). -/
  | dtLo
  /-- PPS_IN (R321). -/
  | ppsIn
  /-- PPS_LOST (R321). -/
  | ppsLost
  /-- PPS_OUT (R322). -/
  | ppsOut (high : Bool)
  /-- SYSCLK_LOSS (R338). -/
  | sysclkLoss
  /-- SYSCLK_RETURN (R338). -/
  | sysclkReturn
  /-- VDD_AON_LOSS (R315). -/
  | vddAonLoss
  /-- MRD_CTL (R188). -/
  | mrdCtl (v : W32)
  /-- UNSUPPORTED_REQUEST (R266). -/
  | unsupportedRequest (r : BadRequest)
  /-- PEER_DELAY_GENERATION (R213). -/
  | peerDelayGeneration (l : Fin 16) (answer : DelayAnswer)
  /-- MOD_PRESENT (R219). -/
  | modPresent (l : Fin 16) (level : Bool)
  /-- JTAG_INSTRUCTION (R348). -/
  | jtagInstruction (code : Byte)
deriving DecidableEq, Repr

end Sys2Proof
end

