-- ==== Sys2Proof/Decode.lean ====
section
/-!
DEFINITION. Decode.lean: the command that a word spells by the bits of spec/opcode_table.json.  The table gives no row any
bits (every row is unread: the commands of this block are register writes, protocol operations and events), so no word
spells a command.  The encoding of Melcia bundles (R53 to R73), which the device itself decodes when a cluster traps, is
in Machine/Bundle.lean.
-/
namespace Sys2Proof

/-- The command a word spells: none, since no row of the table has bits. -/
def decodeTableWord (_nbits _w : Nat) : Option Instr := none

end Sys2Proof
end

