-- ==== Sys2Proof/Machine/Bits.lean ====
section
/-!
DEFINITION. Machine/Bits.lean: bit fields, sign extension, little-endian bytes (00 "Notation", R82).
-/
namespace Sys2Proof.Machine

/-- Bits [hi:lo] of a word, as a number (00, Bit fields). -/
def fld {w : Nat} (x : BitVec w) (hi lo : Nat) : Nat := (x.toNat / 2 ^ lo) % 2 ^ (hi + 1 - lo)

/-- Bit n of a word (00, Bit fields). -/
def bit {w : Nat} (x : BitVec w) (n : Nat) : Bool := x.getLsbD n

/-- Bits [hi:lo] of a number. -/
def nfld (x hi lo : Nat) : Nat := (x / 2 ^ lo) % 2 ^ (hi + 1 - lo)

/-- Bit n of a number. -/
def nbit (x n : Nat) : Bool := Nat.testBit x n

/-- A word with bits [hi:lo] replaced. -/
def setFld {w : Nat} (x : BitVec w) (hi lo v : Nat) : BitVec w :=
  let m : BitVec w := BitVec.ofNat w ((2 ^ (hi + 1 - lo) - 1) * 2 ^ lo)
  (x &&& ~~~m) ||| (BitVec.ofNat w ((v % 2 ^ (hi + 1 - lo)) * 2 ^ lo))

/-- A word with bit n replaced. -/
def setBit {w : Nat} (x : BitVec w) (n : Nat) (b : Bool) : BitVec w := setFld x n n b.toNat

/-- 1 for true, 0 for false. -/
def b2n (b : Bool) : Nat := if b then 1 else 0

/-- The signed value of the low w bits of a number. -/
def snat (w x : Nat) : Int := (BitVec.ofNat w x).toInt

/-- Little-endian value of a list of bytes. -/
def leNat : List Byte → Nat
  | [] => 0
  | b :: bs => b.toNat + 256 * leNat bs

/-- The `n` little-endian bytes of a number. -/
def leBytes : Nat → Nat → List Byte
  | 0, _ => []
  | n + 1, x => BitVec.ofNat 8 x :: leBytes n (x / 256)

/-- Little-endian value of bytes [off, off + n) of a list (absent bytes read 0). -/
def leAt (bs : List Byte) (off n : Nat) : Nat := leNat ((bs.drop off).take n)

/-- Reverse the order of the low w bits (R34 `rev`). -/
def revBits : Nat → Nat → Nat
  | 0, _ => 0
  | w + 1, x => (x % 2) * 2 ^ w + revBits w (x / 2)

/-- Index of the highest set bit, 0 for 0 (R34 `msb_index`). -/
def msbIndex (x : Nat) : Nat := Nat.log2 x

/-- Clamp an integer to a range. -/
def clampInt (lo hi x : Int) : Int := if x < lo then lo else if hi < x then hi else x

/-- Round a rational n / d (d > 0) up. -/
def ceilDiv (n d : Nat) : Nat := (n + d - 1) / d

/-- Integer square root by bits, from bit `k` down: the largest r with r * r ≤ n among r built on `acc`. -/
def isqrtGo (n : Nat) : Nat → Nat → Nat
  | 0, acc => acc
  | k + 1, acc => let r := acc + 2 ^ k; if r * r ≤ n then isqrtGo n k r else isqrtGo n k acc

/-- The integer square root. -/
def isqrt (n : Nat) : Nat := isqrtGo n (n.log2 / 2 + 1) 0

/-- Sum of a list of numbers. -/
def sumNat (l : List Nat) : Nat := l.foldl (· + ·) 0

/-- The smallest element of a list, or the default. -/
def minNat (dflt : Nat) (l : List Nat) : Nat := l.foldl Nat.min dflt

/-- The list with one more element, when it is not there yet. -/
def addNew (l : List Nat) (x : Nat) : List Nat := if l.contains x then l else l ++ [x]

/-! ### Numbers that a command carries -/

/-- A source that has a hardware edge: the others are never raised, or only through PEND and RAISE (R163, R286, R305, R330). -/
def edgeSource (i : Nat) : Bool :=
  !([(360, 383), (388, 399), (410, 415), (443, 446), (455, 463), (467, 479), (486, 487), (493, 511)].any
    (fun r => decide (r.1 ≤ i) && decide (i ≤ r.2)))

/-- A master ID that is issued (R300). -/
def masterId (m : Nat) : Bool := decide (m ≤ 8) || (decide (0x40 ≤ m) && decide (m < 0x80))

/-- Pad a list of bytes with zeros to a length, or cut it. -/
def padTo (n : Nat) (bs : List Byte) : List Byte := (bs ++ List.replicate (n - bs.length) 0).take n

end Sys2Proof.Machine
end

