-- ==== Sys2Proof/Machine/Regs.lean ====
section
/-!
DEFINITION. Machine/Regs.lean: the registers of BAR0, by name, with their offsets, the fields that software writes and
their reset values, as the register tables of 03 and 05 to 13 give them.
-/
namespace Sys2Proof.Machine

/-- The registers of BAR0. -/
inductive Reg where
  /-- ID_REV (R347). -/
  | idRev
  /-- BOOT_STATUS (R331). -/
  | bootStatus
  /-- BOOT_CTL (R331). -/
  | bootCtl
  /-- QE_STATUS (R268). -/
  | qeStatus
  /-- PCIE_CTO (R268). -/
  | pcieCto
  /-- QE_COUNT[n] (R268). -/
  | qeCount (n : Nat)
  /-- QUEUE_CTL (R268). -/
  | queueCtl (n : Nat)
  /-- SQ_BASE_LO — BAR0 + 0x0_1044 + 0x10 × q; CQ_BASE_LO — BAR0 + 0x0_1440 + 0x20 × q; EVQ_BASE_LO — BAR0 + 0x0_1C40 (R268). -/
  | sqBaseLo (n : Nat)
  /-- SQ_BASE_LO — BAR0 + 0x0_1044 + 0x10 × q; CQ_BASE_LO — BAR0 + 0x0_1440 + 0x20 × q; EVQ_BASE_LO — BAR0 + 0x0_1C40 (R268). -/
  | cqBaseLo (n : Nat)
  /-- SQ_BASE_LO — BAR0 + 0x0_1044 + 0x10 × q; CQ_BASE_LO — BAR0 + 0x0_1440 + 0x20 × q; EVQ_BASE_LO — BAR0 + 0x0_1C40 (R268). -/
  | evqBaseLo
  /-- SQ_BASE_HI — BAR0 + 0x0_1048 + 0x10 × q; CQ_BASE_HI — BAR0 + 0x0_1444 + 0x20 × q; EVQ_BASE_HI — BAR0 + 0x0_1C44 (R268). -/
  | sqBaseHi (n : Nat)
  /-- SQ_BASE_HI — BAR0 + 0x0_1048 + 0x10 × q; CQ_BASE_HI — BAR0 + 0x0_1444 + 0x20 × q; EVQ_BASE_HI — BAR0 + 0x0_1C44 (R268). -/
  | cqBaseHi (n : Nat)
  /-- SQ_BASE_HI — BAR0 + 0x0_1048 + 0x10 × q; CQ_BASE_HI — BAR0 + 0x0_1444 + 0x20 × q; EVQ_BASE_HI — BAR0 + 0x0_1C44 (R268). -/
  | evqBaseHi
  /-- QUEUE_STATUS (R268). -/
  | queueStatus (n : Nat)
  /-- CQ_CFG — BAR0 + 0x0_1448 + 0x20 × q; EVQ_CFG — BAR0 + 0x0_1C48 (R268). -/
  | cqCfg (n : Nat)
  /-- CQ_CFG — BAR0 + 0x0_1448 + 0x20 × q; EVQ_CFG — BAR0 + 0x0_1C48 (R268). -/
  | evqCfg
  /-- CQ_MOD (R268). -/
  | cqMod (n : Nat)
  /-- CQ_STATUS — BAR0 + 0x0_1450 + 0x20 × q; EVQ_STATUS — BAR0 + 0x0_1C50 (R268). -/
  | cqStatus (n : Nat)
  /-- CQ_STATUS — BAR0 + 0x0_1450 + 0x20 × q; EVQ_STATUS — BAR0 + 0x0_1C50 (R268). -/
  | evqStatus
  /-- HOST_CLAIM[v] (R294). -/
  | hostClaim (n : Nat)
  /-- HOST_EOI[v] (R294). -/
  | hostEoi (n : Nat)
  /-- EVC_COUNT[n] (R294). -/
  | evcCount (n : Nat)
  /-- TARGET_STATE[t] (R294). -/
  | targetState (n : Nat)
  /-- SRC_CFG[s] word 0 (R294). -/
  | srcCfg (n : Nat)
  /-- SRC_COUNT[s] (R294). -/
  | srcCount (n : Nat)
  /-- PEND[i] — BAR0 + 0x0_5000 + 4 × i; PEND_CLR[i] — BAR0 + 0x0_5040 + 4 × i; ACTIVE[i] — BAR0 + 0x0_5080 + 4 × i; i = 0 to 15 (R294). -/
  | pendSet (n : Nat)
  /-- PEND[i] — BAR0 + 0x0_5000 + 4 × i; PEND_CLR[i] — BAR0 + 0x0_5040 + 4 × i; ACTIVE[i] — BAR0 + 0x0_5080 + 4 × i; i = 0 to 15 (R294). -/
  | pendClr (n : Nat)
  /-- PEND[i] — BAR0 + 0x0_5000 + 4 × i; PEND_CLR[i] — BAR0 + 0x0_5040 + 4 × i; ACTIVE[i] — BAR0 + 0x0_5080 + 4 × i; i = 0 to 15 (R294). -/
  | active (n : Nat)
  /-- PWR_STATE[d] (R331). -/
  | pwrState (n : Nat)
  /-- SOFT_RST (R331). -/
  | softRst
  /-- THERM_STATUS (R331). -/
  | thermStatus
  /-- THERM_CTL (R331). -/
  | thermCtl
  /-- DT_LO — BAR0 + 0x0_7000; DT_HI — BAR0 + 0x0_7004 (R331). -/
  | dtLo
  /-- DT_LO — BAR0 + 0x0_7000; DT_HI — BAR0 + 0x0_7004 (R331). -/
  | dtHi
  /-- DT_RATE (R331). -/
  | dtRate
  /-- DT_CTL (R331). -/
  | dtCtl
  /-- PPS_STATUS (R331). -/
  | ppsStatus
  /-- CAL_SEC_LO — BAR0 + 0x0_7020; CAL_SEC_HI — BAR0 + 0x0_7024 (R331). -/
  | calSecLo
  /-- CAL_SEC_LO — BAR0 + 0x0_7020; CAL_SEC_HI — BAR0 + 0x0_7024 (R331). -/
  | calSecHi
  /-- CAL_SUB (R331). -/
  | calSub
  /-- CAL_DATE (R331). -/
  | calDate
  /-- CAL_TIME (R331). -/
  | calTime
  /-- CAL_TRIM (R331). -/
  | calTrim
  /-- CAL_ALARM_LO — BAR0 + 0x0_7038; CAL_ALARM_HI — BAR0 + 0x0_703C (R331). -/
  | calAlarmLo
  /-- CAL_ALARM_LO — BAR0 + 0x0_7038; CAL_ALARM_HI — BAR0 + 0x0_703C (R331). -/
  | calAlarmHi
  /-- CAL_STATUS (R331). -/
  | calStatus
  /-- CAL_SCRATCH[i] (R331). -/
  | calScratch (n : Nat)
  /-- REPLAY_CTL (R164). -/
  | replayCtl
  /-- REPLAY_STATUS (R164). -/
  | replayStatus
  /-- FAULT_STATUS (R164). -/
  | faultStatus
  /-- FENCE_STATUS (R164). -/
  | fenceStatus
  /-- REPLAY_COUNT[n] (R164). -/
  | replayCount (n : Nat)
  /-- RECOVERY_POLICY[rc] (R164). -/
  | recoveryPolicy (n : Nat)
  /-- CLUSTER_FAULTS[c] (R164). -/
  | clusterFaults (n : Nat)
  /-- FAULT_INFO0 (R164). -/
  | faultInfo0
  /-- FAULT_INFO1 (R164). -/
  | faultInfo1
  /-- SIG_EVEN (R164). -/
  | sigReg (n : Nat)
  /-- STORE_ERR_ADDR (R164). -/
  | storeErrAddr
  /-- MEM_CLEAR_CL (R164). -/
  | memClearCl
  /-- MEM_CLEAR_OTHER (R164). -/
  | memClearOther
  /-- SCRUB_CTL (R164). -/
  | scrubCtl (n : Nat)
  /-- SCRUB_LAST — offset 0x04, and SCRUB_MAX — offset 0x08 (R164). -/
  | scrubLast (n : Nat)
  /-- SCRUB_LAST — offset 0x04, and SCRUB_MAX — offset 0x08 (R164). -/
  | scrubMax (n : Nat)
  /-- SCRUB_FOUND — offset 0x0C, ACCESS_FOUND — offset 0x10, CORRECTED — offset 0x14 (R164). -/
  | scrubFound (n : Nat)
  /-- SCRUB_FOUND — offset 0x0C, ACCESS_FOUND — offset 0x10, CORRECTED — offset 0x14 (R164). -/
  | accessFound (n : Nat)
  /-- SCRUB_FOUND — offset 0x0C, ACCESS_FOUND — offset 0x10, CORRECTED — offset 0x14 (R164). -/
  | corrected (n : Nat)
  /-- SHG_NX[s] — BAR0 + 0x0_8400 + 8 × s; SHG_PW[s] — BAR0 + 0x0_8404 + 8 × s; s = 0 to 63 (R262). -/
  | shgNx (n : Nat)
  /-- SHG_NX[s] — BAR0 + 0x0_8400 + 8 × s; SHG_PW[s] — BAR0 + 0x0_8404 + 8 × s; s = 0 to 63 (R262). -/
  | shgPw (n : Nat)
  /-- SHG_RUN (R262). -/
  | shgRun (n : Nat)
  /-- LOCKUP_SRC (R262). -/
  | lockupSrc (n : Nat)
  /-- SHG_WDOG (R262). -/
  | shgWdog
  /-- SHG_WDOG_EN (R262). -/
  | shgWdogEn (n : Nat)
  /-- RIDGE_CTL (R262). -/
  | ridgeCtl
  /-- SHG_REGION[s][r] word 0 (R262). -/
  | shgRegion0 (n : Nat)
  /-- SHG_REGION[s][r] word 1 (R262). -/
  | shgRegion1 (n : Nat)
  /-- FLD_CTL (R219). -/
  | fldCtl (n : Nat)
  /-- FLD_STATUS (R219). -/
  | fldStatus (n : Nat)
  /-- FLD_TXEQ (R219). -/
  | fldTxeq (n : Nat)
  /-- FLD_RXEQ (R219). -/
  | fldRxeq (n : Nat)
  /-- FLD_MAC_LO — offset 0x10, FLD_MAC_HI — offset 0x14 (R219). -/
  | fldMacLo (n : Nat)
  /-- FLD_MAC_LO — offset 0x10, FLD_MAC_HI — offset 0x14 (R219). -/
  | fldMacHi (n : Nat)
  /-- RING_STATUS (R219). -/
  | ringStatus (n : Nat)
  /-- RING_DELAY (R219). -/
  | ringDelay (n : Nat)
  /-- MISS_LAST (R219). -/
  | missLast (n : Nat)
  /-- FLD_COUNT[n] (R219). -/
  | fldCount (l n : Nat)
  /-- DSP_STATUS (R136). -/
  | dspStatus
  /-- ADM_CTL (R136). -/
  | admCtl
  /-- SPARE_MASK (R136). -/
  | spareMask
  /-- DSP_COUNT[n] (R136). -/
  | dspCount (n : Nat)
  /-- CLUSTER_LOAD[c] (R136). -/
  | clusterLoad (n : Nat)
  /-- PIN_COUNT[c] (R136). -/
  | pinCount (n : Nat)
  /-- PAGER_COUNT[n] (R136). -/
  | pagerCount (n : Nat)
  /-- ALLOC_BASE (R136). -/
  | allocBase (n : Nat)
  /-- ALLOC_COUNT (R136). -/
  | allocCount (n : Nat)
  /-- ALLOC_LOW (R136). -/
  | allocLow (n : Nat)
  /-- ALLOC_CTL (R136). -/
  | allocCtl (n : Nat)
  /-- ALLOC_FREE (R136). -/
  | allocFree (n : Nat)
  /-- ALLOC_RESV (R136). -/
  | allocResv (n : Nat)
  /-- ALLOC_MISS (R136). -/
  | allocMiss (n : Nat)
  /-- EMU_CTL (R73). -/
  | emuCtl
  /-- EMU_COUNT (R73). -/
  | emuCount
  /-- TRAP_FAULTS (R73). -/
  | trapFaults
  /-- MRD_CTL (R188). -/
  | mrdCtl
  /-- MRD_RING_BASE (R188). -/
  | mrdRingBase
  /-- MRD_RING_SIZE (R188). -/
  | mrdRingSize
  /-- MRD_RING_HEAD (R188). -/
  | mrdRingHead
  /-- MRD_RING_TAIL (R188). -/
  | mrdRingTail
  /-- ADOPT_LIMIT (R188). -/
  | adoptLimit
  /-- GEN_CURRENT (R188). -/
  | genCurrent
  /-- GEN_BUILD (R188). -/
  | genBuild
  /-- GEN_BUF (R188). -/
  | genBuf
  /-- GEN_SUBMIT (R188). -/
  | genSubmit
  /-- GEN_DIR (R188). -/
  | genDir
  /-- GEN_STATUS (R188). -/
  | genStatus
  /-- GEN_DIFF (R188). -/
  | genDiff
  /-- MRD_COUNT[n] (R188). -/
  | mrdCount (n : Nat)
  /-- GEN_SLOT[i] (R188). -/
  | genSlot (n : Nat)
  /-- DMA_SRC_LO — BAR0 + 0x0_C000 + 0x20 × n; DMA_DST_LO — BAR0 + 0x0_C008 + 0x20 × n; n = 0 to 15 (R298). -/
  | dmaSrcLo (n : Nat)
  /-- DMA_SRC_LO — BAR0 + 0x0_C000 + 0x20 × n; DMA_DST_LO — BAR0 + 0x0_C008 + 0x20 × n; n = 0 to 15 (R298). -/
  | dmaDstLo (n : Nat)
  /-- DMA_SRC_HI — BAR0 + 0x0_C004 + 0x20 × n; DMA_DST_HI — BAR0 + 0x0_C00C + 0x20 × n (R298). -/
  | dmaSrcHi (n : Nat)
  /-- DMA_SRC_HI — BAR0 + 0x0_C004 + 0x20 × n; DMA_DST_HI — BAR0 + 0x0_C00C + 0x20 × n (R298). -/
  | dmaDstHi (n : Nat)
  /-- DMA_COUNT (R298). -/
  | dmaCount (n : Nat)
  /-- DMA_CTL (R298). -/
  | dmaCtl (n : Nat)
  /-- DMA_CMD (R298). -/
  | dmaCmd (n : Nat)
  /-- DMA_STATUS (R298). -/
  | dmaStatus (n : Nat)
  /-- DMA_ERR_ADDR_LO — BAR0 + 0x0_C200; DMA_ERR_ADDR_HI — BAR0 + 0x0_C204 (R298). -/
  | dmaErrAddrLo
  /-- DMA_ERR_ADDR_LO — BAR0 + 0x0_C200; DMA_ERR_ADDR_HI — BAR0 + 0x0_C204 (R298). -/
  | dmaErrAddrHi
  /-- DMA_ERR_INFO (R298). -/
  | dmaErrInfo
  /-- MTX_PARK[p] (R304). -/
  | mtxPark (n : Nat)
  /-- MTX_ERR_ADDR_LO — BAR0 + 0x0_D040; MTX_ERR_ADDR_HI — BAR0 + 0x0_D044 (R304). -/
  | mtxErrAddrLo
  /-- MTX_ERR_ADDR_LO — BAR0 + 0x0_D040; MTX_ERR_ADDR_HI — BAR0 + 0x0_D044 (R304). -/
  | mtxErrAddrHi
  /-- MTX_ERR_INFO (R304). -/
  | mtxErrInfo
  /-- MTX_COUNT[n] (R304). -/
  | mtxCount (n : Nat)
  /-- XLAT_LO[i] (R304). -/
  | xlatLo (n : Nat)
  /-- XLAT_HI[i] (R304). -/
  | xlatHi (n : Nat)
  /-- Word n of the MSI-X table (R263). -/
  | msixTab (n : Nat)
  /-- Word n of the PBA (R263). -/
  | pba (n : Nat)
deriving DecidableEq, Repr

/-- Offset of a register in BAR0. -/
def Reg.off : Reg → Nat
  | .idRev => 0x0
  | .bootStatus => 0x4
  | .bootCtl => 0x8
  | .qeStatus => 0x1000
  | .pcieCto => 0x1004
  | .qeCount n => 0x1020 + 4 * n
  | .queueCtl n => 0x1040 + 16 * n
  | .sqBaseLo n => 0x1044 + 16 * n
  | .cqBaseLo n => 0x1440 + 32 * n
  | .evqBaseLo => 0x1C40
  | .sqBaseHi n => 0x1048 + 16 * n
  | .cqBaseHi n => 0x1444 + 32 * n
  | .evqBaseHi => 0x1C44
  | .queueStatus n => 0x104C + 16 * n
  | .cqCfg n => 0x1448 + 32 * n
  | .evqCfg => 0x1C48
  | .cqMod n => 0x144C + 32 * n
  | .cqStatus n => 0x1450 + 32 * n
  | .evqStatus => 0x1C50
  | .hostClaim n => 0x2000 + 8 * n
  | .hostEoi n => 0x2004 + 8 * n
  | .evcCount n => 0x2200 + 4 * n
  | .targetState n => 0x2400 + 4 * n
  | .srcCfg n => 0x4000 + 8 * n
  | .srcCount n => 0x4004 + 8 * n
  | .pendSet n => 0x5000 + 4 * n
  | .pendClr n => 0x5040 + 4 * n
  | .active n => 0x5080 + 4 * n
  | .pwrState n => 0x6000 + 4 * n
  | .softRst => 0x6100
  | .thermStatus => 0x6200
  | .thermCtl => 0x6204
  | .dtLo => 0x7000
  | .dtHi => 0x7004
  | .dtRate => 0x7008
  | .dtCtl => 0x700C
  | .ppsStatus => 0x7010
  | .calSecLo => 0x7020
  | .calSecHi => 0x7024
  | .calSub => 0x7028
  | .calDate => 0x702C
  | .calTime => 0x7030
  | .calTrim => 0x7034
  | .calAlarmLo => 0x7038
  | .calAlarmHi => 0x703C
  | .calStatus => 0x7040
  | .calScratch n => 0x7080 + 4 * n
  | .replayCtl => 0x8000
  | .replayStatus => 0x8004
  | .faultStatus => 0x8008
  | .fenceStatus => 0x800C
  | .replayCount n => 0x8010 + 4 * n
  | .recoveryPolicy n => 0x8040 + 4 * n
  | .clusterFaults n => 0x8080 + 4 * n
  | .faultInfo0 => 0x8100
  | .faultInfo1 => 0x8104
  | .sigReg n => 0x8108 + 4 * n
  | .storeErrAddr => 0x8120
  | .memClearCl => 0x8140
  | .memClearOther => 0x8144
  | .scrubCtl n => 0x8200 + 32 * n
  | .scrubLast n => 0x8204 + 32 * n
  | .scrubMax n => 0x8208 + 32 * n
  | .scrubFound n => 0x820C + 32 * n
  | .accessFound n => 0x8210 + 32 * n
  | .corrected n => 0x8214 + 32 * n
  | .shgNx n => 0x8400 + 8 * n
  | .shgPw n => 0x8404 + 8 * n
  | .shgRun n => 0x8600 + 4 * n
  | .lockupSrc n => 0x8608 + 4 * n
  | .shgWdog => 0x8610
  | .shgWdogEn n => 0x8614 + 4 * n
  | .ridgeCtl => 0x8620
  | .shgRegion0 n => 0x8800 + 8 * n
  | .shgRegion1 n => 0x8804 + 8 * n
  | .fldCtl n => 0x9000 + 256 * n
  | .fldStatus n => 0x9004 + 256 * n
  | .fldTxeq n => 0x9008 + 256 * n
  | .fldRxeq n => 0x900C + 256 * n
  | .fldMacLo n => 0x9010 + 256 * n
  | .fldMacHi n => 0x9014 + 256 * n
  | .ringStatus n => 0x9018 + 256 * n
  | .ringDelay n => 0x901C + 256 * n
  | .missLast n => 0x9020 + 256 * n
  | .fldCount l n => 0x9080 + 256 * l + 4 * n
  | .dspStatus => 0xA000
  | .admCtl => 0xA004
  | .spareMask => 0xA008
  | .dspCount n => 0xA010 + 4 * n
  | .clusterLoad n => 0xA100 + 4 * n
  | .pinCount n => 0xA200 + 4 * n
  | .pagerCount n => 0xA300 + 4 * n
  | .allocBase n => 0xA400 + 32 * n
  | .allocCount n => 0xA404 + 32 * n
  | .allocLow n => 0xA408 + 32 * n
  | .allocCtl n => 0xA40C + 32 * n
  | .allocFree n => 0xA410 + 32 * n
  | .allocResv n => 0xA414 + 32 * n
  | .allocMiss n => 0xA418 + 32 * n
  | .emuCtl => 0xAF00
  | .emuCount => 0xAF04
  | .trapFaults => 0xAF08
  | .mrdCtl => 0xB000
  | .mrdRingBase => 0xB004
  | .mrdRingSize => 0xB008
  | .mrdRingHead => 0xB00C
  | .mrdRingTail => 0xB010
  | .adoptLimit => 0xB014
  | .genCurrent => 0xB018
  | .genBuild => 0xB01C
  | .genBuf => 0xB020
  | .genSubmit => 0xB024
  | .genDir => 0xB028
  | .genStatus => 0xB02C
  | .genDiff => 0xB030
  | .mrdCount n => 0xB040 + 4 * n
  | .genSlot n => 0xB080 + 4 * n
  | .dmaSrcLo n => 0xC000 + 32 * n
  | .dmaDstLo n => 0xC008 + 32 * n
  | .dmaSrcHi n => 0xC004 + 32 * n
  | .dmaDstHi n => 0xC00C + 32 * n
  | .dmaCount n => 0xC010 + 32 * n
  | .dmaCtl n => 0xC014 + 32 * n
  | .dmaCmd n => 0xC018 + 32 * n
  | .dmaStatus n => 0xC01C + 32 * n
  | .dmaErrAddrLo => 0xC200
  | .dmaErrAddrHi => 0xC204
  | .dmaErrInfo => 0xC208
  | .mtxPark n => 0xD000 + 4 * n
  | .mtxErrAddrLo => 0xD040
  | .mtxErrAddrHi => 0xD044
  | .mtxErrInfo => 0xD048
  | .mtxCount n => 0xD050 + 4 * n
  | .xlatLo n => 0xD100 + 8 * n
  | .xlatHi n => 0xD104 + 8 * n
  | .msixTab n => 0x10000 + 4 * n
  | .pba n => 0x10800 + 4 * n

/-- A row of the register map: base, stride, count, and the register of an index. -/
abbrev RegRow := Nat × Nat × Nat × (Nat → Reg)

/-- Rows of the register map, part 0. -/
def regRows0 : List RegRow :=
  [(0x0, 4, 1, fun _ => .idRev),
   (0x4, 4, 1, fun _ => .bootStatus),
   (0x8, 4, 1, fun _ => .bootCtl),
   (0x1000, 4, 1, fun _ => .qeStatus),
   (0x1004, 4, 1, fun _ => .pcieCto),
   (0x1020, 4, 8, .qeCount),
   (0x1040, 16, 64, .queueCtl),
   (0x1044, 16, 64, .sqBaseLo),
   (0x1440, 32, 64, .cqBaseLo),
   (0x1C40, 4, 1, fun _ => .evqBaseLo),
   (0x1048, 16, 64, .sqBaseHi),
   (0x1444, 32, 64, .cqBaseHi),
   (0x1C44, 4, 1, fun _ => .evqBaseHi),
   (0x104C, 16, 64, .queueStatus),
   (0x1448, 32, 64, .cqCfg),
   (0x1C48, 4, 1, fun _ => .evqCfg),
   (0x144C, 32, 64, .cqMod),
   (0x1450, 32, 64, .cqStatus),
   (0x1C50, 4, 1, fun _ => .evqStatus),
   (0x2000, 8, 64, .hostClaim),
   (0x2004, 8, 64, .hostEoi),
   (0x2200, 4, 4, .evcCount),
   (0x2400, 4, 129, .targetState),
   (0x4000, 8, 512, .srcCfg),
   (0x4004, 8, 512, .srcCount)]

/-- Rows of the register map, part 1. -/
def regRows1 : List RegRow :=
  [(0x5000, 4, 16, .pendSet),
   (0x5040, 4, 16, .pendClr),
   (0x5080, 4, 16, .active),
   (0x6000, 4, 50, .pwrState),
   (0x6100, 4, 1, fun _ => .softRst),
   (0x6200, 4, 1, fun _ => .thermStatus),
   (0x6204, 4, 1, fun _ => .thermCtl),
   (0x7000, 4, 1, fun _ => .dtLo),
   (0x7004, 4, 1, fun _ => .dtHi),
   (0x7008, 4, 1, fun _ => .dtRate),
   (0x700C, 4, 1, fun _ => .dtCtl),
   (0x7010, 4, 1, fun _ => .ppsStatus),
   (0x7020, 4, 1, fun _ => .calSecLo),
   (0x7024, 4, 1, fun _ => .calSecHi),
   (0x7028, 4, 1, fun _ => .calSub),
   (0x702C, 4, 1, fun _ => .calDate),
   (0x7030, 4, 1, fun _ => .calTime),
   (0x7034, 4, 1, fun _ => .calTrim),
   (0x7038, 4, 1, fun _ => .calAlarmLo),
   (0x703C, 4, 1, fun _ => .calAlarmHi),
   (0x7040, 4, 1, fun _ => .calStatus),
   (0x7080, 4, 16, .calScratch),
   (0x8000, 4, 1, fun _ => .replayCtl),
   (0x8004, 4, 1, fun _ => .replayStatus),
   (0x8008, 4, 1, fun _ => .faultStatus)]

/-- Rows of the register map, part 2. -/
def regRows2 : List RegRow :=
  [(0x800C, 4, 1, fun _ => .fenceStatus),
   (0x8010, 4, 8, .replayCount),
   (0x8040, 4, 16, .recoveryPolicy),
   (0x8080, 4, 32, .clusterFaults),
   (0x8100, 4, 1, fun _ => .faultInfo0),
   (0x8104, 4, 1, fun _ => .faultInfo1),
   (0x8108, 4, 4, .sigReg),
   (0x8120, 4, 1, fun _ => .storeErrAddr),
   (0x8140, 4, 1, fun _ => .memClearCl),
   (0x8144, 4, 1, fun _ => .memClearOther),
   (0x8200, 32, 8, .scrubCtl),
   (0x8204, 32, 8, .scrubLast),
   (0x8208, 32, 8, .scrubMax),
   (0x820C, 32, 8, .scrubFound),
   (0x8210, 32, 8, .accessFound),
   (0x8214, 32, 8, .corrected),
   (0x8400, 8, 64, .shgNx),
   (0x8404, 8, 64, .shgPw),
   (0x8600, 4, 2, .shgRun),
   (0x8608, 4, 2, .lockupSrc),
   (0x8610, 4, 1, fun _ => .shgWdog),
   (0x8614, 4, 2, .shgWdogEn),
   (0x8620, 4, 1, fun _ => .ridgeCtl),
   (0x8800, 8, 256, .shgRegion0),
   (0x8804, 8, 256, .shgRegion1)]

/-- Rows of the register map, part 3. -/
def regRows3 : List RegRow :=
  [(0x9000, 256, 16, .fldCtl),
   (0x9004, 256, 16, .fldStatus),
   (0x9008, 256, 16, .fldTxeq),
   (0x900C, 256, 16, .fldRxeq),
   (0x9010, 256, 16, .fldMacLo),
   (0x9014, 256, 16, .fldMacHi),
   (0x9018, 256, 16, .ringStatus),
   (0x901C, 256, 16, .ringDelay),
   (0x9020, 256, 16, .missLast),
   (0x9080, 256, 16, fun l => .fldCount l 0),
   (0x9084, 256, 16, fun l => .fldCount l 1),
   (0x9088, 256, 16, fun l => .fldCount l 2),
   (0x908C, 256, 16, fun l => .fldCount l 3),
   (0x9090, 256, 16, fun l => .fldCount l 4),
   (0x9094, 256, 16, fun l => .fldCount l 5),
   (0x9098, 256, 16, fun l => .fldCount l 6),
   (0x909C, 256, 16, fun l => .fldCount l 7),
   (0x90A0, 256, 16, fun l => .fldCount l 8),
   (0x90A4, 256, 16, fun l => .fldCount l 9),
   (0x90A8, 256, 16, fun l => .fldCount l 10),
   (0x90AC, 256, 16, fun l => .fldCount l 11),
   (0x90B0, 256, 16, fun l => .fldCount l 12),
   (0x90B4, 256, 16, fun l => .fldCount l 13),
   (0x90B8, 256, 16, fun l => .fldCount l 14),
   (0x90BC, 256, 16, fun l => .fldCount l 15)]

/-- Rows of the register map, part 4. -/
def regRows4 : List RegRow :=
  [(0xA000, 4, 1, fun _ => .dspStatus),
   (0xA004, 4, 1, fun _ => .admCtl),
   (0xA008, 4, 1, fun _ => .spareMask),
   (0xA010, 4, 8, .dspCount),
   (0xA100, 4, 32, .clusterLoad),
   (0xA200, 4, 32, .pinCount),
   (0xA300, 4, 5, .pagerCount),
   (0xA400, 32, 4, .allocBase),
   (0xA404, 32, 4, .allocCount),
   (0xA408, 32, 4, .allocLow),
   (0xA40C, 32, 4, .allocCtl),
   (0xA410, 32, 4, .allocFree),
   (0xA414, 32, 4, .allocResv),
   (0xA418, 32, 4, .allocMiss),
   (0xAF00, 4, 1, fun _ => .emuCtl),
   (0xAF04, 4, 1, fun _ => .emuCount),
   (0xAF08, 4, 1, fun _ => .trapFaults),
   (0xB000, 4, 1, fun _ => .mrdCtl),
   (0xB004, 4, 1, fun _ => .mrdRingBase),
   (0xB008, 4, 1, fun _ => .mrdRingSize),
   (0xB00C, 4, 1, fun _ => .mrdRingHead),
   (0xB010, 4, 1, fun _ => .mrdRingTail),
   (0xB014, 4, 1, fun _ => .adoptLimit),
   (0xB018, 4, 1, fun _ => .genCurrent),
   (0xB01C, 4, 1, fun _ => .genBuild)]

/-- Rows of the register map, part 5. -/
def regRows5 : List RegRow :=
  [(0xB020, 4, 1, fun _ => .genBuf),
   (0xB024, 4, 1, fun _ => .genSubmit),
   (0xB028, 4, 1, fun _ => .genDir),
   (0xB02C, 4, 1, fun _ => .genStatus),
   (0xB030, 4, 1, fun _ => .genDiff),
   (0xB040, 4, 8, .mrdCount),
   (0xB080, 4, 8, .genSlot),
   (0xC000, 32, 16, .dmaSrcLo),
   (0xC008, 32, 16, .dmaDstLo),
   (0xC004, 32, 16, .dmaSrcHi),
   (0xC00C, 32, 16, .dmaDstHi),
   (0xC010, 32, 16, .dmaCount),
   (0xC014, 32, 16, .dmaCtl),
   (0xC018, 32, 16, .dmaCmd),
   (0xC01C, 32, 16, .dmaStatus),
   (0xC200, 4, 1, fun _ => .dmaErrAddrLo),
   (0xC204, 4, 1, fun _ => .dmaErrAddrHi),
   (0xC208, 4, 1, fun _ => .dmaErrInfo),
   (0xD000, 4, 13, .mtxPark),
   (0xD040, 4, 1, fun _ => .mtxErrAddrLo),
   (0xD044, 4, 1, fun _ => .mtxErrAddrHi),
   (0xD048, 4, 1, fun _ => .mtxErrInfo),
   (0xD050, 4, 3, .mtxCount),
   (0xD100, 8, 64, .xlatLo),
   (0xD104, 8, 64, .xlatHi)]

/-- Rows of the register map, part 6. -/
def regRows6 : List RegRow :=
  [(0x10000, 4, 256, .msixTab),
   (0x10800, 4, 2, .pba)]

/-- The register map of BAR0. -/
def regRows : List RegRow :=
  regRows0 ++ regRows1 ++ regRows2 ++ regRows3 ++ regRows4 ++ regRows5 ++ regRows6

/-- The register a row gives an offset. -/
def RegRow.find (r : RegRow) (off : Nat) : Option Reg :=
  if r.1 ≤ off ∧ off < r.1 + r.2.1 * r.2.2.1 ∧ (off - r.1) % r.2.1 = 0 then some (r.2.2.2 ((off - r.1) / r.2.1)) else none

/-- The register at an offset of BAR0; none where no register lies (R299). -/
def decodeReg (off : Nat) : Option Reg := regRows.findSome? (fun r => r.find off)

/-- The RW bits of a register (R3). -/
def Reg.rw : Reg → W32
  | .bootCtl => 0x1FFF000
  | .pcieCto => 0xFFFF
  | .queueCtl _ => 0x7FFFFFFD
  | .sqBaseLo _ => 0xFFFFFFC0
  | .cqBaseLo _ => 0xFFFFFFC0
  | .evqBaseLo => 0xFFFFFFC0
  | .sqBaseHi _ => 0xFFFFFFFF
  | .cqBaseHi _ => 0xFFFFFFFF
  | .evqBaseHi => 0xFFFFFFFF
  | .cqCfg _ => 0x807F1FFF
  | .evqCfg => 0x807F1FFF
  | .cqMod _ => 0x3FF00FF
  | .srcCfg _ => 0xFFF
  | .thermCtl => 0xFFF0FFF
  | .dtCtl => 0xC00FFFFF
  | .calSecLo => 0xFFFFFFFF
  | .calSecHi => 0xFFFFFFFF
  | .calTrim => 0xFFFF
  | .calAlarmLo => 0xFFFFFFFF
  | .calAlarmHi => 0xFFFFFFFF
  | .calStatus => 0x8
  | .calScratch _ => 0xFFFFFFFF
  | .replayCtl => 0xF0007
  | .recoveryPolicy _ => 0xF03
  | .scrubCtl _ => 0x800FFFFF
  | .shgNx _ => 0xFFFFFFFF
  | .shgPw _ => 0xFFFFFFFF
  | .shgRun _ => 0xFFFFFFFF
  | .shgWdog => 0xFFFF
  | .shgWdogEn _ => 0xFFFFFFFF
  | .ridgeCtl => 0x5
  | .shgRegion0 _ => 0xFFFFFFF0
  | .shgRegion1 _ => 0xC00FFFFF
  | .fldCtl _ => 0xFFFF0007
  | .fldTxeq _ => 0x3FFFF
  | .fldRxeq _ => 0x801F0000
  | .fldMacLo _ => 0xFFFFFFFF
  | .fldMacHi _ => 0xFFFFFFFF
  | .admCtl => 0x1FFFF00
  | .spareMask => 0xFFFFFFFF
  | .allocBase k => BitVec.ofNat 32 (0x2000000 - 256 * 4 ^ k)
  | .allocCount _ => 0x1FFFF
  | .allocLow _ => 0x1FFFF
  | .emuCtl => 0x3FF0001
  | .mrdCtl => 0x7
  | .mrdRingBase => 0x1FFFFC0
  | .mrdRingSize => 0x1FFF
  | .mrdRingTail => 0xFFF
  | .adoptLimit => 0xFFFFFFFF
  | .genSubmit => 0x7FF
  | .genDir => 0x1FFFFFF
  | .dmaSrcLo _ => 0xFFFFFFFF
  | .dmaDstLo _ => 0xFFFFFFFF
  | .dmaSrcHi _ => 0xFF
  | .dmaDstHi _ => 0xFF
  | .dmaCount _ => 0x1FFFFFF
  | .dmaCtl _ => 0xF000006
  | .mtxPark _ => 0xFF
  | .xlatLo _ => 0xC0000001
  | .xlatHi _ => 0xFFFFFFFF
  | .msixTab n => if n % 4 = 3 then 1 else if n % 4 = 0 then 0xFFFFFFFC else 0xFFFFFFFF
  | _ => 0

/-- The W1C bits of a register (R3). -/
def Reg.w1c : Reg → W32
  | .calStatus => 0x5
  | .faultStatus => 0x7
  | .fenceStatus => 0xFFFFFFFF
  | .lockupSrc _ => 0xFFFFFFFF
  | .dmaStatus _ => 0x60000000
  | .dmaErrInfo => 0x80000000
  | .mtxErrInfo => 0x80000000
  | _ => 0

/-- The value of a register after PORST_N. -/
def Reg.reset : Reg → W32
  | .idRev => 0x32164811
  | .bootStatus => 0x1
  | .pcieCto => 0x2710
  | .queueCtl _ => 0x4000
  | .cqMod _ => 0x1
  | .cqStatus _ => 0x80000000
  | .evqStatus => 0x80000000
  | .pwrState _ => 0x700
  | .thermCtl => 0x1F401B8
  | .calDate => 0x7D0101
  | .calTime => 0x6000000
  | .calStatus => 0x1
  | .recoveryPolicy _ => 0x100
  | .memClearOther => 0x1
  | .scrubCtl _ => 0x80000000
  | .ridgeCtl => 0x2
  | .fldCtl _ => 0x88B50002
  | .fldTxeq _ => 0x8DC0
  | .fldRxeq _ => 0x800C0000
  | .admCtl => 0x1004000
  | .emuCtl => 0x640000
  | .dmaCtl _ => 0x6000000
  | .mtxPark n => if n < 8 then 0x04 else if n < 12 then 0x02 else 0x05
  | .msixTab n => if n % 4 = 3 then 1 else 0
  | _ => 0

/-- What an unlisted offset of the register bank reads as: the reset value of its register. Log entry 47, DEDUCED. -/
def regReset (off : Nat) : W32 :=
  match decodeReg off with
  | some r => r.reset
  | none => 0

/-- The generic effect of a write of `v` under the byte mask `m` on a register that holds `old` (R3, R4): RW bits take
the written value, W1C bits written 1 are cleared, the others stay. -/
def Reg.merge (r : Reg) (old v m : W32) : W32 :=
  let rw := r.rw &&& m
  let clr := r.w1c &&& m &&& v
  ((old &&& ~~~rw) ||| (v &&& rw)) &&& ~~~clr

end Sys2Proof.Machine
end

