-- ==== Sys2Proof/Config.lean ====
section
/-!
DEFINITION. Config.lean: the values the spec leaves open, as constants without a body (nothing in Lean can evaluate
them or prove a value of them), and the part's fixed codes.
-/
namespace Sys2Proof.Config

/-- A byte of host memory as a read by an engine of the device returns it (R264, R299): host memory lies outside the
device, so the byte is free.  First argument: the state's free-value counter at the read; second: the host address.
Log entry 7. -/
opaque hostByte : Nat → Nat → Byte

/-- Kernel version, V0:V1 of kernel service 0 (R253): the spec gives no number.  Log entry 8. -/
opaque kernelVersion : W16

/-- A byte of the boot ROM word at an address (R222, R327): the spec gives no ROM image.  Log entry 14. -/
opaque bootRom : Nat → W12

/-- The free value of the n-th use: a value or a bit that the spec does not state where it lets the device go on.  Log entry
11. -/
opaque freeVal : Nat → Nat

/-- Where the kernel keeps its fault log in Ridge data memory, in records (R260): the spec gives no address.  Log entry 132. -/
opaque logPlace : Nat

end Sys2Proof.Config
end

