-- ==== Sys2Proof/Machine/Tab.lean ====
section
/-!
DEFINITION. Machine/Tab.lean: sparse tables, the one canonical form in which the state keeps every memory, register
bank and array of records: keys strictly rising, and no entry equal to what an unlisted key reads as.
-/
namespace Sys2Proof.Machine

/-- A sparse table: (key, value) pairs.  `Tab Byte` is a list of Host.Cell. -/
abbrev Tab (α : Type) := List (Nat × α)

variable {α : Type}

/-- Read a key; an unlisted key reads as the default of that key. -/
def Tab.get (dflt : Nat → α) : Tab α → Nat → α
  | [], k => dflt k
  | (j, v) :: t, k => if j = k then v else Tab.get dflt t k

/-- Remove a key. -/
def Tab.erase (t : Tab α) (k : Nat) : Tab α := t.filter (fun e => !decide (e.1 = k))

/-- Put an entry before the first larger key. -/
def Tab.place (k : Nat) (v : α) : Tab α → Tab α
  | [] => [(k, v)]
  | e :: t => if k < e.1 then (k, v) :: e :: t else e :: Tab.place k v t

/-- Write a key: what stood there goes, and writing what an unlisted key reads as leaves no entry. -/
def Tab.set [DecidableEq α] (dflt : Nat → α) (t : Tab α) (k : Nat) (v : α) : Tab α :=
  if v = dflt k then Tab.erase t k else Tab.place k v (Tab.erase t k)

/-- Update a key by a function of its value. -/
def Tab.upd [DecidableEq α] (dflt : Nat → α) (t : Tab α) (k : Nat) (f : α → α) : Tab α :=
  Tab.set dflt t k (f (Tab.get dflt t k))

/-- Every key of the table is above `b`, rising, and no value is its key's default. -/
def Tab.wfAbove [DecidableEq α] (dflt : Nat → α) : Nat → Tab α → Bool
  | _, [] => true
  | b, (k, v) :: t => decide (b ≤ k) && decide (v ≠ dflt k) && Tab.wfAbove dflt (k + 1) t

/-- The canonical form of a table. -/
def Tab.wf [DecidableEq α] (dflt : Nat → α) (t : Tab α) : Bool := Tab.wfAbove dflt 0 t

/-- A memory of bytes: (address, byte) pairs, Host.Cell, in the canonical form of a table. -/
abbrev Memory := Tab Byte

/-- What an unlisted byte of memory reads as: 0, the cleared value of R158. -/
def Memory.unlisted : Nat → Byte := fun _ => 0

/-- The canonical form of a memory of bytes. -/
def Memory.wf (m : Memory) : Bool := Tab.wf Memory.unlisted m

/-- Read one byte. -/
def Memory.read (m : Memory) (a : Nat) : Byte := Tab.get Memory.unlisted m a

/-- Write one byte. -/
def Memory.write (m : Memory) (a : Nat) (v : Byte) : Memory := Tab.set Memory.unlisted m a v

/-- Read `n` bytes from `a` upwards. -/
def Memory.readList (m : Memory) : Nat → Nat → List Byte
  | _, 0 => []
  | a, n + 1 => Memory.read m a :: Memory.readList m (a + 1) n

/-- Write bytes from `a` upwards. -/
def Memory.writeList (m : Memory) : Nat → List Byte → Memory
  | _, [] => m
  | a, b :: bs => Memory.writeList (Memory.write m a b) (a + 1) bs

end Sys2Proof.Machine
end

