-- ==== Sys2Proof/Machine/State.lean ====
section
/-!
DEFINITION. Machine/State.lean: the state of the device as plain data, and its value after reset.  INVENTORY.md '## State'
lists every piece with the rule that names it.
-/
namespace Sys2Proof.Machine

/-- Why a step can stop with a fault. -/
inductive Fault where
  /-- Raised by BAR4_ACCESS for a range that leaves the 32 MiB window of BAR4 (R263): such a request cannot reach the
  function.  Safe: the model stops. -/
  | outsideBar4
deriving DecidableEq, Repr

/-- Why a command can have no meaning. -/
inductive Refusal where
  /-- Answered by exec's arm of a command that has no meaning yet.  Safe: the model stops. -/
  | notModelled (mnemonic : String)
deriving DecidableEq, Repr

/-! ### Melcia clusters (02, 03) -/

/-- Where a result in flight lands (R36, R38, R81). -/
inductive Dest where
  /-- Flags only. -/
  | nowhere
  /-- D register n. -/
  | d (n : Nat)
  /-- Accumulator n. -/
  | acc (n : Nat)
  /-- Control register, by CR number, as other operations read it (R58). -/
  | cr (n : Nat)
  /-- Control register as the address generator (R38) or the loop end check (R46) uses it. -/
  | crUse (n : Nat)
  /-- Post-modify of An: both values of An (R36, R38). -/
  | post (n : Nat)
  /-- A store to X: physical and virtual word address (R40, R139). -/
  | xst (phys virt : Nat)
  /-- A store to Y. -/
  | yst (phys virt : Nat)
deriving DecidableEq, Repr

/-- The flags a result carries to FLG (R28, R60). -/
structure FlagUpd where
  /-- Zero. -/
  z : Bool
  /-- Negative. -/
  n : Bool
  /-- Carry. -/
  c : Bool
  /-- Overflow. -/
  v : Bool
  /-- The saturation indication. -/
  sat : Bool
deriving DecidableEq, Repr

/-- One entry of the pending list: a result in flight (R75, R81). -/
structure Entry where
  /-- Cycles until the result is readable. -/
  due : Nat
  /-- Unit number 0 to 7, for R38. -/
  unit : Nat
  /-- A result of the divide and square-root unit (R48). -/
  div : Bool
  /-- Where it lands. -/
  dest : Dest
  /-- The value. -/
  val : W40
  /-- The FLG effect, if the entry writes FLG. -/
  flags : Option FlagUpd
  /-- FPF exceptions, NX, UF, OF, DZ, NV in bits 0 to 4. -/
  fpf : BitVec 5
  /-- Issued in the present cycle: a trap or fault of this cycle takes it back (R51). -/
  fresh : Bool
deriving DecidableEq, Repr

/-- What the CTL operation of the present cycle asks for (R42 to R45). -/
inductive Ctl where
  /-- Nothing. -/
  | none
  /-- A taken branch. -/
  | jump (target : Nat)
  /-- CALL. -/
  | call (target : Nat)
  /-- RET. -/
  | ret (target : Nat)
  /-- LOOP with a count above 0: count and LE. -/
  | loop (count le : Nat)
  /-- LOOP with count 0: LE; the body is skipped. -/
  | skip (le : Nat)
  /-- END. -/
  | stop
deriving DecidableEq, Repr

/-- Why the bundle of the present cycle cannot issue: one of the causes of orders 2 to 5 of R51. -/
structure Fail where
  /-- Order of R51. -/
  order : Nat
  /-- Trap cause code (R72) in order 3, fault cause code (R143) otherwise. -/
  code : Nat
  /-- First syllable of the operation that shows it (R73). -/
  syl : Nat
  /-- The place: memory and physical address of a word with a parity error, or memory and virtual page of an UNMAPPED access
  (R31). -/
  word : Option (Nat × Nat)
deriving DecidableEq, Repr

/-- What has issued in the present cycle: the part of its bundle commanded so far (R25, R41, R35). -/
structure Issue where
  /-- Units that have issued, the latest first. -/
  units : List Nat
  /-- Syllables so far. -/
  len : Nat
  /-- Syllable address of the first flag writer (R41). -/
  flagAt : Option Nat
  /-- Address generators named, with the syllable address of the first operation that names each (R35). -/
  ags : List (Nat × Nat)
  /-- The cause that R51 and R73 put first among those met so far. -/
  fail : Option Fail
  /-- The control transfer. -/
  ctl : Ctl
  /-- Units suppressed on re-issue after GO (R76). -/
  skip : List Nat
  /-- The suppressed operations that the re-issued bundle holds: unit and syllables (R76). -/
  supp : List (Nat × Nat)
  /-- Every operation of the re-issued bundle is suppressed: it issues without one. -/
  bare : Bool
deriving DecidableEq, Repr

/-- What a cluster is doing (R49, R75, R120). -/
inductive Phase where
  /-- No work. -/
  | idle
  /-- Stage-in of an instance. -/
  | staging
  /-- Bundles issue. -/
  | run
  /-- Held at a trapped bundle (R75). -/
  | held
  /-- END has issued; stores land (R49). -/
  | drain
  /-- The last store has landed. -/
  | ended
  /-- Commit has copied the data out; publication comes next (R140). -/
  | committing
deriving DecidableEq, Repr

/-- A page by its source (R124). -/
inductive PageId where
  /-- An image page by its internal address; in host memory or not. -/
  | image (host : Bool) (addr : Nat)
  /-- A table page by table set, generation and index. -/
  | table (tset gen idx : Nat)
  /-- A state page of a tasklet. -/
  | state (t idx : Nat)
deriving DecidableEq, Repr

/-- A frame of a cluster memory (R124 to R126). -/
structure Frame where
  /-- The page it holds. -/
  page : Option PageId
  /-- The page is valid (R123, R155). -/
  ok : Bool
  /-- A refetch of the page has failed: it is fetched again when an instance needs it (R155). -/
  stuck : Bool
  /-- Order of the start of its last mapping (R126). -/
  lastMap : Nat
deriving DecidableEq, Repr

/-- What identifies an instance: tasklet, sequence number, replay or first run (R104, R146). -/
structure JobKey where
  /-- Tasklet number. -/
  t : Nat
  /-- Sequence number. -/
  seq : Nat
  /-- A replay. -/
  replay : Bool
deriving DecidableEq, Repr

/-- A latched TRAP_RESUME write of a cluster of a Checked pair (R77). -/
structure Resume where
  /-- SKIP. -/
  skip : Byte
  /-- TRAP_TARGET with REDIRECT, none without. -/
  redirect : Option Nat
deriving DecidableEq, Repr

/-- A Melcia cluster. -/
structure Cluster where
  /-- D0 to D31. -/
  d : Tab W16
  /-- ACC0 to ACC7. -/
  acc : Tab W40
  /-- Control registers by CR number 0 to 51, as other operations read them (R58). -/
  cr : Tab W16
  /-- CR 0 to 43 as the address generator and the loop end check use them (R36, R46). -/
  crUse : Tab W16
  /-- Active loops, 0 to 4. -/
  loops : Nat
  /-- Return stack entries 0 to 7. -/
  rs : Tab Syl
  /-- Return-stack depth, 0 to 8. -/
  depth : Nat
  /-- Address of the issuing bundle. -/
  pc : Nat
  /-- The instance's cycle count. -/
  cycle : Nat
  /-- Cycles still to be killed after a taken branch (R42). -/
  kill : Nat
  /-- Results in flight, older first. -/
  pend : List Entry
  /-- The pending list as the cluster window shows it while the cluster holds: word w of entry i at 4 * i + w (R81). -/
  plist : Tab W32
  /-- The present cycle's bundle. -/
  iss : Issue
  /-- What the cluster does. -/
  phase : Phase
  /-- The instance it works on. -/
  job : Option JobKey
  /-- P memory, syllables by physical address. -/
  p : Tab Syl
  /-- X memory. -/
  x : Tab W16
  /-- Y memory. -/
  y : Tab W16
  /-- C memory. -/
  c : Tab W16
  /-- Words with a parity error: space * 65536 + physical address, space 0 P, 1 X, 2 Y, 3 C (R154). -/
  bad : List Nat
  /-- Frame maps, keyed space * 16 + page (R31). -/
  maps : Tab W16
  /-- Frames, keyed space * 64 + frame. -/
  frames : Tab Frame
  /-- The pager's fetch for this cluster (R125). -/
  fetch : Option PageId
  /-- The fetch refills a frame that has lost its page to a parity error (R155). -/
  again : Bool
  /-- The store signature (R139). -/
  sig : W64
  /-- TRAP_STATUS.CAUSE of the last trap. -/
  trapCause : Nat
  /-- TRAP_ADDR.BUNDLE. -/
  trapBundle : Nat
  /-- TRAP_ADDR.SYLLABLE. -/
  trapSyl : Nat
  /-- TRAP_CYCLE. -/
  trapCycle : Nat
  /-- TRAP_TARGET. -/
  trapTarget : Nat
  /-- The space and the page that the last UNMAPPED fault has recorded (R31): 0 P, 1 X, 2 Y, 3 C. -/
  unmapped : Option (Nat × Nat)
  /-- A latched GO of a Checked pair (R77). -/
  resume : Option Resume
  /-- The step CLOCK_SET has accepted and not yet applied (R313). -/
  newStep : Option Nat
deriving DecidableEq, Repr

/-- Reset value of a control register (the register tables of 02: MODE 0x0003, others 0). -/
def crReset (n : Nat) : W16 := if n = 47 then 3 else 0

/-- Nothing has issued. -/
def Issue.empty : Issue := ⟨[], 0, none, [], none, .none, [], [], false⟩

/-- A frame that holds no page. -/
def Frame.empty : Frame := ⟨none, false, false, 0⟩

/-- A cluster after reset. -/
def Cluster.reset : Cluster :=
  { d := [], acc := [], cr := [], crUse := [], loops := 0, rs := [], depth := 0, pc := 0, cycle := 0, kill := 0, pend := [],
    iss := Issue.empty, plist := [], phase := .idle, job := none, p := [], x := [], y := [], c := [], bad := [], maps := [],
    frames := [], fetch := none, again := false, sig := BitVec.allOnes 64, trapCause := 0, trapBundle := 0, trapSyl := 0,
    trapCycle := 0, trapTarget := 0, unmapped := none, resume := none, newStep := none }

/-! ### Dispatcher, allocator, slots (05, 06) -/

/-- An instance of a tasklet that has been released and has not ended (R103 to R120). -/
structure Job where
  /-- Tasklet number. -/
  t : Nat
  /-- Sequence number (R104). -/
  seq : Nat
  /-- Cycle of its line, as Lane.cyc counts (R103). -/
  cyc : Nat
  /-- Nominal T0, device time in ns. -/
  nominal : Nat
  /-- Absolute deadline, device time in ns. -/
  deadline : Nat
  /-- Pinned buffer of each input, none for a zero-filled one (R11, R113). -/
  pins : List (Option Nat)
  /-- Header word 0 of each input (R115). -/
  hdr : List W16
  /-- Bound generation, 0 for none (R117). -/
  gen : Nat
  /-- Bound image: in host memory. -/
  host : Bool
  /-- Bound image: address of page 0. -/
  img : Nat
  /-- The cluster whose queue holds it; the even cluster of a pair (R118). -/
  cl : Nat
  /-- Checked (R137). -/
  checked : Bool
  /-- Guaranteed class. -/
  guaranteed : Bool
  /-- Deferred behind its predecessor (R116). -/
  deferred : Bool
  /-- Stage-in has started. -/
  active : Bool
  /-- PAGE_LATE has been raised (R127). -/
  late : Bool
  /-- NO_FRAME has been raised (R126). -/
  noFrame : Bool
  /-- A replay (R146). -/
  replay : Bool
  /-- New buffer of each output taken by COMMIT and not yet published (R140). -/
  newBufs : List Nat
deriving DecidableEq, Repr

/-- Dispatcher state of a tasklet beside its record (R111, R116, R134). -/
structure Task where
  /-- No home found (R111). -/
  homeLost : Bool
  /-- Earliest device time of the nominal T0 of its first release (R107, R111). -/
  since : Nat
  /-- Cycle of its last release or skip, none before the first. -/
  lastCyc : Option Nat
  /-- A release has happened since admission: the next one adds 1 to SEQ (R104). -/
  started : Bool
  /-- Queues whose TASKLET_REMOVE of this tasklet is in progress (R134). -/
  removing : List Nat
deriving DecidableEq, Repr

/-- A task without dispatcher state. -/
def Task.reset : Task := ⟨false, 0, none, false, []⟩

/-- Who holds a buffer or a reservation (R131, R132). -/
inductive Holder where
  /-- Field input slot 512 * line + slot. -/
  | inSlot (k : Nat)
  /-- Field output slot 512 * line + slot. -/
  | outSlot (k : Nat)
  /-- Internal slot. -/
  | intSlot (k : Nat)
  /-- Checkpoint of a tasklet. -/
  | ckpt (t : Nat)
  /-- A generation. -/
  | gen (n : Nat)
  /-- A HOST message. -/
  | msg
deriving DecidableEq, Repr

/-- One size class of the allocator (R130 to R134). -/
structure AllocClass where
  /-- Free list, head first. -/
  freeL : List Nat
  /-- Allocated buffers. -/
  used : List (Nat × Holder)
  /-- Standing reservations. -/
  resv : List (Holder × Nat)
  /-- INIT is building the list. -/
  building : Bool
deriving DecidableEq, Repr

/-- An empty class. -/
def AllocClass.reset : AllocClass := ⟨[], [], [], false⟩

/-- A slot: its newest valid buffer (R113, R115, R152). -/
structure Slot where
  /-- Store offset of the newest buffer. -/
  buf : Option Nat
  /-- Device time of its placement or commit. -/
  placed : Nat
  /-- Cycle of the instance that committed it, none when loaded by the host. -/
  cyc : Option Nat
deriving DecidableEq, Repr

/-- A slot that has never held a buffer. -/
def Slot.reset : Slot := ⟨none, 0, none⟩

/-! ### Mordant (07) -/

/-- Running state of a correlator slot (R173 to R178). -/
structure CalSlot where
  /-- 0 DISABLED, 1 RUNNING, 2 FAILED (R276, CAL_SLOT_READ). -/
  st : Nat
  /-- Samples counted. -/
  n : Nat
  /-- Sum of chips. -/
  sd : Int
  /-- Sum of samples. -/
  sx : Int
  /-- Sum of sample times chip. -/
  sxd : Int
  /-- Sum of squares. -/
  sxx : Int
  /-- Missed blocks of the window. -/
  gaps : Nat
  /-- Window sequence number. -/
  win : Nat
  /-- G_AVG. -/
  gAvg : W32
  /-- O_AVG. -/
  oAvg : W32
  /-- The gain test is outside its limit. -/
  gOut : Bool
  /-- The offset test is outside its limit. -/
  oOut : Bool
  /-- DRIFT_ALARM may be raised (R178). -/
  armed : Bool
  /-- The START cycle, as Lane.cyc counts. -/
  start : Nat
  /-- Consecutive restarts (R171). -/
  restarts : Nat
  /-- Cycle whose in-frame carried the ACK of the DITHER_START, as Lane.cyc counts (R169). -/
  ackCyc : Option Nat
deriving DecidableEq, Repr

/-- A disabled slot. -/
def CalSlot.reset : CalSlot :=
  { st := 0, n := 0, sd := 0, sx := 0, sxd := 0, sxx := 0, gaps := 0, win := 0, gAvg := 0, oAvg := 0, gOut := false,
    oOut := false, armed := true, start := 0, restarts := 0, ackCyc := none }

/-- A dither whose DITHER_STOP has not been acknowledged (R170). -/
structure Stopped where
  /-- Partner. -/
  p : Nat
  /-- Channel. -/
  ch : Nat
  /-- AMP of the stopped slot. -/
  amp : Nat
  /-- The stop has failed: it is posted again every 16 base cycles (R170). -/
  failed : Bool
  /-- MSEQ of the DITHER_STOP last posted for it. -/
  mseq : Nat
deriving DecidableEq, Repr

/-- A directory entry of a generation (R180). -/
structure DirEnt where
  /-- Table set. -/
  tset : Nat
  /-- Pages. -/
  pages : Nat
  /-- Buffer of pages 0 to 7. -/
  b0 : Nat
  /-- Buffer of pages 8 to 15. -/
  b1 : Nat
deriving DecidableEq, Repr

/-- A generation descriptor (R180 to R185). -/
structure Gen where
  /-- STATE of R182. -/
  st : Nat
  /-- Generation number. -/
  num : Nat
  /-- Bound instances not yet ended. -/
  refs : Nat
  /-- Class 3 buffers it holds. -/
  bufs : List Nat
  /-- Its directory, once verified. -/
  dir : List DirEnt
  /-- Submission order. -/
  order : Nat
  /-- Adopted by the host: becomes the baseline (R183). -/
  byHost : Bool
  /-- D_STEP of its verification (R181). -/
  dStep : Nat
  /-- D_BASE of its verification. -/
  dBase : Nat
  /-- Only a pending adoption kept it from being adopted: it is reconsidered (R184). -/
  retry : Bool
deriving DecidableEq, Repr

/-- A FREE descriptor. -/
def Gen.reset : Gen := ⟨0, 0, 0, [], [], 0, false, 0, 0, false⟩

/-! ### Field lines (08) -/

/-- An out-record (R198). -/
structure OutRec where
  /-- Destination slot. -/
  slot : Nat
  /-- STALE. -/
  stale : Bool
  /-- INVALID. -/
  invalid : Bool
  /-- The body. -/
  body : List Byte
deriving DecidableEq, Repr

/-- Who posted a down message (R201). -/
inductive MsgFrom where
  /-- The host, by the command of a queue. -/
  | host (q : Nat)
  /-- Mordant: DITHER_START of a correlator slot. -/
  | dstart (slot : Nat)
  /-- Mordant: DITHER_STOP of a partner's channel. -/
  | dstop (ch : Nat)
  /-- The line Shingles: CONFIG. -/
  | config
deriving DecidableEq, Repr

/-- A down message (R200, R201). -/
structure Msg where
  /-- Partner. -/
  p : Nat
  /-- SLOT of the record: the partner's, or 0x0FFF for a message addressed by MAC (R200). -/
  slot : Nat
  /-- MTYPE. -/
  mtype : Nat
  /-- MSEQ. -/
  mseq : Nat
  /-- Body. -/
  body : List Byte
  /-- Sends so far. -/
  sends : Nat
  /-- Waiting to be sent at the next OUT set. -/
  due : Bool
  /-- Who posted it. -/
  by_ : MsgFrom
deriving DecidableEq, Repr

/-- An accepted in-frame waiting for its placement (R204, R205). -/
structure Accepted where
  /-- Partner. -/
  p : Nat
  /-- Port: 0 A, 1 B. -/
  port : Nat
  /-- The cycle it has arrived in, as Lane.cyc counts. -/
  cyc : Nat
  /-- The frame's bytes. -/
  bytes : List Byte
deriving DecidableEq, Repr

/-- A frame of a set under transmission (R208). -/
structure TxFrame where
  /-- Device time of its first preamble byte, in tenths of ns. -/
  t0 : Nat
  /-- Device time of the end of its inter-frame gap, in tenths of ns. -/
  t1 : Nat
  /-- Out-frame type: 1 OUT, 3 LATE (R197). -/
  type : Nat
  /-- CONT. -/
  cont : Bool
  /-- LAST. -/
  lastF : Bool
  /-- SEG. -/
  seg : Nat
  /-- Its out-records. -/
  recs : List OutRec
  /-- Its message records, after the out-records. -/
  msgs : List Msg
  /-- It has waited under the ring rule and has been counted for it (R212). -/
  delayed : Bool
deriving DecidableEq, Repr

/-- The timestamps of the PTP event messages of a port, device time in ns (R214). -/
structure PtpTimes where
  /-- The last Sync sent. -/
  sync : Option Nat
  /-- The last peer-delay request sent, while its answer is awaited. -/
  reqTx : Option Nat
  /-- The last peer-delay answer received. -/
  respRx : Option Nat
  /-- The last peer-delay request received. -/
  reqRx : Option Nat
  /-- The last peer-delay answer sent. -/
  respTx : Option Nat
deriving DecidableEq, Repr

/-- A field lane with its line and its frame engine (R193 to R219). -/
structure Lane where
  /-- A line record is stored (R195). -/
  hasRec : Bool
  /-- The line runs (R350). -/
  run : Bool
  /-- Device time of the T0 of cycle 0. -/
  dt0 : Nat
  /-- Current cycle, none before cycle 0, counted on without a wrap: the cycle number of R103 is its low 32 bits. -/
  cyc : Option Nat
  /-- The queue whose SCHED_START waits for the T0 of cycle 0 (R276). -/
  starter : Option Nat
  /-- The queues whose SCHED_STOPs stop the line (R276). -/
  stoppers : List Nat
  /-- The line stops: no release and no later OUT set (R276). -/
  stopping : Bool
  /-- The T0 after SCHED_STOP's acceptance has passed. -/
  stopped : Bool
  /-- Function-level reset: the next T0 sends the last set (R324). -/
  lastSet : Bool
  /-- T_of of the next cycle has passed. -/
  ofDone : Bool
  /-- The apply time of the cycle has passed. -/
  applied : Bool
  /-- T_ic of the cycle has passed. -/
  icDone : Bool
  /-- The set read at T_of. -/
  outSet : List OutRec
  /-- Slots that went out stale in the current set (R207). -/
  staleNow : List Nat
  /-- Slots published after T_of, for a LATE set; with the moment: before T0 or not. -/
  latePub : List (Nat × Bool)
  /-- Frames of the sets sent in this cycle. -/
  tx : List TxFrame
  /-- What a cut has left unsent, for CONT frames (R208): the rest of the cut frame, then the frames behind it. -/
  cut : List TxFrame
  /-- Frames of a LATE set that wait under the ring rule (R212). -/
  lateq : List TxFrame
  /-- Accepted in-frames waiting for placement. -/
  accq : List Accepted
  /-- (partner, port) of the in-frames arrived in this cycle. -/
  arr : List (Nat × Nat)
  /-- Partners whose in-frame has been taken in this cycle, with its payload, for the comparison of R9. -/
  placed : List (Nat × List Byte)
  /-- Down messages of the line, in posting order. -/
  msgs : List Msg
  /-- Messages posted while no line Shingle runs: the Shingles queue them when they run again (R201, R217). -/
  posted : List Msg
  /-- The first OUT frame from this port has returned in this cycle (R210). -/
  ret : Bool
  /-- The ring is CLOSED (R210). -/
  closed : Bool
  /-- Consecutive cycles in which both copies returned. -/
  okRun : Nat
  /-- FLD_STATUS.SIGNAL. -/
  signal : Bool
  /-- FLD_STATUS.BLOCK_LOCK as the PCS finds it. -/
  blockLock : Bool
  /-- FLD_STATUS.HI_BER. -/
  hiBer : Bool
  /-- FLD_STATUS.LOCAL_FAULT. -/
  localFault : Bool
  /-- FLD_STATUS.REMOTE_FAULT. -/
  remoteFault : Bool
  /-- GPIO[l] (R192). -/
  gpio : Bool
  /-- Base cycles since the last Sync (R213). -/
  syncN : Nat
  /-- Last measured peer delay in ns (R213). -/
  pdelay : Option Nat
  /-- PTP timestamps (R214). -/
  ptp : PtpTimes
  /-- The first frame of the LATE set now due has waited under the ring rule and has been counted for it (R212). -/
  delayed : Bool
deriving DecidableEq, Repr

/-- A lane after reset. -/
def Lane.reset : Lane :=
  { hasRec := false, run := false, dt0 := 0, cyc := none, starter := none, stoppers := [], stopping := false,
    stopped := false, lastSet := false, ofDone := false, applied := false, icDone := false, outSet := [], staleNow := [],
    latePub := [], tx := [], cut := [], lateq := [], accq := [], arr := [], placed := [], msgs := [], posted := [], ret := false, closed := false,
    okRun := 0, signal := false, blockLock := false, hiBer := false, localFault := false, remoteFault := false,
    gpio := true, syncN := 0, pdelay := none, ptp := ⟨none, none, none, none, none⟩, delayed := false }

/-- Status of a partner (R199, R206). -/
structure Partner where
  /-- 0 UNCONFIGURED, 1 ACTIVE, 2 LOST. -/
  st : Nat
  /-- The last in-record header. -/
  hdr : List Byte
  /-- The CAPS body. -/
  caps : List Byte
  /-- Consecutive misses. -/
  miss : Nat
  /-- TIME_LOCKED of the last in-frame. -/
  locked : Bool
  /-- Next MSEQ on the way down. -/
  mseq : Nat
deriving DecidableEq, Repr

/-- A partner not heard of. -/
def Partner.reset : Partner := ⟨0, [], [], 0, false, 0⟩

/-! ### Shingles and Ridge (09) -/

/-- STATE of the state image (R224). -/
inductive CoreSt where
  /-- 0 RUN. -/
  | run
  /-- 1 WAIT. -/
  | wait
  /-- 2 CALLING. -/
  | calling
  /-- 3 HELD. -/
  | held
  /-- 4 LOCKED. -/
  | locked
deriving DecidableEq, Repr

/-- The one word that a core has prefetched, as it stood at the fetch (R233, R239). -/
structure Prefetch where
  /-- Its address. -/
  addr : Nat
  /-- The word. -/
  word : W12
  /-- It has been read with a parity error. -/
  bad : Bool
  /-- Its block was set in SHG_NX. -/
  nx : Bool
deriving DecidableEq, Repr

/-- A Shingle or the Ridge pair's one program-visible core (R220 to R225). -/
structure Core where
  /-- V0 to V7 of the main bank. -/
  v : Tab Byte
  /-- V0 to V7 of the shadow bank. -/
  sv : Tab Byte
  /-- PX. -/
  px : W16
  /-- PY. -/
  py : W16
  /-- PZ of the main bank. -/
  pz : W16
  /-- PZ of the shadow bank. -/
  spz : W16
  /-- CNT. -/
  cnt : W16
  /-- SP. -/
  sp : W16
  /-- PC. -/
  pc : W16
  /-- ST. -/
  st : Byte
  /-- SPC. -/
  spc : W16
  /-- SST. -/
  sst : Byte
  /-- TAG. -/
  tag : Bool
  /-- The core runs in the shadow bank. -/
  shadow : Bool
  /-- VB. -/
  vb : W16
  /-- STATE. -/
  state : CoreSt
  /-- Kernel-call number. -/
  call : Nat
  /-- Program memory. -/
  prog : Tab W12
  /-- Program words with a parity error; on the Ridge, with an error in one core's copy (R161). -/
  progBad : List Nat
  /-- Local data. -/
  data : Memory
  /-- Data bytes with a parity error. -/
  dataBad : List Nat
  /-- On the Ridge, program words with an error in both cores' copies (R162). -/
  progLost : List Nat
  /-- On the Ridge, data bytes with an error in both cores' copies (R162). -/
  dataLost : List Nat
  /-- Mailbox. -/
  mbox : Tab Byte
  /-- WBASE. -/
  wbase : Nat
  /-- Held WINB0 to WINB2 (R223). -/
  winb : Tab Byte
  /-- Held VB_LO. -/
  vbLo : Byte
  /-- Held SPC_LO. -/
  spcLo : Byte
  /-- Held EOI_LO. -/
  eoiLo : Byte
  /-- CLAIM_HI of the last CLAIM. -/
  claimHi : Byte
  /-- EXC_VEC. -/
  excVec : Nat
  /-- EXC_DETAIL. -/
  excDetail : Byte
  /-- EXC_ADDR. -/
  excAddr : W16
  /-- The run prefix RPT is in force for the next instruction (R235). -/
  rpt : Bool
  /-- The core waits in WAITD (R240). -/
  waitd : Bool
  /-- Watchdog count in cycles (R247). -/
  wdog : Nat
  /-- Core cycles spent (R229, R233). -/
  cycles : Nat
  /-- The prefetched word (R233). -/
  pre : Option Prefetch
  /-- The watchdog has expired inside a run under RPT or a WAITD: vector 5 waits for the boundary after it (R245, R246). -/
  wdPend : Bool
deriving DecidableEq, Repr

/-- A core's registers on leaving reset (R220); `k` is K of ST. -/
def Core.fresh (k : Bool) : Core :=
  { v := [], sv := [], px := 0, py := 0, pz := 0, spz := 0, cnt := 0, sp := 0x4000, pc := 0,
    st := if k then 0xC0 else 0x80, spc := 0, sst := 0, tag := false, shadow := false, vb := 0, state := .held,
    call := 0, prog := [], progBad := [], data := [], dataBad := [], progLost := [], dataLost := [], mbox := [], wbase := 0, winb := [], vbLo := 0,
    spcLo := 0, eoiLo := 0, claimHi := 0, excVec := 0, excDetail := 0, excAddr := 0, rpt := false, waitd := false,
    wdog := 0, cycles := 0, pre := none, wdPend := false }

/-- Core k of the device after reset: 0 to 63 the Shingles, 64 the Ridge. -/
def Core.reset (k : Nat) : Core := Core.fresh (k == 64)

/-- A fault-log record (R260). -/
structure LogRec where
  /-- Calendar seconds, 4 bytes. -/
  secs : Nat
  /-- ns within the second. -/
  ns : Nat
  /-- Source number, or 0xFFFF for the kernel. -/
  origin : Nat
  /-- Code. -/
  code : Nat
  /-- Data. -/
  data : Nat
deriving DecidableEq, Repr

/-- What the Ridge has beside a core (R252, R256, R260). -/
structure Ridge where
  /-- Stopped (R162). -/
  stopped : Bool
  /-- Held in reset while its memories clear (R325, R329). -/
  clearing : Bool
  /-- Kernel-call queue, oldest first. -/
  kcq : List Nat
  /-- KC_CALL. -/
  kcCall : Byte
  /-- KC_TARGET. -/
  kcTarget : Byte
  /-- System access address, 40 bits. -/
  sa : Nat
  /-- Records written to the fault log since its memory was cleared (R260). -/
  logs : Nat
deriving DecidableEq, Repr

/-! ### Host queues (10) -/

/-- What a queue's outstanding read of host memory fetches (R271, R274). -/
inductive Rd where
  /-- The ring entry at HEAD. -/
  | ring
  /-- The chain descriptor at an address. -/
  | chain (addr : Nat)
  /-- The link word of the remembered end descriptor. -/
  | link
  /-- The arguments of the command. -/
  | args
deriving DecidableEq, Repr

/-- A submission descriptor as read (R270). -/
structure Desc where
  /-- Host address it was read from. -/
  at_ : Nat
  /-- CID. -/
  cid : Nat
  /-- COMP. -/
  comp : Bool
  /-- OPCODE. -/
  op : Nat
  /-- Reserved bits [15:9] and link bits [4:1] are all 0. -/
  clean : Bool
  /-- P0. -/
  p0 : Nat
  /-- ADDR. -/
  addr : Nat
  /-- P1. -/
  p1 : Nat
  /-- P2. -/
  p2 : Nat
  /-- NEXT, a host address. -/
  next : Nat
  /-- END. -/
  fin : Bool
deriving DecidableEq, Repr

/-- Where a command in progress stands. -/
inductive CmdSt where
  /-- Its argument read is outstanding. -/
  | fetching
  /-- Its arguments are here: the unit may execute it. -/
  | ready
  /-- The unit has acted; the completion comes later (R275). -/
  | waiting
deriving DecidableEq, Repr

/-- The command in progress of a queue. -/
structure Cmd where
  /-- The descriptor. -/
  d : Desc
  /-- Its arguments read from host memory. -/
  args : List Byte
  /-- Where it stands. -/
  st : CmdSt
deriving DecidableEq, Repr

/-- The chain segment in progress (R271). -/
structure Seg where
  /-- It was headed by a ring entry. -/
  ring : Bool
  /-- It was started by CHAIN_RESUME. -/
  resumed : Bool
  /-- CID of its first descriptor. -/
  cid : Nat
  /-- Links followed. -/
  links : Nat
deriving DecidableEq, Repr

/-- A submission queue (R268 to R275). -/
structure Sq where
  /-- RUN. -/
  run : Bool
  /-- SIZE. -/
  size : Nat
  /-- HOP_LIMIT. -/
  hop : Nat
  /-- CQ. -/
  cq : Nat
  /-- Ring base. -/
  base : W64
  /-- RESUME. -/
  resume : Bool
  /-- STOP. -/
  stop : Nat
  /-- TAIL. -/
  tail : Nat
  /-- HEAD. -/
  head : Nat
  /-- Resume point: address and CID of the end descriptor (R274). -/
  point : Option (Nat × Nat)
  /-- Segment under way. -/
  seg : Option Seg
  /-- Address of the next chain descriptor to be read. -/
  nextAt : Option Nat
  /-- Outstanding read. -/
  rd : Option Rd
  /-- Command in progress. -/
  cmd : Option Cmd
deriving DecidableEq, Repr

/-- A submission queue after reset (HOP_LIMIT 0x040). -/
def Sq.reset : Sq := ⟨false, 0, 0x40, 0, 0, false, 0, 0, 0, none, none, none, none, none⟩

/-- A completion queue, and the event queue (R268, R279 to R282). -/
structure Cq where
  /-- ENABLE. -/
  en : Bool
  /-- IEN. -/
  ien : Bool
  /-- VECTOR. -/
  vec : Nat
  /-- SIZE. -/
  size : Nat
  /-- Ring base. -/
  base : W64
  /-- CQ_MOD.TIMER. -/
  timer : Nat
  /-- CQ_MOD.COUNT. -/
  count : Nat
  /-- HEAD. -/
  head : Nat
  /-- TAIL. -/
  tail : Nat
  /-- PHASE. -/
  phase : Bool
  /-- Entries written since the last signal. -/
  cnt : Nat
  /-- The moderation timer runs. -/
  timerOn : Bool
  /-- Entries held because the queue is full, oldest first. -/
  held : List (List Byte)
  /-- CQ_FULL has been raised for this episode. -/
  full : Bool
deriving DecidableEq, Repr

/-- A completion queue after reset (PHASE 1, COUNT 1). -/
def Cq.reset : Cq := ⟨false, false, 0, 0, 0, 0, 1, 0, 0, true, 0, false, [], false⟩

/-- An entry for the event queue before its PHASE is known (R280): the 16 bytes with PHASE 0, and the vector that a
SOURCE entry signals. -/
structure EvEntry where
  /-- The 16 bytes, PHASE 0. -/
  bytes : List Byte
  /-- The source's own vector, none for the other kinds. -/
  vec : Option Nat
deriving DecidableEq, Repr

/-- The queue engine's state beside its queues (R264, R275, R281). -/
structure Engine where
  /-- Queue whose command was started last, for the round robin (R275). -/
  last : Nat
  /-- Completions held under R264: completion queue and entry, in order. -/
  heldC : List (Nat × List Byte)
  /-- Event entries held under R264. -/
  heldE : List EvEntry
  /-- Event entries dropped since the last written entry. -/
  dropped : Nat
  /-- EVQ_OVERFLOW has been raised since the last written entry or ENABLE. -/
  ovf : Bool
  /-- The queues in the order in which their commands were accepted, oldest first (R275). -/
  order : List Nat
deriving DecidableEq, Repr

/-- The PCI Express function (R263 to R265, R283). -/
structure Pcie where
  /-- D3hot. -/
  d3 : Bool
  /-- Bus Master Enable. -/
  bme : Bool
  /-- Link up. -/
  up : Bool
  /-- Link speed code. -/
  speed : Nat
  /-- Link width code. -/
  width : Nat
  /-- MSI-X Enable. -/
  msix : Bool
  /-- MSI-X Function Mask. -/
  fmask : Bool
  /-- PBA bits that are set. -/
  pba : List Nat
  /-- PME_En. -/
  pmeEn : Bool
  /-- PME_Status. -/
  pmeSt : Bool
  /-- Max_Read_Request_Size: 128 bytes times 2 to this power (R263). -/
  mrrs : Nat
  /-- Completion Timeout Value (R265). -/
  cto : Nat
  /-- AER error status, by the bits of the PCI Express Base Specification (R266). -/
  aer : W32
  /-- AER header log, 4 DW (R266). -/
  hdr : List W32
deriving DecidableEq, Repr

/-! ### Events, DMA, matrix (11) -/

/-- An event source (R285 to R294). -/
structure Src where
  /-- PENDING. -/
  pend : Bool
  /-- ACTIVE and ACTIVE_AT. -/
  act : Option Nat
  /-- PRIO. -/
  prio : Nat
  /-- TARGET. -/
  tgt : Nat
  /-- UNDELIVERABLE has been raised for it (R292). -/
  undel : Bool
deriving DecidableEq, Repr

/-- A source after reset. -/
def Src.reset : Src := ⟨false, none, 0, 0, false⟩

/-- A DMA channel (R295 to R298). -/
structure Dma where
  /-- SRC, 40 bits. -/
  src : Nat
  /-- DST, 40 bits. -/
  dst : Nat
  /-- COUNT. -/
  cnt : Nat
  /-- QOS. -/
  qos : Nat
  /-- SRC_FIX. -/
  srcFix : Bool
  /-- DST_FIX. -/
  dstFix : Bool
  /-- BUSY. -/
  busy : Bool
  /-- DONE. -/
  done : Bool
  /-- STOPPED. -/
  stopped : Bool
  /-- LAST_ISSUER. -/
  lastIss : Bool
  /-- MASTER. -/
  master : Nat
deriving DecidableEq, Repr

/-- A channel after reset (QOS 6). -/
def Dma.reset : Dma := ⟨0, 0, 0, 6, false, false, false, false, false, false, 0⟩

/-! ### Power, time, boot (12) -/

/-- STATE of a power domain (R307). -/
inductive DomSt where
  /-- 0 OFF. -/
  | off
  /-- 1 RAMP. -/
  | ramp
  /-- 2 CLEAR. -/
  | clear
  /-- 3 ON. -/
  | on
  /-- 4 DRAIN. -/
  | drain
deriving DecidableEq, Repr

/-- A power domain (R306 to R309). -/
structure Dom where
  /-- STATE. -/
  st : DomSt
  /-- Clock step, clusters only. -/
  step : Nat
  /-- POWER_SETs that this domain has accepted and not completed, oldest first: queue and ON; queue 64 for a command whose
  completion is discarded (R268). -/
  cmds : List (Nat × Bool)
deriving DecidableEq, Repr

/-- Domain d after reset: 46, 48 and 49 ON, the others OFF (R307). -/
def Dom.reset (d : Nat) : Dom := ⟨if d = 46 ∨ d = 48 ∨ d = 49 then .on else .off, 7, []⟩

/-- Device time (R319 to R322). -/
structure Clock where
  /-- DT in ns. -/
  dt : Nat
  /-- 32-bit fraction of a ns. -/
  frac : Nat
  /-- DT_HI latch. -/
  hi : W32
  /-- DT_RATE, 0.001 ppm. -/
  rate : Int
  /-- SLEW, 0.001 ppm. -/
  slew : Int
  /-- DT of the last accepted PPS edge. -/
  edge : Option Nat
  /-- DT has been stepped since the last edge. -/
  stepped : Bool
  /-- PPS_OUT level. -/
  ppsOut : Bool
  /-- SYSCLK runs (R338). -/
  sysclk : Bool
deriving DecidableEq, Repr

/-- The backup domain (R316 to R318). -/
structure Calendar where
  /-- Seconds, 33 bits. -/
  sec : Nat
  /-- Sub-second ticks, 15 bits. -/
  sub : Nat
  /-- Held CAL_SEC_LO write. -/
  lo : W32
  /-- Snapshot: seconds and ticks latched by a read of CAL_SEC_LO. -/
  snapSec : Nat
  /-- Snapshot of the ticks. -/
  snapSub : Nat
  /-- Trim accumulator, in units of 0.05 ppm of a tick. -/
  trimAcc : Int
  /-- CAL_STATUS.RANGE. -/
  range : Bool
deriving DecidableEq, Repr

/-- Where boot stands (R329). -/
inductive BootPh where
  /-- The Ridge memories clear. -/
  | ridgeClear
  /-- The power controller switches domains on; the ROM loads. -/
  | load
  /-- The kernel runs and boot is done. -/
  | done
  /-- Stopped with an error, or the reserved mode. -/
  | stop
deriving DecidableEq, Repr

/-- The domains that boot switches on once control is ON, in order: field port groups and Shingle groups, then clusters
(R329). -/
def bootOrder : List Nat := [44, 45, 40, 41, 42, 43] ++ List.range 32

/-- Boot, thermal and test state (R314, R315, R326, R348). -/
structure Misc where
  /-- BOOT_MODE latched at PORST_N. -/
  mode : Nat
  /-- Boot phase. -/
  boot : BootPh
  /-- THERM_WARN may be raised. -/
  warnArmed : Bool
  /-- THERM_CRIT may be raised. -/
  critArmed : Bool
  /-- A temperature has been read since PORST_N. -/
  hot : Bool
  /-- THERMTRIP_N is latched low. -/
  trip : Bool
  /-- The backup domain runs on VBAT (R340). -/
  onVbat : Bool
  /-- JTAG instruction register. -/
  jtag : Byte
  /-- CAL_LOST waits for the next boot (R318). -/
  calLost : Bool
  /-- The boot under way has fallen back to host mode (R326). -/
  fellBack : Bool
  /-- The domains whose memories clear; 32 stands for the store (R158, R323). -/
  clearing : List Nat
  /-- The domains that boot has yet to switch on, in order (R329). -/
  toBoot : List Nat
  /-- Device time at which boot switches on its next domains (R329). -/
  bootAt : Nat
deriving DecidableEq, Repr

/-- Progress of a scrubber class (R159, R160). -/
structure Scrub where
  /-- Next word of the lap. -/
  pos : Nat
  /-- Skipped words (memory, word) to return to. -/
  todo : List (Nat × Nat)
  /-- Device time at the start of the lap, moved with every step of device time. -/
  since : Int
  /-- SCRUB_SLOW has been raised in this lap. -/
  slow : Bool
deriving DecidableEq, Repr

/-- A scrubber at the start of a lap. -/
def Scrub.reset : Scrub := ⟨0, [], 0, false⟩

/-- What leaves the device, for the trace `out`. Log entry 6, DESIGN CHOICE. -/
inductive Emit where
  /-- A frame of an OUT or LATE set: its lane, the moment of its first preamble byte in tenths of ns of device time, and its bytes
  from the destination address to the FCS (R191, R196 to R198). -/
  | frame (lane t0 : Nat) (bytes : List Byte)
  /-- A PTP message: lane, kind, domain, logMessageInterval, and the time it carries or, for an event message, its own timestamp;
  0 Sync, 1 Follow_Up, 2 Announce, 3 peer-delay request, 4 peer-delay answer, 5 its Follow_Up (R213, R214). -/
  | ptp (lane kind domain interval time : Nat)
  /-- A write to host memory. -/
  | hostWrite (addr : Nat) (bytes : List Byte)
  /-- A read request to host memory for a queue. -/
  | hostRead (q addr len : Nat)
  /-- An MSI-X message of a vector: address and data of its table entry. -/
  | msix (v addr data : Nat)
  /-- A PM_PME message. -/
  | pme
  /-- The completion of a BAR4 read: the bytes, and whether it is poisoned (R156). -/
  | bar4Data (bytes : List Byte) (poisoned : Bool)
  /-- A Completer Abort for a BAR4 request (R302). -/
  | bar4Abort
  /-- The value a BAR0 read with a side effect, or an alias read, returns. -/
  | readData (bytes : List Byte)
  /-- Unsupported Request (R264, R266). -/
  | unsupported
deriving DecidableEq, Repr

/-! ### The device -/

/-- The state of the device. -/
structure State where
  /-- Commands that are waiting, first in, first out. -/
  pending : List Instr
  /-- Counter of free values: the model's own. -/
  free : Nat
  /-- The BAR0 register bank by offset; an unlisted register holds its reset value. -/
  regs : Tab W32
  /-- The store, by offset. -/
  store : Memory
  /-- Store bytes in uncorrectable error. -/
  storeBad : List Nat
  /-- Clusters 0 to 31. -/
  clusters : Tab Cluster
  /-- Tasklet record memory, word 64 * t + w. -/
  recs : Tab W32
  /-- Dispatcher state of the tasklets. -/
  tasks : Tab Task
  /-- Instances released and not ended, oldest release first. -/
  jobs : List Job
  /-- Pages pinned by PAGE_PIN: (cluster, address). -/
  hostPins : List (Nat × Nat)
  /-- Counter of frame mappings (R126). -/
  mapClock : Nat
  /-- Field input slots, 512 * line + slot. -/
  inSlots : Tab Slot
  /-- Field output slots. -/
  outSlots : Tab Slot
  /-- Internal slots. -/
  intSlots : Tab Slot
  /-- Allocator classes. -/
  alloc : Tab AllocClass
  /-- Correlator slot records, word 8 * slot + w. -/
  calRec : Tab W32
  /-- Correlator slots. -/
  cal : Tab CalSlot
  /-- Stopped dithers not yet acknowledged. -/
  stoppedD : List Stopped
  /-- Generation descriptors 0 to 7. -/
  gens : Tab Gen
  /-- Last generation number given (R180). -/
  genNum : Nat
  /-- Baseline generation number. -/
  baseline : Nat
  /-- Directory of the baseline generation, kept for D_BASE after its descriptor has gone FREE (R181, R183). -/
  baseDir : List DirEnt
  /-- Its pages as they stood at its adoption, at their store offsets. -/
  baseMem : Memory
  /-- Generations submitted, for their order. -/
  genOrder : Nat
  /-- Line records, word 8 * line + w. -/
  lineRec : Tab W32
  /-- Partner records, word 8 * p + w. -/
  partRec : Tab W32
  /-- Lanes 0 to 15. -/
  lanes : Tab Lane
  /-- Partner status. -/
  partners : Tab Partner
  /-- Cores: 0 to 63 the Shingles, 64 the Ridge. -/
  cores : Tab Core
  /-- The Ridge. -/
  ridge : Ridge
  /-- Submission queues. -/
  sqs : Tab Sq
  /-- Completion queues; 64 is the event queue. -/
  cqs : Tab Cq
  /-- Queue engine. -/
  engine : Engine
  /-- PCI Express function. -/
  pcie : Pcie
  /-- Event sources. -/
  srcs : Tab Src
  /-- Stacks of running priorities (PRIO, source), top first, by target. -/
  running : Tab (List (Nat × Nat))
  /-- Last source claimed at host target v. -/
  claims : Tab (Option Nat)
  /-- DMA channels. -/
  dmas : Tab Dma
  /-- The DMA channel whose turn was last (R296). -/
  dmaLast : Nat
  /-- Atomic latches: 3 * master + 0 OPND, 1 CMP, 2 OLD. -/
  latches : Tab W64
  /-- Power domains. -/
  doms : Tab Dom
  /-- Device time. -/
  clk : Clock
  /-- Calendar. -/
  cald : Calendar
  /-- Boot, thermal, test. -/
  misc : Misc
  /-- Scrubbers. -/
  scrubs : Tab Scrub
  /-- BAR4 accesses held while the store clears (R158), oldest first: offset, length, and the bytes of a write. -/
  heldBar : List (Nat × Nat × Option (List Byte))
  /-- What has left the device, newest first. -/
  out : List Emit
deriving DecidableEq, Repr

/-- The machine right after PORST_N at the first power-up (R323, R329, R331), BOOT_MODE 0b00 (log entry 10).
Log entry 9, DESIGN CHOICE. Log entry 12, DESIGN CHOICE. Log entry 13, PRESUMED. -/
def State.reset : State :=
  { pending := [], free := 0, regs := [], store := [], storeBad := [], clusters := [], recs := [], tasks := [], jobs := [],
    hostPins := [], mapClock := 0, inSlots := [], outSlots := [], intSlots := [], alloc := [], calRec := [], cal := [],
    stoppedD := [], gens := [], genNum := 0, baseline := 0, baseDir := [], baseMem := [], genOrder := 0, lineRec := [], partRec := [], lanes := [],
    partners := [], cores := [],
    ridge := { stopped := false, clearing := true, kcq := [], kcCall := 0, kcTarget := 0, sa := 0, logs := 0 },
    sqs := [], cqs := [],
    engine := { last := 63, heldC := [], heldE := [], dropped := 0, ovf := false, order := [] },
    pcie := { d3 := false, bme := false, up := false, speed := 0, width := 0, msix := false, fmask := false, pba := [],
              pmeEn := false, pmeSt := false, mrrs := 2, cto := 0, aer := 0, hdr := [0, 0, 0, 0] },
    srcs := [], running := [], claims := [], dmas := [], dmaLast := 15, latches := [], doms := [],
    clk := { dt := 0, frac := 0, hi := 0, rate := 0, slew := 0, edge := none, stepped := false, ppsOut := false,
             sysclk := true },
    cald := { sec := 0, sub := 0, lo := 0, snapSec := 0, snapSub := 0, trimAcc := 0, range := false },
    misc := { mode := 0, boot := .ridgeClear, warnArmed := true, critArmed := true, hot := false, trip := false,
              onVbat := false, jtag := 1, calLost := true, fellBack := false, clearing := [32], toBoot := bootOrder,
              bootAt := 0 },
    scrubs := [], heldBar := [], out := [] }

/-- What exec and step answer. -/
abbrev Answer := Host.Outcome State Fault Refusal

end Sys2Proof.Machine
end

