-- ==== Sys2Proof/Machine/Access.lean ====
section
/-!
DEFINITION. Machine/Access.lean: reading and replacing the entries of the state's tables.
-/
namespace Sys2Proof.Machine

/-- Cluster c. -/
def State.cluster (s : State) (k : Nat) : Cluster := Tab.get (fun _ => Cluster.reset) s.clusters k
/-- Cluster c: replaced. -/
def State.setCluster (s : State) (k : Nat) (v : Cluster) : State :=
  { s with clusters := Tab.set (fun _ => Cluster.reset) s.clusters k v }
/-- Cluster c: changed by a function. -/
def State.updCluster (s : State) (k : Nat) (g : Cluster → Cluster) : State := s.setCluster k (g (s.cluster k))

/-- Word of the tasklet record memory, at 64 * t + w (R100). -/
def State.recW (s : State) (k : Nat) : W32 := Tab.get (fun _ => 0) s.recs k
/-- Word of the tasklet record memory, at 64 * t + w (R100): replaced. -/
def State.setRecW (s : State) (k : Nat) (v : W32) : State :=
  { s with recs := Tab.set (fun _ => 0) s.recs k v }
/-- Word of the tasklet record memory, at 64 * t + w (R100): changed by a function. -/
def State.updRecW (s : State) (k : Nat) (g : W32 → W32) : State := s.setRecW k (g (s.recW k))

/-- Dispatcher state of tasklet t. -/
def State.task (s : State) (k : Nat) : Task := Tab.get (fun _ => Task.reset) s.tasks k
/-- Dispatcher state of tasklet t: replaced. -/
def State.setTask (s : State) (k : Nat) (v : Task) : State :=
  { s with tasks := Tab.set (fun _ => Task.reset) s.tasks k v }
/-- Dispatcher state of tasklet t: changed by a function. -/
def State.updTask (s : State) (k : Nat) (g : Task → Task) : State := s.setTask k (g (s.task k))

/-- Field input slot 512 * line + slot. -/
def State.inSlot (s : State) (k : Nat) : Slot := Tab.get (fun _ => Slot.reset) s.inSlots k
/-- Field input slot 512 * line + slot: replaced. -/
def State.setInSlot (s : State) (k : Nat) (v : Slot) : State :=
  { s with inSlots := Tab.set (fun _ => Slot.reset) s.inSlots k v }
/-- Field input slot 512 * line + slot: changed by a function. -/
def State.updInSlot (s : State) (k : Nat) (g : Slot → Slot) : State := s.setInSlot k (g (s.inSlot k))

/-- Field output slot 512 * line + slot. -/
def State.outSlot (s : State) (k : Nat) : Slot := Tab.get (fun _ => Slot.reset) s.outSlots k
/-- Field output slot 512 * line + slot: replaced. -/
def State.setOutSlot (s : State) (k : Nat) (v : Slot) : State :=
  { s with outSlots := Tab.set (fun _ => Slot.reset) s.outSlots k v }
/-- Field output slot 512 * line + slot: changed by a function. -/
def State.updOutSlot (s : State) (k : Nat) (g : Slot → Slot) : State := s.setOutSlot k (g (s.outSlot k))

/-- Internal slot. -/
def State.intSlot (s : State) (k : Nat) : Slot := Tab.get (fun _ => Slot.reset) s.intSlots k
/-- Internal slot: replaced. -/
def State.setIntSlot (s : State) (k : Nat) (v : Slot) : State :=
  { s with intSlots := Tab.set (fun _ => Slot.reset) s.intSlots k v }
/-- Internal slot: changed by a function. -/
def State.updIntSlot (s : State) (k : Nat) (g : Slot → Slot) : State := s.setIntSlot k (g (s.intSlot k))

/-- Allocator class k (R130). -/
def State.cls (s : State) (k : Nat) : AllocClass := Tab.get (fun _ => AllocClass.reset) s.alloc k
/-- Allocator class k (R130): replaced. -/
def State.setCls (s : State) (k : Nat) (v : AllocClass) : State :=
  { s with alloc := Tab.set (fun _ => AllocClass.reset) s.alloc k v }
/-- Allocator class k (R130): changed by a function. -/
def State.updCls (s : State) (k : Nat) (g : AllocClass → AllocClass) : State := s.setCls k (g (s.cls k))

/-- Word of a correlator slot record, at 8 * slot + w (R173). -/
def State.calW (s : State) (k : Nat) : W32 := Tab.get (fun _ => 0) s.calRec k
/-- Word of a correlator slot record, at 8 * slot + w (R173): replaced. -/
def State.setCalW (s : State) (k : Nat) (v : W32) : State :=
  { s with calRec := Tab.set (fun _ => 0) s.calRec k v }
/-- Word of a correlator slot record, at 8 * slot + w (R173): changed by a function. -/
def State.updCalW (s : State) (k : Nat) (g : W32 → W32) : State := s.setCalW k (g (s.calW k))

/-- Correlator slot. -/
def State.calSlot (s : State) (k : Nat) : CalSlot := Tab.get (fun _ => CalSlot.reset) s.cal k
/-- Correlator slot: replaced. -/
def State.setCalSlot (s : State) (k : Nat) (v : CalSlot) : State :=
  { s with cal := Tab.set (fun _ => CalSlot.reset) s.cal k v }
/-- Correlator slot: changed by a function. -/
def State.updCalSlot (s : State) (k : Nat) (g : CalSlot → CalSlot) : State := s.setCalSlot k (g (s.calSlot k))

/-- Generation descriptor. -/
def State.gen (s : State) (k : Nat) : Gen := Tab.get (fun _ => Gen.reset) s.gens k
/-- Generation descriptor: replaced. -/
def State.setGen (s : State) (k : Nat) (v : Gen) : State :=
  { s with gens := Tab.set (fun _ => Gen.reset) s.gens k v }
/-- Generation descriptor: changed by a function. -/
def State.updGen (s : State) (k : Nat) (g : Gen → Gen) : State := s.setGen k (g (s.gen k))

/-- Word of a line record, at 8 * line + w (R194). -/
def State.lineW (s : State) (k : Nat) : W32 := Tab.get (fun _ => 0) s.lineRec k
/-- Word of a line record, at 8 * line + w (R194): replaced. -/
def State.setLineW (s : State) (k : Nat) (v : W32) : State :=
  { s with lineRec := Tab.set (fun _ => 0) s.lineRec k v }
/-- Word of a line record, at 8 * line + w (R194): changed by a function. -/
def State.updLineW (s : State) (k : Nat) (g : W32 → W32) : State := s.setLineW k (g (s.lineW k))

/-- Word of a partner record, at 8 * p + w (R194). -/
def State.partW (s : State) (k : Nat) : W32 := Tab.get (fun _ => 0) s.partRec k
/-- Word of a partner record, at 8 * p + w (R194): replaced. -/
def State.setPartW (s : State) (k : Nat) (v : W32) : State :=
  { s with partRec := Tab.set (fun _ => 0) s.partRec k v }
/-- Word of a partner record, at 8 * p + w (R194): changed by a function. -/
def State.updPartW (s : State) (k : Nat) (g : W32 → W32) : State := s.setPartW k (g (s.partW k))

/-- Lane l. -/
def State.lane (s : State) (k : Nat) : Lane := Tab.get (fun _ => Lane.reset) s.lanes k
/-- Lane l: replaced. -/
def State.setLane (s : State) (k : Nat) (v : Lane) : State :=
  { s with lanes := Tab.set (fun _ => Lane.reset) s.lanes k v }
/-- Lane l: changed by a function. -/
def State.updLane (s : State) (k : Nat) (g : Lane → Lane) : State := s.setLane k (g (s.lane k))

/-- Partner p. -/
def State.partner (s : State) (k : Nat) : Partner := Tab.get (fun _ => Partner.reset) s.partners k
/-- Partner p: replaced. -/
def State.setPartner (s : State) (k : Nat) (v : Partner) : State :=
  { s with partners := Tab.set (fun _ => Partner.reset) s.partners k v }
/-- Partner p: changed by a function. -/
def State.updPartner (s : State) (k : Nat) (g : Partner → Partner) : State := s.setPartner k (g (s.partner k))

/-- Core k: 0 to 63 the Shingles, 64 the Ridge. -/
def State.core (s : State) (k : Nat) : Core := Tab.get (Core.reset) s.cores k
/-- Core k: 0 to 63 the Shingles, 64 the Ridge: replaced. -/
def State.setCore (s : State) (k : Nat) (v : Core) : State :=
  { s with cores := Tab.set (Core.reset) s.cores k v }
/-- Core k: 0 to 63 the Shingles, 64 the Ridge: changed by a function. -/
def State.updCore (s : State) (k : Nat) (g : Core → Core) : State := s.setCore k (g (s.core k))

/-- Submission queue q. -/
def State.sq (s : State) (k : Nat) : Sq := Tab.get (fun _ => Sq.reset) s.sqs k
/-- Submission queue q: replaced. -/
def State.setSq (s : State) (k : Nat) (v : Sq) : State :=
  { s with sqs := Tab.set (fun _ => Sq.reset) s.sqs k v }
/-- Submission queue q: changed by a function. -/
def State.updSq (s : State) (k : Nat) (g : Sq → Sq) : State := s.setSq k (g (s.sq k))

/-- Completion queue q; 64 is the event queue. -/
def State.cq (s : State) (k : Nat) : Cq := Tab.get (fun _ => Cq.reset) s.cqs k
/-- Completion queue q; 64 is the event queue: replaced. -/
def State.setCq (s : State) (k : Nat) (v : Cq) : State :=
  { s with cqs := Tab.set (fun _ => Cq.reset) s.cqs k v }
/-- Completion queue q; 64 is the event queue: changed by a function. -/
def State.updCq (s : State) (k : Nat) (g : Cq → Cq) : State := s.setCq k (g (s.cq k))

/-- Event source i. -/
def State.src (s : State) (k : Nat) : Src := Tab.get (fun _ => Src.reset) s.srcs k
/-- Event source i: replaced. -/
def State.setSrc (s : State) (k : Nat) (v : Src) : State :=
  { s with srcs := Tab.set (fun _ => Src.reset) s.srcs k v }
/-- Event source i: changed by a function. -/
def State.updSrc (s : State) (k : Nat) (g : Src → Src) : State := s.setSrc k (g (s.src k))

/-- Stack of running priorities of target t (R287). -/
def State.stack (s : State) (k : Nat) : List (Nat × Nat) := Tab.get (fun _ => []) s.running k
/-- Stack of running priorities of target t (R287): replaced. -/
def State.setStack (s : State) (k : Nat) (v : List (Nat × Nat)) : State :=
  { s with running := Tab.set (fun _ => []) s.running k v }
/-- Stack of running priorities of target t (R287): changed by a function. -/
def State.updStack (s : State) (k : Nat) (g : List (Nat × Nat) → List (Nat × Nat)) : State := s.setStack k (g (s.stack k))

/-- Last source claimed at host target v. -/
def State.claimed (s : State) (k : Nat) : Option Nat := Tab.get (fun _ => none) s.claims k
/-- Last source claimed at host target v: replaced. -/
def State.setClaimed (s : State) (k : Nat) (v : Option Nat) : State :=
  { s with claims := Tab.set (fun _ => none) s.claims k v }
/-- Last source claimed at host target v: changed by a function. -/
def State.updClaimed (s : State) (k : Nat) (g : Option Nat → Option Nat) : State := s.setClaimed k (g (s.claimed k))

/-- DMA channel n. -/
def State.dma (s : State) (k : Nat) : Dma := Tab.get (fun _ => Dma.reset) s.dmas k
/-- DMA channel n: replaced. -/
def State.setDma (s : State) (k : Nat) (v : Dma) : State :=
  { s with dmas := Tab.set (fun _ => Dma.reset) s.dmas k v }
/-- DMA channel n: changed by a function. -/
def State.updDma (s : State) (k : Nat) (g : Dma → Dma) : State := s.setDma k (g (s.dma k))

/-- Atomic latch, at 3 * master + 0 OPND, 1 CMP, 2 OLD (R303). -/
def State.latch (s : State) (k : Nat) : W64 := Tab.get (fun _ => 0) s.latches k
/-- Atomic latch, at 3 * master + 0 OPND, 1 CMP, 2 OLD (R303): replaced. -/
def State.setLatch (s : State) (k : Nat) (v : W64) : State :=
  { s with latches := Tab.set (fun _ => 0) s.latches k v }
/-- Atomic latch, at 3 * master + 0 OPND, 1 CMP, 2 OLD (R303): changed by a function. -/
def State.updLatch (s : State) (k : Nat) (g : W64 → W64) : State := s.setLatch k (g (s.latch k))

/-- Power domain d. -/
def State.dom (s : State) (k : Nat) : Dom := Tab.get (Dom.reset) s.doms k
/-- Power domain d: replaced. -/
def State.setDom (s : State) (k : Nat) (v : Dom) : State :=
  { s with doms := Tab.set (Dom.reset) s.doms k v }
/-- Power domain d: changed by a function. -/
def State.updDom (s : State) (k : Nat) (g : Dom → Dom) : State := s.setDom k (g (s.dom k))

/-- Scrubber class k. -/
def State.scr (s : State) (k : Nat) : Scrub := Tab.get (fun _ => Scrub.reset) s.scrubs k
/-- Scrubber class k: replaced. -/
def State.setScr (s : State) (k : Nat) (v : Scrub) : State :=
  { s with scrubs := Tab.set (fun _ => Scrub.reset) s.scrubs k v }
/-- Scrubber class k: changed by a function. -/
def State.updScr (s : State) (k : Nat) (g : Scrub → Scrub) : State := s.setScr k (g (s.scr k))

/-- A register of the bank (R3). -/
def State.reg (s : State) (r : Reg) : W32 := Tab.get regReset s.regs r.off
/-- A register of the bank, replaced. -/
def State.setReg (s : State) (r : Reg) (v : W32) : State := { s with regs := Tab.set regReset s.regs r.off v }
/-- A register of the bank, changed by a function. -/
def State.updReg (s : State) (r : Reg) (g : W32 → W32) : State := s.setReg r (g (s.reg r))
/-- Increment a counter, which wraps. -/
def State.bump (s : State) (r : Reg) : State := s.updReg r (· + 1)
/-- Add to a counter, which wraps. -/
def State.bumpBy (s : State) (r : Reg) (n : Nat) : State := s.updReg r (· + BitVec.ofNat 32 n)
/-- Add something to the trace. -/
def State.emit (s : State) (e : Emit) : State := { s with out := e :: s.out }
/-- Apply a step for each number of a list, in order. -/
def State.forEach {α : Type} (s : State) (l : List α) (g : State → α → State) : State := l.foldl g s

end Sys2Proof.Machine
end

