-- ==== Sys2Proof/Machine/Ops.lean ====
section
/-!
DEFINITION. Machine/Ops.lean: the named operations that every unit shares: event edges (R285, R292), the fault status
(R153), store accesses (R154, R156), the allocator (R130 to R134), line and partner records (R193, R194) and host memory.
-/
namespace Sys2Proof.Machine

/-! ### Power domains and groups (R306) -/

/-- A power domain is ON (R307). -/
def State.isOn (s : State) (d : Nat) : Bool := decide ((s.dom d).st = .on)

/-- JTAG has disconnected the balls from the device logic: EXTEST, HIGHZ, CLAMP, EXTEST_PULSE or EXTEST_TRAIN (R348). -/
def State.ballsOff (s : State) : Bool := [0, 3, 4, 5, 6].contains s.misc.jtag.toNat

/-- Device time counts: SYSCLK runs, and the always-on domain has power (R319, R338, R340). -/
def State.timeRuns (s : State) : Bool := s.clk.sysclk && s.isOn 48

/-- Requests of the host reach the function: the PCIe block has power and its balls are connected (R348). -/
def State.hostHears (s : State) : Bool := s.isOn 46 && !s.ballsOff

/-- A power domain has power and answers accesses: ON, or DRAIN until its switch opens (R302, R307; log entry 17). -/
def State.powered (s : State) (d : Nat) : Bool := decide ((s.dom d).st = .on) || decide ((s.dom d).st = .drain)

/-- The Shingle group of Shingle n is in service. -/
def State.shingleOn (s : State) (n : Nat) : Bool := s.isOn (40 + n / 16)

/-! ### Clearing (R158, R164, R323) -/

/-- MEM_CLEAR_OTHER bit of a domain that is not a cluster: STORE, RIDGE or a Shingle group. -/
def clearBit (d : Nat) : Nat := if d < 40 then 0 else if d = 48 then 1 else d - 38

/-- A domain has memories that clear at power-up. -/
def hasMemory (d : Nat) : Bool := decide (d < 44) || decide (d = 48)

/-- The entry of `Misc.clearing` that stands for a domain: the store banks are one. -/
def clearKey (d : Nat) : Nat := if 32 ≤ d ∧ d < 40 then 32 else d

/-- The memories of a domain start or end clearing, as MEM_CLEAR shows. -/
def State.setClearing (s : State) (d : Nat) (b : Bool) : State :=
  let l := s.misc.clearing.filter (· ≠ clearKey d)
  let s1 := { s with misc := { s.misc with clearing := if b then clearKey d :: l else l } }
  if d < 32 then s1.updReg .memClearCl (fun v => setBit v d b) else s1.updReg .memClearOther (fun v => setBit v (clearBit d) b)

/-- The memories of a domain are clearing.  MEM_CLEAR shows it but for what a function-level reset makes of the registers (R164):
log entry 133, DEDUCED. -/
def State.clearing (s : State) (d : Nat) : Bool := s.misc.clearing.contains (clearKey d)

/-- The store is clearing, or has not been cleared since boot began. -/
def State.storeClearing (s : State) : Bool := s.clearing 32

/-! ### Event edges -/

/-- The target is a Shingle whose group's power domain is off (R292). -/
def State.targetOff (s : State) (t : Nat) : Bool :=
  decide (1 ≤ t) && decide (t ≤ 64) && decide ((s.dom (40 + (t - 1) / 16)).st = .off)

/-- An edge of a source sets its pending bit and counts it; an edge that merges is counted (R285). -/
def State.edge (s : State) (i : Nat) : State :=
  let s1 := s.bump (.srcCount i)
  let s2 := if (s.src i).pend then s1.bump (.evcCount 2) else s1
  s2.updSrc i (fun r => { r with pend := true })

/-- UNDELIVERABLE is raised for a pending source whose target is a Shingle of a group that is off, once until the source
is claimed or retargeted (R292). -/
def State.undeliverable (s : State) (i : Nat) : State :=
  let r := s.src i
  if r.pend && s.targetOff r.tgt && !r.undel then
    ((s.updSrc i (fun r => { r with undel := true })).bump (.evcCount 1)).edge 491
  else s

/-- Raise a source: an edge, and UNDELIVERABLE where the source becomes pending at a target without power.
Log entry 109, DESIGN CHOICE. -/
def State.raise (s : State) (i : Nat) : State :=
  if (s.src i).pend then s.edge i else (s.edge i).undeliverable i

/-- Raise a source when a condition holds. -/
def State.raiseIf (s : State) (b : Bool) (i : Nat) : State := if b then s.raise i else s

/-! ### Fault status -/

/-- FAULT_STATUS as it reads: RIDGE shows whether the Ridge is stopped (R164). -/
def State.faultStatus (s : State) : W32 :=
  setBit (s.reg .faultStatus) 3 s.ridge.stopped

/-- FAULT_N is low while a FAULT_STATUS bit is 1 (R153). -/
def State.faultN (s : State) : Bool := decide (s.faultStatus = 0)

/-- LOCKUP_N is low while the Ridge is stopped or a LOCKUP_SRC bit is 1 (R162, R244). -/
def State.lockupN (s : State) : Bool :=
  !s.ridge.stopped && decide (s.reg (.lockupSrc 0) = 0) && decide (s.reg (.lockupSrc 1) = 0)

/-- FAULT_N_SET is raised when FAULT_STATUS goes from all zero to nonzero (R153). -/
def State.faultEdge (old s : State) : State :=
  s.raiseIf (decide (old.faultStatus = 0) && decide (s.faultStatus ≠ 0)) 442

/-- Both cores of the Ridge stop: RIDGE_DOWN, FAULT_STATUS.RIDGE (R162). -/
def State.ridgeDown (s : State) : State :=
  if s.ridge.stopped then s
  else State.faultEdge s ({ s with ridge := { s.ridge with stopped := true } }.raise 447)

/-- Set a bit of FAULT_STATUS. -/
def State.setFault (s : State) (n : Nat) : State :=
  State.faultEdge s (s.updReg .faultStatus (fun v => setBit v n true))

/-- UNCORRECTABLE: a non-store error that nothing rebuilds (R155, R163). -/
def State.uncorrectable (s : State) : State := (s.setFault 1).raise 440

/-- A word has been rebuilt: CORRECTED of its class and the CORRECTED event (R155, R163). -/
def State.corrected (s : State) (k : Nat) : State := (s.bump (.corrected k)).raise 439

/-! ### Decode errors -/

/-- An access that decodes to the default target (R302): MTX_ERR records address, master and direction; DECODE_ERR.
Log entry 33, DEDUCED. -/
def State.decodeError (s : State) (addr master : Nat) (wr : Bool) : State :=
  let s1 := (s.setReg .mtxErrAddrLo (BitVec.ofNat 32 addr)).setReg .mtxErrAddrHi (BitVec.ofNat 32 (addr / 2 ^ 32 % 256))
  ((s1.setReg .mtxErrInfo (BitVec.ofNat 32 (2 ^ 31 + 256 * (master % 256) + b2n wr))).bump (.mtxCount 0)).raise 490

/-! ### Host memory -/

/-- Bytes that a read of host memory returns: free values. -/
def State.hostBytes (s : State) (a n : Nat) : List Byte :=
  (List.range n).map (fun i => Config.hostByte s.free (a + i))

/-- The state after a read of host memory. -/
def State.usedHost (s : State) : State := { s with free := s.free + 1 }

/-- Write host memory. -/
def State.hostWrite (s : State) (a : Nat) (bs : List Byte) : State := s.emit (.hostWrite a bs)

/-! ### The store -/

/-- Bytes of the store. -/
def storeSize : Nat := 0x2000000

/-- The bank of a store offset (R299). -/
def storeBank (off : Nat) : Nat := nfld off 14 12

/-- Every byte of a range lies in the store and in banks with power. -/
def State.storeOn (s : State) (off n : Nat) : Bool :=
  decide (off + n ≤ storeSize) &&
  (List.range 8).all (fun b => s.powered (32 + b) || (List.range ((n + 4095) / 4096 + 1)).all (fun i =>
    let o := off / 4096 * 4096 + 4096 * i
    decide (storeBank o ≠ b) || decide (off + n ≤ o)))

/-- Read bytes of the store. -/
def State.storeRead (s : State) (off n : Nat) : List Byte := Memory.readList s.store off n

/-- The first byte in uncorrectable error of a range. -/
def State.storeBadAt (s : State) (off n : Nat) : Option Nat :=
  s.storeBad.find? (fun a => decide (off ≤ a) && decide (a < off + n))

/-- Write bytes of the store: the writer generates the parity (R154). -/
def State.storeWrite (s : State) (off : Nat) (bs : List Byte) : State :=
  { s with store := Memory.writeList s.store off bs,
           storeBad := s.storeBad.filter (fun a => decide (a < off) || decide (off + bs.length ≤ a)) }

/-- An uncorrectable store error at a byte, found by a reader (R155, R156, R164). -/
def State.storeError (s : State) (a : Nat) : State :=
  (((s.bump (.accessFound 4)).setReg .storeErrAddr (BitVec.ofNat 32 a)).setFault 1).raise 438

/-- The effect of a read on the error records: a bad byte in the range is reported. -/
def State.storeChecked (s : State) (off n : Nat) : State :=
  match s.storeBadAt off n with
  | some a => s.storeError a
  | none => s

/-- Little-endian value of `n` store bytes. -/
def State.storeNat (s : State) (off n : Nat) : Nat := leNat (s.storeRead off n)

/-- A write of a matrix master to the store: an error response, outside the store or at a bank without power, is a decode
error of that master (R302). -/
def State.busWrite (s : State) (master off : Nat) (bs : List Byte) : State × Bool :=
  if s.storeOn off bs.length then (s.storeWrite off bs, true) else (s.decodeError (0x100000000 + off) master true, false)

/-- The next free value, and the state in which it has been used. -/
def State.freeNext (s : State) : State × Nat := ({ s with free := s.free + 1 }, Config.freeVal s.free)

/-! ### The allocator -/

/-- Bytes of a buffer of class k (R130). -/
def classSize (k : Nat) : Nat := 256 * 4 ^ k

/-- The smallest class that holds a length; 4 for none. -/
def classFor (n : Nat) : Nat := if n ≤ 256 then 0 else if n ≤ 1024 then 1 else if n ≤ 4096 then 2 else if n ≤ 16384 then 3 else 4

/-- Buffers of a class allocated to a holder. -/
def AllocClass.usedBy (a : AllocClass) (h : Holder) : Nat := a.used.countP (fun u => decide (u.2 = h))

/-- Standing reservation of a holder. -/
def AllocClass.resvOf (a : AllocClass) (h : Holder) : Nat := sumNat ((a.resv.filter (fun r => decide (r.1 = h))).map (·.2))

/-- The holders with a standing reservation. -/
def AllocClass.holders (a : AllocClass) : List Holder := (a.resv.map (·.1)).eraseDups

/-- The outstanding reservation of a class (R133). -/
def AllocClass.outstanding (a : AllocClass) : Nat := sumNat (a.holders.map (fun h => a.resvOf h - a.usedBy h))

/-- A class after a change, with the ALLOC_LOW event (R133). -/
def State.setCls_low (s : State) (k : Nat) (a : AllocClass) : State :=
  let low := (s.reg (.allocLow k)).toNat
  let d (c : AllocClass) : Int := (c.freeL.length : Int) - (c.outstanding : Int)
  let s1 := s.setCls k a
  s1.raiseIf (decide (low ≠ 0) && decide ((low : Int) ≤ d (s.cls k)) && decide (d a < (low : Int))) 358

/-- A refused unreserved request (R133). -/
def State.allocMiss (s : State) (k : Nat) : State := (s.bump (.allocMiss k)).raise 359

/-- What a request of a holder gets: reserved while the holder has a standing reservation in the class, otherwise refused
when the free count does not exceed the outstanding reservation (R132, R133). -/
def State.allocAnswer (s : State) (k : Nat) (h : Holder) : Option Nat :=
  let a := s.cls k
  if decide (0 < a.resvOf h) || decide (a.outstanding < a.freeL.length) then a.freeL.head? else none

/-- The state after a request. -/
def State.allocTake (s : State) (k : Nat) (h : Holder) : State :=
  match s.allocAnswer k h with
  | some b => let a := s.cls k; s.setCls_low k { a with freeL := a.freeL.tail, used := a.used ++ [(b, h)] }
  | none => s.allocMiss k

/-- Free a buffer of class k: it goes to the tail of the list (R130). -/
def State.allocFree (s : State) (k b : Nat) : State :=
  let a := s.cls k
  if a.used.any (fun u => decide (u.1 = b)) then
    s.setCls_low k { a with freeL := a.freeL ++ [b], used := a.used.filter (fun u => decide (u.1 ≠ b)) }
  else s

/-- The class in which a buffer is allocated, and its holder. -/
def State.ownerOf (s : State) (b : Nat) : Option (Nat × Holder) :=
  (List.range 4).findSome? (fun k => ((s.cls k).used.find? (fun u => decide (u.1 = b))).map (fun u => (k, u.2)))

/-- A buffer is pinned by an instance (R10). -/
def State.isPinned (s : State) (b : Nat) : Bool := s.jobs.any (fun j => j.pins.contains (some b))

/-- A buffer is the newest of its slot. -/
def State.isNewest (s : State) (b : Nat) : Holder → Bool
  | .inSlot k => decide ((s.inSlot k).buf = some b)
  | .outSlot k => decide ((s.outSlot k).buf = some b)
  | .intSlot k => decide ((s.intSlot k).buf = some b)
  | _ => true

/-- Free a slot's buffer once it is superseded and unpinned (R10, R134). -/
def State.reclaim (s : State) (b : Nat) : State :=
  match s.ownerOf b with
  | some (k, h) => if s.isNewest b h || s.isPinned b then s else s.allocFree k b
  | none => s

/-- Reclaim each of a list of buffers. -/
def State.reclaimAll (s : State) (bs : List (Option Nat)) : State :=
  s.forEach bs (fun s b => match b with | some b => s.reclaim b | none => s)

/-- Add to the standing reservation of a holder. -/
def State.reserve (s : State) (k : Nat) (h : Holder) (n : Nat) : State :=
  let a := s.cls k
  if n = 0 then s else s.setCls_low k { a with resv := a.resv ++ [(h, n)] }

/-- Take one entry (holder, count) from the standing reservations. -/
def State.unreserve (s : State) (k : Nat) (h : Holder) (n : Nat) : State :=
  let a := s.cls k
  s.setCls_low k { a with resv := a.resv.erase (h, n) }

/-! ### Line and partner records -/

/-- Word w of the record of line l. -/
def State.lineRecW (s : State) (l w : Nat) : W32 := s.lineW (8 * l + w)

/-- Word w of the record of partner p. -/
def State.partRecW (s : State) (p w : Nat) : W32 := s.partW (8 * p + w)

/-- The lane is port A of a ring (R194). -/
def State.isRing (s : State) (l : Nat) : Bool := (s.lane l).hasRec && bit (s.lineRecW l 0) 16

/-- Port A of the line or ring of a lane (R193). -/
def State.portA (s : State) (l : Nat) : Nat := if l % 2 = 1 ∧ s.isRing (l - 1) then l - 1 else l

/-- The lanes of a line or ring, port A first. -/
def State.portsOf (s : State) (a : Nat) : List Nat := if s.isRing a then [a, a + 1] else [a]

/-- BASE_CYCLE in ns. -/
def State.baseNs (s : State) (l : Nat) : Nat := fld (s.lineRecW l 0) 13 0 * 1000
/-- Apply offset in ns. -/
def State.applyNs (s : State) (l : Nat) : Nat := (s.lineRecW l 1).toNat
/-- T_ic in ns after T0. -/
def State.ticNs (s : State) (l : Nat) : Nat := (s.lineRecW l 2).toNat
/-- MISS_LIMIT. -/
def State.missLimit (s : State) (l : Nat) : Nat := fld (s.lineRecW l 0) 31 24
/-- T0 of cycle n of line l, device time in ns. Log entry 2, DESIGN CHOICE. -/
def State.t0Of (s : State) (l n : Nat) : Nat := (s.lane l).dt0 + n * s.baseNs l

/-- The partner belongs to its line (R194). -/
def State.pValid (s : State) (p : Nat) : Bool := bit (s.partRecW p 0) 31
/-- LINE of a partner. -/
def State.pLine (s : State) (p : Nat) : Nat := fld (s.partRecW p 0) 19 16
/-- SLOT of a partner. -/
def State.pSlot (s : State) (p : Nat) : Nat := fld (s.partRecW p 0) 8 0
/-- POS of a partner. -/
def State.pPos (s : State) (p : Nat) : Nat := fld (s.partRecW p 1) 9 0
/-- IN_MAX of a partner. -/
def State.pInMax (s : State) (p : Nat) : Nat := fld (s.partRecW p 6) 29 16
/-- IN_LEN of a partner. -/
def State.pInLen (s : State) (p : Nat) : Nat := fld (s.partRecW p 6) 13 0
/-- OUT_LEN of a partner. -/
def State.pOutLen (s : State) (p : Nat) : Nat := fld (s.partRecW p 7) 12 0
/-- MAC address of a partner. -/
def State.pMac (s : State) (p : Nat) : Nat := (s.partRecW p 2).toNat + 2 ^ 32 * fld (s.partRecW p 3) 15 0

/-- The numbers of the partner records that are valid: those with a listed word 0. -/
def State.validPartners (s : State) : List Nat :=
  (s.partRec.filter (fun e => decide (e.1 % 8 = 0) && bit e.2 31)).map (fun e => e.1 / 8)

/-- The valid partners of a line or ring named by its port A. -/
def State.partnersOf (s : State) (a : Nat) : List Nat := s.validPartners.filter (fun p => decide (s.pLine p = a))

/-- The valid partner that holds a slot of a line or ring. -/
def State.partnerAt (s : State) (a slot : Nat) : Option Nat :=
  (s.partnersOf a).find? (fun p => decide (s.pSlot p = slot))

/-- A line runs (R350). -/
def State.runs (s : State) (l : Nat) : Bool := (s.lane (s.portA l)).run

/-- At least one line runs: DSP_STATUS.RUNNING (R136). -/
def State.anyRuns (s : State) : Bool := (List.range 16).any (fun l => (s.lane l).run)

/-- The cycle of a line in which a device time lies: the latest T0 at or before it (R13, R115), none before cycle 0. -/
def State.cycleAt (s : State) (l t : Nat) : Option Nat :=
  let d := s.lane l
  if d.dt0 ≤ t ∧ s.baseNs l ≠ 0 then some ((t - d.dt0) / s.baseNs l) else none

/-! ### Masks of bits -/

/-- Clear bits of a register. -/
def State.clrBits (s : State) (r : Reg) (m : W32) : State := s.updReg r (fun v => v &&& ~~~m)

/-- The registers whose offset a predicate picks take their reset values. -/
def State.resetRegs (s : State) (p : Nat → Bool) : State := { s with regs := s.regs.filter (fun e => !p e.1) }

end Sys2Proof.Machine
end

