-- ==== Sys2Proof/Machine/Complete.lean ====
section
/-!
DEFINITION. Machine/Complete.lean: what the queue engine writes to the host: MSI-X signals (R283), completion entries and
their moderation (R278, R279, R282), event entries (R280, R281), and the end of a command (R271, R272).
-/
namespace Sys2Proof.Machine

/-! ### The configuration of the function (R263, R265) -/

/-- Vendor ID and Device ID, and the same pair as the subsystem's (R263). -/
def pciIds : Nat × Nat := (0x1F5B, 0x3216)

/-- Class code (R263). -/
def pciClass : Nat := 0x118000

/-- Revision ID: ID_REV bits [7:0] (R349). -/
def State.pciRevision (s : State) : Nat := fld (s.reg .idRev) 7 0

/-- Max_Payload_Size Supported, in bytes (R263). -/
def maxPayload : Nat := 512

/-- Completion Timeout Ranges Supported: A and B (R265). -/
def ctoRanges : Nat := 0b0011

/-- PME_Support: D3hot alone; bit 3 of the five of the PCI Power Management capability (R263). -/
def pmeSupport : Nat := 0b01000

/-- Bytes of the largest read request: Max_Read_Request_Size (R263). -/
def State.readMax (s : State) : Nat := 128 * 2 ^ Nat.min 5 s.pcie.mrrs

/-- The completion timeout in µs that the Completion Timeout Value selects (R265). -/
def State.ctoTime (s : State) : Nat :=
  match s.pcie.cto with
  | 1 => 50 | 2 => 1000 | 5 => 16000 | 6 => 65000
  | _ => Nat.min 50000 (Nat.max 50 (fld (s.reg .pcieCto) 15 0))

/-- QE_STATUS.HELD: link down, D3hot or Bus Master Enable 0 (R264). Log entry 82, DEDUCED. -/
def State.qeHeld (s : State) : Bool := !s.pcie.up || s.pcie.d3 || !s.pcie.bme

/-- AER status bit of a poisoned TLP; the bits are those of the PCI Express Base Specification.  Log entry 131, PRESUMED. -/
def aerPoisoned : Nat := 12
/-- Completion Timeout. -/
def aerTimeout : Nat := 14
/-- Completer Abort. -/
def aerAbort : Nat := 15
/-- Unexpected Completion. -/
def aerUnexpected : Nat := 16
/-- Unsupported Request. -/
def aerUnsupported : Nat := 20

/-- AER logs an error: its status bit, the header of the first one, which is free, and AER_LOGGED (R266, R284). -/
def State.aer (s : State) (b : Nat) : State :=
  let h := if s.pcie.aer = 0 then (List.range 4).map (fun i => BitVec.ofNat 32 (Config.freeVal (s.free + i))) else s.pcie.hdr
  ({ s with free := s.free + 4, pcie := { s.pcie with aer := setBit s.pcie.aer b true, hdr := h } }).raise 453

/-- Mask bit of vector v in its MSI-X table entry. -/
def State.vecMasked (s : State) (v : Nat) : Bool := bit (s.reg (.msixTab (4 * v + 3))) 0

/-- Send the MSI-X message of vector v; QE_COUNT[7] counts it. -/
def State.sendMsix (s : State) (v : Nat) : State :=
  (s.emit (.msix v ((s.reg (.msixTab (4 * v))).toNat + 2 ^ 32 * (s.reg (.msixTab (4 * v + 1))).toNat)
    (s.reg (.msixTab (4 * v + 2))).toNat)).bump (.qeCount 7)

/-- Set PBA bit v. -/
def State.setPba (s : State) (v : Nat) : State := { s with pcie := { s.pcie with pba := addNew s.pcie.pba v } }

/-- A signal of vector v; in D0 one that finds PBA bit v set gives no message of its own (R283). -/
def State.signal (s : State) (v : Nat) : State :=
  if !s.pcie.msix then s
  else if s.pcie.d3 then
    let s1 := s.setPba v
    if s.pcie.pmeEn then ({ s1 with pcie := { s1.pcie with pmeSt := true } }).emit .pme else s1
  else if s.qeHeld || s.pcie.fmask || s.vecMasked v || s.pcie.pba.contains v then s.setPba v
  else s.sendMsix v

/-- The PBA bits whose messages can go: function in D0, MSI-X enabled, vector and function unmasked, engine not held. -/
def State.flushPba (s : State) : State :=
  if s.pcie.msix && !s.qeHeld && !s.pcie.fmask then
    s.forEach ((List.range 64).filter (fun v => s.pcie.pba.contains v && !s.vecMasked v)) (fun s v =>
      ({ s with pcie := { s.pcie with pba := s.pcie.pba.filter (· ≠ v) } }).sendMsix v)
  else s

/-- WAKE_N is low while PME_Status and PME_En are 1 (R283). -/
def State.wakeN (s : State) : Bool := !(s.pcie.pmeSt && s.pcie.pmeEn)

/-! ### Rings -/

/-- SIZE as it acts: values above 4,096 act as 4,096 (R268). -/
def sizeEff (n : Nat) : Nat := Nat.min n 4096

/-- Free places of a ring (R279). -/
def Cq.room (c : Cq) : Nat := let z := sizeEff c.size; if z = 0 then 0 else (c.head + z - c.tail % z - 1) % z

/-- The entry with its PHASE bit, bit 7 of byte 15 (R278, R280). -/
def phased (e : List Byte) (ph : Bool) : List Byte :=
  e.take 15 ++ [(e.getD 15 0 &&& 0x7F) ||| (if ph then 0x80 else 0)]

/-- A ring after its entry TAIL has been written (R278). -/
def Cq.advance (c : Cq) : Cq :=
  let t := (c.tail + 1) % Nat.max 1 (sizeEff c.size)
  { c with tail := t, phase := if t = 0 then !c.phase else c.phase }

/-- Write entry TAIL of ring k to host memory and advance. -/
def State.ringWrite (s : State) (k : Nat) (e : List Byte) : State :=
  let c := s.cq k
  (s.hostWrite (c.base.toNat + 16 * c.tail) (phased e c.phase)).setCq k c.advance

/-- A signal of a completion queue sets its count to 0 and stops its timer (R282). -/
def State.cqSignal (s : State) (k : Nat) : State :=
  (s.updCq k (fun c => { c with cnt := 0, timerOn := false })).signal (s.cq k).vec

/-- Moderation after a written completion (R282). -/
def State.moderate (s : State) (k : Nat) : State :=
  let c := s.cq k
  if !c.ien then s
  else if c.timer = 0 ∨ Nat.max 1 c.count ≤ c.cnt + 1 then s.cqSignal k
  else s.setCq k { c with cnt := c.cnt + 1, timerOn := true }

/-- Moderation after a written completion, unless it is evaluated later (`now` false). -/
def State.moderateIf (s : State) (now : Bool) (k : Nat) : State := if now then s.moderate k else s

/-- A completion that its queue takes now, or holds while it is full (R279). Log entry 80, DEDUCED. -/
def State.cqPut (s : State) (now : Bool) (k : Nat) (e : List Byte) : State :=
  let c := s.cq k
  if c.en && decide (0 < c.room) && c.held.isEmpty then (s.ringWrite k e).moderateIf now k
  else (s.setCq k { c with held := c.held ++ [e], full := true }).raiseIf (!c.full) 448

/-- Hand a completion entry to completion queue k; held while the engine is held (R264). -/
def State.postCompletion (s : State) (k : Nat) (e : List Byte) : State :=
  if s.qeHeld then { s with engine := { s.engine with heldC := s.engine.heldC ++ [(k, e)] } } else s.cqPut true k e

/-- Write held completions of queue k while it has room (R279). -/
def State.cqDrain (s : State) (now : Bool) (k : Nat) : Nat → State
  | 0 => s
  | n + 1 =>
    let c := s.cq k
    match c.held with
    | [] => s.setCq k { c with full := false }
    | e :: t =>
      if c.en && decide (0 < c.room) then
        (((s.setCq k { c with held := t }).ringWrite k e).moderateIf now k).cqDrain now k n
      else s

/-! ### The event queue (completion queue 64) -/

/-- An event entry with PHASE 0 (R280). -/
def evBytes (dt detail code kind arg : Nat) : List Byte :=
  leBytes 8 dt ++ leBytes 4 detail ++ leBytes 2 code ++ leBytes 2 (kind * 4096 + arg % 4096)

/-- The signal that follows an event entry: a SOURCE entry's own vector, else VECTOR when IEN = 1 (R282). -/
def State.evSignal (s : State) : Option Nat → State
  | some v => s.signal v
  | none => if (s.cq 64).ien then s.signal (s.cq 64).vec else s

/-- Drop an event entry (R281). -/
def State.evDrop (s : State) (e : EvEntry) : State :=
  let s1 := { s with engine := { s.engine with dropped := s.engine.dropped + 1, ovf := true } }
  let s2 := (s1.bump (.qeCount 6)).raiseIf (!s.engine.ovf) 451
  match e.vec with
  | some v => s2.signal v
  | none => s2

/-- Write an event entry and signal. -/
def State.evWrite (s : State) (e : EvEntry) : State :=
  (({ s with engine := { s.engine with ovf := false } }).ringWrite 64 e.bytes).evSignal e.vec

/-- An event entry that the event queue takes or drops (R281). -/
def State.evPut (s : State) (e : EvEntry) : State :=
  let c := s.cq 64
  if !c.en || decide (c.room = 0) then s.evDrop e
  else if s.engine.dropped = 0 then s.evWrite e
  else if 2 ≤ c.room then
    let d : EvEntry := ⟨evBytes s.clk.dt s.engine.dropped 0 3 0, none⟩
    (({ s with engine := { s.engine with dropped := 0 } }).evWrite d).evWrite e
  else s.evDrop e

/-- Hand an event entry to the engine: held, up to 64, while the engine is held (R264). -/
def State.postEvent (s : State) (e : EvEntry) : State :=
  if !s.qeHeld then s.evPut e
  else if s.engine.heldE.length < 64 then { s with engine := { s.engine with heldE := s.engine.heldE ++ [e] } }
  else s.evDrop e

/-- Room in completion queue k: held completions are written, unless the engine is held (R264, R279). -/
def State.cqRoom (s : State) (now : Bool) (k : Nat) : State :=
  if s.qeHeld || (s.cq k).held.isEmpty then s else s.cqDrain now k ((s.cq k).held.length + 1)

/-- Moderation of `n` written completions of queue k (R264, R282). -/
def State.moderateN (s : State) (k n : Nat) : State := s.forEach (List.range n) (fun s _ => s.moderate k)

/-- HELD has returned to 0: the held completions, then the held events, then moderation of the completions written, then the
pending messages (R264, R283). Log entry 110, DEDUCED. -/
def State.releaseHeld (s : State) : State :=
  if s.qeHeld then s else
  let c := s.engine.heldC
  let e := s.engine.heldE
  let s1 := ({ s with engine := { s.engine with heldC := [], heldE := [] } }).forEach (List.range 64) (State.cqRoom · false ·)
  let s2 := (s1.forEach c (fun s x => s.cqPut false x.1 x.2)).forEach e (fun s x => s.evPut x)
  let written (k : Nat) : Nat :=
    (s.cq k).held.length + (c.filter (fun x => decide (x.1 = k))).length - (s2.cq k).held.length
  (s2.forEach (List.range 64) (fun s k => s.moderateN k (written k))).flushPba

/-! ### The end of a command -/

/-- Status codes (R278). -/
inductive Status where
  /-- 0x00. -/
  | success
  /-- 0x01. -/
  | invalidOpcode
  /-- 0x02. -/
  | invalidField
  /-- 0x03. -/
  | invalidState
  /-- 0x04. -/
  | busy
  /-- 0x05, with the reason of R112. -/
  | admitRejected (reason : Nat)
  /-- 0x06. -/
  | noAck
  /-- 0x07 to 0x0A: image errors of R257. -/
  | image (n : Fin 4)
  /-- 0x0B. -/
  | chainLimit
  /-- 0x0C. -/
  | hostReadFailed
  /-- 0x0D. -/
  | ridgeDown
deriving DecidableEq, Repr

/-- The STATUS byte. -/
def Status.code : Status → Nat
  | .success => 0 | .invalidOpcode => 1 | .invalidField => 2 | .invalidState => 3 | .busy => 4 | .admitRejected _ => 5
  | .noAck => 6 | .image n => 7 + n.val | .chainLimit => 0xB | .hostReadFailed => 0xC | .ridgeDown => 0xD

/-- The REASON byte. -/
def Status.reason : Status → Nat
  | .admitRejected r => r
  | _ => 0

/-- A completion entry with PHASE 0 (R278). -/
def compBytes (cid : Nat) (st : Status) (sqHead result index q : Nat) (part resumed : Bool) : List Byte :=
  leBytes 2 cid ++ leBytes 1 st.code ++ leBytes 1 st.reason ++ leBytes 2 (sqHead % 4096) ++ leBytes 2 0 ++ leBytes 4 result ++
    leBytes 2 index ++ leBytes 1 q ++ leBytes 1 (2 * b2n part + b2n resumed)

/-- Count the end of a command (R268). -/
def State.countEnd (s : State) (st : Status) : State :=
  let s1 := s.bump (.qeCount (if st = .success then 0 else 1))
  match st with
  | .hostReadFailed => s1.bump (.qeCount 3)
  | .chainLimit => s1.bump (.qeCount 4)
  | _ => s1

/-- HEAD past one ring entry. -/
def Sq.nextHead (x : Sq) : Nat := (x.head + 1) % Nat.max 1 (sizeEff x.size)

/-- The engine stops a queue (R272): RUN cleared, STOP set, QUEUE_STOPPED raised. -/
def State.stopQueue (s : State) (q why : Nat) : State :=
  (s.updSq q (fun x => { x with run := false, stop := why })).raise 449

/-- End the segment of queue q with a completion for a descriptor (R271). -/
def State.endSegment (s : State) (q at_ cid index : Nat) (st : Status) (result : Nat) : State :=
  let x := s.sq q
  match x.seg with
  | none => s
  | some g =>
    let h := if g.ring then x.nextHead else x.head
    let s1 := s.setSq q { x with head := h, seg := none, nextAt := none, rd := none, cmd := none, point := some (at_, cid) }
    (s1.countEnd st).postCompletion x.cq (compBytes cid st h result index q false g.resumed)

/-- The command in progress of queue q ends with a status and a result: its completion, or the way to the next
descriptor of its chain (R271, R272). -/
def State.finish (s : State) (q : Nat) (st : Status) (result : Nat) : State :=
  let x := s.sq q
  match x.cmd, x.seg with
  | some c, some g =>
    if decide (st ≠ .success) || c.d.fin then
      let s1 := s.endSegment q c.d.at_ c.d.cid g.links st result
      if st = .hostReadFailed then s1.stopQueue q 2 else s1
    else if (if x.hop = 0 then 1024 else x.hop) < g.links + 1 then
      (s.endSegment q c.d.at_ c.d.cid g.links .chainLimit result).stopQueue q 1
    else
      let s1 := s.setSq q { x with
        cmd := none, seg := some { g with links := g.links + 1 }, nextAt := some c.d.next, point := some (c.d.at_, c.d.cid) }
      let s2 := s1.countEnd .success
      if c.d.comp then s2.postCompletion x.cq (compBytes c.d.cid st x.head result g.links q true g.resumed) else s2
  | _, _ => s

/-- The command in progress of queue q has acted and completes later (R275). -/
def State.wait (s : State) (q : Nat) : State :=
  s.updSq q (fun x => { x with cmd := x.cmd.map (fun c => { c with st := .waiting }) })

/-- The queue's command waits and has an opcode. -/
def State.waits (s : State) (q op : Nat) : Bool :=
  match (s.sq q).cmd with
  | some c => decide (c.st = .waiting) && decide (c.d.op = op)
  | none => false

/-- End a waiting command of queue q; without one the completion is discarded (R268). -/
def State.finishWaiting (s : State) (q op : Nat) (st : Status) (result : Nat) : State :=
  if s.waits q op then s.finish q st result else s

end Sys2Proof.Machine
end

