-- ==== Sys2Proof/Machine/Tasklet.lean ====
section
/-!
DEFINITION. Machine/Tasklet.lean: the tasklet record and its validity (R100 to R102), the bounds, windows, densities and
frames of admission (R105 to R110), and the buffers it reserves (R131, R132).
-/
namespace Sys2Proof.Machine

/-- A tasklet record by word (R101). -/
abbrev Rec := Nat → W32

/-- The record that record memory holds for tasklet t. -/
def State.recOf (s : State) (t : Nat) : Rec := fun w => s.recW (64 * t + w)

/-- Replace word w of record t. -/
def State.setRecOf (s : State) (t w : Nat) (v : W32) : State := s.setRecW (64 * t + w) v

/-- Half-word i of the words from w upwards: low half for even i. -/
def Rec.half (r : Rec) (w i : Nat) : Nat := if i % 2 = 0 then fld (r (w + i / 2)) 15 0 else fld (r (w + i / 2)) 31 16

/-- CLASS is best-effort. -/
def Rec.bestEffort (r : Rec) : Bool := decide (fld (r 0) 29 28 = 1)
/-- CHECKED. -/
def Rec.checked (r : Rec) : Bool := bit (r 0) 27
/-- HOSTIMG. -/
def Rec.hostImg (r : Rec) : Bool := bit (r 0) 26
/-- RELEASE is TIME. -/
def Rec.timed (r : Rec) : Bool := decide (fld (r 0) 25 24 = 1)
/-- RCLASS. -/
def Rec.rclass (r : Rec) : Nat := fld (r 0) 23 20
/-- LINE. -/
def Rec.line (r : Rec) : Nat := fld (r 0) 19 16
/-- K. -/
def Rec.k (r : Rec) : Nat := fld (r 0) 15 12
/-- PHASE. -/
def Rec.phase (r : Rec) : Nat := fld (r 0) 9 0
/-- DEADLINE in µs. -/
def Rec.deadline (r : Rec) : Nat := fld (r 1) 23 0
/-- REL_OFFSET in µs. -/
def Rec.relOff (r : Rec) : Nat := fld (r 2) 23 0
/-- CYCLES. -/
def Rec.cycles (r : Rec) : Nat := fld (r 3) 31 16
/-- N_IN. -/
def Rec.nIn (r : Rec) : Nat := fld (r 3) 15 11
/-- N_OUT. -/
def Rec.nOut (r : Rec) : Nat := fld (r 3) 10 7
/-- STATE_WORDS. -/
def Rec.stateWords (r : Rec) : Nat := fld (r 4) 28 16
/-- TSET. -/
def Rec.tset (r : Rec) : Nat := fld (r 4) 11 0
/-- CLUSTER_MASK. -/
def Rec.cmask (r : Rec) : W32 := r 5
/-- IMAGE_ADDR. -/
def Rec.imgAddr (r : Rec) : Nat := (r 6).toNat + 2 ^ 32 * fld (r 7) 7 0
/-- IMAGE_PAGES. -/
def Rec.imgPages (r : Rec) : Nat := fld (r 7) 14 8
/-- Input entry i. -/
def Rec.inp (r : Rec) (i : Nat) : Nat := r.half 8 i
/-- Output entry i. -/
def Rec.outp (r : Rec) (i : Nat) : W32 := r (16 + i)
/-- Plan entry e. -/
def Rec.plan (r : Rec) (e : Nat) : Nat := r.half 24 e
/-- ADMITTED. -/
def Rec.admitted (r : Rec) : Bool := bit (r 56) 31
/-- HOME. -/
def Rec.home (r : Rec) : Nat := fld (r 56) 28 24
/-- LAST. -/
def Rec.last (r : Rec) : Nat := fld (r 56) 20 16
/-- CKPT. -/
def Rec.ckpt (r : Rec) : Bool := bit (r 56) 0
/-- CKPT_ADDR. -/
def Rec.ckptAddr (r : Rec) : Nat := fld (r 58) 24 0

/-- KIND of plan entry e. -/
def Rec.kind (r : Rec) (e : Nat) : Nat := nfld (r.plan e) 15 13
/-- WRITE of plan entry e. -/
def Rec.writable (r : Rec) (e : Nat) : Bool := nbit (r.plan e) 12
/-- INDEX of plan entry e. -/
def Rec.index (r : Rec) (e : Nat) : Nat := nfld (r.plan e) 11 0

/-- The plan entries of a kind. -/
def Rec.entries (r : Rec) (kind : Nat) : List Nat := (List.range 64).filter (fun e => decide (r.kind e = kind))

/-- The plan entries of a kind in a space. -/
def Rec.entriesIn (r : Rec) (kind space : Nat) : List Nat := (r.entries kind).filter (fun e => decide (e / 16 = space))

/-- An input entry names an internal slot. -/
def Rec.inInternal (r : Rec) (i : Nat) : Bool := nbit (r.inp i) 15
/-- NOWAIT of an input. -/
def Rec.inNowait (r : Rec) (i : Nat) : Bool := nbit (r.inp i) 14
/-- SLOT of an input. -/
def Rec.inSlot (r : Rec) (i : Nat) : Nat := nfld (r.inp i) 11 0
/-- An output entry names an internal slot. -/
def Rec.outInternal (r : Rec) (i : Nat) : Bool := bit (r.outp i) 31
/-- SLOT of an output. -/
def Rec.outSlot (r : Rec) (i : Nat) : Nat := fld (r.outp i) 27 16
/-- LENGTH of an output entry. -/
def Rec.outLength (r : Rec) (i : Nat) : Nat := fld (r.outp i) 13 0

/-- The inputs of a record. -/
def Rec.ins (r : Rec) : List Nat := List.range r.nIn
/-- The outputs of a record. -/
def Rec.outs (r : Rec) : List Nat := List.range r.nOut

/-! ### Admitted tasklets -/

/-- The admitted tasklets, ascending. -/
def State.admitted (s : State) : List Nat :=
  (s.recs.filter (fun e => decide (e.1 % 64 = 56) && bit e.2 31)).map (fun e => e.1 / 64)

/-- The holder of an input's buffer: the slot. -/
def State.inHolder (s : State) (r : Rec) (i : Nat) : Holder :=
  if r.inInternal i then .intSlot (r.inSlot i) else .inSlot (512 * s.portA r.line + r.inSlot i)

/-- The holder of an output's buffer: the slot. -/
def State.outHolder (s : State) (r : Rec) (i : Nat) : Holder :=
  if r.outInternal i then .intSlot (r.outSlot i) else .outSlot (512 * s.portA r.line + r.outSlot i)

/-- The slot of a holder. -/
def State.slotOf (s : State) : Holder → Slot
  | .inSlot k => s.inSlot k
  | .outSlot k => s.outSlot k
  | .intSlot k => s.intSlot k
  | _ => Slot.reset

/-- Replace the slot of a holder. -/
def State.setSlotOf (s : State) (h : Holder) (v : Slot) : State :=
  match h with
  | .inSlot k => s.setInSlot k v
  | .outSlot k => s.setOutSlot k v
  | .intSlot k => s.setIntSlot k v
  | _ => s

/-- The admitted producer of a slot and the output that feeds it. -/
def State.producer (s : State) (h : Holder) : Option (Nat × Nat) :=
  s.admitted.findSome? (fun t => let r := s.recOf t
    (r.outs.find? (fun i => decide (s.outHolder r i = h))).map (fun i => (t, i)))

/-- The admitted tasklets that consume a slot. -/
def State.consumers (s : State) (h : Holder) : List Nat :=
  s.admitted.filter (fun t => let r := s.recOf t; r.ins.any (fun i => decide (s.inHolder r i = h)))

/-- Payload length of an input: IN_LEN of the field slot's partner, or LENGTH of the producer (R105). -/
def State.inLen (s : State) (r : Rec) (i : Nat) : Option Nat :=
  if r.inInternal i then (s.producer (.intSlot (r.inSlot i))).map (fun p => (s.recOf p.1).outLength p.2)
  else (s.partnerAt (s.portA r.line) (r.inSlot i)).map s.pInLen

/-- Length of an output: OUT_LEN of a configured field slot, or LENGTH (R101). -/
def State.outLen (s : State) (r : Rec) (i : Nat) : Option Nat :=
  if r.outInternal i then some (r.outLength i)
  else match s.partnerAt (s.portA r.line) (r.outSlot i) with
    | some p => if 0 < s.pOutLen p then some (s.pOutLen p) else none
    | none => none

/-! ### Validity (R101, R102) -/

/-- Words 0 to 7: reserved bits and ranges, the upper DEADLINE bound where LINE has a record. -/
def State.validHead (s : State) (r : Rec) : Bool :=
  decide (fld (r 0) 31 30 = 0 ∧ fld (r 0) 11 10 = 0 ∧ fld (r 1) 31 24 = 0 ∧ fld (r 2) 31 24 = 0 ∧ fld (r 3) 6 0 = 0) &&
  decide (fld (r 4) 31 29 = 0 ∧ fld (r 4) 15 12 = 0 ∧ fld (r 7) 31 15 = 0) &&
  decide (fld (r 0) 29 28 ≤ 1 ∧ fld (r 0) 25 24 ≤ 1 ∧ r.k ≤ 10 ∧ r.phase < 2 ^ r.k ∧ 1 ≤ r.deadline) &&
  (!(s.lane (s.portA r.line)).hasRec ||
    decide (r.deadline + 2 ≤ 2 ^ r.k * fld (s.lineRecW (s.portA r.line) 0) 13 0)) &&
  (if r.timed then decide (r.relOff < r.deadline) else decide (r.relOff = 0)) &&
  decide (1 ≤ r.cycles ∧ r.nIn ≤ 16 ∧ r.nOut ≤ 8 ∧ r.stateWords ≤ 4096 ∧ fld (r 6) 10 0 = 0) &&
  decide (1 ≤ r.imgPages ∧ r.imgPages ≤ 64)

/-- Input and output entries. -/
def Rec.validSlots (r : Rec) : Bool :=
  (List.range 16).all (fun i => if i < r.nIn then
      decide (nfld (r.inp i) 13 12 = 0) && (r.inInternal i || decide (r.inSlot i ≤ 511)) else decide (r.inp i = 0)) &&
  (List.range 8).all (fun i => if i < r.nOut then
      decide (fld (r.outp i) 30 28 = 0 ∧ fld (r.outp i) 15 14 = 0) &&
      (if r.outInternal i then decide (1 ≤ r.outLength i ∧ r.outLength i ≤ 16320)
       else decide (r.outSlot i ≤ 511 ∧ r.outLength i = 0)) else decide (r.outp i = 0)) &&
  (r.timed || r.ins.any (fun i => !r.inNowait i))

/-- One plan entry: KIND in its space, INDEX in range, WRITE allowed. -/
def Rec.validEntry (r : Rec) (e : Nat) : Bool :=
  let sp := e / 16; let ix := r.index e; let w := r.writable e
  let xy := decide (sp = 1) || decide (sp = 2)
  (match r.kind e with
   | 0 => decide (ix = 0) && !w
   | 1 => decide (ix < r.imgPages) && !w
   | 2 => decide (sp = 1) && decide (ix < 4)
   | 3 => xy && decide (ix < 128) && decide (ix / 8 < r.nIn)
   | 4 => xy && decide (ix < 64) && decide (ix / 8 < r.nOut)
   | 5 => decide (sp = 3) && decide (ix < 16) && !w
   | 6 => xy && decide (ix = 0)
   | _ => false) && (xy || !w) && (decide (sp ≠ 0) || decide (r.kind e ≤ 1))

/-- The pages of output i that the plan maps. -/
def Rec.outPages (r : Rec) (i : Nat) : List Nat :=
  ((r.entries 4).filter (fun e => decide (r.index e / 8 = i))).map (fun e => r.index e % 8)

/-- A list names each number below n exactly once and nothing else. -/
def exactly (n : Nat) (l : List Nat) : Bool :=
  decide (l.length = n) && (List.range n).all (fun i => l.contains i)

/-- The plan (R102). -/
def State.validPlan (s : State) (r : Rec) : Bool :=
  (List.range 64).all r.validEntry && decide (r.kind 0 = 1) &&
  exactly ((r.stateWords + 1023) / 1024) ((r.entries 2).map r.index) &&
  r.outs.all (fun i => match s.outLen r i with
    | some n => exactly ((n + 2047) / 2048) (r.outPages i)
    | none => exactly (r.outPages i).length (r.outPages i)) &&
  decide ((r.entries 3).map r.index).Nodup &&
  (r.entries 3).all (fun e => match s.inLen r (r.index e / 8) with
    | some n => decide (r.index e % 8 < Nat.max 1 (classSize (classFor (64 + n)) / 2048))
    | none => true) &&
  decide ((r.entries 5).map r.index).Nodup

/-- A record is valid (R101, R102). -/
def State.validRec (s : State) (r : Rec) : Bool := s.validHead r && r.validSlots && s.validPlan r

/-! ### Bounds (R105) -/

/-- B_in. -/
def State.bIn (s : State) (r : Rec) : Nat := sumNat (r.ins.map (fun i => 64 + (s.inLen r i).getD 0))

/-- B_out. -/
def State.bOut (s : State) (r : Rec) : Nat :=
  2 * r.stateWords + sumNat (r.outs.map (fun i => (s.outLen r i).getD 0 + if r.outInternal i then 64 else 0))

/-- Pages of INPUT, OUTPUT and SCRATCH in a space. -/
def Rec.transient (r : Rec) (space : Nat) : Nat :=
  (r.entriesIn 3 space).length + (r.entriesIn 4 space).length + (r.entriesIn 6 space).length

/-- F_zero. -/
def Rec.fZero (r : Rec) : Nat :=
  Nat.max (r.transient 1 + if r.stateWords % 1024 = 0 then 0 else 1) (r.transient 2)

/-- Frequency of a clock step, in MHz (R311). -/
def stepMHz (st : Nat) : Nat := 150 * (st + 1)

/-- S in ns at a clock step, rounded up: 500 + B_in / 4.8 + max(0, 64 F_zero / f − 400). -/
def State.sNs (s : State) (r : Rec) (st : Nat) : Nat :=
  let d := 48 * stepMHz st
  ceilDiv (500 * d + s.bIn r * 10 * stepMHz st + (64000 * 48 * r.fZero - 400 * d)) d

/-- R in ns, rounded up. -/
def Rec.rNs (r : Rec) (st : Nat) : Nat := ceilDiv (r.cycles * 1000) (stepMHz st)

/-- C in ns, rounded up: 300 + B_out / 4.8. -/
def State.cNs (s : State) (r : Rec) : Nat := ceilDiv (300 * 48 + s.bOut r * 10) 48

/-- e = S + R + C. -/
def State.eNs (s : State) (r : Rec) (st : Nat) : Nat := s.sNs r st + r.rNs st + s.cNs r

/-- w = DEADLINE − L in ns (R103, R108). -/
def State.wNs (s : State) (r : Rec) : Int :=
  (r.deadline * 1000 : Int) - (if r.timed then r.relOff * 1000 else s.ticNs (s.portA r.line) : Nat)

/-! ### Eligibility and tests (R106 to R110) -/

/-- Clock step of a cluster for every test: the one CLOCK_SET has been accepted for, else the one in force (R111, R275). -/
def State.stepOf (s : State) (c : Nat) : Nat := ((s.cluster c).newStep).getD (s.dom c).step

/-- A cluster is fenced (R147). -/
def State.fenced (s : State) (c : Nat) : Bool := bit (s.reg .fenceStatus) c

/-- SPARE_MASK bit of a cluster. -/
def State.isSpare (s : State) (c : Nat) : Bool := bit (s.reg .spareMask) c

/-- A cluster is eligible for a mask (R106, R158: its domain is ON, which follows its clearing). -/
def State.eligible (s : State) (m : W32) (c : Nat) : Bool := bit m c && s.isOn c && !s.fenced c && !s.isSpare c

/-- The tasklets G(c): admitted guaranteed ones homed on c, alone or as part of a pair. -/
def State.homedOn (s : State) (c : Nat) : List Nat :=
  s.admitted.filter (fun t => let r := s.recOf t
    !r.bestEffort && !(s.task t).homeLost && decide (if r.checked then r.home = c / 2 * 2 else r.home = c))

/-- x / y rounded up to a multiple of 2^-16, in units of 2^-16. -/
def ceil16 (x y : Nat) : Nat := ceilDiv (x * 65536) y

/-- The value of a set of guaranteed records and a floor for b at a step, in units of 2^-16 (R108); 0 for the empty set, whose
w_min has no member: log entry 123, DEDUCED. -/
def State.value (s : State) (st : Nat) (g : List Rec) (b : Nat) : Nat :=
  let es := g.map (fun r => (s.eNs r st, (s.wNs r).toNat))
  match es with
  | [] => 0
  | (_, w) :: _ =>
    sumNat (es.map (fun p => ceil16 p.1 p.2)) +
      ceil16 (es.foldl (fun m p => Nat.max m p.1) b) (es.foldl (fun m p => Nat.min m p.2) w)

/-- DENSITY_LIMIT in units of 2^-16; 257 to 511 act as 256 (R136). -/
def State.densityLimit (s : State) : Nat := 256 * Nat.min 256 (fld (s.reg .admCtl) 24 16)

/-- Every w is at least its e (R108). -/
def State.windowOk (s : State) (st : Nat) (g : List Rec) : Bool :=
  g.all (fun r => decide ((s.eNs r st : Int) ≤ s.wNs r))

/-- The clusters of the effective mask of a best-effort record, with the guaranteed sets as they stand (R110).
Log entry 30, DEDUCED.  For a Checked record the density is judged on each cluster by itself and a pair is placed by its even
cluster: log entry 124, DEDUCED. -/
def State.effMask (s : State) (r : Rec) : List Nat :=
  (List.range 32).filter (fun c => s.eligible r.cmask c &&
    (!r.checked || s.eligible r.cmask (c / 2 * 2 + (1 - c % 2)) && decide (s.stepOf c = s.stepOf (c / 2 * 2 + (1 - c % 2)))) &&
    (let st := s.stepOf c; let g := (s.homedOn c).map s.recOf
     s.windowOk st g && decide (s.value st g (s.eNs r st) ≤ s.densityLimit)))

/-- b(c) from the best-effort tasklets whose effective mask contains c. -/
def State.bBest (s : State) (c : Nat) : Nat :=
  (s.admitted.filter (fun t => (s.recOf t).bestEffort && (s.effMask (s.recOf t)).contains c)).foldl
    (fun m t => Nat.max m (s.eNs (s.recOf t) (s.stepOf c))) 0

/-- The value of cluster c as it stands (R108). -/
def State.valueOf (s : State) (c : Nat) : Nat := s.value (s.stepOf c) ((s.homedOn c).map s.recOf) (s.bBest c)

/-- The IMAGE pages a record maps in a space, by source. -/
def Rec.imagePages (r : Rec) (space : Nat) : List (Bool × Nat) :=
  (r.entriesIn 1 space).map (fun e => (r.hostImg, r.imgAddr + 2048 * r.index e))

/-- Frames of a space (R109). -/
def framesOf (space : Nat) : Nat := if space = 3 then 32 else 64

/-- Frames needed in a space by a set of guaranteed records (R109). -/
def framesNeeded (g : List Rec) (space : Nat) : Nat :=
  ((g.map (fun r => r.imagePages space)).flatten.eraseDups).length +
  sumNat (g.map (fun r => (r.entriesIn 2 space).length)) +
  2 * ((g.map (fun r => (r.entriesIn 5 space).map (fun e => (r.tset, r.index e)))).flatten.eraseDups).length +
  (g.map (fun r => r.transient space)).foldl Nat.max 0

/-- The frame test of a set of guaranteed records. -/
def framesOk (g : List Rec) : Bool := (List.range 4).all (fun sp => decide (framesNeeded g sp ≤ framesOf sp))

/-- The first test of R106 that a set of guaranteed records with a floor for b fails at a step: 4 CYCLES_LIMIT,
5 WINDOW, 6 DENSITY, 7 FRAMES; 0 when all pass. `new` are the records judged for CYCLES_LIMIT. -/
def State.testSet (s : State) (st : Nat) (new g : List Rec) (b : Nat) : Nat :=
  if new.any (fun r => decide (8 * stepMHz st < r.cycles)) then 4
  else if !s.windowOk st g then 5
  else if s.densityLimit < s.value st g b then 6
  else if !framesOk g then 7 else 0

/-- The test of a guaranteed record on cluster c, with the tasklets `g` homed there. -/
def State.testOn (s : State) (r : Rec) (c : Nat) : Nat × Nat :=
  let st := s.stepOf c; let g := r :: (s.homedOn c).map s.recOf; let b := s.bBest c
  (s.testSet st [r] g b, s.value st g b)

/-- The candidates of a record: the clusters, or the even clusters of the pairs, that are eligible (R106). -/
def State.candidates (s : State) (r : Rec) : List Nat :=
  if r.checked then
    (List.range 16).filterMap (fun p => if s.eligible r.cmask (2 * p) && s.eligible r.cmask (2 * p + 1) &&
      decide (s.stepOf (2 * p) = s.stepOf (2 * p + 1)) then some (2 * p) else none)
  else (List.range 32).filter (s.eligible r.cmask)

/-- The result of a record on a candidate: the first failing test, and the test value (R107). -/
def State.testCand (s : State) (r : Rec) (c : Nat) : Nat × Nat :=
  if r.checked then
    let a := s.testOn r c; let b := s.testOn r (c + 1)
    (if a.1 = 0 then b.1 else if b.1 = 0 then a.1 else Nat.min a.1 b.1, Nat.max a.2 b.2)
  else s.testOn r c

/-- Step 4 of R107: the home, or the reason of the failure. -/
def State.findHome (s : State) (r : Rec) : Nat ⊕ Nat :=
  let cs := (s.candidates r).map (fun c => (c, s.testCand r c))
  let ok := cs.filter (fun x => decide (x.2.1 = 0))
  match ok with
  | [] => .inr (match cs with | [] => 8 | _ => cs.foldl (fun m x => Nat.max m x.2.1) 0)
  | x :: xs => .inl (xs.foldl (fun b y => if y.2.2 < b.2.2 then y else b) x).1

/-! ### Slots, image, bandwidth, buffers (R107, R132) -/

/-- Step 2 of R107: the line has a record, slots are configured, producers exist, outputs are free.
Log entry 105, DEDUCED. -/
def State.slotsOk (s : State) (r : Rec) : Bool :=
  (s.lane (s.portA r.line)).hasRec &&
  r.ins.all (fun i => (s.inLen r i).isSome) &&
  r.outs.all (fun i => (s.outLen r i).isSome && (s.producer (s.outHolder r i)).isNone)

/-- Two ranges of the store meet. -/
def overlaps (a n b m : Nat) : Bool := decide (a < b + m) && decide (b < a + n) && decide (0 < n) && decide (0 < m)

/-- ALLOC_BASE and the size of the pool of class k. -/
def State.poolOf (s : State) (k : Nat) : Nat × Nat := ((s.reg (.allocBase k)).toNat, (s.reg (.allocCount k)).toNat * classSize k)

/-- The outbound window of an address is valid (R299). -/
def State.xlatValid (s : State) (a : Nat) : Bool := bit (s.reg (.xlatLo (nfld a 35 30))) 0

/-- Step 3 of R107: the image lies in the store and outside every pool, or in valid translation entries. -/
def State.imageOk (s : State) (r : Rec) : Bool :=
  let a := r.imgAddr; let n := 2048 * r.imgPages
  if r.hostImg then
    decide (0x8000000000 ≤ a ∧ a + n ≤ 0x9000000000) && s.xlatValid a && s.xlatValid (a + n - 1)
  else
    decide (0x100000000 ≤ a ∧ a + n ≤ 0x100000000 + storeSize) &&
    (List.range 4).all (fun k => let p := s.poolOf k; !overlaps (a - 0x100000000) n p.1 p.2)

/-- Step 5 of R107, as fractions: the traffic of records and this one against STAGE_BW. -/
def State.bandwidthOk (s : State) (r : Rec) : Bool :=
  let rs := r :: s.admitted.map s.recOf
  let ps := rs.map (fun r => (s.bIn r + s.bOut r, 2 ^ r.k * s.baseNs (s.portA r.line)))
  let d := ps.foldl (fun d p => Nat.lcm d p.2) 1
  decide (sumNat (ps.map (fun p => p.1 * (d / p.2))) ≤ fld (s.reg .admCtl) 15 8 * d)

/-- Class of the checkpoint buffer (R131). -/
def Rec.ckptClass (r : Rec) : Nat := if r.stateWords ≤ 1024 then 2 else 3

/-- The standing reservations that tasklet t with record r adds, given who is already admitted (R132): class, holder,
count.  A slot's own part comes with its producer, or for a field input slot with its first consumer. -/
def State.reservations (s : State) (t : Nat) (r : Rec) : List (Nat × Holder × Nat) :=
  let ins := (r.ins.map (fun i => (s.inHolder r i, classFor (64 + (s.inLen r i).getD 0)))).eraseDups
  let own : List (Nat × Holder × Nat) := ins.filterMap (fun p => match p.1 with
    | .inSlot _ => if (s.consumers p.1).isEmpty then some (p.2, p.1, 2) else none
    | _ => none)
  own ++ ins.map (fun p => (p.2, p.1, 1)) ++
  (r.outs.map (fun i => if r.outInternal i then (classFor (64 + r.outLength i), s.outHolder r i, 2)
    else (classFor ((s.outLen r i).getD 0), s.outHolder r i, 3))).eraseDups ++ [(r.ckptClass, .ckpt t, 1)]

/-- Class k with a list of reservations added. -/
def State.withResv (s : State) (k : Nat) (l : List (Nat × Holder × Nat)) : AllocClass :=
  let a := s.cls k
  { a with resv := a.resv ++ (l.filter (fun x => decide (x.1 = k))).map (·.2) }

/-- Step 6 of R107: the reservation is available. -/
def State.buffersOk (s : State) (l : List (Nat × Holder × Nat)) : Bool :=
  (List.range 4).all (fun k => let a := s.withResv k l
    decide (a.outstanding ≤ a.freeL.length) || !(l.any (fun x => decide (x.1 = k))))

/-- The reservations are made. -/
def State.addResv (s : State) (l : List (Nat × Holder × Nat)) : State :=
  s.forEach (List.range 4) (fun s k => if l.any (fun x => decide (x.1 = k)) then s.setCls_low k (s.withResv k l) else s)

/-- The class in which a holder has a standing reservation of a count: what admission has entered, whatever the lengths are
now. -/
def State.resvClass (s : State) (h : Holder) (n : Nat) : Option Nat :=
  (List.range 4).find? (fun k => (s.cls k).resv.contains (h, n))

/-- The reservations are returned, each in the class that holds it (R134). -/
def State.dropResv (s : State) (l : List (Nat × Holder × Nat)) : State :=
  s.forEach l (fun s x => match s.resvClass x.2.1 x.2.2 with
    | some k => s.unreserve k x.2.1 x.2.2
    | none => s)

end Sys2Proof.Machine
end

