-- ==== Sys2Proof/Machine/Gens.lean ====
section
/-!
DEFINITION. Machine/Gens.lean: generation descriptors: their states, references and buffers (R180 to R185).
-/
namespace Sys2Proof.Machine

/-- FREE, BUILDING, VERIFYING, READY, QUEUED, LOADING, CURRENT, RETIRING (R182). -/
def gFree : Nat := 0
/-- BUILDING. -/
def gBuilding : Nat := 1
/-- VERIFYING. -/
def gVerifying : Nat := 2
/-- READY. -/
def gReady : Nat := 3
/-- QUEUED. -/
def gQueued : Nat := 4
/-- LOADING. -/
def gLoading : Nat := 5
/-- CURRENT. -/
def gCurrent : Nat := 6
/-- RETIRING. -/
def gRetiring : Nat := 7

/-- The descriptor in a state. -/
def State.genIn (s : State) (st : Nat) : Option Nat := (List.range 8).find? (fun i => decide ((s.gen i).st = st))

/-- The non-FREE descriptor of a generation number. -/
def State.genNamed (s : State) (n : Nat) : Option Nat :=
  (List.range 8).find? (fun i => decide ((s.gen i).st ≠ gFree) && decide ((s.gen i).num = n))

/-- The CURRENT generation number, 0 for none. -/
def State.currentGen (s : State) : Nat :=
  match s.genIn gCurrent with
  | some i => (s.gen i).num
  | none => 0

/-- The buffers a generation holds or names. -/
def Gen.named (g : Gen) : List Nat :=
  (g.bufs ++ (g.dir.map (fun e => if 8 < e.pages then [e.b0, e.b1] else [e.b0])).flatten).eraseDups

/-- Drop the pages that a predicate picks from a cluster. -/
def State.dropPages (s : State) (c : Nat) (g : PageId → Bool) : State :=
  s.updCluster c (fun x => { x with frames := x.frames.filterMap (fun e =>
    match e.2.page with
    | some p => if g p then (if e.2.lastMap = 0 then none else some (e.1, { e.2 with page := none, ok := false })) else some e
    | none => some e) })

/-- A table page of a generation. -/
def PageId.isGen (n : Nat) : PageId → Bool
  | .table _ g _ => decide (g = n)
  | _ => false

/-- A descriptor goes FREE: its pages leave the C frames, and every buffer that no other non-FREE generation names returns to the free list (R185).
Log entry 48, DEDUCED. -/
def State.freeGen (s : State) (i : Nat) : State :=
  let g := s.gen i
  let others := ((List.range 8).filter (fun j => decide (j ≠ i) && decide ((s.gen j).st ≠ gFree))).map
    (fun j => (s.gen j).named)
  let gone := g.named.filter (fun b => !(others.flatten.contains b))
  ((s.setGen i Gen.reset).forEach gone (fun s b => s.allocFree 3 b)).forEach (List.range 32) (fun s c =>
    s.dropPages c (PageId.isGen g.num))

/-- A QUEUED generation becomes LOADING when no RETIRING generation is left (R183). -/
def State.promoteGen (s : State) : State :=
  match s.genIn gRetiring, s.genIn gQueued with
  | none, some i => s.updGen i (fun g => { g with st := gLoading })
  | _, _ => s

/-- A RETIRING generation without references goes FREE and raises GEN_FREED (R185). -/
def State.retireGen (s : State) : State :=
  match s.genIn gRetiring with
  | some i => if (s.gen i).refs = 0 then ((s.freeGen i).raise 408).promoteGen else s
  | none => s

/-- A release binds a generation (R117, R185). -/
def State.bindGen (s : State) (n : Nat) : State :=
  match s.genNamed n with
  | some i => s.updGen i (fun g => { g with refs := g.refs + 1 })
  | none => s

/-- An instance that bound a generation has ended (R185). -/
def State.unbindGen (s : State) (n : Nat) : State :=
  match s.genNamed n with
  | some i => (s.updGen i (fun g => { g with refs := g.refs - 1 })).retireGen
  | none => s

/-- Store offset of page `idx` of table set `tset` in a generation; none where it is absent: staged as zeros (R183). -/
def State.tablePage (s : State) (n tset idx : Nat) : Option Nat :=
  match s.genNamed n with
  | some i =>
    match (s.gen i).dir.find? (fun e => decide (e.tset = tset)) with
    | some e => if idx < e.pages then some (if idx < 8 then e.b0 + 2048 * idx else e.b1 + 2048 * (idx - 8)) else none
    | none => none
  | none => none

end Sys2Proof.Machine
end

