-- ==== Sys2Proof/Machine/Pager.lean ====
section
/-!
DEFINITION. Machine/Pager.lean: cluster memories and their frames, pages by source, residency, pinning, eviction, and the
queues that the pager looks over (R118, R122 to R128).
-/
namespace Sys2Proof.Machine

/-! ### Cluster memories: space 0 P, 1 X, 2 Y, 3 C -/

/-- A word of a cluster memory by physical address. -/
def Cluster.word (x : Cluster) (sp a : Nat) : W16 :=
  if sp = 0 then (Tab.get (fun _ => 0) x.p a).setWidth 16 else if sp = 1 then Tab.get (fun _ => 0) x.x a
  else if sp = 2 then Tab.get (fun _ => 0) x.y a else Tab.get (fun _ => 0) x.c a

/-- Write a word: the writer generates the parity (R154). -/
def Cluster.setWord (x : Cluster) (sp a : Nat) (v : W16) : Cluster :=
  let x1 := { x with bad := x.bad.filter (· ≠ sp * 65536 + a) }
  if sp = 0 then { x1 with p := Tab.set (fun _ => 0) x1.p a (v.setWidth 14) }
  else if sp = 1 then { x1 with x := Tab.set (fun _ => 0) x1.x a v }
  else if sp = 2 then { x1 with y := Tab.set (fun _ => 0) x1.y a v }
  else { x1 with c := Tab.set (fun _ => 0) x1.c a v }

/-- Write words from a physical address upwards. -/
def Cluster.setWords (x : Cluster) (sp : Nat) : Nat → List W16 → Cluster
  | _, [] => x
  | a, v :: vs => (x.setWord sp a v).setWords sp (a + 1) vs

/-- The word has a parity error (R154). -/
def Cluster.isBad (x : Cluster) (sp a : Nat) : Bool := x.bad.contains (sp * 65536 + a)

/-- A frame of a space. -/
def Cluster.frame (x : Cluster) (sp f : Nat) : Frame := Tab.get (fun _ => Frame.empty) x.frames (sp * 64 + f)

/-- Replace a frame. -/
def Cluster.setFrame (x : Cluster) (sp f : Nat) (v : Frame) : Cluster :=
  { x with frames := Tab.set (fun _ => Frame.empty) x.frames (sp * 64 + f) v }

/-- A frame map entry (R31). -/
def Cluster.map (x : Cluster) (sp page : Nat) : W16 := Tab.get (fun _ => 0) x.maps (sp * 16 + page)

/-- The instance on the cluster has its maps loaded: it runs, holds, drains or commits. -/
def Cluster.busyMaps (x : Cluster) : Bool :=
  match x.phase with
  | .idle | .staging => false
  | _ => true

/-- A frame is mapped by the running instance (R33, R126). -/
def Cluster.mapped (x : Cluster) (sp f : Nat) : Bool :=
  x.busyMaps && (List.range 16).any (fun p => let m := x.map sp p; bit m 15 && decide (fld m 5 0 = f))

/-- The 1,024 half-words of 2,048 bytes. -/
def halfWords : Nat → List Byte → List W16
  | 0, _ => []
  | n + 1, bs => BitVec.ofNat 16 (leAt bs 0 2) :: halfWords n (bs.drop 2)

/-! ### Pages by source (R124) -/

/-- The page that a plan entry names, for a binding of image and generation; none for the other kinds. -/
def planPage (t : Nat) (r : Rec) (host : Bool) (img gen e : Nat) : Option PageId :=
  match r.kind e with
  | 1 => some (.image host (img + 2048 * r.index e))
  | 2 => some (.state t (r.index e))
  | 5 => some (.table r.tset gen (r.index e))
  | _ => none

/-- Plan entries in the order of fetching: P, C, X, Y (R125). -/
def fetchOrder : List Nat :=
  List.range 16 ++ (List.range 16).map (48 + ·) ++ (List.range 16).map (16 + ·) ++ (List.range 16).map (32 + ·)

/-- The pages an instance needs, with their spaces, in the order of fetching. -/
def State.jobPages (s : State) (j : Job) : List (Nat × PageId) :=
  let r := s.recOf j.t
  fetchOrder.filterMap (fun e => (planPage j.t r j.host j.img j.gen e).map (fun p => (e / 16, p)))

/-- The clusters an instance uses: one, or the pair (R118). -/
def Job.clusters (j : Job) : List Nat := if j.checked then [j.cl, j.cl + 1] else [j.cl]

/-- The frame in which a page is resident and valid. -/
def State.resident (s : State) (c sp : Nat) (p : PageId) : Option Nat :=
  let x := s.cluster c
  (List.range (framesOf sp)).find? (fun f => let fr := x.frame sp f; decide (fr.page = some p) && fr.ok)

/-- The frame that holds a page, valid or not. Log entry 39, DEDUCED. -/
def State.holds (s : State) (c sp : Nat) (p : PageId) : Option Nat :=
  let x := s.cluster c
  (List.range (framesOf sp)).find? (fun f => decide ((x.frame sp f).page = some p))

/-- The clusters of a tasklet's home. -/
def Rec.homes (r : Rec) : List Nat := if r.checked then [r.home, r.home + 1] else [r.home]

/-- The generations whose TABLE pages a tasklet keeps pinned: the current one, a loading one, and those its instances are
bound to (R124, R129). -/
def State.boundGens (s : State) (t : Nat) : List Nat :=
  ((s.jobs.filter (fun j => decide (j.t = t))).map (·.gen) ++ [s.currentGen] ++
    (match s.genIn gLoading with | some i => [(s.gen i).num] | none => [])).eraseDups

/-- The images a tasklet keeps pinned: the one in force, and those its instances are bound to (R117). -/
def State.boundImages (s : State) (t : Nat) : List (Bool × Nat) :=
  ((s.jobs.filter (fun j => decide (j.t = t))).map (fun j => (j.host, j.img)) ++
    [((s.recOf t).hostImg, (s.recOf t).imgAddr)]).eraseDups

/-- The pinned pages of a cluster's space (R124). -/
def State.pinnedPages (s : State) (c sp : Nat) : List PageId :=
  let own := (s.homedOn c).map (fun t => let r := s.recOf t
    (r.entriesIn 1 sp).flatMap (fun e => (s.boundImages t).map (fun i => PageId.image i.1 (i.2 + 2048 * r.index e))) ++
    (r.entriesIn 2 sp).map (fun e => PageId.state t (r.index e)) ++
    (r.entriesIn 5 sp).flatMap (fun e => (s.boundGens t).map (fun g => PageId.table r.tset g (r.index e))))
  own.flatten ++ ((s.hostPins.filter (fun p => decide (p.1 = c))).flatMap
    (fun p => [PageId.image false p.2, PageId.image true p.2]))

/-- Pinned frames of a space (PIN_COUNT). -/
def State.pinCount (s : State) (c sp : Nat) : Nat :=
  let ps := s.pinnedPages c sp; let x := s.cluster c
  (List.range (framesOf sp)).countP (fun f => match (x.frame sp f).page with | some p => ps.contains p | none => false)

/-! ### Queues (R118) -/

/-- The order of R118: guaranteed first, then deadline, then tasklet, then sequence number. Log entry 44, DESIGN CHOICE. -/
def Job.before (a b : Job) : Bool :=
  if a.guaranteed ≠ b.guaranteed then a.guaranteed
  else if a.deadline ≠ b.deadline then decide (a.deadline < b.deadline)
  else if a.t ≠ b.t then decide (a.t < b.t)
  else decide (a.seq < b.seq)

/-- Insert an instance in the order of R118. -/
def insertJob (j : Job) : List Job → List Job
  | [] => [j]
  | x :: xs => if j.before x then j :: x :: xs else x :: insertJob j xs

/-- Sort instances in the order of R118. -/
def sortJobs (l : List Job) : List Job := l.foldl (fun acc j => insertJob j acc) []

/-- The queue of cluster c: released instances that have not started. -/
def State.queueOf (s : State) (c : Nat) : List Job := sortJobs (s.jobs.filter (fun j => decide (j.cl = c) && !j.active))

/-- The instances that cluster c serves: its own queue, and for an odd cluster the Checked ones of the even cluster. -/
def State.servedBy (s : State) (c : Nat) : List Job :=
  sortJobs (s.jobs.filter (fun j => !j.active &&
    (decide (j.cl = c) || (decide (c % 2 = 1) && decide (j.cl = c - 1) && j.checked))))

/-- The instances over which the pager looks ahead (R125): a replay that stages on c comes first. -/
def State.lookAhead (s : State) (c : Nat) : List Job :=
  s.jobs.filter (fun j => j.replay && j.active && j.clusters.contains c &&
    decide ((s.cluster c).phase = .staging)) ++
  ((s.queueOf c).filter (fun j => !j.deferred)).take 4

/-- The look-ahead that cluster c's frames serve: its own, and for an odd cluster the Checked instances in that of the even one
(R118, R126). -/
def State.lookOver (s : State) (c : Nat) : List Job :=
  s.lookAhead c ++ (if c % 2 = 1 then (s.lookAhead (c - 1)).filter (·.checked) else [])

/-- The instances in stage-in on cluster c, whose pages stay resident (R122, R126; log entry 20). -/
def State.stagingOn (s : State) (c : Nat) : List Job :=
  s.jobs.filter (fun j => j.active && j.clusters.contains c && decide ((s.cluster c).phase = .staging))

/-- The pages that the look-ahead of a cluster, or its instance in stage-in, needs in a space. -/
def State.neededPages (s : State) (c sp : Nat) : List PageId :=
  ((s.lookOver c ++ s.stagingOn c).flatMap (fun j => (s.jobPages j).filter (fun p => decide (p.1 = sp)))).map (·.2)

/-- A page is resident and valid on clusters, in frames of one number (R124). -/
def State.residentOn (s : State) (cs : List Nat) (sp : Nat) (p : PageId) : Bool :=
  (List.range (framesOf sp)).any (fun f => cs.all (fun c =>
    let fr := (s.cluster c).frame sp f; decide (fr.page = some p) && fr.ok))

/-- A page holds frames of one number on clusters, valid or not. -/
def State.holdsOn (s : State) (cs : List Nat) (sp : Nat) (p : PageId) : Bool :=
  (List.range (framesOf sp)).any (fun f => cs.all (fun c => decide (((s.cluster c).frame sp f).page = some p)))

/-- A page needs no fetch before stage-in: it is resident and valid; a STATE page need only hold its frames, since stage-in
copies a state that is not valid (R122 step 4). Log entry 32, DEDUCED. -/
def State.pageHere (s : State) (cs : List Nat) (sp : Nat) (p : PageId) : Bool :=
  match p with
  | .state _ _ => s.holdsOn cs sp p
  | _ => s.residentOn cs sp p

/-- Every page of an instance is resident on its clusters. -/
def State.pagesReady (s : State) (j : Job) : Bool :=
  (s.jobPages j).all (fun p => s.pageHere j.clusters p.1 p.2)

/-! ### Taking frames (R126) -/

/-- A frame holds no page and is not mapped. -/
def State.frameFree (s : State) (c sp f : Nat) : Bool :=
  let x := s.cluster c
  decide ((x.frame sp f).page = none) && !x.mapped sp f

/-- A frame may be evicted (R126). -/
def State.evictable (s : State) (c sp f : Nat) : Bool :=
  let x := s.cluster c
  match (x.frame sp f).page with
  | some p => !(s.pinnedPages c sp).contains p && !x.mapped sp f && !(s.neededPages c sp).contains p &&
      decide (x.fetch ≠ some p)
  | none => false

/-- The frame the pager takes on the clusters `cs`, outside the ones `taken` already: a free one first, otherwise the
evictable one whose last mapping started earliest, a tie to the lower number (R126). -/
def State.pickFrame (s : State) (cs : List Nat) (sp : Nat) (taken : List Nat) : Option Nat :=
  let fs := (List.range (framesOf sp)).filter (fun f => !taken.contains f)
  match fs.find? (fun f => cs.all (fun c => s.frameFree c sp f)) with
  | some f => some f
  | none =>
    let ev := fs.filter (fun f => cs.all (fun c => s.frameFree c sp f || s.evictable c sp f))
    let age (f : Nat) : Nat := ((s.cluster (cs.headD 0)).frame sp f).lastMap
    match ev with
    | [] => none
    | x :: xs => some (xs.foldl (fun b y => if age y < age b then y else b) x)

/-- Cluster c holds page p in a mapped frame other than f: the page cannot move to f. -/
def State.heldFast (s : State) (c sp f : Nat) (p : PageId) : Bool :=
  let x := s.cluster c
  (List.range (framesOf sp)).any (fun g => decide (g ≠ f) && decide ((x.frame sp g).page = some p) && x.mapped sp g)

/-- Frame f of cluster c can take page p: it holds it, or it is free or evictable (R126). -/
def State.frameFits (s : State) (c sp f : Nat) (p : PageId) : Bool :=
  (decide (((s.cluster c).frame sp f).page = some p) || s.frameFree c sp f || s.evictable c sp f) && !s.heldFast c sp f p

/-- The frame number that page p gets on clusters: one in which one of them holds it and that every other can give up, otherwise
the one the pager takes; none while no number fits, which a mapped frame of the page can cause (R124, R126).
Log entry 118, DEDUCED. -/
def State.frameFor (s : State) (cs : List Nat) (sp : Nat) (p : PageId) : Option Nat :=
  let held := (List.range (framesOf sp)).filter (fun f => cs.any (fun c => decide (((s.cluster c).frame sp f).page = some p)))
  match held.find? (fun f => cs.all (fun c => s.frameFits c sp f p)) with
  | some f => some f
  | none => match s.pickFrame cs sp [] with
    | some f => if cs.all (fun c => s.frameFits c sp f p) then some f else none
    | none => none

/-- Give a frame to a page, or to no page; an eviction is counted. -/
def State.giveFrame (s : State) (c sp f : Nat) (p : Option PageId) (ok : Bool) : State :=
  let old := (s.cluster c).frame sp f
  let s1 := if old.page.isSome ∧ old.page ≠ p then s.bump (.pagerCount 1) else s
  s1.updCluster c (fun x => x.setFrame sp f { old with page := p, ok := ok, stuck := false })

/-- The other frames of a cluster that hold page p give it up: the page moves to frame f. -/
def State.dropCopies (s : State) (c sp f : Nat) (p : PageId) : State :=
  s.forEach ((List.range (framesOf sp)).filter (fun g => decide (g ≠ f) && decide (((s.cluster c).frame sp g).page = some p)))
    (fun s g => s.updCluster c (fun x => x.setFrame sp g { x.frame sp g with page := none, ok := false, stuck := false }))

/-- Fill a frame with 1,024 words. -/
def State.fillFrame (s : State) (c sp f : Nat) (ws : List W16) : State :=
  s.updCluster c (fun x => x.setWords sp (1024 * f) ws)

/-! ### Page contents -/

/-- Host address of an outbound access (R299). -/
def State.xlat (s : State) (a : Nat) : Nat :=
  let i := nfld a 35 30
  nfld (s.reg (.xlatLo i)).toNat 31 30 * 2 ^ 30 + 2 ^ 32 * (s.reg (.xlatHi i)).toNat + a % 2 ^ 30

/-- Store offset of word 0 of checkpoint copy `copyB` of a record (R142). -/
def Rec.copyAt (r : Rec) (copyB : Bool) : Nat := r.ckptAddr + if copyB then classSize r.ckptClass / 2 else 0

/-- Where a page lies in the store: offset and bytes; none for a host page or a page staged as zeros. -/
def State.pageAt (s : State) : PageId → Option (Nat × Nat)
  | .image false a => if 0x100000000 ≤ a then some (a - 0x100000000, 2048) else none
  | .image true _ => none
  | .table tset g i => (s.tablePage g tset i).map (fun o => (o, 2048))
  | .state t i => let r := s.recOf t
    some (r.copyAt r.ckpt + 2048 * i, Nat.min 2048 (2 * r.stateWords - 2048 * i))

/-- The words of a page: from the store, from host memory, or zeros; words beyond the source read 0. -/
def State.pageWords (s : State) (p : PageId) : List W16 :=
  match s.pageAt p with
  | some (o, n) => halfWords 1024 (padTo 2048 (s.storeRead o n))
  | none =>
    match p with
    | .image true a => halfWords 1024 (s.hostBytes (s.xlat a) 2048)
    | _ => List.replicate 1024 0

/-- The state after the bytes of a page have been read. Log entry 34, DESIGN CHOICE. -/
def State.pageRead (s : State) : PageId → State
  | .image true _ => s.usedHost
  | _ => s

/-- Internal address of a page's source in the store or in host memory. -/
def State.pageAddr (s : State) (p : PageId) : Nat :=
  match p with
  | .image _ a => a
  | _ => 0x100000000 + ((s.pageAt p).map (·.1)).getD 0

/-- Why the read of a page fails, with what the failure leaves: a bad store byte (R156), an address that decodes to the
default target (R302), or a host read that fails (R128; also while the queue engine is held). -/
def State.pageFail (s : State) (p : PageId) (hostOk : Bool) : Option State :=
  match s.pageAt p with
  | some (o, n) => match s.storeBadAt o n with
    | some a => some (s.storeError a)
    | none => if s.storeOn o n then none else some (s.decodeError (0x100000000 + o) 5 false)
  | none =>
    match p with
    | .image true a =>
      if !bit (s.reg (.xlatLo (nfld a 35 30))) 0 then some (s.decodeError a 5 false)
      else if hostOk && !s.qeHeld then none else some ((s.raise 386).bump (.pagerCount 4))
    | .image false a => some (s.decodeError a 5 false)
    | _ => none

/-- Read a page into frame f of clusters.  When its source cannot be read the frame stays invalid. -/
def State.loadInto (s : State) (cs : List Nat) (sp : Nat) (p : PageId) (f : Nat) : State :=
  match s.pageFail p true with
  | some s1 => s1.forEach cs (fun s c => (s.dropCopies c sp f p).giveFrame c sp f (some p) false)
  | none =>
    let ws := s.pageWords p
    (s.forEach cs (fun s c => ((s.dropCopies c sp f p).giveFrame c sp f (some p) true).fillFrame c sp f ws)).pageRead p

/-- Make a page resident on clusters at one frame number, where it is not yet: one page fetch of PAGER_COUNT[0] (log entry
106).  Without a candidate the page is left to the fetches of the look-ahead (R125, R126). -/
def State.loadPage (s : State) (cs : List Nat) (sp : Nat) (p : PageId) : State :=
  if s.residentOn cs sp p then s else
  match s.frameFor cs sp p with
  | some f => (s.bump (.pagerCount 0)).loadInto cs sp p f
  | none => s

/-- The pages that a predicate picks become invalid on a cluster (R123). -/
def State.spoilPages (s : State) (c : Nat) (g : PageId → Bool) : State :=
  s.updCluster c (fun x => { x with frames := x.frames.map (fun e =>
    match e.2.page with
    | some p => if g p then (e.1, { e.2 with ok := false }) else e
    | none => e) })

/-- A page is a state page. -/
def PageId.isStatePage : PageId → Bool
  | .state _ _ => true
  | _ => false

/-- A page lies in host memory. -/
def PageId.isHostImage : PageId → Bool
  | .image true _ => true
  | _ => false

/-- A page is a state page of tasklet t. -/
def PageId.isState (t : Nat) : PageId → Bool
  | .state u _ => decide (u = t)
  | _ => false

/-- The resident state of tasklet t becomes invalid on every cluster but those named (R123). -/
def State.spoilState (s : State) (t : Nat) (keep : List Nat) : State :=
  s.forEach ((List.range 32).filter (fun c => !keep.contains c)) (fun s c => s.spoilPages c (PageId.isState t))

end Sys2Proof.Machine
end

