-- ==== Sys2Proof/Machine/Jobs.lean ====
section
/-!
DEFINITION. Machine/Jobs.lean: homes, release, placement and the end of instances (R103 to R121, R134), and what follows a
fault: report, charge, replay, abandonment, fencing and re-homing (R111, R143 to R151).
-/
namespace Sys2Proof.Machine

/-! ### Homes (R107 step 4 and 7, R111) -/

/-- Load and pin the IMAGE, STATE and TABLE pages of an admitted tasklet on its home (R107 step 7). -/
def State.pinAll (s : State) (t : Nat) : State :=
  let r := s.recOf t
  s.forEach fetchOrder (fun s e =>
    match planPage t r r.hostImg r.imgAddr s.currentGen e with
    | some p => s.loadPage r.homes (e / 16) p
    | none => s)

/-- Set HOME of a record. -/
def State.setHome (s : State) (t c : Nat) : State := s.setRecOf t 56 (setFld (s.recOf t 56) 28 24 c)

/-- Try to give an unhomed guaranteed tasklet a home (R111), where the pager then pins its pages; its first release follows
device time `since`. -/
def State.tryHome (s : State) (t since : Nat) : State :=
  match s.findHome (s.recOf t) with
  | .inl c => ((s.setHome t c).updTask t (fun k => { k with homeLost := false, since := since })).pinAll t
  | .inr _ => s

/-- Try again to home every HOME_LOST tasklet, in ascending number: it then releases from the first cycle whose T0 follows the
homing (R111). -/
def State.retryHomes (s : State) : State :=
  s.forEach (s.admitted.filter (fun t => (s.task t).homeLost)) (fun s t => s.tryHome t s.clk.dt)

/-! ### The end of an instance -/

/-- An instance of tasklet t has not ended. -/
def State.hasJob (s : State) (t : Nat) : Bool := s.jobs.any (fun j => decide (j.t = t))

/-- A removal whose instances have ended completes: ADMITTED becomes 0, the reservation and the checkpoint buffer return,
and HOME_LOST tasklets are tried (R134, R111). -/
def State.checkRemoval (s : State) (t : Nat) : State :=
  let qs := (s.task t).removing
  if qs.isEmpty || s.hasJob t then s else
    let r := s.recOf t
    let s1 := (s.setRecOf t 56 (setBit (r 56) 31 false)).setTask t Task.reset
    let s2 := (List.range 4).foldl (fun s k =>
      if (s.cls k).used.any (fun u => decide (u.2 = .ckpt t)) then s.allocFree k r.ckptAddr else s) s1
    let s3 := (s2.dropResv (s2.reservations t r)).forEach (List.range 32) (fun s c => s.dropPages c (PageId.isState t))
    (s3.forEach qs (fun s q => s.finishWaiting q 0x04 .success 0)).retryHomes

/-- An instance times its cycle from line `a` or its ring. -/
def State.jobOnLine (s : State) (a : Nat) (j : Job) : Bool := decide (s.portA (s.recOf j.t).line = a)

/-- A line has stopped: its T0 after acceptance has passed and its last instance has ended (R276, R350). -/
def State.lineDone (s : State) (a : Nat) : Bool :=
  let d := s.lane a
  !d.run || (d.stopping && d.stopped && !(s.jobs.any (s.jobOnLine a)))

/-- A line no longer runs. -/
def Lane.halt (d : Lane) : Lane :=
  { d with run := false, cyc := none, starter := none, stoppers := [], stopping := false, stopped := false,
           ofDone := false, applied := false, icDone := false, outSet := [], staleNow := [], latePub := [], tx := [],
           cut := [], lateq := [], accq := [], arr := [], placed := [] }

/-- Complete the SCHED_STOPs whose named lines are all done (R276). Log entry 42, DEDUCED. -/
def State.checkStops (s : State) : State :=
  s.forEach (List.range 64) (fun s q =>
    if s.waits q 0x08 then
      let ls := (List.range 16).filter (fun l => (s.lane l).stoppers.contains q)
      if ls.all s.lineDone then
        (s.forEach (ls.flatMap s.portsOf) (fun s l => s.updLane l Lane.halt)).finishWaiting q 0x08 .success 0
      else s
    else s)

/-- An instance has ended, by commit or by abandonment: its pins and its generation are released, the deferred instance
behind it may start, a removal or a stop that waited for it completes (R10, R116, R117, R134, R185). -/
def State.endJob (s : State) (j : Job) : State :=
  let rest := s.jobs.erase j
  let s1 := { s with jobs := rest.map (fun (k : Job) => if k.t = j.t ∧ k.deferred then { k with deferred := false } else k) }
  let s2 := (s1.reclaimAll j.pins).unbindGen j.gen
  (s2.checkRemoval j.t).checkStops

/-- Clusters stop working on an instance. -/
def Cluster.stopWork (x : Cluster) : Cluster :=
  { x with phase := .idle, job := none, pend := [], plist := [], iss := Issue.empty, kill := 0, resume := none }

/-- Stop the clusters named. -/
def State.stopClusters (s : State) (cs : List Nat) : State :=
  s.forEach cs (fun s c => s.updCluster c Cluster.stopWork)

/-- The key of an instance. -/
def Job.key (j : Job) : JobKey := ⟨j.t, j.seq, j.replay⟩

/-- The instance a cluster works on. -/
def State.jobOn (s : State) (c : Nat) : Option Job :=
  match (s.cluster c).job with
  | some k => s.jobs.find? (fun j => decide (j.key = k))
  | none => none

/-- Apply a step to each of a list of instances that has not ended, as it then stands. -/
def State.eachJob (s : State) (l : List Job) (g : State → Job → State) : State :=
  s.forEach (l.map Job.key) (fun s k => match s.jobs.find? (fun j => decide (j.key = k)) with
    | some j => g s j
    | none => s)

/-- Replace an instance. -/
def State.putJob (s : State) (old new : Job) : State :=
  { s with jobs := s.jobs.map (fun j => if j = old then new else j) }

/-- Abandon an instance (R22, R111, R144): nothing of it is committed, its new buffers return, and the resident state of its
tasklet becomes invalid on every cluster (R123). -/
def State.abandon (s : State) (j : Job) : State :=
  let s1 := s.stopClusters (if j.active then j.clusters else [])
  let s2 := s1.forEach j.newBufs (fun s b => match s.ownerOf b with | some (k, _) => s.allocFree k b | none => s)
  (s2.spoilState j.t []).endJob j

/-! ### Placement and release (R113 to R119) -/

/-- The cluster of a best-effort instance is idle with an empty queue (R119).  For a Checked one, both clusters of the pair are
idle and the pair's queue, which is that of its even cluster (R118), is empty: the rule names single clusters only (log entry
119, DEDUCED). -/
def State.idleEmpty (s : State) (pair : Bool) (c : Nat) : Bool :=
  decide ((s.cluster c).phase = .idle) && (s.queueOf c).isEmpty && (!pair || decide ((s.cluster (c + 1)).phase = .idle))

/-- The cluster of a best-effort instance: its LAST if idle, the lowest idle one, its LAST, the lowest (R119). -/
def State.placeIn (s : State) (r : Rec) (mask : List Nat) : Option Nat :=
  let m := if r.checked then mask.filter (fun c => c % 2 = 0) else mask
  if m.contains r.last && s.idleEmpty r.checked r.last then some r.last
  else match m.find? (s.idleEmpty r.checked) with
    | some c => some c
    | none => if m.contains r.last then some r.last else m.head?

/-- Header word 0 that an instance of cycle n sees for a slot (R115). Log entry 43, DEDUCED. -/
def State.hdrWord (s : State) (l n nominal : Nat) (x : Slot) : W16 :=
  match x.buf with
  | none => 0xFF03
  | some _ =>
    if nominal < x.placed then 0
    else
      let m : Int := ((x.placed : Int) - ((s.lane l).dt0 : Int)) / (s.baseNs l : Int)
      BitVec.ofNat 16 (1 + 256 * (clampInt 0 255 ((n : Int) - m)).toNat)

/-- Drop a best-effort instance (R121): BE_DROP, unpinned, outputs held. -/
def State.dropJob (s : State) (j : Job) : State := ((s.raise 356).bump (.dspCount 4)).endJob j

/-- Saturating increment of a half-word field of a record word (R101). -/
def satInc16 (v : W32) (hi lo : Nat) : W32 := setFld v hi lo (Nat.min 0xFFFF (fld v hi lo + 1))

/-- Release an instance of tasklet t for cycle n of its line, pinning the newest valid buffer of each input (R113 to
R119); none is released while device time stands still (R338). -/
def State.release (s : State) (t n : Nat) : State :=
  if !s.timeRuns then s else
  let r := s.recOf t
  let a := s.portA r.line
  let k := s.task t
  let mine := s.jobs.filter (fun j => decide (j.t = t))
  if mine.any (·.deferred) then
    (((s.raise 354).bump (.dspCount 2))).updTask t (fun k => { k with lastCyc := some n })
  else
    let nominal := s.t0Of a n
    let seq := if k.started then ((r 57) + 1).toNat else 0
    let slots := r.ins.map (fun i => s.slotOf (s.inHolder r i))
    let hdr := slots.map (s.hdrWord a n nominal)
    let gen := s.currentGen
    let deferred := !mine.isEmpty
    let s1 := s.updTask t (fun k => { k with lastCyc := some n, started := true })
    let s2 := (((s1.setRecOf t 57 (BitVec.ofNat 32 seq)).setRecOf t 59 (BitVec.ofNat 32 gen)).setRecOf t 60 (r 60 + 1)).bump
      (.dspCount 6)
    let s3 := if hdr.any (fun h => bit h 0) then s2.bump (.dspCount 5) else s2
    let s4 := if deferred then ((s3.raise 353).bump (.dspCount 1)).setRecOf t 62 (satInc16 (r 62) 31 16) else s3
    let home := if r.bestEffort then s.placeIn r (s.effMask r) else some r.home
    let j : Job :=
      { t := t, seq := seq, cyc := n, nominal := nominal, deadline := nominal + r.deadline * 1000,
        pins := slots.map (·.buf), hdr := hdr, gen := gen, host := r.hostImg, img := r.imgAddr,
        cl := home.getD 0, checked := r.checked, guaranteed := !r.bestEffort, deferred := deferred, active := false,
        late := false, noFrame := false, replay := false, newBufs := [] }
    let s5 := ({ s4 with jobs := s4.jobs ++ [j] }).bindGen gen
    match home with
    | some _ => s5
    | none => s5.dropJob j

/-- Tasklet t is due in the current cycle n of its line and has not been released in it (R103, R107, R111, R276). -/
def State.dueIn (s : State) (t n : Nat) : Bool :=
  let r := s.recOf t
  let a := s.portA r.line
  let d := s.lane a
  r.admitted && d.run && decide (d.cyc = some n) && !(d.stopping && d.stopped) && decide (n % 2 ^ r.k = r.phase) &&
    !(s.task t).homeLost && (s.task t).removing.isEmpty && decide ((s.task t).lastCyc ≠ some n) &&
    decide ((s.task t).since < s.t0Of a n)

/-- An input has arrived: a valid payload placed after the nominal T0 (R113). -/
def State.arrived (s : State) (r : Rec) (n i : Nat) : Bool :=
  let x := s.slotOf (s.inHolder r i)
  x.buf.isSome && decide (s.t0Of (s.portA r.line) n < x.placed)

/-- A DATA tasklet's last awaited input has arrived (R113). -/
def State.dataReady (s : State) (t n : Nat) : Bool :=
  let r := s.recOf t
  !r.timed && r.ins.all (fun i => r.inNowait i || s.arrived r n i)

/-- Release the DATA instances that the newest buffer of a slot completes (R113), in ascending tasklet number. -/
def State.dataRelease (s : State) (h : Holder) : State :=
  s.forEach (s.consumers h) (fun s t =>
    match (s.lane (s.portA (s.recOf t).line)).cyc with
    | some n => if s.dueIn t n && s.dataReady t n then s.release t n else s
    | none => s)

/-! ### Faults (R143 to R151) -/

/-- Causes of instance faults (R143). -/
def cOverrun : Nat := 1
/-- UNMAPPED. -/
def cUnmapped : Nat := 2
/-- ALIGN. -/
def cAlign : Nat := 3
/-- RSTACK. -/
def cRstack : Nat := 4
/-- FETCH_PARITY. -/
def cFetchParity : Nat := 5
/-- LOAD_PARITY. -/
def cLoadParity : Nat := 6
/-- TRAP. -/
def cTrap : Nat := 7
/-- SIGNATURE. -/
def cSignature : Nat := 8
/-- DIVERGE. -/
def cDiverge : Nat := 9
/-- STAGE. -/
def cStage : Nat := 10
/-- COMMIT. -/
def cCommit : Nat := 11

/-- The clusters charged with a fault (R143). -/
def charged (j : Job) (c cause : Nat) : List Nat :=
  if (cause = cSignature ∨ cause = cDiverge) ∧ j.checked then [j.cl, j.cl + 1] else [c]

/-- CLUSTER_FAULTS of a cluster, incremented up to 255. -/
def State.chargeFault (s : State) (c : Nat) : State :=
  s.updReg (.clusterFaults c) (fun v => BitVec.ofNat 32 (Nat.min 255 (v.toNat + 1)))

/-- The reports of a fault (R143, R163, R135).  TRAP_FAULTS counts where the cause of the fault is TRAP; a hold that ends because
the partner cluster has met an earlier fault is not counted, which R75 leaves open (log entry 114, DEDUCED). -/
def State.reportFault (s : State) (j : Job) (c cause : Nat) : State :=
  let det := if cause = cSignature ∨ cause = cDiverge then j.cl else c
  let s1 := ((s.raise (4 * det + 2)).bump (.replayCount 0)).forEach (charged j c cause) State.chargeFault
  let s2 := (s1.setReg .faultInfo0 (BitVec.ofNat 32 (cause * 2 ^ 24 + det * 2 ^ 16 + b2n j.replay * 2 ^ 15 + j.t))).setReg
    .faultInfo1 (BitVec.ofNat 32 j.seq)
  if cause = cOverrun then (s2.raise 355).bump (.dspCount 3)
  else if cause = cSignature then
    let e := ~~~(s.cluster j.cl).sig; let o := ~~~(s.cluster (j.cl + 1)).sig
    ((((((s2.raise 435).bump (.replayCount 5)).setReg (.sigReg 0) (e.setWidth 32)).setReg (.sigReg 1)
      ((e >>> 32).setWidth 32)).setReg (.sigReg 2) (o.setWidth 32)).setReg (.sigReg 3) ((o >>> 32).setWidth 32))
  else if cause = cDiverge then (s2.raise 436).bump (.replayCount 6)
  else if cause = cTrap then s2.bump .trapFaults
  else s2

/-- POLICY of a tasklet's class; 0b11 acts as 0b00 (R144, R164). -/
def State.policyOf (s : State) (t : Nat) : Nat :=
  let p := fld (s.reg (.recoveryPolicy (s.recOf t).rclass)) 1 0
  if p = 3 then 0 else p

/-- A cluster is an idle spare for a declared cycle count (R145). -/
def State.idleSpare (s : State) (cycles c : Nat) : Bool :=
  s.isSpare c && s.isOn c && !s.fenced c && decide ((s.cluster c).phase = .idle) && (s.cluster c).newStep.isNone &&
    decide (cycles ≤ 8 * stepMHz (s.stepOf c))

/-- The spare a faulted instance gets: the highest clock step, a tie to the lower number (R145). -/
def State.spareFor (s : State) (j : Job) : Option Nat :=
  let used := fld (s.reg .replayStatus) 2 0
  let slots := Nat.min 4 (fld (s.reg .replayCtl) 2 0)
  if j.replay || decide (slots ≤ used) then none else
  let cyc := (s.recOf j.t).cycles
  let cs := if j.checked then ((List.range 16).map (2 * ·)).filter (fun c => s.idleSpare cyc c && s.idleSpare cyc (c + 1) &&
      decide (s.stepOf c = s.stepOf (c + 1)))
    else (List.range 32).filter (s.idleSpare cyc)
  match cs with
  | [] => none
  | x :: xs => some (xs.foldl (fun b y => if s.stepOf b < s.stepOf y then y else b) x)

/-- Start a replay on a spare (R146). -/
def State.startReplay (s : State) (j : Job) (c : Nat) : State :=
  let n : Job := { j with replay := true, cl := c, active := true, deferred := false, late := false, noFrame := false,
                          newBufs := [] }
  let s1 := (s.putJob j n).updReg .replayStatus (fun v => setFld v 2 0 (fld v 2 0 + 1))
  (s1.bump (.replayCount 1)).forEach n.clusters (fun s c =>
    s.updCluster c (fun x => { x with phase := .staging, job := some n.key }))

/-- Abandon an instance after a fault (R144): UNRECOVERED is set. -/
def State.abandonFault (s : State) (j : Job) : State := (s.setFault 0).abandon j

/-- Recovery under the policy of the class (R144, R145, R151). Log entry 41, DEDUCED. -/
def State.recover (s : State) (j : Job) : State :=
  if s.policyOf j.t = 0 then s.abandonFault j
  else match s.spareFor j with
    | some c => s.startReplay j c
    | none => ((s.raise 432).bump (.replayCount (if j.replay then 3 else 4))).abandonFault j

/-- The instances of tasklet t that have not started. -/
def State.queuedOf (s : State) (t : Nat) : List Job := s.jobs.filter (fun j => decide (j.t = t) && !j.active)

/-- Re-home tasklet t of a withdrawn cluster: its queued instances follow it to its new home, where it goes on as before; without
one it is HOME_LOST and they are abandoned (R111). -/
def State.rehomeOne (s : State) (t : Nat) : State :=
  let s1 := s.tryHome t (s.task t).since
  if (s1.task t).homeLost then (s1.raise 357).eachJob (s1.queuedOf t) State.abandon
  else s1.eachJob (s1.queuedOf t) (fun s j => s.putJob j { j with cl := (s.recOf t).home })

/-- A best-effort instance queued for a withdrawn cluster is placed again, or dropped (R111). -/
def State.replace (s : State) (c : Nat) (j : Job) : State :=
  let r := s.recOf j.t
  match s.placeIn r ((s.effMask r).filter (· ≠ c)) with
  | some d => s.putJob j { j with cl := d }
  | none => s.dropJob j

/-- Re-home the tasklets of a withdrawn cluster, in ascending number, and move the instances queued for it (R111). -/
def State.rehome (s : State) (c : Nat) : State :=
  let ts := s.homedOn c
  let queued := s.jobs.filter (fun j => !j.active && j.clusters.contains c && !j.guaranteed)
  let s1 := s.forEach ts (fun s t => s.updTask t (fun k => { k with homeLost := true }))
  (s1.forEach ts State.rehomeOne).eachJob queued (fun s j => s.replace c j)

/-- Fence a cluster (R147). Log entry 40, DEDUCED. -/
def State.fence (s : State) (c : Nat) : State :=
  let s1 := (s.updReg .fenceStatus (fun v => setBit v c true)).raise 434
  ((s1.bump (.replayCount 7)).setFault 2).rehome c

/-- Under Replay and fence, fence the charged clusters that have reached FENCE_AT (R147). -/
def State.fenceCharged (s : State) (cs : List Nat) (policy fenceAt : Nat) : State :=
  if policy = 2 then
    s.forEach cs (fun s c =>
      if decide (Nat.max 1 fenceAt ≤ (s.reg (.clusterFaults c)).toNat) && !s.fenced c then s.fence c else s)
  else s

/-- What follows the fault of an instance: both its clusters stop, the fault is reported and charged, and the policy of
its class directs the rest (R138, R143, R144, R147). -/
def State.faultJob (s : State) (j : Job) (c cause : Nat) : State :=
  let s1 := s.reportFault j c cause
  let cs := if j.active then j.clusters else []
  let s2 := s1.forEach cs (fun s c => (s.updCluster c Cluster.stopWork).spoilPages c (PageId.isState j.t))
  let policy := s.policyOf j.t
  let fenceAt := fld (s.reg (.recoveryPolicy (s.recOf j.t).rclass)) 11 8
  let s3 := s2.forEach j.newBufs (fun s b => match s.ownerOf b with | some (k, _) => s.allocFree k b | none => s)
  let j0 := { j with newBufs := [] }
  ((s3.putJob j j0).recover j0).fenceCharged (charged j c cause) policy fenceAt

/-- The instance on a cluster faults. -/
def State.instFault (s : State) (c cause : Nat) : State :=
  match s.jobOn c with
  | some j => s.faultJob j c cause
  | none => s.updCluster c Cluster.stopWork

end Sys2Proof.Machine
end

