-- ==== Sys2Proof/Machine/Operands.lean ====
section
/-!
DEFINITION. Machine/Operands.lean: how cluster operations read registers, form addresses and reach memory (R26 to R35, R58),
and the bundle under issue (R25, R41, R51).
-/
namespace Sys2Proof.Machine

/-! ### Register reads (R26, R37) -/

/-- D register n. -/
def Cluster.dr (x : Cluster) (n : Nat) : W16 := Tab.get (fun _ => 0) x.d n
/-- D pair n: the low word in the even register (R82). -/
def Cluster.dp (x : Cluster) (n : Nat) : W32 := x.dr (n + 1) ++ x.dr n
/-- Accumulator n. -/
def Cluster.ac (x : Cluster) (n : Nat) : W40 := Tab.get (fun _ => 0) x.acc n
/-- Control register by CR number, as other operations read it (R58). -/
def Cluster.ctl (x : Cluster) (n : Nat) : W16 := Tab.get crReset x.cr n
/-- Control register as the address generator and the loop end check use it (R36, R46). -/
def Cluster.ctlUse (x : Cluster) (n : Nat) : W16 := Tab.get crReset x.crUse n

/-- What a write keeps of a control register (R28, R58): LS and LE 14 bits, FLG and FPF 5, SCL 4, MODE 2.
Log entry 23, DEDUCED. -/
def crKeep (n : Nat) (v : W16) : W16 :=
  if 32 ≤ n ∧ n < 40 then v &&& 0x3FFF
  else if n = 44 ∨ n = 45 then v &&& 0x1F
  else if n = 46 then v &&& 0xF
  else if n = 47 then v &&& 3
  else v

/-- Set the value of a control register that other operations read. -/
def Cluster.setCtl (x : Cluster) (n : Nat) (v : W16) : Cluster := { x with cr := Tab.set crReset x.cr n (crKeep n v) }
/-- Set the value of a control register that the address generator or the loop end check uses. -/
def Cluster.setCtlUse (x : Cluster) (n : Nat) (v : W16) : Cluster :=
  { x with crUse := Tab.set crReset x.crUse n (crKeep n v) }
/-- Set a D register. -/
def Cluster.setD (x : Cluster) (n : Nat) (v : W16) : Cluster := { x with d := Tab.set (fun _ => 0) x.d n v }
/-- Set an accumulator. -/
def Cluster.setAcc (x : Cluster) (n : Nat) (v : W40) : Cluster := { x with acc := Tab.set (fun _ => 0) x.acc n v }

/-- FLG bits as they stood at the end of the previous cycle (R41): Z, N, C, V, SV. -/
def Cluster.flg (x : Cluster) : W16 := x.ctl 44
/-- MODE.SAT. -/
def Cluster.sat (x : Cluster) : Bool := bit (x.ctl 47) 0
/-- MODE.FRAC. -/
def Cluster.frac (x : Cluster) : Bool := bit (x.ctl 47) 1
/-- SCL.SHIFT, −8 to 7. -/
def Cluster.scl (x : Cluster) : Int := snat 4 (x.ctl 46).toNat
/-- Table base n. -/
def Cluster.tb (x : Cluster) (n : Nat) : W16 := x.ctl (48 + n)

/-- The addend ACCk of a MAC unit: the result of the same unit's operation one cycle earlier, if it writes ACCk (R39). -/
def Cluster.addend (x : Cluster) (unit k : Nat) : W40 :=
  match x.pend.reverse.find? (fun e => decide (e.unit = unit) && decide (e.due = 1) && decide (e.dest = .acc k) && !e.fresh) with
  | some e => e.val
  | none => x.ac k

/-! ### Addresses (R31, R34, R56) -/

/-- The physical address of a virtual address: bits [15:14] 0 and a VALID page (R31). -/
def Cluster.phys (x : Cluster) (sp v : Nat) : Option Nat :=
  let m := x.map sp (v / 1024)
  if v < 0x4000 ∧ bit m 15 then some (1024 * (if sp = 3 then fld m 4 0 else fld m 5 0) + v % 1024) else none

/-- The physical address of a store: the page must have WRITE (R31). -/
def Cluster.physW (x : Cluster) (sp v : Nat) : Option Nat :=
  if bit (x.map sp (v / 1024)) 14 then x.phys sp v else none

/-- The circular update of R34. -/
def circ (a b l m : W16) : W16 :=
  if l = 0 then a + m else
  let t : Int := (a.toNat : Int) + m.toInt
  let t := if (b.toNat : Int) + (l.toNat : Int) ≤ t then t - l.toNat else if t < b.toNat then t + l.toNat else t
  BitVec.ofInt 16 t

/-- The bit-reversed update of R34. -/
def brev (a b l m : W16) : W16 :=
  let w := if l = 0 then 16 else msbIndex l.toNat
  let off := (a - b).toNat
  let s := revBits w (off % 2 ^ w) + revBits w (m.toNat % 2 ^ w)
  b + BitVec.ofNat 16 (off / 2 ^ w * 2 ^ w + revBits w (s % 2 ^ w))

/-- The effective address of generator n: An before the update. -/
def Cluster.ea (x : Cluster) (n : Nat) : W16 := x.ctlUse n

/-- The value of An after an access in a mode (R34). -/
def Cluster.eaNext (x : Cluster) (n : Nat) : AgMode → W16
  | .imm k => x.ctlUse n + k.signExtend 16
  | .byM => x.ctlUse n + x.ctlUse (24 + n)
  | .circ => circ (x.ctlUse n) (x.ctlUse (8 + n)) (x.ctlUse (16 + n)) (x.ctlUse (24 + n))
  | .brev => brev (x.ctlUse n) (x.ctlUse (8 + n)) (x.ctlUse (16 + n)) (x.ctlUse (24 + n))

/-! ### Parity errors in cluster memories (R155) -/

/-- The partner of a cluster in its pair. -/
def mate (c : Nat) : Nat := if c % 2 = 0 then c + 1 else c - 1

/-- The cluster runs a Checked instance. -/
def State.checkedOn (s : State) (c : Nat) : Bool :=
  match s.jobOn c with
  | some j => j.checked
  | none => false

/-- An X or Y word of a Checked pair is rewritten from the partner, or neither word is rebuilt (R155). -/
def State.fromMate (s : State) (c sp a : Nat) : State :=
  let o := s.cluster (mate c)
  if o.isBad sp a then s.uncorrectable
  else (s.updCluster c (fun x => x.setWord sp a (o.word sp a))).corrected sp

/-- A page is an IMAGE page in a space of an admitted Checked tasklet, in an image in force or bound. -/
def State.checkedImage (s : State) (sp : Nat) (p : PageId) : Bool :=
  s.admitted.any (fun t => let r := s.recOf t
    r.checked && (r.entriesIn 1 sp).any (fun e => (s.boundImages t).any (fun i =>
      decide (p = .image i.1 (i.2 + 2048 * r.index e)))))

/-- The partner of cluster c holds page p, valid, in the same frame. -/
def State.mateHolds (s : State) (c sp f : Nat) (p : PageId) : Bool :=
  let fr := (s.cluster (mate c)).frame sp f
  decide (fr.page = some p) && fr.ok

/-- An X or Y word of a Checked pair is rebuilt from the partner: the running instance is Checked and has the frame mapped, or
the frame holds an IMAGE page of a Checked tasklet that the partner holds too (R155). -/
def State.pairWord (s : State) (c sp f : Nat) (p : PageId) : Bool :=
  (decide (sp = 1) || decide (sp = 2)) &&
    (if (s.cluster c).mapped sp f then s.checkedOn c else s.checkedImage sp p && s.mateHolds c sp f p)

/-- What follows a parity error found at a word of a cluster memory (R155). -/
def State.clusterParity (s : State) (c sp a : Nat) : State :=
  let x := s.cluster c
  let f := a / 1024
  let invalid := s.updCluster c (fun x => x.setFrame sp f { x.frame sp f with ok := false, stuck := false })
  match (x.frame sp f).page with
  | some (.state t _) =>
    if x.mapped sp f then (if s.checkedOn c then s.fromMate c sp a else s.uncorrectable)
    else if (s.recOf t).checked then
      (if (s.cluster (mate c)).isBad sp a then invalid.uncorrectable else s.fromMate c sp a)
    else invalid
  | some p => if s.pairWord c sp f p then s.fromMate c sp a else invalid
  | none =>
    if x.mapped sp f then (if s.checkedOn c then s.fromMate c sp a else s.uncorrectable)
    else s.fillFrame c sp f (List.replicate 1024 0)

/-- A parity error found by an access of the running instance: ACCESS_FOUND, PARITY and R155 (R51, R155, R164). -/
def State.accessParity (s : State) (c sp a : Nat) : State :=
  ((s.bump (.accessFound sp)).raise (4 * c + 3)).clusterParity c sp a

end Sys2Proof.Machine
end

