-- ==== Sys2Proof/Machine/Flags.lean ====
section
/-!
DEFINITION. Machine/Flags.lean: results and flags of the integer, logic, shift, divide and accumulator operations (R59, R60,
R62, R65, R83 to R92), and the condition codes (R70).
-/
namespace Sys2Proof.Machine

/-- A result with its flags. -/
structure Res (w : Nat) where
  /-- The value. -/
  v : BitVec w
  /-- The flags. -/
  f : FlagUpd
deriving DecidableEq, Repr

/-- Z and N of a value, with C, V and the saturation indication (R60). -/
def mkRes {w : Nat} (v : BitVec w) (c ov sat : Bool) : Res w := ⟨v, ⟨decide (v = 0), v.msb, c, ov, sat⟩⟩

/-- The largest and the smallest signed value of w bits. -/
def sMax (w : Nat) : Int := 2 ^ (w - 1) - 1
/-- The smallest signed value of w bits. -/
def sMin (w : Nat) : Int := -2 ^ (w - 1)

/-- An exact signed result: it overflows outside w bits, and saturates when `sat` is set (R60). -/
def signedRes (w : Nat) (x : Int) (c sat : Bool) : Res w :=
  let ov := decide (x < sMin w) || decide (sMax w < x)
  mkRes (BitVec.ofInt w (if ov && sat then clampInt (sMin w) (sMax w) x else x)) c ov (ov && sat)

/-- SA + SB + carry: C is the carry out of the top bit (R60). -/
def addRes {w : Nat} (a b : BitVec w) (cin sat : Bool) : Res w :=
  signedRes w (a.toInt + b.toInt + b2n cin) (decide (2 ^ w ≤ a.toNat + b.toNat + b2n cin)) sat

/-- SA − SB − (1 − carry): C is not-borrow (R60). -/
def subRes {w : Nat} (a b : BitVec w) (cin sat : Bool) : Res w :=
  signedRes w (a.toInt - b.toInt - (1 - b2n cin : Int)) (decide (b.toNat + (1 - b2n cin) ≤ a.toNat)) sat

/-- 0 − SA: C is 1 when SA is 0 (R60). -/
def negRes {w : Nat} (a : BitVec w) (sat : Bool) : Res w := signedRes w (-a.toInt) (decide (a = 0)) sat

/-- |SA| (R60). -/
def absRes {w : Nat} (a : BitVec w) (sat : Bool) : Res w := signedRes w (Int.ofNat a.toInt.natAbs) false sat

/-- A result with C = V = 0 (R60, "all others"). -/
def logicRes {w : Nat} (v : BitVec w) : Res w := mkRes v false false false

/-- The number of bits below bit 15 that equal bit 15 (R59). Log entry 27, DEDUCED. -/
def normCount (a : W16) : Nat := (List.range 15).countP (fun i => bit a i == a.msb)

/-- A left shift by n: the last bit out is bit w − n for 1 ≤ n ≤ w (R60). -/
def lslRes {w : Nat} (a : BitVec w) (n : Nat) : Res w :=
  mkRes (a <<< n) (decide (1 ≤ n) && decide (n ≤ w) && bit a (w - n)) false false

/-- A logical right shift by n: the last bit out is bit n − 1 for 1 ≤ n ≤ w. -/
def lsrRes {w : Nat} (a : BitVec w) (n : Nat) : Res w :=
  mkRes (a >>> n) (decide (1 ≤ n) && decide (n ≤ w) && bit a (n - 1)) false false

/-- An arithmetic right shift by n: the last bit out is bit n − 1, the sign for n ≥ w. -/
def asrRes {w : Nat} (a : BitVec w) (n : Nat) : Res w :=
  mkRes (a.sshiftRight n) (decide (1 ≤ n) && (if n < w then bit a (n - 1) else a.msb)) false false

/-- A right rotation by n modulo w: the last bit out is bit (n − 1) mod w for n ≥ 1. -/
def rorRes {w : Nat} (a : BitVec w) (n : Nat) : Res w :=
  mkRes (a.rotateRight (n % w)) (decide (1 ≤ n) && bit a ((n - 1) % w)) false false

/-! ### Convergent rounding (R83) -/

/-- v / 2^n rounded to nearest, ties to even; v itself for n = 0. -/
def roundHalfEven (v : Int) (n : Nat) : Int :=
  if n = 0 then v else
  let q := v / (2 ^ n : Nat)
  let r := v % (2 ^ n : Nat)
  let h : Int := (2 ^ (n - 1) : Nat)
  if h < r ∨ (r = h ∧ q % 2 = 1) then q + 1 else q

/-- Saturate an integer to w bits when `sat` is set; otherwise keep the low bits (R86). -/
def clampRes (w : Nat) (q : Int) (sat : Bool) : Res w :=
  let o := sat && (decide (sMax w < q) || decide (q < sMin w))
  mkRes (BitVec.ofInt w (if o then clampInt (sMin w) (sMax w) q else q)) false o o

/-- EXT (R86). -/
def extRes (acc : W40) (sat : Bool) : Res 16 := clampRes 16 (roundHalfEven acc.toInt 16) sat
/-- EXTL (R86). -/
def extlRes (acc : W40) (sat : Bool) : Res 16 := clampRes 16 acc.toInt sat
/-- EXTD (R86). -/
def extdRes (acc : W40) (sat : Bool) : Res 32 := clampRes 32 acc.toInt sat
/-- EXTG (R86). -/
def extgRes (acc : W40) : Res 16 := logicRes (BitVec.signExtend 16 (BitVec.setWidth 8 (acc >>> 32)))

/-- STS: the word of an accumulator at a scaling shift (R88). -/
def stsRes (acc : W40) (s : Int) : Res 16 := clampRes 16 (roundHalfEven acc.toInt (16 - s).toNat) true

/-- STSD: the 32-bit integer of an accumulator at a scaling shift (R89). -/
def stsdRes (acc : W40) (s : Int) : Res 32 :=
  clampRes 32 (if 0 ≤ s then acc.toInt * (2 ^ s.toNat : Nat) else roundHalfEven acc.toInt (-s).toNat) true

/-! ### Products and accumulators (R84, R85, R65) -/

/-- A signed product, shifted left by one when MODE.FRAC = 1 (R84). -/
def prod (a b : W16) (frac : Bool) : Int := a.toInt * b.toInt * (if frac then 2 else 1)

/-- An exact accumulator value, and whether it wraps modulo 2^40 (R85). -/
def accVal (x : Int) : W40 × Bool :=
  let v := BitVec.ofInt 40 x
  (v, decide (v.toInt ≠ x))

/-- An accumulator lies outside the s32 range (R65). -/
def outside32 (v : W40) : Bool := decide (v.toInt < sMin 32) || decide (sMax 32 < v.toInt)

/-- Flags of an operation on one accumulator (R65). -/
def accFlags (r : W40 × Bool) : FlagUpd := ⟨decide (r.1 = 0), r.1.msb, outside32 r.1, r.2, false⟩

/-- Flags of an operation on a pair of accumulators (R65). -/
def accFlags2 (r i : W40 × Bool) : FlagUpd :=
  ⟨decide (r.1 = 0), r.1.msb, outside32 r.1 || outside32 i.1, r.2 || i.2, false⟩

/-- ASH: left shifts wrap modulo 2^40, right shifts round convergently (R86). -/
def ashVal (acc : W40) (n : Int) : W40 × Bool :=
  if 0 ≤ n then accVal (acc.toInt * (2 ^ n.toNat : Nat)) else accVal (roundHalfEven acc.toInt (-n).toNat)

/-! ### Divide and square root, integer (R62, R91, R92) -/

/-- A divide result: quotient, remainder, overflow. -/
structure DivRes where
  /-- Quotient or root. -/
  q : W16
  /-- Remainder. -/
  r : W16
  /-- Overflow case of R62. -/
  ov : Bool
deriving DecidableEq, Repr

/-- DIV: s32 by s16, truncated toward zero. -/
def divRes (a : W32) (b : W16) : DivRes :=
  if b = 0 then ⟨if 0 ≤ a.toInt then 0x7FFF else 0x8000, 0, true⟩ else
  let q := Int.tdiv a.toInt b.toInt
  if q < sMin 16 then ⟨0x8000, 0, true⟩ else if sMax 16 < q then ⟨0x7FFF, 0, true⟩
  else ⟨BitVec.ofInt 16 q, BitVec.ofInt 16 (Int.tmod a.toInt b.toInt), false⟩

/-- DIVU: u32 by u16. -/
def divuRes (a : W32) (b : W16) : DivRes :=
  if b = 0 ∨ 0xFFFF < a.toNat / b.toNat then ⟨0xFFFF, 0, true⟩
  else ⟨BitVec.ofNat 16 (a.toNat / b.toNat), BitVec.ofNat 16 (a.toNat % b.toNat), false⟩

/-- n / d for d > 0, rounded to nearest, ties to even. -/
def roundDiv (n : Int) (d : Nat) : Int :=
  let q := n / (d : Int)
  let r := n % (d : Int)
  if (d : Int) < 2 * r ∨ (2 * r = d ∧ q % 2 = 1) then q + 1 else q

/-- DIVQ: Q15 by Q15; the quotient saturates outside −1 to 1 − 2^−15 (R62, R83, R92). Log entry 28, DEDUCED. -/
def divqRes (a b : W16) : DivRes :=
  if b = 0 then ⟨if 0 ≤ a.toInt then 0x7FFF else 0x8000, 0, true⟩ else
  let n := if b.toInt < 0 then -a.toInt * 32768 else a.toInt * 32768
  let q := roundDiv n b.toInt.natAbs
  if q < sMin 16 then ⟨0x8000, 0, true⟩ else if sMax 16 < q then ⟨0x7FFF, 0, true⟩ else ⟨BitVec.ofInt 16 q, 0, false⟩

/-- SQRTU: floor of the square root of a u32. -/
def sqrtuRes (a : W32) : DivRes := ⟨BitVec.ofNat 16 (isqrt a.toNat), 0, false⟩

/-- Flags of a divide or root: Z and N follow the quotient or root (R62). -/
def divFlags (d : DivRes) : FlagUpd := ⟨decide (d.q = 0), d.q.msb, false, d.ov, d.ov⟩

/-! ### Conditions (R70) -/

/-- The test of condition code cc on FLG. -/
def condHolds (cc : Nat) (f : W16) : Bool :=
  let z := bit f 0; let n := bit f 1; let c := bit f 2; let v := bit f 3; let sv := bit f 4
  match cc with
  | 0 => z | 1 => !z | 2 => n != v | 3 => n == v | 4 => z || n != v | 5 => !z && n == v
  | 6 => !c | 7 => c | 8 => !c || z | 9 => c && !z | 10 => n | 11 => !n | 12 => v | 13 => !v | 14 => sv | _ => true

end Sys2Proof.Machine
end

