-- ==== Sys2Proof/Machine/Float.lean ====
section
/-!
DEFINITION. Machine/Float.lean: binary32 arithmetic, exact and then rounded once to nearest, ties to even (R93 to R99).
-/
namespace Sys2Proof.Machine

/-- A binary32 result with the exceptions it raises: NX, UF, OF, DZ, NV in bits 0 to 4. -/
structure FRes where
  /-- The value. -/
  v : W32
  /-- The exceptions. -/
  x : BitVec 5
deriving DecidableEq, Repr

/-- Inexact. -/
def xNX : BitVec 5 := 1
/-- Underflow. -/
def xUF : BitVec 5 := 2
/-- Overflow. -/
def xOF : BitVec 5 := 4
/-- Division by zero. -/
def xDZ : BitVec 5 := 8
/-- Invalid. -/
def xNV : BitVec 5 := 16

/-- Sign bit. -/
def fSign (a : W32) : Bool := a.msb
/-- Exponent field. -/
def fExp (a : W32) : Nat := fld a 30 23
/-- Fraction field. -/
def fFrac (a : W32) : Nat := fld a 22 0
/-- A NaN. -/
def isNan (a : W32) : Bool := decide (fExp a = 255) && decide (fFrac a ≠ 0)
/-- A signalling NaN. -/
def isSnan (a : W32) : Bool := isNan a && !bit a 22
/-- An infinity. -/
def isInf (a : W32) : Bool := decide (fExp a = 255) && decide (fFrac a = 0)
/-- A zero of either sign. -/
def isZero (a : W32) : Bool := decide (a &&& 0x7FFFFFFF = 0)

/-- Significand of a finite value: its magnitude is fMant a × 2 ^ fPow a. -/
def fMant (a : W32) : Nat := if fExp a = 0 then fFrac a else fFrac a + 2 ^ 23
/-- Power of two of a finite value's significand. -/
def fPow (a : W32) : Int := if fExp a = 0 then -149 else (fExp a : Int) - 150
/-- Signed significand. -/
def fInt (a : W32) : Int := if fSign a then -(fMant a : Int) else fMant a

/-- A zero of a sign. -/
def fZero (neg : Bool) : W32 := if neg then 0x80000000 else 0
/-- An infinity of a sign. -/
def fInf (neg : Bool) : W32 := if neg then 0xFF800000 else 0x7F800000
/-- The default NaN (R95). -/
def fNan : W32 := 0x7FC00000
/-- A NaN delivered quiet (R94). -/
def quiet (a : W32) : W32 := a ||| 0x00400000

/-- m, plus a positive fraction of one unit when `sticky`, shifted right by n and rounded to nearest, ties to even: the
value and whether it is inexact. -/
def shiftRound (m n : Nat) (sticky : Bool) : Nat × Bool :=
  if n = 0 then (m, sticky) else
  let q := m / 2 ^ n
  let r := m % 2 ^ n
  let h := 2 ^ (n - 1)
  (if h < r ∨ (r = h ∧ (sticky ∨ q % 2 = 1)) then q + 1 else q, decide (r ≠ 0) || sticky)

/-- The significand in units of 2 ^ q of the magnitude m × 2 ^ e (and a fraction of a unit when `sticky`), rounded. -/
def atQuantum (m : Nat) (e q : Int) (sticky : Bool) : Nat × Bool :=
  if q ≤ e then (m * 2 ^ (e - q).toNat, sticky) else shiftRound m (q - e).toNat sticky

/-- Round a nonzero magnitude m × 2 ^ e of a sign to binary32 (R93): tiny is judged on 24 bits with an unbounded
exponent. -/
def roundF (neg : Bool) (m : Nat) (e : Int) (sticky : Bool) : FRes :=
  if m = 0 then ⟨fZero neg, 0⟩ else
  let top : Int := (Nat.log2 m : Int) + e
  let u := atQuantum m e (top - 23) sticky
  let tiny := decide ((if u.1 = 2 ^ 24 then top + 1 else top) < -126)
  let q : Int := if top - 23 < -149 then -149 else top - 23
  let r := atQuantum m e q sticky
  let r1 := if r.1 = 2 ^ 24 then 2 ^ 23 else r.1
  let q1 : Int := if r.1 = 2 ^ 24 then q + 1 else q
  let sgn : Nat := if neg then 2 ^ 31 else 0
  if 2 ^ 23 ≤ r1 ∧ 104 < q1 then ⟨fInf neg, xOF ||| xNX⟩
  else
    let bits := if r1 < 2 ^ 23 then r1 else (q1 + 150).toNat * 2 ^ 23 + (r1 - 2 ^ 23)
    ⟨BitVec.ofNat 32 (sgn + bits), (if r.2 then xNX else 0) ||| (if tiny && r.2 then xUF else 0)⟩

/-- The result of a NaN operand: SA if it is a NaN, otherwise SB, quiet; NV for a signalling one (R94). -/
def nanRes (a b : W32) : FRes := ⟨quiet (if isNan a then a else b), if isSnan a || isSnan b then xNV else 0⟩

/-- FADD (R93 to R95). -/
def fAdd (a b : W32) : FRes :=
  if isNan a || isNan b then nanRes a b
  else if isInf a then (if isInf b && fSign a != fSign b then ⟨fNan, xNV⟩ else ⟨a, 0⟩)
  else if isInf b then ⟨b, 0⟩
  else
    let e := if fPow a ≤ fPow b then fPow a else fPow b
    let s := fInt a * (2 ^ (fPow a - e).toNat : Nat) + fInt b * (2 ^ (fPow b - e).toNat : Nat)
    if s = 0 then ⟨fZero (fSign a && fSign b), 0⟩ else roundF (decide (s < 0)) s.natAbs e false

/-- FNEG: inverts bit 31 (R96). -/
def fNeg (a : W32) : W32 := a ^^^ 0x80000000

/-- FSUB: the sign of a NaN taken from SB is not inverted (R94). -/
def fSub (a b : W32) : FRes := if isNan a || isNan b then nanRes a b else fAdd a (fNeg b)

/-- FMUL. -/
def fMul (a b : W32) : FRes :=
  let sg := fSign a != fSign b
  if isNan a || isNan b then nanRes a b
  else if isInf a || isInf b then (if isZero a || isZero b then ⟨fNan, xNV⟩ else ⟨fInf sg, 0⟩)
  else roundF sg (fMant a * fMant b) (fPow a + fPow b) false

/-- FDIV. -/
def fDiv (a b : W32) : FRes :=
  let sg := fSign a != fSign b
  if isNan a || isNan b then nanRes a b
  else if isInf a then (if isInf b then ⟨fNan, xNV⟩ else ⟨fInf sg, 0⟩)
  else if isInf b then ⟨fZero sg, 0⟩
  else if isZero b then (if isZero a then ⟨fNan, xNV⟩ else ⟨fInf sg, xDZ⟩)
  else
    let n := fMant a * 2 ^ 60
    roundF sg (n / fMant b) (fPow a - fPow b - 60) (decide (n % fMant b ≠ 0))

/-- FSQRT. -/
def fSqrt (a : W32) : FRes :=
  if isNan a then nanRes a a
  else if isZero a then ⟨a, 0⟩
  else if fSign a then ⟨fNan, xNV⟩
  else if isInf a then ⟨a, 0⟩
  else
    let odd := decide (fPow a % 2 = 1)
    let m := (if odd then 2 * fMant a else fMant a) * 2 ^ 80
    let e := (if odd then fPow a - 1 else fPow a) - 80
    let r := isqrt m
    roundF false r (e / 2) (decide (r * r ≠ m))

/-- Order key of a non-NaN value, with −0 below +0. -/
def fKey (a : W32) : Int := if fSign a then -((a &&& 0x7FFFFFFF).toNat : Int) - 1 else (a &&& 0x7FFFFFFF).toNat

/-- FMIN or FMAX (R96). -/
def fMinMax (max : Bool) (a b : W32) : FRes :=
  let x := if isSnan a || isSnan b then xNV else 0
  if isNan a && isNan b then nanRes a b
  else if isNan a then ⟨b, x⟩
  else if isNan b then ⟨a, x⟩
  else if max then ⟨if fKey a < fKey b then b else a, 0⟩ else ⟨if fKey b < fKey a then b else a, 0⟩

/-- Compare key: −0 equals +0. -/
def fVal (a : W32) : Int := if fSign a then -((a &&& 0x7FFFFFFF).toNat : Int) else (a &&& 0x7FFFFFFF).toNat

/-- The flags of FCMP and its exceptions (R61, R96). -/
def fCmp (a b : W32) : FlagUpd × BitVec 5 :=
  let x := if isSnan a || isSnan b then xNV else 0
  if isNan a || isNan b then (⟨false, false, false, true, false⟩, x)
  else (⟨decide (fVal a = fVal b), decide (fVal a < fVal b), decide (fVal b ≤ fVal a), false, false⟩, 0)

/-- An integer times 2 ^ −n as binary32: FLT (n = 0), FQ15 (15), FQ31 (31); zero converts to +0 (R97). -/
def fromInt (v : Int) (n : Nat) : FRes := roundF (decide (v < 0)) v.natAbs (-(n : Int)) false

/-- A conversion to w bits: FIX (n = 0), QF15 (w = 16, n = 15), QF31 (n = 31) (R97). -/
def toInt (w n : Nat) (a : W32) : Res w × BitVec 5 :=
  if isNan a then (mkRes 0 false true true, xNV)
  else if isInf a then
    (mkRes (BitVec.ofInt w (if fSign a then sMin w else sMax w)) false true true, xNV)
  else
    let e := fPow a + n
    let m := atQuantum (fMant a) e 0 false
    let v : Int := if fSign a then -(m.1 : Int) else m.1
    if v < sMin w ∨ sMax w < v then (mkRes (BitVec.ofInt w (if fSign a then sMin w else sMax w)) false true true, xNV)
    else (mkRes (BitVec.ofInt w v) false false false, if m.2 then xNX else 0)

/-- Flags of a binary32 result (R61): V for a NaN. -/
def fFlags (v : W32) : FlagUpd := ⟨isZero v, fSign v, false, isNan v, false⟩

/-- Flags of FDIV and FSQRT: V = 0 (R99). -/
def fDivFlags (v : W32) : FlagUpd := ⟨isZero v, fSign v, false, false, false⟩

end Sys2Proof.Machine
end

