-- ==== Sys2Proof/Machine/Issue.lean ====
section
/-!
DEFINITION. Machine/Issue.lean: the issue of one operation of a bundle: its fetch, the conditions under which the bundle
traps or faults (R31, R32, R35, R41, R43, R45, R51, R55, R56, R72, R73), and its effects, which wait in the pending list.
The conditions of a bundle are collected while its operations issue; the end of the cycle acts on the first of them.
-/
namespace Sys2Proof.Machine

/-- Trap causes (R72). -/
def tOrder : Nat := 1
/-- LENGTH. -/
def tLength : Nat := 2
/-- OPCODE. -/
def tOpcode : Nat := 3
/-- UNIT. -/
def tUnit : Nat := 4
/-- FIELD. -/
def tField : Nat := 5
/-- PAIR. -/
def tPair : Nat := 6
/-- FLAGS. -/
def tFlags : Nat := 0x10
/-- AGEN. -/
def tAgen : Nat := 0x11
/-- LEBUNDLE. -/
def tLeBundle : Nat := 0x12
/-- LOOPEND. -/
def tLoopEnd : Nat := 0x13
/-- NEST. -/
def tNest : Nat := 0x20

/-- The causes whose condition holds. -/
def causesOf (l : List (Bool × Nat)) : List Nat := (l.filter (·.1)).map (·.2)

/-- What one operation brings to its issue. -/
structure Op where
  /-- Unit number. -/
  unit : Nat
  /-- Syllables. -/
  len : Nat
  /-- Trap causes of the operation itself. -/
  traps : List Nat
  /-- It writes FLG (R41). -/
  flagW : Bool
  /-- The address generator it names. -/
  ag : Option Nat
  /-- It may not stand in the LE bundle of an active loop (R45). -/
  transfer : Bool
  /-- Its fault of order 4. -/
  fault : Option Nat
  /-- The memory and the virtual page of its access, for UNMAPPED (R31). -/
  page : Option (Nat × Nat)
  /-- The memory words it reads: memory, physical address. -/
  reads : List (Nat × Nat)
  /-- Its results. -/
  ents : List Entry
  /-- Its control transfer. -/
  ctl : Ctl
deriving DecidableEq, Repr

/-- An operation without any effect. -/
def Op.plain (unit len : Nat) : Op :=
  { unit := unit, len := len, traps := [], flagW := false, ag := none, transfer := false, fault := none, page := none,
    reads := [], ents := [], ctl := .none }

/-- A result that lands after `due` cycles. -/
def mkEnt (due unit : Nat) (dest : Dest) (val : W40) (fl : Option FlagUpd) : Entry :=
  { due := due, unit := unit, div := false, dest := dest, val := val, flags := fl, fpf := 0, fresh := true }

/-- A 16-bit result in a D register. -/
def entD (due unit n : Nat) (v : W16) (fl : Option FlagUpd) : Entry := mkEnt due unit (.d n) (v.setWidth 40) fl

/-- A 32-bit result in a D pair: both registers in the same cycle (R27). -/
def entP (due unit n : Nat) (v : W32) (fl : Option FlagUpd) : List Entry :=
  [entD due unit n (v.setWidth 16) fl, entD due unit (n + 1) ((v >>> 16).setWidth 16) none]

/-- The first of two causes (R51, R73). Two causes of order 4, or of order 5, of different units: the one of the lower unit stays,
which R51 leaves open.  Log entry 21, DEDUCED. -/
def Fail.before (a b : Fail) : Bool :=
  if a.order ≠ b.order then decide (a.order < b.order)
  else if a.order = 3 && decide (a.code ≠ b.code) then decide (a.code < b.code)
  else if a.order = 3 then decide (a.syl < b.syl)
  else false

/-- Keep the first cause. -/
def Fail.meet (old : Option Fail) (new : Option Fail) : Option Fail :=
  match old, new with
  | none, n => n
  | o, none => o
  | some a, some b => if b.before a then some b else some a

/-- The fault on the fetch of `n` syllables from `a` (R31, R54, R56). -/
def Cluster.fetchFail (x : Cluster) (a n : Nat) : Option Fail :=
  (List.range n).findSome? (fun i => match x.phys 0 (a + i) with
    | none => some ⟨2, cUnmapped, a, some (0, (a + i) / 1024)⟩
    | some q => if x.isBad 0 q then some ⟨2, cFetchParity, a, some (0, q)⟩ else none)

/-- The bundle address is LE of an active loop, by the values of the loop end check (R45, R46). -/
def Cluster.atLe (x : Cluster) : Bool :=
  (List.range x.loops).any (fun l => decide ((x.ctlUse (36 + l)).toNat = x.pc))

/-- The causes that operation `o` at syllable `a` brings, within the bundle so far. -/
def Cluster.opFails (x : Cluster) (o : Op) (a : Nat) : List (Option Fail) :=
  let ord := match x.iss.units with | u :: _ => decide (o.unit ≤ u) | [] => false
  let t (code syl : Nat) : Option Fail := some ⟨3, code, syl, none⟩
  if ord then [x.fetchFail a 1, t tOrder a]
  else
    [x.fetchFail a o.len] ++ o.traps.map (fun k => t k a) ++
    [(if o.flagW then x.iss.flagAt.bind (t tFlags) else none),
     (o.ag.bind (fun g => (x.iss.ags.find? (fun p => decide (p.1 = g))).bind (fun p => t tAgen p.2))),
     (if o.transfer && x.atLe then t tLeBundle a else none),
     o.fault.map (fun k => ⟨4, k, a, if k = cUnmapped then o.page else none⟩),
     (o.reads.find? (fun p => x.isBad p.1 p.2)).map (fun p => ⟨5, cLoadParity, a, some p⟩)]

/-- Syllables of the suppressed operations of the units before `u` in a re-issued bundle (R76). -/
def Issue.before (i : Issue) (u : Nat) : Nat := ((i.supp.filter (fun p => decide (p.1 < u))).map (·.2)).sum

/-- Syllables of the bundle: those of the operations that have issued and of the suppressed ones (R56, R76). -/
def Issue.total (i : Issue) : Nat := i.len + i.before 8

/-- Issue an operation: its place in the bundle is taken, its causes are collected and its results enter the pending
list.  An operation of a suppressed unit takes no effect (R76). -/
def Cluster.issueOp (x : Cluster) (o : Op) : Cluster :=
  let i := x.iss
  let a := x.pc + (i.len + i.before o.unit)
  if i.skip.contains o.unit then x
  else
    { x with
      iss := { i with
        units := o.unit :: i.units, len := i.len + o.len,
        flagAt := if o.flagW && i.flagAt.isNone then some a else i.flagAt,
        ags := match o.ag with
          | some g => if i.ags.any (fun p => decide (p.1 = g)) then i.ags else i.ags ++ [(g, a)]
          | none => i.ags,
        fail := (x.opFails o a).foldl Fail.meet i.fail,
        ctl := if o.ctl = .none then i.ctl else o.ctl },
      pend := x.pend ++ o.ents }

/-- CYCLES of the instance on a cluster (R50). -/
def State.declared (s : State) (c : Nat) : Nat :=
  match s.jobOn c with
  | some j => (s.recOf j.t).cycles
  | none => 0

/-- A bundle can issue on cluster c in this cycle: the instance runs, its declared count is not exceeded (R50) and no
branch shadow kills the cycle (R42). -/
def State.canIssue (s : State) (c : Nat) : Bool :=
  let x := s.cluster c
  decide (x.phase = .run) && decide (x.kill = 0) && decide (x.cycle ≤ s.declared c)

/-- Command an operation on cluster c. Log entry 4, DESIGN CHOICE. -/
def State.issue (s : State) (c : Nat) (g : Cluster → Op) : State :=
  if s.canIssue c then s.updCluster c (fun x => x.issueOp (g x)) else s

/-! ### Operation shapes -/

/-- A register is the odd half of a pair. -/
def odd (n : Nat) : Bool := decide (n % 2 = 1)

/-- An ALU operation: traps, flag writer, results. -/
def aluOp (u : Nat) (traps : List (Bool × Nat)) (f : Bool) (ents : List Entry) : Op :=
  { Op.plain u 2 with traps := causesOf traps, flagW := f, ents := ents }

/-- The flags an operation carries when its F bit is set. -/
def withF (f : Bool) (fl : FlagUpd) : Option FlagUpd := if f then some fl else none

/-- A 16-bit ALU result. -/
def alu16 (u : Nat) (f : Bool) (dst : Nat) (traps : List (Bool × Nat)) (r : Res 16) : Op :=
  aluOp u traps f [entD 1 u dst r.v (withF f r.f)]

/-- A 32-bit ALU result in a pair. -/
def alu32 (u : Nat) (f : Bool) (dst : Nat) (traps : List (Bool × Nat)) (r : Res 32) : Op :=
  aluOp u traps f (entP 1 u dst r.v (withF f r.f))

/-- Flags only: CMP, TST, CMP32 and FCMP, whose F bit is 1 and whose DST is 0. -/
def aluCmp (u : Nat) (traps : List (Bool × Nat)) (fl : FlagUpd) (fpf : BitVec 5) : Op :=
  aluOp u traps true [{ mkEnt 1 u .nowhere 0 (some fl) with fpf := fpf }]

/-- A binary32 or converted result in a pair. -/
def fp32 (due u : Nat) (f : Bool) (dst : Nat) (traps : List (Bool × Nat)) (v : W32) (fl : FlagUpd) (fpf : BitVec 5) : Op :=
  aluOp u traps f (match entP due u dst v (withF f fl) with | e :: es => { e with fpf := fpf } :: es | [] => [])

/-- A converted result in one D register. -/
def fp16 (due u : Nat) (f : Bool) (dst : Nat) (traps : List (Bool × Nat)) (v : W16) (fl : FlagUpd) (fpf : BitVec 5) : Op :=
  aluOp u traps f [{ entD due u dst v (withF f fl) with fpf := fpf }]

/-- A launch of the divide and square-root unit (R48, R62): UNIT on ALU0. -/
def divOp (u : Nat) (f : Bool) (traps : List (Bool × Nat)) (ents : List Entry) : Op :=
  aluOp u ((decide (u = 0), tUnit) :: traps) f (ents.map (fun e => { e with div := true, due := 18 }))

/-- A MAC operation on accumulators: traps, flag writer, results. -/
def macOp (unit len : Nat) (traps : List (Bool × Nat)) (f : Bool) (ents : List Entry) : Op :=
  { Op.plain unit len with traps := causesOf traps, flagW := f, ents := ents }

/-- One accumulator result, readable at +2. -/
def mac1 (unit : Nat) (f : Bool) (k : Nat) (traps : List (Bool × Nat)) (r : W40 × Bool) : Op :=
  macOp unit 2 traps f [mkEnt 2 unit (.acc k) r.1 (withF f (accFlags r))]

/-- A pair of accumulator results. -/
def mac2 (unit : Nat) (f : Bool) (k : Nat) (traps : List (Bool × Nat)) (r i : W40 × Bool) : Op :=
  macOp unit 2 traps f [mkEnt 2 unit (.acc k) r.1 (withF f (accFlags2 r i)), mkEnt 2 unit (.acc (k + 1)) i.1 none]

/-! ### Loads and stores (R31, R32, R34, R66, R67) -/

/-- The fault of an access of one or two words at a virtual address: UNMAPPED, then ALIGN. -/
def accessFault (addr : Nat) (wide mapped : Bool) : Option Nat :=
  if !mapped then some cUnmapped else if wide && odd addr then some cAlign else none

/-- The fields every load and store checks: the generator, the post-modify of R34 and R36. -/
def lsOp (x : Cluster) (unit ag : Nat) (mode : AgMode) (traps : List (Bool × Nat)) (f : Bool) (fault : Option Nat)
    (reads : List (Nat × Nat)) (ents : List Entry) : Op :=
  { Op.plain unit 2 with
    traps := causesOf traps, flagW := f, ag := some ag, fault := fault, page := some (unit - 3, (x.ea ag).toNat / 1024), reads := reads,
    ents := ents ++ [mkEnt 1 unit (.post ag) ((x.eaNext ag mode).setWidth 40) none] }

/-- A load of one word. -/
def loadOp (x : Cluster) (u ag : Nat) (mode : AgMode) (r : Nat) : Op :=
  let sp := 1 + u
  let v := (x.ea ag).toNat
  let p := x.phys sp v
  lsOp x (4 + u) ag mode [] false (accessFault v false p.isSome) (match p with | some q => [(sp, q)] | none => [])
    (match p with | some q => [entD 3 (4 + u) r (x.word sp q) none] | none => [])

/-- A load of a D pair: the word at the even address goes to the even register. -/
def loadPair (x : Cluster) (u ag : Nat) (mode : AgMode) (r : Nat) : Op :=
  let sp := 1 + u
  let v := (x.ea ag).toNat
  let p := x.phys sp v
  lsOp x (4 + u) ag mode [(odd r, tPair)] false (accessFault v true p.isSome)
    (match p with | some q => [(sp, q), (sp, q + 1)] | none => [])
    (match p with | some q => entP 3 (4 + u) r (x.word sp (q + 1) ++ x.word sp q) none | none => [])

/-- The destination of a store by LSX or LSY. -/
def storeDest (u phys virt : Nat) : Dest := if u = 0 then .xst phys virt else .yst phys virt

/-- A store of one word. -/
def storeOp (x : Cluster) (u ag : Nat) (mode : AgMode) (traps : List (Bool × Nat)) (v : W16) (f : Bool)
    (fl : FlagUpd) : Op :=
  let a := (x.ea ag).toNat
  let p := x.physW (1 + u) a
  lsOp x (4 + u) ag mode traps f (accessFault a false p.isSome) []
    (match p with | some q => [mkEnt 2 (4 + u) (storeDest u q a) (v.setWidth 40) (withF f fl)] | none => [])

/-- A store of two words, the low word at the even address. -/
def storePair (x : Cluster) (u ag : Nat) (mode : AgMode) (traps : List (Bool × Nat)) (lo hi : W16) (f : Bool)
    (fl : FlagUpd) : Op :=
  let a := (x.ea ag).toNat
  let p := x.physW (1 + u) a
  lsOp x (4 + u) ag mode traps f (accessFault a true p.isSome) []
    (match p with
     | some q => [mkEnt 2 (4 + u) (storeDest u q a) (lo.setWidth 40) (withF f fl),
                  mkEnt 2 (4 + u) (storeDest u (q + 1) (a + 1)) (hi.setWidth 40) none]
     | none => [])

/-! ### Control transfers (R42 to R45, R69, R71) -/

/-- A CTL operation. -/
def ctlOp (len : Nat) (traps : List (Bool × Nat)) (transfer : Bool) (fault : Option Nat) (ctl : Ctl) : Op :=
  { Op.plain 7 len with traps := causesOf traps, transfer := transfer, fault := fault, ctl := ctl }

/-- The end address of a LOOP is illegal (R45, R69, R72), by the values of the loop end check. -/
def Cluster.badEnd (x : Cluster) (le : Nat) : Bool :=
  decide (le ≤ x.pc) || decide (0x3FFF < le) ||
  (decide (0 < x.loops) &&
    (let s := (x.ctlUse (31 + x.loops)).toNat; let e := (x.ctlUse (35 + x.loops)).toNat
     decide (le < s) || decide (e ≤ le)))

/-- A LOOP of either form. Log entry 24, DEDUCED. -/
def loopOp (x : Cluster) (count le : Nat) : Op :=
  ctlOp 2 [(x.badEnd le, tLoopEnd), (decide (4 ≤ x.loops), tNest)] true none
    (if count = 0 then .skip le else .loop count le)

end Sys2Proof.Machine
end

