-- ==== Sys2Proof/Machine/PendList.lean ====
section
/-!
DEFINITION. Machine/PendList.lean: the pending list of a held cluster as its window shows it, and what the list becomes when the
hold ends (R75, R76, R81).
-/
namespace Sys2Proof.Machine

/-- The code of a pending entry's destination.  A result that only sets flags shows FLG. -/
def Dest.code : Dest → Nat
  | .nowhere => 0x40 + 44
  | .d n => n
  | .acc n => 0x20 + n
  | .cr n => 0x40 + n
  | .crUse n => 0x40 + n
  | .post n => 0x40 + n
  | .xst _ _ => 0x100
  | .yst _ _ => 0x101

/-- Word w of a pending entry. -/
def Entry.word (e : Entry) : Nat → W32
  | 0 => BitVec.ofNat 32 (2 ^ 31 + e.due % 32 * 2 ^ 24 + e.unit % 8 * 2 ^ 21 + b2n e.div * 2 ^ 20 + e.dest.code)
  | 1 => e.val.setWidth 32
  | 2 =>
    match e.dest with
    | .xst p _ => BitVec.ofNat 32 p
    | .yst p _ => BitVec.ofNat 32 p
    | _ => (e.val >>> 32).setWidth 32
  | _ =>
    let f := match e.flags with
      | some f => b2n f.z + 2 * b2n f.n + 4 * b2n f.c + 8 * b2n f.v + 16 + 32 * b2n f.sat
      | none => 0
    BitVec.ofNat 32 (f + 64 * e.fpf.toNat)

/-- The pending list as the window shows it when the hold begins: entry i is the i-th result in flight (log entry 18). -/
def Cluster.showList (x : Cluster) : Tab W32 :=
  (List.range (Nat.min 64 x.pend.length)).foldl (fun t i =>
    match x.pend[i]? with
    | some e => (List.range 4).foldl (fun t w => Tab.set (fun _ => 0) t (4 * i + w) (e.word w)) t
    | none => t) []

/-- The destination of a code; a store finds its virtual address through the frame map (R31). -/
def Cluster.destOf (x : Cluster) (code phys : Nat) : Dest :=
  let virt (sp : Nat) : Nat :=
    match (List.range 16).find? (fun p => bit (x.map sp p) 15 && decide (fld (x.map sp p) 5 0 = phys / 1024)) with
    | some p => 1024 * p + phys % 1024
    | none => phys % 0x4000
  if code < 0x20 then .d code
  else if code < 0x28 then .acc (code - 0x20)
  else if 0x40 ≤ code ∧ code < 0x40 + 52 then .cr (code - 0x40)
  else if code = 0x100 then .xst phys (virt 1)
  else if code = 0x101 then .yst phys (virt 2)
  else .nowhere

/-- The entry that four words write (R81). -/
def Cluster.readEntry (x : Cluster) (w0 w1 w2 w3 : W32) : Entry :=
  { due := fld w0 28 24, unit := fld w0 23 21, div := bit w0 20, dest := x.destOf (fld w0 11 0) (fld w2 15 0),
    val := (w2.setWidth 8 : Byte) ++ w1,
    flags := if bit w3 4 then some ⟨bit w3 0, bit w3 1, bit w3 2, bit w3 3, bit w3 5⟩ else none,
    fpf := (w3 >>> 6).setWidth 5, fresh := false }

/-- The results in flight when the hold ends: an entry that has not been touched is the one that was frozen, a valid entry
that has been written is what its words say, and the others are gone. -/
def Cluster.thaw (x : Cluster) : List Entry :=
  (List.range 64).filterMap (fun i =>
    let w (k : Nat) : W32 := Tab.get (fun _ => 0) x.plist (4 * i + k)
    let now := if bit (w 0) 31 then some (x.readEntry (w 0) (w 1) (w 2) (w 3)) else none
    match x.pend[i]? with
    | some e => if (List.range 4).all (fun k => decide (w k = e.word k)) then some e else now
    | none => now)

end Sys2Proof.Machine
end

