-- ==== Sys2Proof/Machine/Tick.lean ====
section
/-!
DEFINITION. Machine/Tick.lean: the end of a cluster cycle: results land (R36 to R41), stores reach memory and the signature
(R40, R139), loops and transfers choose the next bundle (R42 to R46), END (R49), traps, holds and their end (R51, R74 to R78,
R138).
-/
namespace Sys2Proof.Machine

/-! ### The store signature (R139) -/

/-- One bit step of the reflected CRC-64. -/
def crcBit (c : W64) : W64 := if c.getLsbD 0 then (c >>> 1) ^^^ 0xC96C5795D7870F42 else c >>> 1

/-- One byte. -/
def crcByte (c : W64) (b : Byte) : W64 :=
  let c := c ^^^ b.setWidth 64
  crcBit (crcBit (crcBit (crcBit (crcBit (crcBit (crcBit (crcBit c)))))))

/-- The record of one stored word: virtual address, data, space (0 X, 1 Y), 0. -/
def crcStore (c : W64) (virt : Nat) (v : W16) (space : Nat) : W64 :=
  (leBytes 2 virt ++ leBytes 2 v.toNat ++ [BitVec.ofNat 8 space, 0]).foldl crcByte c

/-! ### Landing -/

/-- Insert by unit number, behind the entries of the same unit (R38). -/
def insertUnit (e : Entry) : List Entry → List Entry
  | [] => [e]
  | y :: ys => if e.unit < y.unit then e :: y :: ys else y :: insertUnit e ys

/-- The entries that land in one cycle, so that the kept one of each register comes last. -/
def byUnit (l : List Entry) : List Entry := l.foldl (fun acc e => insertUnit e acc) []

/-- An explicit write of A, B, L, M, LS, LE or LC: other operations read it first, its use comes later (R36, R46). -/
def Entry.explicitUse (e : Entry) : Option Nat :=
  match e.dest with
  | .cr n => if n < 44 then some n else none
  | _ => none

/-- Land one result.  FLG and FPF follow separately. -/
def Cluster.put (sign : Bool) (x : Cluster) (e : Entry) : Cluster :=
  let v : W16 := e.val.setWidth 16
  match e.dest with
  | .nowhere => x
  | .d n => x.setD n v
  | .acc n => x.setAcc n e.val
  | .cr n => if n = 44 ∨ n = 45 then x else x.setCtl n v
  | .crUse n => x.setCtlUse n v
  | .post n => (x.setCtl n v).setCtlUse n v
  | .xst p a => let y := x.setWord 1 p v; if sign then { y with sig := crcStore y.sig a v 0 } else y
  | .yst p a => let y := x.setWord 2 p v; if sign then { y with sig := crcStore y.sig a v 1 } else y

/-- The entry that brings an explicit write to its use: one cycle later to the address generator, three cycles later to
the loop end check. -/
def Entry.toUse (e : Entry) : Option Entry :=
  e.explicitUse.map (fun n => { e with due := if n < 32 then 1 else 3, dest := .crUse n, flags := none, fpf := 0, fresh := false })

/-- FLG after the entries of one cycle, in landing order: the kept writer gives Z, N, C and V; SV is the OR of the base
value and every saturation indication (R38).  An entry whose destination is FLG is an explicit write, also where an emulation
target has set word 3 bit 4 of it (log entry 116, DEDUCED). -/
def Cluster.landFlg (x : Cluster) (es : List Entry) : Cluster :=
  let ws := es.filter (fun e => e.flags.isSome || decide (e.dest = .cr 44))
  match ws.getLast? with
  | none => x
  | some e =>
    let sat := ws.any (fun e => match e.flags with | some f => f.sat | none => false)
    let v : W16 :=
      if e.dest = .cr 44 then e.val.setWidth 16
      else match e.flags with
        | some f => BitVec.ofNat 16 (b2n f.z + 2 * b2n f.n + 4 * b2n f.c + 8 * b2n f.v + 16 * b2n (bit x.flg 4))
        | none => x.flg
    x.setCtl 44 (if sat then v ||| 0x10 else v)

/-- FPF after the entries of one cycle: an explicit write, then the OR of every exception (R28, R38, R58). -/
def Cluster.landFpf (x : Cluster) (es : List Entry) : Cluster :=
  let base : W16 := match (es.filter (fun e => decide (e.dest = .cr 45))).getLast? with
    | some e => e.val.setWidth 16
    | none => x.ctl 45
  let exc : BitVec 5 := es.foldl (fun a e => a ||| e.fpf) 0
  x.setCtl 45 (base ||| exc.setWidth 16)

/-- One cycle of the pending list: what is due lands, the rest counts down.  A launch of the divide unit in this cycle
drops the result of an earlier launch (R48).  `sign`: stores enter the signature. -/
def Cluster.land (x : Cluster) (sign : Bool) : Cluster :=
  let relaunch := x.pend.any (fun e => e.fresh && e.div)
  let p := x.pend.filter (fun e => !(relaunch && e.div && !e.fresh))
  let now := byUnit (p.filter (fun e => decide (e.due ≤ 1)))
  let later := (p.filter (fun e => decide (1 < e.due))).map (fun e => { e with due := e.due - 1, fresh := false })
  let order := now.filter (fun e => e.explicitUse.isNone) ++ now.filter (fun e => e.explicitUse.isSome)
  let y := order.foldl (Cluster.put sign) { x with pend := later ++ now.filterMap Entry.toUse }
  (y.landFlg now).landFpf now

/-- The entry is a store. -/
def Entry.isStore (e : Entry) : Bool := match e.dest with | .xst _ _ => true | .yst _ _ => true | _ => false

/-- The pending stores alone: register results in flight at END are discarded, the flags of a store with F among them (R49). -/
def Cluster.keepStores (x : Cluster) : Cluster :=
  { x with pend := (x.pend.filter Entry.isStore).map (fun e => { e with flags := none, fpf := 0 }) }

/-! ### The next bundle -/

/-- The loop hardware's own update of LS, LE or LC: every reader sees it in the next cycle, and an explicit write that is
not yet in use is replaced (R38, R46). -/
def Cluster.hwSet (x : Cluster) (n : Nat) (v : W16) : Cluster :=
  let y := (x.setCtl n v).setCtlUse n v
  { y with pend := y.pend.filter (fun e => decide (e.dest ≠ .crUse n)) }

/-- The loops left active by a branch: the first level whose body does not hold the target ends, with every level inside
it (R45).  The bodies are those of `x`, by the values of the loop end check: R45 does not say which values judge a branch while an
explicit write of LS or LE is not yet in use (log entry 113, DEDUCED). -/
def Cluster.loopsAfter (x : Cluster) (target : Nat) : Nat :=
  ((List.range x.loops).find? (fun l =>
    decide (target < (x.ctlUse (32 + l)).toNat) || decide ((x.ctlUse (36 + l)).toNat < target))).getD x.loops

/-- Framing from LE for a count of 0 (R44): the address of the bundle after it, or the fault that framing meets.
`prev`: unit of the operation before, plus 1. -/
def Cluster.frameFrom (x : Cluster) (a prev : Nat) : Nat → Nat ⊕ Fail
  | 0 => .inl a
  | n + 1 =>
    match x.fetchFail a 1 with
    | some f => .inr f
    | none =>
      let s := (x.word 0 ((x.phys 0 a).getD 0))
      let u := fld s 11 9
      if u < prev then .inl a
      else if bit s 12 then
        match x.fetchFail (a + 1) 1 with
        | some f => .inr f
        | none => if bit s 13 then .inl (a + 2) else x.frameFrom (a + 2) (u + 1) n
      else if bit s 13 then .inl (a + 1) else x.frameFrom (a + 1) (u + 1) n

/-- The bundle after LE, for a LOOP with count 0. -/
def Cluster.afterLe (x : Cluster) (le : Nat) : Nat ⊕ Fail := x.frameFrom le 0 9

/-- A program-counter value that says: framing from LE `le` has met a fault, detected when the target would issue. -/
def skipMark : Nat := 0x10000

/-- A taken branch (R42). -/
def Cluster.jump (x old : Cluster) (target : Nat) : Cluster :=
  { x with pc := target, kill := 2, loops := old.loopsAfter target }

/-- The loop end check, or the next bundle in sequence (R44).  `old`: the cluster at issue. -/
def Cluster.advance (x old : Cluster) : Cluster :=
  let next := old.pc + old.iss.total
  let top := old.loops - 1
  if decide (0 < old.loops) && decide ((old.ctlUse (36 + top)).toNat = old.pc) then
    let lc := old.ctlUse (40 + top)
    if 1 < lc.toNat then { x.hwSet (40 + top) (lc - 1) with pc := (old.ctlUse (32 + top)).toNat }
    else { x.hwSet (40 + top) 0 with loops := top, pc := next }
  else { x with pc := next }

/-- What the control transfer of the bundle does.  `old`: the cluster at issue, `x`: after landing.  A LOOP with count 0
writes none of LS, LE and LC (log entry 112, DEDUCED). -/
def Cluster.transfer (x old : Cluster) : Cluster :=
  let next := old.pc + old.iss.total
  match old.iss.ctl with
  | .none => x.advance old
  | .jump t => x.jump old t
  | .call t => { x with rs := Tab.set (fun _ => 0) x.rs x.depth (BitVec.ofNat 14 next), depth := x.depth + 1, pc := t, kill := 2 }
  | .ret t => { x with depth := x.depth - 1, pc := t, kill := 2 }
  | .loop n le =>
    let l := old.loops
    { ((x.hwSet (32 + l) (BitVec.ofNat 16 next)).hwSet (36 + l) (BitVec.ofNat 16 le)).hwSet (40 + l) (BitVec.ofNat 16 n) with
      loops := l + 1, pc := next }
  | .skip le =>
    match old.afterLe le with
    | .inl t => x.jump old t
    | .inr _ => { x with pc := skipMark + le, kill := 2 }
  | .stop => x

/-! ### Traps and faults of the issuing bundle -/

/-- The results of the present cycle are taken back (R51). -/
def Cluster.dropFresh (x : Cluster) : Cluster := { x with pend := x.pend.filter (fun e => !e.fresh), iss := Issue.empty }

/-- The trap of cluster c can hold it (R74): EMULATE is 1, its TRAP source targets T0 to T64, and not the Ridge after it
has stopped. -/
def State.canHold (s : State) (c : Nat) : Bool :=
  let t := (s.src (4 * c + 1)).tgt
  bit (s.reg .emuCtl) 0 && decide (t ≤ 64) && !(decide (t = 0) && s.ridge.stopped)

/-- The pair of cluster c has diverged at a hold (R75, R138): counted in TRAP_FAULTS. -/
def State.diverge (s : State) (c : Nat) : State := (s.bump .trapFaults).instFault c cDiverge

/-- Judge cluster c against a partner that holds (R75): `n` is the cycle count that c has issued without trapping. -/
def State.judge (s : State) (c n : Nat) : State :=
  let m := s.cluster (mate c)
  if s.checkedOn c && decide (m.phase = .held) && decide (m.trapCycle ≤ n) then s.diverge c else s

/-- Cluster c holds at its trapped bundle; its partner, if it has trapped differently or has passed, has diverged (R75). -/
def State.hold (s : State) (c : Nat) : State :=
  let x := s.cluster c
  let s1 := s.updCluster c (fun x => { x with phase := .held, resume := none, plist := x.showList })
  if s.checkedOn c then
    let m := s.cluster (mate c)
    let same := decide (m.phase = .held) && decide (m.trapCycle = x.trapCycle) && decide (m.trapCause = x.trapCause)
    let coming := decide (m.phase = .run) && decide (m.cycle ≤ x.trapCycle)
    if same || coming then s1 else s1.diverge c
  else s1

/-- Cluster c traps with a cause at the operation whose first syllable is `syl` (R72 to R75). -/
def State.trapAt (s : State) (c cause syl : Nat) : State :=
  let s1 := (s.updCluster c (fun x => { x.dropFresh with
    trapCause := cause, trapBundle := x.pc, trapSyl := syl, trapCycle := x.cycle })).raise (4 * c + 1)
  if s1.canHold c then s1.hold c else s1.instFault c cTrap

/-- The first cause of the bundle takes effect (R51). -/
def State.failAt (s : State) (c : Nat) (f : Fail) : State :=
  if f.order = 3 then s.trapAt c f.code f.syl
  else
    let s1 := match f.word with
      | some w => if f.code = cUnmapped then s.updCluster c (fun x => { x with unmapped := some w }) else s.accessParity c w.1 w.2
      | none => s
    (s1.updCluster c Cluster.dropFresh).instFault c f.code

/-! ### The end of a cycle -/

/-- A cycle in the shadow of a branch (R42): results land, the target issues when the shadow is over. -/
def State.killedCycle (s : State) (c : Nat) : State :=
  let x := s.cluster c
  let s1 := s.setCluster c { x.land (s.checkedOn c) with kill := x.kill - 1, cycle := x.cycle + 1 }
  let s2 :=
    if decide (x.kill = 1) && decide (skipMark ≤ x.pc) && decide (x.cycle + 1 ≤ s.declared c) then
      match (s1.cluster c).afterLe (x.pc - skipMark) with
      | .inr f => s1.failAt c f
      | .inl t => s1.updCluster c (fun x => { x with pc := t })
    else s1
  s2.judge c x.cycle

/-- END has issued: the stores alone stay pending (R49). -/
def State.endCycle (s : State) (c : Nat) : State :=
  let x := s.cluster c
  let y := (x.land (s.checkedOn c)).keepStores
  let s1 := s.setCluster c { y with iss := Issue.empty, phase := if y.pend.isEmpty then .ended else .drain }
  if s.checkedOn c && decide ((s.cluster (mate c)).phase = .held) then s1.diverge c else s1

/-- A cycle in which a bundle has issued. -/
def State.issuedCycle (s : State) (c : Nat) : State :=
  let x := s.cluster c
  if x.iss.ctl = .stop then s.endCycle c
  else
    let y := (x.land (s.checkedOn c)).transfer x
    (s.setCluster c { y with cycle := x.cycle + 1, iss := Issue.empty }).judge c x.cycle

/-- A cycle after END in which stores land. -/
def State.drainCycle (s : State) (c : Nat) : State :=
  s.updCluster c (fun x => let y := x.land (s.checkedOn c); { y with phase := if y.pend.isEmpty then .ended else .drain })

/-- The end of the present cycle of cluster c. -/
def State.tick (s : State) (c : Nat) : State :=
  let x := s.cluster c
  match x.phase with
  | .drain => s.drainCycle c
  | .run =>
    if s.declared c < x.cycle then s.instFault c cOverrun
    else if 0 < x.kill then s.killedCycle c
    else match x.iss.fail with
      | some f => s.failAt c f
      | none => if x.iss.units.isEmpty && !x.iss.bare then s else s.issuedCycle c
  | _ => s

/-! ### The end of a hold (R53, R55, R76 to R78) -/

/-- An operation as framed: unit, syllable address, first syllable bits [8:0] with L, second syllable. -/
structure Framed where
  /-- Unit number. -/
  unit : Nat
  /-- Address of the first syllable. -/
  at_ : Nat
  /-- L. -/
  long : Bool
  /-- First syllable, bits [8:0]. -/
  s1 : Nat
  /-- Second syllable, 0 without one. -/
  s2 : Nat
deriving DecidableEq, Repr

/-- Frame the bundle from address `a` (R55): its operations, and what ends it other than E: a fetch fault or ORDER.
The syllable 0x0000 of cleared memory ends it too, so that its cause is LENGTH (R72; log entry 111).
`prev`: unit of the operation before, plus 1. -/
def Cluster.frameBundle (x : Cluster) (a prev : Nat) : Nat → List Framed × Option Fail
  | 0 => ([], none)
  | n + 1 =>
    match x.fetchFail a 1 with
    | some f => ([], some f)
    | none =>
      let s := x.word 0 ((x.phys 0 a).getD 0)
      let u := fld s 11 9
      if u < prev then ([], some ⟨3, tOrder, a, none⟩)
      else
        let long := bit s 12
        match if long then x.fetchFail (a + 1) 1 else none with
        | some f => ([], some f)
        | none =>
          let s2 := if long then (x.word 0 ((x.phys 0 (a + 1)).getD 0)).toNat else 0
          let op : Framed := ⟨u, a, long, fld s 8 0, s2⟩
          if bit s 13 || decide (s = 0) then ([op], none)
          else
            let r := x.frameBundle (a + if long then 2 else 1) (u + 1) n
            (op :: r.1, r.2)

/-- The units that a SKIP byte names. -/
def skipUnits (b : Byte) : List Nat := (List.range 8).filter (bit b)

/-- The issue record of a held bundle that re-issues: the suppressed operations that P holds take their place and no effect, and
the bundle is complete at once where it holds no other (R76). -/
def Cluster.reissue (x : Cluster) (r : Resume) : Issue :=
  let skip := match r.redirect with | some _ => addNew (skipUnits r.skip) 7 | none => skipUnits r.skip
  let b := x.frameBundle x.pc 0 9
  let gone := b.1.filter (fun o => skip.contains o.unit)
  { Issue.empty with
    skip := skip, supp := gone.map (fun o => (o.unit, if o.long then 2 else 1)),
    bare := b.2.isNone && b.1.all (fun o => skip.contains o.unit),
    ctl := match r.redirect with | some t => .jump t | none => .none }

/-- The held bundle of cluster c re-issues. -/
def State.reissue (s : State) (c : Nat) (r : Resume) : State :=
  (s.bump .emuCount).updCluster c (fun x =>
    { x with phase := .run, resume := none, pend := x.thaw, plist := [], iss := x.reissue r })

/-- GO, with or without REDIRECT, for cluster c (R76, R77). -/
def State.resumeGo (s : State) (c : Nat) (r : Resume) : State :=
  let x := s.cluster c
  if x.phase ≠ .held then s
  else if !s.checkedOn c then s.reissue c r
  else
    let m := s.cluster (mate c)
    match m.resume with
    | some q =>
      if m.phase ≠ .held then s.updCluster c (fun x => { x with resume := some r })
      else if q = r then (s.reissue c r).reissue (mate c) q
      else s.diverge c
    | none => s.updCluster c (fun x => { x with resume := some r })

/-- FAIL for cluster c (R76, R77). -/
def State.resumeFail (s : State) (c : Nat) : State :=
  if (s.cluster c).phase = .held then s.instFault c cTrap else s

/-- A write to TRAP_RESUME: FAIL applies over GO (R76). -/
def State.writeResume (s : State) (c v : Nat) : State :=
  if nbit v 9 then s.resumeFail c
  else if nbit v 8 then
    s.resumeGo c ⟨BitVec.ofNat 8 v, if nbit v 10 then some (s.cluster c).trapTarget else none⟩
  else s

end Sys2Proof.Machine
end

