-- ==== Sys2Proof/Machine/Bundle.lean ====
section
/-!
DEFINITION. Machine/Bundle.lean: the bundle at PC as P holds it: the conditions under which its encodings and combinations trap
(R57, R72, R73).
-/
namespace Sys2Proof.Machine

/-- Trap causes of an ALU operation. -/
def aluCauses (u s1 s2 : Nat) : List Nat :=
  let opg := nfld s1 8 5; let dst := nfld s1 4 0
  let f := nbit s2 13; let sub := nfld s2 12 10; let sa := nfld s2 9 5; let sb := nfld s2 4 0
  let nosb := (decide (sb ≠ 0), tField)
  let cmp := (!f || decide (dst ≠ 0), tField)
  let pr (n : Nat) : Bool × Nat := (odd n, tPair)
  let op := [(true, tOpcode)]
  causesOf <| match opg with
  | 0 => if sub = 4 ∨ sub = 5 then [nosb] else []
  | 1 => if sub = 7 then op else if 4 ≤ sub then [nosb] else []
  | 2 => if sub = 7 then op else if 4 ≤ sub then [(decide (16 ≤ sb), tField)] else []
  | 3 => if sub = 7 then op else if sub ≤ 1 then [pr dst, pr sa, pr sb]
         else if sub = 4 ∨ sub = 5 then [pr dst, pr sa] else [nosb, pr dst, pr sa]
  | 4 => if sub = 3 then op else if 6 ≤ sub then [nosb, pr dst, pr sa] else [pr dst, pr sa, pr sb]
  | 5 => match sub with
    | 0 => [cmp, pr sa, pr sb]
    | 1 => [nosb, pr dst, pr sa]
    | 2 => [nosb, pr dst, pr sa]
    | 3 => [nosb, pr dst]
    | 4 => [nosb, pr sa]
    | 5 => [nosb, pr dst, pr sa]
    | 6 => [nosb, pr dst, pr sa]
    | _ => op
  | 6 => (decide (u = 0), tUnit) :: (match sub with
    | 0 => [pr dst, pr sa]
    | 1 => [pr dst, pr sa]
    | 2 => []
    | 3 => [pr dst, pr sa, pr sb]
    | 4 => [nosb, pr dst, pr sa]
    | 5 => [nosb, pr sa]
    | _ => op)
  | 7 => [(decide (nfld s2 13 8 ≠ 0) || decide (2 ≤ nfld s2 7 6) || decide (52 ≤ nfld s2 5 0), tField)]
  | 8 => []
  | 9 => [(decide (52 ≤ 32 + dst), tField)]
  | 10 => match sub with
    | 0 => [cmp]
    | 1 => [cmp]
    | 2 => [cmp, pr sa, pr sb]
    | _ => op
  | 11 => op
  | _ => []

/-- Trap causes of a MAC operation with its length right. -/
def macCauses (s1 s2 : Nat) : List Nat :=
  let op := nfld s1 8 4; let f := nbit s1 3; let k := nfld s1 2 0
  let da := nfld s2 9 5; let db := nfld s2 4 0
  let top := (decide (nfld s2 13 10 ≠ 0), tField)
  let fz := (f, tField)
  let pr (n : Nat) : Bool × Nat := (odd n, tPair)
  causesOf <| match op with
  | 0x00 => [fz]
  | 0x01 => [fz, pr k]
  | 0x02 => [top]
  | 0x03 => [top]
  | 0x04 => [top]
  | 0x05 => [top, pr k, pr db]
  | 0x06 => [top, pr k, pr db]
  | 0x07 => [top, pr k, pr da, pr db]
  | 0x08 => [top, pr k, pr da, pr db]
  | 0x09 => [top, pr k, pr da, pr db]
  | 0x0A => [top, (decide (da = 31), tField)]
  | 0x0C => [top]
  | 0x0D => [top]
  | 0x10 => [(decide (nfld s2 13 6 ≠ 0), tField)]
  | 0x11 => [(decide (nfld s2 13 3 ≠ 0), tField)]
  | 0x12 => [(decide (nfld s2 13 3 ≠ 0), tField)]
  | 0x13 => [top, fz, (decide (db ≠ 0), tField), pr da]
  | 0x14 => [top, (decide (da ≠ 0), tField)]
  | 0x15 => [top, (decide (da ≠ 0), tField)]
  | 0x16 => [top, (decide (da ≠ 0), tField), pr db]
  | 0x17 => [top, (decide (da ≠ 0), tField)]
  | _ => [(true, tOpcode)]

/-- Trap causes of a load or store. -/
def lsCauses (s1 s2 : Nat) : List Nat :=
  let op := nfld s1 8 6; let mode := nfld s1 2 1; let f := nbit s1 0
  let r := nfld s2 4 0
  let common := [(decide (nfld s2 7 5 ≠ 0), tField), (decide (mode ≠ 0) && decide (nfld s2 13 8 ≠ 0), tField)]
  let noF := (f, tField)
  let acc := (decide (8 ≤ r), tField)
  causesOf <| common ++ match op with
  | 0 => [noF]
  | 1 => [noF, (odd r, tPair)]
  | 2 => [noF]
  | 3 => [noF, (odd r, tPair)]
  | 4 => [acc]
  | 5 => [acc, (odd r, tPair)]
  | 6 => [acc]
  | _ => [(true, tOpcode)]

/-- Trap causes of a TBL operation. -/
def tblCauses (s1 s2 : Nat) : List Nat :=
  causesOf <| match nfld s1 8 6 with
  | 0 => [(decide (nfld s2 13 10 ≠ 0), tField), (decide (nfld s1 3 1 = 7), tField)]
  | 1 => [(decide (nfld s2 13 10 ≠ 0), tField), (decide (nfld s1 3 0 ≠ 0), tField)]
  | 2 => [(decide (nfld s1 3 0 ≠ 0), tField)]
  | _ => [(true, tOpcode)]

/-- Trap causes of a CTL operation. -/
def Cluster.ctlCauses (x : Cluster) (s1 s2 : Nat) : List Nat :=
  let op := nfld s1 8 5
  let loop (le : Nat) : List (Bool × Nat) :=
    [(x.atLe, tLeBundle), (x.badEnd le, tLoopEnd), (decide (4 ≤ x.loops), tNest)]
  causesOf <| match op with
  | 0 => [(decide (nfld s1 4 0 ≠ 0), tField)]
  | 1 => [(decide (nfld s1 4 0 ≠ 0), tField)]
  | 2 => [(decide (nfld s1 4 0 ≠ 0), tField), (x.atLe, tLeBundle)]
  | 3 => [(nbit s1 4, tField), (x.atLe, tLeBundle)]
  | 4 => [(decide (nfld s1 4 0 ≠ 0), tField), (x.atLe, tLeBundle)]
  | 5 => [(x.atLe, tLeBundle)]
  | 6 => loop s2
  | 7 => [(true, tOpcode)]
  | _ => loop (x.pc + nfld s2 9 0)

/-- The L field is wrong for the operation (R72, LENGTH). -/
def Framed.badLength (o : Framed) : Bool :=
  if o.unit = 2 ∨ o.unit = 3 then (if nfld o.s1 8 4 ≤ 1 then o.long else !o.long)
  else if o.unit = 7 then
    let op := nfld o.s1 8 5
    if op = 0 ∨ op = 1 ∨ op = 2 ∨ op = 5 then o.long else if op = 7 then false else !o.long
  else !o.long

/-- The trap causes of a framed operation by itself. -/
def Cluster.framedCauses (x : Cluster) (o : Framed) : List Nat :=
  if o.badLength then [tLength]
  else if o.unit ≤ 1 then aluCauses o.unit o.s1 o.s2
  else if o.unit ≤ 3 then macCauses o.s1 o.s2
  else if o.unit ≤ 5 then lsCauses o.s1 o.s2
  else if o.unit = 6 then tblCauses o.s1 o.s2
  else x.ctlCauses o.s1 o.s2

/-- The operation writes FLG (R41). -/
def Framed.writesFlags (o : Framed) : Bool :=
  if o.unit ≤ 1 then
    let opg := nfld o.s1 8 5
    if opg ≤ 6 ∨ opg = 10 then nbit o.s2 13
    else if opg = 7 then decide (nfld o.s2 7 6 = 0) && decide (nfld o.s2 5 0 = 44)
    else decide (opg = 9) && decide (nfld o.s1 4 0 = 12)
  else if o.unit ≤ 3 then nbit o.s1 3
  else if o.unit ≤ 5 then nbit o.s1 0
  else false

/-- FLAGS: more than one flag writer; the lowest-addressed one is reported. -/
def flagsFail (ops : List Framed) : Option Fail :=
  match ops.filter Framed.writesFlags with
  | a :: _ :: _ => some ⟨3, tFlags, a.at_, none⟩
  | _ => none

/-- AGEN: LSX and LSY name one generator. -/
def agenFail (ops : List Framed) : Option Fail :=
  match ops.filter (fun o => decide (o.unit = 4) || decide (o.unit = 5)) with
  | [a, b] => if nfld a.s1 5 3 = nfld b.s1 5 3 then some ⟨3, tAgen, a.at_, none⟩ else none
  | _ => none

/-- The first cause of orders 2 and 3 that the bundle at PC meets (R51, R73). -/
def Cluster.bundleFail (x : Cluster) : Option Fail :=
  let r := x.frameBundle x.pc 0 9
  let ops := r.1.filter (fun o => !x.iss.skip.contains o.unit)
  let own := ops.flatMap (fun o => (x.framedCauses o).map (fun k => some (Fail.mk 3 k o.at_ none)))
  ([r.2, flagsFail ops, agenFail ops] ++ own).foldl Fail.meet none

end Sys2Proof.Machine
end

