-- ==== Sys2Proof/Machine/AluFp.lean ====
section
/-!
DEFINITION. Machine/AluFp.lean: the binary32 and conversion operations of ALU0 and ALU1 (R61), and the divide and square-root
unit launched from ALU1 (R62).  Results, NaN payloads and exceptions are those of R82 to R99.
-/
namespace Sys2Proof.Machine

/-- FADD, readable at +3. -/
def execFadd (c : Fin 32) (u : Fin 2) (f : Bool) (dst sa sb : Fin 32) (s : State) : Answer :=
  .next (s.issue c (fun x => let r := fAdd (x.dp sa) (x.dp sb); fp32 3 u f dst [(odd dst, tPair), (odd sa, tPair), (odd sb, tPair)] r.v (fFlags r.v) r.x))

/-- FSUB. -/
def execFsub (c : Fin 32) (u : Fin 2) (f : Bool) (dst sa sb : Fin 32) (s : State) : Answer :=
  .next (s.issue c (fun x => let r := fSub (x.dp sa) (x.dp sb); fp32 3 u f dst [(odd dst, tPair), (odd sa, tPair), (odd sb, tPair)] r.v (fFlags r.v) r.x))

/-- FMUL. -/
def execFmul (c : Fin 32) (u : Fin 2) (f : Bool) (dst sa sb : Fin 32) (s : State) : Answer :=
  .next (s.issue c (fun x => let r := fMul (x.dp sa) (x.dp sb); fp32 3 u f dst [(odd dst, tPair), (odd sa, tPair), (odd sb, tPair)] r.v (fFlags r.v) r.x))

/-- FMIN, readable at +1. -/
def execFmin (c : Fin 32) (u : Fin 2) (f : Bool) (dst sa sb : Fin 32) (s : State) : Answer :=
  .next (s.issue c (fun x => let r := fMinMax false (x.dp sa) (x.dp sb); fp32 1 u f dst [(odd dst, tPair), (odd sa, tPair), (odd sb, tPair)] r.v (fFlags r.v) r.x))

/-- FMAX. -/
def execFmax (c : Fin 32) (u : Fin 2) (f : Bool) (dst sa sb : Fin 32) (s : State) : Answer :=
  .next (s.issue c (fun x => let r := fMinMax true (x.dp sa) (x.dp sb); fp32 1 u f dst [(odd dst, tPair), (odd sa, tPair), (odd sb, tPair)] r.v (fFlags r.v) r.x))

/-- FABS: bit 31 cleared; no exception. -/
def execFabs (c : Fin 32) (u : Fin 2) (f : Bool) (dst sa : Fin 32) (s : State) : Answer :=
  .next (s.issue c (fun x => let v := (x.dp sa) &&& 0x7FFFFFFF; fp32 1 u f dst [(odd dst, tPair), (odd sa, tPair)] v (fFlags v) 0))

/-- FNEG: bit 31 inverted; no exception. -/
def execFneg (c : Fin 32) (u : Fin 2) (f : Bool) (dst sa : Fin 32) (s : State) : Answer :=
  .next (s.issue c (fun x => let v := fNeg (x.dp sa); fp32 1 u f dst [(odd dst, tPair), (odd sa, tPair)] v (fFlags v) 0))

/-- FCMP: flags only; NV for a signalling NaN alone. -/
def execFcmp (c : Fin 32) (u : Fin 2) (sa sb : Fin 32) (s : State) : Answer :=
  .next (s.issue c (fun x => let r := fCmp (x.dp sa) (x.dp sb); aluCmp u [(odd sa, tPair), (odd sb, tPair)] r.1 r.2))

/-- FLT: s32 pair to binary32. -/
def execFlt (c : Fin 32) (u : Fin 2) (f : Bool) (dst sa : Fin 32) (s : State) : Answer :=
  .next (s.issue c (fun x => let r := fromInt (x.dp sa).toInt 0; fp32 2 u f dst [(odd dst, tPair), (odd sa, tPair)] r.v (fFlags r.v) r.x))

/-- FIX: binary32 to s32 pair, nearest even, saturating. -/
def execFix (c : Fin 32) (u : Fin 2) (f : Bool) (dst sa : Fin 32) (s : State) : Answer :=
  .next (s.issue c (fun x => let r := toInt 32 0 (x.dp sa); fp32 2 u f dst [(odd dst, tPair), (odd sa, tPair)] r.1.v r.1.f r.2))

/-- FQ15: one Q15 register to binary32. -/
def execFq15 (c : Fin 32) (u : Fin 2) (f : Bool) (dst sa : Fin 32) (s : State) : Answer :=
  .next (s.issue c (fun x => let r := fromInt (x.dr sa).toInt 15; fp32 2 u f dst [(odd dst, tPair)] r.v (fFlags r.v) r.x))

/-- QF15: binary32 to one Q15 register, saturating. -/
def execQf15 (c : Fin 32) (u : Fin 2) (f : Bool) (dst sa : Fin 32) (s : State) : Answer :=
  .next (s.issue c (fun x => let r := toInt 16 15 (x.dp sa); fp16 2 u f dst [(odd sa, tPair)] r.1.v r.1.f r.2))

/-- FQ31: Q31 pair to binary32. -/
def execFq31 (c : Fin 32) (u : Fin 2) (f : Bool) (dst sa : Fin 32) (s : State) : Answer :=
  .next (s.issue c (fun x => let r := fromInt (x.dp sa).toInt 31; fp32 2 u f dst [(odd dst, tPair), (odd sa, tPair)] r.v (fFlags r.v) r.x))

/-- QF31: binary32 to a Q31 pair, saturating. -/
def execQf31 (c : Fin 32) (u : Fin 2) (f : Bool) (dst sa : Fin 32) (s : State) : Answer :=
  .next (s.issue c (fun x => let r := toInt 32 31 (x.dp sa); fp32 2 u f dst [(odd dst, tPair), (odd sa, tPair)] r.1.v r.1.f r.2))

/-- DIV: quotient truncated toward zero in DST, remainder in DST + 1. -/
def execDiv (c : Fin 32) (u : Fin 2) (f : Bool) (dst sa sb : Fin 32) (s : State) : Answer :=
  .next (s.issue c (fun x => let r := divRes (x.dp sa) (x.dr sb); divOp u f [(odd dst, tPair), (odd sa, tPair)] (entP 1 u dst (r.r ++ r.q) (withF f (divFlags r)))))

/-- DIVU: unsigned quotient and remainder. -/
def execDivu (c : Fin 32) (u : Fin 2) (f : Bool) (dst sa sb : Fin 32) (s : State) : Answer :=
  .next (s.issue c (fun x => let r := divuRes (x.dp sa) (x.dr sb); divOp u f [(odd dst, tPair), (odd sa, tPair)] (entP 1 u dst (r.r ++ r.q) (withF f (divFlags r)))))

/-- DIVQ: Q15 quotient, rounded convergently, saturating. -/
def execDivq (c : Fin 32) (u : Fin 2) (f : Bool) (dst sa sb : Fin 32) (s : State) : Answer :=
  .next (s.issue c (fun x => let r := divqRes (x.dr sa) (x.dr sb); divOp u f [] [entD 1 u dst r.q (withF f (divFlags r))]))

/-- FDIV. -/
def execFdiv (c : Fin 32) (u : Fin 2) (f : Bool) (dst sa sb : Fin 32) (s : State) : Answer :=
  .next (s.issue c (fun x => let r := fDiv (x.dp sa) (x.dp sb); divOp u f [(odd dst, tPair), (odd sa, tPair), (odd sb, tPair)] (fp32 1 u f dst [] r.v (fDivFlags r.v) r.x).ents))

/-- FSQRT. -/
def execFsqrt (c : Fin 32) (u : Fin 2) (f : Bool) (dst sa : Fin 32) (s : State) : Answer :=
  .next (s.issue c (fun x => let r := fSqrt (x.dp sa); divOp u f [(odd dst, tPair), (odd sa, tPair)] (fp32 1 u f dst [] r.v (fDivFlags r.v) r.x).ents))

/-- SQRTU: floor of the square root of a u32 pair, in one D register. -/
def execSqrtu (c : Fin 32) (u : Fin 2) (f : Bool) (dst sa : Fin 32) (s : State) : Answer :=
  .next (s.issue c (fun x => let r := sqrtuRes (x.dp sa); divOp u f [(odd sa, tPair)] [entD 1 u dst r.q (withF f (divFlags r))]))

end Sys2Proof.Machine
end

