-- ==== Sys2Proof/Machine/AluInt.lean ====
section
/-!
DEFINITION. Machine/AluInt.lean: the integer operations of ALU0 and ALU1 (R59, R60).  Reserved forms trap (R72).
-/
namespace Sys2Proof.Machine

/-- ADD: DST = SA + SB, saturating with MODE.SAT (R59, R60). -/
def execAdd (c : Fin 32) (u : Fin 2) (f : Bool) (dst sa sb : Fin 32) (s : State) : Answer :=
  .next (s.issue c (fun x => alu16 u f dst [] (addRes (x.dr sa) (x.dr sb) false x.sat)))

/-- SUB: DST = SA − SB; C is not-borrow. -/
def execSub (c : Fin 32) (u : Fin 2) (f : Bool) (dst sa sb : Fin 32) (s : State) : Answer :=
  .next (s.issue c (fun x => alu16 u f dst [] (subRes (x.dr sa) (x.dr sb) true x.sat)))

/-- ADC: DST = SA + SB + C, with C of the end of the previous cycle. -/
def execAdc (c : Fin 32) (u : Fin 2) (f : Bool) (dst sa sb : Fin 32) (s : State) : Answer :=
  .next (s.issue c (fun x => alu16 u f dst [] (addRes (x.dr sa) (x.dr sb) (bit x.flg 2) x.sat)))

/-- SBC: DST = SA − SB − (1 − C). -/
def execSbc (c : Fin 32) (u : Fin 2) (f : Bool) (dst sa sb : Fin 32) (s : State) : Answer :=
  .next (s.issue c (fun x => alu16 u f dst [] (subRes (x.dr sa) (x.dr sb) (bit x.flg 2) x.sat)))

/-- NEG: DST = 0 − SA. -/
def execNeg (c : Fin 32) (u : Fin 2) (f : Bool) (dst sa : Fin 32) (s : State) : Answer :=
  .next (s.issue c (fun x => alu16 u f dst [] (negRes (x.dr sa) x.sat)))

/-- ABS: DST = |SA|. -/
def execAbs (c : Fin 32) (u : Fin 2) (f : Bool) (dst sa : Fin 32) (s : State) : Answer :=
  .next (s.issue c (fun x => alu16 u f dst [] (absRes (x.dr sa) x.sat)))

/-- MIN: the signed minimum. -/
def execMin (c : Fin 32) (u : Fin 2) (f : Bool) (dst sa sb : Fin 32) (s : State) : Answer :=
  .next (s.issue c (fun x => alu16 u f dst [] (logicRes (if (x.dr sa).toInt ≤ (x.dr sb).toInt then (x.dr sa) else (x.dr sb)))))

/-- MAX: the signed maximum. -/
def execMax (c : Fin 32) (u : Fin 2) (f : Bool) (dst sa sb : Fin 32) (s : State) : Answer :=
  .next (s.issue c (fun x => alu16 u f dst [] (logicRes (if (x.dr sa).toInt ≤ (x.dr sb).toInt then (x.dr sb) else (x.dr sa)))))

/-- AND. -/
def execAnd (c : Fin 32) (u : Fin 2) (f : Bool) (dst sa sb : Fin 32) (s : State) : Answer :=
  .next (s.issue c (fun x => alu16 u f dst [] (logicRes ((x.dr sa) &&& (x.dr sb)))))

/-- OR. -/
def execOr (c : Fin 32) (u : Fin 2) (f : Bool) (dst sa sb : Fin 32) (s : State) : Answer :=
  .next (s.issue c (fun x => alu16 u f dst [] (logicRes ((x.dr sa) ||| (x.dr sb)))))

/-- XOR. -/
def execXor (c : Fin 32) (u : Fin 2) (f : Bool) (dst sa sb : Fin 32) (s : State) : Answer :=
  .next (s.issue c (fun x => alu16 u f dst [] (logicRes ((x.dr sa) ^^^ (x.dr sb)))))

/-- ANDN: SA AND NOT SB. -/
def execAndn (c : Fin 32) (u : Fin 2) (f : Bool) (dst sa sb : Fin 32) (s : State) : Answer :=
  .next (s.issue c (fun x => alu16 u f dst [] (logicRes ((x.dr sa) &&& ~~~(x.dr sb)))))

/-- NOT. -/
def execNot (c : Fin 32) (u : Fin 2) (f : Bool) (dst sa : Fin 32) (s : State) : Answer :=
  .next (s.issue c (fun x => alu16 u f dst [] (logicRes (~~~(x.dr sa)))))

/-- MOV between D registers. -/
def execMov (c : Fin 32) (u : Fin 2) (f : Bool) (dst sa : Fin 32) (s : State) : Answer :=
  .next (s.issue c (fun x => alu16 u f dst [] (logicRes (x.dr sa))))

/-- NORM: the number of bits below bit 15 that equal bit 15. -/
def execNorm (c : Fin 32) (u : Fin 2) (f : Bool) (dst sa : Fin 32) (s : State) : Answer :=
  .next (s.issue c (fun x => alu16 u f dst [] (logicRes (BitVec.ofNat 16 (normCount (x.dr sa))))))

/-- LSL: amount SB[4:0]. -/
def execLsl (c : Fin 32) (u : Fin 2) (f : Bool) (dst sa sb : Fin 32) (s : State) : Answer :=
  .next (s.issue c (fun x => alu16 u f dst [] (lslRes (x.dr sa) (fld (x.dr sb) 4 0))))

/-- LSR: amount SB[4:0]. -/
def execLsr (c : Fin 32) (u : Fin 2) (f : Bool) (dst sa sb : Fin 32) (s : State) : Answer :=
  .next (s.issue c (fun x => alu16 u f dst [] (lsrRes (x.dr sa) (fld (x.dr sb) 4 0))))

/-- ASR: amount SB[4:0]. -/
def execAsr (c : Fin 32) (u : Fin 2) (f : Bool) (dst sa sb : Fin 32) (s : State) : Answer :=
  .next (s.issue c (fun x => alu16 u f dst [] (asrRes (x.dr sa) (fld (x.dr sb) 4 0))))

/-- ROR: amount SB[4:0] modulo 16; C is the last bit rotated out. -/
def execRor (c : Fin 32) (u : Fin 2) (f : Bool) (dst sa sb : Fin 32) (s : State) : Answer :=
  .next (s.issue c (fun x => alu16 u f dst [] (rorRes (x.dr sa) (fld (x.dr sb) 4 0))))

/-- LSLI: an amount of 16 to 31 traps with FIELD. -/
def execLsli (c : Fin 32) (u : Fin 2) (f : Bool) (dst sa : Fin 32) (n : Fin 32) (s : State) : Answer :=
  .next (s.issue c (fun x => alu16 u f dst [(decide (16 ≤ n.val), tField)] (lslRes (x.dr sa) n)))

/-- LSRI. -/
def execLsri (c : Fin 32) (u : Fin 2) (f : Bool) (dst sa : Fin 32) (n : Fin 32) (s : State) : Answer :=
  .next (s.issue c (fun x => alu16 u f dst [(decide (16 ≤ n.val), tField)] (lsrRes (x.dr sa) n)))

/-- ASRI. -/
def execAsri (c : Fin 32) (u : Fin 2) (f : Bool) (dst sa : Fin 32) (n : Fin 32) (s : State) : Answer :=
  .next (s.issue c (fun x => alu16 u f dst [(decide (16 ≤ n.val), tField)] (asrRes (x.dr sa) n)))

/-- ADD32 on pairs. -/
def execAdd32 (c : Fin 32) (u : Fin 2) (f : Bool) (dst sa sb : Fin 32) (s : State) : Answer :=
  .next (s.issue c (fun x => alu32 u f dst [(odd dst, tPair), (odd sa, tPair), (odd sb, tPair)] (addRes (x.dp sa) (x.dp sb) false x.sat)))

/-- SUB32 on pairs. -/
def execSub32 (c : Fin 32) (u : Fin 2) (f : Bool) (dst sa sb : Fin 32) (s : State) : Answer :=
  .next (s.issue c (fun x => alu32 u f dst [(odd dst, tPair), (odd sa, tPair), (odd sb, tPair)] (subRes (x.dp sa) (x.dp sb) true x.sat)))

/-- NEG32. -/
def execNeg32 (c : Fin 32) (u : Fin 2) (f : Bool) (dst sa : Fin 32) (s : State) : Answer :=
  .next (s.issue c (fun x => alu32 u f dst [(odd dst, tPair), (odd sa, tPair)] (negRes (x.dp sa) x.sat)))

/-- ABS32. -/
def execAbs32 (c : Fin 32) (u : Fin 2) (f : Bool) (dst sa : Fin 32) (s : State) : Answer :=
  .next (s.issue c (fun x => alu32 u f dst [(odd dst, tPair), (odd sa, tPair)] (absRes (x.dp sa) x.sat)))

/-- ASR32I: amount 0 to 31. -/
def execAsr32i (c : Fin 32) (u : Fin 2) (f : Bool) (dst sa : Fin 32) (n : Fin 32) (s : State) : Answer :=
  .next (s.issue c (fun x => alu32 u f dst [(odd dst, tPair), (odd sa, tPair)] (asrRes (x.dp sa) n)))

/-- LSL32I: amount 0 to 31. -/
def execLsl32i (c : Fin 32) (u : Fin 2) (f : Bool) (dst sa : Fin 32) (n : Fin 32) (s : State) : Answer :=
  .next (s.issue c (fun x => alu32 u f dst [(odd dst, tPair), (odd sa, tPair)] (lslRes (x.dp sa) n)))

/-- MOV32. -/
def execMov32 (c : Fin 32) (u : Fin 2) (f : Bool) (dst sa : Fin 32) (s : State) : Answer :=
  .next (s.issue c (fun x => alu32 u f dst [(odd dst, tPair), (odd sa, tPair)] (logicRes (x.dp sa))))

/-- CMP: the flags of SA − SB, of the difference as compared, without saturation. -/
def execCmp (c : Fin 32) (u : Fin 2) (sa sb : Fin 32) (s : State) : Answer :=
  .next (s.issue c (fun x => aluCmp u [] (subRes (x.dr sa) (x.dr sb) true false).f 0))

/-- TST: the flags of SA AND SB. -/
def execTst (c : Fin 32) (u : Fin 2) (sa sb : Fin 32) (s : State) : Answer :=
  .next (s.issue c (fun x => aluCmp u [] (logicRes ((x.dr sa) &&& (x.dr sb))).f 0))

/-- CMP32: the flags of pair SA − pair SB. -/
def execCmp32 (c : Fin 32) (u : Fin 2) (sa sb : Fin 32) (s : State) : Answer :=
  .next (s.issue c (fun x => aluCmp u [(odd sa, tPair), (odd sb, tPair)] (subRes (x.dp sa) (x.dp sb) true false).f 0))

end Sys2Proof.Machine
end

