-- ==== Sys2Proof/Machine/AluMove.lean ====
section
/-!
DEFINITION. Machine/AluMove.lean: moves and immediates of the ALUs (R58).
-/
namespace Sys2Proof.Machine

/-- A write to a control register: readable at +1 by other operations; FLG makes it a flag writer (R41, R58). -/
def crWrite (u cr : Nat) (traps : List (Bool × Nat)) (v : W16) : Op :=
  aluOp u traps (decide (cr = 44)) [mkEnt 1 u (.cr cr) (v.setWidth 40) none]

/-- MOVC: DIR 0 copies the D register to the control register, DIR 1 the other way; other values of DIR and CR 52 to 63
trap with FIELD (R58). -/
def execMovc (c : Fin 32) (u : Fin 2) (dir : Fin 4) (d : Fin 32) (cr : Fin 64) (s : State) : Answer :=
  .next (s.issue c (fun x =>
    let traps := [(decide (2 ≤ dir.val) || decide (52 ≤ cr.val), tField)]
    if dir = 0 then crWrite u cr traps (x.dr d)
    else aluOp u traps false [entD 1 u d (x.ctl cr) none]))

/-- LDIA: CR 0 to 31; A, B and L take IMM14 zero-extended, M sign-extended (R58). -/
def execLdia (c : Fin 32) (u : Fin 2) (cr : Fin 32) (imm : Syl) (s : State) : Answer :=
  .next (s.issue c (fun _ => crWrite u cr [] (if 24 ≤ cr.val then imm.signExtend 16 else imm.setWidth 16)))

/-- LDIK: CR 32 + S1[4:0]; SCL takes IMM14 sign-extended, the others zero-extended; CR 52 to 63 trap (R58). -/
def execLdik (c : Fin 32) (u : Fin 2) (cr : Fin 32) (imm : Syl) (s : State) : Answer :=
  .next (s.issue c (fun _ => crWrite u (32 + cr.val) [(decide (20 ≤ cr.val), tField)]
    (if cr.val = 14 then imm.signExtend 16 else imm.setWidth 16)))

/-- LDI: a D register takes a 16-bit immediate (R58). -/
def execLdi (c : Fin 32) (u : Fin 2) (dst : Fin 32) (imm : W16) (s : State) : Answer :=
  .next (s.issue c (fun _ => aluOp u [] false [entD 1 u dst imm none]))

end Sys2Proof.Machine
end

