-- ==== Sys2Proof/Machine/Calib.lean ====
section
/-!
DEFINITION. Machine/Calib.lean: calibration generations: building, verification, adoption (R129, R180 to R186, R188).
-/
namespace Sys2Proof.Machine

/-- GEN_STATUS after a result: 1 verifying, 2 ready, 3 rejected; REASON stays but for a rejection. -/
def State.genStatus (s : State) (result num reason : Nat) : State :=
  s.updReg .genStatus (fun v =>
    BitVec.ofNat 32 ((if result = 3 then reason else fld v 31 28) * 2 ^ 28 + result * 2 ^ 24 + num % 65536))

/-! ### Building (R180) -/

/-- OPEN: a FREE descriptor takes state BUILDING and the next number. -/
def State.openGen (s : State) : State :=
  if (s.genIn gBuilding).isSome || (s.genIn gVerifying).isSome then s
  else match s.genIn gFree with
    | none => s.updReg .genStatus (fun v => setFld v 31 28 5)
    | some i =>
      let n := s.genNum % 65535 + 1
      { s.setGen i { Gen.reset with st := gBuilding, num := n } with genNum := n }

/-- ABANDON: a BUILDING generation goes FREE and its buffers are freed. -/
def State.abandonGen (s : State) : State :=
  match s.genIn gBuilding with
  | some i => s.freeGen i
  | none => s

/-- REQ: one class 3 buffer for the BUILDING generation, an unreserved request (R133). -/
def State.requestGenBuf (s : State) : State :=
  match s.genIn gBuilding with
  | none => s
  | some i =>
    let h := Holder.gen (s.gen i).num
    match s.allocAnswer 3 h with
    | some b => ((s.allocTake 3 h).updGen i (fun g => { g with bufs := g.bufs ++ [b] })).setReg .genBuf (BitVec.ofNat 32 b)
    | none => (s.allocTake 3 h).updReg .genBuf (fun v => setBit v 30 true)

/-- GO: the BUILDING generation is submitted. -/
def State.submitGen (s : State) : State :=
  match s.genIn gBuilding with
  | none => s
  | some i =>
    let o := s.genOrder + 1
    let s1 := ({ s with genOrder := o }).updGen i (fun g => { g with st := gVerifying, order := o })
    (s1.bump (.mrdCount 4)).genStatus 1 (s.gen i).num 0

/-! ### Verification (R181) -/

/-- A directory entry as its 16 bytes hold it, with whether its reserved bits are 0 and its PAGES is 1 to 16. -/
def dirEntry (bs : List Byte) : DirEnt × Bool :=
  let w0 := leAt bs 0 4; let w1 := leAt bs 4 4; let w2 := leAt bs 8 4; let w3 := leAt bs 12 4
  let pages := nfld w0 16 12
  (⟨nfld w0 11 0, pages, nfld w1 24 0, nfld w2 24 0⟩,
   decide (nfld w0 31 17 = 0 ∧ nfld w1 31 25 = 0 ∧ nfld w2 31 25 = 0 ∧ w3 = 0 ∧ 1 ≤ pages ∧ pages ≤ 16) &&
     (decide (8 < pages) || decide (nfld w2 24 0 = 0)))

/-- The directory that GEN_DIR and ENTRIES name. -/
def State.readDir (s : State) : List (DirEnt × Bool) :=
  let off := fld (s.reg .genDir) 24 0
  (List.range (fld (s.reg .genSubmit) 10 0)).map (fun e => dirEntry (s.storeRead (off + 16 * e) 16))

/-- Table sets strictly ascend. -/
def ascending : List DirEnt → Bool
  | a :: b :: t => decide (a.tset < b.tset) && ascending (b :: t)
  | _ => true

/-- The store ranges of the pages of an entry. -/
def DirEnt.pageAt (e : DirEnt) (i : Nat) : Nat := if i < 8 then e.b0 + 2048 * i else e.b1 + 2048 * (i - 8)

/-- The table sets that admitted tasklets name by TABLE pages. -/
def State.usedSets (s : State) : List Nat :=
  (s.admitted.filter (fun t => !((s.recOf t).entries 5).isEmpty)).map (fun t => (s.recOf t).tset)

/-- The buffers of the non-FREE generations but descriptor i. -/
def State.otherBufs (s : State) (i : Nat) : List Nat :=
  (((List.range 8).filter (fun j => decide (j ≠ i) && decide ((s.gen j).st ≠ gFree))).map (fun j => (s.gen j).named)).flatten

/-- The first byte in error that verification meets: in the directory, then in the pages it names. Log entry 49, DEDUCED. -/
def State.dirBad (s : State) (es : List DirEnt) : Option Nat :=
  let off := fld (s.reg .genDir) 24 0
  match s.storeBadAt off (16 * fld (s.reg .genSubmit) 10 0) with
  | some a => some a
  | none => es.findSome? (fun e => (List.range e.pages).findSome? (fun i => s.storeBadAt (e.pageAt i) 2048))

/-- The reason that rejects descriptor i, 0 for none (R181). -/
def State.verifyReason (s : State) (i : Nat) : Nat :=
  let g := s.gen i
  let n := fld (s.reg .genSubmit) 10 0
  let off := fld (s.reg .genDir) 24 0
  if decide (n = 0) || decide (1024 < n) || !g.bufs.contains off then 1
  else
    let d := s.readDir
    let es := d.map (·.1)
    if !(d.all (·.2)) || !ascending es then 1
    else
      let cur := match s.genIn gCurrent with | some c => (s.gen c).dir | none => []
      if !(s.usedSets.all (fun t => es.any (fun e => decide (e.tset = t)))) ||
         es.any (fun e => cur.any (fun c => decide (c.tset = e.tset) && decide (c.pages ≠ e.pages))) then 2
      else
        let named := es.flatMap (fun e => if 8 < e.pages then [e.b0, e.b1] else [e.b0])
        let used := (s.cls 3).used.map (·.1)
        if !(named.all (fun b => used.contains b && (g.bufs.contains b || (s.otherBufs i).contains b))) then 3
        else if (s.dirBad es).isSome then 4 else 0

/-- The largest |new − old| of two runs of s16 entries. -/
def diffWords : List Byte → List Byte → Nat → Nat
  | a0 :: a1 :: as_, b0 :: b1 :: bs, m =>
    diffWords as_ bs (Nat.max m (snat 16 (leNat [a0, a1]) - snat 16 (leNat [b0, b1])).natAbs)
  | _, _, m => m

/-- The largest difference over the table sets that two directories hold, each in its memory, saturated at 65,535.
Log entry 50, DESIGN CHOICE. -/
def diffDirs (m1 : Memory) (d1 : List DirEnt) (m2 : Memory) (d2 : List DirEnt) : Nat :=
  Nat.min 65535 (d1.foldl (fun acc e => match d2.find? (fun f => decide (f.tset = e.tset)) with
    | some f => (List.range (Nat.min e.pages f.pages)).foldl (fun acc i =>
        diffWords (Memory.readList m1 (e.pageAt i) 2048) (Memory.readList m2 (f.pageAt i) 2048) acc) acc
    | none => acc) 0)

/-! ### Adoption (R183, R184) -/

/-- An accepted adoption of READY descriptor i. -/
def State.adopt (s : State) (i : Nat) (byHost : Bool) : State :=
  s.updGen i (fun g => { g with
    st := if (s.genIn gRetiring).isSome then gQueued else gLoading, byHost := byHost, retry := false })

/-- A generation is QUEUED or LOADING. -/
def State.adopting (s : State) : Bool := (s.genIn gQueued).isSome || (s.genIn gLoading).isSome

/-- Auto-adoption of READY descriptor i (R184). Log entry 51, DEDUCED. -/
def State.autoAdopt (s : State) (i : Nat) : State :=
  let g := s.gen i
  let lim := s.reg .adoptLimit
  if !bit (s.reg .mrdCtl) 2 then s
  else if fld lim 15 0 < g.dStep ∨ fld lim 31 16 < g.dBase then
    ((s.updGen i (fun g => { g with retry := false })).raise 409).bump (.mrdCount 7)
  else if s.adopting then s.updGen i (fun g => { g with retry := true })
  else s.adopt i false

/-- A rejected generation goes FREE and GEN_REJECT is raised. -/
def State.rejectGen (s : State) (i reason : Nat) : State :=
  let n := (s.gen i).num
  (((s.freeGen i).genStatus 3 n reason).raise 406).bump (.mrdCount 5)

/-- The first byte in error of the CURRENT generation's pages that the differences read: those of the table sets that both hold. -/
def State.diffBad (s : State) (es cur : List DirEnt) : Option Nat :=
  es.findSome? (fun e => match cur.find? (fun f => decide (f.tset = e.tset)) with
    | some f => (List.range (Nat.min e.pages f.pages)).findSome? (fun i => s.storeBadAt (f.pageAt i) 2048)
    | none => none)

/-- The store errors that a verification reports: the one that rejects the generation (R181), or one met in a page of the CURRENT
generation, an error response to Mordant (R154, R156). -/
def State.verifyReads (s : State) (i : Nat) (es cur : List DirEnt) : State :=
  match s.verifyReason i with
  | 0 => match s.diffBad es cur with
    | some a => (s.storeError a).decodeError (0x100000000 + a) 8 false
    | none => s
  | 4 => match s.dirBad es with
    | some a => s.storeError a
    | none => s
  | _ => s

/-- The end of the verification of descriptor i.  D_STEP is free where a page of the CURRENT generation could not be read: log
entry 122, DESIGN CHOICE. -/
def State.verified (s : State) (i : Nat) : State :=
  let g := s.gen i
  let es := s.readDir.map (·.1)
  let cur := match s.genIn gCurrent with | some c => (s.gen c).dir | none => []
  let s1 := { s.verifyReads i es cur with free := s.free + 1 }
  match s.verifyReason i with
  | 0 =>
    let named := es.flatMap (fun e => if 8 < e.pages then [e.b0, e.b1] else [e.b0])
    let dStep := if (s.diffBad es cur).isSome then Config.freeVal s.free % 65536 else diffDirs s.store es s.store cur
    let dBase := diffDirs s.store es s.baseMem s.baseDir
    let s2 := s1.setGen i { g with st := gReady, dir := es, bufs := g.bufs.filter named.contains, dStep := dStep, dBase := dBase }
    let s3 := s2.forEach (g.bufs.filter (fun b => !named.contains b)) (fun s b => s.allocFree 3 b)
    (((s3.setReg .genDiff (BitVec.ofNat 32 (dBase * 65536 + dStep))).genStatus 2 g.num 0).raise 405).autoAdopt i
  | r => s1.rejectGen i r

/-- The table pages that a LOADING generation brings: home clusters and page, for every guaranteed tasklet (R129). -/
def State.loadList (s : State) (num : Nat) : List (List Nat × PageId) :=
  (s.admitted.filter (fun t => !(s.recOf t).bestEffort && !(s.task t).homeLost)).flatMap (fun t =>
    let r := s.recOf t
    (r.entries 5).map (fun e => (r.homes, PageId.table r.tset num (r.index e))))

/-- The adoption of LOADING descriptor i takes effect (R183). -/
def State.adopted (s : State) (i : Nat) : State :=
  let g := s.gen i
  let s1 := match s.genIn gCurrent with
    | some c => if (s.gen c).refs = 0 then s.freeGen c else s.updGen c (fun g => { g with st := gRetiring })
    | none => s
  let s2 := s1.forEach ((List.range 8).filter (fun j => decide ((s.gen j).st = gReady) && decide ((s.gen j).order < g.order)))
    (fun s j => s.freeGen j)
  let s3 := s2.updGen i (fun g => { g with st := gCurrent })
  let s4 := if g.byHost then
      let inDir (a : Nat) : Bool := g.dir.any (fun e => (List.range e.pages).any (fun k =>
        decide (e.pageAt k ≤ a) && decide (a < e.pageAt k + 2048)))
      { s3 with baseline := g.num, baseDir := g.dir, baseMem := s3.store.filter (fun c => inDir c.1) }
    else s3
  let s5 := (s4.raise 407).bump (.mrdCount 6)
  s5.forEach ((List.range 8).filter (fun j => decide ((s5.gen j).st = gReady) && (s5.gen j).retry)) (fun s j => s.autoAdopt j)

/-- The pager loads a LOADING generation's pages; an uncorrectable store error abandons the adoption (R129, R186).  While a page
finds no frame, GEN_LOADED is not raised and the adoption waits (R126, R129). -/
def State.loadGen (s : State) : State :=
  match s.genIn gLoading with
  | none => s
  | some i =>
    let l := s.loadList (s.gen i).num
    match l.findSome? (fun p => s.pageFail p.2 true) with
    | some s1 => s1.rejectGen i 4
    | none =>
      let s1 := s.forEach l (fun s p => s.loadPage p.1 3 p.2)
      if l.all (fun p => s1.residentOn p.1 3 p.2) then (s1.raise 387).adopted i else s1

/-! ### The commands -/

/-- GEN_BUILD.OPEN (R180). -/
def execGenOpen (s : State) : Answer := .next s.openGen

/-- GEN_BUILD.ABANDON (R188). -/
def execGenAbandon (s : State) : Answer := .next s.abandonGen

/-- GEN_BUF.REQ (R180, R133). -/
def execGenReq (s : State) : Answer := .next s.requestGenBuf

/-- GEN_SUBMIT.GO (R180). -/
def execGenGo (s : State) : Answer := .next s.submitGen

/-- GEN_VERIFICATION_DONE: the submitted generation is READY or rejected (R181, R184). -/
def execGenVerificationDone (s : State) : Answer :=
  .next (match s.genIn gVerifying with
    | some i => s.verified i
    | none => s)

/-- GEN_LOADED: the pages of the LOADING generation are loaded and the adoption takes effect (R129, R183, R186). -/
def execGenLoaded (s : State) : Answer := .next s.loadGen

end Sys2Proof.Machine
end

