-- ==== Sys2Proof/Machine/Stage.lean ====
section
/-!
DEFINITION. Machine/Stage.lean: what the dispatcher and the pager do around a run: start and stage-in (R118, R120, R122, R127,
R137), page fetches (R123 to R128, R155, R156).
-/
namespace Sys2Proof.Machine

/-! ### Stage-in (R118, R120, R122) -/

/-- A cluster is free to take an instance (R120, R307, R313). -/
def State.freeCluster (s : State) (c : Nat) : Bool :=
  let x := s.cluster c
  decide (x.phase = .idle) && x.newStep.isNone && s.isOn c

/-- The instance that cluster c would start: the first it serves that is neither deferred nor waiting for a page. -/
def State.nextFor (s : State) (c : Nat) : Option Job :=
  (s.servedBy c).find? (fun j => !j.deferred && s.pagesReady j)

/-- The instance at the head of the queue that c starts from waits for a page: PAGE_LATE, once for that instance (R127). -/
def State.pageLate (s : State) (c : Nat) : State :=
  match (s.servedBy c).find? (fun j => !j.deferred) with
  | some j => if s.pagesReady j || j.late then s else ((s.putJob j { j with late := true }).raise 384).bump (.pagerCount 2)
  | none => s

/-- The first instance that both clusters of the pair agree on starts; for cluster c. -/
def State.startOn (s : State) (c : Nat) : State :=
  match s.nextFor c with
  | none => s
  | some j =>
    if j.clusters.all (fun d => s.freeCluster d && decide (s.nextFor d = some j)) then
      let n := { j with active := true }
      (s.putJob j n).forEach n.clusters (fun s d => s.updCluster d (fun x => { x with phase := .staging, job := some n.key }))
    else s

/-- Start an instance on cluster c. -/
def State.stageIn (s : State) (c : Nat) : State := if s.freeCluster c then (s.pageLate c).startOn c else s

/-- The plan entries of INPUT, OUTPUT and SCRATCH pages, which take transient frames. -/
def Rec.transients (r : Rec) : List Nat :=
  fetchOrder.filter (fun e => decide (r.kind e = 3) || decide (r.kind e = 4) || decide (r.kind e = 6))

/-- Take a frame of each entry's space (R122 step 1): pairs of entry and frame, or none when a frame is wanting. -/
def State.takeFrames (s : State) (cs : List Nat) : List Nat → List (Nat × Nat) → Option (List (Nat × Nat))
  | [], acc => some acc
  | e :: es, acc =>
    match s.pickFrame cs (e / 16) ((acc.filter (fun p => decide (p.1 / 16 = e / 16))).map (·.2)) with
    | some f => s.takeFrames cs es (acc ++ [(e, f)])
    | none => none

/-- Bytes of input i as staged: the pinned buffer's 64 bytes of header and its payload with header word 0 replaced, or zeros
with header word 0 (R115, R122). Log entry 31, DEDUCED. -/
def State.inputBytes (s : State) (j : Job) (i : Nat) : List Byte :=
  let h := leBytes 2 (j.hdr.getD i 0).toNat
  match (j.pins.getD i none) with
  | some b => h ++ s.storeRead (b + 2) (62 + s.storeNat (b + 2) 2)
  | none => h

/-- What a transient page holds at the first bundle. -/
def State.transientWords (s : State) (j : Job) (e : Nat) : List W16 :=
  let r := s.recOf j.t
  if r.kind e = 3 then
    halfWords 1024 (padTo 2048 ((s.inputBytes j (r.index e / 8)).drop (2048 * (r.index e % 8))))
  else List.replicate 1024 0

/-- Why stage-in cannot read the inputs an instance maps: the state after the error (R156, R302). -/
def State.inputFail (s : State) (j : Job) : Option State :=
  let r := s.recOf j.t
  (r.entries 3).findSome? (fun e => match j.pins.getD (r.index e / 8) none with
    | some b =>
      let o := b + 2048 * (r.index e % 8)
      let n := Nat.min 2048 (64 + s.storeNat (b + 2) 2 - 2048 * (r.index e % 8))
      match s.storeBadAt o n with
      | some a => some (s.storeError a)
      | none => if s.storeOn o n then none else some (s.decodeError (0x100000000 + o) 4 false)
    | none => none)

/-- The STATE entries whose resident copy is not valid on a cluster of the instance. -/
def State.stateToCopy (s : State) (j : Job) : List Nat :=
  let r := s.recOf j.t
  (r.entries 2).filter (fun e => j.clusters.any (fun c => (s.resident c 1 (.state j.t (r.index e))).isNone))

/-- Why the checkpoint copy cannot be read (R157): CKPT_ERR with the store error, or a decode error. -/
def State.stateFail (s : State) (j : Job) : Option State :=
  (s.stateToCopy j).findSome? (fun e => match s.pageAt (.state j.t ((s.recOf j.t).index e)) with
    | some (o, n) => match s.storeBadAt o n with
      | some a => some ((s.storeError a).raise 437)
      | none => if s.storeOn o n then none else some (s.decodeError (0x100000000 + o) 4 false)
    | none => none)

/-- Copy the checkpoint copy into the STATE frames that are not valid (R122 step 4). -/
def State.copyState (s : State) (j : Job) : State :=
  s.forEach (s.stateToCopy j) (fun s e =>
    let p : PageId := .state j.t ((s.recOf j.t).index e)
    let ws := s.pageWords p
    s.forEach j.clusters (fun s c => match s.holds c 1 p with
      | some f => (s.giveFrame c 1 f (some p) true).fillFrame c 1 f ws
      | none => s))

/-- Words at or beyond STATE_WORDS in the last STATE frame are zeroed (R122 step 3). -/
def State.zeroTail (s : State) (j : Job) : State :=
  let r := s.recOf j.t
  let n := r.stateWords
  if n % 1024 = 0 then s else
  s.forEach j.clusters (fun s c => match s.holds c 1 (.state j.t (n / 1024)) with
    | some f => s.updCluster c (fun x => x.setWords 1 (1024 * f + n % 1024) (List.replicate (1024 - n % 1024) 0))
    | none => s)

/-- The frame map of an instance (R31, R122 step 5). -/
def State.frameMap (s : State) (j : Job) (c : Nat) (tr : List (Nat × Nat)) : List (Nat × W16) :=
  let r := s.recOf j.t
  (List.range 64).map (fun e =>
    let f := match planPage j.t r j.host j.img j.gen e with
      | some p => s.resident c (e / 16) p
      | none => (tr.find? (fun x => decide (x.1 = e))).map (·.2)
    match f with
    | some f => (e, BitVec.ofNat 16 (0x8000 + (if r.writable e then 0x4000 else 0) + f))
    | none => (e, 0))

/-- The registers of the first bundle (R30). -/
def startD (j : Job) : List (Nat × W16) :=
  [(24, BitVec.ofNat 16 j.t), (26, BitVec.ofNat 16 j.seq), (27, BitVec.ofNat 16 (j.seq / 65536))] ++
  (List.range 4).map (fun i => (28 + i, BitVec.ofNat 16 (j.nominal / 65536 ^ i)))

/-- A cluster with its maps loaded and its registers set: the first bundle issues next (R30, R122 steps 5 and 6). -/
def Cluster.begin_ (x : Cluster) (j : Job) (maps : List (Nat × W16)) : Cluster :=
  { x with
    d := (startD j).foldl (fun d p => Tab.set (fun _ => 0) d p.1 p.2) [], acc := [], cr := [], crUse := [],
    loops := 0, rs := [], depth := 0, plist := [], pc := 0, cycle := 1, kill := 0, pend := [], iss := Issue.empty, phase := .run,
    maps := maps.foldl (fun m p => Tab.set (fun _ => 0) m p.1 p.2) [], sig := BitVec.allOnes 64, resume := none }

/-- The frames that a map names note the start of the mapping (R126). -/
def State.noteMapped (s : State) (c : Nat) (maps : List (Nat × W16)) (clock : Nat) : State :=
  s.forEach (maps.filter (fun p => bit p.2 15)) (fun s p =>
    s.updCluster c (fun x => x.setFrame (p.1 / 16) (fld p.2 5 0) { x.frame (p.1 / 16) (fld p.2 5 0) with lastMap := clock }))

/-- Stage an instance whose pages are resident (R122). -/
def State.stageJob (s : State) (j : Job) : State :=
  let r := s.recOf j.t
  match s.takeFrames j.clusters r.transients [] with
  | none => if j.noFrame then s else ((s.putJob j { j with noFrame := true }).raise 385).bump (.pagerCount 3)
  | some tr =>
    match s.inputFail j with
    | some s1 => s1.faultJob j j.cl cStage
    | none =>
      match s.stateFail j with
      | some s1 => s1.faultJob j j.cl cStage
      | none =>
        let s1 := s.forEach tr (fun t p =>
          let ws := s.transientWords j p.1
          t.forEach j.clusters (fun t c => (t.giveFrame c (p.1 / 16) p.2 none false).fillFrame c (p.1 / 16) p.2 ws))
        let s2 := (s1.copyState j).zeroTail j
        let clock := s.mapClock + 1
        ({ s2 with mapClock := clock }).forEach j.clusters (fun t c =>
          let m := s2.frameMap j c tr
          (t.updCluster c (fun x => x.begin_ j m)).noteMapped c m clock)

/-- Stage-in of the instance on cluster c is done. -/
def State.stageDone (s : State) (c : Nat) : State :=
  match s.jobOn c with
  | some j => if decide ((s.cluster c).phase = .staging) && s.pagesReady j then s.stageJob j else s
  | none => s

/-! ### Page fetches (R124 to R128) -/

/-- A fetch: the clusters it fills, the space, the page, and the instance that needs it (none for a parity refetch). -/
structure Fetch where
  /-- Clusters. -/
  cs : List Nat
  /-- Space. -/
  sp : Nat
  /-- Page. -/
  page : PageId
  /-- The needing instance. -/
  job : Option Job
deriving DecidableEq, Repr

/-- A frame of cluster c whose IMAGE or TABLE page is invalid: refetched ahead of every look-ahead fetch (R155).  A page whose
refetch has failed is left to the instances that need it. -/
def State.refetch (s : State) (c : Nat) : Option Fetch :=
  let x := s.cluster c
  [0, 3, 1, 2].findSome? (fun sp => (List.range (framesOf sp)).findSome? (fun f =>
    let fr := x.frame sp f
    match fr.page with
    | some (.state _ _) => none
    | some p => if fr.ok || fr.stuck || x.mapped sp f then none else some ⟨[c], sp, p, none⟩
    | none => none))

/-- The pager has a page to fetch for clusters: it is not resident there.  A STATE page that has its frame waits for its
stage-in while its checkpoint copy cannot be read (R157). -/
def State.wants (s : State) (cs : List Nat) (sp : Nat) (p : PageId) : Bool :=
  !s.residentOn cs sp p && !(p.isStatePage && s.holdsOn cs sp p && (s.pageFail p true).isSome)

/-- The next page that the look-ahead of cluster c needs (R125). -/
def State.lookFetch (s : State) (c : Nat) : Option Fetch :=
  (s.lookAhead c).findSome? (fun j => ((s.jobPages j).find? (fun p => s.wants j.clusters p.1 p.2)).map
    (fun p => ⟨j.clusters, p.1, p.2, some j⟩))

/-- What the pager fetches next for cluster c. -/
def State.nextFetch (s : State) (c : Nat) : Option Fetch :=
  match s.refetch c with
  | some f => some f
  | none => s.lookFetch c

/-- The space and frame of cluster c that hold page p invalid, or wait for it. -/
def State.awaiting (s : State) (c : Nat) (p : PageId) : Option (Nat × Nat) :=
  let x := s.cluster c
  [0, 3, 1, 2].findSome? (fun sp => ((List.range (framesOf sp)).find? (fun f =>
    decide ((x.frame sp f).page = some p) && !(x.frame sp f).ok)).map (fun f => (sp, f)))

/-- Start a page fetch for cluster c: a frame is taken and marked as awaiting its page; without a candidate the fetch waits
and NO_FRAME is raised once for that instance (R126). -/
def State.startFetch (s : State) (c : Nat) : State :=
  match s.nextFetch c with
  | none => s
  | some f =>
    if f.cs.any (fun d => (s.cluster d).fetch.isSome) then s else
    let again := f.cs.any (fun d => (s.awaiting d f.page).isSome)
    match s.frameFor f.cs f.sp f.page with
    | some n =>
      (s.bump (.pagerCount 0)).forEach f.cs (fun s d =>
        ((s.dropCopies d f.sp n f.page).giveFrame d f.sp n (some f.page) false).updCluster d (fun x =>
          { x with fetch := some f.page, again := again }))
    | none =>
      match f.job with
      | some j => if j.noFrame then s else ((s.putJob j { j with noFrame := true }).raise 385).bump (.pagerCount 3)
      | none => s

/-- Words with a parity error in a frame. -/
def Cluster.badIn (x : Cluster) (sp f : Nat) : Nat :=
  x.bad.countP (fun w => decide (sp * 65536 + 1024 * f ≤ w) && decide (w < sp * 65536 + 1024 * f + 1024))

/-- No fetch is under way for a cluster. -/
def Cluster.fetchOver (x : Cluster) : Cluster := { x with fetch := none, again := false }

/-- A fetched page fills its frame; each word of it that had a parity error has been rebuilt (R155). -/
def State.fillFetched (s : State) (c : Nat) (p : PageId) (ws : List W16) : State :=
  let s0 := s.updCluster c Cluster.fetchOver
  match s.awaiting c p with
  | some (sp, f) =>
    let n := (s.cluster c).badIn sp f
    let s1 := (s0.giveFrame c sp f (some p) true).fillFrame c sp f ws
    s1.forEach (List.range n) (fun s _ => s.corrected sp)
  | none => s0

/-- The frame of a fetch that failed: after a refetch, and for a pinned page, the page stays and stays invalid; otherwise the
frame is given back (R155). -/
def State.dropFetched (s : State) (c : Nat) (p : PageId) : State :=
  let s0 := s.updCluster c Cluster.fetchOver
  match s.awaiting c p with
  | some (sp, f) => s0.updCluster c (fun x => x.setFrame sp f
      (if (s.cluster c).again || (s.pinnedPages c sp).contains p then { x.frame sp f with stuck := true }
       else { x.frame sp f with page := none }))
  | none => s0

/-- An instance is abandoned with STAGE: reported and charged, and not replayed; a replay faults with STAGE, which abandons it
(R146, R151, R156). -/
def State.abandonStage (s : State) (j : Job) (c : Nat) : State :=
  if j.replay then s.faultJob j c cStage
  else
    let policy := s.policyOf j.t
    let fenceAt := fld (s.reg (.recoveryPolicy (s.recOf j.t).rclass)) 11 8
    ((s.reportFault j c cStage).abandonFault j).fenceCharged [c] policy fenceAt

/-- The instances that wait for page p at cluster c. -/
def State.waitingFor (s : State) (c : Nat) (p : PageId) : List Job :=
  s.jobs.filter (fun j => j.clusters.contains c && (!j.active || decide ((s.cluster c).phase = .staging)) &&
    (s.jobPages j).any (fun q => decide (q.2 = p)))

/-- The instance for which page p was fetched: the first of the look-ahead that needs it. -/
def State.fetchedFor (s : State) (c : Nat) (p : PageId) : List Job :=
  ((s.lookOver c).filter (fun j => (s.jobPages j).any (fun q => decide (q.2 = p)))).take 1

/-- A fetch of page p for cluster c has failed with the state `s`.  After the refetch of a frame every instance that needs the
page is abandoned with STAGE (R156).  After a first fetch the instance it was for ends: by a fault with STAGE under its policy
where it is a replay or the page comes from the store (R128, R156), else abandoned (R128).  Log entry 120, DEDUCED. -/
def State.fetchFailed (s : State) (c : Nat) (p : PageId) : State :=
  let cs := (List.range 32).filter (fun d => (decide (d = c) || decide (d = mate c)) && decide ((s.cluster d).fetch = some p))
  let s1 := s.forEach cs (fun s d => s.dropFetched d p)
  if (s.cluster c).again then s1.eachJob (sortJobs (s.waitingFor c p)) (fun s j => s.abandonStage j c)
  else s1.eachJob (s.fetchedFor c p) (fun s j =>
    if j.replay || !p.isHostImage then s.faultJob j c cStage else s.abandon j)

/-- The fetch for cluster c ends; `hostOk`: the host memory read of a HOSTIMG page succeeded.  A STATE page whose checkpoint copy
cannot be read keeps its frame, invalid: nothing follows until a stage-in needs the copy (R157). -/
def State.endFetch (s : State) (c : Nat) (hostOk : Bool) : State :=
  match (s.cluster c).fetch with
  | none => s
  | some p =>
    let cs := [c, mate c].filter (fun d => decide ((s.cluster d).fetch = some p))
    match s.pageFail p hostOk with
    | some s1 =>
      if p.isStatePage then s.forEach cs (fun s d => s.updCluster d Cluster.fetchOver) else s1.fetchFailed c p
    | none =>
      let ws := s.pageWords p
      (s.forEach cs (fun s d => s.fillFetched d p ws)).pageRead p

/-! ### The commands -/

/-- STAGE_IN: cluster c, free, starts the first eligible instance it serves (R118, R120, R122, R127). -/
def execStageIn (c : Fin 32) (s : State) : Answer := .next (s.stageIn c)

/-- STAGE_IN_COMPLETE: the steps of R122 are done and the first bundle issues next. Log entry 29, DEDUCED. -/
def execStageInComplete (c : Fin 32) (s : State) : Answer := .next (s.stageDone c)

/-- PAGE_FETCH: the pager starts the next fetch for cluster c (R125, R126). -/
def execPageFetch (c : Fin 32) (s : State) : Answer := .next (s.startFetch c)

/-- PAGE_FETCH_DONE: the fetch for cluster c ends (R125, R128, R155, R156). -/
def execPageFetchDone (c : Fin 32) (hostOk : Bool) (s : State) : Answer := .next (s.endFetch c hostOk)

end Sys2Proof.Machine
end

