-- ==== Sys2Proof/Machine/Commit.lean ====
section
/-!
DEFINITION. Machine/Commit.lean: commit and its publication (R140 to R142, R121, R123, R146), the release of TIME instances
(R114), drops (R121), the allocator's INIT (R130, R136) and the scrubbers (R159, R160).
-/
namespace Sys2Proof.Machine

/-! ### Commit (R140) -/

/-- The physical word of virtual page `e` of the even cluster, word w. -/
def State.outWordAt (s : State) (j : Job) (e w : Nat) : Nat × Nat :=
  (e / 16, 1024 * fld ((s.cluster j.cl).map (e / 16) (e % 16)) 5 0 + w)

/-- Read words out of the even cluster: memory and physical address; a parity error is dealt with under R155, and a word
that cannot be rebuilt ends the readout. Log entry 35, DEDUCED. -/
def State.readOut (s : State) (j : Job) : List (Nat × Nat) → List W16 → State × Option (List W16)
  | [], acc => (s, some acc.reverse)
  | (sp, a) :: t, acc =>
    let x := s.cluster j.cl
    if x.isBad sp a then
      let s1 := (s.bump (.accessFound sp)).clusterParity j.cl sp a
      if (s1.cluster j.cl).isBad sp a then (s1, none)
      else s1.readOut j t ((s1.cluster j.cl).word sp a :: acc)
    else s.readOut j t (x.word sp a :: acc)

/-- The words of output i, page by page. -/
def State.outWords (s : State) (j : Job) (i n : Nat) : List (Nat × Nat) :=
  let r := s.recOf j.t
  (List.range ((n + 1) / 2)).filterMap (fun w =>
    ((r.entries 4).find? (fun e => decide (r.index e = 8 * i + w / 1024))).map (fun e => s.outWordAt j e (w % 1024)))

/-- The state words. -/
def State.stateWordsAt (s : State) (j : Job) : List (Nat × Nat) :=
  let r := s.recOf j.t
  (List.range r.stateWords).filterMap (fun w =>
    ((r.entries 2).find? (fun e => decide (r.index e = w / 1024))).map (fun e => s.outWordAt j e (w % 1024)))

/-- The 64 bytes of header of an internal buffer (R115, R140). Log entry 36, DEDUCED. -/
def internalHeader (len slot t dt : Nat) : List Byte :=
  leBytes 2 0 ++ leBytes 2 len ++ leBytes 2 (0x8000 + slot) ++ leBytes 2 t ++ leBytes 8 dt ++ List.replicate 48 0

/-- The bytes of a list of words. -/
def wordBytes (ws : List W16) : List Byte := ws.flatMap (fun w => leBytes 2 w.toNat)

/-- Write commit data to the store: an error response, at a bank without power, is a decode error of the dispatcher. -/
def State.commitWrite (s : State) (off : Nat) (bs : List Byte) : State × Bool := s.busWrite 4 off bs

/-- Commit output i: a buffer of its slot's reservation takes the bytes.  The list holds the buffers taken so far. -/
def State.commitOutput (s : State) (j : Job) (i : Nat) (taken : List Nat) : State × List Nat × Bool :=
  let r := s.recOf j.t
  let h := s.outHolder r i
  let len := (s.outLen r i).getD 0
  let k := if r.outInternal i then classFor (64 + len) else classFor len
  match s.allocAnswer k h with
  | none => (s.allocTake k h, taken, false)
  | some b =>
    let s1 := s.allocTake k h
    match s1.readOut j (s1.outWords j i len) [] with
    | (s2, none) => (s2, taken ++ [b], false)
    | (s2, some ws) =>
      let body := (wordBytes ws).take len
      let w := s2.commitWrite b (if r.outInternal i then internalHeader len (r.outSlot i) j.t s2.clk.dt ++ body else body)
      (w.1, taken ++ [b], w.2)

/-- Commit the outputs from number i on. -/
def State.commitOutputs (s : State) (j : Job) : List Nat → List Nat → State × List Nat × Bool
  | [], taken => (s, taken, true)
  | i :: is, taken =>
    match s.commitOutput j i taken with
    | (s1, bs, true) => s1.commitOutputs j is bs
    | (s1, bs, false) => (s1, bs, false)

/-- Copy the state words to the checkpoint copy that CKPT does not name (R142). -/
def State.commitState (s : State) (j : Job) : State × Bool :=
  let r := s.recOf j.t
  match s.readOut j (s.stateWordsAt j) [] with
  | (s1, none) => (s1, false)
  | (s1, some ws) => if ws.isEmpty then (s1, true) else s1.commitWrite (r.copyAt (!r.ckpt)) (wordBytes ws)

/-- Steps 1 to 3 of R140 for an instance whose clusters have ended. -/
def State.commitJob (s : State) (j : Job) : State :=
  let x := s.cluster j.cl
  let y := s.cluster (j.cl + 1)
  if j.checked && decide (x.cycle ≠ y.cycle) then s.faultJob j j.cl cDiverge
  else if j.checked && decide (x.sig ≠ y.sig) then s.faultJob j j.cl cSignature
  else
    let r := s.recOf j.t
    let o := s.commitOutputs j r.outs []
    let p := if o.2.2 then o.1.commitState j else (o.1, false)
    let n := { j with newBufs := o.2.1 }
    let s1 := p.1.putJob j n
    if p.2 then s1.forEach n.clusters (fun s c => s.updCluster c (fun x => { x with phase := .committing }))
    else s1.faultJob n n.cl cCommit

/-- The instance on cluster c is ready to commit: every cluster it uses has ended. -/
def State.commit (s : State) (c : Nat) : State :=
  match s.jobOn c with
  | some j => if j.clusters.all (fun d => decide ((s.cluster d).phase = .ended)) then s.commitJob j else s
  | none => s

/-! ### Publication (R140 step 4) -/

/-- The latest cycle before n in which a tasklet is due: that of the instance owed to the OUT set of cycle n (R7).
Log entry 38, DEDUCED. -/
def owedCyc (r : Rec) (n : Nat) : Option Nat :=
  if n < r.phase + 1 then none else some (n - 1 - (n - 1 - r.phase) % 2 ^ r.k)

/-- A publication to a slot that went out stale, by the instance owed to the set, asks for a LATE set (R7, R207). -/
def State.noteLate (s : State) (h : Holder) (j : Job) : State :=
  match h with
  | .outSlot k =>
    let l := k / 512
    let d := s.lane l
    let n := if d.ofDone then (match d.cyc with | some c => c + 1 | none => 0) else d.cyc.getD 0
    if d.run && d.staleNow.contains (k % 512) && (d.ofDone || !d.applied) && decide (owedCyc (s.recOf j.t) n = some j.cyc) then
      s.forEach (s.portsOf l) (fun s p => s.updLane p (fun e => { e with latePub := e.latePub ++ [(k % 512, d.ofDone)] }))
    else s
  | _ => s

/-- Output i is published: its buffer becomes the newest of its slot, and the one before is freed (R134). -/
def State.publishOutput (s : State) (j : Job) (i : Nat) : State :=
  let r := s.recOf j.t
  let h := s.outHolder r i
  let old := (s.slotOf h).buf
  let b := j.newBufs.getD i 0
  let s1 := s.setSlotOf h ⟨some b, s.clk.dt, some j.cyc⟩
  let s2 := if r.outInternal i then s1.storeWrite (b + 8) (leBytes 8 s.clk.dt) else s1
  (s2.reclaimAll [old]).noteLate h j

/-- Words 56, 61, 62 and 63 of the record after a commit (R101, R121).  A slack outside 32 bits counts as the nearest value that
MIN_SLACK can hold: log entry 125, DESIGN CHOICE. -/
def State.publishRecord (s : State) (j : Job) : State :=
  let r := s.recOf j.t
  let slack : Int := (j.deadline : Int) - (s.clk.dt : Int)
  let s1 := (s.setRecOf j.t 56 (setFld (setBit (r 56) 0 (!r.ckpt)) 20 16 j.cl)).setRecOf j.t 61 (r 61 + 1)
  let low := clampInt (sMin 32) (sMax 32) slack
  let s2 := if low < (r 63).toInt then s1.setRecOf j.t 63 (BitVec.ofInt 32 low) else s1
  if slack < 0 then ((s2.setRecOf j.t 62 (satInc16 (r 62) 15 0)).raise 352).bump (.dspCount 0) else s2

/-- The resident STATE frames of the committing clusters hold the committed state; every other copy is invalid (R123). -/
def State.publishResident (s : State) (j : Job) : State :=
  (s.forEach j.clusters (fun s c => s.updCluster c (fun x => { x with frames := x.frames.map (fun e =>
    match e.2.page with
    | some p => if PageId.isState j.t p then (e.1, { e.2 with ok := true }) else e
    | none => e) }))).spoilState j.t j.clusters

/-- The instance on cluster c publishes: the whole of step 4 of R140. -/
def State.publish (s : State) (j : Job) : State :=
  let r := s.recOf j.t
  let s1 := (s.publishRecord j).forEach r.outs (fun s i => s.publishOutput j i)
  let s2 := ((s1.publishResident j).bump (.dspCount 7)).raise (4 * j.cl)
  let s3 := if j.replay then (s2.raise 433).bump (.replayCount 2) else s2
  let s4 := (s3.stopClusters j.clusters).endJob j
  s4.forEach (r.outs.filter r.outInternal) (fun s i => s.dataRelease (.intSlot (r.outSlot i)))

/-- Publication on cluster c. -/
def State.publication (s : State) (c : Nat) : State :=
  match s.jobOn c with
  | some j => if decide ((s.cluster c).phase = .committing) then s.publish j else s
  | none => s

/-! ### Release by time, drops -/

/-- The cycle for which TIME tasklet t releases at its release moment: the latest of its cycles (R103, R114). -/
def State.timeCycle (s : State) (t : Nat) : Option Nat :=
  let r := s.recOf t
  let d := s.lane (s.portA r.line)
  match d.cyc with
  | none => none
  | some c =>
    if c < r.phase then none else
    let n := c - (c - r.phase) % 2 ^ r.k
    if r.admitted && r.timed && d.run && !(d.stopping && d.stopped) && !(s.task t).homeLost && (s.task t).removing.isEmpty &&
       decide ((s.task t).lastCyc ≠ some n) && decide ((s.task t).since < s.t0Of (s.portA r.line) n) then some n else none

/-! ### The allocator (R130, R136) -/

/-- INIT and the pool registers of class k are locked: a line runs or a buffer of the class is allocated (R136). -/
def State.allocLocked (s : State) (k : Nat) : Bool := s.anyRuns || !(s.cls k).used.isEmpty

/-- The pool of class k lies beyond the store or meets another pool. -/
def State.poolBad (s : State) (k : Nat) : Bool :=
  let p := s.poolOf k
  decide (storeSize < p.1 + p.2) ||
    (List.range 4).any (fun i => decide (i ≠ k) && (let q := s.poolOf i; overlaps p.1 p.2 q.1 q.2))

/-- INIT of class k: the building of the free list starts. Log entry 46, DEDUCED. -/
def State.allocInit (s : State) (k : Nat) : State :=
  if s.allocLocked k then s
  else (s.setCls_low k { s.cls k with freeL := [], building := true }).setReg (.allocCtl k) 0

/-- The free list of class k is built, in ascending address order; a bad pool acts as empty. -/
def State.allocBuilt (s : State) (k : Nat) : State :=
  if !(s.cls k).building then s
  else
    let bad := s.poolBad k
    let base := (s.poolOf k).1
    let l := if bad then [] else (List.range (s.reg (.allocCount k)).toNat).map (fun i => base + i * classSize k)
    (s.setCls_low k { s.cls k with freeL := l, building := false }).setReg (.allocCtl k) (if bad then 6 else 2)

/-! ### Scrubbers (R159, R160) -/

/-- The memories of a class that are powered, by number. -/
def State.scrubMems (s : State) (k : Nat) : List Nat :=
  if k < 4 then (List.range 32).filter s.isOn
  else if k = 4 then (List.range 8).filter (fun b => s.isOn (32 + b))
  else if k < 7 then (List.range 64).filter s.shingleOn
  else [64]

/-- Words of the longest memory of a class; 32 bytes count as one word of a store bank, which is what a matrix cycle reads. -/
def scrubWords (k : Nat) : Nat :=
  if k < 3 then 65536 else if k = 3 then 32768 else if k = 4 then 131072 else if k = 5 then 8192
  else if k = 6 then 16384 else 65536

/-- A word that a scrubber must return to: it lies in a frame that the running instance has mapped (R33). -/
def State.scrubSkips (s : State) (k m w : Nat) : Bool := decide (k < 4) && (s.cluster m).mapped k (w / 1024)

/-- An uncorrectable store byte found by the scrubber. -/
def State.scrubStore (s : State) (a : Nat) : State :=
  ((s.setReg .storeErrAddr (BitVec.ofNat 32 a)).setFault 1).raise 438

/-- A word of the Ridge with an error in one copy: the twin supplies it, and a RAM word is rewritten (R161). -/
def State.ridgeFixed (s : State) (data : Bool) (a : Nat) : State :=
  (s.updCore 64 (fun x => if data then { x with dataBad := x.dataBad.filter (· ≠ a) }
    else if a < 8192 then x else { x with progBad := x.progBad.filter (· ≠ a) })).corrected 7

/-- A word of the Ridge is in error in both copies (R162). -/
def State.ridgeLost (s : State) (data : Bool) (a : Nat) : Bool := (if data then (s.core 64).dataLost else (s.core 64).progLost).contains a

/-- A word of the Ridge is in error in one copy (R161). -/
def State.ridgeBad (s : State) (data : Bool) (a : Nat) : Bool := (if data then (s.core 64).dataBad else (s.core 64).progBad).contains a

/-- The parity check of a word of the Ridge that something reads: an error in one copy is corrected (R161), one in both stops the
Ridge (R162); whether the word can be used.  Log entry 76, DEDUCED. -/
def State.ridgeRead (s : State) (data : Bool) (a : Nat) : State × Bool :=
  if s.ridgeLost data a then ((s.bump (.accessFound 7)).ridgeDown, false)
  else if s.ridgeBad data a then ((s.bump (.accessFound 7)).ridgeFixed data a, true)
  else (s, true)

/-- Check word w of memory m of class k and apply R155. -/
def State.scrubWord (s : State) (k m w : Nat) : State :=
  let found (s : State) : State := s.bump (.scrubFound k)
  if k < 4 then (if (s.cluster m).isBad k w then (found s).clusterParity m k w else s)
  else if k = 4 then
    let o := w / 128 * 32768 + m * 4096 + w % 128 * 32
    s.forEach (s.storeBad.filter (fun a => decide (o ≤ a) && decide (a < o + 32))) (fun s a => (found s).scrubStore a)
  else if k = 5 then (if (s.core m).progBad.contains w then (found s).uncorrectable else s)
  else if k = 6 then (if (s.core m).dataBad.contains w then (found s).uncorrectable else s)
  else
    s.forEach [false, true] (fun s data =>
      if s.ridgeLost data w then (found s).ridgeDown else if s.ridgeBad data w then (found s).ridgeFixed data w else s)

/-- The end of a lap (R160). -/
def State.scrubLap (s : State) (k : Nat) : State :=
  let us := Nat.min 0xFFFFFFFF (((s.clk.dt : Int) - (s.scr k).since).toNat / 1000)
  let s1 := (s.setReg (.scrubLast k) (BitVec.ofNat 32 us)).updReg (.scrubMax k) (fun v => if v.toNat < us then BitVec.ofNat 32 us else v)
  s1.setScr k { pos := 0, todo := [], since := s.clk.dt, slow := false }

/-- SCRUB_SLOW once per lap, as soon as the lap exceeds the threshold. -/
def State.scrubSlow (s : State) (k : Nat) : State :=
  let t := fld (s.reg (.scrubCtl k)) 19 0
  let x := s.scr k
  if !x.slow && decide (t ≠ 0) && decide ((1000 * t : Int) < (s.clk.dt : Int) - x.since) then
    (s.setScr k { x with slow := true }).raise 441
  else s

/-- One cycle of the scrubber of class k. -/
def State.scrubStep (s : State) (k : Nat) : State :=
  if !bit (s.reg (.scrubCtl k)) 31 then s else
  let x := s.scr k
  let s0 := s.scrubSlow k
  if x.pos < scrubWords k then
    let ms := s.scrubMems k
    let skip := ms.filter (fun m => s.scrubSkips k m x.pos)
    let s1 := s0.forEach (ms.filter (fun m => !skip.contains m)) (fun s m => s.scrubWord k m x.pos)
    let s2 := s1.updScr k (fun x => { x with pos := x.pos + 1, todo := x.todo ++ skip.map (fun m => (m, x.pos)) })
    if x.pos + 1 = scrubWords k ∧ (s2.scr k).todo = [] then s2.scrubLap k else s2
  else
    match x.todo.find? (fun p => !s.scrubSkips k p.1 p.2) with
    | some p =>
      let s1 := (s0.scrubWord k p.1 p.2).updScr k (fun x => { x with todo := x.todo.erase p })
      if (s1.scr k).todo = [] then s1.scrubLap k else s1
    | none => s0

/-! ### The commands -/

/-- COMMIT: steps 1 to 3 of R140 for the instance on cluster c. -/
def execCommit (c : Fin 32) (s : State) : Answer := .next (s.commit c)

/-- COMMIT_PUBLICATION: step 4 of R140. -/
def execCommitPublication (c : Fin 32) (s : State) : Answer := .next (s.publication c)

/-- TIME_RELEASE: the comparator reaches nominal T0 + REL_OFFSET of TIME tasklet t (R114). -/
def execTimeRelease (t : Fin 4096) (s : State) : Answer :=
  .next (match s.timeCycle t with
    | some n => s.release t n
    | none => s)

/-- BE_DROP: the deadline of a best-effort instance of tasklet t comes before its stage-in (R121). -/
def execBeDrop (t : Fin 4096) (s : State) : Answer :=
  .next (match s.jobs.find? (fun j => decide (j.t = t.val) && !j.guaranteed && !j.active) with
    | some j => s.dropJob j
    | none => s)

/-- ALLOC_INIT: ALLOC_CTL.INIT of class k (R130, R136). -/
def execAllocInit (k : Fin 4) (s : State) : Answer := .next (s.allocInit k)

/-- ALLOC_INIT_DONE: the free list of class k is built (R130, R136). -/
def execAllocInitDone (k : Fin 4) (s : State) : Answer := .next (s.allocBuilt k)

end Sys2Proof.Machine
end

