-- ==== Sys2Proof/Machine/Events.lean ====
section
/-!
DEFINITION. Machine/Events.lean: the event controller: pending bits, claim and end of interrupt, stacks of running
priorities, delivery (R285 to R294).
-/
namespace Sys2Proof.Machine

/-- Running priority of a target: the top of its stack, or 0 (R286). -/
def State.runPrio (s : State) (t : Nat) : Nat :=
  match s.stack t with
  | [] => 0
  | x :: _ => x.1

/-- The power domain of a target is on: the Ridge is always on, a Shingle's group is a domain, a host target lies in the
control domain (R287, R306). -/
def State.targetOn (s : State) (t : Nat) : Bool :=
  if t = 0 then s.isOn 48 else if t ≤ 64 then s.shingleOn (t - 1) else s.isOn 47

/-- Source i is deliverable at target t (R287). -/
def State.deliverable (s : State) (t i : Nat) : Bool :=
  let r := s.src i
  r.pend && r.act.isNone && decide (r.tgt = t) && decide (s.runPrio t < r.prio) && s.targetOn t

/-- The better of two sources: the higher PRIO, then the lower number. -/
def State.better (s : State) (i j : Nat) : Nat :=
  if (s.src i).prio < (s.src j).prio ∨ ((s.src i).prio = (s.src j).prio ∧ j < i) then j else i

/-- The best deliverable source of a target, among the sources that are not at rest (R287). -/
def State.best (s : State) (t : Nat) : Option Nat :=
  match (s.srcs.map (·.1)).filter (s.deliverable t) with
  | [] => none
  | i :: is => some (is.foldl s.better i)

/-- Target t claims source i: no longer pending, active, its PRIO pushed (R288, R289). -/
def State.take (s : State) (t i : Nat) : State :=
  (s.updSrc i (fun r => { r with pend := false, act := some t, undel := false })).updStack t (fun l => ((s.src i).prio, i) :: l)

/-- A core target claims: the source, none where none is deliverable, which is counted (R288). -/
def State.coreClaim (s : State) (t : Nat) : State × Option Nat :=
  match s.best t with
  | some i => (s.take t i, some i)
  | none => (s.bump (.evcCount 3), none)

/-- Host target 65 + v claims for itself and hands a SOURCE entry to the queue engine (R289). -/
def State.hostClaim (s : State) (v : Nat) : State :=
  match s.best (65 + v) with
  | some i => ((s.take (65 + v) i).setClaimed v (some i)).postEvent ⟨evBytes s.clk.dt 0 i 0 v, some v⟩
  | none => s

/-- An EOI of source i at target t (R290). -/
def State.endInt (s : State) (t i : Nat) : State :=
  if (s.src i).act = some t then
    (s.updSrc i (fun r => { r with act := none })).updStack t (fun l => l.filter (fun e => decide (e.2 ≠ i)))
  else s.bump (.evcCount 0)

/-- A target's stack is emptied: the sources active there become inactive (R293). -/
def State.emptyStack (s : State) (t : Nat) : State :=
  (s.forEach ((s.srcs.filter (fun e => decide (e.2.act = some t))).map (·.1)) (fun s i =>
    s.updSrc i (fun r => { r with act := none }))).setStack t []

/-- A write of TARGET and PRIO of source i; the TARGET of source 491 stays T0 (R291, R292, R294). -/
def State.srcConfig (s : State) (i : Nat) (v : W32) : State :=
  let t := if i = 491 then 0 else fld v 7 0
  let moved := decide ((s.src i).tgt ≠ t)
  let s1 := s.updSrc i (fun r => { r with prio := fld v 11 8, tgt := t, undel := r.undel && !moved })
  if moved then s1.undeliverable i else s1

/-- Word 0 of SRC_CFG as it reads (R294). -/
def State.srcCfgRead (s : State) (i : Nat) : W32 :=
  let r := s.src i
  BitVec.ofNat 32 (b2n r.pend * 2 ^ 31 + b2n r.act.isSome * 2 ^ 30 + (r.act.getD 0) * 65536 + r.prio * 256 + r.tgt)

/-- Clear the pending bit of source i (R286). -/
def State.pendClear (s : State) (i : Nat) : State := s.updSrc i (fun r => { r with pend := false })

/-- A core executes: STATE is RUN, its group is powered, and the Ridge is neither stopped nor in reset (R162, R251, R292). -/
def State.coreRuns (s : State) (k : Nat) : Bool :=
  decide ((s.core k).state = .run) && (if k = 64 then !s.ridge.stopped && !s.ridge.clearing else s.shingleOn k)

/-- The target number of a core: T0 for the Ridge, T1 to T64 for the Shingles. -/
def coreTarget (k : Nat) : Nat := if k = 64 then 0 else k + 1

/-! ### The commands -/

/-- SOURCE_EDGE: a rising edge of source i (R285, R292); a source that is never raised by hardware has none (R286, R305). Log entry
101, DEDUCED. -/
def execSourceEdge (i : Fin 512) (s : State) : Answer := .next (s.raiseIf (edgeSource i) i)

/-- PEND: a 1 written to PEND acts as an edge (R286). -/
def execPend (i : Fin 512) (s : State) : Answer := .next (s.raise i)

/-- PEND_CLR (R286). -/
def execPendClr (i : Fin 512) (s : State) : Answer := .next (s.pendClear i)

/-- SRC_CFG: TARGET and PRIO of source i are written (R291, R292). -/
def execSrcCfg (i : Fin 512) (v : W32) (s : State) : Answer := .next (s.srcConfig i v)

/-- HOST_TARGET_CLAIM of T65 + v (R289). -/
def execHostTargetClaim (v : Fin 64) (s : State) : Answer := .next (s.hostClaim v)

/-- Where the fault log of 256 records of 16 bytes lies in Ridge data memory: the spec gives no address.
Log entry 132, DESIGN CHOICE. -/
def logBase : Nat := 16 * (Config.logPlace % 3841)

/-- The 16 bytes of a record of the fault log (R260). -/
def LogRec.bytes (r : LogRec) : List Byte := leBytes 4 r.secs ++ leBytes 4 r.ns ++ leBytes 2 r.origin ++ leBytes 2 r.code ++ leBytes 4 r.data

/-- Bytes written to the data memories of both Ridge cores (R161). -/
def State.ridgeStore (s : State) (a : Nat) (bs : List Byte) : State :=
  let out (x : Nat) : Bool := decide (x < a) || decide (a + bs.length ≤ x)
  s.updCore 64 (fun c =>
    { c with data := Memory.writeList c.data a bs, dataBad := c.dataBad.filter out, dataLost := c.dataLost.filter out })

/-- Append a record to the kernel's fault log in Ridge data memory: 256 records, the oldest overwritten (R260). -/
def State.logAdd (s : State) (origin code data : Nat) : State :=
  let r : LogRec := ⟨s.cald.sec % 2 ^ 32, s.cald.sub * 1000000000 / 32768, origin, code % 65536, data % 2 ^ 32⟩
  ({ s with ridge := { s.ridge with logs := s.ridge.logs + 1 } }).ridgeStore (logBase + 16 * (s.ridge.logs % 256)) r.bytes

/-- The bytes of the fault log, oldest record first (R260). -/
def State.logBytes (s : State) : List Byte :=
  let n := Nat.min 256 s.ridge.logs
  (List.range n).flatMap (fun i => Memory.readList (s.core 64).data (logBase + 16 * ((s.ridge.logs - n + i) % 256)) 16)

/-- The running kernel logs a LOCKUP, PRIV_CLAMP or ACCESS_DENIED that it takes (R260); the spec gives no code and no data for
these records: free values. -/
def State.kernelTakes (s : State) (k i : Nat) : State :=
  let logged := (decide (128 ≤ i) && decide (i < 256) && decide (i % 2 = 1)) || decide (i = 488) || decide (i = 489)
  if decide (k = 64) && decide (s.misc.boot = .done) && logged then
    let f := s.freeNext
    f.1.logAdd i f.2 (f.2 / 65536)
  else s

/-- Core k reads CLAIM_LO: the byte read; CLAIM_HI holds VALID and source bit 8 (R225, R288). -/
def State.claimPort (s : State) (k : Nat) : State × Byte :=
  let x := s.coreClaim (coreTarget k)
  match x.2 with
  | some i => ((x.1.updCore k (fun c => { c with claimHi := BitVec.ofNat 8 (128 + i / 256) })).kernelTakes k i, BitVec.ofNat 8 i)
  | none => (x.1.updCore k (fun c => { c with claimHi := 0 }), 0)

/-- Core k writes EOI_HI: the EOI of the source whose low byte is held (R225, R290). -/
def State.eoiPort (s : State) (k : Nat) (hi : Byte) : State :=
  s.endInt (coreTarget k) (256 * (hi.toNat % 2) + (s.core k).eoiLo.toNat)

/-- CLAIM by core k (R288). Log entry 70, DESIGN CHOICE. -/
def execClaim (k : Fin 65) (s : State) : Answer := .next (if s.coreRuns k then (s.claimPort k).1 else s)

/-- EOI by core k (R290). -/
def execEoi (k : Fin 65) (hi : Byte) (s : State) : Answer := .next (if s.coreRuns k then s.eoiPort k hi else s)

end Sys2Proof.Machine
end

