-- ==== Sys2Proof/Machine/Mordant.lean ====
section
/-!
DEFINITION. Machine/Mordant.lean: live calibration: down messages as they are posted (R201), dither (R165 to R171), the
correlator slots, their sums and estimates (R173 to R178) and the result ring (R179).
-/
namespace Sys2Proof.Machine

/-! ### Posting (R200, R201) -/

/-- Bytes of a message record: a 6-byte header and the body padded to an even length. -/
def msgBytes (m : Msg) : Nat := 6 + 2 * ((m.body.length + 1) / 2)

/-- Shingle k runs: its group is ON, and it is neither HELD nor LOCKED. -/
def State.shingleRuns (s : State) (k : Nat) : Bool :=
  s.shingleOn k && decide ((s.core k).state ≠ .held) && decide ((s.core k).state ≠ .locked)

/-- The line Shingles of a line or ring, 4l to 4l + 3 of each lane, do their work: one of them at least runs, and their firmware
divides the work among those that do (R217).  Log entry 126, DESIGN CHOICE. -/
def State.lineServed (s : State) (a : Nat) : Bool :=
  (s.portsOf a).any (fun l => (List.range 4).any (fun i => s.shingleRuns (4 * l + i)))

/-- Post a down message for partner p: the line Shingles queue it, at once while they run (R201, R217).  CONFIG is addressed by
MAC (R200, R206). -/
def State.postMsg (s : State) (p mtype : Nat) (body : List Byte) (by_ : MsgFrom) : State :=
  let m : Msg := ⟨p, if mtype = 1 then 0xFFF else s.pSlot p, mtype, (s.partner p).mseq, body, 0, true, by_⟩
  let a := s.portA (s.pLine p)
  let served := s.lineServed a
  (s.updPartner p (fun x => { x with mseq := (x.mseq + 1) % 256 })).updLane a (fun d =>
    if served then { d with msgs := d.msgs ++ d.posted ++ [m], posted := [] } else { d with posted := d.posted ++ [m] })

/-- Take messages out of the queue of partner p's line. -/
def State.dropMsgs (s : State) (p : Nat) (gone : Msg → Bool) : State :=
  s.updLane (s.portA (s.pLine p)) (fun d =>
    { d with msgs := d.msgs.filter (fun m => !gone m), posted := d.posted.filter (fun m => !gone m) })

/-! ### The dither sequence (R165, R167) -/

/-- One step of the register: its next value, and b. -/
def prbsStep (s : Nat) : Nat × Bool :=
  let b := (s / 16384 + s / 8192) % 2
  ((2 * s + b) % 32768, decide (b = 1))

/-- The register after n steps. -/
def prbsAfter : Nat → Nat → Nat
  | s, 0 => s
  | s, n + 1 => prbsAfter (prbsStep s).1 n

/-- Chip q of a seed: true for +1. -/
def prbsChip (seed q : Nat) : Bool := (prbsStep (prbsAfter (if seed = 0 then 1 else seed) (q % 32767))).2

/-- The chip number of the block in the in-frame of cycle n, above START; both count as Lane.cyc does (R167). -/
def chipOf (start n : Nat) : Nat := n - 1 - start

/-! ### The record of a correlator slot (R173) -/

/-- Word w of the record of slot k. -/
def State.calRecW (s : State) (k w : Nat) : W32 := s.calW (8 * k + w)
/-- ENABLE. -/
def State.calOn (s : State) (k : Nat) : Bool := bit (s.calRecW k 0) 31
/-- MODE is REF. -/
def State.calRef (s : State) (k : Nat) : Bool := bit (s.calRecW k 0) 30
/-- 2^W. -/
def State.calWindow (s : State) (k : Nat) : Nat := 2 ^ fld (s.calRecW k 0) 28 24
/-- CHANNEL. -/
def State.calChan (s : State) (k : Nat) : Nat := fld (s.calRecW k 0) 17 12
/-- PARTNER. -/
def State.calPart (s : State) (k : Nat) : Nat := fld (s.calRecW k 0) 11 0
/-- AMP. -/
def State.calAmp (s : State) (k : Nat) : Nat := fld (s.calRecW k 2) 7 0
/-- SEED. -/
def State.calSeed (s : State) (k : Nat) : Nat := fld (s.calRecW k 2) 22 8

/-- The enabled slots of a partner, ascending. -/
def State.calSlotsOf (s : State) (p : Nat) : List Nat :=
  (s.calRec.filter (fun e => decide (e.1 % 8 = 0) && bit e.2 31 && decide (fld e.2 11 0 = p))).map (fun e => e.1 / 8)

/-- A slot at the start of a window. -/
def CalSlot.restart (c : CalSlot) : CalSlot :=
  { c with n := 0, sd := 0, sx := 0, sxd := 0, sxx := 0, gaps := 0 }

/-- The current cycle of a partner's line; 0 before cycle 0 (log entry 15). -/
def State.cycOfPartner (s : State) (p : Nat) : Nat := ((s.lane (s.portA (s.pLine p))).cyc).getD 0

/-- Post the DITHER_START of slot k, with START four cycles ahead; its window is discarded (R166, R171). -/
def State.armDither (s : State) (k : Nat) : State :=
  let p := s.calPart k
  let start := s.cycOfPartner p + 4
  let body := leBytes 1 (s.calChan k) ++ leBytes 1 (b2n (s.calRef k)) ++ leBytes 2 (s.calSeed k) ++ leBytes 1 (s.calAmp k) ++
    [0] ++ leBytes 2 start
  ((s.dropMsgs p (fun m => decide (m.by_ = .dstart k))).updCalSlot k (fun c =>
    { c.restart with start := start, ackCyc := none })).postMsg p 2 body (.dstart k)

/-- The DITHER_STOP of a channel of a partner is the dither's own: the one last posted for it. -/
def Stopped.isFor (x : Stopped) (p ch : Nat) : Bool := decide (x.p = p) && decide (x.ch = ch)

/-- Post a DITHER_STOP for a stopped dither of a channel of a partner, with STOP four cycles ahead (R166, R170): its ACK, and no
other, ends the dither. -/
def State.postStop (s : State) (p ch amp : Nat) : State :=
  let x : Stopped := ⟨p, ch, amp, false, (s.partner p).mseq⟩
  ({ s with stoppedD := s.stoppedD.filter (fun (y : Stopped) => !y.isFor p ch) ++ [x] }).postMsg p 3
    (leBytes 1 ch ++ [0] ++ leBytes 2 (s.cycOfPartner p + 4)) (.dstop ch)

/-- Disable slot k (R166, R170). -/
def State.disableSlot (s : State) (k : Nat) : State :=
  if !s.calOn k then s else
  let p := s.calPart k; let ch := s.calChan k
  ((s.dropMsgs p (fun m => decide (m.by_ = .dstart k))).setCalSlot k CalSlot.reset).postStop p ch (s.calAmp k)

/-- Enable slot k, whose record is already written (R166, R170, R174, R178): its DITHER_START replaces a stop of the same channel. -/
def State.enableSlot (s : State) (k : Nat) : State :=
  let p := s.calPart k; let ch := s.calChan k
  let s1 := ({ s with stoppedD := s.stoppedD.filter (fun (x : Stopped) => !x.isFor p ch) }).dropMsgs p (fun m =>
    decide (m.p = p) && decide (m.by_ = MsgFrom.dstop ch))
  (s1.setCalSlot k { CalSlot.reset with st := 1, gAvg := s.calRecW k 4, oAvg := s.calRecW k 5 }).armDither k

/-- A sync error of slot k: DITHER_SYNC and a new start, or FAILED after the third consecutive restart (R171). -/
def State.ditherSync (s : State) (k : Nat) : State :=
  let s1 := (s.raise 402).bump (.mrdCount 2)
  if 3 ≤ (s.calSlot k).restarts then
    ((s1.updCalSlot k (fun c => { c.restart with st := 2 })).dropMsgs (s.calPart k) (fun m => decide (m.by_ = .dstart k))).raise 403
  else (s1.updCalSlot k (fun c => { c with restarts := c.restarts + 1 })).armDither k

/-- Slot k judges and reads the in-frame of cycle n (R169). -/
def State.calJudges (s : State) (k n : Nat) : Bool :=
  let c := s.calSlot k
  decide (c.st = 1) && decide (c.start < n) && (match c.ackCyc with | some a => decide (a < n) | none => false)

/-! ### Estimates (R177, R178) -/

/-- A rational with a positive denominator, rounded once to binary32. -/
def roundQ (n : Int) (d : Nat) : W32 :=
  let k := 64 + Nat.log2 d
  let m := n.natAbs * 2 ^ k
  (roundF (decide (n < 0)) (m / d) (-(k : Int)) (decide (m % d ≠ 0))).v

/-- The square root of a nonnegative rational, rounded once to binary32. -/
def roundSqrt (n d : Nat) : W32 :=
  let k := 64 + Nat.log2 d
  let m := n * 2 ^ (2 * k)
  let t := m / d
  let r := isqrt t
  (roundF false r (-(k : Int)) (decide (r * r ≠ t) || decide (m % d ≠ 0))).v

/-- What a window yields: DEGENERATE, k, c, r, G, O. -/
structure Estimate where
  /-- den = 0. -/
  degen : Bool
  /-- Dither response. -/
  k : W32
  /-- Mean without the dither. -/
  c : W32
  /-- Residual. -/
  r : W32
  /-- Gain. -/
  g : W32
  /-- Offset. -/
  o : W32
deriving DecidableEq, Repr

/-- den of a window. -/
def CalSlot.den (x : CalSlot) : Nat := ((x.n : Int) * x.n - x.sd * x.sd).toNat

/-- The least-squares fit of a window: k, c and r. Log entry 52, DEDUCED. -/
def CalSlot.fit (x : CalSlot) : W32 × W32 × W32 :=
  let n : Int := x.n
  let d := x.den
  let kn := n * x.sxd - x.sx * x.sd
  let cn := n * x.sx - x.sd * x.sxd
  let sse := x.sxx * d - cn * x.sx - kn * x.sxd
  (roundQ kn d, roundQ cn d, roundSqrt sse.toNat (d * x.n))

/-- The estimates of slot k at the end of its window. -/
def State.estimate (s : State) (k : Nat) : Estimate :=
  let x := s.calSlot k
  if x.den = 0 then ⟨true, fNan, fNan, fNan, fNan, fNan⟩
  else
    let f := x.fit
    let amp := (fromInt (s.calAmp k) 0).v
    let w7 := s.calRecW k 7
    let g := (fDiv f.1 (if bit w7 12 then (fMul amp (s.calSlot (fld w7 11 0)).gAvg).v else amp)).v
    let vmid := (fromInt (snat 16 (fld (s.calRecW k 3) 15 0)) 0).v
    ⟨false, f.1, f.2.1, f.2.2, g, if s.calRef k then (fSub f.2.1 (fMul g vmid).v).v else 0⟩

/-- One averaging step: a + (x − a) × 2^−A, each rounded. -/
def average (a x : W32) (sh : Nat) : W32 :=
  (fAdd a (fMul (fSub x a).v (roundF false 1 (-(sh : Int)) false).v).v).v

/-- A finite value in units of 2 ^ e. -/
def fUnits (a : W32) (e : Int) : Int := fInt a * (2 ^ (fPow a - e).toNat : Nat)

/-- |a − b| × scale exceeds lim × base, for finite operands, judged exactly; an infinite average is outside. -/
def exceeds (a b base : W32) (scale lim : Nat) : Bool :=
  if isInf a then true else
  let m (x y : Int) : Int := if x ≤ y then x else y
  let e := m (fPow a) (m (fPow b) (fPow base))
  decide ((lim : Int) * fUnits base e < ((fUnits a e - fUnits b e).natAbs * scale : Nat))

/-- The gain of slot k with average g is outside its limit (R178); the answer for a NaN is free. -/
def State.gainOut (s : State) (k : Nat) (g : W32) : Bool :=
  let lim := fld (s.calRecW k 6) 31 16
  if lim = 0 then false
  else if isNan g then decide (Config.freeVal s.free % 2 = 1)
  else exceeds g (s.calRecW k 4) (s.calRecW k 4) 1000000 lim

/-- The offset of slot k with average o is outside its limit; the answer for a NaN is free. -/
def State.offsetOut (s : State) (k : Nat) (o : W32) : Bool :=
  let lim := fld (s.calRecW k 6) 15 0
  if lim = 0 ∨ s.calRef k = false then false
  else if isNan o then decide (Config.freeVal (s.free + 1) % 2 = 1)
  else exceeds o (s.calRecW k 5) 0x3F800000 1 lim

/-- The averages and the drift tests after a window that is not DEGENERATE (R178). -/
def State.drift (s : State) (k : Nat) (e : Estimate) : State :=
  let x := s.calSlot k
  let a := fld (s.calRecW k 0) 23 20
  let g := average x.gAvg e.g a
  let o := if s.calRef k then average x.oAvg e.o a else x.oAvg
  let go := s.gainOut k g
  let oo := s.offsetOut k o
  let alarm := x.armed && ((go && !x.gOut) || (oo && !x.oOut))
  let arm := if !go && !oo then true else x.armed && !alarm
  (({ s with free := s.free + 2 }).setCalSlot k
    { x with gAvg := g, oAvg := o, gOut := go, oOut := oo, armed := arm }).raiseIf alarm 404

/-! ### Result records (R179) -/

/-- SIZE as it acts; 0 drops every record. -/
def ringSize (n : Nat) : Nat := if n = 0 then 0 else if n < 16 then 16 else Nat.min n 4096

/-- The 64 bytes of a result record of slot k, whose averages are up to date, for a window that ended with chip q. -/
def State.resultBytes (s : State) (k q : Nat) (x : CalSlot) (e : Estimate) : List Byte :=
  let y := s.calSlot k
  let ref := s.calRef k
  let w0 := x.win * 65536 + b2n ref * 32768 + b2n (decide (0 < x.gaps)) * 16384 + b2n (y.gOut || y.oOut) * 8192 +
    b2n e.degen * 4096 + k
  leBytes 4 w0 ++ leBytes 8 s.clk.dt ++ leBytes 4 (q % 65536 * 65536 + Nat.min 65535 x.gaps) ++
  leBytes 4 (BitVec.ofInt 32 x.sd).toNat ++ leBytes 8 (BitVec.ofInt 64 x.sx).toNat ++ leBytes 8 (BitVec.ofInt 64 x.sxd).toNat ++
  leBytes 4 e.k.toNat ++ leBytes 4 e.c.toNat ++ leBytes 4 e.r.toNat ++ leBytes 4 e.g.toNat ++ leBytes 4 e.o.toNat ++
  leBytes 4 y.gAvg.toNat ++ leBytes 4 (if ref then y.oAvg.toNat else 0)

/-- Write a result record, or drop it. -/
def State.putResult (s : State) (bytes : List Byte) : State :=
  let z := ringSize (fld (s.reg .mrdRingSize) 12 0)
  let h := fld (s.reg .mrdRingHead) 11 0
  if z = 0 ∨ (h + 1) % z = fld (s.reg .mrdRingTail) 11 0 then (s.bump (.mrdCount 1)).raise 401
  else
    (((s.busWrite 8 ((s.reg .mrdRingBase).toNat + 64 * h) bytes).1).setReg .mrdRingHead (BitVec.ofNat 32 ((h + 1) % z))).raise 400

/-- The end of a window of slot k, whose last block was taken under chip q. -/
def State.windowEnd (s : State) (k q : Nat) : State :=
  let x := s.calSlot k
  let e := s.estimate k
  let s1 := s.bump (.mrdCount 0)
  let s2 := if e.degen then s1.bump (.mrdCount 3) else s1.drift k e
  let s3 := if bit (s.reg .mrdCtl) 1 then s2.putResult (s2.resultBytes k q x e) else s2
  s3.updCalSlot k (fun c => { c.restart with win := (c.win + 1) % 65536 })

/-! ### Accumulation (R175, R176) -/

/-- The sample at a byte of a payload, s16. -/
def sampleAt (payload : List Byte) (off : Nat) : Int := snat 16 (leAt payload off 2)

/-- Count one sample x of slot k, taken under a chip. -/
def State.sample (s : State) (k q : Nat) (plus : Bool) (x : Int) : State :=
  let d : Int := if plus then 1 else -1
  let s1 := s.updCalSlot k (fun c =>
    { c with n := (c.n + 1), sd := (c.sd + d), sx := (c.sx + x), sxd := (c.sxd + x * d), sxx := (c.sxx + x * x) })
  if (s1.calSlot k).n = s.calWindow k then s1.windowEnd k q else s1

/-- Slot k reads a block: samples BLANK to COUNT − 1. -/
def State.readBlock (s : State) (k q : Nat) (payload : List Byte) : State :=
  let w1 := s.calRecW k 1
  let blank := fld (s.calRecW k 2) 31 28
  let plus := prbsChip (s.calSeed k) q
  s.forEach ((List.range (fld w1 7 0 - blank)).map (fun i => sampleAt payload (fld w1 31 16 + fld w1 15 8 * (blank + i))))
    (fun s x => s.sample k q plus x)

/-- The echo of a channel: marked, and its chip. Log entry 62, DEDUCED. -/
def echoOk (mask chips : Nat) (ch : Nat) (plus : Bool) : Bool := nbit mask ch && decide (nbit chips ch = plus)

/-- Slot k meets the in-frame of cycle n of its partner: the echo is judged (R171), and the block is read when it has been
placed and MRD_CTL.ENABLE = 1 (R175). -/
def State.correlate (s : State) (k n mask chips : Nat) (placed : Bool) (payload : List Byte) : State :=
  if !s.calJudges k n then s else
  let q := chipOf (s.calSlot k).start n
  if echoOk mask chips (s.calChan k) (prbsChip (s.calSeed k) q) then
    let s1 := s.updCalSlot k (fun c => { c with restarts := 0 })
    if placed && bit (s.reg .mrdCtl) 0 then s1.readBlock k q payload else s1
  else s.ditherSync k

/-- A missed in-frame of cycle n adds to the gaps of the partner's slots (R175). -/
def State.missBlocks (s : State) (p n : Nat) : State :=
  if !bit (s.reg .mrdCtl) 0 then s
  else s.forEach ((s.calSlotsOf p).filter (fun k => s.calJudges k n)) (fun s k =>
    s.updCalSlot k (fun c => { c with gaps := c.gaps + 1 }))

/-! ### The slot header (R172) -/

/-- AMP of a dithered channel: of its enabled slot, of its stopped slot, else free (R170, R199). -/
def State.ampOf (s : State) (p ch : Nat) : Nat :=
  match (s.calSlotsOf p).find? (fun k => decide (s.calChan k = ch)) with
  | some k => s.calAmp k
  | none => match s.stoppedD.find? (fun x => decide (x.p = p) && decide (x.ch = ch)) with
    | some x => x.amp
    | none => Config.freeVal (s.free + ch) % 256

/-- SYNC_ERR: a marked echo differs from Mordant's chip, or more than 16 channels are marked. -/
def State.syncErr (s : State) (p n mask chips : Nat) : Bool :=
  decide (16 < ((List.range 64).filter (nbit mask)).length) ||
  (s.calSlotsOf p).any (fun k => s.calJudges k n && nbit mask (s.calChan k) &&
    decide (nbit chips (s.calChan k) ≠ prbsChip (s.calSeed k) (chipOf (s.calSlot k).start n)))

/-- Words 8 to 31 of the header, 48 bytes. -/
def State.ditherWords (s : State) (p n mask chips : Nat) : List Byte :=
  let chs := ((List.range 64).filter (nbit mask)).take 16
  padTo 48 (leBytes 2 (b2n (s.syncErr p n mask chips)) ++ List.replicate 14 0 ++
    chs.flatMap (fun ch => leBytes 2 (32768 + b2n (nbit chips ch) * 16384 + ch * 256 + s.ampOf p ch)))

/-! ### MRD_CTL -/

/-- Every window restarts. -/
def State.restartWindows (s : State) : State :=
  { s with cal := s.cal.filterMap (fun e =>
      let c := e.2.restart
      if c = CalSlot.reset then none else some (e.1, c)) }

/-- MRD_CTL: the register is written; ENABLE = 0 restarts every window (R188). -/
def execMrdCtl (v : W32) (s : State) : Answer :=
  let s1 := s.updReg .mrdCtl (fun o => Reg.merge .mrdCtl o v 0xFFFFFFFF)
  .next (if bit v 0 then s1 else s1.restartWindows)

end Sys2Proof.Machine
end

