-- ==== Sys2Proof/Machine/Field.lean ====
section
/-!
DEFINITION. Machine/Field.lean: field lines, the way out: OUT, LATE and CONT frames (R5 to R8, R196 to R198, R207, R208,
R212), messages down (R200, R201), rings (R210), PTP (R213 to R215), link and module presence (R192, R218, R219).
-/
namespace Sys2Proof.Machine

/-! ### Lanes -/

/-- FLD_CTL.ENABLE, in a field port group that is in service (R307, R309). -/
def State.laneOn (s : State) (l : Nat) : Bool := bit (s.reg (.fldCtl l)) 0 && s.isOn (44 + l / 8)

/-- A lane sends and receives frames: it is enabled and sends no test pattern. -/
def State.laneRx (s : State) (l : Nat) : Bool := s.laneOn l && !bit (s.reg (.fldCtl l)) 2 && !s.ballsOff

/-- What the transmitter of a lane sends. -/
inductive LaneOut where
  /-- Nothing: the PCS does not run. -/
  | off
  /-- The PRBS31 test pattern. -/
  | prbs31
  /-- Idle blocks only. -/
  | idle
  /-- Remote fault. -/
  | remoteFault
  /-- Frames, and idle blocks between them. -/
  | frames
deriving DecidableEq, Repr

/-- What lane l sends (R189, R219): the test pattern in place of frames; idle blocks with TX_ENABLE = 0; remote fault while it
receives local fault; idle blocks while it receives remote fault, as the reconciliation sublayer of IEEE 802.3 clause 46 has it.
Log entry 127, PRESUMED. -/
def State.laneOut (s : State) (l : Nat) : LaneOut :=
  if !s.laneOn l || s.ballsOff then .off
  else if bit (s.reg (.fldCtl l)) 2 then .prbs31
  else if !bit (s.reg (.fldCtl l)) 1 then .idle
  else if (s.lane l).localFault then .remoteFault
  else if (s.lane l).remoteFault then .idle else .frames

/-- A lane sends frames. -/
def State.laneTx (s : State) (l : Nat) : Bool := decide (s.laneOut l = .frames)

/-- MAIN as the driver uses it: 63 − PRE − POST where the three exceed 63, and 0 where that is negative (R190). -/
def State.mainInUse (s : State) (l : Nat) : Nat :=
  let v := s.reg (.fldTxeq l)
  if 63 < fld v 5 0 + fld v 11 6 + fld v 17 12 then 63 - fld v 5 0 - fld v 17 12 else fld v 11 6

/-- The EtherType of the field protocol; values below 0x0600, and 0x88F7, act as 0x88B5 (R219). -/
def State.etype (s : State) (l : Nat) : Nat :=
  let e := fld (s.reg (.fldCtl l)) 31 16
  if e < 0x600 ∨ e = 0x88F7 then 0x88B5 else e

/-- A lane whose PCS does not run: nothing is locked. Log entry 63, DEDUCED. -/
def Lane.pcsOff (d : Lane) : Lane :=
  { d with blockLock := false, hiBer := false, localFault := false, remoteFault := false }

/-- FLD_STATUS.LINK. -/
def State.linkUp (s : State) (l : Nat) : Bool :=
  let d := s.lane l
  s.laneOn l && d.blockLock && !d.hiBer && !d.localFault && !d.remoteFault

/-- FLD_STATUS as it reads (R219). -/
def State.fldStatus (s : State) (l : Nat) : W32 :=
  let d := s.lane l
  let on := s.laneOn l
  BitVec.ofNat 32 (b2n (!d.gpio) * 128 + b2n (on && d.closed) * 64 + b2n (s.linkUp l) * 32 + b2n (on && d.remoteFault) * 16 +
    b2n (on && d.localFault) * 8 + b2n (on && d.hiBer) * 4 + b2n (on && d.blockLock) * 2 + b2n d.signal)

/-- LINK is raised when FLD_STATUS.LINK of lane l differs from what it was (R218). -/
def State.linkEvent (old : State) (l : Nat) (s : State) : State := s.raiseIf (old.linkUp l != s.linkUp l) (256 + 6 * l)

/-- The partners of a line in ascending SLOT order. -/
def State.bySlot (s : State) (a : Nat) : List Nat := (List.range 512).filterMap (s.partnerAt a)

/-- FRAME_MAX of a line. -/
def State.frameMax (s : State) (a : Nat) : Nat := fld (s.lineRecW a 3) 13 0

/-! ### Out-records (R198) -/

/-- The record of a slot that the frame engine reads: its newest buffer, invalid where there is none (R8) or where it
cannot be read (R156); the body of an unreadable one is free. -/
def State.readOutRec (s : State) (a p : Nat) (stale : Bool) : State × OutRec :=
  let slot := s.pSlot p
  let n := s.pOutLen p
  match (s.outSlot (512 * a + slot)).buf with
  | none => (s, ⟨slot, true, true, List.replicate n 0⟩)
  | some b =>
    let junk := (List.range n).map (fun i => BitVec.ofNat 8 (Config.freeVal (s.free + i)))
    if !s.storeOn b n then (({ s with free := s.free + n }).decodeError (0x100000000 + b) (6 + a / 8) false, ⟨slot, stale, true, junk⟩)
    else match s.storeBadAt b n with
      | some x => (({ s with free := s.free + n }).storeError x, ⟨slot, stale, true, junk⟩)
      | none => (s, ⟨slot, stale, false, s.storeRead b n⟩)

/-- The output of slot of line a is stale in the OUT set of cycle n (R7, R8). Log entry 37, DEDUCED. -/
def State.outStale (s : State) (a slot n : Nat) : Bool :=
  if n = 0 then true else
  match s.producer (.outSlot (512 * a + slot)) with
  | some t => match owedCyc (s.recOf t.1) n with
    | some c => decide ((s.outSlot (512 * a + slot)).cyc ≠ some c)
    | none => true
  | none => true

/-- Read the records of a list of partners. -/
def State.readOutRecs (s : State) (a : Nat) (stale : Nat → Bool) : List Nat → State × List OutRec
  | [] => (s, [])
  | p :: ps =>
    let x := s.readOutRec a p (stale (s.pSlot p))
    let y := x.1.readOutRecs a stale ps
    (y.1, x.2 :: y.2)

/-! ### Frames (R191, R196 to R198) -/

/-- A record of a frame. -/
abbrev Item := OutRec ⊕ Msg

/-- Bytes of a record. -/
def Item.bytes : Item → Nat
  | .inl r => 4 + r.body.length
  | .inr m => msgBytes m

/-- Bytes of a list of records. -/
def itemsBytes (l : List Item) : Nat := sumNat (l.map Item.bytes)

/-- An out-record as it is sent: SLOT, STALE, INVALID, LENGTH and the body (R198). -/
def OutRec.sent (r : OutRec) : List Byte :=
  leBytes 2 (b2n r.invalid * 8192 + b2n r.stale * 4096 + r.slot % 4096) ++ leBytes 2 r.body.length ++ r.body

/-- A message record as it is sent: SLOT, MTYPE, MSEQ, MLEN, and the body with its zero pad (R200). -/
def Msg.sent (m : Msg) : List Byte :=
  leBytes 2 (m.slot % 4096) ++ leBytes 1 m.mtype ++ leBytes 1 m.mseq ++ leBytes 2 m.body.length ++ m.body ++
    List.replicate (m.body.length % 2) 0

/-- A record as it is sent. -/
def Item.sent : Item → List Byte
  | .inl r => r.sent
  | .inr m => m.sent

/-- Divide records among frames with room for `room` bytes of records, never splitting one; `cur` is the frame under way,
latest first. Log entry 56, DEDUCED. -/
def packItems (room : Nat) : List Item → List Item → List (List Item)
  | [], cur => [cur.reverse]
  | i :: is, cur =>
    if cur.isEmpty || decide (itemsBytes cur + i.bytes ≤ room) then packItems room is (i :: cur)
    else cur.reverse :: packItems room is [i]

/-- A frame's records. -/
def TxFrame.items (f : TxFrame) : List Item := f.recs.map .inl ++ f.msgs.map .inr

/-- A frame with other records. -/
def TxFrame.withItems (f : TxFrame) (l : List Item) : TxFrame :=
  { f with recs := l.filterMap (fun i => match i with | .inl r => some r | .inr _ => none),
           msgs := l.filterMap (fun i => match i with | .inl _ => none | .inr m => some m) }

/-- Bytes of a frame before its FCS and without pad: the Ethernet and field headers and the records. -/
def TxFrame.bytes (f : TxFrame) : Nat := 30 + itemsBytes f.items

/-- Time on the wire, with preamble and gap, in tenths of ns: 0.8 ns a byte, 64 bytes at least. Log entry 53, DEDUCED. -/
def TxFrame.wire (f : TxFrame) : Nat := 8 * (Nat.max 64 (f.bytes + 4) + 20)

/-- The frames of a set of a type, not yet timed. -/
def framesOfSet (type room : Nat) (items : List Item) : List TxFrame :=
  let gs := packItems room items []
  gs.zipIdx.map (fun g =>
    TxFrame.withItems ⟨0, 0, type, false, decide (g.2 + 1 = gs.length), g.2, [], [], false⟩ g.1)

/-- The frame check sequence of IEEE 802.3, one bit of a byte. -/
def crc32Bit (c : W32) : W32 := if c.getLsbD 0 then (c >>> 1) ^^^ 0xEDB88320 else c >>> 1

/-- The frame check sequence, one byte. -/
def crc32Byte (c : W32) (b : Byte) : W32 :=
  let x := c ^^^ b.setWidth 32
  crc32Bit (crc32Bit (crc32Bit (crc32Bit (crc32Bit (crc32Bit (crc32Bit (crc32Bit x)))))))

/-- Bytes with their FCS after them (R191). Log entry 128, PRESUMED. -/
def withFcs (bs : List Byte) : List Byte := bs ++ leBytes 4 (~~~(bs.foldl crc32Byte 0xFFFFFFFF)).toNat

/-- FLD_MAC of a lane. Log entry 16, PRESUMED. -/
def State.laneMac (s : State) (l : Nat) : Nat := (s.reg (.fldMacLo l)).toNat + 2 ^ 32 * fld (s.reg (.fldMacHi l)) 15 0

/-- A number in `n` bytes, the highest first. -/
def beBytes (n v : Nat) : List Byte := (leBytes n v).reverse

/-- The Ethernet header of an out-frame: broadcast, FLD_MAC, the EtherType (R196; log entry 16). -/
def State.etherHead (s : State) (l : Nat) : List Byte :=
  List.replicate 6 0xFF ++ beBytes 6 (s.laneMac l) ++ beBytes 2 (s.etype l)

/-- The field header of a frame that port l sends in cycle n of its line: 16 bytes, of which the last two are reserved (R197). -/
def State.fieldHead (s : State) (l n : Nat) (f : TxFrame) : List Byte :=
  let a := s.portA l
  leBytes 1 (16 + f.type) ++ leBytes 1 (4 * b2n (decide (l ≠ a)) + 2 * b2n f.cont + b2n f.lastF) ++
    leBytes 2 (16 * b2n (s.isRing a) + a) ++ leBytes 4 n ++ leBytes 2 0 ++ leBytes 2 f.seg ++ leBytes 2 (itemsBytes f.items) ++
    leBytes 2 0

/-- A frame that port l sends in cycle n, before its FCS: headers, records, and zeros up to 60 bytes (R191). -/
def State.frameBody (s : State) (l n : Nat) (f : TxFrame) : List Byte :=
  let bs := s.etherHead l ++ s.fieldHead l n f ++ f.items.flatMap Item.sent
  bs ++ List.replicate (60 - bs.length) 0

/-- The cycle that frames of a port carry. -/
def State.portCyc (s : State) (l : Nat) : Nat := ((s.lane (s.portA l)).cyc).getD 0

/-! ### The ring rule (R212) -/

/-- The windows at the other port of a ring, as (start, end) after T0 in tenths of ns. -/
def State.otherWindows (s : State) (l : Nat) : List (Nat × Nat) :=
  let a := s.portA l
  (s.partnersOf a).map (fun p =>
    let arr := 10 * (s.partRecW p (if l = a then 5 else 4)).toNat
    (arr, arr + 8 * (s.pInMax p + 20)))

/-- A LATE or CONT frame may be on the wire of port l from t0 to t1, in tenths of ns. Log entry 58, DEDUCED. -/
def State.ringOk (s : State) (l t0 t1 : Nat) : Bool :=
  let a := s.portA l
  if !s.isRing a then true else
  match s.otherWindows l, (s.lane a).cyc with
  | w :: ws, some n =>
    let d := 10 * Nat.max (fld (s.reg (.ringDelay a)) 31 16) (fld (s.reg (.ringDelay a)) 15 0)
    let z := 10 * s.t0Of a n
    let first := ws.foldl (fun m x => Nat.min m x.1) w.1
    let last := ws.foldl (fun m x => Nat.max m x.2) w.2
    decide (t1 + d ≤ z + first) || decide (z + last ≤ t0 + d)
  | _, _ => true

/-! ### Sending -/

/-- A frame leaves port l (R196, R197). Log entry 59, DEDUCED. -/
def State.putFrame (s : State) (l : Nat) (f : TxFrame) : State :=
  ((s.emit (.frame l f.t0 (withFcs (s.frameBody l (s.portCyc l) f)))).bump (.fldCount l 1)).updLane l
    (fun d => { d with tx := d.tx ++ [f] })

/-- The first frame of a LATE set that is due waits under the ring rule at port l: counted once (R212). -/
def State.markDelayed (s : State) (l : Nat) : State :=
  (if (s.lane l).delayed then s else s.bump (.fldCount l 12)).updLane l (fun d => { d with delayed := true })

/-- Frames leave port l back to back from a moment on, LATE and CONT frames under the ring rule; the rest waits, and the frame
that waits is counted once (R212). -/
def State.sendFrames (s : State) (l t : Nat) : List TxFrame → State × List TxFrame
  | [] => (s, [])
  | f :: fs =>
    let g := { f with t0 := t, t1 := t + f.wire }
    if (decide (f.type = 1) && !f.cont) || s.ringOk l g.t0 g.t1 then (s.putFrame l g).sendFrames l g.t1 fs
    else if f.delayed then (s, f :: fs)
    else (s.bump (.fldCount l 12), { f with delayed := true } :: fs)

/-- The moment from which port l is free, in tenths of ns. -/
def Lane.busyTo (d : Lane) : Nat := d.tx.foldl (fun m f => Nat.max m f.t1) 0

/-- Pending messages in posting order, as many as fit MSG_BUDGET and a frame (R201). -/
def dueMsgs (room : Nat) : Nat → List Msg → List Msg
  | _, [] => []
  | budget, m :: ms =>
    if !m.due then dueMsgs room budget ms
    else if msgBytes m ≤ budget ∧ msgBytes m ≤ room then m :: dueMsgs room (budget - msgBytes m) ms
    else []

/-- The messages after those of `sent` have gone. -/
def markSent (sent ms : List Msg) : List Msg :=
  ms.map (fun m => if sent.contains m then { m with sends := m.sends + 1, due := false } else m)

/-! ### T_of and T0 -/

/-- CONFIG of a partner: MAC, its record, the first half of the line record (R200). -/
def State.configBody (s : State) (p : Nat) : List Byte :=
  leBytes 6 (s.pMac p) ++ (List.range 8).flatMap (fun w => leBytes 4 (s.partRecW p w).toNat) ++
    (List.range 4).flatMap (fun w => leBytes 4 (s.lineRecW (s.portA (s.pLine p)) w).toNat)

/-- The line Shingles see to a CONFIG for each partner that is not ACTIVE (R206): a new one where none is queued, and for a
LOST partner the queued one goes out again. Log entry 54, DEDUCED. -/
def State.postConfigs (s : State) (a : Nat) : State :=
  s.forEach ((s.bySlot a).filter (fun p => decide ((s.partner p).st ≠ 1))) (fun s p =>
    if (s.lane a).msgs.any (fun m => decide (m.p = p) && decide (m.by_ = .config)) then
      if (s.partner p).st = 2 then
        s.updLane a (fun d => { d with msgs := d.msgs.map (fun m =>
          if m.p = p ∧ m.by_ = .config then { m with due := true, sends := 0 } else m) })
      else s
    else s.postMsg p 1 (s.configBody p) .config)

/-- The next cycle of a lane. -/
def Lane.nextCyc (d : Lane) : Nat := match d.cyc with | none => 0 | some c => c + 1

/-- At T_of the line Shingles, while they run, have queued what was posted and see to their CONFIGs (R201, R206, R217). -/
def State.serveLine (s : State) (a : Nat) : State :=
  if s.lineServed a then
    (s.updLane a (fun d => { d with msgs := d.msgs ++ d.posted, posted := [] })).postConfigs a
  else s

/-- T_of: the frame engine reads the output slots of the line (R6, R198). -/
def State.tOf (s : State) (l : Nat) : State :=
  let d := s.lane l
  if decide (s.portA l ≠ l) || !d.run || d.stopping || d.ofDone || !s.timeRuns then s
  else
    let x := s.readOutRecs l (fun slot => s.outStale l slot d.nextCyc) ((s.bySlot l).filter (fun p => decide (0 < s.pOutLen p)))
    let s1 := (x.1.forEach (s.portsOf l) (fun s p => s.updLane p (fun e => { e with latePub := [] }))).updLane l (fun d =>
      { d with ofDone := true, outSet := x.2, staleNow := (x.2.filter (·.stale)).map (·.slot) })
    s1.serveLine l

/-- SCHED_START of queue q completes at the T0 of cycle 0 of the last line it named (R276). -/
def State.startDone (s : State) (l : Nat) : State :=
  match (s.lane l).starter with
  | none => s
  | some q =>
    let s1 := s.updLane l (fun d => { d with starter := none })
    if (List.range 16).any (fun k => decide ((s1.lane k).starter = some q)) then s1 else s1.finishWaiting q 0x07 .success 0

/-- A base cycle of a port begins: its frames leave. -/
def State.portCycle (s : State) (p t : Nat) (fs : List TxFrame) : State :=
  let s1 := s.updLane p (fun e => { e with tx := [], cut := [], lateq := [], ret := false, delayed := false, syncN := e.syncN + 1 })
  if s.laneTx p then (s1.sendFrames p t fs).1 else s1

/-- Spare capacity is renewed at the T0 of REPLAY_CTL.LINE (R145). -/
def State.renewSpares (s : State) (l : Nat) : State :=
  if s.portA (fld (s.reg .replayCtl) 19 16) = l then s.updReg .replayStatus (fun v => setFld v 2 0 0) else s

/-- T0 of a running line (R197, R198, R276). -/
def State.t0Run (s : State) (l : Nat) : State :=
  let d := s.lane l
  let n := d.nextCyc
  let room := s.frameMax l - 34
  let due := if d.ofDone then dueMsgs room (fld (s.lineRecW l 3) 28 16) d.msgs else []
  let fs := if d.ofDone then framesOfSet 1 room (d.outSet.map .inl ++ due.map .inr) else []
  let s1 := s.setLane l { d with
    cyc := some n, ofDone := false, applied := false, icDone := false, outSet := [], arr := [], placed := [],
    msgs := markSent due d.msgs, stopped := d.stopping }
  let s2 := s1.forEach (s.portsOf l) (fun s p => s.portCycle p (10 * s.t0Of l n) fs)
  ((s2.renewSpares l).startDone l).checkStops

/-- The last OUT set of a line that function-level reset has stopped (R324). -/
def State.t0Last (s : State) (l : Nat) : State :=
  let d := s.lane l
  let n := d.nextCyc
  let fs := framesOfSet 1 (s.frameMax l - 34) (d.msgs.map .inr)
  let s1 := s.setLane l { d with cyc := some n, lastSet := false, msgs := [] }
  let s2 := s1.forEach (s.portsOf l) (fun s p => s.portCycle p (10 * s.t0Of l n) fs)
  s2.updLane l Lane.halt

/-- T0 of lane l: of its line when it is port A.  While device time stands still, no line reaches it (R338). -/
def State.t0 (s : State) (l : Nat) : State :=
  let d := s.lane l
  if decide (s.portA l ≠ l) || !s.timeRuns then s
  else if d.lastSet then s.t0Last l
  else if d.run && (d.ofDone || d.stopping) then s.t0Run l else s

/-- The apply time of the current cycle (R207, R209). -/
def State.applyTime (s : State) (l : Nat) : State :=
  let d := s.lane l
  if decide (s.portA l = l) && d.run && d.cyc.isSome && !d.ofDone && s.timeRuns then s.setLane l { d with applied := true } else s

/-! ### LATE sets and cut frames (R207, R208) -/

/-- What becomes of a frame on the wire that is to end at a moment: the bytes that are sent before its FCS, the rest, and when the
port is free.  The frame ends at the first 8-byte boundary at or after the bytes sent, 60 bytes at least, with its FCS after it;
none where it would end no earlier than by itself. Log entry 57, DEDUCED. -/
def TxFrame.cutAt (f : TxFrame) (now : Nat) : Option (Nat × TxFrame × Nat) :=
  let b := Nat.max 60 (((now - f.t0) / 8 - 8 + 7) / 8 * 8)
  if f.bytes ≤ b then none
  else
    let its := f.items
    let n := ((List.range its.length).filter (fun i => decide (30 + itemsBytes (its.take (i + 1)) ≤ b))).length
    some (b, { f.withItems (its.drop n) with cont := true, delayed := false }, f.t0 + 8 * (b + 4 + 20))

/-- The trace after a cut at port l: the latest n frames of the port have not left, and the one before them has left with other
bytes, where they are given. -/
def takeBack (l : Nat) : Nat → Option (List Byte) → List Emit → List Emit
  | _, _, [] => []
  | 0, none, es => es
  | n, r, .frame k t bs :: es =>
    if k ≠ l then .frame k t bs :: takeBack l n r es
    else match n, r with
      | m + 1, _ => takeBack l m r es
      | 0, some b => .frame k t b :: es
      | 0, none => .frame k t bs :: es
  | n, r, e :: es => e :: takeBack l n r es

/-- Frames of port l that the set's start had sent ahead of their time have not left: they go out of the trace and of the count of
frames sent. -/
def State.recallFrames (s : State) (l n : Nat) (r : Option (List Byte)) : State :=
  ({ s with out := takeBack l n r s.out }).updReg (.fldCount l 1) (fun v => v - BitVec.ofNat 32 n)

/-- Port l is taken from the frames under way at a moment: the frame on the wire is cut, those behind it have not left and wait.
The state, and the moment at which the port is free (R208). -/
def State.cutFrames (s : State) (l now : Nat) : State × Nat :=
  let d := s.lane l
  let past := d.tx.filter (fun f => decide (f.t0 ≤ now))
  let behind := d.tx.filter (fun f => decide (now < f.t0))
  let s1 := s.setLane l { d with tx := past, cut := behind ++ d.cut }
  let keep := s1.recallFrames l behind.length none
  match past.getLast? with
  | none => (keep, now)
  | some f =>
    if f.t1 ≤ now then (keep, now)
    else match f.cutAt now with
      | none => (keep, f.t1)
      | some (b, rest, t) =>
        ((s1.recallFrames l behind.length (some (withFcs ((s.frameBody l (s.portCyc l) f).take b)))).setLane l { d with
          tx := past.dropLast ++ [{ f with t1 := t }], cut := rest :: behind ++ d.cut }, t)

/-- The slots of a LATE set due at port l, ascending. -/
def Lane.lateSlots (d : Lane) : List Nat := (List.range 512).filter (fun k => d.latePub.any (fun x => decide (x.1 = k)))

/-- The LATE set of port l starts (R207): where only publications before T0 wait for it, once the OUT set has left. -/
def State.startLate (s : State) (l : Nat) : State :=
  let a := s.portA l
  let e := s.lane l
  let now := 10 * s.clk.dt
  if e.latePub.all (·.2) && decide (now < e.busyTo) then s
  else
    let x := s.readOutRecs a (fun _ => false) (e.lateSlots.filterMap (s.partnerAt a))
    let fs := framesOfSet 3 (s.frameMax a - 34) (x.2.map .inl)
    let c := x.1.cutFrames l now
    match fs with
    | [] => s
    | f :: _ =>
      if s.ringOk l c.2 (c.2 + f.wire) then
        let y := c.1.sendFrames l c.2 fs
        (y.1.bump (.fldCount l 2)).updLane l (fun d => { d with latePub := [], lateq := y.2, delayed := false })
      else s.markDelayed l

/-- LATE_SET at port l: the frames of a LATE set that wait, or a new set. -/
def State.lateSet (s : State) (l : Nat) : State :=
  let d := s.lane (s.portA l)
  let e := s.lane l
  if !s.laneTx l || !d.run || d.ofDone || d.cyc.isNone then s
  else if !e.lateq.isEmpty then
    let y := s.sendFrames l (Nat.max (10 * s.clk.dt) e.busyTo) e.lateq
    y.1.updLane l (fun d => { d with lateq := y.2 })
  else if e.latePub.isEmpty then s else s.startLate l

/-- CONT_FRAME at port l: after the LATE set, the next frame that the cut has left (R208). -/
def State.contFrame (s : State) (l : Nat) : State :=
  let e := s.lane l
  match e.cut with
  | [] => s
  | f :: fs =>
    if !s.laneTx l || !e.lateq.isEmpty then s
    else
      let y := s.sendFrames l (Nat.max (10 * s.clk.dt) e.busyTo) [f]
      y.1.updLane l (fun d => { d with cut := y.2 ++ fs })

/-! ### Messages that get no ACK (R201, R170, R171) -/

/-- A message has failed: its poster learns it. -/
def State.failMsg (s : State) (m : Msg) : State :=
  match m.by_ with
  | .host q => s.finishWaiting q 0x0D .noAck 0
  | .dstart k => if s.calOn k && decide ((s.calSlot k).st = 1) then s.ditherSync k else s
  | .dstop ch =>
    ({ s with stoppedD := s.stoppedD.map (fun (x : Stopped) =>
        if x.isFor m.p ch ∧ x.mseq = m.mseq then { x with failed := true } else x) }).raise 403
  | .config => s

/-- A message of line l without an ACK in two cycles: the line Shingles send it again, or after 3 sends it fails (R201, R217). -/
def State.retryMsg (s : State) (l p mseq : Nat) : State :=
  let a := s.portA l
  match (s.lane a).msgs.find? (fun m => decide (m.p = p) && decide (m.mseq = mseq) && !m.due) with
  | none => s
  | some m =>
    if !s.lineServed a then s
    else if m.sends < 3 then
      s.updLane a (fun d => { d with msgs := d.msgs.map (fun x => if x = m then { x with due := true } else x) })
    else (s.updLane a (fun d => { d with msgs := d.msgs.filter (· ≠ m) })).failMsg m

/-- A failed stop is posted again (R170). -/
def State.retryStop (s : State) (p ch : Nat) : State :=
  match s.stoppedD.find? (fun (x : Stopped) => x.isFor p ch && x.failed) with
  | none => s
  | some x => s.postStop p ch x.amp

/-! ### Rings (R210) -/

/-- A frame sent from the other port of a ring has returned at port l. -/
def State.returned (s : State) (l : Nat) (firstOut : Bool) (delay : Nat) : State :=
  let a := s.portA l
  if !s.isRing a || !s.laneRx l then s
  else
    let s1 := s.bump (.fldCount l 14)
    if !firstOut then s1
    else
      let v := Nat.min 0xFFFF delay
      (s1.updReg (.ringDelay a) (fun r => if l = a then setFld r 31 16 v else setFld r 15 0 v)).updLane
        (if l = a then a + 1 else a) (fun d => { d with ret := true })

/-- RETURN_LIMIT of the current cycle of the ring whose port A is l. Log entry 60, DEDUCED. -/
def State.returnLimit (s : State) (l : Nat) : State :=
  let d := s.lane l
  if !s.isRing l || !d.run || d.cyc.isNone || d.stopped || !s.timeRuns then s
  else
    let both := d.ret && (s.lane (l + 1)).ret
    let run := if both then d.okRun + 1 else 0
    let closed := both && (d.closed || decide (2 ≤ run))
    (s.setLane l { d with okRun := Nat.min 2 run, closed := closed }).raiseIf (closed != d.closed) (256 + 6 * l + 4)

/-! ### PTP (R213 to R215) -/

/-- logMessageInterval of a kind of PTP message: 0x7F, and 0 for the Announce of every second (R213). Log entry 129, PRESUMED. -/
def ptpInterval (kind : Nat) : Nat := if kind = 2 then 0 else 0x7F

/-- Port l sends a PTP message with DOMAIN of the line record and a time (R213). -/
def State.sendPtp (s : State) (l kind time : Nat) : State :=
  (s.emit (.ptp l kind (fld (s.lineRecW (s.portA l) 4) 23 16) (ptpInterval kind) time)).bump (.fldCount l 1)

/-- The PTP timestamps of port l, changed by a function. -/
def State.updPtp (s : State) (l : Nat) (g : PtpTimes → PtpTimes) : State := s.updLane l (fun d => { d with ptp := g d.ptp })

/-- PTP is raised on port A (R215). -/
def State.ptpEvent (s : State) (l : Nat) : State := s.raise (256 + 6 * s.portA l + 3)

/-- A measured peer delay of port l: PTP where it has changed by more than 20 ns (R215). -/
def State.peerDelay (s : State) (l delay : Nat) : State :=
  let s1 := s.updLane l (fun d => { d with pdelay := some delay })
  match (s.lane l).pdelay with
  | some p => if decide (p + 20 < delay) || decide (delay + 20 < p) then s1.ptpEvent l else s1
  | none => s1

/-- Port l sends a peer-delay request, timestamped against DT (R213, R214). -/
def State.askDelay (s : State) (l : Nat) : State :=
  (s.updPtp l (fun t => { t with reqTx := some s.clk.dt })).sendPtp l 3 s.clk.dt

/-- The answer to the request outstanding reaches port l at a moment; the neighbour has held the request for `turn` ns: half of
what remains is the peer delay (R213, R214; log entry 129). -/
def State.delayAnswer (s : State) (l now turn : Nat) : State :=
  match (s.lane l).ptp.reqTx with
  | none => s
  | some t => (s.updPtp l (fun x => { x with reqTx := none, respRx := some now })).peerDelay l ((now - t - turn) / 2)

/-- A received PTP message: a peer-delay request is timestamped and answered in two steps, with its receipt and with the moment of
the answer; an answer is timestamped and measured; a foreign Announce is counted (R213 to R215). -/
def State.ptpIn (s : State) (l : Nat) (m : PtpMsg) : State :=
  if !s.laneRx l then s else
  match m with
  | .delayReq =>
    let s1 := s.updPtp l (fun t => { t with reqRx := some s.clk.dt })
    if s.laneTx l then
      ((s1.updPtp l (fun t => { t with respTx := some s.clk.dt })).sendPtp l 4 s.clk.dt).sendPtp l 5 s.clk.dt
    else s1
  | .delayResp turn => s.delayAnswer l s.clk.dt turn
  | .announce => (s.bump (.fldCount l 15)).ptpEvent l

/-- A Sync is due: SYNC_DIV base cycles have begun since the last one.  It is timestamped, and its Follow_Up carries the precise
origin timestamp (R213, R214). Log entry 61, DEDUCED. -/
def State.sync (s : State) (l : Nat) : State :=
  let d := s.lane l
  if (s.lane (s.portA l)).run && decide (fld (s.lineRecW (s.portA l) 4) 10 0 ≤ d.syncN) && s.timeRuns then
    let s1 := s.setLane l { d with syncN := 0 }
    if s.laneTx l then
      ((s1.updPtp l (fun t => { t with sync := some s.clk.dt })).sendPtp l 0 s.clk.dt).sendPtp l 1 s.clk.dt
    else s1
  else s

/-! ### The commands -/

/-- T_OF: the output slots of line l are read (R6, R198). -/
def execTOf (l : Fin 16) (s : State) : Answer := .next (s.tOf l)

/-- T0: the OUT set of line l leaves and its next cycle begins (R198). -/
def execT0 (l : Fin 16) (s : State) : Answer := .next (s.t0 l)

/-- APPLY_TIME (R209). -/
def execApplyTime (l : Fin 16) (s : State) : Answer := .next (s.applyTime l)

/-- LATE_SET (R207, R212). -/
def execLateSet (l : Fin 16) (s : State) : Answer := .next (s.lateSet l)

/-- CONT_FRAME (R208, R212). -/
def execContFrame (l : Fin 16) (s : State) : Answer := .next (s.contFrame l)

/-- MESSAGE_RETRY: no ACK has come for a message (R201). -/
def execMessageRetry (l : Fin 16) (p : Fin 4096) (mseq : Byte) (s : State) : Answer := .next (s.retryMsg l p mseq.toNat)

/-- DITHER_STOP_RETRY: 16 base cycles have passed since the failure of a stop (R170). -/
def execDitherStopRetry (p : Fin 4096) (ch : Fin 64) (s : State) : Answer := .next (s.retryStop p ch)

/-- RETURNED_FRAME (R210). -/
def execReturnedFrame (l : Fin 16) (firstOut : Bool) (delay : Nat) (s : State) : Answer := .next (s.returned l firstOut delay)

/-- RETURN_LIMIT (R210). -/
def execReturnLimit (l : Fin 16) (s : State) : Answer := .next (s.returnLimit l)

/-- SYNC: Sync and its Follow_Up (R213). -/
def execSync (l : Fin 16) (s : State) : Answer := .next (s.sync l)

/-- ANNOUNCE (R213). -/
def execAnnounce (l : Fin 16) (s : State) : Answer := .next (if s.laneTx l && s.timeRuns then s.sendPtp l 2 s.clk.dt else s)

/-- PTP_MESSAGE: a PTP message is received (R213 to R215). -/
def execPtpMessage (l : Fin 16) (m : PtpMsg) (s : State) : Answer := .next (s.ptpIn l m)

/-- PEER_DELAY_GENERATION: the port sends a peer-delay request; the answer reaches it `elapsed` ns later and the neighbour has held
the request for `turn` ns (R213 to R215). -/
def execPeerDelayGeneration (l : Fin 16) (answer : DelayAnswer) (s : State) : Answer :=
  .next (if s.laneTx l then (s.askDelay l).delayAnswer l (s.clk.dt + answer.elapsed) answer.turn else s)

/-- LINK: the receiver and the PCS of lane l find a new condition, and have met errored blocks since the last one (R189, R218,
R219).  While ENABLE = 0 the PCS does not run. -/
def execLink (l : Fin 16) (signal blockLock hiBer : Bool) (fault : RxFault) (errored : Nat) (s : State) : Answer :=
  .next (State.linkEvent s l ((if s.laneOn l then s.bumpBy (.fldCount l 13) errored else s).updLane l (fun d =>
    if s.laneOn l then
      { d with signal := signal, blockLock := blockLock, hiBer := hiBer, localFault := fault.near, remoteFault := fault.far }
    else { d with signal := signal })))

/-- MOD_PRESENT: GPIO[l], the presence input of lane l's module (R192, R219). -/
def execModPresent (l : Fin 16) (level : Bool) (s : State) : Answer :=
  .next (if s.ballsOff then s else s.updLane l (fun d => { d with gpio := level }))

end Sys2Proof.Machine
end

