-- ==== Sys2Proof/Machine/FieldIn.lean ====
section
/-!
DEFINITION. Machine/FieldIn.lean: field lines, the way in: the checks of received frames (R191, R196, R205, R13), placement
and the slot header (R9, R115, R199, R204), messages up (R200, R201), partner states (R206), T_ic (R11, R12, R206, R211).
-/
namespace Sys2Proof.Machine

/-! ### An in-frame's fields (R197, R199) -/

/-- Little-endian field of a frame. -/
def fr (b : List Byte) (off n : Nat) : Nat := leAt b off n

/-- Flags of the in-record header. -/
def frFlags (b : List Byte) : Nat := fr b 30 2
/-- Flag D: the echo block follows. -/
def frD (b : List Byte) : Bool := nbit (frFlags b) 3
/-- Flag M: a message record follows the payload. -/
def frM (b : List Byte) : Bool := nbit (frFlags b) 4
/-- RESTARTED. -/
def frRestarted (b : List Byte) : Bool := nbit (frFlags b) 8
/-- TIME_LOCKED. -/
def frLocked (b : List Byte) : Bool := nbit (frFlags b) 0
/-- Offset of the payload. -/
def frPay (b : List Byte) : Nat := 40 + if frD b then 16 else 0
/-- DMASK. -/
def frMask (b : List Byte) : Nat := if frD b then fr b 40 8 else 0
/-- DCHIP. -/
def frChips (b : List Byte) : Nat := if frD b then fr b 48 8 else 0
/-- Offset of the message record, for a payload length. -/
def frMsg (b : List Byte) (inLen : Nat) : Nat := frPay b + inLen

/-- LENGTH that the flags and IN_LEN give. -/
def frLength (b : List Byte) (inLen : Nat) : Nat :=
  frPay b - 30 + inLen + if frM b then 6 + 2 * ((fr b (frMsg b inLen + 4) 2 + 1) / 2) else 0

/-- An EtherType, which IEEE 802.3 sends high byte first. -/
def frType (b : List Byte) : Nat := (b.getD 12 0).toNat * 256 + (b.getD 13 0).toNat

/-- The destination address, its first octet in bits 47 to 40 (log entry 16). -/
def frDest (b : List Byte) : Nat := (b.take 6).foldl (fun n x => n * 256 + x.toNat) 0

/-- The header checks of R205 for a frame received at lane l; the sender's partner number where it passes.
Log entry 107, DEDUCED. -/
def State.headerOk (s : State) (l : Nat) (b : List Byte) : Option Nat :=
  let a := s.portA l
  let ring := s.isRing a
  match s.partnerAt a (fr b 22 2), (s.lane a).cyc with
  | some p, some n =>
    let len := s.pInLen p
    if decide (fr b 14 1 = 0x12) && decide (nfld (fr b 15 1) 7 3 = 0) && !nbit (fr b 15 1) 1 && nbit (fr b 15 1) 0 &&
      (nbit (fr b 15 1) 2 == decide (l ≠ a)) &&
      decide (nfld (fr b 16 2) 15 5 = 0) && (nbit (fr b 16 2) 4 == ring) && decide (nfld (fr b 16 2) 3 0 = a) &&
      decide (fr b 18 4 = n % 2 ^ 32) && decide (fr b 24 2 = 0) && decide (fr b 28 2 = 0) && decide (nfld (frFlags b) 15 9 = 0) &&
      decide (fr b 36 2 = len) && decide (fr b 26 2 = frLength b len) && decide (34 + frLength b len ≤ b.length) &&
      (!frM b || (decide (nfld (fr b (frMsg b len) 2) 15 12 = 0) && decide (fr b (frMsg b len + 4) 2 ≤ 256)))
    then some p else none
  | _, _ => none

/-- The window test of R205, on moments in tenths of ns. -/
def State.inWindow (s : State) (l p n first last : Nat) : Bool :=
  let a := s.portA l
  let arr := 10 * (s.t0Of a n + (s.partRecW p (if l = a then 4 else 5)).toNat)
  decide (arr ≤ first + 100) && decide (last ≤ arr + 8 * (s.pInMax p + 20) + 100)

/-- FRAME_ERR of lane l. -/
def State.frameErr (s : State) (l : Nat) : State := s.raise (256 + 6 * l + 1)

/-- A received frame whose check completes at lane l (R191, R196, R205, R13). -/
def State.frameIn (s : State) (l : Nat) (b : List Byte) (fcsOk : Bool) (first last : Nat) : State :=
  let a := s.portA l
  let d := s.lane a
  if !s.laneRx l then s
  else if !fcsOk || decide (b.length < 64) || decide (9216 < b.length) then (s.bump (.fldCount l 3)).frameErr l
  else if frType b = 0x88F7 then s
  else if decide (frType b ≠ s.etype l) || decide (frDest b ≠ s.laneMac l) then s.bump (.fldCount l 15)
  else match s.headerOk l b with
  | none => (s.bump (.fldCount l 4)).frameErr l
  | some p =>
    let port := if l = a then 0 else 1
    if d.icDone then (s.bump (.fldCount l 5)).raise (256 + 6 * l + 5)
    else if d.arr.contains (p, port) then s.bump (.fldCount l 9)
    else
      let s1 := if s.inWindow l p (d.cyc.getD 0) first last then s else s.bump (.fldCount l 10)
      s1.updLane a (fun d => { d with accq := d.accq ++ [⟨p, port, d.cyc.getD 0, b⟩], arr := d.arr ++ [(p, port)] })

/-! ### Messages up (R200, R201, R206) -/

/-- An ACK of partner p: the line Shingles take the message out of their queue, and it goes to the poster (R201, R217). -/
def State.ackIn (s : State) (a p n seq result : Nat) : State :=
  if !s.lineServed a then s else
  match (s.lane a).msgs.find? (fun m => decide (m.p = p) && decide (m.mseq = seq) && decide (0 < m.sends)) with
  | none => s
  | some m =>
    let s1 := s.updLane a (fun d => { d with msgs := d.msgs.filter (· ≠ m) })
    match m.by_ with
    | .host q => s1.finishWaiting q 0x0D .success (result % 256)
    | .dstart k => s1.updCalSlot k (fun c => { c with ackCyc := some n })
    | .dstop ch => { s1 with stoppedD := s1.stoppedD.filter (fun (x : Stopped) => !(x.isFor p ch && decide (x.mseq = seq))) }
    | .config => s1.updPartner p (fun x => if x.st = 0 then { x with st := 1 } else x)

/-- A HOST message of partner p: a class 1 buffer and a MESSAGE entry, or it is dropped (R280). Log entry 93, DEDUCED. -/
def State.hostMsgIn (s : State) (p mtype mseq : Nat) (body : List Byte) : State :=
  match s.allocAnswer 1 .msg with
  | none => (s.allocTake 1 .msg).bump (.qeCount 6)
  | some b =>
    let s1 := ((s.allocTake 1 .msg).busWrite (6 + s.pLine p / 8) b body).1
    s1.postEvent ⟨evBytes s.clk.dt (b / 1024 * 1024 + body.length) (mtype % 256 + 256 * (mseq % 256)) 1 p, none⟩

/-- The message record of partner p's in-frame of cycle n at lane l. -/
def State.msgIn (s : State) (l p n : Nat) (b : List Byte) : State :=
  let a := s.portA l
  let o := frMsg b (s.pInLen p)
  let mtype := fr b (o + 2) 1
  let mseq := fr b (o + 3) 1
  let body := (b.drop (o + 6)).take (fr b (o + 4) 2)
  if mtype = 0x40 then s.ackIn a p n (leAt body 0 1) (leAt body 1 1)
  else if mtype = 0x41 then s.updPartner p (fun x => { x with caps := padTo 10 body })
  else if 0x80 ≤ mtype then s.hostMsgIn p mtype mseq body
  else (s.bump (.fldCount l 4)).frameErr l

/-! ### Placement (R9, R115, R199, R204) -/

/-- The partner status table takes the in-record header; RESTARTED brings a LOST partner back, while the line Shingles run, and
ends its dithers (R170, R206, R217); a fall of TIME_LOCKED raises PTP (R215). Log entry 55, DEDUCED. -/
def State.partnerHeard (s : State) (l p : Nat) (b : List Byte) : State :=
  let x := s.partner p
  let back := frRestarted b && decide (x.st = 2) && s.lineServed (s.portA l)
  let s1 := s.setPartner p { x with hdr := (b.drop 30).take 10, locked := frLocked b, st := if back then 1 else x.st }
  let s2 := if frRestarted b then { s1 with stoppedD := s1.stoppedD.filter (fun y => decide (y.p ≠ p)) } else s1
  if x.locked && !frLocked b then s2.ptpEvent l else s2

/-- The 64 bytes of header of a field input slot's buffer (R115, R172). -/
def State.fieldHeader (s : State) (p n : Nat) (b : List Byte) : List Byte :=
  leBytes 2 0 ++ leBytes 2 (s.pInLen p) ++ leBytes 2 (s.pSlot p) ++ leBytes 2 p ++ leBytes 8 s.clk.dt ++
    s.ditherWords p n (frMask b) (frChips b)

/-- Place a payload at lane l into a fresh buffer of its slot: the state, and whether it has been placed. -/
def State.placeIt (s : State) (l p n : Nat) (b pay : List Byte) : State × Bool :=
  let k := 512 * s.portA l + s.pSlot p
  let h := Holder.inSlot k
  let c := classFor (64 + s.pInLen p)
  match s.allocAnswer c h with
  | none => ((s.allocTake c h).bump (.fldCount l 8), false)
  | some buf =>
    let w := (s.allocTake c h).busWrite (6 + l / 8) buf (s.fieldHeader p n b ++ pay)
    if w.2 then
      let s1 := (w.1.setInSlot k ⟨some buf, s.clk.dt, none⟩).bump (.fldCount l 0)
      ({ s1 with free := s1.free + 64 }.reclaimAll [(s.inSlot k).buf], true)
    else (w.1.allocFree c buf, false)

/-- The inputs of DATA tasklet t that have arrived by T_ic and wait for their placement (R113). -/
def State.inputsWaiting (s : State) (a t : Nat) : Bool :=
  let r := s.recOf t
  r.ins.any (fun i => !r.inNowait i && !r.inInternal i &&
    (s.lane a).accq.any (fun x => decide (s.pSlot x.p = r.inSlot i) &&
      !((s.lane a).placed.any (fun y => decide (y.1 = x.p)))))

/-- After T_ic, the DATA instances of the line's current cycle that are still due are released, but those that wait for a
placement (R11, R113). -/
def State.icRelease (s : State) (a : Nat) : State :=
  match (s.lane a).cyc with
  | none => s
  | some n =>
    s.forEach (s.admitted.filter (fun t => let r := s.recOf t
      !r.timed && decide (s.portA r.line = a) && s.dueIn t n && !s.inputsWaiting a t)) (fun s t => s.release t n)

/-- The first copy of partner p's in-frame of cycle n, received at lane l. Log entry 64, DEDUCED. -/
def State.firstCopy (s : State) (l p n : Nat) (b pay : List Byte) : State :=
  let a := s.portA l
  let s1 := (s.partnerHeard l p b).updLane a (fun d => { d with placed := d.placed ++ [(p, pay)] })
  let x := if (s1.partner p).st = 2 then (s1, false) else s1.placeIt l p n b pay
  let s2 := if (s1.partner p).st = 2 then x.1
    else x.1.forEach (x.1.calSlotsOf p) (fun s k => s.correlate k n (frMask b) (frChips b) x.2 pay)
  let s3 := if frM b then s2.msgIn l p n b else s2
  let s4 := if x.2 then s3.dataRelease (.inSlot (512 * a + s.pSlot p)) else s3
  if (s4.lane a).icDone then s4.icRelease a else s4

/-- PLACEMENT: the oldest accepted in-frame of the line is placed, or compared with the copy already taken (R9). -/
def State.placement (s : State) (l : Nat) : State :=
  let a := s.portA l
  match (s.lane a).accq with
  | [] => s
  | x :: xs =>
    let s1 := s.updLane a (fun d => { d with accq := xs })
    let lane := a + x.port
    let pay := (x.bytes.drop (frPay x.bytes)).take (s.pInLen x.p)
    match (s.lane a).placed.find? (fun y => decide (y.1 = x.p)) with
    | some y => s1.bump (.fldCount lane (if y.2 = pay then 6 else 7))
    | none => s1.firstCopy lane x.p x.cyc x.bytes pay

/-! ### T_ic (R11, R12, R206, R211) -/

/-- The line Shingles' count of a partner's consecutive misses, and the mark LOST, after a cycle; both stay as they stand while no
line Shingle runs (R206, R217). -/
def State.judgePartner (s : State) (a p : Nat) (missed : Bool) : State :=
  let x := s.partner p
  let lost := decide (x.st = 1) && decide (s.missLimit a ≤ x.miss + 1)
  if !s.lineServed a then s
  else if missed then s.setPartner p { x with miss := x.miss + 1, st := if lost then 2 else x.st }
  else s.setPartner p { x with miss := 0 }

/-- The misses of cycle n. -/
def State.judgeMisses (s : State) (a n : Nat) : State :=
  let arr := (s.lane a).arr.map (·.1)
  let ps := s.bySlot a
  let missed := ps.filter (fun p => !arr.contains p)
  let s1 := s.forEach (ps.filter arr.contains) (fun s p => s.judgePartner a p false)
  let s2 := s1.forEach missed (fun s p => (s.judgePartner a p true).missBlocks p n)
  let low := match missed with | p :: _ => s.pSlot p | [] => 0xFFF
  ((s2.bumpBy (.fldCount a 11) missed.length).setReg (.missLast a) (BitVec.ofNat 32 (missed.length * 65536 + low))).raiseIf
    (!missed.isEmpty) (256 + 6 * a + 2)

/-- RING_STATUS (R211), on a single line too, whose lane is port A (R193); free where no in-frame has arrived through a
port. Log entry 108, DEDUCED. -/
def State.ringStatus (s : State) (a : Nat) : State :=
  let pos (port : Nat) : List Nat := ((s.lane a).arr.filter (fun x => decide (x.2 = port))).map (fun x => s.pPos x.1)
  let lastA := match pos 0 with | [] => Config.freeVal s.free % 1024 | x :: xs => xs.foldl Nat.max x
  let firstB := match pos 1 with | [] => Config.freeVal (s.free + 1) % 1024 | x :: xs => xs.foldl Nat.min x
  ({ s with free := s.free + 2 }).setReg (.ringStatus a) (BitVec.ofNat 32 (firstB * 65536 + lastA))

/-- T_ic of the current cycle of line l. -/
def State.tIc (s : State) (l : Nat) : State :=
  let d := s.lane l
  match d.cyc with
  | none => s
  | some n =>
    if decide (s.portA l ≠ l) || !d.run || d.icDone || d.ofDone || !s.timeRuns then s
    else (((s.setLane l { d with icDone := true }).judgeMisses l n).ringStatus l).icRelease l

/-! ### The commands -/

/-- IN_FRAME_ARRIVAL: the frame check of a received frame completes at lane l; first and last are the device times, in
tenths of ns, of its first preamble byte and its last FCS byte (R205). Log entry 66, DESIGN CHOICE. -/
def execInFrameArrival (l : Fin 16) (bytes : List Byte) (fcsOk : Bool) (first last : Nat) (s : State) : Answer :=
  .next (s.frameIn l bytes fcsOk first last)

/-- PLACEMENT (R204). -/
def execPlacement (l : Fin 16) (s : State) : Answer := .next (s.placement l)

/-- T_IC (R11). -/
def execTIc (l : Fin 16) (s : State) : Answer := .next (s.tIc l)

end Sys2Proof.Machine
end

