-- ==== Sys2Proof/Machine/RegRead.lean ====
section
/-!
DEFINITION. Machine/RegRead.lean: what a read of a BAR0 register returns, and the two reads with a side effect (R3, R317,
R331).
-/
namespace Sys2Proof.Machine

/-! ### The calendar's broken-down fields (R316) -/

/-- Days of a year. -/
def yearDays (y : Nat) : Nat := if y % 4 = 0 ∧ (y % 100 ≠ 0 ∨ y % 400 = 0) then 366 else 365

/-- Year and day of the year, from a year on. -/
def splitYear : Nat → Nat → Nat → Nat × Nat
  | 0, y, d => (y, d)
  | n + 1, y, d => if d < yearDays y then (y, d) else splitYear n (y + 1) (d - yearDays y)

/-- Days of the months of a year. -/
def monthDays (y : Nat) : List Nat := [31, yearDays y - 337, 31, 30, 31, 30, 31, 31, 30, 31, 30, 31]

/-- Month and day of the month, from a month on. -/
def splitMonth : List Nat → Nat → Nat → Nat × Nat
  | [], m, d => (m, d)
  | n :: ns, m, d => if d < n then (m, d) else splitMonth ns (m + 1) (d - n)

/-- CAL_DATE of a count of seconds. -/
def calDateOf (sec : Nat) : W32 :=
  let y := splitYear 200 2000 (sec / 86400)
  let m := splitMonth (monthDays y.1) 1 y.2
  BitVec.ofNat 32 (y.1 * 4096 + m.1 * 256 + (m.2 + 1))

/-- CAL_TIME of a count of seconds; 2000-01-01 was a Saturday. -/
def calTimeOf (sec : Nat) : W32 :=
  let d := sec % 86400
  BitVec.ofNat 32 ((sec / 86400 + 6) % 7 * 2 ^ 24 + d / 3600 * 65536 + d / 60 % 60 * 256 + d % 60)

/-! ### Computed registers -/

/-- STATE of a power domain as a number (R307). -/
def DomSt.code : DomSt → Nat
  | .off => 0 | .ramp => 1 | .clear => 2 | .on => 3 | .drain => 4

/-- 32 bits of a predicate. -/
def bits32 (f : Nat → Bool) : W32 := BitVec.ofNat 32 (sumNat ((List.range 32).map (fun j => b2n (f j) * 2 ^ j)))

/-- QUEUE_CTL of a submission queue. -/
def Sq.ctl (x : Sq) : W32 := BitVec.ofNat 32 (x.size * 2 ^ 18 + x.hop * 256 + x.cq * 4 + b2n x.run)

/-- QUEUE_STATUS of a submission queue. -/
def Sq.status (x : Sq) : W32 :=
  BitVec.ofNat 32 (b2n x.seg.isSome * 2 ^ 31 + b2n x.resume * 2 ^ 30 + x.stop * 2 ^ 28 + x.tail * 65536 + x.head)

/-- CQ_CFG, and EVQ_CFG. -/
def Cq.cfg (c : Cq) : W32 := BitVec.ofNat 32 (b2n c.en * 2 ^ 31 + b2n c.ien * 2 ^ 22 + c.vec * 65536 + c.size)

/-- CQ_STATUS, and EVQ_STATUS. -/
def Cq.status (c : Cq) : W32 := BitVec.ofNat 32 (b2n c.phase * 2 ^ 31 + c.head * 65536 + c.tail)

/-- CLUSTER_LOAD: LOAD is value(c) in 1/512, rounded up (R136). -/
def State.clusterLoad (s : State) (c : Nat) : W32 :=
  BitVec.ofNat 32 (b2n (s.isSpare c) * 2 ^ 31 + b2n (s.fenced c) * 2 ^ 30 + (s.homedOn c).length * 65536 +
    Nat.min 1023 (ceilDiv (s.valueOf c) 128))

/-- GEN_SLOT of a descriptor (R188). -/
def Gen.slot (g : Gen) : W32 := BitVec.ofNat 32 (g.st * 2 ^ 29 + Nat.min 8191 g.refs * 65536 + g.num)

/-- DMA_STATUS of a channel (R298). -/
def Dma.status (d : Dma) : W32 :=
  BitVec.ofNat 32 (b2n d.busy * 2 ^ 31 + b2n d.done * 2 ^ 30 + b2n d.stopped * 2 ^ 29 + b2n d.lastIss * 2 ^ 28 + d.master)

/-- DMA_CTL of a channel. -/
def Dma.ctl (d : Dma) : W32 := BitVec.ofNat 32 (d.qos * 2 ^ 24 + b2n d.dstFix * 4 + b2n d.srcFix * 2)

/-- DSP_STATUS (R136). -/
def State.dspStatus (s : State) : W32 :=
  let be := (s.admitted.filter (fun t => (s.recOf t).bestEffort)).length
  BitVec.ofNat 32 (b2n s.anyRuns * 2 ^ 31 + (s.admitted.length - be) * 65536 + be)

/-- FLD_RXEQ: while the lane runs with ADAPT = 1 the settings in use are free; otherwise they hold (R190). -/
def State.fldRxeq (s : State) (l : Nat) : W32 :=
  let v := s.reg (.fldRxeq l)
  let f := Config.freeVal s.free
  if s.laneOn l && bit v 31 then setFld (setFld v 7 0 (f % 256)) 20 16 (f / 256 % 32) else v

/-- The registers that are meaningful on port A only read 0 elsewhere (R219). -/
def State.portAOnly (s : State) (l : Nat) (r : Reg) : W32 := if s.portA l = l then s.reg r else 0

/-- The value of register `r`. -/
def State.regValue (s : State) : Reg → W32
  | .qeStatus => setBit (s.reg .qeStatus) 1 s.qeHeld
  | .queueCtl n => (s.sq n).ctl
  | .sqBaseLo n => (s.sq n).base.setWidth 32
  | .sqBaseHi n => ((s.sq n).base >>> 32).setWidth 32
  | .cqBaseLo n => (s.cq n).base.setWidth 32
  | .cqBaseHi n => ((s.cq n).base >>> 32).setWidth 32
  | .evqBaseLo => (s.cq 64).base.setWidth 32
  | .evqBaseHi => ((s.cq 64).base >>> 32).setWidth 32
  | .queueStatus n => (s.sq n).status
  | .cqCfg n => (s.cq n).cfg
  | .evqCfg => (s.cq 64).cfg
  | .cqMod n => BitVec.ofNat 32 ((s.cq n).timer * 65536 + (s.cq n).count)
  | .cqStatus n => (s.cq n).status
  | .evqStatus => (s.cq 64).status
  | .hostClaim v => BitVec.ofNat 32 (b2n (s.claimed v).isSome * 2 ^ 31 + s.runPrio (65 + v) * 65536 + (s.claimed v).getD 0)
  | .targetState t => BitVec.ofNat 32 ((s.stack t).length * 16 + s.runPrio t)
  | .srcCfg i => s.srcCfgRead i
  | .pendSet n => bits32 (fun j => (s.src (32 * n + j)).pend)
  | .pendClr n => bits32 (fun j => (s.src (32 * n + j)).pend)
  | .active n => bits32 (fun j => (s.src (32 * n + j)).act.isSome)
  | .pwrState d => BitVec.ofNat 32 ((if d < 32 then (s.dom d).step * 256 else 0) + (s.dom d).st.code)
  | .dtLo => BitVec.ofNat 32 s.clk.dt
  | .dtHi => s.clk.hi
  | .dtRate => BitVec.ofInt 32 s.clk.rate
  | .calSecLo => BitVec.ofNat 32 s.cald.sec
  | .calSecHi => BitVec.ofNat 32 (s.cald.snapSec / 2 ^ 32)
  | .calSub => BitVec.ofNat 32 s.cald.snapSub
  | .calDate => calDateOf s.cald.snapSec
  | .calTime => calTimeOf s.cald.snapSec
  | .calAlarmHi => s.reg .calAlarmHi &&& 1
  | .calStatus => setBit (s.reg .calStatus) 1 s.cald.range
  | .replayStatus => setFld (s.reg .replayStatus) 21 16 ((s.jobs.filter (·.replay)).length)
  | .faultStatus => s.faultStatus
  | .ridgeCtl => setBit (s.reg .ridgeCtl) 1 (bit (s.core 64).st 6)
  | .fldStatus l => s.fldStatus l
  | .fldRxeq l => s.fldRxeq l
  | .ringStatus l => s.portAOnly l (.ringStatus l)
  | .ringDelay l => s.portAOnly l (.ringDelay l)
  | .missLast l => s.portAOnly l (.missLast l)
  | .fldMacHi l => s.reg (.fldMacHi l) &&& 0xFFFF
  | .dspStatus => s.dspStatus
  | .clusterLoad c => s.clusterLoad c
  | .pinCount c => BitVec.ofNat 32 (s.pinCount c 0 * 2 ^ 24 + s.pinCount c 1 * 65536 + s.pinCount c 2 * 256 + s.pinCount c 3)
  | .allocFree k => BitVec.ofNat 32 (s.cls k).freeL.length
  | .allocResv k => BitVec.ofNat 32 (s.cls k).outstanding
  | .genCurrent => BitVec.ofNat 32 (s.baseline * 65536 + s.currentGen)
  | .genBuild => BitVec.ofNat 32 (match s.genIn gBuilding with | some i => (s.gen i).num | none => 0)
  | .genSlot i => (s.gen i).slot
  | .dmaSrcLo n => BitVec.ofNat 32 (s.dma n).src
  | .dmaSrcHi n => BitVec.ofNat 32 ((s.dma n).src / 2 ^ 32)
  | .dmaDstLo n => BitVec.ofNat 32 (s.dma n).dst
  | .dmaDstHi n => BitVec.ofNat 32 ((s.dma n).dst / 2 ^ 32)
  | .dmaCount n => BitVec.ofNat 32 (s.dma n).cnt
  | .dmaCtl n => (s.dma n).ctl
  | .dmaStatus n => (s.dma n).status
  | .pba n => bits32 (fun j => s.pcie.pba.contains (32 * n + j))
  | r => s.reg r

/-- A read of CAL_SEC_LO latches the snapshot; a read of DT_LO latches DT bits [63:32] (R317, R331). -/
def State.readEffect (s : State) : Reg → State
  | .calSecLo => { s with cald := { s.cald with snapSec := s.cald.sec, snapSub := s.cald.sub } }
  | .dtLo => { s with clk := { s.clk with hi := BitVec.ofNat 32 (s.clk.dt / 2 ^ 32) } }
  | .fldRxeq _ => { s with free := s.free + 1 }
  | _ => s

/-- A 32-bit read of BAR0, by the offset of its word: offsets that hold no register read 0 (R266, R299). -/
def State.readWord (s : State) (off : Nat) : State × W32 :=
  match decodeReg (off / 4 * 4) with
  | some r => (s.readEffect r, s.regValue r)
  | none => (s, 0)

/-- The command DT_LO: a read of DT_LO (R319, R331). -/
def execDtLo (s : State) : Answer :=
  let x := s.readWord 0x7000
  .next (x.1.emit (.readData (leBytes 4 x.2.toNat)))

/-- The command CAL_SEC_LO: a read of CAL_SEC_LO (R317). -/
def execCalSecLo (s : State) : Answer :=
  let x := s.readWord 0x7020
  .next (x.1.emit (.readData (leBytes 4 x.2.toNat)))

end Sys2Proof.Machine
end

