-- ==== Sys2Proof/Machine/SysRead.lean ====
section
/-!
DEFINITION. Machine/SysRead.lean: the 40-bit system map (R299), what it shows of each target (R81, R224, R255, R303), the
checks on an access (R226, R227, R302), and reads.
-/
namespace Sys2Proof.Machine

/-- How the matrix refuses an access. -/
inductive BusErr where
  /-- No region grants it (R226). -/
  | region
  /-- A protected target (R227). -/
  | prot
  /-- An error response (R302). -/
  | response
  /-- A parity error in the data read (R155, R156). -/
  | parity
deriving DecidableEq, Repr

/-- The targets of R299. -/
inductive Target where
  /-- Ridge memory. -/
  | ridge
  /-- Store. -/
  | store
  /-- Atomic latches of the requester. -/
  | latch
  /-- Fetch-add view of the store. -/
  | fetchAdd
  /-- Compare-swap view of the store. -/
  | cmpSwap
  /-- Cluster windows. -/
  | cluster
  /-- Shingle windows. -/
  | shingle
  /-- Peripheral bridge. -/
  | bridge
  /-- Host memory. -/
  | host
  /-- The default target. -/
  | none
deriving DecidableEq, Repr

/-- The target of a system address and the offset in it (R299). -/
def busTarget (a : Nat) : Target × Nat :=
  if a < 0x20000 then (.ridge, a)
  else if 0x100000000 ≤ a ∧ a < 0x102000000 then (.store, a - 0x100000000)
  else if 0x120000000 ≤ a ∧ a < 0x120000018 then (.latch, a - 0x120000000)
  else if 0x140000000 ≤ a ∧ a < 0x142000000 then (.fetchAdd, a - 0x140000000)
  else if 0x160000000 ≤ a ∧ a < 0x162000000 then (.cmpSwap, a - 0x160000000)
  else if 0x200000000 ≤ a ∧ a < 0x202000000 then (.cluster, a - 0x200000000)
  else if 0x300000000 ≤ a ∧ a < 0x304000000 then (.shingle, a - 0x300000000)
  else if 0x400000000 ≤ a ∧ a < 0x400040000 then (.bridge, a - 0x400000000)
  else if 0x8000000000 ≤ a ∧ a < 0x9000000000 then (.host, a)
  else (.none, a)

/-- Byte i of a number. -/
def byteOf (x i : Nat) : Byte := BitVec.ofNat 8 (x / 256 ^ i)

/-! ### Ridge memory (R255) -/

/-- Program word a of core k; the Ridge's words below 0x2000 are boot ROM (R222). -/
def State.progWord (s : State) (k a : Nat) : W12 :=
  if k = 64 ∧ a < 0x2000 then Config.bootRom a else Tab.get (fun _ => 0) (s.core k).prog a

/-- The program word that an offset below 0x1_0000 of Ridge memory shows. -/
def State.ridgeWordAt (s : State) (o : Nat) : Option Nat :=
  if bit (s.reg .ridgeCtl) 0 then (if o < 0xC000 then some (0x2000 + o / 2) else none)
  else if o < 0x4000 then some (o / 2) else none

/-- A byte of Ridge memory. Log entry 74, DEDUCED. -/
def State.ridgeByte (s : State) (o : Nat) : Byte :=
  if o < 0x10000 then
    match s.ridgeWordAt o with
    | some a => byteOf (s.progWord 64 a).toNat (o % 2)
    | none => 0
  else Memory.read (s.core 64).data (o - 0x10000)

/-! ### Cluster windows (R81) -/

/-- The bit that makes the parity of bits [hi:lo] even (R154). -/
def parityOf (x hi lo : Nat) : Nat := sumNat ((List.range (hi + 1 - lo)).map (fun i => b2n (nbit x (lo + i)))) % 2

/-- Space and physical address of an offset in the frames. -/
def frameAt (o : Nat) : Nat × Nat := (o / 0x20000, o % 0x20000 / 2)

/-- TRAP_STATUS of cluster c. -/
def State.trapStatus (s : State) (c : Nat) : W32 :=
  let x := s.cluster c
  let h := decide (x.phase = .held)
  BitVec.ofNat 32 (b2n h * 2 ^ 31 + b2n (s.checkedOn c) * 2 ^ 30 + x.trapCause * 65536)

/-- A word of the register image, the pending list or trap control.  Offsets of the register image that R81 does not list
read 0 and ignore writes (log entry 115, DESIGN CHOICE). -/
def State.clusterWord (s : State) (c o : Nat) : W32 :=
  let x := s.cluster c
  let i := o - 0xF0000
  if i < 0x80 then (x.dr (i / 4)).setWidth 32
  else if i < 0xC0 then (if i % 8 = 0 then (x.ac ((i - 0x80) / 8)).setWidth 32 else ((x.ac ((i - 0x80) / 8)) >>> 32).setWidth 32)
  else if 0x100 ≤ i ∧ i < 0x1D0 then (x.ctl ((i - 0x100) / 4)).setWidth 32
  else if 0x200 ≤ i ∧ i < 0x220 then (Tab.get (fun _ => 0) x.rs ((i - 0x200) / 4)).setWidth 32
  else if i = 0x220 then BitVec.ofNat 32 (x.depth + 16 * x.loops)
  else if 0x300 ≤ i ∧ i < 0x400 then (x.map ((i - 0x300) / 64) ((i - 0x300) / 4 % 16)).setWidth 32
  else if 0x1000 ≤ i ∧ i < 0x1400 then Tab.get (fun _ => 0) x.plist ((i - 0x1000) / 4)
  else if i = 0xF000 then s.trapStatus c
  else if i = 0xF004 then BitVec.ofNat 32 (x.trapBundle * 65536 + x.trapSyl)
  else if i = 0xF008 then BitVec.ofNat 32 x.trapCycle
  else if i = 0xF010 then BitVec.ofNat 32 x.trapTarget
  else 0

/-- A halfword of the frames; a P halfword shows its parity bits, which are free for a word in error. -/
def State.frameHalf (s : State) (c o : Nat) : Nat :=
  let x := s.cluster c
  let p := frameAt o
  let w := (x.word p.1 p.2).toNat
  if p.1 ≠ 0 then w
  else if x.isBad 0 p.2 then w + Config.freeVal s.free % 4 * 2 ^ 14
  else w + parityOf w 7 0 * 2 ^ 14 + parityOf w 13 8 * 2 ^ 15

/-- A byte of a cluster window. -/
def State.clusterByte (s : State) (c o : Nat) : Byte :=
  if o < 0x70000 then byteOf (s.frameHalf c o) (o % 2) else byteOf (s.clusterWord c (o / 4 * 4)).toNat (o % 4)

/-- An offset of a cluster window is reachable (R81). -/
def State.clusterReach (s : State) (c o : Nat) : Bool :=
  let x := s.cluster c
  let held := decide (x.phase = .held)
  if o < 0x70000 then held || !x.mapped (frameAt o).1 ((frameAt o).2 / 1024)
  else if 0xF0000 ≤ o ∧ o < 0xF1400 then held
  else decide (0xFF000 ≤ o) && decide (o < 0xFF014)

/-! ### Shingle windows (R224) -/

/-- STATE as a number. -/
def CoreSt.code : CoreSt → Nat
  | .run => 0 | .wait => 1 | .calling => 2 | .held => 3 | .locked => 4

/-- V register n of a bank. -/
def Core.vAt (c : Core) (sh : Bool) (n : Nat) : Byte := Tab.get (fun _ => 0) (if sh then c.sv else c.v) n

/-- The bank that the state image shows. -/
def Core.imgBank (c : Core) : Bool := (decide (c.state = .calling) || decide (c.state = .locked)) && c.shadow

/-- A byte of the state image. -/
def Core.imgByte (c : Core) (o : Nat) : Byte :=
  let sh := c.imgBank
  let half (v : W16) : Byte := byteOf v.toNat (o % 2)
  if o < 8 then c.vAt sh o
  else if o < 10 then half c.px
  else if o < 12 then half c.py
  else if o < 14 then half (if sh then c.spz else c.pz)
  else if o < 16 then half c.cnt
  else if o < 18 then half c.sp
  else if o < 20 then half c.pc
  else if o = 20 then c.st
  else if o = 21 then BitVec.ofNat 8 c.state.code
  else if o = 22 then BitVec.ofNat 8 c.call
  else BitVec.ofNat 8 (b2n sh)

/-- A program halfword as a Shingle window shows it: the word and its two parity bits; a word in error gives an error response
instead (R154). -/
def State.progHalf (s : State) (k a : Nat) : Nat :=
  let w := (s.progWord k a).toNat
  w + parityOf w 7 0 * 2 ^ 12 + parityOf w 11 8 * 2 ^ 13

/-- A byte of a Shingle window. -/
def State.shingleByte (s : State) (k o : Nat) : Byte :=
  if o < 0x4000 then byteOf (s.progHalf k (o / 2)) (o % 2)
  else if o < 0x20000 then Memory.read (s.core k).data (o - 0x10000)
  else if o < 0x30000 then Tab.get (fun _ => 0) (s.core k).mbox (o - 0x20000)
  else (s.core k).imgByte (o - 0x30000)

/-- An offset of a Shingle window is reachable. -/
def shingleReach (o : Nat) : Bool :=
  decide (o < 0x4000) || (decide (0x10000 ≤ o) && decide (o < 0x14000)) || (decide (0x20000 ≤ o) && decide (o < 0x20008)) ||
    (decide (0x30000 ≤ o) && decide (o < 0x30018))

/-! ### Checks -/

/-- Region r of Shingle k grants a range (R226). -/
def State.regionGrants (s : State) (k r a n : Nat) (wr : Bool) : Bool :=
  let w0 := s.reg (.shgRegion0 (4 * k + r))
  let w1 := s.reg (.shgRegion1 (4 * k + r))
  let base := fld w0 31 4 * 4096
  bit w1 (if wr then 30 else 31) && decide (base ≤ a) && decide (a + n ≤ Nat.min (2 ^ 40) (base + fld w1 19 0 * 4096))

/-- The regions let master m make an access: they bind a Shingle, and a channel it started (R226). -/
def State.regionOk (s : State) (m a n : Nat) (wr : Bool) : Bool :=
  if 0x40 ≤ m ∧ m < 0x80 then (List.range 4).any (fun r => s.regionGrants (m - 0x40) r a n wr) else true

/-- An address is a protected target (R227). -/
def protectedAt (a : Nat) : Bool :=
  match busTarget a with
  | (.bridge, o) => decide (0x8400 ≤ o) && decide (o < 0x9000)
  | (.shingle, _) => true
  | (.ridge, _) => true
  | _ => false

/-- Master m may write a range: not to a protected target, but for the host and the Kept Ridge (R227). -/
def protOk (m a n : Nat) : Bool :=
  decide (m = 0) || decide (m = 2) || (List.range n).all (fun i => !protectedAt (a + i))

/-- A refusal: counted, and ACCESS_DENIED raised (R226, R227, R304). -/
def State.accessDenied (s : State) (n : Nat) : State := (s.bump (.mtxCount n)).raise 489

/-- A byte of the map answers (R302). Log entry 95, DEDUCED. -/
def State.reach (s : State) (a : Nat) (wr dma : Bool) : Bool :=
  match busTarget a with
  | (.ridge, o) => decide (0x10000 ≤ o) || (s.ridgeWordAt o).isSome
  | (.store, o) => s.storeOn o 1
  | (.latch, _) => !dma
  | (.fetchAdd, o) => !dma && !wr && s.storeOn o 1
  | (.cmpSwap, o) => !dma && !wr && s.storeOn o 1
  | (.cluster, o) => s.powered (o / 0x100000) && s.clusterReach (o / 0x100000) (o % 0x100000)
  | (.shingle, o) => s.powered (40 + o / 0x1000000) && shingleReach (o % 0x100000)
  | (.bridge, _) => true
  | (.host, _) => s.xlatValid a && !s.qeHeld
  | (.none, _) => false

/-- The width of an access suits its target: the bridge takes 1, 2 or 4 bytes within one word, or an aligned 8 (R299), an
atomic view 1 to 8 bytes within one aligned 8-byte word (R303). -/
def widthOk (a n : Nat) : Bool :=
  match (busTarget a).1 with
  | .bridge => (decide (n = 1) || decide (n = 2) || decide (n = 4)) && decide (a % 4 + n ≤ 4) || decide (n = 8) && decide (a % 8 = 0)
  | .fetchAdd => decide (a % 8 + n ≤ 8)
  | .cmpSwap => decide (a % 8 + n ≤ 8)
  | _ => true

/-- An access reaches its target. -/
def State.accessOk (s : State) (a n : Nat) (wr dma : Bool) : Bool :=
  widthOk a n && (List.range n).all (fun i => s.reach (a + i) wr dma)

/-! ### Reads -/

/-- The byte that a read by master m returns. -/
def State.peek (s : State) (m a : Nat) : Byte :=
  match busTarget a with
  | (.ridge, o) => s.ridgeByte o
  | (.store, o) => Memory.read s.store o
  | (.fetchAdd, o) => Memory.read s.store o
  | (.cmpSwap, o) => Memory.read s.store o
  | (.latch, o) => byteOf (s.latch (3 * m + o / 8)).toNat (o % 8)
  | (.cluster, o) => s.clusterByte (o / 0x100000) (o % 0x100000)
  | (.shingle, o) => s.shingleByte (o / 0x100000) (o % 0x100000)
  | (.bridge, o) => match decodeReg (o / 4 * 4) with
    | some r => byteOf (s.regValue r).toNat (o % 4)
    | none => 0
  | (.host, _) => Config.hostByte s.free (s.xlat a)
  | (.none, _) => 0

/-- The words of Ridge memory that a range of the system map meets, each once: data or program, and address (R255). -/
def State.ridgeWords (s : State) (o n : Nat) : List (Bool × Nat) :=
  ((List.range n).filterMap (fun i =>
    if 0x10000 ≤ o + i then some (true, o + i - 0x10000) else (s.ridgeWordAt (o + i)).map (fun a => (false, a)))).eraseDups

/-- The program words of Shingle k that a range of its window meets and that are in error (R154, R224). -/
def State.progTouched (s : State) (k o n : Nat) : List Nat :=
  (((List.range n).filter (fun i => decide (o + i < 0x4000))).map (fun i => (o + i) / 2)).eraseDups.filter (s.core k).progBad.contains

/-- The state after a parity error in the data that a read needs: a store byte (R156; the whole word of an atomic
operation, R303), a program word or a data byte of a Shingle (R154, R155), or a Ridge word in error in both copies, which stops
the Ridge (R162). -/
def State.readParity (s : State) (a n : Nat) : Option State :=
  match busTarget a with
  | (.store, o) => (s.storeBadAt o n).map s.storeError
  | (.fetchAdd, o) => (s.storeBadAt (o / 8 * 8) 8).map s.storeError
  | (.cmpSwap, o) => (s.storeBadAt (o / 8 * 8) 8).map s.storeError
  | (.shingle, o) =>
    let d := o % 0x100000 - 0x10000
    if 0x10000 ≤ o % 0x100000 ∧ o % 0x100000 < 0x14000 ∧
        (s.core (o / 0x100000)).dataBad.any (fun b => decide (d ≤ b) && decide (b < d + n)) then
      some (s.bump (.accessFound 6)).uncorrectable
    else if (s.progTouched (o / 0x100000) (o % 0x100000) n).isEmpty then none
    else some (s.bump (.accessFound 5)).uncorrectable
  | (.ridge, o) => ((s.ridgeWords o n).find? (fun w => s.ridgeLost w.1 w.2)).map (fun w => (s.ridgeRead w.1 w.2).1)
  | _ => none

/-- An atomic operation of master m on the store word that holds offset o (R303). -/
def State.atomic (s : State) (m o : Nat) (swap : Bool) : State :=
  let w := o / 8 * 8
  let old : W64 := BitVec.ofNat 64 (s.storeNat w 8)
  let opnd := s.latch (3 * m)
  let new := if swap then (if old = s.latch (3 * m + 1) then opnd else old) else old + opnd
  (s.storeWrite w (leBytes 8 new.toNat)).setLatch (3 * m + 2) old

/-- The words of a range of Ridge memory that one core holds in error are corrected, each once (R161, R164). -/
def State.ridgeTouch (s : State) (o n : Nat) : State :=
  s.forEach (s.ridgeWords o n) (fun s w => (s.ridgeRead w.1 w.2).1)

/-- What reading a range leaves: reads with an effect, atomic operations, free values used, parity errors found. -/
def State.touch (s : State) (m a n : Nat) : State :=
  match busTarget a with
  | (.fetchAdd, o) => s.atomic m o false
  | (.cmpSwap, o) => s.atomic m o true
  | (.bridge, o) => (s.readWord o).1
  | (.host, _) => s.usedHost
  | (.ridge, o) => s.ridgeTouch o n
  | (.cluster, o) =>
    let c := o / 0x100000
    let bad := (List.range n).filter (fun i => decide ((o + i) % 0x100000 < 0x70000) && (decide (i = 0) || decide ((o + i) % 2 = 0)) &&
      (s.cluster c).isBad (frameAt ((o + i) % 0x100000)).1 (frameAt ((o + i) % 0x100000)).2)
    (if bad.isEmpty then s else s.usedHost).forEach bad (fun s i =>
      let p := frameAt ((o + i) % 0x100000)
      s.accessParity c p.1 p.2)
  | _ => s

/-- How a read of host memory by an engine of the device ends, a free value: 0 with its data, 1 by timeout, 2 by Unsupported
Request or Completer Abort, 3 by a poisoned completion (R265). Log entry 130, DESIGN CHOICE. -/
def State.hostEnd (s : State) : Nat := Config.freeVal s.free % 4

/-- A failed read of host memory: AER logs a timeout and a poisoned completion (R265, R266). -/
def State.hostReadBad (s : State) : State :=
  if s.hostEnd = 1 then s.usedHost.aer aerTimeout else if s.hostEnd = 3 then s.usedHost.aer aerPoisoned else s.usedHost

/-- A read access of master m: what it returns, or how it fails.  The bridge splits an access of 8 bytes, the lower word
first (R299). -/
def State.busRead (s : State) (m a n : Nat) (dma : Bool) : State × (BusErr ⊕ List Byte) :=
  if !s.regionOk m a n false then (s.accessDenied 1, .inl .region)
  else if !s.accessOk a n false dma then (s.decodeError a m false, .inl .response)
  else if decide ((busTarget a).1 = .bridge) && decide (n = 8) then
    let lo := s.readWord (busTarget a).2
    let hi := lo.1.readWord ((busTarget a).2 + 4)
    (hi.1, .inr (leBytes 4 lo.2.toNat ++ leBytes 4 hi.2.toNat))
  else if decide ((busTarget a).1 = .host) && decide (s.hostEnd ≠ 0) then (s.hostReadBad, .inl .response)
  else match s.readParity a n with
    | some s1 => (s1, .inl .parity)
    | none => (s.touch m a n, .inr ((List.range n).map (fun i => s.peek m (a + i))))

end Sys2Proof.Machine
end

