-- ==== Sys2Proof/Machine/CoreExc.lean ====
section
/-!
DEFINITION. Machine/CoreExc.lean: the data space of a core (R223, R238), taking an exception (R242 to R245), lockup and the stop of
the Ridge (R162, R244, R254), and a core's reset (R220, R251).
-/
namespace Sys2Proof.Machine

/-! ### Registers (R220, R221) -/

/-- V register n of the bank in use. -/
def Core.vr (c : Core) (n : Nat) : Byte := c.vAt c.shadow n

/-- Write V register n of a bank. -/
def Core.setVAt (c : Core) (sh : Bool) (n : Nat) (b : Byte) : Core :=
  if sh then { c with sv := Tab.set (fun _ => 0) c.sv n b } else { c with v := Tab.set (fun _ => 0) c.v n b }

/-- Write V register n of the bank in use. -/
def Core.setV (c : Core) (n : Nat) (b : Byte) : Core := c.setVAt c.shadow n b

/-- PZ of the bank in use. -/
def Core.pzr (c : Core) : W16 := if c.shadow then c.spz else c.pz

/-- Write PZ of the bank in use. -/
def Core.setPz (c : Core) (x : W16) : Core := if c.shadow then { c with spz := x } else { c with pz := x }

/-- GM. -/
def Core.gm (c : Core) : Bool := bit c.st 7

/-- K. -/
def Core.kept (c : Core) : Bool := bit c.st 6

/-- The master ID of core k (R300). -/
def State.coreMaster (s : State) (k : Nat) : Nat := if k = 64 then (if (s.core 64).kept then 2 else 3) else 0x40 + k

/-- The cores' watchdog period in cycles (R247). -/
def State.wdogPeriod (s : State) : Nat := (s.reg .shgWdog).toNat * 400

/-- The watchdog of core k counts: enabled, PERIOD not 0, and the core waits neither in WAIT nor in CALLING (R241, R247). -/
def State.wdogCounts (s : State) (k : Nat) : Bool :=
  (if k = 64 then bit (s.reg .ridgeCtl) 2 else bit (s.reg (.shgWdogEn (k / 32))) (k % 32)) && decide (s.wdogPeriod ≠ 0) &&
    decide ((s.core k).state = .run)

/-- Core k spends cycles (R229, R233). -/
def State.spend (s : State) (k n : Nat) : State :=
  let w := s.wdogCounts k
  s.updCore k (fun c => { c with cycles := c.cycles + n, wdog := if w then c.wdog - n else c.wdog })

/-! ### The prefetched word (R233, R239) -/

/-- Word a of the program of core k as a fetch finds it now, with the error and the SHG_NX bit that the fetch meets. -/
def State.snapshot (s : State) (k a : Nat) : Prefetch :=
  { addr := a, word := s.progWord k a, bad := (s.core k).progBad.contains a || (decide (k = 64) && s.ridgeLost false a),
    nx := decide (k < 64) && decide (a < 0x2000) && bit (s.reg (.shgNx k)) (a / 256) }

/-- The word that core k decodes at a: the prefetched one where it is that word. -/
def State.seen (s : State) (k a : Nat) : Prefetch :=
  match (s.core k).pre with
  | some p => if p.addr = a then p else s.snapshot k a
  | none => s.snapshot k a

/-- The address of the first word that the core decodes next: after the RPT that is in force, or at PC. -/
def Core.fetchAddr (c : Core) : Nat := (c.pc.toNat + b2n c.rpt) % 65536

/-- The word after an instruction has been prefetched; it is kept where the core goes on at it, and discarded otherwise (R233). -/
def Core.prefetch (c : Core) (p : Prefetch) : Core :=
  { c with pre := if decide (c.state = .run) && decide (c.fetchAddr = p.addr) then some p else none }

/-! ### Data space (R223) -/

/-- EXC_DETAIL of a refused access: REGION, PROTECTED, RESPONSE, PARITY. -/
def BusErr.detail : BusErr → Nat
  | .region => 2 | .prot => 4 | .response => 8 | .parity => 16

/-- The system address of a window address. -/
def Core.winAddr (c : Core) (a : Nat) : Nat := (c.wbase + (a - 0x4000)) % 2 ^ 40

/-- A data address of core k lies in local RAM. -/
def localData (k a : Nat) : Bool := decide (k = 64) || decide (a < 0x4000)

/-- A local data byte that core k reads, with the parity check of R155, R161 and R162; none where the byte cannot be used.
Log entry 76, DEDUCED. -/
def State.localRead (s : State) (k a : Nat) : State × Option Byte :=
  let c := s.core k
  let b := Memory.read c.data a
  if k = 64 then
    let r := s.ridgeRead true a
    (r.1, if r.2 then some b else none)
  else if !c.dataBad.contains a then (s, some b)
  else ((s.bump (.accessFound 6)).uncorrectable, none)

/-- A byte that core k reads, or the detail and the address of the failure. -/
def State.readData (s : State) (k a : Nat) : State × ((Nat × Nat) ⊕ Byte) :=
  if localData k a then
    match s.localRead k a with
    | (s1, some b) => (s1, .inr b)
    | (s1, none) => (s1, .inl (16, a))
  else
    match s.busRead (s.coreMaster k) ((s.core k).winAddr a) 1 false with
    | (s1, .inl e) => (s1, .inl (e.detail, a))
    | (s1, .inr bs) => (s1, .inr (bs.headD 0))

/-- A window access of one byte passes the checks made before an access: regions and protected targets (R238). -/
def State.windowCheck (s : State) (k a : Nat) (wr : Bool) : Option (State × (Nat × Nat)) :=
  if localData k a then none
  else
    let m := s.coreMaster k; let w := (s.core k).winAddr a
    if !s.regionOk m w 1 wr then some (s.accessDenied 1, (2, a))
    else if wr && !protOk m w 1 then some (s.accessDenied 2, (4, a))
    else none

/-- A 16-bit access at an odd address is split; so is one whose halves lie in different memories (R238). -/
def splitAt (a : Nat) : Bool := decide (a % 2 = 1)

/-- A word that core k reads at `a`, low byte first: one access at an even address, two at an odd one (R238). -/
def State.readData2 (s : State) (k a : Nat) : State × ((Nat × Nat) ⊕ W16) :=
  let b := (a + 1) % 65536
  match (if splitAt a then (s.windowCheck k a false).orElse (fun _ => s.windowCheck k b false) else none) with
  | some e => (e.1, .inl e.2)
  | none =>
    if splitAt a || localData k a then
      match s.readData k a with
      | (s1, .inl e) => (s1, .inl e)
      | (s1, .inr lo) =>
        match s1.readData k b with
        | (s2, .inl e) => (s2, .inl e)
        | (s2, .inr hi) => (s2, .inr (hi ++ lo))
    else
      match s.busRead (s.coreMaster k) ((s.core k).winAddr a) 2 false with
      | (s1, .inl e) => (s1, .inl (e.detail, a))
      | (s1, .inr bs) => (s1, .inr (bs.getD 1 0 ++ bs.getD 0 0))

/-! ### Stop of the Ridge (R162, R254) -/

/-- Core k locks up, in the bank in use (R244).  A lockup of the Ridge is dealt with by `lockup`. Log entry 73, DEDUCED. -/
def State.lockCore (s : State) (k : Nat) : State :=
  let s1 := s.updCore k (fun c => { c with state := .locked, rpt := false, waitd := false, pre := none, wdPend := false })
  if k = 64 then s1
  else (s1.updReg (.lockupSrc (k / 32)) (fun v => setBit v (k % 32) true)).raise (128 + 2 * k + 1)

/-- EXC_VEC, EXC_DETAIL and EXC_ADDR (R242). -/
def Core.setExc (c : Core) (v detail addr : Nat) : Core :=
  { c with excVec := v, excDetail := BitVec.ofNat 8 detail, excAddr := BitVec.ofNat 16 addr }

/-- Steps 1 to 5 of exception entry at core k for vector v with a saved PC: SPC, SST, TAG, the shadow bank with GM = 1, and the
entry at VB + 2v; a fault of the vector read locks the core up (R242, R244), and so does vector 5 of a watchdog that expired inside
the run that ends here, since GM = 1 (R244, R246).  Answers whether it locked up. Log entry 72, DEDUCED. Log entry 139, DEDUCED. -/
def State.enter (s : State) (k v saved : Nat) : State × Bool :=
  let s1 := (s.updCore k (fun c =>
    { c with spc := BitVec.ofNat 16 saved, sst := c.st, tag := c.kept, shadow := true, st := setBit c.st 7 true,
             state := .run, rpt := false, waitd := false, pre := none })).spend k 5
  match s1.readData2 k (((s.core k).vb.toNat + 2 * v) % 65536) with
  | (s2, .inl _) => (s2.lockCore k, true)
  | (s2, .inr a) => if (s.core k).wdPend then (s2.lockCore k, true) else (s2.updCore k (fun c => { c with pc := a }), false)

/-- An exception of core k without the stop of the Ridge: entry, or lockup while GM = 1 (R242, R244).  Vector 0 to 6 write the
EXC registers. -/
def State.except (s : State) (k v saved detail addr : Nat) : State × Bool :=
  if (s.core k).gm then (s.lockCore k, true)
  else (if v < 16 then s.updCore k (fun c => c.setExc v detail addr) else s).enter k v saved

/-- A CALLING Shingle resumes with vector 6 and a status (R252, R254).  No address faulted: EXC_ADDR takes a free value. -/
def State.callError (s : State) (k status : Nat) : State :=
  let f := s.freeNext
  let s1 := f.1.updCore k (fun c => { c with state := .run })
  (s1.except k 6 (s1.core k).pc.toNat status f.2).1

/-- The Shingles in CALLING. -/
def State.callers (s : State) : List Nat := (List.range 64).filter (fun k => decide ((s.core k).state = .calling))

/-- Every CALLING Shingle resumes with status 0xFF, and the kernel-call queue is empty (R254, R325). -/
def State.dropCalls (s : State) : State :=
  let s1 := { s with ridge := { s.ridge with kcq := [] } }
  s1.forEach s1.callers (fun s k => s.callError k 0xFF)

/-- The Ridge stops: RIDGE_DOWN, FAULT_STATUS.RIDGE, and every CALLING Shingle resumes (R162, R254). -/
def State.ridgeStop (s : State) : State := if s.ridge.stopped then s else s.ridgeDown.dropCalls

/-- What a stop of the Ridge since state `old` brings with it: every CALLING Shingle resumes (R254). -/
def State.afterStop (s old : State) : State := if s.ridge.stopped && !old.ridge.stopped then s.dropCalls else s

/-- An exception of core k (R242 to R245); a lockup of the Ridge stops the Ridge, and a stopped Ridge takes none. -/
def State.takeException (s : State) (k v saved detail addr : Nat) : State :=
  if decide (k = 64) && s.ridge.stopped then s else
  let r := s.except k v saved detail addr
  (if r.2 && decide (k = 64) then r.1.ridgeDown else r.1).afterStop s

/-- An interrupt of level p at core k (R242): vector 16 + p.  The EXC registers stay. -/
def State.takeInterrupt (s : State) (k p saved : Nat) : State := s.takeException k (16 + p) saved 0 0

/-- A saved PC at the next instruction, or at the RPT or WAITD under way: PC stands there (R235, R240, R245). -/
def State.pcOf (s : State) (k : Nat) : Nat := (s.core k).pc.toNat

/-! ### WAITD (R240) -/

/-- Cycles that WAITD can still wait: CNT decrements in each cycle, and ends the wait when it reaches 0. -/
def Core.waitLeft (c : Core) : Nat := if c.cnt = 0 then 65536 else c.cnt.toNat

/-- The boundary after a run under RPT or a WAITD at which the watchdog has expired inside it: vector 5 (R245, R246).  No address
faulted: EXC_ADDR takes a free value. -/
def State.wdBoundary (s : State) (k : Nat) : State :=
  let c := s.core k
  if c.wdPend && !c.rpt && !c.waitd then
    let f := (s.updCore k (fun c => { c with wdPend := false })).freeNext
    f.1.takeException k 5 c.pc.toNat 0 f.2
  else s

/-- WAITD of core k ends: with Z = 1 at the done edge, CNT holding what was left (a free value in its range: the spec gives no
moment), or with Z = 0 when CNT reaches 0.  Its last cycle fetches the next word. -/
def State.endWaitd (s : State) (k : Nat) (z : Bool) : State :=
  let f := s.freeNext
  let c := s.core k
  ((if z then f.1 else s).updCore k (fun c =>
    { c with waitd := false, pc := c.pc + 1, st := setBit c.st 0 z,
             cnt := if z then BitVec.ofNat 16 (f.2 % c.waitLeft) else 0 })).updCore k
    (fun x => x.prefetch (s.snapshot k ((c.pc.toNat + 1) % 65536)))

/-- The done edge of DMA channel n: every core that waits for it in WAITD goes on (R240). -/
def State.doneEdge (s : State) (n : Nat) : State :=
  s.forEach ((List.range 65).filter (fun k => (s.core k).waitd && decide (fld ((s.core k).vr 0) 3 0 = n))) (fun s k => (s.endWaitd k true).wdBoundary k)

/-- An exception during WAITD leaves CNT at what was left (R240). -/
def State.breakWaitd (s : State) (k : Nat) : State :=
  if (s.core k).waitd then
    let f := s.freeNext
    f.1.updCore k (fun c => { c with cnt := BitVec.ofNat 16 (c.waitLeft - f.2 % c.waitLeft) })
  else s

/-! ### Reset of a core (R220, R251) -/

/-- The registers of R220, with the memories and the mailbox as they stand. -/
def Core.restart (c : Core) (k : Bool) : Core :=
  let f := Core.fresh k
  { f with prog := c.prog, progBad := c.progBad, progLost := c.progLost, data := c.data, dataBad := c.dataBad, dataLost := c.dataLost,
           mbox := c.mbox, cycles := c.cycles }

/-- Core k leaves reset: registers, watchdog, empty stack, vector 0 (R220, R251, R293).  A fault of the vector read locks it
up, since GM is 1 (R243). -/
def State.leaveReset (s : State) (k : Nat) : State :=
  let w := s.wdogPeriod
  let s1 := (s.updCore k (fun c => { c.restart (decide (k = 64)) with state := .run, wdog := w })).emptyStack (coreTarget k)
  match s1.readData2 k 0 with
  | (s2, .inl _) => (if k = 64 then (s2.lockCore k).ridgeDown else s2.lockCore k).afterStop s
  | (s2, .inr a) => s2.updCore k (fun c => { c with pc := a })

/-- Core k is held in reset; it leaves the kernel-call queue (R251). -/
def State.holdCore (s : State) (k : Nat) : State :=
  let s1 := { s with ridge := { s.ridge with kcq := s.ridge.kcq.filter (· ≠ k) } }
  s1.updCore k (fun c => { c with state := .held, rpt := false, waitd := false, pre := none, wdPend := false })

/-- A write of SHG_RUN word w: bits that fall hold their cores, bits that rise start them; the start of a core whose group is
still clearing waits for the end of clearing (R251).  The core of a group without power does not start. -/
def State.writeShgRun (s : State) (w : Nat) (v : W32) : State :=
  let old := s.reg (.shgRun w)
  (s.setReg (.shgRun w) v).forEach (List.range 32) (fun s i =>
    let k := 32 * w + i
    if bit old i == bit v i then s
    else if bit v i then (if s.shingleOn k && !s.clearing (40 + k / 16) then s.leaveReset k else s)
    else s.holdCore k)

end Sys2Proof.Machine
end

