-- ==== Sys2Proof/Machine/Power.lean ====
section
/-!
DEFINITION. Machine/Power.lean: power domains (R306 to R309), clearing (R158), boot (R326 to R329), the resets (R323 to R325),
clocks, temperature, calendar and device time (R313 to R322, R338).
-/
namespace Sys2Proof.Machine

/-! ### Clearing (R158) -/

/-- The memories of a domain read zero with correct parity (R158). -/
def State.clearMemory (s : State) (d : Nat) : State :=
  if d < 32 then
    s.updCluster d (fun x => { Cluster.reset with trapTarget := x.trapTarget, newStep := x.newStep })
  else if d < 40 then
    { s with store := s.store.filter (fun e => decide (storeBank e.1 ≠ d - 32)),
             storeBad := s.storeBad.filter (fun a => decide (storeBank a ≠ d - 32)) }
  else if d < 44 then
    s.forEach (List.range 16) (fun s i => s.updCore (16 * (d - 40) + i) (fun c =>
      { c with prog := [], progBad := [], data := [], dataBad := [], mbox := [] }))
  else if d = 48 then
    { s.updCore 64 (fun c => { c with prog := [], progBad := [], progLost := [], data := [], dataBad := [], dataLost := [] }) with
      ridge := { s.ridge with logs := 0 } }
  else s

/-! ### Held BAR4 accesses (R158, R266) -/

/-- The part of a BAR4 range in store block `b` of 4 KiB. -/
def blockPart (off len b : Nat) : Nat × Nat :=
  let lo := Nat.max off (4096 * b)
  (lo, Nat.min (off + len) (4096 * (b + 1)) - lo)

/-- The blocks of 4 KiB that a range meets. -/
def blocksOf (off len : Nat) : List Nat := (List.range (len / 4096 + 2)).filterMap (fun i =>
  if 4096 * (off / 4096 + i) < off + len then some (off / 4096 + i) else none)

/-- A Completer Abort for a BAR4 request, which AER logs (R266, R284, R302). -/
def State.barAbort (s : State) : State := (s.emit .bar4Abort).aer aerAbort

/-- A BAR4 write: each store bank takes its part or gives an error response (R302). -/
def State.barWrite (s : State) (off : Nat) (bs : List Byte) : State :=
  let r := (blocksOf off bs.length).foldl (fun (x : State × Bool) b =>
    let p := blockPart off bs.length b
    let y := x.1.busWrite 0 p.1 ((bs.drop (p.1 - off)).take p.2)
    (y.1, x.2 && y.2)) (s, true)
  if r.2 then r.1 else r.1.barAbort

/-- A BAR4 read: Completer Abort where a bank has no power, a poisoned completion that AER logs for a byte in uncorrectable
error (R156, R302). -/
def State.barRead (s : State) (off len : Nat) : State :=
  if !s.storeOn off len then (s.decodeError (0x100000000 + off) 0 false).barAbort
  else
    let bs := s.storeRead off len
    match s.storeBadAt off len with
    | some a => ((s.storeError a).emit (.bar4Data bs true)).aer aerPoisoned
    | none => s.emit (.bar4Data bs false)

/-- A BAR4 access, held while the store clears. -/
def State.barAccess (s : State) (off len : Nat) (data : Option (List Byte)) : State :=
  if s.storeClearing then { s with heldBar := s.heldBar ++ [(off, len, data)] }
  else match data with
    | some bs => s.barWrite off bs
    | none => s.barRead off len

/-- The accesses held during the clearing of the store are made. -/
def State.releaseBar (s : State) : State :=
  ({ s with heldBar := [] }).forEach s.heldBar (fun s x => s.barAccess x.1 x.2.1 x.2.2)

/-! ### Domains (R307 to R309) -/

/-- STATE of a domain. -/
def State.setDomSt (s : State) (d : Nat) (st : DomSt) : State := s.updDom d (fun x => { x with st := st })

/-- A domain starts to power up. -/
def State.powerUp (s : State) (d : Nat) : State := s.setDomSt d .ramp

/-- The lanes of field port group k. -/
def groupLanes (k : Nat) : List Nat := (List.range 8).map (8 * k + ·)

/-- The lanes of a field port group lose their PCS with its power: no link until they acquire block lock again (R218, R308, R309). -/
def State.lanesDown (s : State) (k : Nat) : State :=
  s.forEach (groupLanes k) (fun t l => State.linkEvent s l (t.updLane l Lane.pcsOff))

/-- A cluster has an instance or a replay in stage-in, run or commit. -/
def State.clusterBusy (s : State) (c : Nat) : Bool := decide ((s.cluster c).phase ≠ .idle)

/-- A domain starts to power down (R309): a Shingle group's cores stop at once, and a field port group's lanes send nothing more. -/
def State.powerDown (s : State) (d : Nat) : State :=
  let s1 := if 44 ≤ d ∧ d < 46 then (s.lanesDown (d - 44)).setDomSt d .drain else s.setDomSt d .drain
  if 40 ≤ d ∧ d < 44 then
    s1.forEach (List.range 16) (fun s i => (s.holdCore (16 * (d - 40) + i)).emptyStack (coreTarget (16 * (d - 40) + i)))
  else s1

/-- The state of a domain is settled. -/
def DomSt.settled (x : DomSt) : Bool := decide (x = .on) || decide (x = .off)

/-- POWER_SETs that wait for a settled domain act in order: one that names the state it has completes, and HOME_LOST tasklets
are tried after a cluster has come on (R111, R307). -/
def State.settle (s : State) (d : Nat) : Nat → State
  | 0 => s
  | n + 1 =>
    match (s.dom d).cmds with
    | [] => s
    | (q, on) :: t =>
      if !(s.dom d).st.settled then s
      else if decide ((s.dom d).st = .on) = on then
        (((s.updDom d (fun x => { x with cmds := t })).finishWaiting q 0x17 .success 0)).settle d n
      else if on then s.powerUp d else s.powerDown d

/-- Settle a domain, with the tries for HOME_LOST tasklets. -/
def State.settled (s : State) (d : Nat) : State :=
  let s1 := s.settle d (s.dom d).cmds.length
  if decide (d < 32) && s1.isOn d then s1.retryHomes else s1

/-! ### Boot (R326 to R329) -/

/-- STATE of BOOT_STATUS. -/
def State.bootState (s : State) (v : Nat) : State := s.updReg .bootStatus (fun x => setFld x 7 0 v)

/-- The kernel runs, and finds the store clear and the queue engine out of service: it puts it in service (R268, R329).
Log entry 134, DESIGN CHOICE. -/
def State.tryReady (s : State) : State :=
  if decide (s.misc.boot = .done) && !s.storeClearing && s.isOn 47 && !s.ridge.stopped && !s.ridge.clearing &&
     !bit (s.reg .qeStatus) 0 then
    (s.bootState 0).updReg .qeStatus (fun v => setBit v 0 true)
  else s

/-- The ROM waits for the host once the store is clear (R326, R329): in mode 0b00, and once this boot has fallen back. -/
def State.hostMode (s : State) : Bool := decide (s.misc.mode = 0) || s.misc.fellBack

/-- HOST_WAIT, when the ROM looks for a host image and the store is clear. -/
def State.tryHostWait (s : State) : State :=
  if decide (s.misc.boot = .load) && s.hostMode && !s.storeClearing && decide (fld (s.reg .bootStatus) 7 0 ≠ 3) then s.bootState 2
  else s

/-- The Ridge memories are clear (R325, R329): the cores leave reset and the ROM runs.  At boot the control domain and the
store banks switch on, and a loss of the calendar is reported (R318). -/
def State.ridgeClear (s : State) : State :=
  let m := s.misc
  let s1 := { s with ridge := { s.ridge with clearing := false, stopped := false }, misc := { m with boot := .load } }
  let s2 := ((s1.setClearing 48 false).leaveReset 64).bootState 1
  if (s2.dom 47).st = .off then
    let s3 := ({ s2 with misc := { s2.misc with calLost := false } }).raiseIf m.calLost 481
    s3.forEach ([47] ++ (List.range 8).map (32 + ·)) State.powerUp
  else s2.tryHostWait

/-- CRC-32C of bytes, one bit at a time (R257). -/
def crc32cBit (c : W32) : W32 := if c.getLsbD 0 then (c >>> 1) ^^^ 0x82F63B78 else c >>> 1

/-- CRC-32C, one byte. -/
def crc32cByte (c : W32) (b : Byte) : W32 :=
  let x := c ^^^ b.setWidth 32
  crc32cBit (crc32cBit (crc32cBit (crc32cBit (crc32cBit (crc32cBit (crc32cBit (crc32cBit x)))))))

/-- CRC-32C: reflected, initial value and final XOR all ones. -/
def crc32c (bs : List Byte) : W32 := ~~~(bs.foldl crc32cByte 0xFFFFFFFF)

/-- The fields of a boot header that say how flash is read (R327). -/
def bootFlashOk (h : List Byte) : Bool :=
  decide (leAt h 6 1 % 4 ≠ 3 ∧ leAt h 6 1 < 8 ∧ leAt h 8 1 ≤ 15 ∧ leAt h 9 1 ≤ 15)

/-- A boot header meets R327; IO, DUMMY and DIV are ignored in store boot. -/
def bootHeaderOk (host : Bool) (h : List Byte) : Bool :=
  let words := leAt h 16 4
  let entry := leAt h 10 2
  (host || bootFlashOk h) && decide (leAt h 0 4 = 0x54464B31 ∧ leAt h 4 2 = 1) &&
    decide (1 ≤ words ∧ words ≤ 24576 ∧ 0x2000 ≤ entry ∧ entry < 0x2000 + words ∧ leAt h 24 4 = 0) &&
    decide (leAt h 28 4 = (crc32c (h.take 28)).toNat)

/-- The halfwords of a program image. -/
def imageWords : Nat → List Byte → List Nat
  | 0, _ => []
  | n + 1, bs => leAt bs 0 2 :: imageWords n (bs.drop 2)

/-- A kernel of `n` halfwords with an expected CRC is whole (R327). -/
def kernelOk (n crc : Nat) (bs : List Byte) : Bool :=
  decide (bs.length = 2 * n) && (imageWords n bs).all (fun w => decide (w < 4096)) && decide ((crc32c bs).toNat = crc)

/-- Words of a program memory from an address. -/
def putWords (p : Tab W12) : Nat → List Nat → Tab W12
  | _, [] => p
  | a, w :: ws => putWords (Tab.set (fun _ => 0) p a (BitVec.ofNat 12 w)) (a + 1) ws

/-- An error stops the load (R326, R328). -/
def State.bootError (s : State) (code : Nat) : State :=
  let s1 := s.updReg .bootStatus (fun v => setFld v 15 8 code)
  if s.hostMode then s1.bootState 2
  else if s.misc.mode = 2 then
    (({ s1 with misc := { s1.misc with fellBack := true } }.updReg .bootStatus (fun v => setBit v 16 true)).bootState 1).tryHostWait
  else ({ s1 with misc := { s1.misc with boot := .stop } }).bootState code

/-- The kernel is in Ridge RAM and runs from ENTRY (R327, R329). -/
def State.kernelRuns (s : State) (entry : Nat) (ws : List Nat) (host : Bool) : State :=
  let kept (a : Nat) : Bool := decide (a < 0x2000) || decide (0x2000 + ws.length ≤ a)
  let s1 := s.updCore 64 (fun c => { c with
    prog := putWords c.prog 0x2000 ws, progBad := c.progBad.filter kept, progLost := c.progLost.filter kept,
    pc := BitVec.ofNat 16 entry, pre := none })
  let s2 := { s1 with misc := { s1.misc with boot := .done } }
  (s2.updReg .bootStatus (fun v => setBit v 17 host)).bootState 4

/-- The ROM ends a load from bytes that read back at an offset from the header. -/
def State.loadKernel (s : State) (read : State → Nat → Nat → State × Option (List Byte)) (errHeader : Nat) (host : Bool) : State :=
  match read s 0 32 with
  | (s1, none) => s1.bootError errHeader
  | (s1, some h) =>
    if !bootHeaderOk host h then s1.bootError errHeader
    else
      let n := leAt h 16 4
      match read s1 (leAt h 12 4) (2 * n) with
      | (s2, none) => s2.bootError (errHeader + 1)
      | (s2, some bs) =>
        if kernelOk n (leAt h 20 4) bs then s2.kernelRuns (leAt h 10 2) (imageWords n bs) host else s2.bootError (errHeader + 1)

/-- Bytes of a list at an offset, when it holds them all. -/
def bytesAt (l : List Byte) (off n : Nat) : Option (List Byte) :=
  if off + n ≤ l.length then some ((l.drop off).take n) else none

/-- Bytes of the store that the ROM reads: an error response, outside the store, at a bank without power or for a byte in
uncorrectable error, is a decode error of the Ridge (R156, R302). -/
def State.romStore (s : State) (off n : Nat) : State × Option (List Byte) :=
  if !s.storeOn off n then (s.decodeError (0x100000000 + off) (s.coreMaster 64) false, none)
  else match s.storeBadAt off n with
    | some a => ((s.storeError a).decodeError (0x100000000 + a) (s.coreMaster 64) false, none)
    | none => (s, some (s.storeRead off n))

/-- KERNEL_LOADED: the ROM finishes the load under BOOT_MODE (R326 to R329). -/
def State.kernelLoaded (s : State) (flash : List Byte) : State :=
  if s.misc.boot ≠ .load then s
  else if s.hostMode then
    (if fld (s.reg .bootStatus) 7 0 = 3 then
      let base := fld (s.reg .bootCtl) 24 12 * 4096
      s.loadKernel (fun s o n => s.romStore (base + o) n) 0x0A true
    else s)
  else s.loadKernel (fun s o n => (s, bytesAt flash o n)) 8 false

/-- BOOT_CTL.GO: ignored unless STATE is HOST_WAIT (R331). -/
def State.bootGo (s : State) : State := if fld (s.reg .bootStatus) 7 0 = 2 then s.bootState 3 else s

/-! ### The steps of a domain -/

/-- Boot switches on its next 4 domains; those after them follow 10 µs later (R329). Log entry 97, DEDUCED. -/
def State.bootBatch (s : State) : State :=
  let m := s.misc
  ({ s with misc := { m with toBoot := m.toBoot.drop 4, bootAt := s.clk.dt + 10000 } }).forEach
    ((m.toBoot.take 4).filter (fun d => decide ((s.dom d).st = DomSt.off))) State.powerUp

/-- The power controller at a tick of device time: while control is ON, the next domains of boot when their time has come. -/
def State.bootTick (s : State) : State :=
  if !s.misc.toBoot.isEmpty && s.isOn 47 && decide (s.misc.bootAt ≤ s.clk.dt) then s.bootBatch else s

/-- POWER_RAMP_DONE: isolation is released; a domain with memories starts clearing, another is ON (R308). -/
def State.rampDone (s : State) (d : Nat) : State :=
  if (s.dom d).st ≠ .ramp then s
  else if hasMemory d then (s.setDomSt d .clear).setClearing d true
  else
    let s1 := (s.setDomSt d .on).settled d
    if d = 47 then s1.bootBatch else s1

/-- The Shingles of a group whose RUN bit is 1 start when clearing ends (R251). -/
def State.startGroup (s : State) (g : Nat) : State :=
  s.forEach ((List.range 16).map (16 * g + ·)) (fun s k =>
    if bit (s.reg (.shgRun (k / 32))) (k % 32) then s.leaveReset k else s)

/-- Every store bank that was clearing is clear. -/
def State.banksDone (s : State) : Bool := (List.range 8).all (fun b => decide ((s.dom (32 + b)).st ≠ .clear))

/-- MEM_CLEAR_DONE: the memories of a domain are clear and it is in service (R158, R308, R323, R325, R329). -/
def State.clearDone (s : State) (d : Nat) : State :=
  if d = 48 then (if s.ridge.clearing && decide (s.misc.mode ≠ 3) && s.isOn 48 then s.ridgeClear else s)
  else if (s.dom d).st = .clear then
    let s1 := ((s.clearMemory d).setDomSt d .on)
    if 32 ≤ d ∧ d < 40 then
      (if s1.banksDone then ((s1.setClearing d false).releaseBar).tryHostWait else s1).settled d
    else
      let s2 := s1.setClearing d false
      (if 40 ≤ d ∧ d < 44 then s2.startGroup (d - 40) else s2).settled d
  else if decide (40 ≤ d) && decide (d < 44) && s.clearing d && s.isOn d then
    (s.setClearing d false).startGroup (d - 40)
  else s

/-- DRAIN_DONE: the drain has ended and the switch is open: OFF, the contents are lost (R309). -/
def State.drainDone (s : State) (d : Nat) : State :=
  if (s.dom d).st ≠ .drain then s
  else if decide (d < 32) && s.clusterBusy d then s
  else (((s.clearMemory d).setDomSt d .off).setClearing d (if 32 ≤ d ∧ d < 40 then s.storeClearing else false)).settled d

/-! ### Function-level reset (R324) -/

/-- The registers that function-level reset returns to their reset values (R73, R136, R164, R188, R219, R268). -/
def flrReg (off : Nat) : Bool :=
  (decide (0x1000 ≤ off) && decide (off < 0x2000)) ||
  (decide (0x8000 ≤ off) && decide (off < 0x8400)) ||
  (decide (0x9000 ≤ off) && decide (off < 0xA000) && decide (0x18 ≤ off % 0x100)) ||
  (decide (0xA000 ≤ off) && decide (off < 0xC000))

/-- The channels dithered on a line: those of running correlator slots and of stops not yet acknowledged. -/
def State.dithered (s : State) (a : Nat) : List (Nat × Nat) :=
  let on := (s.calRec.filter (fun e => decide (e.1 % 8 = 0) && bit e.2 31)).map (fun e => (s.calPart (e.1 / 8), s.calChan (e.1 / 8)))
  ((on ++ s.stoppedD.map (fun (x : Stopped) => (x.p, x.ch))).eraseDups).filter (fun x => decide (s.pLine x.1 = a))

/-- A running line under function-level reset: it sends one last OUT set with the DITHER_STOPs, and places no in-frame. -/
def State.lastSetOf (s : State) (a : Nat) : State :=
  let d := s.lane a
  let s1 := s.setLane a { d with run := false, starter := none, stoppers := [], stopping := false, lastSet := true, outSet := [],
                                 ofDone := false, latePub := [], accq := [], arr := [], msgs := [], posted := [] }
  s1.forEach (s.dithered a) (fun s x => s.postMsg x.1 3 (leBytes 1 x.2 ++ [0] ++ leBytes 2 (d.nextCyc % 2 ^ 16)) (.dstop x.2))

/-- The pages of a cluster that are no longer named: all but IMAGE pages. -/
def Cluster.forget (x : Cluster) : Cluster :=
  { x.stopWork with frames := x.frames.map (fun e =>
      match e.2.page with
      | some (.image _ _) => e
      | _ => (e.1, { e.2 with page := none, ok := false })) }

/-- Every scrubber class at the start of a lap that starts now (R160). -/
def State.freshScrubs (s : State) : Tab Scrub :=
  (List.range 8).foldl (fun t k => Tab.set (fun _ => Scrub.reset) t k { Scrub.reset with since := s.clk.dt }) []

/-- Function-level reset (R324).  QE_STATUS.READY is 0 until the kernel puts the queue engine in service again (R268). Log entry 98,
DEDUCED. -/
def State.flr (s : State) : State :=
  let ports := (List.range 16).filter (fun l => (s.lane l).run && decide (s.portA l = l))
  let s1 := s.forEach ports State.lastSetOf
  let s2 := s1.forEach ((List.range 16).filter (fun l => !ports.contains l)) (fun s l => s.updLane l (fun d => { d.halt with msgs := [], posted := [] }))
  let recs := s2.recs.map (fun e => if e.1 % 64 = 56 then (e.1, setBit e.2 31 false) else e)
  let s3 : State :=
    { s2 with
      recs := recs.filter (fun e => decide (e.2 ≠ 0)), tasks := [], jobs := [], hostPins := [], inSlots := [], outSlots := [],
      intSlots := [], alloc := [], calRec := [], cal := [], stoppedD := [], gens := [], genNum := 0, baseline := 0, baseDir := [],
      baseMem := [], genOrder := 0, sqs := [], cqs := [], scrubs := s2.freshScrubs,
      engine := { last := 63, heldC := [], heldE := [], dropped := 0, ovf := false, order := [] } }
  let s4 := s3.forEach (List.range 32) (fun s c => s.updCluster c Cluster.forget)
  let s5 := s4.forEach (List.range 50) (fun s d => s.updDom d (fun x => { x with cmds := x.cmds.map (fun e => (64, e.2)) }))
  (s5.resetRegs flrReg).forEach ((List.range 64).map (65 + ·)) State.emptyStack

/-- The configuration space, the MSI-X table and the PBA take their reset values; a function that was in D3hot enters D0 (R284). -/
def State.pcieReset (s : State) (up : Bool) : State :=
  let p := { State.reset.pcie with up := up && s.pcie.up, speed := s.pcie.speed, width := s.pcie.width }
  (({ s with pcie := p }).resetRegs (fun off => decide (0x10000 ≤ off))).raiseIf s.pcie.d3 454

/-- FUNCTION_LEVEL_RESET (R324); the function's own configuration is reset as PCI Express has it (log entry 13). -/
def execFunctionLevelReset (s : State) : Answer := .next (if s.hostHears then s.flr.pcieReset true else s)

/-- PERST_N or a hot reset (R323): the link goes down with the PCIe block. -/
def execPerstN (s : State) : Answer := .next (if s.hostHears then (s.flr.pcieReset false).raiseIf s.pcie.up 452 else s)

/-- The device with every domain but the backup domain in its reset state: the pins, the free values and the trace go on. -/
def State.heldReset (s : State) : State :=
  let r := State.reset
  let s1 : State := { r with pending := s.pending, free := s.free, out := s.out, cald := s.cald,
                             regs := s.regs.filter (fun e => decide (0x7020 ≤ e.1) && decide (e.1 < 0x7100)),
                             misc := { r.misc with jtag := s.misc.jtag, calLost := s.misc.calLost },
                             clk := { r.clk with sysclk := s.clk.sysclk } }
  s1.forEach (List.range 16) (fun t l => t.updLane l (fun d => { d with gpio := (s.lane l).gpio }))

/-- Device time as the calendar seeds it (R319). -/
def State.seedTime (s : State) : Nat := (s.cald.sec * 1000000000 + s.cald.sub * 1000000000 / 32768) % 2 ^ 64

/-- The device as PORST_N rises: device time is seeded from the calendar (R319), and boot begins under BOOT_MODE (R326, R329). -/
def State.powerOn (s : State) (mode : Nat) : State :=
  let s1 := s.heldReset
  let s2 := { s1 with clk := { s1.clk with dt := s.seedTime, hi := BitVec.ofNat 32 (s.seedTime / 2 ^ 32) } }
  let s3 := { s2 with scrubs := s2.freshScrubs, misc := { s2.misc with mode := mode } }
  if mode = 3 then ({ s3 with misc := { s3.misc with boot := .stop, clearing := [], toBoot := [] } }).bootState 0x0F else s3

/-- PORST_N (R318, R319, R323, R329): every domain but the backup domain returns to its reset state, and boot begins; while JTAG has
disconnected the balls, the pin is not seen (R348). Log entry 99, DEDUCED. -/
def execPorstN (mode : BitVec 2) (s : State) : Answer := .next (if s.ballsOff then s else s.powerOn mode.toNat)

/-! ### Soft resets (R323, R325) -/

/-- SOFT_RST.RIDGE. -/
def State.softRidge (s : State) : State :=
  if s.misc.mode = 3 then s else
  let s1 := { s with ridge := { s.ridge with clearing := true, kcCall := 0, kcTarget := 0, sa := 0, logs := 0 },
                     misc := { s.misc with boot := .ridgeClear, fellBack := false } }
  let s2 := ((s1.updCore 64 (fun _ => Core.fresh true)).setReg .ridgeCtl Reg.ridgeCtl.reset).setClearing 48 true
  ((s2.dropCalls).emptyStack 0).bootState 1

/-- SOFT_RST.SHINGLE[g]. -/
def State.softShingle (s : State) (g : Nat) : State :=
  let ks := (List.range 16).map (16 * g + ·)
  let s1 := s.forEach ks (fun s k =>
    (((s.holdCore k).updReg (.shgRun (k / 32)) (fun v => setBit v (k % 32) false)).updReg (.lockupSrc (k / 32))
      (fun v => setBit v (k % 32) false)).emptyStack (coreTarget k))
  let s2 := s1.clearMemory (40 + g)
  if s.isOn (40 + g) then s2.setClearing (40 + g) true else s2

/-- A line of field port group k runs. -/
def State.groupRuns (s : State) (k : Nat) : Bool := (groupLanes k).any s.runs

/-- A lane whose PCS and frame engine have been reset: the record, the pins and the line Shingles' messages stay. -/
def Lane.resetLane (d : Lane) : Lane :=
  { Lane.reset with hasRec := d.hasRec, gpio := d.gpio, signal := d.signal, msgs := d.msgs, posted := d.posted }

/-- SOFT_RST.FIELD[k]. -/
def State.softField (s : State) (k : Nat) : State :=
  if s.groupRuns k then s
  else
    let s1 := s.forEach (groupLanes k) (fun s l => State.linkEvent s l (s.updLane l Lane.resetLane))
    s1.resetRegs (fun off => decide (0x9000 + 0x800 * k ≤ off) && decide (off < 0x9800 + 0x800 * k) && decide (0x18 ≤ off % 0x100))

/-- SOFT_RST_RIDGE (R325). -/
def execSoftRstRidge (s : State) : Answer := .next s.softRidge

/-- SOFT_RST_SHINGLE (R323). -/
def execSoftRstShingle (g : Fin 4) (s : State) : Answer := .next (s.softShingle g)

/-- SOFT_RST_FIELD (R323). -/
def execSoftRstField (g : Fin 2) (s : State) : Answer := .next (s.softField g)

/-! ### Commands of boot and power -/

/-- KERNEL_LOADED (R326 to R329); `flash`: what the ROM reads from flash offset 0. -/
def execKernelLoaded (flash : List Byte) (s : State) : Answer := .next (s.kernelLoaded flash)

/-- POWER_RAMP_DONE (R308). -/
def execPowerRampDone (d : Fin 50) (s : State) : Answer := .next (s.rampDone d)

/-- MEM_CLEAR_DONE (R158, R308). -/
def execMemClearDone (d : Fin 50) (s : State) : Answer := .next (s.clearDone d)

/-- DRAIN_DONE (R309). -/
def execDrainDone (d : Fin 50) (s : State) : Answer := .next (s.drainDone d)

/-! ### Clock steps (R313) -/

/-- Cluster c, and its partner if it runs a Checked instance, has no instance in stage-in, run or commit. -/
def State.stepIdle (s : State) (c : Nat) : Bool :=
  !s.clusterBusy c && !(s.jobs.any (fun j => j.active && j.checked && j.clusters.contains c))

/-- The CLOCK_SETs whose clusters have all changed complete, and HOME_LOST tasklets are tried (R111, R313). -/
def State.checkClocks (s : State) : State :=
  s.forEach (List.range 64) (fun s q =>
    match (s.sq q).cmd with
    | some c =>
      if s.waits q 0x16 && (List.range 32).all (fun k => !nbit c.d.p1 k || (s.cluster k).newStep.isNone) then
        (s.finish q .success 0).retryHomes
      else s
    | none => s)

/-- CLOCK_CHANGE: an idle cluster takes the step that CLOCK_SET named (R313). -/
def execClockChange (c : Fin 32) (s : State) : Answer :=
  .next (match (s.cluster c).newStep with
    | some st =>
      if s.stepIdle c then
        ((s.updCluster c (fun x => { x with newStep := none })).updDom c (fun d => { d with step := st })).checkClocks
      else s
    | none => s)

/-! ### Temperature (R314, R315) -/

/-- A threshold reached: raised once, again after a fall of 5 °C. -/
def reached (t th : Int) (armed : Bool) : Bool × Bool :=
  (armed && decide (th ≤ t), if th ≤ t then false else armed || decide (t ≤ th - 20))

/-- A temperature is read while the always-on domain has power (R314). -/
def State.thermSample (s : State) (t : BitVec 12) : State :=
  if !s.isOn 48 then s else
  let old := s.reg .thermStatus
  let peak : BitVec 12 := BitVec.ofNat 12 (fld old 27 16)
  let top := if !s.misc.hot || decide (peak.toInt < t.toInt) then t else peak
  let w := reached t.toInt (snat 12 (fld (s.reg .thermCtl) 11 0)) s.misc.warnArmed
  let c := reached t.toInt (snat 12 (fld (s.reg .thermCtl) 27 16)) s.misc.critArmed
  let s1 := { s with misc := { s.misc with hot := true, warnArmed := w.2, critArmed := c.2 } }
  ((s1.setReg .thermStatus (BitVec.ofNat 32 (top.toNat * 65536 + t.toNat))).raiseIf w.1 464).raiseIf c.1 465

/-- THERM_SAMPLE (R314). Log entry 102, DEDUCED. -/
def execThermSample (t : BitVec 12) (s : State) : Answer := .next (s.thermSample t)

/-- THERMTRIP (R315): latched until PORST_N or the removal of VDD_AON, and raised where the always-on domain can deliver it. -/
def execThermtrip (s : State) : Answer := .next (({ s with misc := { s.misc with trip := true } }).raiseIf (s.isOn 48) 466)

/-- THERMTRIP_N is low. -/
def State.thermtripN (s : State) : Bool := !s.misc.trip

/-! ### Calendar (R316 to R318) -/

/-- The end of the calendar's range. -/
def calEnd : Nat := 6311433600

/-- The count has taken a new value: RANGE, and the alarm when it equals CAL_ALARM (R316, R317). -/
def State.calMoved (s : State) : State :=
  let c := s.cald
  let alarm := (s.reg .calAlarmLo).toNat + 2 ^ 32 * fld (s.reg .calAlarmHi) 0 0
  let s1 := { s with cald := { c with range := decide (calEnd ≤ c.sec) } }
  if bit (s.reg .calStatus) 3 && decide (c.sec = alarm) then (s1.updReg .calStatus (fun v => setBit v 2 true)).raise 480 else s1

/-- CAL_TRIM in steps, clamped. -/
def State.calTrim (s : State) : Int := clampInt (-10000) 10000 (snat 16 (s.reg .calTrim).toNat)

/-- Ticks that one crystal tick adds, with the accumulated trim after it: 20,000,000 steps of 0.05 ppm make a tick (R316). -/
def trimTick (acc trim : Int) : Nat × Int :=
  let a := acc + trim
  if 20000000 ≤ a then (2, a - 20000000) else if a ≤ -20000000 then (0, a + 20000000) else (1, a)

/-- CAL_TICK (R316, R317). -/
def execCalTick (s : State) : Answer :=
  let c := s.cald
  if calEnd ≤ c.sec then .next s
  else
    let t := trimTick c.trimAcc s.calTrim
    let n := c.sub + t.1
    let c1 := { c with sub := if n < 32768 then n else if c.sec + 1 = calEnd then 0 else n - 32768, trimAcc := t.2,
                       sec := if n < 32768 then c.sec else c.sec + 1 }
    let s1 := { s with cald := c1 }
    .next (if n < 32768 then s1 else s1.calMoved)

/-- A write of CAL_SEC_HI commits both halves (R317). -/
def State.calCommit (s : State) (v : W32) : State :=
  let c := s.cald
  ({ s with cald := { c with sec := c.lo.toNat + 2 ^ 32 * (v.toNat % 2), sub := 0 } }).calMoved

/-- CAL_SEC_HI (R317). -/
def execCalSecHi (v : W32) (s : State) : Answer := .next (s.calCommit v)

/-- BACKUP_LOSS (R318): every backup register takes its reset value, LOST = 1. -/
def execBackupLoss (s : State) : Answer :=
  let s1 := { s with cald := State.reset.cald, misc := { s.misc with calLost := true } }
  .next (s1.resetRegs (fun off => decide (0x7020 ≤ off) && decide (off < 0x7100)))

/-! ### Device time (R320 to R322, R338) -/

/-- Offset of a time from the nearest whole second, −5·10^8 < e ≤ 5·10^8 (R321). -/
def ppsError (cap : Nat) : Int :=
  let r := cap % 1000000000
  if r ≤ 500000000 then r else (r : Int) - 1000000000

/-- An edge is accepted: the first one, or 0.999 s to 1.001 s after the last (R321). -/
def edgeOk (last : Option Nat) (cap : Nat) : Bool :=
  match last with
  | none => true
  | some e => decide (e + 999000000 ≤ cap) && decide (cap ≤ e + 1001000000)

/-- The servo of R321 at an accepted edge. -/
def State.ppsServo (s : State) (cap : Nat) : State :=
  let e := ppsError cap
  let k := s.clk
  let rate := clampInt (-500000) 500000 (k.rate - Int.tdiv e 8)
  let k1 := if k.stepped then { k with slew := 0, edge := some cap, stepped := false }
    else { k with rate := rate, slew := clampInt (-500000) 500000 (-e), edge := some cap, stepped := false }
  let s1 := ({ s with clk := k1 }).updReg .ppsStatus (fun v => setFld v 23 0 (BitVec.ofInt 24 (clampInt (-8388607) 8388607 e)).toNat)
  let lim := fld (s.reg .dtCtl) 19 0
  (s1.raise 482).raiseIf (decide (lim ≠ 0) && decide (lim < e.natAbs)) 484

/-- PPS_IN: a rising edge, timestamped against DT (R321). -/
def execPpsIn (s : State) : Answer :=
  .next (if !bit (s.reg .dtCtl) 31 || s.ballsOff || !s.isOn 48 then s
  else if edgeOk s.clk.edge s.clk.dt then s.ppsServo s.clk.dt
  else s.updReg .ppsStatus (fun v => setFld v 31 24 (Nat.min 255 (fld v 31 24 + 1))))

/-- PPS_LOST: 1.5 s of DT without an accepted edge (R321). -/
def execPpsLost (s : State) : Answer :=
  .next (if bit (s.reg .dtCtl) 31 && s.timeRuns then ({ s with clk := { s.clk with slew := 0, edge := none } }).raise 483 else s)

/-- PPS_OUT: DT has counted through a whole second, or 100 ms have passed since (R322); neither happens while it stands still. -/
def execPpsOut (high : Bool) (s : State) : Answer :=
  .next (if s.timeRuns then { s with clk := { s.clk with ppsOut := high && bit (s.reg .dtCtl) 30 } } else s)

/-- SYSCLK_LOSS (R338): device time stops. -/
def execSysclkLoss (s : State) : Answer := .next ({ s with clk := { s.clk with sysclk := false } })

/-- SYSCLK_RETURN (R338): device time goes on from where it stopped. -/
def execSysclkReturn (s : State) : Answer := .next ({ s with clk := { s.clk with sysclk := true } })

/-- The device without VDD_AON (R316, R340, R341): the always-on domain has no power, the outputs stay in their reset states until
PORST_N rises, and the backup domain runs on VBAT.  Log entry 135, DEDUCED. -/
def State.aonOff (s : State) : State :=
  let t := s.heldReset
  let t1 := { t with misc := { t.misc with mode := 3, boot := .stop, clearing := [], toBoot := [], onVbat := true, jtag := 1 } }
  (t1.setDomSt 46 .off).setDomSt 48 .off

/-- VDD_AON_LOSS (R315, R316, R340): the THERMTRIP_N latch is released too. -/
def execVddAonLoss (s : State) : Answer := .next s.aonOff

/-- The JTAG IDCODE: version ID_REV.MAJOR, part number, manufacturer identity, 1 (R348, R349). -/
def State.idcode (s : State) : Nat := fld (s.reg .idRev) 7 4 * 2 ^ 28 + 0x3216 * 2 ^ 12 + 0x2B5 * 2 + 1

/-- A JTAG instruction is in force (R348): one that disconnects the balls takes the PCIe link down.  Log entry 136, DEDUCED. -/
def State.jtagSelect (s : State) (i : Byte) : State :=
  let s1 := { s with misc := { s.misc with jtag := i } }
  if s1.ballsOff && s1.pcie.up then ({ s1 with pcie := { s1.pcie with up := false } }).raise 452 else s1

/-- JTAG_INSTRUCTION (R348): every code without an instruction selects BYPASS; a reset of the TAP, on TRST_N or through TMS, selects
IDCODE, code 1. -/
def execJtagInstruction (code : Byte) (s : State) : Answer := .next (s.jtagSelect (if code.toNat ≤ 6 then code else 0xFF))

end Sys2Proof.Machine
end

