-- ==== Sys2Proof/WellFormed.lean ====
section
/-!
DEFINITION. WellFormed.lean: which commands can be sent at all: the ranges of the operands that their types do not bound.
-/
namespace Sys2Proof

open Sys2Proof.Machine

/-- The offsets of BAR0: 256 KiB of 32-bit registers (R263, R299). -/
def regOffsetOk (off : Nat) : Bool := decide (off % 4 = 0) && decide (off < 0x40000)

/-- An access of 1 to 4,096 bytes inside the 32 MiB of BAR4 (R263). -/
def bar4Ok (off len : Nat) : Bool := decide (1 ≤ len) && decide (len ≤ 4096) && decide (off + len ≤ 0x2000000)

/-- An atomic access: 1 to 8 bytes within one aligned 8-byte word of the alias (R303). -/
def aliasOk (off len : Nat) : Bool :=
  decide (1 ≤ len) && decide (off % 8 + len ≤ 8) && decide (off + len ≤ 0x2000000)

/-- The well-formed commands. -/
def Instr.wf : Instr → Bool
  | .registerWrite off _ _ => regOffsetOk off
  | .bar4Access off len data =>
    bar4Ok off len && (match data with | none => true | some bs => decide (bs.length = len))
  | .fetchAdd m off len => masterId m.toNat && aliasOk off len
  | .compareSwap m off len => masterId m.toNat && aliasOk off len
  | .dmaStart _ m => masterId m.toNat
  | .sourceEdge i => edgeSource i.val
  | .inFrameArrival _ bytes _ first last =>
    decide (bytes.length ≤ 9600) && decide (first ≤ last)
  | .dmaAbort _ moved => decide (moved < 2 ^ 25)
  | .readCompletion _ data _ => decide (data.length ≤ 4096)
  | .returnedFrame _ _ delay => decide (delay < 2 ^ 32)
  | .peerDelayGeneration _ a => decide (a.elapsed < 2 ^ 32) && decide (a.turn ≤ a.elapsed)
  | .ptpMessage _ (.delayResp turn) => decide (turn < 2 ^ 32)
  | .link _ _ _ _ _ errored => decide (errored < 2 ^ 32)
  | _ => true

end Sys2Proof
end

