-- ==== Sys2Proof/Machine/RegWrite.lean ====
section
/-!
DEFINITION. Machine/RegWrite.lean: what a write of a BAR0 register does: its fields by their access codes (R3), and the effect that
a register's own rule gives.
-/
namespace Sys2Proof.Machine

/-! ### Queues (R268) -/

/-- A write of QUEUE_CTL with new field values `nv` (R268). -/
def Sq.writeCtl (x : Sq) (nv : W32) : Sq :=
  let size := if x.run || x.seg.isSome then x.size else fld nv 30 18
  let run := if bit nv 0 then x.run || decide (2 ≤ size) else false
  { x with size := size, hop := fld nv 17 8, cq := if x.run then x.cq else fld nv 7 2, run := run }

/-- A write of SQ_BASE: ignored while RUN or ACTIVE; the low half sets HEAD and TAIL to 0 and removes the resume point
(R268, R274). -/
def Sq.writeBase (x : Sq) (hi : Bool) (nv : W32) : Sq :=
  if x.run || x.seg.isSome then x
  else if hi then { x with base := nv ++ (x.base.setWidth 32 : W32) }
  else { x with base := (x.base >>> 32).setWidth 32 ++ nv, head := 0, tail := 0, point := none }

/-- A write of CQ_CFG or EVQ_CFG (R268). -/
def Cq.writeCfg (c : Cq) (nv : W32) : Cq :=
  let size := if c.en then c.size else fld nv 12 0
  let en := if bit nv 31 then c.en || decide (2 ≤ size) else false
  let c1 := { c with size := size, en := en, ien := bit nv 22, vec := fld nv 21 16 }
  if en && !c.en then { c1 with tail := 0, head := 0, phase := true } else c1

/-- A write of a CQ or EVQ base: ignored while ENABLE = 1. -/
def Cq.writeBase (c : Cq) (hi : Bool) (nv : W32) : Cq :=
  if c.en then c
  else if hi then { c with base := nv ++ (c.base.setWidth 32 : W32) }
  else { c with base := (c.base >>> 32).setWidth 32 ++ nv }

/-- CQ_CFG of queue k, or EVQ_CFG for k = 64: setting ENABLE lets held completions be written, and ends the drop episode of the
event queue (R268, R281). -/
def State.writeCqCfg (s : State) (k : Nat) (nv : W32) : State :=
  let old := s.cq k
  let s1 := s.setCq k (old.writeCfg nv)
  if (s1.cq k).en && !old.en then
    (if k = 64 then { s1 with engine := { s1.engine with ovf := false } } else s1.cqRoom true k)
  else s1

/-! ### Dispatcher and faults (R111, R136, R147) -/

/-- A write of SPARE_MASK with new value `nv`: a cluster that homes guaranteed work keeps its bit, and clearing a bit tries the
HOME_LOST tasklets (R111, R136). -/
def State.writeSpare (s : State) (nv : W32) : State :=
  let old := s.reg .spareMask
  let new := (List.range 32).foldl (fun v c => if (s.homedOn c).isEmpty then v else setBit v c (bit old c)) nv
  let s1 := s.setReg .spareMask new
  if old &&& ~~~new = 0 then s1 else s1.retryHomes

/-- A 1 written to bits of FENCE_STATUS: the clusters return to service, their counts clear, and the HOME_LOST tasklets are
tried (R111, R147). -/
def State.writeFence (s : State) (ones : W32) : State :=
  let cs := (List.range 32).filter (bit ones)
  let s1 := (s.clrBits .fenceStatus ones).forEach cs (fun s c => s.setReg (.clusterFaults c) 0)
  if cs.isEmpty then s1 else s1.retryHomes

/-- A write of ADM_CTL: raising DENSITY_LIMIT tries the HOME_LOST tasklets (R111, R136). -/
def State.writeAdm (s : State) (nv : W32) : State :=
  let s1 := s.setReg .admCtl nv
  if s.densityLimit < s1.densityLimit then s1.retryHomes else s1

/-! ### DMA (R295, R298) -/

/-- START of channel n by master m (R295). -/
def State.dmaStart (s : State) (n m : Nat) : State :=
  let d := s.dma n
  if d.busy || bit (s.reg .dmaErrInfo) 31 then s
  else if d.cnt = 0 then ((s.setDma n { d with done := true }).raise (416 + n)).doneEdge n
  else s.setDma n { d with busy := true, done := false, stopped := false, lastIss := false, master := m }

/-- ABORT of channel n, once its issued writes have been accepted (R295). -/
def State.dmaAbort (s : State) (n : Nat) : State :=
  if (s.dma n).busy then s.updDma n (fun d => { d with busy := false, stopped := true }) else s

/-- A write of DMA_SRC, DMA_DST, DMA_COUNT or DMA_CTL: ignored while BUSY (R295). -/
def Dma.writeReg (d : Dma) (r : Reg) (nv : W32) : Dma :=
  if d.busy then d else
  match r with
  | .dmaSrcLo _ => { d with src := d.src / 2 ^ 32 * 2 ^ 32 + nv.toNat }
  | .dmaSrcHi _ => { d with src := d.src % 2 ^ 32 + nv.toNat % 256 * 2 ^ 32 }
  | .dmaDstLo _ => { d with dst := d.dst / 2 ^ 32 * 2 ^ 32 + nv.toNat }
  | .dmaDstHi _ => { d with dst := d.dst % 2 ^ 32 + nv.toNat % 256 * 2 ^ 32 }
  | .dmaCount _ => { d with cnt := nv.toNat }
  | .dmaCtl _ => { d with qos := fld nv 27 24, dstFix := bit nv 2, srcFix := bit nv 1 }
  | _ => d

/-! ### Field, time, Mordant -/

/-- The receiver of a lane that has been adapting holds the DFE value it last adapted to, which is free, and its CTLE value (R190). -/
def State.holdRx (s : State) (l : Nat) : State :=
  ({ s with free := s.free + 1 }).setReg (.fldRxeq l) (s.fldRxeq l)

/-- A write of FLD_CTL (R218, R219): a lane that stops adapts no longer. -/
def State.writeFldCtl (s : State) (l : Nat) (nv : W32) : State :=
  let s1 := (if bit nv 0 then s else s.holdRx l).setReg (.fldCtl l) nv
  State.linkEvent s l (if bit nv 0 then s1 else s1.updLane l Lane.pcsOff)

/-- A write of FLD_RXEQ with new value `nv`: CTLE keeps its value while ADAPT, as the write leaves it, is 1; with ADAPT = 0 the DFE
holds what it last adapted to (R190, R219). -/
def State.writeFldRxeq (s : State) (l : Nat) (nv : W32) : State :=
  let s1 := s.holdRx l
  s1.updReg (.fldRxeq l) (fun old =>
    if bit nv 31 then setFld (setFld nv 20 16 (fld old 20 16)) 7 0 (fld old 7 0) else setFld nv 7 0 (fld old 7 0))

/-- A write of DT_CTL: arming the servo forgets the last edge, and PPS_OUT is low while PPS_OUT_EN is 0 (R321, R322). -/
def State.writeDtCtl (s : State) (nv : W32) : State :=
  let arm := bit nv 31 && !bit (s.reg .dtCtl) 31
  let k := s.clk
  { s.setReg .dtCtl nv with clk := { k with edge := if arm then none else k.edge, ppsOut := k.ppsOut && bit nv 30 } }

/-- A write of MRD_CTL: ENABLE = 0 restarts every window (R188). -/
def State.writeMrdCtl (s : State) (nv : W32) : State :=
  let s1 := s.setReg .mrdCtl nv
  if bit nv 0 then s1 else s1.restartWindows

/-! ### The write -/

/-- The bits of a mask and a value that select numbered actions, in ascending order. -/
def onesOf (v : W32) : List Nat := (List.range 32).filter (bit v)

/-- A write of `v` under mask `m` to register r, by a master.  `nv` is the value with the RW bits replaced and the W1C bits
cleared; `act` the bits written 1.  A write of HOST_EOI that carries no bit of SOURCE is ignored (R4); one that carries one of
its two bytes ends the source whose other bits are 0, which the spec leaves open (log entry 117, DESIGN CHOICE). -/
def State.writeReg (s : State) (master : Nat) (r : Reg) (v m : W32) : State :=
  let nv := r.merge (s.regValue r) v m
  let act := v &&& m
  match r with
  | .bootCtl => let s1 := s.setReg .bootCtl nv; if bit act 0 then s1.bootGo else s1
  | .queueCtl q => s.updSq q (fun x => x.writeCtl nv)
  | .sqBaseLo q => s.updSq q (fun x => x.writeBase false nv)
  | .sqBaseHi q => s.updSq q (fun x => x.writeBase true nv)
  | .cqBaseLo q => s.updCq q (fun x => x.writeBase false nv)
  | .cqBaseHi q => s.updCq q (fun x => x.writeBase true nv)
  | .evqBaseLo => s.updCq 64 (fun x => x.writeBase false nv)
  | .evqBaseHi => s.updCq 64 (fun x => x.writeBase true nv)
  | .cqCfg q => s.writeCqCfg q nv
  | .evqCfg => s.writeCqCfg 64 nv
  | .cqMod q => s.updCq q (fun c => { c with timer := fld nv 25 16, count := fld nv 7 0 })
  | .hostEoi i => if m &&& 0x1FF = 0 then s else s.endInt (65 + i) (fld act 8 0)
  | .srcCfg i => s.srcConfig i nv
  | .pendSet n => s.forEach (onesOf act) (fun s j => s.raise (32 * n + j))
  | .pendClr n => s.forEach (onesOf act) (fun s j => s.pendClear (32 * n + j))
  | .softRst =>
    let s1 := if bit act 0 then s.softRidge else s
    (s1.forEach ((List.range 4).filter (fun g => bit act (1 + g))) State.softShingle).forEach
      ((List.range 2).filter (fun k => bit act (5 + k))) State.softField
  | .dtCtl => s.writeDtCtl nv
  | .calSecLo => { s with cald := { s.cald with lo := Reg.merge .calSecLo s.cald.lo v m } }
  | .calSecHi => if m = 0 then s else s.calCommit (Reg.merge .calSecHi (BitVec.ofNat 32 (s.cald.sec / 2 ^ 32)) v m)
  | .fenceStatus => s.writeFence act
  | .spareMask => s.writeSpare nv
  | .admCtl => s.writeAdm nv
  | .allocBase k => if s.allocLocked k then s else s.setReg r nv
  | .allocCount k => if s.allocLocked k then s else s.setReg r nv
  | .allocCtl k => if bit act 0 then s.allocInit k else s
  | .scrubCtl k => let s1 := s.setReg r nv; if bit act 30 then s1.setReg (.scrubMax k) 0 else s1
  | .shgRun w => s.writeShgRun w nv
  | .fldCtl l => s.writeFldCtl l nv
  | .fldRxeq l => s.writeFldRxeq l (r.merge (s.reg r) v m)
  | .mrdCtl => s.writeMrdCtl nv
  | .mrdRingTail => if nv.toNat < ringSize (s.reg .mrdRingSize).toNat then s.setReg r nv else s
  | .genBuild =>
    let s1 := if bit act 31 then s.openGen else s
    if bit act 30 then s1.abandonGen else s1
  | .genBuf => if bit act 31 then s.requestGenBuf else s
  | .genSubmit => let s1 := s.setReg r nv; if bit act 31 then s1.submitGen else s1
  | .dmaSrcLo n => s.updDma n (fun d => d.writeReg r nv)
  | .dmaSrcHi n => s.updDma n (fun d => d.writeReg r nv)
  | .dmaDstLo n => s.updDma n (fun d => d.writeReg r nv)
  | .dmaDstHi n => s.updDma n (fun d => d.writeReg r nv)
  | .dmaCount n => s.updDma n (fun d => d.writeReg r nv)
  | .dmaCtl n => s.updDma n (fun d => d.writeReg r nv)
  | .dmaCmd n =>
    let s1 := if bit act 0 then s.dmaStart n master else s
    if bit act 1 then s1.dmaAbort n else s1
  | .dmaStatus n => s.updDma n (fun d => { d with done := d.done && !bit act 30, stopped := d.stopped && !bit act 29 })
  | .msixTab _ => (s.setReg r nv).flushPba
  | .faultStatus => s.clrBits .faultStatus (act &&& 7)
  | r => if r.rw = 0 ∧ r.w1c = 0 then s else s.setReg r nv

/-- A 32-bit write at an offset of BAR0 under a mask: an offset that holds no register ignores it (R266, R299). -/
def State.writeOff (s : State) (master off : Nat) (v m : W32) : State :=
  match decodeReg off with
  | some r => s.writeReg master r v m
  | none => s

/-- The mask of byte enables (R4). -/
def beMask (be : BitVec 4) : W32 :=
  BitVec.ofNat 32 (sumNat ((List.range 4).map (fun i => b2n (bit be i) * 255 * 256 ^ i)))

/-- The protected registers accept writes from the host and the Kept Ridge alone (R227). -/
def regProtOk (master off : Nat) : Bool := decide (off < 0x8400) || decide (0x9000 ≤ off) || decide (master = 0) || decide (master = 2)

/-! ### The commands -/

/-- What the host sends to BAR0, BAR2 or BAR4: in D3hot the function answers Unsupported Request (R264); nothing arrives while
the balls are disconnected (R348) or the PCIe block has no power.  Log entry 100, DEDUCED. -/
def State.fromHost (s : State) (g : State → State) : State :=
  if !s.hostHears then s else if s.pcie.d3 then (s.emit .unsupported).aer aerUnsupported else g s

/-- REGISTER_WRITE: a write of BAR0 by the host (R3, R266). -/
def execRegisterWrite (off : Nat) (v : W32) (be : BitVec 4) (s : State) : Answer :=
  .next (s.fromHost (fun s => s.writeOff 0 (off / 4 * 4) v (beMask be)))

/-- SPARE_MASK (R111, R136). -/
def execSpareMask (v : W32) (s : State) : Answer := .next (s.fromHost (fun s => s.writeReg 0 .spareMask v (BitVec.allOnes 32)))

/-- FENCE_STATUS (R147). -/
def execFenceStatus (v : W32) (s : State) : Answer := .next (s.fromHost (fun s => s.writeReg 0 .fenceStatus v (BitVec.allOnes 32)))

/-- ADM_CTL (R111, R136). -/
def execAdmCtl (v : W32) (s : State) : Answer := .next (s.fromHost (fun s => s.writeReg 0 .admCtl v (BitVec.allOnes 32)))

/-- QUEUE_CTL (R268). -/
def execQueueCtl (q : Fin 64) (v : W32) (s : State) : Answer := .next (s.fromHost (fun s => s.writeReg 0 (.queueCtl q) v (BitVec.allOnes 32)))

/-- SQ_BASE_LO (R268). -/
def execSqBaseLo (q : Fin 64) (v : W32) (s : State) : Answer := .next (s.fromHost (fun s => s.writeReg 0 (.sqBaseLo q) v (BitVec.allOnes 32)))

/-- CQ_CFG of a completion queue, or EVQ_CFG (R268). -/
def execCqCfg (q : Option (Fin 64)) (v : W32) (s : State) : Answer :=
  .next (s.fromHost (fun s => match q with
    | some q => s.writeReg 0 (.cqCfg q) v (BitVec.allOnes 32)
    | none => s.writeReg 0 .evqCfg v (BitVec.allOnes 32)))

/-- HOST_EOI[v] of source i (R290). -/
def execHostEoi (v : Fin 64) (i : Fin 512) (s : State) : Answer := .next (s.fromHost (fun s => s.endInt (65 + v) i))

/-- BOOT_GO (R326, R331). -/
def execBootGo (s : State) : Answer := .next (s.fromHost State.bootGo)

/-- SHG_RUN: the RUN bit of Shingle k is written (R251). -/
def execShgRun (k : Fin 64) (run : Bool) (s : State) : Answer :=
  .next (s.writeReg 0 (.shgRun (k / 32)) (if run then BitVec.allOnes 32 else 0) (setBit 0 (k % 32) true))

/-- UNSUPPORTED_REQUEST (R266): Unsupported Request for a request that no BAR serves, a poisoned write is discarded; AER logs
both. -/
def execUnsupportedRequest (r : BadRequest) (s : State) : Answer :=
  .next (if !s.hostHears then s else match r with
    | .poisonedWrite => s.aer aerPoisoned
    | .length => (s.emit .unsupported).aer aerUnsupported
    | .ioOrLocked => (s.emit .unsupported).aer aerUnsupported)

/-- BAR4_ACCESS: a request inside the window reads or writes the store (R158, R266); one outside cannot reach the function
(R263). Log entry 3, DESIGN CHOICE. -/
def execBar4Access (off len : Nat) (data : Option (List Byte)) (s : State) : Answer :=
  if !bar4Ok off len then .fault .outsideBar4
  else .next (s.fromHost (fun s =>
    if s.misc.mode = 3 then (s.decodeError (0x100000000 + off) 0 data.isSome).barAbort
    else s.barAccess off len data))

end Sys2Proof.Machine
end

