-- ==== Sys2Proof/Machine/Queue.lean ====
section
/-!
DEFINITION. Machine/Queue.lean: the queue engine: doorbells (R269), descriptors and chains (R270 to R275), the checks of R276 that
use the descriptor alone, moderation (R282), and the states of the PCI Express function (R264, R283).
-/
namespace Sys2Proof.Machine

/-! ### Doorbells (R269) -/

/-- A rejected doorbell value, or a resume without a resume point (R269, R274). -/
def State.doorbellError (s : State) : State := (s.bump (.qeCount 5)).raise 450

/-- A doorbell of the host: ignored while READY = 0 (R268). -/
def State.doorbell (s : State) (g : State → State) : State :=
  s.fromHost (fun s => if bit (s.reg .qeStatus) 0 then g s else s)

/-- A head value lies in the circular range from HEAD to TAIL (R269). -/
def Cq.headOk (c : Cq) (v : Nat) : Bool :=
  let z := sizeEff c.size
  decide (v < z) && decide ((v + z - c.head % z) % z ≤ (c.tail + z - c.head % z) % z)

/-- A head doorbell of queue k (64: the event queue): entries held for lack of room are written (R269, R279). -/
def State.headDoorbell (s : State) (k : Nat) (v : W32) : State :=
  s.doorbell (fun s =>
    let n := fld v 11 0
    if (s.cq k).headOk n then (s.updCq k (fun c => { c with head := n })).cqRoom true k else s.doorbellError)

/-- SQ_TAIL[q] (R269). -/
def execSqTail (q : Fin 64) (v : W32) (s : State) : Answer :=
  .next (s.doorbell (fun s =>
    let n := fld v 11 0
    if n < sizeEff (s.sq q).size then s.updSq q (fun x => { x with tail := n }) else s.doorbellError))

/-- CHAIN_RESUME[q] (R269, R274). -/
def execChainResume (q : Fin 64) (s : State) : Answer :=
  .next (s.doorbell (fun s => s.updSq q (fun x => { x with resume := true })))

/-- CQ_HEAD[q] (R269, R279). -/
def execCqHead (q : Fin 64) (v : W32) (s : State) : Answer := .next (s.headDoorbell q v)

/-- EVQ_HEAD (R269). -/
def execEvqHead (v : W32) (s : State) : Answer := .next (s.headDoorbell 64 v)

/-- A read of BAR2 returns 0 (R266). -/
def bar2Read (_off : Nat) : W32 := 0

/-! ### Descriptors (R270, R276) -/

/-- The descriptor that 32 bytes read at an address hold. -/
def Desc.parse (a : Nat) (bs : List Byte) : Desc :=
  let w0 := leAt bs 0 4
  let l := leAt bs 24 8
  { at_ := a, cid := w0 / 65536, comp := nbit w0 8, op := w0 % 256,
    clean := decide (nfld w0 15 9 = 0) && decide (nfld l 4 1 = 0), p0 := leAt bs 4 4, addr := leAt bs 8 8,
    p1 := leAt bs 16 4, p2 := leAt bs 20 4, next := l / 32 * 32, fin := nbit l 0 }

/-- What each command uses of P0, P1, P2 and ADDR: masks (R276). -/
def cmdMasks (op : Nat) : Nat × Nat × Nat × Bool :=
  let w := 0xFFFFFFFF
  match op with
  | 0x02 => (0xFFF, 0, 0, true) | 0x03 => (0xFFF, 0, 0, true) | 0x04 => (0xFFF, 0, 0, false) | 0x05 => (0xFFF, 0, 0, true)
  | 0x06 => (0x11F, 0, 0, true) | 0x07 => (0xFFFF, 0, 0, true) | 0x08 => (0xFFFF, 0, 0, false) | 0x09 => (0x1FF000F, 0, 0, true)
  | 0x0A => (0xF, 0, 0, true) | 0x0B => (0xFFF, 0, 0, true) | 0x0C => (0xFFF, 0, 0, true) | 0x0D => (0xFF0FFF, 0x1FF, 0, true)
  | 0x0E => (0x1FFFFFF, 0, 0, false) | 0x0F => (0xFFF, 0, 0, true) | 0x10 => (0xFFF, 0, 0, true) | 0x11 => (0xFFFF, 0, 0, false)
  | 0x12 => (0xFFFF, 0, 0, false) | 0x13 => (0, 0, 0, true) | 0x14 => (0x33F, w, w, false) | 0x15 => (0, 0, 0, true)
  | 0x16 => (7, w, 0, false) | 0x17 => (0x13F, 0, 0, false) | 0x18 => (3, w, 0, true) | 0x19 => (0xFF, 0, 0, true)
  | 0x1A => (0xFFFFF, w, w, false) | 0x1B => (0x1FFFFFF, 0x1FFFFFF, 0, true) | 0x1C => (0x1FFFFFF, 0x1FFFFFF, 0, true)
  | _ => (0, 0, 0, false)

/-- A value uses no bit outside a mask. -/
def inMask (x m : Nat) : Bool := decide (x &&& m = x)

/-- REG_WRITE reaches an offset (R276). -/
def regWriteOk (off : Nat) : Bool :=
  decide (off % 4 = 0) && (decide (0x4000 ≤ off) && decide (off < 0x5000) || decide (0x8000 ≤ off) && decide (off < 0xC000))

/-- The ranges of values that R276 and R277 name. -/
def Desc.rangeOk (d : Desc) : Bool :=
  match d.op with
  | 0x06 => decide (d.addr % 2048 = 0) && decide (d.addr < 2 ^ 40)
  | 0x07 => decide (d.p0 ≠ 0)
  | 0x08 => decide (d.p0 ≠ 0)
  | 0x0D => decide (0x80 ≤ nfld d.p0 23 16) && decide (d.p1 ≤ 256)
  | 0x17 => decide (d.p0 % 64 < 50) && (nbit d.p0 8 || decide (d.p0 % 64 < 46))
  | 0x18 =>
    if d.p0 < 2 then decide (d.p1 = 0)
    else decide (d.p0 = 2) && decide (d.addr = 0) && decide (-500000 ≤ snat 32 d.p1) && decide (snat 32 d.p1 ≤ 500000)
  | 0x19 => decide (d.p0 % 16 < 6) && (decide (d.p0 % 16 = 4) || decide (d.p0 / 16 = 0))
  | 0x1A => regWriteOk d.p0
  | 0x1B => decide (d.p1 % 4 = 0) && decide (d.p0 + d.p1 ≤ storeSize)
  | 0x1C => decide (d.p1 % 4 = 0) && decide (d.p0 + d.p1 ≤ storeSize)
  | _ => true

/-- Check 2 of R276, as far as the descriptor alone decides it. -/
def Desc.fieldsOk (d : Desc) : Bool :=
  let m := cmdMasks d.op
  d.clean && inMask d.p0 m.1 && inMask d.p1 m.2.1 && inMask d.p2 m.2.2.1 && (m.2.2.2 || decide (d.addr = 0)) && d.rangeOk

/-- OUT_LEN of the partner that holds the slot a SLOT_LOAD names, 0 for none (R276). -/
def State.loadLen (s : State) (d : Desc) : Nat :=
  match s.partnerAt (s.portA (d.p0 % 16)) (nfld d.p0 24 16) with
  | some p => s.pOutLen p
  | none => 0

/-- Bytes of arguments that a command reads at ADDR in host memory (R276): for SLOT_LOAD the OUT_LEN of the slot's partner. -/
def State.argLen (s : State) (d : Desc) : Nat :=
  match d.op with
  | 0x02 => 256 | 0x03 => 256 | 0x09 => s.loadLen d | 0x0A => 32 | 0x0B => 32 | 0x0D => d.p1 | 0x0F => 32 | 0x13 => 64 | 0x1B => d.p1
  | _ => 0

/-! ### Reading (R271 to R275) -/

/-- A read request of queue q. -/
def State.request (s : State) (q : Nat) (r : Rd) (a n : Nat) : State :=
  (s.updSq q (fun x => { x with rd := some r })).emit (.hostRead q a n)

/-- The completion queue of q lets a command start (R275, R279). -/
def State.cqOpen (s : State) (q : Nat) : Bool :=
  let c := s.cq (s.sq q).cq
  c.en && decide (0 < c.room) && c.held.isEmpty

/-- Queue q can act: a latched RESUME, the next descriptor of its segment, or a ring entry (R271, R272, R274). -/
def State.sqReady (s : State) (q : Nat) : Bool :=
  let x := s.sq q
  x.rd.isNone && x.cmd.isNone &&
    (if x.seg.isSome then x.nextAt.isSome && s.cqOpen q
     else x.run && (x.resume || (decide (x.head ≠ x.tail) && s.cqOpen q)))

/-- The next queue in round-robin order that can act (R275). -/
def State.nextQueue (s : State) : Option Nat :=
  ((List.range 64).map (fun i => (s.engine.last + 1 + i) % 64)).find? s.sqReady

/-- Queue q acts. -/
def State.sqAct (s : State) (q : Nat) : State :=
  let x := s.sq q
  match x.seg, x.nextAt with
  | some _, some a => (s.setSq q { x with nextAt := none }).request q (.chain a) a 32
  | some _, none => s
  | none, _ =>
    if x.resume then
      let s1 := s.setSq q { x with resume := false }
      match x.point with
      | none => s1.doorbellError
      | some p => s1.request q .link (p.1 + 24) 8
    else
      let a := x.base.toNat + 32 * x.head
      (s.setSq q { x with seg := some ⟨true, false, 0xFFFF, 0⟩ }).request q .ring a 32

/-- DESCRIPTOR_READ: the queue engine, in service and not held, lets the next queue act (R264, R271, R274, R275). -/
def execDescriptorRead (s : State) : Answer :=
  .next (if bit (s.reg .qeStatus) 0 && !s.qeHeld then
    match s.nextQueue with
    | some q => State.sqAct { s with engine := { s.engine with last := q } } q
    | none => s
    else s)

/-- A descriptor has arrived: its command, and checks 1 and 2 of R276.  A command that passes them is accepted (R275). -/
def State.gotDesc (s : State) (q : Nat) (d : Desc) (first : Bool) : State :=
  let s1 := (s.bump (.qeCount 2)).updSq q (fun x => { x with
    rd := none, cmd := some ⟨d, [], .ready⟩, seg := x.seg.map (fun g => if first then { g with cid := d.cid } else g) })
  if d.op = 0 ∨ 0x1D ≤ d.op then s1.finish q .invalidOpcode 0
  else if !d.fieldsOk then s1.finish q .invalidField 0
  else { s1 with engine := { s1.engine with order := s1.engine.order.filter (· ≠ q) ++ [q] } }

/-- A HOST_READ_FAILED completion of queue q, which stops (R272). -/
def State.readStops (s : State) (q cid index : Nat) (resumed : Bool) : State :=
  let x := s.sq q
  ((s.countEnd .hostReadFailed).postCompletion x.cq (compBytes cid .hostReadFailed x.head 0 index q false resumed)).stopQueue q 2

/-- The read of queue q has failed (R272).  The resume point stays: no descriptor was read. Log entry 78, DEDUCED. -/
def State.readFailed (s : State) (q : Nat) (r : Rd) : State :=
  let x := s.sq q
  let s1 := s.setSq q { x with rd := none }
  match r, x.seg with
  | .ring, _ => (s1.updSq q (fun x => { x with seg := none })).readStops q 0xFFFF 0 false
  | .chain _, some g =>
    (s1.updSq q (fun x => { x with seg := none, nextAt := none, head := if g.ring then x.nextHead else x.head })).readStops q g.cid g.links g.resumed
  | .chain _, none => s1
  | .link, _ => s1.readStops q ((x.point.getD (0, 0)).2) 0 true
  | .args, _ => s1.finish q .hostReadFailed 0

/-- The next part of a command's arguments is read, at most Max_Read_Request_Size by one request (R263, R276); the read fails
while the function's state forbids it (R264). -/
def State.fetchArgs (s : State) (q : Nat) (c : Cmd) : State :=
  let h := c.args.length
  if s.qeHeld then s.finish q .hostReadFailed 0
  else (s.updSq q (fun x => { x with cmd := some { c with st := .fetching } })).request q .args (c.d.addr + h)
    (Nat.min s.readMax (s.argLen c.d - h))

/-- Bytes that an outstanding read asks for. -/
def State.rdLen (s : State) (q : Nat) (r : Rd) : Nat :=
  match r, (s.sq q).cmd with
  | .link, _ => 8
  | .args, some c => Nat.min s.readMax (s.argLen c.d - c.args.length)
  | _, _ => 32

/-- The read of queue q has returned its bytes (R271, R274, R276). -/
def State.readDone (s : State) (q : Nat) (r : Rd) (bs : List Byte) : State :=
  let x := s.sq q
  match r with
  | .ring => s.gotDesc q (Desc.parse (x.base.toNat + 32 * x.head) bs) true
  | .chain a =>
    let first := match x.seg with
      | some g => g.resumed && decide (g.links = 0)
      | none => false
    s.gotDesc q (Desc.parse a bs) first
  | .link =>
    let l := leAt bs 0 8
    let s1 := s.setSq q { x with rd := none }
    if nbit l 0 then s1
    else
      let f := s1.freeNext
      f.1.updSq q (fun x => { x with seg := some ⟨false, true, f.2 % 65536, 0⟩, nextAt := some (l / 32 * 32) })
  | .args =>
    match x.cmd with
    | some c =>
      let c1 := { c with args := c.args ++ bs, st := CmdSt.ready }
      let s1 := s.setSq q { x with rd := none, cmd := some c1 }
      if c1.args.length < s.argLen c.d then s1.fetchArgs q c1 else s1
    | none => s.setSq q { x with rd := none }

/-- READ_COMPLETION of queue q's request, successful or not; one that answers no request is an Unexpected Completion, and one that
fails with data is poisoned, which AER logs (R265, R266).  Log entries 79 and 141, DEDUCED. -/
def execReadCompletion (q : Fin 64) (data : List Byte) (ok : Bool) (s : State) : Answer :=
  .next (match (s.sq q).rd with
    | none => s.aer aerUnexpected
    | some r =>
      if ok && decide (data.length = s.rdLen q r) then s.readDone q r data
      else (if ok || data.isEmpty then s else s.aer aerPoisoned).readFailed q r)

/-- COMPLETION_TIMEOUT of queue q's request (R265). -/
def execCompletionTimeout (q : Fin 64) (s : State) : Answer :=
  .next (match (s.sq q).rd with
    | none => s
    | some r => (s.aer aerTimeout).readFailed q r)

/-! ### The function's states (R264, R282, R283) -/

/-- MODERATION_TIMER of completion queue q (R282). -/
def execModerationTimer (q : Fin 64) (s : State) : Answer :=
  .next (if (s.cq q).timerOn then
    (if (s.cq q).ien then s.cqSignal q else s.updCq q (fun c => { c with timerOn := false, cnt := 0 })) else s)

/-- MSIX_UNMASK: MSI-X Enable and Function Mask are written, and a vector is unmasked; pending messages go out (R283). -/
def execMsixUnmask (enable fmask : Bool) (v : Option (Fin 64)) (s : State) : Answer :=
  let s1 := { s with pcie := { s.pcie with msix := enable, fmask := fmask } }
  let s2 := match v with
    | some v => s1.updReg (.msixTab (4 * v + 3)) (fun w => setBit w 0 false)
    | none => s1
  .next s2.flushPba

/-- D_STATE_CHANGE: D0 or D3hot, with PME_En and a write that clears PME_Status (R264, R283, R284). -/
def execDStateChange (d3hot pmeEn clearPme : Bool) (s : State) : Answer :=
  let s1 := { s with pcie := { s.pcie with d3 := d3hot, pmeEn := pmeEn, pmeSt := s.pcie.pmeSt && !clearPme } }
  .next ((s1.raiseIf (s.pcie.d3 != d3hot) 454).releaseHeld)

/-- BUS_MASTER_ENABLE (R264). -/
def execBusMasterEnable (bme : Bool) (s : State) : Answer :=
  .next (State.releaseHeld { s with pcie := { s.pcie with bme := bme } })

/-- LINK_CHANGE (R264, R284); no link comes up while the balls are disconnected (R348). -/
def execLinkChange (up : Bool) (speed width : Fin 4) (s : State) : Answer :=
  let p := { s.pcie with up := up && s.hostHears, speed := speed, width := width }
  .next ((State.raiseIf { s with pcie := p } (decide (p ≠ s.pcie)) 452).releaseHeld)

end Sys2Proof.Machine
end

