-- ==== Sys2Proof/Machine/Cmd.lean ====
section
/-!
DEFINITION. Machine/Cmd.lean: how a unit executes the command of a queue (R275, R276), and the commands of the dispatcher with
the pager and the allocator, but for the two that change power and clocks (R100, R107, R117, R134, R276, R350).
-/
namespace Sys2Proof.Machine

/-! ### The way of a command (R275, R276) -/

/-- The unit that executes an opcode: 0 dispatcher, 1 field ports, 2 Mordant, 3 Ridge, 4 queue engine (R275). -/
def unitOf (op : Nat) : Nat :=
  if 0x02 ≤ op ∧ op ≤ 0x09 ∨ op = 0x0E ∨ op = 0x16 ∨ op = 0x17 then 0
  else if 0x0A ≤ op ∧ op ≤ 0x0D then 1
  else if 0x0F ≤ op ∧ op ≤ 0x12 then 2
  else if op = 0x13 ∨ op = 0x15 then 3 else 4

/-- The command of queue q holds a unit: the unit has not finished acting on it (R275). -/
def State.holdsUnit (s : State) (u q : Nat) : Bool :=
  match (s.sq q).cmd with
  | some c => decide (c.st ≠ .waiting) && decide (unitOf c.d.op = u)
  | none => false

/-- It is queue q's turn at the unit of an opcode: no command accepted before its own holds that unit (R275). -/
def State.turn (s : State) (q op : Nat) : Bool := !(s.engine.order.takeWhile (· ≠ q)).any (s.holdsUnit (unitOf op))

/-- The command of queue q that its unit may execute now, where its descriptor meets a condition. -/
def State.ready (s : State) (q : Nat) (p : Desc → Bool) : Option Cmd :=
  match (s.sq q).cmd with
  | some c => if decide (c.st = .ready) && p c.d && s.turn q c.d.op then some c else none
  | none => none

/-- The descriptor has an opcode. -/
def opIs (op : Nat) (d : Desc) : Bool := decide (d.op = op)

/-- The checks that the device's state decides, from their conditions: INVALID_FIELD first, then INVALID_STATE (R276). -/
def checks (fieldBad stateBad : Bool) : Option Status :=
  if fieldBad then some .invalidField else if stateBad then some .invalidState else none

/-- A unit executes the command of queue q: the checks that precede every host read, the reads of its arguments, then its
action (R276), in the order of acceptance (R275). Log entry 81, DESIGN CHOICE. -/
def State.command (s : State) (q : Nat) (p : Desc → Bool) (check : State → Desc → Option Status)
    (act : State → Desc → List Byte → State) : State :=
  match s.ready q p with
  | none => s
  | some c =>
    match check s c.d with
    | some st => s.finish q st 0
    | none =>
      if c.args.length < s.argLen c.d then s.fetchArgs q c else act s c.d c.args

/-- No check beyond those of the descriptor. -/
def noCheck : State → Desc → Option Status := fun _ _ => none

/-- Word w of a record read from host memory. -/
def recArg (bs : List Byte) (w : Nat) : W32 := BitVec.ofNat 32 (leAt bs (4 * w) 4)

/-- NOP (R276). -/
def execCmdNop (q : Fin 64) (s : State) : Answer :=
  .next (s.command q (opIs 0x01) noCheck (fun s _ _ => s.finish q .success 0))

/-! ### Admission (R100, R107, R110) -/

/-- Words 0 to 55 of the record that TASKLET_DEFINE names. -/
def defineRec (bs : List Byte) : Rec := fun w => if w < 56 then recArg bs w else 0

/-- Steps 1 to 6 of R107, with the condition of the best-effort class on its effective mask in the place of step 4: the home, or the
reason. Log entry 83, DEDUCED. -/
def State.admission (s : State) (t : Nat) (r : Rec) : Nat ⊕ Nat :=
  if !s.validRec r then .inr 1
  else if !s.slotsOk r then .inr 2
  else if !s.imageOk r then .inr 3
  else
    let h : Nat ⊕ Nat :=
      if r.bestEffort then
        (match s.effMask r with
         | [] => .inr 8
         | m => if m.any (fun c => decide ((s.eNs r (s.stepOf c) : Int) ≤ s.wNs r)) then .inl 0 else .inr 5)
      else s.findHome r
    match h with
    | .inr x => .inr x
    | .inl c =>
      if !s.bandwidthOk r then .inr 9
      else if !s.buffersOk (s.reservations t r) then .inr 10
      else .inl c

/-- The IMAGE and TABLE pages that a record maps, with their spaces. -/
def State.sourcePages (s : State) (t : Nat) (r : Rec) : List (Nat × PageId) :=
  fetchOrder.filterMap (fun e =>
    match planPage t r r.hostImg r.imgAddr s.currentGen e with
    | some (.state _ _) => none
    | some p => some (e / 16, p)
    | none => none)

/-- The first of a record's IMAGE and TABLE pages, not yet resident on the clusters, whose read fails: what the failure leaves. -/
def State.pinFails (s : State) (cs : List Nat) (t : Nat) (r : Rec) (hostOk : Bool) : Option State :=
  (s.sourcePages t r).findSome? (fun p =>
    if s.residentOn cs p.1 p.2 then none else s.pageFail p.2 hostOk)

/-- The clusters of a home that a record has yet to get. -/
def Rec.homesAt (r : Rec) (c : Nat) : List Nat := if r.checked then [c, c + 1] else [c]

/-- Write words from 0 up into record t. -/
def State.putRec (s : State) (t n : Nat) (r : Rec) : State :=
  s.forEach (List.range n) (fun s w => s.setRecOf t w (r w))

/-- Words 56 to 63 of a record at its admission (R101). -/
def admitWord (home buf : Nat) : Nat → W32
  | 56 => BitVec.ofNat 32 (2 ^ 31 + home * 2 ^ 24)
  | 58 => BitVec.ofNat 32 buf
  | 63 => 0x7FFFFFFF
  | _ => 0

/-- Admission succeeds: the reservations, the checkpoint buffer with copy A zeroed, the record, and the pins (R107, R132, R142). -/
def State.admitTo (s : State) (t c : Nat) (r : Rec) : State :=
  let s1 := s.addResv (s.reservations t r)
  let k := r.ckptClass
  let buf := (s1.allocAnswer k (.ckpt t)).getD 0
  let s2 := ((s1.allocTake k (.ckpt t)).busWrite 4 buf (List.replicate (classSize k / 2) 0)).1
  let s3 := s2.putRec t 64 (fun w => if w < 56 then r w else admitWord c buf w)
  let s4 := s3.setTask t { Task.reset with since := s.clk.dt }
  if r.bestEffort then s4 else s4.pinAll t

/-- Every IMAGE, STATE and TABLE page of a record is resident on clusters. -/
def State.pagesOn (s : State) (cs : List Nat) (t : Nat) (r : Rec) : Bool :=
  fetchOrder.all (fun e => match planPage t r r.hostImg r.imgAddr s.currentGen e with
    | some p => s.residentOn cs (e / 16) p
    | none => true)

/-- TASKLET_DEFINE (R107, R112).  While step 7 has no frame for a page of a guaranteed tasklet, the command waits for one (R126):
it has no effect yet.  Log entry 121, DEDUCED. -/
def State.define (s : State) (q t : Nat) (r : Rec) (hostOk : Bool) : State :=
  match s.admission t r with
  | .inr x => s.finish q (.admitRejected x) 0
  | .inl c =>
    let s1 := s.admitTo t c r
    if r.bestEffort then s1.finish q .success c
    else match s.pinFails (r.homesAt c) t r hostOk with
      | some s2 => s2.finish q (.admitRejected 3) 0
      | none => if s1.pagesOn (r.homesAt c) t r then s1.finish q .success c else s

/-- TASKLET_DEFINE of queue q; `hostOk`: its reads of a host image succeed (R107, R128). -/
def execTaskletDefine (q : Fin 64) (hostOk : Bool) (s : State) : Answer :=
  .next (s.command q (opIs 0x02) (fun s d => checks false (s.recOf d.p0).admitted)
    (fun s d bs => s.define q d.p0 (defineRec bs) hostOk))

/-! ### Rebinding (R117) -/

/-- The two records differ only in HOSTIMG, IMAGE_ADDR and IMAGE_PAGES. -/
def Rec.sameButImage (r n : Rec) : Bool :=
  (List.range 56).all (fun w =>
    if w = 0 then decide (setBit (r 0) 26 false = setBit (n 0) 26 false)
    else if w = 6 then true
    else if w = 7 then decide (r 7 >>> 15 = n 7 >>> 15)
    else decide (r w = n w))

/-- The image fields of a record are in range for its plan. -/
def Rec.imageInRange (r : Rec) : Bool :=
  decide (fld (r 6) 10 0 = 0 ∧ 1 ≤ r.imgPages ∧ r.imgPages ≤ 64) && (r.entries 1).all (fun e => decide (r.index e < r.imgPages))

/-- A guaranteed tasklet with a home keeps its pages pinned there. -/
def State.pinsHere (s : State) (t : Nat) : Bool := !(s.recOf t).bestEffort && !(s.task t).homeLost

/-- The guaranteed records homed on a cluster, with record n in the place of tasklet t's. -/
def State.homedWith (s : State) (c t : Nat) (n : Rec) : List Rec :=
  (s.homedOn c).map (fun u => if u = t then n else s.recOf u)

/-- The image fields of tasklet t's record become those of n. -/
def State.putImage (s : State) (t : Nat) (n : Rec) : State :=
  ((s.setRecOf t 0 (n 0)).setRecOf t 6 (n 6)).setRecOf t 7 (n 7)

/-- TASKLET_REBIND with a record n (R117, R276): the new image is pinned, and binds from the next release.
Log entry 84, DEDUCED. -/
def State.rebind (s : State) (q t : Nat) (n : Rec) (hostOk : Bool) : State :=
  let r := s.recOf t
  if !r.sameButImage n || !n.imageInRange then s.finish q .invalidField 0
  else if !s.imageOk n then s.finish q (.admitRejected 3) 0
  else if !s.pinsHere t then (s.putImage t n).finish q .success 0
  else if !(r.homes.all (fun c => framesOk (s.homedWith c t n))) then s.finish q (.admitRejected 7) 0
  else match s.pinFails r.homes t n hostOk with
    | some s1 => s1.finish q (.admitRejected 3) 0
    | none =>
      let s1 := (s.putImage t n).pinAll t
      if (s1.sourcePages t n).all (fun p => s1.residentOn r.homes p.1 p.2) then s1.finish q .success 0
      else s.finish q (.admitRejected 7) 0

/-- TASKLET_REBIND of queue q (R117, R276). -/
def execTaskletRebind (q : Fin 64) (hostOk : Bool) (s : State) : Answer :=
  .next (s.command q (opIs 0x03) (fun s d => checks false (!(s.recOf d.p0).admitted))
    (fun s d bs => s.rebind q d.p0 (recArg bs) hostOk))

/-! ### Removal and reading (R100, R134) -/

/-- The queued instances of tasklet t that have not started are dropped (R134). -/
def State.dropQueued (s : State) (t : Nat) : State :=
  s.eachJob (s.queuedOf t) State.endJob

/-- TASKLET_REMOVE: releases stop, queued instances go, and the removal completes when the last instance has ended (R134).
Log entry 85, DEDUCED. -/
def State.remove (s : State) (q t : Nat) : State :=
  (((s.wait q).updTask t (fun k => { k with removing := k.removing ++ [q] })).dropQueued t).checkRemoval t

/-- TASKLET_REMOVE of queue q (R134, R276). -/
def execTaskletRemove (q : Fin 64) (s : State) : Answer :=
  .next (s.command q (opIs 0x04) (fun s d => checks false (!(s.recOf d.p0).admitted)) (fun s d _ => s.remove q d.p0))

/-- The bytes of words 0 up to n of a function. -/
def wordsBytes (n : Nat) (f : Nat → W32) : List Byte := (List.range n).flatMap (fun w => leBytes 4 (f w).toNat)

/-- TASKLET_READ of queue q (R100, R276). -/
def execTaskletRead (q : Fin 64) (s : State) : Answer :=
  .next (s.command q (opIs 0x05) noCheck (fun s d _ =>
    (s.hostWrite d.addr (wordsBytes 64 (s.recOf d.p0))).finish q .success 0))

/-! ### Pins of the host (R124, R276) -/

/-- The image page at an internal address. -/
def imagePage (a : Nat) : PageId := .image (decide (0x8000000000 ≤ a)) a

/-- PAGE_PIN of a page on cluster c: it is loaded into a P frame and pinned. Log entry 86, DEDUCED. -/
def State.hostPin (s : State) (q c a : Nat) (hostOk : Bool) : State :=
  let pin (s : State) : State := { s with hostPins := if s.hostPins.contains (c, a) then s.hostPins else s.hostPins ++ [(c, a)] }
  if (s.resident c 0 (imagePage a)).isSome then (pin s).finish q .success 0
  else match s.pageFail (imagePage a) hostOk with
    | some s1 => s1.finish q (.admitRejected 3) 0
    | none =>
      let s1 := s.loadPage [c] 0 (imagePage a)
      if (s1.resident c 0 (imagePage a)).isSome then (pin s1).finish q .success 0 else s.finish q (.admitRejected 7) 0

/-- PAGE_PIN of queue q (R276). -/
def execPagePin (q : Fin 64) (hostOk : Bool) (s : State) : Answer :=
  .next (s.command q (opIs 0x06)
    (fun s d => checks false (if nbit d.p0 8 then !s.hostPins.contains (d.p0 % 32, d.addr) else !s.isOn (d.p0 % 32)))
    (fun s d _ =>
      if nbit d.p0 8 then ({ s with hostPins := s.hostPins.filter (· ≠ (d.p0 % 32, d.addr)) }).finish q .success 0
      else s.hostPin q (d.p0 % 32) d.addr hostOk))

/-! ### The schedule (R276, R350) -/

/-- The lines of a mask. -/
def linesOf (m : Nat) : List Nat := (List.range 16).filter (nbit m)

/-- INVALID_FIELD of SCHED_START: a port B, or a T0 less than 100 µs after acceptance. -/
def State.startFieldBad (s : State) (d : Desc) : Bool :=
  (linesOf d.p0).any (fun l => decide (s.portA l ≠ l)) || decide (d.addr < s.clk.dt + 100000)

/-- INVALID_STATE of SCHED_START: a named line runs or has no record. -/
def State.startStateBad (s : State) (d : Desc) : Bool :=
  (linesOf d.p0).any (fun l => (s.lane l).run || !(s.lane l).hasRec)

/-- A lane at the acceptance of SCHED_START; port A carries the line. -/
def Lane.begin_ (d : Lane) (t0 : Nat) (q : Option Nat) : Lane :=
  { d.halt with run := q.isSome, dt0 := t0, starter := q, lastSet := false, ret := false, closed := false, okRun := 0, delayed := false }

/-- A line starts to run (R350): cycle numbers begin anew. -/
def State.startLine (s : State) (q t0 l : Nat) : State :=
  let s1 := (s.forEach (s.portsOf l) (fun s p => s.updLane p (fun d => d.begin_ t0 none))).updLane l (fun d => d.begin_ t0 (some q))
  let s2 := s1.forEach (s1.admitted.filter (fun t => decide (s1.portA (s1.recOf t).line = l))) (fun s t =>
    s.updTask t (fun k => { k with lastCyc := none }))
  let fresh (e : Nat × Slot) : Nat × Slot := if e.1 / 512 = l then (e.1, { e.2 with cyc := none }) else e
  { s2 with outSlots := (s2.outSlots.map fresh).filter (fun e => decide (e.2 ≠ Slot.reset)) }

/-- SCHED_START of queue q (R276, R350). -/
def execSchedStart (q : Fin 64) (s : State) : Answer :=
  .next (s.command q (opIs 0x07) (fun s d => checks (s.startFieldBad d) (s.startStateBad d)) (fun s d _ =>
    (s.wait q).forEach (linesOf d.p0) (fun s l => s.startLine q d.addr l)))

/-- SCHED_STOP of queue q: the named lines, each a line or a lane of a ring, stop (R276). -/
def execSchedStop (q : Fin 64) (s : State) : Answer :=
  .next (s.command q (opIs 0x08) (fun s d => checks false ((linesOf d.p0).any (fun l => !s.runs l))) (fun s d _ =>
    ((s.wait q).forEach (linesOf d.p0) (fun s l => s.updLane (s.portA l) (fun e =>
      { e with stopping := true, stoppers := addNew e.stoppers q }))).checkStops))

/-! ### Output slots and messages (R8, R133, R276, R280) -/

/-- SLOT_LOAD of bytes into output slot `slot` of line a. Log entry 87, DEDUCED. -/
def State.slotLoad (s : State) (q a slot : Nat) (bs : List Byte) : State :=
  let h := Holder.outSlot (512 * a + slot)
  let k := classFor bs.length
  match s.allocAnswer k h with
  | none => (s.allocTake k h).finish q .busy 0
  | some b =>
    let old := (s.outSlot (512 * a + slot)).buf
    let s1 := (((s.allocTake k h).busWrite 4 b bs).1).setOutSlot (512 * a + slot) ⟨some b, s.clk.dt, none⟩
    (s1.reclaimAll [old]).finish q .success 0

/-- SLOT_LOAD of queue q (R276). -/
def execSlotLoad (q : Fin 64) (s : State) : Answer :=
  .next (s.command q (opIs 0x09) (fun s d => checks false (s.runs (d.p0 % 16) || decide (s.loadLen d = 0)))
    (fun s d bs => s.slotLoad q (s.portA (d.p0 % 16)) (nfld d.p0 24 16) (bs.take (s.loadLen d))))

/-- MSG_FREE of queue q (R276). -/
def execMsgFree (q : Fin 64) (s : State) : Answer :=
  .next (s.command q (opIs 0x0E) (fun s d => checks (!(s.cls 1).used.contains (d.p0, .msg)) false) (fun s d _ =>
    (s.allocFree 1 d.p0).finish q .success 0))

end Sys2Proof.Machine
end

