-- ==== Sys2Proof/Machine/CmdField.lean ====
section
/-!
DEFINITION. Machine/CmdField.lean: the commands of the field ports: line and partner records with the checks of R194 and R195,
the partner status table, and host messages (R201, R276).
-/
namespace Sys2Proof.Machine

/-! ### Records (R194, R195) -/

/-- RING of a line record. -/
def lrRing (r : Nat → W32) : Bool := bit (r 0) 16

/-- The line record of lane l by itself: reserved bits, ranges, RING on an even lane, and the order of its times. -/
def lineOk (l : Nat) (r : Nat → W32) : Bool :=
  decide (fld (r 0) 23 17 = 0 ∧ fld (r 0) 15 14 = 0 ∧ fld (r 3) 31 29 = 0 ∧ fld (r 3) 15 14 = 0 ∧ fld (r 4) 31 24 = 0 ∧
    fld (r 4) 15 11 = 0 ∧ r 6 = 0 ∧ r 7 = 0) &&
  decide (1 ≤ fld (r 0) 31 24 ∧ 25 ≤ fld (r 0) 13 0 ∧ fld (r 0) 13 0 ≤ 10000 ∧ fld (r 3) 28 16 ≤ 4096 ∧ 256 ≤ fld (r 3) 13 0 ∧
    fld (r 3) 13 0 ≤ 9216 ∧ fld (r 4) 23 16 ≤ 127 ∧ 1 ≤ fld (r 4) 10 0 ∧ fld (r 4) 10 0 ≤ 1024) &&
  (!lrRing r || decide (l % 2 = 0)) &&
  decide (1000 ≤ (r 1).toNat ∧ (r 1).toNat < (r 2).toNat ∧ (r 2).toNat + 4000 ≤ fld (r 0) 13 0 * 1000)

/-- VALID of a partner record. -/
def prValid (r : Nat → W32) : Bool := bit (r 0) 31
/-- LINE. -/
def prLine (r : Nat → W32) : Nat := fld (r 0) 19 16
/-- SLOT. -/
def prSlot (r : Nat → W32) : Nat := fld (r 0) 8 0
/-- POS. -/
def prPos (r : Nat → W32) : Nat := fld (r 1) 9 0
/-- IN_MAX. -/
def prInMax (r : Nat → W32) : Nat := fld (r 6) 29 16
/-- IN_LEN. -/
def prInLen (r : Nat → W32) : Nat := fld (r 6) 13 0
/-- OUT_LEN. -/
def prOutLen (r : Nat → W32) : Nat := fld (r 7) 12 0

/-- The reserved bits of a partner record are 0. -/
def partReserved (r : Nat → W32) : Bool :=
  decide (fld (r 0) 30 20 = 0 ∧ fld (r 0) 15 9 = 0 ∧ fld (r 1) 31 10 = 0 ∧ fld (r 3) 31 16 = 0 ∧ fld (r 6) 31 30 = 0 ∧
    fld (r 6) 15 14 = 0 ∧ fld (r 7) 31 13 = 0)

/-- The checks of a valid partner record that need no line record. -/
def partSelfOk (r : Nat → W32) : Bool :=
  decide (1 ≤ prPos r ∧ prPos r ≤ 512 ∧ 2 ≤ prInLen r ∧ prInLen r ≤ 8192 ∧ prInLen r % 2 = 0 ∧ prOutLen r ≤ 4096 ∧
    prOutLen r % 2 = 0 ∧ prInLen r + 62 ≤ prInMax r ∧ prInMax r ≤ 9216)

/-- The in-frame window of a partner record at port A (0) or B (1), in tenths of ns after T0 (R195). -/
def prWindow (r : Nat → W32) (port : Nat) : Nat × Nat :=
  let a := 10 * (r (4 + port)).toNat
  (a, a + 8 * (prInMax r + 20))

/-- The ports on which a line record has windows. -/
def lrPorts (lr : Nat → W32) : List Nat := if lrRing lr then [0, 1] else [0]

/-- The checks of a valid partner record against its line record (R194, R195). -/
def partLineOk (lr r : Nat → W32) : Bool :=
  (lrRing lr || decide (prSlot r ≤ 255 ∧ prPos r ≤ 256 ∧ r 5 = 0)) &&
  (decide (prOutLen r = 0) || decide (prOutLen r + 38 ≤ fld (lr 3) 13 0)) &&
  (lrPorts lr).all (fun p => let w := prWindow r p
    decide (10 * ((lr 1).toNat + 500) ≤ w.1) && decide (w.2 + 5000 ≤ 10 * (lr 2).toNat))

/-- Two windows lie at least 20 ns apart. -/
def windowsApart (a b : Nat × Nat) : Bool := decide (a.2 + 200 ≤ b.1) || decide (b.2 + 200 ≤ a.1)

/-- Two valid partners of one line differ in SLOT and in POS. -/
def partsDiffer (a b : Nat → W32) : Bool := decide (prSlot a ≠ prSlot b) && decide (prPos a ≠ prPos b)

/-- Two partners' windows lie apart on every port of the line. -/
def partsApart (lr a b : Nat → W32) : Bool := (lrPorts lr).all (fun p => windowsApart (prWindow a p) (prWindow b p))

/-- Every two members of a list stand in a relation. -/
def allPairs {α : Type} (f : α → α → Bool) : List α → Bool
  | [] => true
  | x :: xs => xs.all (f x) && allPairs f xs

/-- The record of partner p. -/
def State.partRecOf (s : State) (p : Nat) : Nat → W32 := fun w => s.partRecW p w

/-- Check of FIELD_LINE_SET with record lr, for the line and each valid partner of it (R195). Log entry 65, DEDUCED. -/
def State.lineSetOk (s : State) (l : Nat) (lr : Nat → W32) : Bool :=
  let ps := (s.partnersOf l).map s.partRecOf
  lineOk l lr && ps.all (fun r => partSelfOk r && partLineOk lr r) && allPairs (fun a b => partsDiffer a b && partsApart lr a b) ps

/-- Check of FIELD_PARTNER_SET of partner p with record r (R195): LINE may not name port B of a ring. -/
def State.partnerSetOk (s : State) (p : Nat) (r : Nat → W32) : Bool :=
  let l := prLine r
  let others := ((s.partnersOf l).filter (· ≠ p)).map s.partRecOf
  let lr := fun w => s.lineRecW l w
  partReserved r && (!prValid r ||
    (decide (s.portA l = l) && partSelfOk r && others.all (partsDiffer r) &&
      (!(s.lane l).hasRec || (partLineOk lr r && others.all (partsApart lr r)))))

/-- A line or ring over lane l, or over the two lanes of a new ring, runs. -/
def State.runsAny (s : State) (l : Nat) (ring : Bool) : Bool := s.runs l || (ring && s.runs (l + 1))

/-! ### The commands -/

/-- FIELD_LINE_SET with a record that has been read. -/
def State.lineSet (s : State) (q l : Nat) (lr : Nat → W32) : State :=
  if !s.lineSetOk l lr then s.finish q .invalidField 0
  else if s.runsAny l (lrRing lr) then s.finish q .invalidState 0
  else
    let s1 := s.forEach (List.range 8) (fun s w => s.setLineW (8 * l + w) (lr w))
    (s1.updLane l (fun d => { d with hasRec := true })).finish q .success 0

/-- FIELD_LINE_SET of queue q (R194, R195, R276). -/
def execFieldLineSet (q : Fin 64) (s : State) : Answer :=
  .next (s.command q (opIs 0x0A) (fun s d => checks false (s.runs d.p0)) (fun s d bs => s.lineSet q d.p0 (recArg bs)))

/-- FIELD_PARTNER_SET with a record that has been read: the partner is not heard of again until its next frames. -/
def State.partnerSet (s : State) (q p : Nat) (r : Nat → W32) : State :=
  if !s.partnerSetOk p r then s.finish q .invalidField 0
  else if prValid r && s.runs (prLine r) then s.finish q .invalidState 0
  else
    let s1 := s.dropMsgs p (fun m => decide (m.p = p) && decide (m.by_ = .config))
    let s2 := s1.forEach (List.range 8) (fun s w => s.setPartW (8 * p + w) (r w))
    (s2.updPartner p (fun x => { x with st := 0, miss := 0 })).finish q .success 0

/-- FIELD_PARTNER_SET of queue q (R194, R195, R276). -/
def execFieldPartnerSet (q : Fin 64) (s : State) : Answer :=
  .next (s.command q (opIs 0x0B) (fun s d => checks false (s.pValid d.p0 && s.runs (s.pLine d.p0)))
    (fun s d bs => s.partnerSet q d.p0 (recArg bs)))

/-- The 32 bytes of PARTNER_READ (R276). -/
def Partner.bytes (x : Partner) : List Byte :=
  leBytes 1 x.st ++ [0] ++ padTo 10 x.hdr ++ padTo 10 x.caps ++ List.replicate 10 0

/-- PARTNER_READ of queue q (R276). -/
def execPartnerRead (q : Fin 64) (s : State) : Answer :=
  .next (s.command q (opIs 0x0C) noCheck (fun s d _ =>
    (s.hostWrite d.addr (s.partner (d.p0 % 4096)).bytes).finish q .success 0))

/-- FIELD_MSG_POST of queue q (R201, R276): the message is queued, and the command completes on its ACK or its failure. -/
def execFieldMsgPost (q : Fin 64) (s : State) : Answer :=
  .next (s.command q (opIs 0x0D) (fun s d => checks false (!s.pValid (d.p0 % 4096) || !s.runs (s.pLine (d.p0 % 4096))))
    (fun s d bs => (s.wait q).postMsg (d.p0 % 4096) (nfld d.p0 23 16) bs (.host q)))

end Sys2Proof.Machine
end

