-- ==== Sys2Proof/Machine/CmdCal.lean ====
section
/-!
DEFINITION. Machine/CmdCal.lean: the commands of Mordant (R166, R173, R174, R183, R276).
-/
namespace Sys2Proof.Machine

/-- The last byte of the samples of a record, plus one: OFFSET + STRIDE × (COUNT − 1) + 2 (R174). -/
def calSpan (r : Nat → W32) : Nat := fld (r 1) 31 16 + fld (r 1) 15 8 * (fld (r 1) 7 0 - 1) + 2

/-- A record by itself (R173, R174). Log entry 88, DEDUCED. -/
def calRecOk (r : Nat → W32) : Bool :=
  decide (fld (r 0) 29 29 = 0 ∧ fld (r 0) 19 18 = 0 ∧ fld (r 2) 27 23 = 0 ∧ fld (r 3) 31 16 = 0 ∧ fld (r 7) 31 13 = 0) &&
  decide (10 ≤ fld (r 0) 28 24 ∧ fld (r 0) 28 24 ≤ 24 ∧ fld (r 2) 7 0 ≠ 0 ∧ fld (r 1) 31 16 % 2 = 0 ∧ fld (r 1) 15 8 % 2 = 0 ∧
    fld (r 1) 15 8 ≠ 0 ∧ fld (r 2) 31 28 < fld (r 1) 7 0) &&
  decide (fld (r 4) 31 31 = 0 ∧ 1 ≤ fld (r 4) 30 23 ∧ fld (r 4) 30 23 ≤ 254 ∧ fld (r 5) 30 23 ≠ 255) &&
  (bit (r 0) 30 || decide (fld (r 3) 15 0 = 0 ∧ r 5 = 0 ∧ fld (r 6) 15 0 = 0))

/-- A record against its reference slot and its partner (R173, R174). -/
def State.calPlaceOk (s : State) (r : Nat → W32) : Bool :=
  let p := fld (r 0) 11 0
  let k := fld (r 7) 11 0
  (!bit (r 7) 12 || (s.calOn k && s.calRef k && decide (s.calPart k = p))) &&
  s.pValid p && decide (calSpan r ≤ s.pInLen p)

/-- Channels that partner p would dither beside channel ch of slot k, counting the stops not yet acknowledged (R166). -/
def State.otherDithers (s : State) (k p ch : Nat) : Nat :=
  ((s.calSlotsOf p).filter (· ≠ k)).length + (s.stoppedD.filter (fun x => decide (x.p = p) && decide (x.ch ≠ ch))).length

/-- CAL_SLOT_SET of slot k with a record that has been read. -/
def State.calSet (s : State) (q k : Nat) (r : Nat → W32) : State :=
  if !calRecOk r || !s.calPlaceOk r then s.finish q .invalidField 0
  else
    let s1 := s.disableSlot k
    let s2 := s1.forEach (List.range 8) (fun s w => s.setCalW (8 * k + w) (r w))
    if bit (r 0) 31 then
      (if 16 ≤ s1.otherDithers k (fld (r 0) 11 0) (fld (r 0) 17 12) then s.finish q .invalidField 0
       else (s2.enableSlot k).finish q .success 0)
    else s2.finish q .success 0

/-- CAL_SLOT_SET of queue q (R166, R174, R276). -/
def execCalSlotSet (q : Fin 64) (s : State) : Answer :=
  .next (s.command q (opIs 0x0F) noCheck (fun s d bs => s.calSet q d.p0 (recArg bs)))

/-- The 64 bytes of CAL_SLOT_READ (R276). -/
def State.calBytes (s : State) (k : Nat) : List Byte :=
  let x := s.calSlot k
  wordsBytes 8 (s.calRecW k) ++ leBytes 4 x.st ++ leBytes 4 x.gAvg.toNat ++ leBytes 4 x.oAvg.toNat ++ leBytes 4 x.win ++
    List.replicate 16 0

/-- CAL_SLOT_READ of queue q (R276). -/
def execCalSlotRead (q : Fin 64) (s : State) : Answer :=
  .next (s.command q (opIs 0x10) noCheck (fun s d _ => (s.hostWrite d.addr (s.calBytes d.p0)).finish q .success 0))

/-- The READY descriptor of a generation number. -/
def State.readyGen (s : State) (n : Nat) : Option Nat :=
  match s.genNamed n with
  | some i => if (s.gen i).st = gReady then some i else none
  | none => none

/-- CAL_ADOPT of queue q (R183). -/
def execCalAdopt (q : Fin 64) (s : State) : Answer :=
  .next (s.command q (opIs 0x11) (fun s d => checks false (s.readyGen d.p0).isNone) (fun s d _ =>
    match s.readyGen d.p0 with
    | some i => if s.adopting then s.finish q .busy 0 else (s.adopt i true).finish q .success 0
    | none => s))

/-- CAL_DISCARD of queue q (R183, R276). -/
def execCalDiscard (q : Fin 64) (s : State) : Answer :=
  .next (s.command q (opIs 0x12) (fun s d => checks false (s.readyGen d.p0).isNone) (fun s d _ =>
    match s.readyGen d.p0 with
    | some i => (s.freeGen i).finish q .success 0
    | none => s))

end Sys2Proof.Machine
end

