-- ==== Sys2Proof/Machine/CmdIo.lean ====
section
/-!
DEFINITION. Machine/CmdIo.lean: the commands of the queue engine (R226, R276, R277, R320), and the two of the dispatcher that
change power and clocks (R111, R307, R309, R313).
-/
namespace Sys2Proof.Machine

/-! ### Registers (R276, R277) -/

/-- REGION_SET of queue q (R226, R276): R24 lists changes of the protection maps as absent while the Ridge is stopped, and R227 accepts
the host's writes without condition; the host's writes act then too. Log entry 140, DESIGN CHOICE. -/
def execRegionSet (q : Fin 64) (s : State) : Answer :=
  .next (s.command q (opIs 0x14) noCheck (fun s d _ =>
    let i := 4 * (d.p0 % 64) + nfld d.p0 9 8
    ((s.writeReg 0 (.shgRegion0 i) (BitVec.ofNat 32 d.p1) (BitVec.allOnes 32)).writeReg 0 (.shgRegion1 i) (BitVec.ofNat 32 d.p2)
      (BitVec.allOnes 32)).finish q .success 0))

/-- REG_WRITE of queue q: the authority is the host's, the result the register's new value (R3, R276). -/
def execRegWrite (q : Fin 64) (s : State) : Answer :=
  .next (s.command q (opIs 0x1A) noCheck (fun s d _ =>
    let s1 := s.writeOff 0 d.p0 (BitVec.ofNat 32 d.p1) (BitVec.ofNat 32 d.p2)
    s1.finish q .success (s1.readWord d.p0).2.toNat))

/-- The registers of a group of STATS_READ, in order (R277). -/
def statsRegs (group lane : Nat) : List Reg :=
  match group with
  | 0 => (List.range 8).map Reg.dspCount ++ (List.range 5).map Reg.pagerCount ++ (List.range 4).map Reg.allocFree ++
      (List.range 4).map Reg.allocResv ++ (List.range 4).map Reg.allocMiss
  | 1 => (List.range 8).map Reg.replayCount ++ (List.range 32).map Reg.clusterFaults
  | 2 => (List.range 8).flatMap (fun k => [Reg.scrubLast k, .scrubMax k, .scrubFound k, .accessFound k, .corrected k])
  | 3 => (List.range 8).map Reg.mrdCount ++ (List.range 8).map Reg.genSlot
  | 4 => [Reg.fldStatus lane, .ringStatus lane, .ringDelay lane, .missLast lane] ++ (List.range 16).map (Reg.fldCount lane)
  | _ => (List.range 8).map Reg.qeCount

/-- STATS_READ of queue q (R277). -/
def execStatsRead (q : Fin 64) (s : State) : Answer :=
  .next (s.command q (opIs 0x19) noCheck (fun s d _ =>
    let bs := (statsRegs (d.p0 % 16) (d.p0 / 16)).flatMap (fun r => leBytes 4 (s.regValue r).toNat)
    (s.hostWrite d.addr bs).finish q .success bs.length))

/-! ### The store (R276) -/

/-- STORE_WRITE's copy: each store bank takes its part, or its part is lost with a decode error (R302). -/
def State.storeCopyIn (s : State) (off : Nat) (bs : List Byte) : State :=
  s.forEach (blocksOf off bs.length) (fun s b =>
    let p := blockPart off bs.length b
    (s.busWrite 1 p.1 ((bs.drop (p.1 - off)).take p.2)).1)

/-- STORE_WRITE of queue q (R276). -/
def execStoreWrite (q : Fin 64) (s : State) : Answer :=
  .next (s.command q (opIs 0x1B) noCheck (fun s d bs => (s.storeCopyIn d.p0 bs).finish q .success 0))

/-- STORE_READ's copy of one part: a bank without power answers with an error, and the bytes are free values; a byte in
uncorrectable error is copied as it stands, and reported (R156, R302). -/
def State.storeCopyOut (s : State) (off n : Nat) : State × List Byte × Bool :=
  if !s.storeOn off n then
    (({ s with free := s.free + 1 }).decodeError (0x100000000 + off) 1 false,
      (List.range n).map (fun i => BitVec.ofNat 8 (Config.freeVal s.free / 256 ^ i)), false)
  else (s.storeChecked off n, s.storeRead off n, (s.storeBadAt off n).isSome)

/-- STORE_READ of queue q (R156, R276). -/
def execStoreRead (q : Fin 64) (s : State) : Answer :=
  .next (s.command q (opIs 0x1C) noCheck (fun s d _ =>
    let r := (blocksOf d.p0 d.p1).foldl (fun (x : State × List Byte × Bool) b =>
      let p := blockPart d.p0 d.p1 b
      let y := x.1.storeCopyOut p.1 p.2
      (y.1, x.2.1 ++ y.2.1, x.2.2 || y.2.2)) (s, [], false)
    (r.1.hostWrite d.addr r.2.1).finish q .success (b2n r.2.2)))

/-! ### Device time (R320) -/

/-- The command of queue q is TIME_SET with a mode. -/
def timeMode (m : Nat) (d : Desc) : Bool := decide (d.op = 0x18) && decide (d.p0 = m)

/-- DT takes a value, modulo 2^64: DT_STEP is raised; the scrubbers' laps, which are measured in time and not by DT's value, go on
from where they are (R160). -/
def State.stepTime (s : State) (dt frac : Nat) : State :=
  let by_ : Int := ((dt % 2 ^ 64 : Nat) : Int) - s.clk.dt
  (({ s with clk := { s.clk with dt := dt % 2 ^ 64, frac := frac, stepped := true } }).forEach (List.range 8)
    (fun s k => s.updScr k (fun x => { x with since := x.since + by_ }))).raise 485

/-- TIME_SET mode 0 of queue q: DT is set, its fraction cleared. Log entry 91, DEDUCED. -/
def execTimeSetDt (q : Fin 64) (s : State) : Answer :=
  .next (s.command q (timeMode 0) (fun s _ => checks false s.anyRuns) (fun s d _ => (s.stepTime d.addr 0).finish q .success 0))

/-- TIME_SET mode 1 of queue q: DT is stepped by a signed number of ns. -/
def execTimeSetStep (q : Fin 64) (s : State) : Answer :=
  .next (s.command q (timeMode 1) (fun s _ => checks false s.anyRuns) (fun s d _ =>
    (s.stepTime (s.clk.dt + d.addr) s.clk.frac).finish q .success 0))

/-- TIME_SET mode 2 of queue q: DT_RATE is written. -/
def execTimeSetRate (q : Fin 64) (s : State) : Answer :=
  .next (s.command q (timeMode 2) noCheck (fun s d _ =>
    ({ s with clk := { s.clk with rate := snat 32 d.p1 } }).finish q .success 0))

/-! ### Clock steps (R111, R313) -/

/-- The clusters of a mask. -/
def clustersOf (m : Nat) : List Nat := (List.range 32).filter (nbit m)

/-- Cluster c is to take a step: at once while it is OFF; none is pending where it runs at the step already (R313). -/
def State.askStep (s : State) (st c : Nat) : State :=
  if (s.dom c).st = .off then
    (s.updCluster c (fun x => { x with newStep := none })).updDom c (fun d => { d with step := st })
  else if s.stepOf c = st then s
  else s.updCluster c (fun x => { x with newStep := some st })

/-- The reason for which cluster c, in the state after a change of steps, cannot keep its tasklets: R106, R108 and R109 (R111). -/
def State.stepReason (s : State) (c : Nat) : Option Nat :=
  let g := (s.homedOn c).map s.recOf
  if g.any Rec.checked && decide (s.stepOf c ≠ s.stepOf (c / 2 * 2 + (1 - c % 2))) then some 8
  else
    let r := s.testSet (s.stepOf c) [] g (s.bBest c)
    if g.isEmpty || decide (r = 0) then none else some r

/-- CLOCK_SET: the named clusters take the step, or a tasklet homed on one of them fails and nothing changes (R111, R313).
Log entry 92, DEDUCED. -/
def State.clockSet (s : State) (q st m : Nat) : State :=
  let s1 := s.forEach (clustersOf m) (fun s c => s.askStep st c)
  match (clustersOf m).findSome? s1.stepReason with
  | some r => s.finish q (.admitRejected r) 0
  | none => (s1.wait q).checkClocks

/-- CLOCK_SET of queue q (R111, R276, R313). -/
def execClockSet (q : Fin 64) (s : State) : Answer :=
  .next (s.command q (opIs 0x16) noCheck (fun s d _ => s.clockSet q d.p0 d.p1))

/-! ### Power (R111, R307, R309) -/

/-- The reason of the first tasklet, in order, that finds no other home (R111). -/
def State.rehomeReason (s : State) : List Nat → Option Nat
  | [] => none
  | t :: ts =>
    match s.findHome (s.recOf t) with
    | .inr r => some r
    | .inl _ => (s.tryHome t (s.task t).since).rehomeReason ts

/-- Why domain d, which is ON, may not be turned off (R111, R309). -/
def State.offRefused (s : State) (d : Nat) : Option Status :=
  if d < 32 then
    let ts := s.homedOn d
    let s1 := (s.setDomSt d .drain).forEach ts (fun s t => s.updTask t (fun k => { k with homeLost := true }))
    (s1.rehomeReason ts).map Status.admitRejected
  else if d < 40 then
    if (List.range 4).any (fun k => decide (s.reg (.allocCount k) ≠ 0)) || !s.admitted.isEmpty ||
       (List.range 8).any (fun i => decide ((s.gen i).st ≠ gFree)) then some .invalidState else none
  else if d = 44 ∨ d = 45 then (if s.groupRuns (d - 44) then some .invalidState else none)
  else none

/-- An accepted POWER_SET: domain d goes on or off, now or once it is settled (R307 to R309). -/
def State.powerAccept (s : State) (q d : Nat) (on : Bool) : State :=
  let was := decide ((s.dom d).st = .on)
  let s1 := ((s.wait q).updDom d (fun x => { x with cmds := x.cmds ++ [(q, on)] })).settled d
  if !on && was && decide (d < 32) then s1.rehome d else s1

/-- POWER_SET of queue q (R111, R276, R307, R309). -/
def execPowerSet (q : Fin 64) (s : State) : Answer :=
  .next (s.command q (opIs 0x17)
    (fun s d => if !nbit d.p0 8 && decide ((s.dom (d.p0 % 64)).st ≠ .off) then s.offRefused (d.p0 % 64) else none)
    (fun s d _ => s.powerAccept q (d.p0 % 64) (nbit d.p0 8)))

end Sys2Proof.Machine
end

