-- ==== Sys2Proof/Machine/CmdRidge.lean ====
section
/-!
DEFINITION. Machine/CmdRidge.lean: the two commands that the kernel on the Ridge executes (R257, R258, R260, R276).
-/
namespace Sys2Proof.Machine

/-- The Ridge is stopped, or its kernel does not run: RIDGE_DOWN (R162, R276). -/
def State.ridgeGone (s : State) : Bool := s.ridge.stopped || s.ridge.clearing || decide (s.misc.boot ≠ .done)

/-- The RIDGE_DOWN check. -/
def ridgeCheck (s : State) (_ : Desc) : Option Status := if s.ridgeGone then some .ridgeDown else none

/-- LOG_READ of queue q: the records, oldest first, and zeros up to 4,096 bytes (R260, R276). Log entry 90, DEDUCED. -/
def execLogRead (q : Fin 64) (s : State) : Answer :=
  .next (s.command q (opIs 0x15) ridgeCheck (fun s d _ =>
    (s.hostWrite d.addr (padTo 4096 s.logBytes)).finish q .success 0))

/-! ### SHINGLE_LOAD (R257, R258) -/

/-- The reserved bits of the parameter block are 0 (R276). Log entry 89, DEDUCED. -/
def loadParamsOk (bs : List Byte) : Bool :=
  decide (leAt bs 5 3 = 0) && decide (leAt bs 24 1 ≤ 1) && decide (leAt bs 25 7 = 0)

/-- The Shingles of a target mask. -/
def loadTargets (bs : List Byte) : List Nat := (List.range 64).filter (nbit (leAt bs 16 8))

/-- An image meets R258. -/
def imageFormatOk (im : List Byte) : Bool :=
  let pw := leAt im 4 2
  let db := leAt im 6 2
  decide (leAt im 0 2 = 0x5348) && decide (leAt im 2 2 = 1) && decide (1 ≤ pw ∧ pw ≤ 8192) && decide (2 ≤ db ∧ db ≤ 16384) &&
    decide (leNat ((im.drop 16).take 16) = 0) && decide (im.length = 32 + 2 * pw + db) &&
    (imageWords pw (im.drop 32)).all (fun w => decide (w < 4096))

/-- The kernel reads n bytes of the system map, one by one; none at the first that fails. -/
def State.kernelRead (s : State) (a : Nat) : Nat → State × Option (List Byte)
  | 0 => (s, some [])
  | n + 1 =>
    match s.busRead 2 a 1 true with
    | (s1, .inl _) => (s1, none)
    | (s1, .inr b) =>
      match s1.kernelRead (a + 1) n with
      | (s2, some bs) => (s2, some (b ++ bs))
      | (s2, none) => (s2, none)

/-- A core takes an image: its program words and local data, the data beyond DATA_BYTES zeroed. -/
def Core.takeImage (c : Core) (im : List Byte) : Core :=
  let pw := leAt im 4 2
  let data := im.drop (32 + 2 * pw)
  { c with prog := putWords c.prog 0 (imageWords pw (im.drop 32)), progBad := c.progBad.filter (fun a => decide (pw ≤ a)),
           data := Memory.writeList [] 0 data, dataBad := [] }

/-- The kernel copies an image into its targets; a Shingle without power takes nothing. -/
def State.copyImage (s : State) (ts : List Nat) (im : List Byte) : State :=
  s.forEach (ts.filter (fun k => s.powered (40 + k / 16))) (fun s k => s.updCore k (fun c => c.takeImage im))

/-- SHG_RUN bits of the targets take a value. -/
def State.setRuns (s : State) (ts : List Nat) (b : Bool) : State :=
  s.forEach [0, 1] (fun s w =>
    s.writeShgRun w ((ts.filter (fun k => decide (k / 32 = w))).foldl (fun v k => setBit v (k % 32) b) (s.reg (.shgRun w))))

/-- A failed load: the targets stay held, and the kernel logs it (R257, R260); the spec gives no code and no data for the record. -/
def State.loadFails (s : State) (q : Nat) (n : Fin 4) : State :=
  let f := s.freeNext
  (f.1.logAdd 0xFFFF f.2 (f.2 / 65536)).finish q (.image n) 0

/-- The checks of an image that has been copied, and the start of the targets. -/
def State.loadEnds (s : State) (q : Nat) (bs im : List Byte) : State :=
  if (crc32c im).toNat ≠ leAt bs 12 4 then s.loadFails q 2
  else if nbit (leAt bs 24 1) 0 && decide (sha256 im ≠ (bs.drop 32).take 32) then s.loadFails q 3
  else
    let ts := loadTargets bs
    let s1 := s.forEach ts (fun s k => (s.setReg (.shgNx k) (BitVec.ofNat 32 (leAt im 8 4))).setReg (.shgPw k) (BitVec.ofNat 32 (leAt im 12 4)))
    (s1.setRuns ts true).finish q .success 0

/-- The kernel loads Shingle firmware by a parameter block (R257). -/
def State.shingleLoad (s : State) (q : Nat) (bs : List Byte) : State :=
  if !loadParamsOk bs then s.finish q .invalidField 0
  else
    let s1 := s.setRuns (loadTargets bs) false
    let n := leAt bs 8 4
    if n < 36 ∨ 32 + 16384 + 16384 < n then s1.loadFails q 0
    else match s1.kernelRead (leAt bs 0 5) n with
      | (s2, none) => if s2.ridge.stopped then (s2.finish q .ridgeDown 0).afterStop s else s2.loadFails q 1
      | (s2, some im) => if !imageFormatOk im then s2.loadFails q 0 else (s2.copyImage (loadTargets bs) im).loadEnds q bs im

/-- SHINGLE_LOAD of queue q (R257, R276). -/
def execShingleLoad (q : Fin 64) (s : State) : Answer :=
  .next (s.command q (opIs 0x13) ridgeCheck (fun s _ bs => s.shingleLoad q bs))

end Sys2Proof.Machine
end

