-- ==== Sys2Proof/Machine/CtlOps.lean ====
section
/-!
DEFINITION. Machine/CtlOps.lean: the operations of CTL (R43 to R46, R49, R69, R70) and the commands that end a cluster cycle,
report a trap and end a hold.
-/
namespace Sys2Proof.Machine

/-- NOP. -/
def execNop (c : Fin 32) (s : State) : Answer := .next (s.issue c (fun _ => ctlOp 1 [] false none .none))

/-- END: the instance ends; its stores still land (R49). -/
def execEndOp (c : Fin 32) (s : State) : Answer := .next (s.issue c (fun _ => ctlOp 1 [] false none .stop))

/-- RET: pops the return stack; RSTACK when it is empty (R43). -/
def execRet (c : Fin 32) (s : State) : Answer :=
  .next (s.issue c (fun x =>
    ctlOp 1 [] true (if x.depth = 0 then some cRstack else none) (.ret (Tab.get (fun _ => 0) x.rs (x.depth - 1)).toNat)))

/-- BR: taken when its condition holds on FLG of the end of the previous cycle (R41, R70). -/
def execBr (c : Fin 32) (cc : Fin 16) (target : Syl) (s : State) : Answer :=
  .next (s.issue c (fun x => ctlOp 2 [] true none (if condHolds cc x.flg then .jump target.toNat else .none)))

/-- CALL: pushes the address of the next bundle; RSTACK when 8 entries are held (R43). -/
def execCall (c : Fin 32) (target : Syl) (s : State) : Answer :=
  .next (s.issue c (fun x => ctlOp 2 [] true (if 8 ≤ x.depth then some cRstack else none) (.call target.toNat)))

/-- BRD: an unconditional branch to Ds; a target with bits [15:14] set raises UNMAPPED when it issues (R69). -/
def execBrd (c : Fin 32) (ds : Fin 32) (s : State) : Answer :=
  .next (s.issue c (fun x => ctlOp 1 [] true none (.jump (x.dr ds).toNat)))

/-- LOOPD: count Ds, 14-bit end address (R44, R45, R69). -/
def execLoopd (c : Fin 32) (ds : Fin 32) (last : Syl) (s : State) : Answer :=
  .next (s.issue c (fun x => loopOp x (x.dr ds).toNat last.toNat))

/-- LOOPI: a count of 0 to 4,095; LE is the address of the LOOPI bundle plus the end offset (R69). -/
def execLoopi (c : Fin 32) (count : BitVec 12) (off : BitVec 10) (s : State) : Answer :=
  .next (s.issue c (fun x => loopOp x count.toNat (x.pc + off.toNat)))

/-! ### Cycle, trap and hold -/

/-- RESULT_LANDS: the present cycle of cluster c ends: results that are due land, and the next bundle is chosen
(R36 to R46, R49 to R51). Log entry 22, DEDUCED. -/
def execResultLands (c : Fin 32) (s : State) : Answer := .next (s.tick c)

/-- TRAP: the bundle at PC meets a condition of R72, or the operations that have issued in it do: the bundle does not
execute, and the trap or the earlier cause of R51 takes effect. -/
def execTrap (c : Fin 32) (s : State) : Answer :=
  .next (if s.canIssue c then
    match Fail.meet (s.cluster c).iss.fail (if (s.cluster c).iss.units.isEmpty then (s.cluster c).bundleFail else none) with
    | some f => s.failAt c f
    | none => s
  else s)

/-- OVERRUN: the cycle after the declared count is reached before END has issued (R50). -/
def execOverrun (c : Fin 32) (s : State) : Answer :=
  .next (if decide ((s.cluster c).phase = .run) && decide (s.declared c < (s.cluster c).cycle) then s.instFault c cOverrun
    else s)

/-- EMULATION_TIMEOUT: a hold has lasted TIMEOUT µs without GO or FAIL: the instance faults (R77, R78). -/
def execEmulationTimeout (c : Fin 32) (s : State) : Answer :=
  .next (if (s.cluster c).phase = .held then s.instFault c cTrap else s)

/-- TRAP_RESUME with GO (R76, R77). Log entry 26, DEDUCED. Log entry 103, DEDUCED. -/
def execTrapResumeGo (c : Fin 32) (skip : Byte) (s : State) : Answer :=
  .next (s.writeResume c (0x100 + skip.toNat))

/-- TRAP_RESUME with GO and REDIRECT: the bundle branches to TRAP_TARGET (R76). Log entry 25, DEDUCED. -/
def execTrapResumeRedirect (c : Fin 32) (skip : Byte) (s : State) : Answer :=
  .next (s.writeResume c (0x500 + skip.toNat))

/-- TRAP_RESUME with FAIL (R76, R77). -/
def execTrapResumeFail (c : Fin 32) (s : State) : Answer := .next (s.writeResume c 0x200)

end Sys2Proof.Machine
end

