-- ==== Sys2Proof/Machine/SysWrite.lean ====
section
/-!
DEFINITION. Machine/SysWrite.lean: writes to the system map (R81, R224, R255, R299, R303) and stores of a core (R223, R238).
-/
namespace Sys2Proof.Machine

/-- The aligned words that bytes at an offset meet: offset, value and mask. -/
def wordsOf (o : Nat) (bs : List Byte) : List (Nat × W32 × W32) :=
  (List.range ((o % 4 + bs.length + 3) / 4)).map (fun i =>
    let w := o / 4 * 4 + 4 * i
    let at_ (k : Nat) : Bool := decide (o ≤ w + k) && decide (w + k < o + bs.length)
    (w, BitVec.ofNat 32 (sumNat ((List.range 4).map (fun k => if at_ k then (bs.getD (w + k - o) 0).toNat * 256 ^ k else 0))),
     BitVec.ofNat 32 (sumNat ((List.range 4).map (fun k => if at_ k then 255 * 256 ^ k else 0)))))

/-- A word with the bits of a mask replaced. -/
def mergeW (old v m : W32) : W32 := (old &&& ~~~m) ||| (v &&& m)

/-- A number with byte i replaced. -/
def setByte (x i : Nat) (b : Byte) : Nat := x - x / 256 ^ i % 256 * 256 ^ i + b.toNat * 256 ^ i

/-- Apply a write byte by byte, in ascending order. -/
def State.eachByte (s : State) (o : Nat) (bs : List Byte) (g : State → Nat → Byte → State) : State :=
  s.forEach (List.range bs.length) (fun s i => g s (o + i) (bs.getD i 0))

/-- A program word written, with good parity; on the Ridge to both cores' copies. -/
def Core.progPoke (c : Core) (a : Nat) (w : W12) : Core :=
  { c with prog := Tab.set (fun _ => 0) c.prog a w, progBad := c.progBad.filter (· ≠ a), progLost := c.progLost.filter (· ≠ a) }

/-- A byte of local data written, with good parity; on the Ridge to both cores' copies. -/
def Core.dataPoke (c : Core) (a : Nat) (b : Byte) : Core :=
  { c with data := Memory.write c.data a b, dataBad := c.dataBad.filter (· ≠ a), dataLost := c.dataLost.filter (· ≠ a) }

/-- A program word written to both cores of the Ridge (R255). -/
def State.ridgeProg (s : State) (a : Nat) (w : W12) : State :=
  s.updCore 64 (fun c => c.progPoke a w)

/-- A byte written to Ridge memory: both cores' copies; the boot ROM ignores it (R255). -/
def State.ridgePoke (s : State) (o : Nat) (b : Byte) : State :=
  if 0x10000 ≤ o then s.updCore 64 (fun c => c.dataPoke (o - 0x10000) b)
  else match s.ridgeWordAt o with
    | some a =>
      if a < 0x2000 then s
      else s.ridgeProg a (BitVec.ofNat 12 (setByte (Tab.get (fun _ => 0) (s.core 64).prog a).toNat (o % 2) b))
    | none => s

/-- A byte written to a frame of a cluster: the parity is generated anew (R81, R154). -/
def State.framePoke (s : State) (c o : Nat) (b : Byte) : State :=
  let p := frameAt o
  s.updCluster c (fun x => x.setWord p.1 p.2 (BitVec.ofNat 16 (setByte (x.word p.1 p.2).toNat (o % 2) b)))

/-- A write to the register image, the pending list or trap control; read-only entries ignore it (R76, R81). -/
def State.clusterPoke (s : State) (c o : Nat) (v m : W32) : State :=
  let i := o - 0xF0000
  let nv := mergeW (s.clusterWord c o) v m
  let lo : W16 := nv.setWidth 16
  if i < 0x80 then s.updCluster c (fun x => x.setD (i / 4) lo)
  else if i < 0xC0 then
    s.updCluster c (fun x =>
      let n := (i - 0x80) / 8
      x.setAcc n (if i % 8 = 0 then ((x.ac n >>> 32).setWidth 8 : Byte) ++ nv else (nv.setWidth 8 : Byte) ++ ((x.ac n).setWidth 32 : W32)))
  else if 0x100 ≤ i ∧ i < 0x1D0 then s.updCluster c (fun x => (x.setCtl ((i - 0x100) / 4) lo).setCtlUse ((i - 0x100) / 4) lo)
  else if 0x200 ≤ i ∧ i < 0x220 then s.updCluster c (fun x => { x with rs := Tab.set (fun _ => 0) x.rs ((i - 0x200) / 4) (nv.setWidth 14) })
  else if 0x1000 ≤ i ∧ i < 0x1400 then s.updCluster c (fun x => { x with plist := Tab.set (fun _ => 0) x.plist ((i - 0x1000) / 4) nv })
  else if i = 0xF00C then s.writeResume c (v &&& m).toNat
  else if i = 0xF010 then s.updCluster c (fun x => { x with trapTarget := fld nv 13 0 })
  else s

/-- A byte of the state image is written; STATE and byte 23 ignore it (R224; log entry 19). -/
def Core.imgPoke (c : Core) (k o : Nat) (b : Byte) : Core :=
  let sh := c.imgBank
  let half (v : W16) : W16 := BitVec.ofNat 16 (setByte v.toNat (o % 2) b)
  let st : Byte := (b &&& 0x8F) ||| (if k = 64 then b &&& c.st &&& 0x40 else 0) ||| (if c.shadow then 0x80 else 0)
  if c.state = .run ∨ c.state = .wait then c
  else if o < 8 then c.setVAt sh o b
  else if o < 10 then { c with px := half c.px }
  else if o < 12 then { c with py := half c.py }
  else if o < 14 then (if sh then { c with spz := half c.spz } else { c with pz := half c.pz })
  else if o < 16 then { c with cnt := half c.cnt }
  else if o < 18 then { c with sp := half c.sp }
  else if o < 20 then { c with pc := half c.pc }
  else if o = 20 then { c with st := st }
  else if o = 22 then { c with call := b.toNat % 16 }
  else c

/-- A byte of a mailbox is written; byte 7 raises MAILBOX (R224, R261). -/
def State.mailPoke (s : State) (k i : Nat) (b : Byte) : State :=
  (s.updCore k (fun c => { c with mbox := Tab.set (fun _ => 0) c.mbox i b })).raiseIf (decide (i = 7)) (128 + 2 * k)

/-- A byte written to a Shingle window (R224). -/
def State.shinglePoke (s : State) (k o : Nat) (b : Byte) : State :=
  if o < 0x4000 then
    s.updCore k (fun c =>
      c.progPoke (o / 2) (BitVec.ofNat 12 (setByte (Tab.get (fun _ => 0) c.prog (o / 2)).toNat (o % 2) b)))
  else if o < 0x20000 then
    s.updCore k (fun c => c.dataPoke (o - 0x10000) b)
  else if o < 0x30000 then s.mailPoke k (o - 0x20000) b
  else s.updCore k (fun c => c.imgPoke k (o - 0x30000) b)

/-- A byte of an atomic latch is written; OLD is read-only (R303). Log entry 96, DEDUCED. -/
def State.latchPoke (s : State) (m o : Nat) (b : Byte) : State :=
  if o < 16 then s.updLatch (3 * m + o / 8) (fun v => BitVec.ofNat 64 (setByte v.toNat (o % 8) b)) else s

/-- The effect of a write that its target accepts. -/
def State.poke (s : State) (m a : Nat) (bs : List Byte) : State :=
  match busTarget a with
  | (.ridge, o) => s.eachByte o bs State.ridgePoke
  | (.store, o) => s.storeWrite o bs
  | (.latch, o) => s.eachByte o bs (fun s o b => s.latchPoke m o b)
  | (.cluster, o) =>
    let c := o / 0x100000
    if o % 0x100000 < 0x70000 then s.eachByte (o % 0x100000) bs (fun s o b => s.framePoke c o b)
    else s.forEach (wordsOf (o % 0x100000) bs) (fun s w => s.clusterPoke c w.1 w.2.1 w.2.2)
  | (.shingle, o) => s.eachByte (o % 0x100000) bs (fun s x b => s.shinglePoke (o / 0x100000) x b)
  | (.bridge, o) => s.forEach (wordsOf o bs) (fun s w => s.writeOff m w.1 w.2.1 w.2.2)
  | (.host, _) => s.hostWrite (s.xlat a) bs
  | _ => s

/-- A write access of master m: how it fails, if it does (R226, R227, R302). -/
def State.sysWrite (s : State) (m a : Nat) (bs : List Byte) (dma : Bool) : State × Option BusErr :=
  if !s.regionOk m a bs.length true then (s.accessDenied 1, some .region)
  else if !protOk m a bs.length then (s.accessDenied 2, some .prot)
  else if !s.accessOk a bs.length true dma then (s.decodeError a m true, some .response)
  else (s.poke m a bs, none)

/-! ### Stores of a core (R223, R238) -/

/-- A local data byte is written. -/
def State.localWrite (s : State) (k a : Nat) (b : Byte) : State :=
  s.updCore k (fun c => c.dataPoke a b)

/-- A byte that core k stores; the detail and the address of a failure. -/
def State.writeData (s : State) (k a : Nat) (b : Byte) : State × Option (Nat × Nat) :=
  if localData k a then (s.localWrite k a b, none)
  else
    let r := s.sysWrite (s.coreMaster k) ((s.core k).winAddr a) [b] false
    (r.1, r.2.map (fun e => (e.detail, a)))

/-- A word that core k stores, low byte first.  At an odd address both halves are checked first; halves within one aligned
32-byte block travel as one transaction, others one after the other, with PARTIAL when the second is refused (R238). -/
def State.writeData2 (s : State) (k a : Nat) (lo hi : Byte) : State × Option (Nat × Nat) :=
  let b := (a + 1) % 65536
  match (if splitAt a then (s.windowCheck k a true).orElse (fun _ => s.windowCheck k b true) else none) with
  | some e => (e.1, some e.2)
  | none =>
    if a % 32 = 31 then
      match s.writeData k a lo with
      | (s1, some e) => (s1, some e)
      | (s1, none) =>
        match s1.writeData k b hi with
        | (s2, some e) => (s2, some (e.1 + 1, e.2))
        | (s2, none) => (s2, none)
    else if localData k a then ((s.localWrite k a lo).localWrite k b hi, none)
    else
      let r := s.sysWrite (s.coreMaster k) ((s.core k).winAddr a) [lo, hi] false
      (r.1, r.2.map (fun e => (e.detail, a)))

/-! ### The commands -/

/-- A read of an atomic alias by a master that R300 issues: what it returns leaves the device. -/
def State.aliasRead (s : State) (m a len : Nat) : State :=
  if masterId m then
    match s.busRead m a len false with
    | (s1, .inr bs) => s1.emit (.readData bs)
    | (s1, .inl _) => s1
  else s

/-- FETCH_ADD: master m reads the fetch-add view of the store (R303). -/
def execFetchAdd (m : Byte) (off len : Nat) (s : State) : Answer :=
  .next (s.aliasRead m.toNat (0x140000000 + off) len)

/-- COMPARE_SWAP: master m reads the compare-swap view of the store (R303). -/
def execCompareSwap (m : Byte) (off len : Nat) (s : State) : Answer :=
  .next (s.aliasRead m.toNat (0x160000000 + off) len)

/-- MAILBOX_WRITE: byte 7 of the mailbox of Shingle k is written (R224). -/
def execMailboxWrite (k : Fin 64) (v : Byte) (s : State) : Answer :=
  .next (if s.powered (40 + k / 16) then s.mailPoke k 7 v else s)

end Sys2Proof.Machine
end

