-- ==== Sys2Proof/Machine/Dma.lean ====
section
/-!
DEFINITION. Machine/Dma.lean: the DMA channels (R295 to R298).  What the channels move is moved, in turns, at the command that ends
one of them.
-/
namespace Sys2Proof.Machine

/-- Cause of a stop in DMA_ERR_INFO (R298). -/
def BusErr.dmaCause : BusErr → Nat
  | .response => 0 | .region => 1 | .prot => 1 | .parity => 2

/-- Bytes of an access of 1, 2 or 4 bytes within one aligned word (R296). -/
def pieceOf (a rem : Nat) : Nat :=
  let r := Nat.min (4 - a % 4) rem
  if a % 2 = 1 then 1 else if 4 ≤ r then 4 else if 2 ≤ r then 2 else 1

/-- Address and bytes of the next access on one side: a fixed address moves up to 4 bytes, the bridge takes pieces, a burst does
not cross a 512-byte boundary (R296). -/
def dmaAccess (a rem : Nat) (fix : Bool) : Nat × Nat :=
  let b := if fix then a / 4 * 4 else a
  if (busTarget b).1 = .bridge then (b, pieceOf b rem)
  else if fix then (b, Nat.min 4 rem)
  else (b, Nat.min rem (512 - b % 512))

/-- The registers of a channel after `k` bytes have been accepted. -/
def Dma.moved (d : Dma) (k : Nat) : Dma :=
  { d with src := if d.srcFix then d.src else (d.src + k) % 2 ^ 40, dst := if d.dstFix then d.dst else (d.dst + k) % 2 ^ 40,
           cnt := d.cnt - k }

/-- A failed access: address, cause, direction. -/
abbrev DmaFail := Nat × BusErr × Bool

/-- Write the bytes of one read at the destination, access by access. -/
def State.dmaPut (s : State) (n : Nat) : Nat → List Byte → State × Option DmaFail
  | 0, _ => (s, none)
  | fuel + 1, bs =>
    if bs.isEmpty then (s, none) else
    let d := s.dma n
    let x := dmaAccess d.dst bs.length d.dstFix
    match s.sysWrite d.master x.1 (bs.take x.2) true with
    | (s1, some e) => (s1, some (x.1, e, true))
    | (s1, none) => (s1.updDma n (fun d => d.moved x.2)).dmaPut n fuel (bs.drop x.2)

/-- The address of the failing block of a read: the byte in error of the store, or the access. -/
def State.failAddr (s : State) (a n : Nat) (e : BusErr) : Nat :=
  match e, busTarget a with
  | .parity, (.store, o) => 0x100000000 + (s.storeBadAt o n).getD o
  | _, _ => a

/-- The busy channel whose turn is next, in round-robin order of channel number (R296). -/
def State.dmaNext (s : State) : Option Nat :=
  ((List.range 16).map (fun i => (s.dmaLast + 1 + i) % 16)).find? (fun n => (s.dma n).busy)

/-- Address and bytes of the next read of channel n when it has `rem` bytes to move. -/
def State.dmaBurst (s : State) (n rem : Nat) : Nat × Nat := dmaAccess (s.dma n).src rem (s.dma n).srcFix

/-- The turn of channel n: one read burst, and the writes of what it brought (R296). -/
def State.dmaTurn (s : State) (n rem : Nat) : State × Option DmaFail :=
  let x := s.dmaBurst n rem
  match ({ s with dmaLast := n }).busRead (s.dma n).master x.1 x.2 true with
  | (s1, .inl e) => (s1, some (s.failAddr x.1 x.2 e, e, false))
  | (s1, .inr bs) => s1.dmaPut n bs.length bs

/-- The busy channels take turns until channel n has moved `rem` bytes, or an access fails, with its channel.  The last turn of
another channel is left to the command that ends it. Log entry 94, DEDUCED. -/
def State.dmaTurns (s : State) (n : Nat) : Nat → Nat → State × Option (Nat × DmaFail)
  | 0, _ => (s, none)
  | fuel + 1, rem =>
    if rem = 0 ∨ (s.dma n).busy = false then (s, none) else
    match s.dmaNext with
    | none => (s, none)
    | some k =>
      let r := if k = n then rem else (s.dma k).cnt
      let x := s.dmaBurst k r
      if k ≠ n ∧ (s.dma k).cnt ≤ x.2 then ({ s with dmaLast := k }).dmaTurns n fuel rem
      else match s.dmaTurn k r with
        | (s1, some f) => (s1, some (k, f))
        | (s1, none) => s1.dmaTurns n fuel (if k = n then rem - x.2 else rem)

/-- The channels that may have issued an access to the failing block last: the failing one, and those of the next three turns whose
read, already in the shared prefetch of four bursts, meets the block (R296, R297). -/
def State.issuers (s : State) (k a : Nat) : List Nat :=
  let next := (((List.range 15).map (fun i => (k + 1 + i) % 16)).filter (fun n => (s.dma n).busy)).take 3
  k :: next.filter (fun n => let x := s.dmaBurst n (s.dma n).cnt; overlaps (a / 32 * 32) 32 x.1 x.2)

/-- A failing access of channel k stops every busy channel; which of the possible last issuers is recorded is free (R297).
Log entry 137, DESIGN CHOICE. -/
def State.dmaHalt (s : State) (k : Nat) (f : DmaFail) : State :=
  let l := s.issuers k f.1
  let x := if l.length = 1 then (s, k) else ({ s with free := s.free + 1 }, l.getD (Config.freeVal s.free % l.length) k)
  let s1 := x.1.forEach ((List.range 16).filter (fun n => (s.dma n).busy)) (fun s n =>
    s.updDma n (fun d => { d with busy := false, stopped := true }))
  let s2 := s1.updDma x.2 (fun d => { d with lastIss := true })
  let s3 := (s2.setReg .dmaErrAddrLo (BitVec.ofNat 32 f.1)).setReg .dmaErrAddrHi (BitVec.ofNat 32 (f.1 / 2 ^ 32 % 256))
  (s3.setReg .dmaErrInfo (BitVec.ofNat 32 (2 ^ 31 + f.2.1.dmaCause * 512 + b2n f.2.2 * 256 + x.2))).raise 492

/-- The turns until channel n has moved `rem` bytes; a failure stops the engine.  Whether all went well. -/
def State.dmaRun (s : State) (n rem : Nat) : State × Bool :=
  match s.dmaTurns n (16 * (rem + 1)) rem with
  | (s1, some (k, f)) => ((s1.dmaHalt k f).afterStop s, false)
  | (s1, none) => (s1.afterStop s, (s1.dma n).busy)

/-- START of channel n by master m (R295); R300 issues no other IDs. -/
def execDmaStart (n : Fin 16) (m : Byte) (s : State) : Answer := .next (if masterId m.toNat then s.dmaStart n m.toNat else s)

/-- ABORT of channel n; `moved`: the bytes whose writes have been issued and are accepted (R295). -/
def execDmaAbort (n : Fin 16) (moved : Nat) (s : State) : Answer :=
  .next (if (s.dma n).busy then
    let r := s.dmaRun n (Nat.min moved (s.dma n).cnt)
    if r.2 then r.1.dmaAbort n else r.1
  else s)

/-- DMA_DONE: the last write of channel n has been accepted (R295, R296); an access that fails stops the engine instead (R297).
Log entry 94, DEDUCED. -/
def execDmaDone (n : Fin 16) (s : State) : Answer :=
  .next (if (s.dma n).busy then
    let r := s.dmaRun n (s.dma n).cnt
    if r.2 then ((r.1.updDma n (fun d => { d with busy := false, done := true })).raise (416 + n)).doneEdge n else r.1
  else s)

/-- DMA_STOP: an access of channel n fails (R297); a channel whose accesses all succeed is not stopped. -/
def execDmaStop (n : Fin 16) (s : State) : Answer :=
  .next (if (s.dma n).busy then
    let r := s.dmaRun n (s.dma n).cnt
    if r.2 then s else r.1
  else s)

end Sys2Proof.Machine
end

