-- ==== Sys2Proof/Machine/Shg.lean ====
section
/-!
DEFINITION. Machine/Shg.lean: how a Shingle or the Ridge runs an instruction: fetch checks (R222, R239, R246, R250), the
run prefix (R235 to R237), pointers, flags (R230), conditions (R231) and I/O ports (R225, R252, R256).
-/
namespace Sys2Proof.Machine

/-- How an instruction fails: vector, EXC_DETAIL, EXC_ADDR (R245). -/
abbrev Exc := Nat × Nat × Nat

/-- Core k can start an instruction: it runs, and does not wait in WAITD. -/
def State.shgReady (s : State) (k : Nat) : Bool := s.coreRuns k && !(s.core k).waitd

/-- Program words of core k (R222). -/
def progSize (k : Nat) : Nat := if k = 64 then 0x8000 else 0x2000

/-- Take the exception of a failed instruction. -/
def State.raiseExc (s : State) (k saved : Nat) (e : Exc) : State := s.takeException k e.1 saved e.2.1 e.2.2

/-- A data access fails: vector 3 (R245). -/
def dataExc (e : Nat × Nat) : Exc := (3, e.1, e.2)

/-- A port access fails: vector 3.  No address faulted: EXC_ADDR takes a free value. -/
def State.portExc (s : State) (detail : Nat) : State × Option Exc :=
  let f := s.freeNext
  (f.1, some (3, detail, f.2 % 65536))

/-- Fetch of program word a, the prefetched one where it is that word: SHG_NX, then parity (R246); a word that one Ridge core holds
in error is corrected (R161), and one that both hold in error stops the Ridge (R162). -/
def State.fetchWord (s : State) (k a : Nat) : State × Option Exc :=
  let p := s.seen k a
  if p.nx then (s, some (1, 0, a))
  else if progSize k ≤ a then (s, some (2, 0, a))
  else if !p.bad then (s, none)
  else if k = 64 then
    let r := s.ridgeRead false a
    if r.2 then (r.1.updCore 64 (fun c => { c with pre := some { p with bad := false } }), none) else (r.1, some (3, 16, a))
  else ((s.bump (.accessFound 5)).uncorrectable, some (3, 16, a))

/-- An instruction outside the set of R235 at core k, which can start one: fetch checks word by word, the reserved encoding or the
misuse of RPT with nothing changed, then the body, which finds PC after the instruction, and the prefetch of the next word as it
stood before the body (R239).  A failure takes its vector with PC as saved PC. -/
def State.shgRun (s : State) (k words cyc : Nat) (res : Bool) (body : State → State × Option Exc) : State :=
  let c := s.core k
  let a := c.fetchAddr
  match s.fetchWord k a with
  | (s1, some e) => s1.raiseExc k c.pc.toNat e
  | (s1, none) =>
    if res || c.rpt then s1.takeException k 2 c.pc.toNat 0 c.pc.toNat
    else match (if words = 2 then s1.fetchWord k ((a + 1) % 65536) else (s1, none)) with
      | (s2, some e) => s2.raiseExc k c.pc.toNat e
      | (s2, none) =>
        match body ((s2.spend k cyc).updCore k (fun x => { x with pc := x.pc + BitVec.ofNat 16 words })) with
        | (s4, none) => s4.updCore k (fun x => x.prefetch (s2.snapshot k ((a + words) % 65536)))
        | (s4, some e) => (s4.updCore k (fun x => { x with pc := c.pc })).raiseExc k c.pc.toNat e

/-- Core k runs an instruction of one or two words and a number of cycles outside the set of R235 (R232, R233, R236, R245, R246).
Log entry 5, DESIGN CHOICE. Log entry 67, DEDUCED. Log entry 68, DEDUCED. -/
def State.shg (s : State) (k words cyc : Nat) (res : Bool) (body : State → State × Option Exc) : State :=
  if !s.shgReady k then s else (s.shgRun k words cyc res body).afterStop s

/-- An instruction of core k that cannot fail once it executes. -/
def State.shgPlain (s : State) (k words cyc : Nat) (res : Bool) (g : Core → Core) : State :=
  s.shg k words cyc res (fun s => (s.updCore k g, none))

/-- One iteration under RPT has been made: CNT falls, and the run ends at 0, or where `stop` says so (R235). -/
def Core.iterated (c : Core) (stop : Bool) : Core :=
  let n := c.cnt - 1
  if n = 0 ∨ stop = true then { c with cnt := n, pc := c.pc + 2, rpt := false } else { c with cnt := n }

/-- A block instruction, or LD or ST, at core k, which can start one.  It is fetched once for a run: between the iterations the core
holds its word, found good. -/
def State.blockRun (s : State) (k cyc : Nat) (res : Bool) (stop : Core → Bool) (body : State → State × Option Exc) : State :=
  let c := s.core k
  let a := c.fetchAddr
  match s.fetchWord k a with
  | (s1, some e) => s1.raiseExc k c.pc.toNat e
  | (s1, none) =>
    let after := s1.snapshot k ((a + 1) % 65536)
    if res then s1.takeException k 2 c.pc.toNat 0 c.pc.toNat
    else if decide (c.rpt = true) && decide (c.cnt = 0) then
      s1.updCore k (fun x => Core.prefetch { x with pc := x.pc + 2, rpt := false } after)
    else match body (s1.spend k cyc) with
      | (s2, none) => s2.updCore k (fun x =>
          let y := if c.rpt then x.iterated (stop x) else { x with pc := x.pc + 1 }
          if y.rpt then { y with pre := some { s.seen k a with bad := false } } else y.prefetch after)
      | (s2, some e) => s2.raiseExc k c.pc.toNat e

/-- A block instruction of core k, or LD or ST: under RPT one iteration of it, without RPT the instruction (R235, R237).
`stop` says whether the core after the iteration ends the run early. Log entry 67, DEDUCED. -/
def State.shgBlock (s : State) (k cyc : Nat) (res : Bool) (stop : Core → Bool) (body : State → State × Option Exc) : State :=
  if !s.shgReady k then s else ((s.blockRun k cyc res stop body).wdBoundary k).afterStop s

/-! ### Pointers (R228) -/

/-- Pointer code p: PX, PY, PZ, SP, CNT. -/
def Core.ptr (c : Core) (p : Nat) : W16 :=
  if p = 0 then c.px else if p = 1 then c.py else if p = 2 then c.pzr else if p = 3 then c.sp else c.cnt

/-- Pointer code p replaced. -/
def Core.setPtr (c : Core) (p : Nat) (v : W16) : Core :=
  if p = 0 then { c with px := v } else if p = 1 then { c with py := v } else if p = 2 then c.setPz v
  else if p = 3 then { c with sp := v } else { c with cnt := v }

/-- The pair n: V(2n) is the low byte (R220). -/
def Core.pair (c : Core) (n : Nat) : W16 := c.vr (2 * n + 1) ++ c.vr (2 * n)

/-- The pair n replaced. -/
def Core.setPair (c : Core) (n : Nat) (v : W16) : Core :=
  (c.setV (2 * n) (v.setWidth 8)).setV (2 * n + 1) ((v >>> 8).setWidth 8)

/-! ### ST (R220, R230, R243, R248) -/

/-- A write of ST: reserved bits read 0, GM stays 1 in the shadow bank, and K can only be cleared. -/
def Core.writeSt (c : Core) (v : Byte) : Core :=
  { c with st := (v &&& 0x0F) ||| (if bit v 7 || c.shadow then 0x80 else 0) ||| (v &&& c.st &&& 0x40) }

/-- The flags Z, N, C, V of ST. -/
def Core.setFlags (c : Core) (z n cf v : Bool) : Core :=
  { c with st := (c.st &&& 0xF0) ||| BitVec.ofNat 8 (b2n z + 2 * b2n n + 4 * b2n cf + 8 * b2n v) }

/-- Z of ST. -/
def Core.setZ (c : Core) (z : Bool) : Core := { c with st := setBit c.st 0 z }

/-- C of ST. -/
def Core.carry (c : Core) : Bool := bit c.st 2

/-- Condition cc holds (R231). -/
def Core.cond (c : Core) (cc : Nat) : Bool :=
  let z := bit c.st 0; let n := bit c.st 1; let cf := bit c.st 2; let v := bit c.st 3
  match cc with
  | 0 => z | 1 => !z | 2 => cf | 3 => !cf | 4 => n | 5 => !n | 6 => v | 7 => !v
  | 8 => cf && !z | 9 => !cf || z | 10 => n == v | 11 => n != v | 12 => !z && (n == v) | 13 => z || (n != v)
  | _ => true

/-! ### Ports (R225) -/

/-- The Ridge is Kept. -/
def State.kept (s : State) : Bool := (s.core 64).kept

/-- KC_HEAD is read: the oldest caller is popped, and KC_CALL takes its call number; 0xFF from an empty queue (R252). -/
def State.kcPop (s : State) : State × Byte :=
  match s.ridge.kcq with
  | [] => (s, 0xFF)
  | n :: q => ({ s with ridge := { s.ridge with kcq := q, kcCall := BitVec.ofNat 8 (s.core n).call } }, BitVec.ofNat 8 n)

/-- A status returned to caller k: ignored unless it is CALLING (R252). -/
def State.kcAnswer (s : State) (k status : Nat) : State :=
  if decide (k < 64) && decide ((s.core k).state = .calling) then
    if status = 0 then s.updCore k (fun c => { c with state := .run }) else s.callError k status
  else s

/-- One byte is read at the system access address, which then advances (R256); the detail of a failure. -/
def State.saRead (s : State) : State × (Nat ⊕ Byte) :=
  match s.busRead (s.coreMaster 64) s.ridge.sa 1 false with
  | (s1, .inl e) => (s1, .inl e.detail)
  | (s1, .inr bs) => ({ s1 with ridge := { s1.ridge with sa := (s1.ridge.sa + 1) % 2 ^ 40 } }, .inr (bs.headD 0))

/-- One byte is written at the system access address, which then advances (R256). -/
def State.saWrite (s : State) (b : Byte) : State × Option Nat :=
  match s.sysWrite (s.coreMaster 64) s.ridge.sa [b] false with
  | (s1, some e) => (s1, some e.detail)
  | (s1, none) => ({ s1 with ridge := { s1.ridge with sa := (s1.ridge.sa + 1) % 2 ^ 40 } }, none)

/-- A kernel port is read by the Kept Ridge. -/
def State.kernelPortRead (s : State) (p : Nat) : State × (Nat ⊕ Byte) :=
  if p = 0x80 then let r := s.kcPop; (r.1, .inr r.2)
  else if p = 0x81 then (s, .inr s.ridge.kcCall)
  else if 0x88 ≤ p ∧ p ≤ 0x8C then (s, .inr (byteOf s.ridge.sa (p - 0x88)))
  else if p = 0x8D then s.saRead
  else (s, .inr 0)

/-- A kernel port is written by the Kept Ridge. -/
def State.kernelPortWrite (s : State) (p : Nat) (b : Byte) : State × Option Nat :=
  if p = 0x82 then ({ s with ridge := { s.ridge with kcTarget := b } }, none)
  else if p = 0x83 then (s.kcAnswer s.ridge.kcTarget.toNat b.toNat, none)
  else if 0x88 ≤ p ∧ p ≤ 0x8C then ({ s with ridge := { s.ridge with sa := setByte s.ridge.sa (p - 0x88) b } }, none)
  else if p = 0x8D then s.saWrite b
  else (s, none)

/-- A port without an effect on reading. Log entry 71, DEDUCED. -/
def State.portValue (s : State) (k p : Nat) : Byte :=
  let c := s.core k
  if p = 0x01 then c.claimHi
  else if p = 0x04 then BitVec.ofNat 8 (s.runPrio (coreTarget k))
  else if 0x08 ≤ p ∧ p < 0x10 then Tab.get (fun _ => 0) c.mbox (p - 0x08)
  else if 0x10 ≤ p ∧ p < 0x14 then (if k = 64 then 0 else byteOf (c.wbase / 4096) (p - 0x10))
  else if p = 0x20 then byteOf c.vb.toNat 0
  else if p = 0x21 then byteOf c.vb.toNat 1
  else if p = 0x24 then byteOf c.spc.toNat 0
  else if p = 0x25 then byteOf c.spc.toNat 1
  else if p = 0x26 then c.sst
  else if p = 0x28 then (if k = 64 then 0x80 else BitVec.ofNat 8 k)
  else if p = 0x30 then BitVec.ofNat 8 c.excVec
  else if p = 0x31 then c.excDetail
  else if p = 0x32 then byteOf c.excAddr.toNat 0
  else if p = 0x33 then byteOf c.excAddr.toNat 1
  else 0

/-- The port is a kernel port (R225). -/
def isKernelPort (k p : Nat) : Bool := decide (k = 64) && decide (0x80 ≤ p) && decide (p < 0x90)

/-- Core k reads a port: the byte, or EXC_DETAIL of vector 3 (R225, R249). -/
def State.portRead (s : State) (k p : Nat) : State × (Nat ⊕ Byte) :=
  if isKernelPort k p then (if s.kept then s.kernelPortRead p else (s, .inl 0))
  else if p = 0 then let r := s.claimPort k; (r.1, .inr r.2)
  else (s, .inr (s.portValue k p))

/-- The held bytes of WINB0 to WINB2 and a byte of WINB3 come in force as WBASE (R223). -/
def Core.commitWinb (c : Core) (b : Byte) : Core :=
  let h (i : Nat) : Nat := (Tab.get (fun _ => 0) c.winb i).toNat
  { c with wbase := 4096 * (h 0 + 256 * h 1 + 65536 * h 2 + 2 ^ 24 * (b.toNat % 16)) }

/-- A write of a port of the core's own registers. -/
def Core.portPoke (c : Core) (ridge : Bool) (p : Nat) (b : Byte) : Core :=
  if p = 0x02 then { c with eoiLo := b }
  else if 0x10 ≤ p ∧ p < 0x13 then (if ridge then c else { c with winb := Tab.set (fun _ => 0) c.winb (p - 0x10) b })
  else if p = 0x13 then (if ridge then c else c.commitWinb b)
  else if p = 0x20 then { c with vbLo := b }
  else if p = 0x21 then { c with vb := (b ++ c.vbLo) &&& 0xFFFE }
  else if p = 0x24 then (if c.shadow then { c with spcLo := b } else c)
  else if p = 0x25 then (if c.shadow then { c with spc := b ++ c.spcLo } else c)
  else if p = 0x26 then (if c.shadow then { c with sst := b &&& 0xCF } else c)
  else c

/-- The watchdog of core k restarts from its period (R247). Log entry 77, DEDUCED. -/
def State.kick (s : State) (k : Nat) : State := let w := s.wdogPeriod; s.updCore k (fun c => { c with wdog := w })

/-- Core k writes a port: EXC_DETAIL of vector 3 where it fails (R225, R249). -/
def State.portWrite (s : State) (k p : Nat) (b : Byte) : State × Option Nat :=
  if isKernelPort k p then (if s.kept then s.kernelPortWrite p b else (s, some 0))
  else if p = 0x03 then (s.eoiPort k b, none)
  else if p = 0x18 then (s.kick k, none)
  else (s.updCore k (fun c => c.portPoke (decide (k = 64)) p b), none)

/-! ### Stack -/

/-- What PUSHP stores: pointer p once SP has fallen by 2 (R229). -/
def Core.pushed (c : Core) (p : Nat) : W16 := if p = 3 then c.sp - 2 else c.ptr p

/-- Push a word: SP falls by 2, low byte at SP (R229). -/
def State.pushWord (s : State) (k : Nat) (v : W16) : State × Option Exc :=
  let sp := (s.core k).sp - 2
  match s.writeData2 k sp.toNat (v.setWidth 8) ((v >>> 8).setWidth 8) with
  | (s1, some e) => (s1, some (dataExc e))
  | (s1, none) => (s1.updCore k (fun c => { c with sp := sp }), none)

/-- Pop a word: SP rises by 2. -/
def State.popWord (s : State) (k : Nat) : State × (Exc ⊕ W16) :=
  match s.readData2 k (s.core k).sp.toNat with
  | (s1, .inl e) => (s1, .inl (dataExc e))
  | (s1, .inr v) => (s1.updCore k (fun c => { c with sp := c.sp + 2 }), .inr v)

/-- Push the address after the call, then continue at an address (R229). -/
def State.callTo (s : State) (k : Nat) (a : W16) : State × Option Exc :=
  match s.pushWord k (s.core k).pc with
  | (s1, some e) => (s1, some e)
  | (s1, none) => (s1.updCore k (fun c => { c with pc := a }), none)

end Sys2Proof.Machine
end

