-- ==== Sys2Proof/Machine/ShgAlu.lean ====
section
/-!
DEFINITION. Machine/ShgAlu.lean: arithmetic, logic and shifts of the Shingle set, with their flags (R229, R230, R234).
-/
namespace Sys2Proof.Machine

/-- A byte result with its flags Z and N, and the C and V given. -/
structure ByteRes where
  /-- The result. -/
  val : Byte
  /-- Z. -/
  z : Bool
  /-- N. -/
  n : Bool
  /-- C. -/
  c : Bool
  /-- V. -/
  v : Bool
deriving DecidableEq, Repr

/-- A result with Z and N from it. -/
def byteRes (x : Byte) (c v : Bool) : ByteRes := ⟨x, decide (x = 0), bit x 7, c, v⟩

/-- a + b + carry: C is the carry out, V the signed overflow (R230). -/
def byteAdd (a b : Byte) (ci : Bool) : ByteRes :=
  let x := a.toNat + b.toNat + b2n ci
  let r : Byte := BitVec.ofNat 8 x
  byteRes r (decide (256 ≤ x)) (decide (r.toInt ≠ a.toInt + b.toInt + b2n ci))

/-- a - b - (1 - ci): C is the not-borrow, V the signed overflow (R230). -/
def byteSub (a b : Byte) (ci : Bool) : ByteRes :=
  let r : Byte := a - b - (if ci then 0 else 1)
  byteRes r (decide (b.toNat + (1 - b2n ci) ≤ a.toNat)) (decide (r.toInt ≠ a.toInt - b.toInt - (1 - b2n ci : Nat)))

/-- A logic result: C = V = 0 (R230). -/
def byteLogic (x : Byte) : ByteRes := byteRes x false false

/-- A shift result with the bit shifted out (R230). -/
def byteShift (x : Byte) (out : Bool) : ByteRes := byteRes x out false

/-- The flags of a result. -/
def Core.flagsOf (c : Core) (r : ByteRes) : Core := c.setFlags r.z r.n r.c r.v

/-- V register d takes a result, with its flags. -/
def Core.putRes (c : Core) (d : Nat) (r : ByteRes) : Core := (c.setV d r.val).flagsOf r

/-- SHG_ADD (R230). -/
def execShgAdd (k : Fin 65) (d r : Fin 8) (s : State) : Answer :=
  .next (s.shgPlain k 1 1 false (fun c => c.putRes d (byteAdd (c.vr d) (c.vr r) false)))

/-- SHG_ADC (R230). -/
def execShgAdc (k : Fin 65) (d r : Fin 8) (s : State) : Answer :=
  .next (s.shgPlain k 1 1 false (fun c => c.putRes d (byteAdd (c.vr d) (c.vr r) c.carry)))

/-- SHG_SUB (R230). -/
def execShgSub (k : Fin 65) (d r : Fin 8) (s : State) : Answer :=
  .next (s.shgPlain k 1 1 false (fun c => c.putRes d (byteSub (c.vr d) (c.vr r) true)))

/-- SHG_SBC (R230). -/
def execShgSbc (k : Fin 65) (d r : Fin 8) (s : State) : Answer :=
  .next (s.shgPlain k 1 1 false (fun c => c.putRes d (byteSub (c.vr d) (c.vr r) c.carry)))

/-- SHG_AND (R230). -/
def execShgAnd (k : Fin 65) (d r : Fin 8) (s : State) : Answer :=
  .next (s.shgPlain k 1 1 false (fun c => c.putRes d (byteLogic (c.vr d &&& c.vr r))))

/-- SHG_OR (R230). -/
def execShgOr (k : Fin 65) (d r : Fin 8) (s : State) : Answer :=
  .next (s.shgPlain k 1 1 false (fun c => c.putRes d (byteLogic (c.vr d ||| c.vr r))))

/-- SHG_XOR (R230). -/
def execShgXor (k : Fin 65) (d r : Fin 8) (s : State) : Answer :=
  .next (s.shgPlain k 1 1 false (fun c => c.putRes d (byteLogic (c.vr d ^^^ c.vr r))))

/-- SHG_CMP (R230). -/
def execShgCmp (k : Fin 65) (d r : Fin 8) (s : State) : Answer :=
  .next (s.shgPlain k 1 1 false (fun c => c.flagsOf (byteSub (c.vr d) (c.vr r) true)))

/-- SHG_ADDI (R230). -/
def execShgAddi (k : Fin 65) (d : Fin 8) (imm : Byte) (s : State) : Answer :=
  .next (s.shgPlain k 2 2 false (fun c => c.putRes d (byteAdd (c.vr d) imm false)))

/-- SHG_ADCI (R230). -/
def execShgAdci (k : Fin 65) (d : Fin 8) (imm : Byte) (s : State) : Answer :=
  .next (s.shgPlain k 2 2 false (fun c => c.putRes d (byteAdd (c.vr d) imm c.carry)))

/-- SHG_SUBI (R230). -/
def execShgSubi (k : Fin 65) (d : Fin 8) (imm : Byte) (s : State) : Answer :=
  .next (s.shgPlain k 2 2 false (fun c => c.putRes d (byteSub (c.vr d) imm true)))

/-- SHG_ANDI (R230). -/
def execShgAndi (k : Fin 65) (d : Fin 8) (imm : Byte) (s : State) : Answer :=
  .next (s.shgPlain k 2 2 false (fun c => c.putRes d (byteLogic (c.vr d &&& imm))))

/-- SHG_ORI (R230). -/
def execShgOri (k : Fin 65) (d : Fin 8) (imm : Byte) (s : State) : Answer :=
  .next (s.shgPlain k 2 2 false (fun c => c.putRes d (byteLogic (c.vr d ||| imm))))

/-- SHG_XORI (R230). -/
def execShgXori (k : Fin 65) (d : Fin 8) (imm : Byte) (s : State) : Answer :=
  .next (s.shgPlain k 2 2 false (fun c => c.putRes d (byteLogic (c.vr d ^^^ imm))))

/-- SHG_CMPI (R230). -/
def execShgCmpi (k : Fin 65) (d : Fin 8) (imm : Byte) (s : State) : Answer :=
  .next (s.shgPlain k 2 2 false (fun c => c.flagsOf (byteSub (c.vr d) imm true)))

/-- SHG_MOVI (R229). -/
def execShgMovi (k : Fin 65) (d : Fin 8) (imm : Byte) (s : State) : Answer :=
  .next (s.shgPlain k 2 2 false (fun c => c.setV d imm))

/-- SHG_MOV (R229). -/
def execShgMov (k : Fin 65) (d r : Fin 8) (s : State) : Answer :=
  .next (s.shgPlain k 1 1 false (fun c => c.setV d (c.vr r)))

/-- SHG_MUL: Vd:Vd+1 = Vd x Vs, Z and N of the product, C where its high byte is not 0; odd d is reserved (R230, R232, R234). -/
def execShgMul (k : Fin 65) (d r : Fin 8) (s : State) : Answer :=
  .next (s.shgPlain k 1 6 (decide (d.val % 2 = 1)) (fun c =>
    let p : W16 := (c.vr d).setWidth 16 * (c.vr r).setWidth 16
    (c.setPair (d.val / 2) p).setFlags (decide (p = 0)) (bit p 15) (decide (256 ≤ p.toNat)) false))

/-- SHG_INC (R230). -/
def execShgInc (k : Fin 65) (r : Fin 8) (s : State) : Answer :=
  .next (s.shgPlain k 1 1 false (fun c => c.putRes r (let x := byteAdd (c.vr r) 1 false; { x with c := c.carry })))

/-- SHG_DEC (R230). -/
def execShgDec (k : Fin 65) (r : Fin 8) (s : State) : Answer :=
  .next (s.shgPlain k 1 1 false (fun c => c.putRes r (let x := byteSub (c.vr r) 1 true; { x with c := c.carry })))

/-- SHG_NOT (R230). -/
def execShgNot (k : Fin 65) (r : Fin 8) (s : State) : Answer :=
  .next (s.shgPlain k 1 1 false (fun c => c.putRes r (byteLogic (~~~(c.vr r)))))

/-- SHG_NEG (R230). -/
def execShgNeg (k : Fin 65) (r : Fin 8) (s : State) : Answer :=
  .next (s.shgPlain k 1 1 false (fun c => c.putRes r (byteSub 0 (c.vr r) true)))

/-- SHG_TST (R230). -/
def execShgTst (k : Fin 65) (r : Fin 8) (s : State) : Answer :=
  .next (s.shgPlain k 1 1 false (fun c => c.flagsOf (byteLogic (c.vr r))))

/-- SHG_SWAP (R230). -/
def execShgSwap (k : Fin 65) (r : Fin 8) (s : State) : Answer :=
  .next (s.shgPlain k 1 1 false (fun c => c.putRes r (byteLogic ((c.vr r).rotateLeft 4))))

/-- SHG_CLR (R230). -/
def execShgClr (k : Fin 65) (r : Fin 8) (s : State) : Answer :=
  .next (s.shgPlain k 1 1 false (fun c => c.putRes r (byteLogic 0)))

/-- SHG_SHL (R230). -/
def execShgShl (k : Fin 65) (r : Fin 8) (s : State) : Answer :=
  .next (s.shgPlain k 1 1 false (fun c => c.putRes r (byteShift (c.vr r <<< 1) (bit (c.vr r) 7))))

/-- SHG_SHR (R230). -/
def execShgShr (k : Fin 65) (r : Fin 8) (s : State) : Answer :=
  .next (s.shgPlain k 1 1 false (fun c => c.putRes r (byteShift (c.vr r >>> 1) (bit (c.vr r) 0))))

/-- SHG_ASR (R230). -/
def execShgAsr (k : Fin 65) (r : Fin 8) (s : State) : Answer :=
  .next (s.shgPlain k 1 1 false (fun c => c.putRes r (byteShift ((c.vr r).sshiftRight 1) (bit (c.vr r) 0))))

/-- SHG_ROL (R230). -/
def execShgRol (k : Fin 65) (r : Fin 8) (s : State) : Answer :=
  .next (s.shgPlain k 1 1 false (fun c => c.putRes r (byteShift ((c.vr r).rotateLeft 1) (bit (c.vr r) 7))))

/-- SHG_ROR (R230). -/
def execShgRor (k : Fin 65) (r : Fin 8) (s : State) : Answer :=
  .next (s.shgPlain k 1 1 false (fun c => c.putRes r (byteShift ((c.vr r).rotateRight 1) (bit (c.vr r) 0))))

/-- SHG_RCL (R230). -/
def execShgRcl (k : Fin 65) (r : Fin 8) (s : State) : Answer :=
  .next (s.shgPlain k 1 1 false (fun c => c.putRes r (byteShift (setBit (c.vr r <<< 1) 0 c.carry) (bit (c.vr r) 7))))

/-- SHG_RCR (R230). -/
def execShgRcr (k : Fin 65) (r : Fin 8) (s : State) : Answer :=
  .next (s.shgPlain k 1 1 false (fun c => c.putRes r (byteShift (setBit (c.vr r >>> 1) 7 c.carry) (bit (c.vr r) 0))))

/-! ### Pointers (R228, R230, R232) -/

/-- SHG_MOVP: pointer p, or ST, takes the pair n; codes 6 and 7 are reserved. -/
def execShgMovp (k : Fin 65) (p : Fin 8) (n : Fin 4) (s : State) : Answer :=
  .next (s.shgPlain k 1 1 (decide (6 ≤ p.val)) (fun c => if p = 5 then c.writeSt (c.vr (2 * n)) else c.setPtr p (c.pair n)))

/-- SHG_MOVV: the pair n takes pointer p, or ST with 0 above it; codes 6 and 7 are reserved. -/
def execShgMovv (k : Fin 65) (p : Fin 8) (n : Fin 4) (s : State) : Answer :=
  .next (s.shgPlain k 1 1 (decide (6 ≤ p.val)) (fun c => c.setPair n (if p = 5 then c.st.setWidth 16 else c.ptr p)))

/-- A pointer changed by INCP or DECP: Z of the 16-bit result. -/
def Core.stepPtr (c : Core) (p : Nat) (v : W16) : Core := (c.setPtr p v).setZ (decide (v = 0))

/-- SHG_INCP: codes 5 to 7 are reserved. -/
def execShgIncp (k : Fin 65) (p : Fin 8) (s : State) : Answer :=
  .next (s.shgPlain k 1 1 (decide (5 ≤ p.val)) (fun c => c.stepPtr p (c.ptr p + 1)))

/-- SHG_DECP: codes 5 to 7 are reserved. -/
def execShgDecp (k : Fin 65) (p : Fin 8) (s : State) : Answer :=
  .next (s.shgPlain k 1 1 (decide (5 ≤ p.val)) (fun c => c.stepPtr p (c.ptr p - 1)))

/-- SHG_LDIP: q = 0 PX, 1 PY, 2 PZ, 3 CNT. -/
def execShgLdip (k : Fin 65) (q : Fin 4) (a : W16) (s : State) : Answer :=
  .next (s.shgPlain k 2 2 false (fun c => c.setPtr (if q = 3 then 4 else q.val) a))

end Sys2Proof.Machine
end

