-- ==== Sys2Proof/Machine/ShgMem.lean ====
section
/-!
DEFINITION. Machine/ShgMem.lean: loads, stores, stack, block, program-memory and port instructions of the Shingle set (R229, R235
to R239).
-/
namespace Sys2Proof.Machine

/-- A byte is loaded into V register r. -/
def State.loadV (s : State) (k r a : Nat) : State × Option Exc :=
  match s.readData k a with
  | (s1, .inl e) => (s1, some (dataExc e))
  | (s1, .inr b) => (s1.updCore k (fun c => c.setV r b), none)

/-- A byte is stored. -/
def State.storeV (s : State) (k a : Nat) (b : Byte) : State × Option Exc :=
  match s.writeData k a b with
  | (s1, some e) => (s1, some (dataExc e))
  | (s1, none) => (s1, none)

/-- Change the core after a step that has not failed. -/
def andCore (k : Nat) (x : State × Option Exc) (g : Core → Core) : State × Option Exc :=
  match x with
  | (s, none) => (s.updCore k g, none)
  | (s, some e) => (s, some e)

/-- SHG_PUSH: SP falls by 1, Vr stored there (R229). -/
def execShgPush (k : Fin 65) (r : Fin 8) (s : State) : Answer :=
  .next (s.shg k 1 2 false (fun s =>
    let c := s.core k
    andCore k (s.storeV k (c.sp - 1).toNat (c.vr r)) (fun c => { c with sp := c.sp - 1 })))

/-- SHG_POP (R229). -/
def execShgPop (k : Fin 65) (r : Fin 8) (s : State) : Answer :=
  .next (s.shg k 1 2 false (fun s =>
    andCore k (s.loadV k r (s.core k).sp.toNat) (fun c => { c with sp := c.sp + 1 })))

/-- SHG_PUSHP: SP falls by 2, then p is stored there; pointer codes 5 to 7 are reserved (R229, R232). Log entry 138, DEDUCED. -/
def execShgPushp (k : Fin 65) (p : Fin 8) (s : State) : Answer :=
  .next (s.shg k 1 3 (decide (5 ≤ p.val)) (fun s => s.pushWord k ((s.core k).pushed p)))

/-- SHG_POPP: p takes the word at SP, then SP rises by 2, from that word where p is SP (R229, R232). Log entry 138, DEDUCED. -/
def execShgPopp (k : Fin 65) (p : Fin 8) (s : State) : Answer :=
  .next (s.shg k 1 3 (decide (5 ≤ p.val)) (fun s =>
    match s.popWord k with
    | (s1, .inl e) => (s1, some e)
    | (s1, .inr v) => (s1.updCore k (fun c => c.setPtr p (if p = 3 then v + 2 else v)), none)))

/-- SHG_LDA (R229). -/
def execShgLda (k : Fin 65) (r : Fin 8) (a : W16) (s : State) : Answer :=
  .next (s.shg k 2 3 false (fun s => s.loadV k r a.toNat))

/-- SHG_STA (R229). -/
def execShgSta (k : Fin 65) (r : Fin 8) (a : W16) (s : State) : Answer :=
  .next (s.shg k 2 3 false (fun s => s.storeV k a.toNat ((s.core k).vr r)))

/-! ### Data modes (R229, R238) -/

/-- Address of data mode m over pointer p. -/
def Core.modeAddr (c : Core) (p m : Nat) : W16 := if m = 2 then c.ptr p - 1 else c.ptr p

/-- The pointer after data mode m. -/
def Core.modeStep (c : Core) (p m : Nat) : Core :=
  if m = 0 then c else if m = 1 then c.setPtr p (c.ptr p + 1) else if m = 2 then c.setPtr p (c.ptr p - 1) else c.setPtr p (c.ptr p + 2)

/-- Cycles of LD and ST: 2, and 3 for a split access (R229). -/
def Core.modeCycles (c : Core) (p m : Nat) : Nat := if m = 3 ∧ (c.ptr p).toNat % 2 = 1 then 3 else 2

/-- SHG_LD: mode 3 loads Vr and Vr+1, both or neither; odd r is reserved there (R232, R238). -/
def execShgLd (k : Fin 65) (p m : Fin 4) (r : Fin 8) (s : State) : Answer :=
  .next (s.shgBlock k ((s.core k).modeCycles p m) (decide (m = 3) && decide (r.val % 2 = 1)) (fun _ => false) (fun s =>
    let a := ((s.core k).modeAddr p m).toNat
    andCore k (if m = 3 then
        match s.readData2 k a with
        | (s1, .inl e) => (s1, some (dataExc e))
        | (s1, .inr v) => (s1.updCore k (fun c => c.setPair (r.val / 2) v), none)
      else s.loadV k r a) (fun c => c.modeStep p m)))

/-- SHG_ST: mode 3 stores Vr at p and Vr+1 at p + 1; odd r is reserved there (R232, R238). -/
def execShgSt (k : Fin 65) (p m : Fin 4) (r : Fin 8) (s : State) : Answer :=
  .next (s.shgBlock k ((s.core k).modeCycles p m) (decide (m = 3) && decide (r.val % 2 = 1)) (fun _ => false) (fun s =>
    let c := s.core k
    let a := (c.modeAddr p m).toNat
    andCore k (if m = 3 then
        match s.writeData2 k a (c.vr r) (c.vr (r + 1)) with
        | (s1, some e) => (s1, some (dataExc e))
        | (s1, none) => (s1, none)
      else s.storeV k a (c.vr r)) (fun c => c.modeStep p m)))

/-! ### Block instructions (R229, R235, R237) -/

/-- The store that ends an iteration begun at `s` and now at `s1`.  When it fails, nothing of the iteration is performed: what
its read did is undone (R237). Log entry 69, DEDUCED. -/
def State.storeOrUndo (s s1 : State) (k a : Nat) (b : Byte) (g : Core → Core) : State × Option Exc :=
  match s1.storeV k a b with
  | (s2, none) => (s2.updCore k g, none)
  | (_, some _) => s.storeV k a b

/-- SHG_CPYB: [PY] = [PX]. -/
def execShgCpyb (k : Fin 65) (s : State) : Answer :=
  .next (s.shgBlock k 3 false (fun _ => false) (fun s =>
    let c := s.core k
    match s.readData k c.px.toNat with
    | (s1, .inl e) => (s1, some (dataExc e))
    | (s1, .inr b) => s.storeOrUndo s1 k c.py.toNat b (fun c => { c with px := c.px + 1, py := c.py + 1 })))

/-- SHG_FILB: [PY] = V0. -/
def execShgFilb (k : Fin 65) (s : State) : Answer :=
  .next (s.shgBlock k 2 false (fun _ => false) (fun s =>
    let c := s.core k
    andCore k (s.storeV k c.py.toNat (c.vr 0)) (fun c => { c with py := c.py + 1 })))

/-- SHG_CMPB: flags of [PX] - [PY]; under RPT a difference ends the run. -/
def execShgCmpb (k : Fin 65) (s : State) : Answer :=
  .next (s.shgBlock k 3 false (fun c => !bit c.st 0) (fun s =>
    let c := s.core k
    match s.readData k c.px.toNat with
    | (s1, .inl e) => (s1, some (dataExc e))
    | (s1, .inr x) =>
      match s1.readData k c.py.toNat with
      | (_, .inl e) => ((s.readData k c.py.toNat).1, some (dataExc e))
      | (s2, .inr y) =>
        (s2.updCore k (fun c => Core.flagsOf { c with px := c.px + 1, py := c.py + 1 } (byteSub x y true)), none)))

/-- SHG_PRDB: [PY] = port PZ[7:0]. -/
def execShgPrdb (k : Fin 65) (s : State) : Answer :=
  .next (s.shgBlock k 3 false (fun _ => false) (fun s =>
    let c := s.core k
    match s.portRead k (fld c.pzr 7 0) with
    | (s1, .inl d) => s1.portExc d
    | (s1, .inr b) => s.storeOrUndo s1 k c.py.toNat b (fun c => { c with py := c.py + 1 })))

/-- SHG_PWRB: port PZ[7:0] = [PX]. -/
def execShgPwrb (k : Fin 65) (s : State) : Answer :=
  .next (s.shgBlock k 3 false (fun _ => false) (fun s =>
    let c := s.core k
    match s.readData k c.px.toNat with
    | (s1, .inl e) => (s1, some (dataExc e))
    | (s1, .inr b) =>
      match s1.portWrite k (fld c.pzr 7 0) b with
      | (s2, some d) => s2.portExc d
      | (s2, none) => (s2.updCore k (fun c => { c with px := c.px + 1 }), none)))

/-! ### Ports (R225) -/

/-- Vr = port p. -/
def State.inPort (s : State) (k r p : Nat) : State × Option Exc :=
  match s.portRead k p with
  | (s1, .inl d) => s1.portExc d
  | (s1, .inr b) => (s1.updCore k (fun c => c.setV r b), none)

/-- Port p = Vr. -/
def State.outPort (s : State) (k r p : Nat) : State × Option Exc :=
  match s.portWrite k p ((s.core k).vr r) with
  | (s1, some d) => s1.portExc d
  | (s1, none) => (s1, none)

/-- SHG_IN (R225). -/
def execShgIn (k : Fin 65) (r : Fin 8) (port : Byte) (s : State) : Answer :=
  .next (s.shg k 2 3 false (fun s => s.inPort k r port.toNat))

/-- SHG_OUT (R225). -/
def execShgOut (k : Fin 65) (r : Fin 8) (port : Byte) (s : State) : Answer :=
  .next (s.shg k 2 3 false (fun s => s.outPort k r port.toNat))

/-- SHG_IN_PZ (R229). -/
def execShgInPz (k : Fin 65) (r : Fin 8) (s : State) : Answer :=
  .next (s.shg k 1 2 false (fun s => s.inPort k r (fld (s.core k).pzr 7 0)))

/-- SHG_OUT_PZ (R229). -/
def execShgOutPz (k : Fin 65) (r : Fin 8) (s : State) : Answer :=
  .next (s.shg k 1 2 false (fun s => s.outPort k r (fld (s.core k).pzr 7 0)))

/-! ### Program memory (R239, R249, R250) -/

/-- STP of core k may write program word a: its block under SHG_PW on a Shingle, RAM on a Kept Ridge. -/
def State.stpOk (s : State) (k a : Nat) : Bool :=
  if k = 64 then s.kept && decide (0x2000 ≤ a) else bit (s.reg (.shgPw k)) (a / 256)

/-- SHG_LDP: Vr = word[7:0], Vr+1 = word[11:8], PZ rises; odd r is reserved (R229, R232, R239). -/
def execShgLdp (k : Fin 65) (r : Fin 8) (s : State) : Answer :=
  .next (s.shg k 1 3 (decide (r.val % 2 = 1)) (fun s =>
    let a := (s.core k).pzr.toNat
    let done (s : State) : State × Option Exc :=
      (s.updCore k (fun c => (c.setPair (r.val / 2) ((s.progWord k a).setWidth 16)).setPz (c.pzr + 1)), none)
    if progSize k ≤ a then (s, some (3, 0, a))
    else if k.val = 64 then
      let r := s.ridgeRead false a
      if r.2 then done r.1 else (r.1, some (3, 16, a))
    else if (s.core k).progBad.contains a then ((s.bump (.accessFound 5)).uncorrectable, some (3, 16, a))
    else done s))

/-- SHG_STP: the word at PZ is Vr+1[3:0] above Vr, PZ rises; odd r is reserved (R229, R232, R239).  The word already prefetched stays
as it was. -/
def execShgStp (k : Fin 65) (r : Fin 8) (s : State) : Answer :=
  .next (s.shg k 1 3 (decide (r.val % 2 = 1)) (fun s =>
    let a := (s.core k).pzr.toNat
    if progSize k ≤ a then (s, some (3, 0, a))
    else if !s.stpOk k a then (s, some (4, 0, a))
    else
      (s.updCore k (fun c =>
        (c.progPoke a (BitVec.ofNat 12 ((c.vr r).toNat + 256 * (c.vr (r.val + 1)).toNat))).setPz (c.pzr + 1)), none)))

end Sys2Proof.Machine
end

