-- ==== Sys2Proof/Machine/Kernel.lean ====
section
/-!
DEFINITION. Machine/Kernel.lean: the services that the kernel on the Ridge provides to a calling Shingle (R252, R253, R260).
-/
namespace Sys2Proof.Machine

/-- The kernel can serve call n of Shingle k: it runs, and k is CALLING with that number, popped or the oldest caller. -/
def State.serves (s : State) (k n : Nat) : Bool :=
  !s.ridge.stopped && !s.ridge.clearing && s.kept && decide (s.misc.boot = .done) &&
    decide ((s.core k).state = .calling) && decide ((s.core k).call = n) &&
    (decide (s.ridge.kcq.head? = some k) || !s.ridge.kcq.contains k)

/-- V register n of a caller, in the bank its state image shows (R224, R252). -/
def State.arg (s : State) (k n : Nat) : Byte := (s.core k).vAt (s.core k).imgBank n

/-- Results for a caller's V registers from 0 up. -/
def State.putArgs (s : State) (k : Nat) (bs : List Byte) : State :=
  s.forEach (List.range bs.length) (fun s i => s.updCore k (fun c => c.setVAt c.imgBank i (bs.getD i 0)))

/-- Little-endian value of n argument registers from i up. -/
def State.argNat (s : State) (k i n : Nat) : Nat := leNat ((List.range n).map (fun j => s.arg k (i + j)))

/-- The n local bytes at a caller's PX; none where they leave local RAM (R253). -/
def State.argBytes (s : State) (k n : Nat) : Option (List Byte) :=
  let c := s.core k
  if c.px.toNat + n ≤ 0x4000 then some (Memory.readList c.data c.px.toNat n) else none

/-- A service for Shingle k: the call leaves the queue, the service acts, and its status resumes the caller; DENIED where the
host's policy refuses it (R252, R253). Log entry 75, DESIGN CHOICE. -/
def State.serve (s : State) (k n : Nat) (denied : Bool) (g : State → State × Nat) : State :=
  if s.serves k n then
    let s1 := { s with ridge := { s.ridge with kcq := s.ridge.kcq.filter (· ≠ k) } }
    let r := if denied then (s1, 3) else g s1
    r.1.kcAnswer k r.2
  else s

/-- The oldest Shingle that waits with a reserved call, 6 to 15, which the kernel can answer: NO_SERVICE (R253). -/
def State.noService (s : State) : State :=
  match s.callers.find? (fun k => decide (6 ≤ (s.core k).call) && s.serves k (s.core k).call) with
  | some k => s.serve k (s.core k).call false (fun s => (s, 1))
  | none => s

/-- VERSION (R253). -/
def execSvcVersion (k : Fin 64) (denied : Bool) (s : State) : Answer :=
  .next (s.serve k 0 denied (fun s => (s.putArgs k (leBytes 2 Config.kernelVersion.toNat ++ [5]), 0)))

/-- WALLCLOCK (R253). -/
def execSvcWallclock (k : Fin 64) (denied : Bool) (s : State) : Answer :=
  .next (s.serve k 1 denied (fun s => (s.putArgs k (leBytes 4 s.cald.sec ++ leBytes 4 (s.cald.sub * 1000000000 / 32768)), 0)))

/-- LOG: code V0, data V1 to V4; the spec names no origin for a LOG call: a free value (R253, R260). -/
def execSvcLog (k : Fin 64) (denied : Bool) (s : State) : Answer :=
  .next (s.serve k 2 denied (fun s =>
    let f := s.freeNext
    (f.1.logAdd (f.2 % 65536) (s.arg k 0).toNat (s.argNat k 1 4), 0)))

/-- MAILBOX: the 8 bytes at PX go to the mailbox of Shingle V0; a Shingle without power is out of range (R253). -/
def execSvcMailbox (k : Fin 64) (denied : Bool) (s : State) : Answer :=
  .next (s.serve k 3 denied (fun s =>
    let t := (s.arg k 0).toNat
    match s.argBytes k 8 with
    | some bs => if decide (t < 64) && s.powered (40 + t / 16) then (s.eachByte 0 bs (fun s i b => s.mailPoke t i b), 0) else (s, 2)
    | none => (s, 2)))

/-- RAISE: source V0:V1 of 496 to 511 (R253). -/
def execSvcRaise (k : Fin 64) (denied : Bool) (s : State) : Answer :=
  .next (s.serve k 4 denied (fun s =>
    let i := s.argNat k 0 2
    if 496 ≤ i ∧ i < 512 then (s.raise i, 0) else (s, 2)))

/-- HOST_NOTE: a NOTE entry with the 12 bytes at PX (R253, R280). -/
def execSvcHostNote (k : Fin 64) (denied : Bool) (s : State) : Answer :=
  .next (s.serve k 5 denied (fun s =>
    match s.argBytes k 12 with
    | some bs => (s.postEvent ⟨evBytes (leAt bs 0 8) (leAt bs 8 4) k 2 0, none⟩, 0)
    | none => (s, 2)))

end Sys2Proof.Machine
end

