-- ==== Sys2Proof/Machine/LoadStore.lean ====
section
/-!
DEFINITION. Machine/LoadStore.lean: the operations of LSX and LSY (R66, R67, R88, R89) and of TBL (R68, R90).
-/
namespace Sys2Proof.Machine

/-- LD: a D register, readable at +3. -/
def execLd (c : Fin 32) (u : Fin 2) (ag : Fin 8) (mode : AgMode) (r : Fin 32) (s : State) : Answer :=
  .next (s.issue c (fun x => loadOp x u ag mode r))

/-- LDD: a D pair, readable at +3; an odd address raises ALIGN (R32). -/
def execLdd (c : Fin 32) (u : Fin 2) (ag : Fin 8) (mode : AgMode) (r : Fin 32) (s : State) : Answer :=
  .next (s.issue c (fun x => loadPair x u ag mode r))

/-- No flags: stores without F. -/
def noFlags : FlagUpd := ⟨false, false, false, false, false⟩

/-- ST: a D register, in memory at +2. -/
def execSt (c : Fin 32) (u : Fin 2) (ag : Fin 8) (mode : AgMode) (r : Fin 32) (s : State) : Answer :=
  .next (s.issue c (fun x => storeOp x u ag mode [] (x.dr r) false noFlags))

/-- STD: a D pair, in memory at +2. -/
def execStd (c : Fin 32) (u : Fin 2) (ag : Fin 8) (mode : AgMode) (r : Fin 32) (s : State) : Answer :=
  .next (s.issue c (fun x => storePair x u ag mode [(odd r, tPair)] (x.dr r) (x.dr (r + 1)) false noFlags))

/-- STS: ACCk scaled by SCL, one word; F writes FLG at +2 (R67, R88). -/
def execSts (c : Fin 32) (u : Fin 2) (f : Bool) (ag : Fin 8) (mode : AgMode) (k : Fin 8) (s : State) : Answer :=
  .next (s.issue c (fun x => let w := stsRes (x.ac k) x.scl; storeOp x u ag mode [] w.v f w.f))

/-- STSC: ACCk and ACCk+1, each as STS, the real word at the even address (R67, R89). -/
def execStsc (c : Fin 32) (u : Fin 2) (f : Bool) (ag : Fin 8) (mode : AgMode) (k : Fin 8) (s : State) : Answer :=
  .next (s.issue c (fun x =>
    let a := stsRes (x.ac k) x.scl
    let b := stsRes (x.ac (k + 1)) x.scl
    storePair x u ag mode [(odd k, tPair)] a.v b.v f
      ⟨a.f.z && b.f.z, a.f.n, false, a.f.v || b.f.v, a.f.sat || b.f.sat⟩))

/-- STSD: ACCk scaled and rounded to an integer of 32 bits (R67, R89). -/
def execStsd (c : Fin 32) (u : Fin 2) (f : Bool) (ag : Fin 8) (mode : AgMode) (k : Fin 8) (s : State) : Answer :=
  .next (s.issue c (fun x =>
    let w := stsdRes (x.ac k) x.scl
    storePair x u ag mode [] (w.v.setWidth 16) ((w.v >>> 16).setWidth 16) f w.f))

/-! ### TBL (R68, R90) -/

/-- A TBL operation on the C words at virtual addresses: UNMAPPED when one is not mapped (R31). -/
def tblOp (x : Cluster) (traps : List (Bool × Nat)) (virt : List Nat) (due dd : Nat) (g : List W16 → W16) : Op :=
  let ps := virt.map (x.phys 3)
  let ok := ps.all Option.isSome
  let qs := ps.filterMap id
  { Op.plain 6 2 with
    traps := causesOf traps, fault := if ok then none else some cUnmapped,
    page := (virt.find? (fun v => (x.phys 3 v).isNone)).map (fun v => (3, v / 1024)), reads := qs.map (fun q => (3, q)),
    ents := if ok then [entD due 6 dd (g (qs.map (x.word 3))) none] else [] }

/-- TLI's result from the two table entries, the fraction and the shift (R68, R90). -/
def tliVal (y0 y1 : W16) (frac sh : Nat) : W16 :=
  BitVec.ofInt 16 (y0.toInt + roundHalfEven ((y1.toInt - y0.toInt) * frac) sh)

/-- TLI: an interpolated value, readable at +4; K = 7 traps with FIELD. -/
def execTli (c : Fin 32) (tb : Fin 4) (k : Fin 8) (sg : Bool) (dx dd : Fin 32) (s : State) : Answer :=
  .next (s.issue c (fun x =>
    let v := if sg then x.dr dx ^^^ 0x8000 else x.dr dx
    let sh := 12 - k.val
    let base := (x.tb tb).toNat + v.toNat / 2 ^ sh
    tblOp x [(decide (k.val = 7), tField)] [base % 65536, (base + 1) % 65536] 4 dd
      (fun w => tliVal (w.getD 0 0) (w.getD 1 0) (v.toNat % 2 ^ sh) sh)))

/-- TRD: C[TBn + DX], readable at +3. -/
def execTrd (c : Fin 32) (tb : Fin 4) (dx dd : Fin 32) (s : State) : Answer :=
  .next (s.issue c (fun x => tblOp x [] [(x.tb tb + x.dr dx).toNat] 3 dd (fun w => w.getD 0 0)))

/-- TRDI: C[TBn + OFF9], readable at +3. -/
def execTrdi (c : Fin 32) (tb : Fin 4) (off : Fin 512) (dd : Fin 32) (s : State) : Answer :=
  .next (s.issue c (fun x => tblOp x [] [((x.tb tb).toNat + off.val) % 65536] 3 dd (fun w => w.getD 0 0)))

end Sys2Proof.Machine
end

