-- ==== Sys2Proof/Machine/Mac.lean ====
section
/-!
DEFINITION. Machine/Mac.lean: the operations of MAC0 and MAC1 (R63 to R65, R84 to R86).  The addend ACCk follows R39.
-/
namespace Sys2Proof.Machine

/-- Real and imaginary parts of a complex product of two D pairs, scaled by MODE.FRAC; `conj` takes conj(b) (R63, R84). -/
def Cluster.cprod (x : Cluster) (da db : Nat) (conj : Bool) : Int × Int :=
  let p (a b : Nat) := prod (x.dr a) (x.dr b) x.frac
  if conj then (p da db + p (da + 1) (db + 1), p (da + 1) db - p da (db + 1))
  else (p da db - p (da + 1) (db + 1), p da (db + 1) + p (da + 1) db)

/-- CLR: ACCk = 0. -/
def execClr (c : Fin 32) (u : Fin 2) (k : Fin 8) (s : State) : Answer :=
  .next (s.issue c (fun _ => macOp (2 + u) 1 [] false [mkEnt 2 (2 + u) (.acc k) 0 none]))

/-- CLRP: ACCk = ACCk+1 = 0. -/
def execClrp (c : Fin 32) (u : Fin 2) (k : Fin 8) (s : State) : Answer :=
  .next (s.issue c (fun _ => macOp (2 + u) 1 [(odd k, tPair)] false [mkEnt 2 (2 + u) (.acc k) 0 none, mkEnt 2 (2 + u) (.acc (k + 1)) 0 none]))

/-- MPY: ACCk = DA·DB. -/
def execMpy (c : Fin 32) (u : Fin 2) (f : Bool) (k : Fin 8) (da db : Fin 32) (s : State) : Answer :=
  .next (s.issue c (fun x => mac1 (2 + u) f k [] (accVal (prod (x.dr da) (x.dr db) x.frac))))

/-- MAC: ACCk += DA·DB. -/
def execMac (c : Fin 32) (u : Fin 2) (f : Bool) (k : Fin 8) (da db : Fin 32) (s : State) : Answer :=
  .next (s.issue c (fun x => mac1 (2 + u) f k [] (accVal ((x.addend (2 + u) k).toInt + prod (x.dr da) (x.dr db) x.frac))))

/-- MSU: ACCk −= DA·DB. -/
def execMsu (c : Fin 32) (u : Fin 2) (f : Bool) (k : Fin 8) (da db : Fin 32) (s : State) : Answer :=
  .next (s.issue c (fun x => mac1 (2 + u) f k [] (accVal ((x.addend (2 + u) k).toInt - prod (x.dr da) (x.dr db) x.frac))))

/-- MAC2: ACCk += DA·DB, ACCk+1 += DA·D(B+1). -/
def execMac2 (c : Fin 32) (u : Fin 2) (f : Bool) (k : Fin 8) (da db : Fin 32) (s : State) : Answer :=
  .next (s.issue c (fun x => mac2 (2 + u) f k [(odd k, tPair), (odd db, tPair)] (accVal ((x.addend (2 + u) k).toInt + prod (x.dr da) (x.dr db) x.frac)) (accVal ((x.addend (2 + u) (k + 1)).toInt + prod (x.dr da) (x.dr (db + 1)) x.frac))))

/-- MSU2: as MAC2, subtracting. -/
def execMsu2 (c : Fin 32) (u : Fin 2) (f : Bool) (k : Fin 8) (da db : Fin 32) (s : State) : Answer :=
  .next (s.issue c (fun x => mac2 (2 + u) f k [(odd k, tPair), (odd db, tPair)] (accVal ((x.addend (2 + u) k).toInt - prod (x.dr da) (x.dr db) x.frac)) (accVal ((x.addend (2 + u) (k + 1)).toInt - prod (x.dr da) (x.dr (db + 1)) x.frac))))

/-- CMPY: ACCk:ACCk+1 = a·b, complex. -/
def execCmpy (c : Fin 32) (u : Fin 2) (f : Bool) (k : Fin 8) (da db : Fin 32) (s : State) : Answer :=
  .next (s.issue c (fun x => mac2 (2 + u) f k [(odd k, tPair), (odd da, tPair), (odd db, tPair)] (accVal ((x.cprod da db false).1)) (accVal ((x.cprod da db false).2))))

/-- CMAC: ACCk:ACCk+1 += a·b. -/
def execCmac (c : Fin 32) (u : Fin 2) (f : Bool) (k : Fin 8) (da db : Fin 32) (s : State) : Answer :=
  .next (s.issue c (fun x => mac2 (2 + u) f k [(odd k, tPair), (odd da, tPair), (odd db, tPair)] (accVal ((x.addend (2 + u) k).toInt + (x.cprod da db false).1)) (accVal ((x.addend (2 + u) (k + 1)).toInt + (x.cprod da db false).2))))

/-- CMACJ: ACCk:ACCk+1 += a·conj(b). -/
def execCmacj (c : Fin 32) (u : Fin 2) (f : Bool) (k : Fin 8) (da db : Fin 32) (s : State) : Answer :=
  .next (s.issue c (fun x => mac2 (2 + u) f k [(odd k, tPair), (odd da, tPair), (odd db, tPair)] (accVal ((x.addend (2 + u) k).toInt + (x.cprod da db true).1)) (accVal ((x.addend (2 + u) (k + 1)).toInt + (x.cprod da db true).2))))

/-- FTAP: ACCk += DA·DB, readable at +2; D(A+1) = DA, readable at +1; DA = 31 traps with FIELD. -/
def execFtap (c : Fin 32) (u : Fin 2) (f : Bool) (k : Fin 8) (da db : Fin 32) (s : State) : Answer :=
  .next (s.issue c (fun x => let o := mac1 (2 + u) f k [(decide (da.val = 31), tField)] (accVal ((x.addend (2 + u) k).toInt + prod (x.dr da) (x.dr db) x.frac)); { o with ents := o.ents ++ [entD 1 (2 + u) (da + 1) (x.dr da) none] }))

/-- MACSU: ACCk += DA (signed) · DB (unsigned), an integer product. -/
def execMacsu (c : Fin 32) (u : Fin 2) (f : Bool) (k : Fin 8) (da db : Fin 32) (s : State) : Answer :=
  .next (s.issue c (fun x => mac1 (2 + u) f k [] (accVal ((x.addend (2 + u) k).toInt + (x.dr da).toInt * ((x.dr db).toNat : Int)))))

/-- MACUU: ACCk += DA (unsigned) · DB (unsigned). -/
def execMacuu (c : Fin 32) (u : Fin 2) (f : Bool) (k : Fin 8) (da db : Fin 32) (s : State) : Answer :=
  .next (s.issue c (fun x => mac1 (2 + u) f k [] (accVal ((x.addend (2 + u) k).toInt + ((x.dr da).toNat : Int) * ((x.dr db).toNat : Int)))))

/-- ASH: ACCk shifted by a signed amount; right shifts round convergently. -/
def execAsh (c : Fin 32) (u : Fin 2) (f : Bool) (k : Fin 8) (n : BitVec 6) (s : State) : Answer :=
  .next (s.issue c (fun x => mac1 (2 + u) f k [] (ashVal (x.addend (2 + u) k) n.toInt)))

/-- ADDA: ACCk += ACCj; ACCj is an ordinary read (R64). -/
def execAdda (c : Fin 32) (u : Fin 2) (f : Bool) (k j : Fin 8) (s : State) : Answer :=
  .next (s.issue c (fun x => mac1 (2 + u) f k [] (accVal ((x.addend (2 + u) k).toInt + (x.ac j).toInt))))

/-- SUBA: ACCk −= ACCj. -/
def execSuba (c : Fin 32) (u : Fin 2) (f : Bool) (k j : Fin 8) (s : State) : Answer :=
  .next (s.issue c (fun x => mac1 (2 + u) f k [] (accVal ((x.addend (2 + u) k).toInt - (x.ac j).toInt))))

/-- LDA: ACCk = pair DA, sign-extended. -/
def execLda (c : Fin 32) (u : Fin 2) (k : Fin 8) (da : Fin 32) (s : State) : Answer :=
  .next (s.issue c (fun x => macOp (2 + u) 2 [(odd da, tPair)] false [mkEnt 2 (2 + u) (.acc k) ((x.dp da).signExtend 40) none]))

/-- EXT: DB = ACCk rounded convergently at bit 16, bits [31:16]. -/
def execExt (c : Fin 32) (u : Fin 2) (f : Bool) (k : Fin 8) (db : Fin 32) (s : State) : Answer :=
  .next (s.issue c (fun x => let r := extRes (x.ac k) x.sat; macOp (2 + u) 2 [] f ([entD 2 (2 + u) db r.v (withF f r.f)])))

/-- EXTL: DB = ACCk as a 16-bit integer. -/
def execExtl (c : Fin 32) (u : Fin 2) (f : Bool) (k : Fin 8) (db : Fin 32) (s : State) : Answer :=
  .next (s.issue c (fun x => let r := extlRes (x.ac k) x.sat; macOp (2 + u) 2 [] f ([entD 2 (2 + u) db r.v (withF f r.f)])))

/-- EXTD: pair DB = ACCk as a 32-bit value. -/
def execExtd (c : Fin 32) (u : Fin 2) (f : Bool) (k : Fin 8) (db : Fin 32) (s : State) : Answer :=
  .next (s.issue c (fun x => let r := extdRes (x.ac k) x.sat; macOp (2 + u) 2 [(odd db, tPair)] f (entP 2 (2 + u) db r.v (withF f r.f))))

/-- EXTG: DB = ACCk[39:32], sign-extended. -/
def execExtg (c : Fin 32) (u : Fin 2) (f : Bool) (k : Fin 8) (db : Fin 32) (s : State) : Answer :=
  .next (s.issue c (fun x => let r := extgRes (x.ac k); macOp (2 + u) 2 [] f ([entD 2 (2 + u) db r.v (withF f r.f)])))

end Sys2Proof.Machine
end

