-- ==== Sys2Proof/Machine/ShgWord.lean ====
section
/-!
DEFINITION. Machine/ShgWord.lean: the encoding of the Shingle set (R228, R229, R232): what instruction a program word and the word
after it spell for core k, and the words of an instruction.
-/
namespace Sys2Proof.Machine

/-! ### Classes of first words -/

/-- The first word carries an immediate or a port in a second word, with bits [11:8] 0. -/
def takesByte (w : Nat) : Bool := (decide (0x30 ≤ w) && decide (w < 0x40)) || (decide (0x300 ≤ w) && decide (w < 0x400))

/-- The first word carries address bits [15:12], and a second word the others. -/
def takesAddr (w : Nat) : Bool := (decide (0xC0 ≤ w) && decide (w < 0x100)) || (decide (0x600 ≤ w) && decide (w < 0x800))

/-- The instruction has a second word. -/
def shgTwo (w : Nat) : Bool := takesByte w || takesAddr w

/-- RPT may precede it: the block instructions, LD and ST (R235). -/
def repeats (w : Nat) : Bool := (decide (8 ≤ w) && decide (w ≤ 0xC)) || (decide (0x500 ≤ w) && decide (w < 0x600))

/-! ### Fields -/

/-- Bits [lo + 2 : lo] of a word: a register number or a pointer code. -/
def reg3 (w lo : Nat) : Fin 8 := ⟨w / 2 ^ lo % 8, Nat.mod_lt _ (by decide)⟩

/-- Bits [lo + 1 : lo] of a word: a pair index, a data mode or a pointer of a data mode. -/
def reg2 (w lo : Nat) : Fin 4 := ⟨w / 2 ^ lo % 4, Nat.mod_lt _ (by decide)⟩

/-- The instruction, where a condition on its encoding holds. -/
def assigned (b : Bool) (i : Instr) : Option Instr := if b then some i else none

/-! ### Groups of first words, bits [10:8] (R228) -/

/-- Words 0x000 to 0x00F. -/
def decodeBare (k : Fin 65) (w : Nat) : Option Instr :=
  match w with
  | 1 => some (.shgNop k) | 2 => some (.shgWait k) | 3 => some (.shgRet k) | 4 => some (.shgRfe k) | 5 => some (.shgSetgm k)
  | 6 => some (.shgClrgm k) | 7 => some (.shgRpt k) | 8 => some (.shgCpyb k) | 9 => some (.shgFilb k) | 10 => some (.shgCmpb k)
  | 11 => some (.shgPrdb k) | 12 => some (.shgPwrb k) | 13 => some (.shgJpz k) | 14 => some (.shgCallpz k) | 15 => some (.shgWaitd k)
  | _ => none

/-- Group 0: words 0x010 to 0x0FF; `b` is the second word's byte with the check of its other bits, `a` the address. -/
def decodeMisc (k : Fin 65) (w : Nat) (byteOk : Bool) (b : Byte) (a : W16) : Option Instr :=
  let lo := decide (w % 16 < 8)
  match w / 16 with
  | 1 => assigned (decide (k.val ≠ 64)) (.shgKcall k ⟨w % 16, Nat.mod_lt _ (by decide)⟩)
  | 2 => some (if lo then .shgPush k (reg3 w 0) else .shgPop k (reg3 w 0))
  | 3 => assigned byteOk (if lo then .shgIn k (reg3 w 0) b else .shgOut k (reg3 w 0) b)
  | 4 => some (.shgMovp k (reg3 (w - 0x40) 2) (reg2 w 0))
  | 5 => assigned (decide (w < 0x58)) (.shgMovp k (reg3 (w - 0x40) 2) (reg2 w 0))
  | 6 => some (.shgMovv k (reg3 (w - 0x60) 2) (reg2 w 0))
  | 7 => assigned (decide (w < 0x78)) (.shgMovv k (reg3 (w - 0x60) 2) (reg2 w 0))
  | 8 => some (if lo then .shgInPz k (reg3 w 0) else .shgOutPz k (reg3 w 0))
  | 9 => assigned (decide (w % 2 = 0)) (if lo then .shgLdp k (reg3 w 0) else .shgStp k (reg3 w 0))
  | 10 => assigned (decide (w % 8 < 5)) (if lo then .shgIncp k (reg3 w 0) else .shgDecp k (reg3 w 0))
  | 11 => assigned (decide (w % 8 < 5)) (if lo then .shgPushp k (reg3 w 0) else .shgPopp k (reg3 w 0))
  | _ => some (.shgLdip k (reg2 w 4) a)

/-- Groups 1 and 2: the register forms of arithmetic and logic, by bits [8:6] from 0x100. -/
def decodeAlu (k : Fin 65) (w : Nat) : Option Instr :=
  let d := reg3 w 3; let r := reg3 w 0
  match (w - 0x100) / 64 with
  | 0 => some (.shgAdd k d r) | 1 => some (.shgAdc k d r) | 2 => some (.shgSub k d r) | 3 => some (.shgSbc k d r)
  | 4 => some (.shgAnd k d r) | 5 => some (.shgOr k d r) | 6 => some (.shgXor k d r) | _ => some (.shgCmp k d r)

/-- Group 3: the immediate forms. -/
def decodeImm (k : Fin 65) (w : Nat) (b : Byte) : Instr :=
  let d := reg3 w 2
  match w / 32 % 8 with
  | 0 => .shgAddi k d b | 1 => .shgAdci k d b | 2 => .shgSubi k d b | 3 => .shgMovi k d b
  | 4 => .shgAndi k d b | 5 => .shgOri k d b | 6 => .shgXori k d b | _ => .shgCmpi k d b

/-- Group 4: MOV, MUL, the unary forms and the shifts. -/
def decodeUnary (k : Fin 65) (w : Nat) : Option Instr :=
  let r := reg3 w 0
  match w / 8 % 32 with
  | 16 => some (.shgInc k r) | 17 => some (.shgDec k r) | 18 => some (.shgNot k r) | 19 => some (.shgNeg k r)
  | 20 => some (.shgTst k r) | 21 => some (.shgSwap k r) | 22 => some (.shgClr k r) | 23 => none
  | 24 => some (.shgShl k r) | 25 => some (.shgShr k r) | 26 => some (.shgAsr k r) | 27 => some (.shgRol k r)
  | 28 => some (.shgRor k r) | 29 => some (.shgRcl k r) | 30 => some (.shgRcr k r) | 31 => none
  | n => if n < 8 then some (.shgMov k (reg3 w 3) r) else assigned (decide (n % 2 = 0)) (.shgMul k (reg3 w 3) r)

/-- Group 5: LD and ST by data mode; mode 3 takes an even register. -/
def decodeMem (k : Fin 65) (w : Nat) : Option Instr :=
  let p := reg2 w 5; let m := reg2 w 3; let r := reg3 w 0
  assigned (decide (m ≠ 3) || decide (w % 2 = 0)) (if w < 0x580 then .shgLd k p m r else .shgSt k p m r)

/-- Groups 6 and 7: LDA, STA, Jcc and CALL. -/
def decodeAbs (k : Fin 65) (w : Nat) (a : W16) : Instr :=
  if w < 0x680 then .shgLda k (reg3 w 4) a
  else if w < 0x700 then .shgSta k (reg3 w 4) a
  else if h : w / 16 % 16 < 15 then .shgJcc k ⟨w / 16 % 16, h⟩ a else .shgCall k a

/-- The relative form: bits [10:7] the condition code, bits [6:0] the offset. -/
def decodeRel (k : Fin 65) (w : Nat) : Instr :=
  if h : w / 128 % 16 < 15 then .shgBr k ⟨w / 128 % 16, h⟩ (BitVec.ofNat 7 w) else .shgRcall k (BitVec.ofNat 7 w)

/-- The instruction that words w and v spell for core k; none where the encoding is reserved, but for RFE, which is reserved outside
the shadow bank (R228, R229, R232). -/
def shgDecode (k : Fin 65) (w v : Nat) : Option Instr :=
  let a : W16 := BitVec.ofNat 16 (w % 16 * 4096 + v % 4096)
  let byteOk := decide (v % 4096 < 256)
  if 0x800 ≤ w then some (decodeRel k w)
  else if w < 0x10 then decodeBare k w
  else if w < 0x100 then decodeMisc k w byteOk (BitVec.ofNat 8 v) a
  else if w < 0x300 then decodeAlu k w
  else if w < 0x400 then assigned (decide (w % 4 = 0) && byteOk) (decodeImm k w (BitVec.ofNat 8 v))
  else if w < 0x500 then decodeUnary k w
  else if w < 0x600 then decodeMem k w
  else some (decodeAbs k w a)

/-- A first word is reserved at core k in a bank, whatever follows it (R232). -/
def shgReserved (k : Nat) (shadow : Bool) (w : Nat) : Bool :=
  (decide (w = 4) && !shadow) || (shgDecode (if k = 64 then 64 else 0) w 0).isNone

/-! ### The words of an instruction (R228, R229) -/

/-- Two words that carry a 16-bit address. -/
def addrWords (w : Nat) (a : W16) : List Nat := [w + a.toNat / 4096, a.toNat % 4096]

/-- The program words of an instruction of the Shingle set; none for another command. -/
def shgWords : Instr → List Nat
  | .shgNop _ => [0x001] | .shgWait _ => [0x002] | .shgRet _ => [0x003] | .shgRfe _ => [0x004]
  | .shgSetgm _ => [0x005] | .shgClrgm _ => [0x006] | .shgRpt _ => [0x007] | .shgCpyb _ => [0x008]
  | .shgFilb _ => [0x009] | .shgCmpb _ => [0x00A] | .shgPrdb _ => [0x00B] | .shgPwrb _ => [0x00C]
  | .shgJpz _ => [0x00D] | .shgCallpz _ => [0x00E] | .shgWaitd _ => [0x00F]
  | .shgKcall _ n => [0x010 + n.val] | .shgPush _ r => [0x020 + r.val] | .shgPop _ r => [0x028 + r.val]
  | .shgIn _ r b => [0x030 + r.val, b.toNat] | .shgOut _ r b => [0x038 + r.val, b.toNat]
  | .shgMovp _ p n => [0x040 + 4 * p.val + n.val] | .shgMovv _ p n => [0x060 + 4 * p.val + n.val]
  | .shgInPz _ r => [0x080 + r.val] | .shgOutPz _ r => [0x088 + r.val]
  | .shgLdp _ r => [0x090 + r.val] | .shgStp _ r => [0x098 + r.val]
  | .shgIncp _ p => [0x0A0 + p.val] | .shgDecp _ p => [0x0A8 + p.val]
  | .shgPushp _ p => [0x0B0 + p.val] | .shgPopp _ p => [0x0B8 + p.val]
  | .shgLdip _ q a => addrWords (0x0C0 + 16 * q.val) a
  | .shgAdd _ d r => [0x100 + 8 * d.val + r.val] | .shgAdc _ d r => [0x140 + 8 * d.val + r.val]
  | .shgSub _ d r => [0x180 + 8 * d.val + r.val] | .shgSbc _ d r => [0x1C0 + 8 * d.val + r.val]
  | .shgAnd _ d r => [0x200 + 8 * d.val + r.val] | .shgOr _ d r => [0x240 + 8 * d.val + r.val]
  | .shgXor _ d r => [0x280 + 8 * d.val + r.val] | .shgCmp _ d r => [0x2C0 + 8 * d.val + r.val]
  | .shgAddi _ d b => [0x300 + 4 * d.val, b.toNat] | .shgAdci _ d b => [0x320 + 4 * d.val, b.toNat]
  | .shgSubi _ d b => [0x340 + 4 * d.val, b.toNat] | .shgMovi _ d b => [0x360 + 4 * d.val, b.toNat]
  | .shgAndi _ d b => [0x380 + 4 * d.val, b.toNat] | .shgOri _ d b => [0x3A0 + 4 * d.val, b.toNat]
  | .shgXori _ d b => [0x3C0 + 4 * d.val, b.toNat] | .shgCmpi _ d b => [0x3E0 + 4 * d.val, b.toNat]
  | .shgMov _ d r => [0x400 + 8 * d.val + r.val] | .shgMul _ d r => [0x440 + 8 * d.val + r.val]
  | .shgInc _ r => [0x480 + r.val] | .shgDec _ r => [0x488 + r.val] | .shgNot _ r => [0x490 + r.val]
  | .shgNeg _ r => [0x498 + r.val] | .shgTst _ r => [0x4A0 + r.val] | .shgSwap _ r => [0x4A8 + r.val]
  | .shgClr _ r => [0x4B0 + r.val]
  | .shgShl _ r => [0x4C0 + r.val] | .shgShr _ r => [0x4C8 + r.val] | .shgAsr _ r => [0x4D0 + r.val]
  | .shgRol _ r => [0x4D8 + r.val] | .shgRor _ r => [0x4E0 + r.val] | .shgRcl _ r => [0x4E8 + r.val]
  | .shgRcr _ r => [0x4F0 + r.val]
  | .shgLd _ p m r => [0x500 + 32 * p.val + 8 * m.val + r.val] | .shgSt _ p m r => [0x580 + 32 * p.val + 8 * m.val + r.val]
  | .shgLda _ r a => addrWords (0x600 + 16 * r.val) a | .shgSta _ r a => addrWords (0x680 + 16 * r.val) a
  | .shgJcc _ cc a => addrWords (0x700 + 16 * cc.val) a | .shgCall _ a => addrWords 0x7F0 a
  | .shgBr _ cc k => [0x800 + 128 * cc.val + k.toNat] | .shgRcall _ k => [0xF80 + k.toNat]
  | _ => []

/-- The core that an instruction of the Shingle set names; core 0 for another command. -/
def shgCore : Instr → Fin 65
  | .shgNop k | .shgWait k | .shgRet k | .shgRfe k | .shgSetgm k | .shgClrgm k | .shgRpt k | .shgCpyb k | .shgFilb k | .shgCmpb k
  | .shgPrdb k | .shgPwrb k | .shgJpz k | .shgCallpz k | .shgWaitd k | .shgKcall k _ | .shgPush k _ | .shgPop k _ | .shgIn k _ _
  | .shgOut k _ _ | .shgMovp k _ _ | .shgMovv k _ _ | .shgInPz k _ | .shgOutPz k _ | .shgLdp k _ | .shgStp k _ | .shgIncp k _
  | .shgDecp k _ | .shgPushp k _ | .shgPopp k _ | .shgLdip k _ _ | .shgAdd k _ _ | .shgAdc k _ _ | .shgSub k _ _ | .shgSbc k _ _
  | .shgAnd k _ _ | .shgOr k _ _ | .shgXor k _ _ | .shgCmp k _ _ | .shgAddi k _ _ | .shgAdci k _ _ | .shgSubi k _ _
  | .shgMovi k _ _ | .shgAndi k _ _ | .shgOri k _ _ | .shgXori k _ _ | .shgCmpi k _ _ | .shgMov k _ _ | .shgMul k _ _
  | .shgInc k _ | .shgDec k _ | .shgNot k _ | .shgNeg k _ | .shgTst k _ | .shgSwap k _ | .shgClr k _ | .shgShl k _ | .shgShr k _
  | .shgAsr k _ | .shgRol k _ | .shgRor k _ | .shgRcl k _ | .shgRcr k _ | .shgLd k _ _ _ | .shgSt k _ _ _ | .shgLda k _ _
  | .shgSta k _ _ | .shgJcc k _ _ | .shgCall k _ | .shgBr k _ _ | .shgRcall k _ => k
  | _ => 0

/-- The operands of an instruction of the Shingle set are ones that its encoding assigns (R232). -/
def shgAssigned : Instr → Bool
  | .shgKcall k _ => decide (k.val ≠ 64)
  | .shgMovp _ p _ | .shgMovv _ p _ => decide (p.val ≤ 5)
  | .shgLdp _ r | .shgStp _ r => decide (r.val % 2 = 0)
  | .shgIncp _ p | .shgDecp _ p | .shgPushp _ p | .shgPopp _ p => decide (p.val ≤ 4)
  | .shgMul _ d _ => decide (d.val % 2 = 0)
  | .shgLd _ _ m r | .shgSt _ _ m r => decide (m ≠ 3) || decide (r.val % 2 = 0)
  | _ => true

end Sys2Proof.Machine
end

