-- ==== Sys2Proof/Machine/ShgCtl.lean ====
section
/-!
DEFINITION. Machine/ShgCtl.lean: control instructions of the Shingle set, exceptions and interrupts, watchdog, kernel calls
and the Ridge's ports (R229, R235, R240 to R248, R252, R256).
-/
namespace Sys2Proof.Machine

/-- SCRUB: one cycle of the scrubber of a class (R155, R159, R160); a word of the Ridge in error in both copies stops it (R162).
Log entry 45, DEDUCED. -/
def execScrub (k : Fin 8) (s : State) : Answer := .next ((s.scrubStep k).afterStop s)

/-- The target of a relative form: PC + 1 + k, of the PC after the instruction (R229). -/
def relTarget (pc : W16) (off : BitVec 7) : W16 := pc + off.signExtend 16

/-- SHG_NOP (R229). -/
def execShgNop (k : Fin 65) (s : State) : Answer := .next (s.shgPlain k 1 1 false (fun c => c))

/-- SHG_WAIT: the core sleeps unless a deliverable interrupt, or on the Ridge a queued kernel call, is there (R241). -/
def execShgWait (k : Fin 65) (s : State) : Answer :=
  .next (s.shg k 1 1 false (fun s =>
    if (s.best (coreTarget k)).isSome || (decide (k.val = 64) && !s.ridge.kcq.isEmpty) then (s, none)
    else (s.updCore k (fun c => { c with state := .wait }), none)))

/-- SHG_RET: pop PC (R229). -/
def execShgRet (k : Fin 65) (s : State) : Answer :=
  .next (s.shg k 1 4 false (fun s =>
    match s.popWord k with
    | (s1, .inl e) => (s1, some e)
    | (s1, .inr v) => (s1.updCore k (fun c => { c with pc := v }), none)))

/-- SHG_RFE: PC from SPC, ST from SST, main bank; K of SST.K, TAG and ST.K, with PRIV_CLAMP where it is clamped (R248).
Reserved outside the shadow bank. -/
def execShgRfe (k : Fin 65) (s : State) : Answer :=
  .next (s.shg k 1 3 (!(s.core k).shadow) (fun s =>
    let c := s.core k
    let kk := bit c.sst 6 && c.tag && c.kept
    let s1 := s.updCore k (fun c => { c with pc := c.spc, st := setBit c.sst 6 kk, shadow := false })
    (s1.raiseIf (bit c.sst 6 && !kk) 488, none)))

/-- SHG_SETGM (R229). -/
def execShgSetgm (k : Fin 65) (s : State) : Answer :=
  .next (s.shgPlain k 1 1 false (fun c => { c with st := setBit c.st 7 true }))

/-- SHG_CLRGM: in the shadow bank GM stays 1 (R243). -/
def execShgClrgm (k : Fin 65) (s : State) : Answer :=
  .next (s.shgPlain k 1 1 false (fun c => { c with st := setBit c.st 7 c.shadow }))

/-- SHG_RPT: the prefix comes in force; PC stands at the RPT until the run ends (R235). -/
def execShgRpt (k : Fin 65) (s : State) : Answer :=
  .next (s.shgPlain k 1 1 false (fun c => { c with rpt := true, pc := c.pc - 1 }))

/-- SHG_JPZ: PC = PZ (R229). -/
def execShgJpz (k : Fin 65) (s : State) : Answer := .next (s.shgPlain k 1 3 false (fun c => { c with pc := c.pzr }))

/-- SHG_CALLPZ: push the return address, PC = PZ (R229). -/
def execShgCallpz (k : Fin 65) (s : State) : Answer :=
  .next (s.shg k 1 4 false (fun s => s.callTo k (s.core k).pzr))

/-- SHG_WAITD: done at once when the channel is done, otherwise the core waits at the WAITD (R240). -/
def execShgWaitd (k : Fin 65) (s : State) : Answer :=
  .next (s.shgPlain k 1 2 false (fun c =>
    if (s.dma (fld (c.vr 0) 3 0)).done then c.setZ true else { c with waitd := true, pc := c.pc - 1 }))

/-- WAITD_EXPIRY: CNT has reached 0: Z = 0, or Z = 1 by an edge of the same cycle (R240). -/
def execWaitdExpiry (k : Fin 65) (s : State) : Answer :=
  .next (if s.coreRuns k && (s.core k).waitd then
    let z := (s.dma (fld ((s.core k).vr 0) 3 0)).done
    ((s.endWaitd k false).updCore k (fun c => c.setZ z)).wdBoundary k else s)

/-- SHG_KCALL: the Shingle is CALLING and queued, which wakes the Ridge from WAIT; with the Ridge stopped it takes vector 6 with
status 0xFF.  Reserved on the Ridge (R232, R252, R254). -/
def execShgKcall (k : Fin 65) (n : Fin 16) (s : State) : Answer :=
  .next (s.shg k 1 2 (decide (k.val = 64)) (fun s =>
    let s1 := s.updCore k (fun c => { c with call := n, state := .calling })
    if s1.ridge.stopped then (s1.callError k 0xFF, none)
    else
      let s2 := { s1 with ridge := { s1.ridge with kcq := s1.ridge.kcq ++ [k.val] } }
      (s2.updCore 64 (fun c => if c.state = .wait then { c with state := .run } else c), none)))

/-- SHG_JCC: PC = a where cc holds (R231). -/
def execShgJcc (k : Fin 65) (cc : Fin 15) (a : W16) (s : State) : Answer :=
  let t := (s.core k).cond cc
  .next (s.shgPlain k 2 (if t then 3 else 2) false (fun c => if t then { c with pc := a } else c))

/-- SHG_CALL (R229). -/
def execShgCall (k : Fin 65) (a : W16) (s : State) : Answer := .next (s.shg k 2 4 false (fun s => s.callTo k a))

/-- SHG_BR: PC = PC + 1 + k where cc holds (R231). -/
def execShgBr (k : Fin 65) (cc : Fin 15) (off : BitVec 7) (s : State) : Answer :=
  let t := (s.core k).cond cc
  .next (s.shgPlain k 1 (if t then 3 else 1) false (fun c => if t then { c with pc := relTarget c.pc off } else c))

/-- SHG_RCALL (R229). -/
def execShgRcall (k : Fin 65) (off : BitVec 7) (s : State) : Answer :=
  .next (s.shg k 1 4 false (fun s => s.callTo k (relTarget (s.core k).pc off)))

/-! ### Instruction boundaries -/

/-- The instruction that core k decodes next, as its program spells it: from the prefetched word and the word after it (R228, R229,
R233); none where the encoding is reserved.  The commands carry the instruction themselves (log entry 5). -/
def State.spelt (s : State) (k : Fin 65) : Option Instr :=
  let a := (s.core k).fetchAddr
  let w := (s.seen k a).word.toNat
  if w = 4 ∧ (s.core k).shadow = false then none else shgDecode k w (s.seen k ((a + 1) % 65536)).word.toNat

/-- The second word of an instruction whose first word w has been found good: its fetch, and its bits [11:8] where it carries an
immediate or a port (R232, R246). -/
def State.secondWord (s : State) (k w : Nat) : State :=
  let c := s.core k
  let b := (c.fetchAddr + 1) % 65536
  if !shgTwo w then s
  else match s.fetchWord k b with
    | (s1, some e) => s1.raiseExc k c.pc.toNat e
    | (s1, none) => if takesByte w && decide (256 ≤ (s.seen k b).word.toNat) then s1.takeException k 2 c.pc.toNat 0 c.pc.toNat else s1

/-- The fault that the next instruction of a running core shows before it executes: word by word SHG_NX, parity and decode, and the
misuse of RPT (R232, R236, R246). -/
def State.fetchBoundary (s : State) (k : Nat) : State :=
  let c := s.core k
  let a := c.fetchAddr
  let w := (s.seen k a).word.toNat
  match s.fetchWord k a with
  | (s1, some e) => s1.raiseExc k c.pc.toNat e
  | (s1, none) =>
    if shgReserved k c.shadow w || (c.rpt && !repeats w) then s1.takeException k 2 c.pc.toNat 0 c.pc.toNat
    else s1.secondWord k w

/-- A core is at an instruction boundary or in WAIT: it runs or waits, and is neither stopped nor held. -/
def State.atBoundary (s : State) (k : Nat) : Bool :=
  let c := s.core k
  (decide (c.state = .run) || decide (c.state = .wait)) &&
    (if k = 64 then !s.ridge.stopped && !s.ridge.clearing else s.shingleOn k)

/-- The instruction boundary of core k: the best deliverable interrupt is taken with GM = 0, but not before the vector 5 of a
watchdog that has expired; WAIT goes on with GM = 1 (R241, R242, R246).  Without one, a fault of the next instruction is taken.
Log entry 139, DEDUCED. -/
def State.boundary (s : State) (k : Nat) : State :=
  let c := s.core k
  if !s.atBoundary k then s else
  match s.best (coreTarget k) with
  | some i =>
    if !c.gm && !c.wdPend then (s.breakWaitd k).takeInterrupt k (s.src i).prio c.pc.toNat
    else if c.state = .wait then s.updCore k (fun c => { c with state := .run }) else s
  | none => if s.shgReady k then s.fetchBoundary k else s

/-- EXCEPTION_ENTRY (R242). -/
def execExceptionEntry (k : Fin 65) (s : State) : Answer := .next ((s.boundary k).afterStop s)

/-- WATCHDOG: a counting watchdog reaches 0: it restarts, and vector 5 is taken at the instruction boundary, which under RPT or in a
WAITD is that after the run or the wait (R245 to R247). Log entry 139, DEDUCED. -/
def execWatchdog (k : Fin 65) (s : State) : Answer :=
  .next (if s.coreRuns k && s.wdogCounts k then ((s.kick k).updCore k (fun c => { c with wdPend := true })).wdBoundary k else s)

/-- WDT_KICK (R247). -/
def execWdtKick (k : Fin 65) (s : State) : Answer := .next (if s.coreRuns k then s.kick k else s)

/-! ### The Ridge's ports -/

/-- A port of the Ridge is used: an Open Ridge takes vector 3 with PC as saved PC (R249). -/
def State.ridgePort (s : State) (body : State → State × Option Exc) : State :=
  if !s.coreRuns 64 then s else
  match (if s.kept then body s else s.portExc 0) with
  | (s1, none) => s1.afterStop s
  | (s1, some e) => (s1.raiseExc 64 (s.core 64).pc.toNat e).afterStop s

/-- KC_HEAD: the oldest caller is popped; the byte that the port returns (R252). -/
def execKcHead (s : State) : Answer :=
  .next (s.ridgePort (fun s => let r := s.kcPop; (r.1.emit (.readData [r.2]), none)))

/-- KC_RETURN: KC_TARGET and KC_RETURN are written (R252). -/
def execKcReturn (target status : Byte) (s : State) : Answer :=
  .next (s.ridgePort (fun s =>
    (State.kcAnswer { s with ridge := { s.ridge with kcTarget := target } } target.toNat status.toNat, none)))

/-- SA_DATA: one byte moves between V register r and the system access address (R256). -/
def execSaData (wr : Bool) (r : Fin 8) (s : State) : Answer :=
  .next (s.ridgePort (fun s =>
    if wr then
      match s.saWrite ((s.core 64).vr r) with
      | (s1, some d) => s1.portExc d
      | (s1, none) => (s1, none)
    else
      match s.saRead with
      | (s1, .inl d) => s1.portExc d
      | (s1, .inr b) => (s1.updCore 64 (fun c => c.setV r b), none)))

/-- LOCKSTEP_MISMATCH: the Ridge stops (R162, R254). -/
def execLockstepMismatch (s : State) : Answer := .next s.ridgeStop

end Sys2Proof.Machine
end

