-- ==== Sys2Proof/Machine/Dispatch.lean ====
section
/-!
DEFINITION. Machine/Dispatch.lean: one arm per command, each one call of its meaning.
-/
namespace Sys2Proof.Machine

/-- The effect of a command on everything but the queue. -/
def exec (i : Instr) (s : State) : Host.Outcome State Fault Refusal :=
  match i with
  | .tOf l => Sys2Proof.Machine.execTOf l s
  | .t0 l => Sys2Proof.Machine.execT0 l s
  | .applyTime l => Sys2Proof.Machine.execApplyTime l s
  | .tIc l => Sys2Proof.Machine.execTIc l s
  | .inFrameArrival l bytes fcsOk first last => Sys2Proof.Machine.execInFrameArrival l bytes fcsOk first last s
  | .placement l => Sys2Proof.Machine.execPlacement l s
  | .timeRelease t => Sys2Proof.Machine.execTimeRelease t s
  | .returnedFrame l firstOut delay => Sys2Proof.Machine.execReturnedFrame l firstOut delay s
  | .returnLimit l => Sys2Proof.Machine.execReturnLimit l s
  | .lateSet l => Sys2Proof.Machine.execLateSet l s
  | .contFrame l => Sys2Proof.Machine.execContFrame l s
  | .messageRetry l p mseq => Sys2Proof.Machine.execMessageRetry l p mseq s
  | .ditherStopRetry p ch => Sys2Proof.Machine.execDitherStopRetry p ch s
  | .sync l => Sys2Proof.Machine.execSync l s
  | .announce l => Sys2Proof.Machine.execAnnounce l s
  | .ptpMessage l m => Sys2Proof.Machine.execPtpMessage l m s
  | .link l signal blockLock hiBer fault errored => Sys2Proof.Machine.execLink l signal blockLock hiBer fault errored s
  | .stageIn c => Sys2Proof.Machine.execStageIn c s
  | .stageInComplete c => Sys2Proof.Machine.execStageInComplete c s
  | .pageFetch c => Sys2Proof.Machine.execPageFetch c s
  | .pageFetchDone c hostOk => Sys2Proof.Machine.execPageFetchDone c hostOk s
  | .genLoaded => Sys2Proof.Machine.execGenLoaded s
  | .resultLands c => Sys2Proof.Machine.execResultLands c s
  | .trap c => Sys2Proof.Machine.execTrap c s
  | .overrun c => Sys2Proof.Machine.execOverrun c s
  | .emulationTimeout c => Sys2Proof.Machine.execEmulationTimeout c s
  | .trapResumeGo c skip => Sys2Proof.Machine.execTrapResumeGo c skip s
  | .trapResumeRedirect c skip => Sys2Proof.Machine.execTrapResumeRedirect c skip s
  | .trapResumeFail c => Sys2Proof.Machine.execTrapResumeFail c s
  | .commit c => Sys2Proof.Machine.execCommit c s
  | .commitPublication c => Sys2Proof.Machine.execCommitPublication c s
  | .beDrop t => Sys2Proof.Machine.execBeDrop t s
  | .allocInit k => Sys2Proof.Machine.execAllocInit k s
  | .allocInitDone k => Sys2Proof.Machine.execAllocInitDone k s
  | .scrub k => Sys2Proof.Machine.execScrub k s
  | .lockstepMismatch => Sys2Proof.Machine.execLockstepMismatch s
  | .add c u f dst sa sb => Sys2Proof.Machine.execAdd c u f dst sa sb s
  | .sub c u f dst sa sb => Sys2Proof.Machine.execSub c u f dst sa sb s
  | .adc c u f dst sa sb => Sys2Proof.Machine.execAdc c u f dst sa sb s
  | .sbc c u f dst sa sb => Sys2Proof.Machine.execSbc c u f dst sa sb s
  | .neg c u f dst sa => Sys2Proof.Machine.execNeg c u f dst sa s
  | .abs c u f dst sa => Sys2Proof.Machine.execAbs c u f dst sa s
  | .min c u f dst sa sb => Sys2Proof.Machine.execMin c u f dst sa sb s
  | .max c u f dst sa sb => Sys2Proof.Machine.execMax c u f dst sa sb s
  | .and c u f dst sa sb => Sys2Proof.Machine.execAnd c u f dst sa sb s
  | .or c u f dst sa sb => Sys2Proof.Machine.execOr c u f dst sa sb s
  | .xor c u f dst sa sb => Sys2Proof.Machine.execXor c u f dst sa sb s
  | .andn c u f dst sa sb => Sys2Proof.Machine.execAndn c u f dst sa sb s
  | .not c u f dst sa => Sys2Proof.Machine.execNot c u f dst sa s
  | .mov c u f dst sa => Sys2Proof.Machine.execMov c u f dst sa s
  | .norm c u f dst sa => Sys2Proof.Machine.execNorm c u f dst sa s
  | .lsl c u f dst sa sb => Sys2Proof.Machine.execLsl c u f dst sa sb s
  | .lsr c u f dst sa sb => Sys2Proof.Machine.execLsr c u f dst sa sb s
  | .asr c u f dst sa sb => Sys2Proof.Machine.execAsr c u f dst sa sb s
  | .ror c u f dst sa sb => Sys2Proof.Machine.execRor c u f dst sa sb s
  | .lsli c u f dst sa n => Sys2Proof.Machine.execLsli c u f dst sa n s
  | .lsri c u f dst sa n => Sys2Proof.Machine.execLsri c u f dst sa n s
  | .asri c u f dst sa n => Sys2Proof.Machine.execAsri c u f dst sa n s
  | .add32 c u f dst sa sb => Sys2Proof.Machine.execAdd32 c u f dst sa sb s
  | .sub32 c u f dst sa sb => Sys2Proof.Machine.execSub32 c u f dst sa sb s
  | .neg32 c u f dst sa => Sys2Proof.Machine.execNeg32 c u f dst sa s
  | .abs32 c u f dst sa => Sys2Proof.Machine.execAbs32 c u f dst sa s
  | .asr32i c u f dst sa n => Sys2Proof.Machine.execAsr32i c u f dst sa n s
  | .lsl32i c u f dst sa n => Sys2Proof.Machine.execLsl32i c u f dst sa n s
  | .mov32 c u f dst sa => Sys2Proof.Machine.execMov32 c u f dst sa s
  | .cmp c u sa sb => Sys2Proof.Machine.execCmp c u sa sb s
  | .tst c u sa sb => Sys2Proof.Machine.execTst c u sa sb s
  | .cmp32 c u sa sb => Sys2Proof.Machine.execCmp32 c u sa sb s
  | .fadd c u f dst sa sb => Sys2Proof.Machine.execFadd c u f dst sa sb s
  | .fsub c u f dst sa sb => Sys2Proof.Machine.execFsub c u f dst sa sb s
  | .fmul c u f dst sa sb => Sys2Proof.Machine.execFmul c u f dst sa sb s
  | .fmin c u f dst sa sb => Sys2Proof.Machine.execFmin c u f dst sa sb s
  | .fmax c u f dst sa sb => Sys2Proof.Machine.execFmax c u f dst sa sb s
  | .fabs c u f dst sa => Sys2Proof.Machine.execFabs c u f dst sa s
  | .fneg c u f dst sa => Sys2Proof.Machine.execFneg c u f dst sa s
  | .fcmp c u sa sb => Sys2Proof.Machine.execFcmp c u sa sb s
  | .flt c u f dst sa => Sys2Proof.Machine.execFlt c u f dst sa s
  | .fix c u f dst sa => Sys2Proof.Machine.execFix c u f dst sa s
  | .fq15 c u f dst sa => Sys2Proof.Machine.execFq15 c u f dst sa s
  | .qf15 c u f dst sa => Sys2Proof.Machine.execQf15 c u f dst sa s
  | .fq31 c u f dst sa => Sys2Proof.Machine.execFq31 c u f dst sa s
  | .qf31 c u f dst sa => Sys2Proof.Machine.execQf31 c u f dst sa s
  | .div c u f dst sa sb => Sys2Proof.Machine.execDiv c u f dst sa sb s
  | .divu c u f dst sa sb => Sys2Proof.Machine.execDivu c u f dst sa sb s
  | .divq c u f dst sa sb => Sys2Proof.Machine.execDivq c u f dst sa sb s
  | .fdiv c u f dst sa sb => Sys2Proof.Machine.execFdiv c u f dst sa sb s
  | .fsqrt c u f dst sa => Sys2Proof.Machine.execFsqrt c u f dst sa s
  | .sqrtu c u f dst sa => Sys2Proof.Machine.execSqrtu c u f dst sa s
  | .movc c u dir d cr => Sys2Proof.Machine.execMovc c u dir d cr s
  | .ldia c u cr imm => Sys2Proof.Machine.execLdia c u cr imm s
  | .ldik c u cr imm => Sys2Proof.Machine.execLdik c u cr imm s
  | .ldi c u dst imm => Sys2Proof.Machine.execLdi c u dst imm s
  | .clr c u k => Sys2Proof.Machine.execClr c u k s
  | .clrp c u k => Sys2Proof.Machine.execClrp c u k s
  | .mpy c u f k da db => Sys2Proof.Machine.execMpy c u f k da db s
  | .mac c u f k da db => Sys2Proof.Machine.execMac c u f k da db s
  | .msu c u f k da db => Sys2Proof.Machine.execMsu c u f k da db s
  | .mac2 c u f k da db => Sys2Proof.Machine.execMac2 c u f k da db s
  | .msu2 c u f k da db => Sys2Proof.Machine.execMsu2 c u f k da db s
  | .cmpy c u f k da db => Sys2Proof.Machine.execCmpy c u f k da db s
  | .cmac c u f k da db => Sys2Proof.Machine.execCmac c u f k da db s
  | .cmacj c u f k da db => Sys2Proof.Machine.execCmacj c u f k da db s
  | .ftap c u f k da db => Sys2Proof.Machine.execFtap c u f k da db s
  | .macsu c u f k da db => Sys2Proof.Machine.execMacsu c u f k da db s
  | .macuu c u f k da db => Sys2Proof.Machine.execMacuu c u f k da db s
  | .ash c u f k n => Sys2Proof.Machine.execAsh c u f k n s
  | .adda c u f k j => Sys2Proof.Machine.execAdda c u f k j s
  | .suba c u f k j => Sys2Proof.Machine.execSuba c u f k j s
  | .lda c u k da => Sys2Proof.Machine.execLda c u k da s
  | .ext c u f k db => Sys2Proof.Machine.execExt c u f k db s
  | .extl c u f k db => Sys2Proof.Machine.execExtl c u f k db s
  | .extd c u f k db => Sys2Proof.Machine.execExtd c u f k db s
  | .extg c u f k db => Sys2Proof.Machine.execExtg c u f k db s
  | .ld c u ag mode r => Sys2Proof.Machine.execLd c u ag mode r s
  | .ldd c u ag mode r => Sys2Proof.Machine.execLdd c u ag mode r s
  | .st c u ag mode r => Sys2Proof.Machine.execSt c u ag mode r s
  | .std c u ag mode r => Sys2Proof.Machine.execStd c u ag mode r s
  | .sts c u f ag mode k => Sys2Proof.Machine.execSts c u f ag mode k s
  | .stsc c u f ag mode k => Sys2Proof.Machine.execStsc c u f ag mode k s
  | .stsd c u f ag mode k => Sys2Proof.Machine.execStsd c u f ag mode k s
  | .tli c tb k sg dx dd => Sys2Proof.Machine.execTli c tb k sg dx dd s
  | .trd c tb dx dd => Sys2Proof.Machine.execTrd c tb dx dd s
  | .trdi c tb off dd => Sys2Proof.Machine.execTrdi c tb off dd s
  | .nop c => Sys2Proof.Machine.execNop c s
  | .endOp c => Sys2Proof.Machine.execEndOp c s
  | .ret c => Sys2Proof.Machine.execRet c s
  | .br c cc target => Sys2Proof.Machine.execBr c cc target s
  | .call c target => Sys2Proof.Machine.execCall c target s
  | .brd c ds => Sys2Proof.Machine.execBrd c ds s
  | .loopd c ds last => Sys2Proof.Machine.execLoopd c ds last s
  | .loopi c count off => Sys2Proof.Machine.execLoopi c count off s
  | .shgNop k => Sys2Proof.Machine.execShgNop k s
  | .shgWait k => Sys2Proof.Machine.execShgWait k s
  | .shgRet k => Sys2Proof.Machine.execShgRet k s
  | .shgRfe k => Sys2Proof.Machine.execShgRfe k s
  | .shgSetgm k => Sys2Proof.Machine.execShgSetgm k s
  | .shgClrgm k => Sys2Proof.Machine.execShgClrgm k s
  | .shgRpt k => Sys2Proof.Machine.execShgRpt k s
  | .shgCpyb k => Sys2Proof.Machine.execShgCpyb k s
  | .shgFilb k => Sys2Proof.Machine.execShgFilb k s
  | .shgCmpb k => Sys2Proof.Machine.execShgCmpb k s
  | .shgPrdb k => Sys2Proof.Machine.execShgPrdb k s
  | .shgPwrb k => Sys2Proof.Machine.execShgPwrb k s
  | .shgJpz k => Sys2Proof.Machine.execShgJpz k s
  | .shgCallpz k => Sys2Proof.Machine.execShgCallpz k s
  | .shgWaitd k => Sys2Proof.Machine.execShgWaitd k s
  | .waitdExpiry k => Sys2Proof.Machine.execWaitdExpiry k s
  | .shgKcall k n => Sys2Proof.Machine.execShgKcall k n s
  | .shgPush k r => Sys2Proof.Machine.execShgPush k r s
  | .shgPop k r => Sys2Proof.Machine.execShgPop k r s
  | .shgIn k r port => Sys2Proof.Machine.execShgIn k r port s
  | .shgOut k r port => Sys2Proof.Machine.execShgOut k r port s
  | .shgInPz k r => Sys2Proof.Machine.execShgInPz k r s
  | .shgOutPz k r => Sys2Proof.Machine.execShgOutPz k r s
  | .shgMovp k p n => Sys2Proof.Machine.execShgMovp k p n s
  | .shgMovv k p n => Sys2Proof.Machine.execShgMovv k p n s
  | .shgLdp k r => Sys2Proof.Machine.execShgLdp k r s
  | .shgStp k r => Sys2Proof.Machine.execShgStp k r s
  | .shgIncp k p => Sys2Proof.Machine.execShgIncp k p s
  | .shgDecp k p => Sys2Proof.Machine.execShgDecp k p s
  | .shgPushp k p => Sys2Proof.Machine.execShgPushp k p s
  | .shgPopp k p => Sys2Proof.Machine.execShgPopp k p s
  | .shgLdip k q a => Sys2Proof.Machine.execShgLdip k q a s
  | .shgAdd k d r => Sys2Proof.Machine.execShgAdd k d r s
  | .shgAdc k d r => Sys2Proof.Machine.execShgAdc k d r s
  | .shgSub k d r => Sys2Proof.Machine.execShgSub k d r s
  | .shgSbc k d r => Sys2Proof.Machine.execShgSbc k d r s
  | .shgAnd k d r => Sys2Proof.Machine.execShgAnd k d r s
  | .shgOr k d r => Sys2Proof.Machine.execShgOr k d r s
  | .shgXor k d r => Sys2Proof.Machine.execShgXor k d r s
  | .shgCmp k d r => Sys2Proof.Machine.execShgCmp k d r s
  | .shgAddi k d imm => Sys2Proof.Machine.execShgAddi k d imm s
  | .shgAdci k d imm => Sys2Proof.Machine.execShgAdci k d imm s
  | .shgSubi k d imm => Sys2Proof.Machine.execShgSubi k d imm s
  | .shgMovi k d imm => Sys2Proof.Machine.execShgMovi k d imm s
  | .shgAndi k d imm => Sys2Proof.Machine.execShgAndi k d imm s
  | .shgOri k d imm => Sys2Proof.Machine.execShgOri k d imm s
  | .shgXori k d imm => Sys2Proof.Machine.execShgXori k d imm s
  | .shgCmpi k d imm => Sys2Proof.Machine.execShgCmpi k d imm s
  | .shgMov k d r => Sys2Proof.Machine.execShgMov k d r s
  | .shgMul k d r => Sys2Proof.Machine.execShgMul k d r s
  | .shgInc k r => Sys2Proof.Machine.execShgInc k r s
  | .shgDec k r => Sys2Proof.Machine.execShgDec k r s
  | .shgNot k r => Sys2Proof.Machine.execShgNot k r s
  | .shgNeg k r => Sys2Proof.Machine.execShgNeg k r s
  | .shgTst k r => Sys2Proof.Machine.execShgTst k r s
  | .shgSwap k r => Sys2Proof.Machine.execShgSwap k r s
  | .shgClr k r => Sys2Proof.Machine.execShgClr k r s
  | .shgShl k r => Sys2Proof.Machine.execShgShl k r s
  | .shgShr k r => Sys2Proof.Machine.execShgShr k r s
  | .shgAsr k r => Sys2Proof.Machine.execShgAsr k r s
  | .shgRol k r => Sys2Proof.Machine.execShgRol k r s
  | .shgRor k r => Sys2Proof.Machine.execShgRor k r s
  | .shgRcl k r => Sys2Proof.Machine.execShgRcl k r s
  | .shgRcr k r => Sys2Proof.Machine.execShgRcr k r s
  | .shgLd k p m r => Sys2Proof.Machine.execShgLd k p m r s
  | .shgSt k p m r => Sys2Proof.Machine.execShgSt k p m r s
  | .shgLda k r a => Sys2Proof.Machine.execShgLda k r a s
  | .shgSta k r a => Sys2Proof.Machine.execShgSta k r a s
  | .shgJcc k cc a => Sys2Proof.Machine.execShgJcc k cc a s
  | .shgCall k a => Sys2Proof.Machine.execShgCall k a s
  | .shgBr k cc off => Sys2Proof.Machine.execShgBr k cc off s
  | .shgRcall k off => Sys2Proof.Machine.execShgRcall k off s
  | .exceptionEntry k => Sys2Proof.Machine.execExceptionEntry k s
  | .watchdog k => Sys2Proof.Machine.execWatchdog k s
  | .wdtKick k => Sys2Proof.Machine.execWdtKick k s
  | .claim k => Sys2Proof.Machine.execClaim k s
  | .eoi k hi => Sys2Proof.Machine.execEoi k hi s
  | .kcHead => Sys2Proof.Machine.execKcHead s
  | .kcReturn target status => Sys2Proof.Machine.execKcReturn target status s
  | .saData wr r => Sys2Proof.Machine.execSaData wr r s
  | .svcVersion k denied => Sys2Proof.Machine.execSvcVersion k denied s
  | .svcWallclock k denied => Sys2Proof.Machine.execSvcWallclock k denied s
  | .svcLog k denied => Sys2Proof.Machine.execSvcLog k denied s
  | .svcMailbox k denied => Sys2Proof.Machine.execSvcMailbox k denied s
  | .svcRaise k denied => Sys2Proof.Machine.execSvcRaise k denied s
  | .svcHostNote k denied => Sys2Proof.Machine.execSvcHostNote k denied s
  | .mailboxWrite k v => Sys2Proof.Machine.execMailboxWrite k v s
  | .shgRun k run => Sys2Proof.Machine.execShgRun k run s
  | .sourceEdge src => Sys2Proof.Machine.execSourceEdge src s
  | .pend src => Sys2Proof.Machine.execPend src s
  | .pendClr src => Sys2Proof.Machine.execPendClr src s
  | .srcCfg src v => Sys2Proof.Machine.execSrcCfg src v s
  | .hostTargetClaim v => Sys2Proof.Machine.execHostTargetClaim v s
  | .hostEoi v src => Sys2Proof.Machine.execHostEoi v src s
  | .dmaStart n m => Sys2Proof.Machine.execDmaStart n m s
  | .dmaAbort n moved => Sys2Proof.Machine.execDmaAbort n moved s
  | .dmaDone n => Sys2Proof.Machine.execDmaDone n s
  | .dmaStop n => Sys2Proof.Machine.execDmaStop n s
  | .fetchAdd m off len => Sys2Proof.Machine.execFetchAdd m off len s
  | .compareSwap m off len => Sys2Proof.Machine.execCompareSwap m off len s
  | .bar4Access off len data => Sys2Proof.Machine.execBar4Access off len data s
  | .registerWrite off v be => Sys2Proof.Machine.execRegisterWrite off v be s
  | .spareMask v => Sys2Proof.Machine.execSpareMask v s
  | .fenceStatus v => Sys2Proof.Machine.execFenceStatus v s
  | .admCtl v => Sys2Proof.Machine.execAdmCtl v s
  | .sqTail q v => Sys2Proof.Machine.execSqTail q v s
  | .chainResume q => Sys2Proof.Machine.execChainResume q s
  | .cqHead q v => Sys2Proof.Machine.execCqHead q v s
  | .evqHead v => Sys2Proof.Machine.execEvqHead v s
  | .queueCtl q v => Sys2Proof.Machine.execQueueCtl q v s
  | .sqBaseLo q v => Sys2Proof.Machine.execSqBaseLo q v s
  | .cqCfg q v => Sys2Proof.Machine.execCqCfg q v s
  | .descriptorRead => Sys2Proof.Machine.execDescriptorRead s
  | .readCompletion q data ok => Sys2Proof.Machine.execReadCompletion q data ok s
  | .completionTimeout q => Sys2Proof.Machine.execCompletionTimeout q s
  | .moderationTimer q => Sys2Proof.Machine.execModerationTimer q s
  | .msixUnmask enable fmask v => Sys2Proof.Machine.execMsixUnmask enable fmask v s
  | .dStateChange d3hot pmeEn clearPme => Sys2Proof.Machine.execDStateChange d3hot pmeEn clearPme s
  | .busMasterEnable bme => Sys2Proof.Machine.execBusMasterEnable bme s
  | .linkChange up speed width => Sys2Proof.Machine.execLinkChange up speed width s
  | .cmdNop q => Sys2Proof.Machine.execCmdNop q s
  | .taskletDefine q hostOk => Sys2Proof.Machine.execTaskletDefine q hostOk s
  | .taskletRebind q hostOk => Sys2Proof.Machine.execTaskletRebind q hostOk s
  | .taskletRemove q => Sys2Proof.Machine.execTaskletRemove q s
  | .taskletRead q => Sys2Proof.Machine.execTaskletRead q s
  | .pagePin q hostOk => Sys2Proof.Machine.execPagePin q hostOk s
  | .schedStart q => Sys2Proof.Machine.execSchedStart q s
  | .schedStop q => Sys2Proof.Machine.execSchedStop q s
  | .slotLoad q => Sys2Proof.Machine.execSlotLoad q s
  | .fieldLineSet q => Sys2Proof.Machine.execFieldLineSet q s
  | .fieldPartnerSet q => Sys2Proof.Machine.execFieldPartnerSet q s
  | .partnerRead q => Sys2Proof.Machine.execPartnerRead q s
  | .fieldMsgPost q => Sys2Proof.Machine.execFieldMsgPost q s
  | .msgFree q => Sys2Proof.Machine.execMsgFree q s
  | .calSlotSet q => Sys2Proof.Machine.execCalSlotSet q s
  | .calSlotRead q => Sys2Proof.Machine.execCalSlotRead q s
  | .calAdopt q => Sys2Proof.Machine.execCalAdopt q s
  | .calDiscard q => Sys2Proof.Machine.execCalDiscard q s
  | .shingleLoad q => Sys2Proof.Machine.execShingleLoad q s
  | .regionSet q => Sys2Proof.Machine.execRegionSet q s
  | .logRead q => Sys2Proof.Machine.execLogRead q s
  | .clockSet q => Sys2Proof.Machine.execClockSet q s
  | .clockChange c => Sys2Proof.Machine.execClockChange c s
  | .powerSet q => Sys2Proof.Machine.execPowerSet q s
  | .timeSetDt q => Sys2Proof.Machine.execTimeSetDt q s
  | .timeSetStep q => Sys2Proof.Machine.execTimeSetStep q s
  | .timeSetRate q => Sys2Proof.Machine.execTimeSetRate q s
  | .statsRead q => Sys2Proof.Machine.execStatsRead q s
  | .regWrite q => Sys2Proof.Machine.execRegWrite q s
  | .storeWrite q => Sys2Proof.Machine.execStoreWrite q s
  | .storeRead q => Sys2Proof.Machine.execStoreRead q s
  | .genOpen => Sys2Proof.Machine.execGenOpen s
  | .genAbandon => Sys2Proof.Machine.execGenAbandon s
  | .genReq => Sys2Proof.Machine.execGenReq s
  | .genGo => Sys2Proof.Machine.execGenGo s
  | .genVerificationDone => Sys2Proof.Machine.execGenVerificationDone s
  | .functionLevelReset => Sys2Proof.Machine.execFunctionLevelReset s
  | .perstN => Sys2Proof.Machine.execPerstN s
  | .porstN mode => Sys2Proof.Machine.execPorstN mode s
  | .bootGo => Sys2Proof.Machine.execBootGo s
  | .kernelLoaded flash => Sys2Proof.Machine.execKernelLoaded flash s
  | .softRstRidge => Sys2Proof.Machine.execSoftRstRidge s
  | .softRstShingle g => Sys2Proof.Machine.execSoftRstShingle g s
  | .softRstField g => Sys2Proof.Machine.execSoftRstField g s
  | .powerRampDone d => Sys2Proof.Machine.execPowerRampDone d s
  | .memClearDone d => Sys2Proof.Machine.execMemClearDone d s
  | .drainDone d => Sys2Proof.Machine.execDrainDone d s
  | .thermSample t => Sys2Proof.Machine.execThermSample t s
  | .thermtrip => Sys2Proof.Machine.execThermtrip s
  | .calTick => Sys2Proof.Machine.execCalTick s
  | .calSecHi v => Sys2Proof.Machine.execCalSecHi v s
  | .calSecLo => Sys2Proof.Machine.execCalSecLo s
  | .backupLoss => Sys2Proof.Machine.execBackupLoss s
  | .dtLo => Sys2Proof.Machine.execDtLo s
  | .ppsIn => Sys2Proof.Machine.execPpsIn s
  | .ppsLost => Sys2Proof.Machine.execPpsLost s
  | .ppsOut high => Sys2Proof.Machine.execPpsOut high s
  | .sysclkLoss => Sys2Proof.Machine.execSysclkLoss s
  | .sysclkReturn => Sys2Proof.Machine.execSysclkReturn s
  | .vddAonLoss => Sys2Proof.Machine.execVddAonLoss s
  | .mrdCtl v => Sys2Proof.Machine.execMrdCtl v s
  | .unsupportedRequest r => Sys2Proof.Machine.execUnsupportedRequest r s
  | .peerDelayGeneration l answer => Sys2Proof.Machine.execPeerDelayGeneration l answer s
  | .modPresent l level => Sys2Proof.Machine.execModPresent l level s
  | .jtagInstruction code => Sys2Proof.Machine.execJtagInstruction code s

end Sys2Proof.Machine
end

