-- ==== Sys2Proof/Machine/Time.lean ====
section
/-!
DEFINITION. Machine/Time.lean: device time (R319 to R322).
-/
namespace Sys2Proof.Machine

/-- What one SYSCLK cycle adds to DT, in units of 2^-32 ns: 10 ns × (1 + (RATE + SLEW) × 10^-9) (R319). -/
def Clock.perCycle (k : Clock) : Nat := (10 * 2 ^ 32 * (1000000000 + k.rate + k.slew) / 1000000000).toNat

/-- One SYSCLK cycle of device time. -/
def Clock.advance (k : Clock) : Clock :=
  let f := k.frac + k.perCycle
  { k with dt := (k.dt + f / 2 ^ 32) % 2 ^ 64, frac := f % 2 ^ 32 }

/-- One SYSCLK cycle of device time, with what the power controller does in it (R319, R329). -/
def State.timeTick (s : State) : State := if s.timeRuns then ({ s with clk := s.clk.advance }).bootTick else s

/-- One SYSCLK cycle passes with no command: device time counts, and the kernel, where it is idle, sees to what needs no command: it
puts the queue engine in service, and answers a reserved call (R253, R319, R329, R338). Log entry 1, DESIGN CHOICE. Log entry 134,
DESIGN CHOICE. -/
def State.idleCycle (s : State) : State := s.timeTick.tryReady.noService

end Sys2Proof.Machine
end

