-- ==== Sys2Proof/Safety.lean ====
section
/-!
DEFINITION. Safety.lean: the terms of the statements: a well-kept state; the conditions under which an operation joins the
bundle of a cluster or runs on a Shingle core without a trap, a fault or an exception; and the state it then leaves.
-/
namespace Sys2Proof.Machine

/-! ### A well-kept state -/

/-- The store is in its canonical form: addresses rising, no byte listed that reads 0. -/
def State.storeWf (s : State) : Bool := Memory.wf s.store

/-- The register bank is in its canonical form. -/
def State.regsWf (s : State) : Bool := Tab.wf regReset s.regs

/-- A well-kept state: the store and the register bank are canonical, the clocks are within their widths. -/
structure State.Ok (s : State) : Prop where
  /-- The store is in its canonical form. -/
  store : s.storeWf = true
  /-- The register bank is in its canonical form. -/
  regs : s.regsWf = true
  /-- Device time has 64 bits (R319). -/
  dt : s.clk.dt < 2 ^ 64
  /-- The fraction of a nanosecond has 32 bits (R319). -/
  frac : s.clk.frac < 2 ^ 32
  /-- The calendar counts seconds in 33 bits (R316). -/
  sec : s.cald.sec < 2 ^ 33
  /-- The calendar counts ticks of 1/32768 s in 15 bits (R316). -/
  sub : s.cald.sub < 2 ^ 15

/-! ### Clusters -/

/-- The first syllable of an operation of `unit` that joins the bundle: after those that have issued and the suppressed ones before it
(R56, R76). -/
abbrev Cluster.place (x : Cluster) (unit : Nat) : Nat := x.pc + (x.iss.len + x.iss.before unit)

/-- An operation of `unit` with `len` syllables can join the bundle under issue on cluster c, whatever its own operands
are: the cluster issues, units rise within the bundle (R25), GO suppresses no such unit (R76), its syllables are mapped and
read without error (R31, R155), and no operation before it writes FLG if this one does (R41). -/
structure State.Takes (s : State) (c unit len : Nat) (flagW : Bool) : Prop where
  /-- The instance runs, within its declared count, outside every branch shadow. -/
  can : s.canIssue c = true
  /-- Every unit that has issued in this cycle has a lower number. -/
  order : ∀ v ∈ (s.cluster c).iss.units, v < unit
  /-- The unit is not suppressed. -/
  go : unit ∉ (s.cluster c).iss.skip
  /-- Its syllables can be fetched. -/
  fetch : (s.cluster c).fetchFail ((s.cluster c).place unit) len = none
  /-- It is the bundle's only flag writer. -/
  flag : flagW = true → (s.cluster c).iss.flagAt = none

/-- No operation of the bundle names generator `ag` (R35). -/
def State.AgFree (s : State) (c ag : Nat) : Prop := ∀ p ∈ (s.cluster c).iss.ags, p.1 ≠ ag

/-- Cluster c once the operation has joined its bundle: it takes its place, and its results wait behind those in flight. -/
def Cluster.joined (x : Cluster) (unit len : Nat) (flagW : Bool) (ag : Option Nat) (ctl : Ctl) (ents : List Entry) : Cluster :=
  { x with
    iss := { x.iss with
      units := unit :: x.iss.units, len := x.iss.len + len,
      flagAt := if flagW then some (x.place unit) else x.iss.flagAt,
      ags := x.iss.ags ++ (match ag with | some g => [(g, x.place unit)] | none => []),
      ctl := if ctl = .none then x.iss.ctl else ctl },
    pend := x.pend ++ ents }

/-- The state once the operation has joined the bundle of cluster c: nothing else changes. -/
def State.joined (s : State) (c unit len : Nat) (flagW : Bool) (ag : Option Nat) (ctl : Ctl) (ents : List Entry) : State :=
  s.setCluster c ((s.cluster c).joined unit len flagW ag ctl ents)

/-- The instance on cluster c faults with a cause: no operation of the issuing bundle takes effect (R51). -/
def State.faulting (s : State) (c cause : Nat) : Answer := .next ((s.updCluster c Cluster.dropFresh).instFault c cause)

/-- What an operation that only leaves results answers: those results wait in the pending list of cluster c. -/
def State.results (s : State) (c unit len : Nat) (flagW : Bool) (ents : List Entry) : Answer :=
  .next (s.joined c unit len flagW none .none ents)

/-- The sum a + b + carry with the flags of R60: C is the carry out of the top bit, V the signed overflow; with `sat` an
overflow gives the largest or the smallest value, by the sign of the operands. -/
def sumRule {w : Nat} (a b : BitVec w) (cin sat : Bool) : Res w :=
  let r := a + b + BitVec.ofNat w cin.toNat
  let ov := (a.msb == b.msb) && (r.msb != a.msb)
  let v := if ov && sat then (if a.msb then BitVec.intMin w else BitVec.intMax w) else r
  ⟨v, ⟨decide (v = 0), v.msb, decide (2 ^ w ≤ a.toNat + b.toNat + cin.toNat), ov, ov && sat⟩⟩

/-- A value whose C and V are 0 (R60, all others). -/
def plainRule {w : Nat} (v : BitVec w) : Res w := ⟨v, ⟨decide (v = 0), v.msb, false, false, false⟩⟩

/-- A shifted value with the last bit out as C (R60). -/
def shiftRule {w : Nat} (v : BitVec w) (c : Bool) : Res w := ⟨v, ⟨decide (v = 0), v.msb, c, false, false⟩⟩

/-! ### Cores -/

/-- Core k runs and can fetch an instruction of 1 or 2 words at PC, which no run prefix precedes: no block of it is set in
SHG_NX, no word is in error or beyond the program memory (R222, R235, R246). -/
structure State.Runs (s : State) (k words : Nat) : Prop where
  /-- The core is in RUN, powered, and not in WAITD. -/
  ready : s.shgReady k = true
  /-- No run prefix is in force. -/
  plain : (s.core k).rpt = false
  /-- The first word can be fetched. -/
  fetch : s.fetchWord k (s.core k).pc.toNat = (s, none)
  /-- So can the second. -/
  next : words = 2 → s.fetchWord k (((s.core k).pc.toNat + 1) % 65536) = (s, none)

/-- The state in which the body of an instruction of core k acts: PC stands after it, and its cycles have been spent, also from a
watchdog that counts. -/
def State.entered (s : State) (k words cyc : Nat) : State :=
  let c := s.core k
  s.setCore k { c with
    pc := c.pc + BitVec.ofNat 16 words, cycles := c.cycles + cyc, wdog := if s.wdogCounts k then c.wdog - cyc else c.wdog }

/-- The state once core k has run an instruction: PC stands after it, its cycles have been spent, also from a watchdog that
counts, then `g` has changed the core, and the word after the instruction has been prefetched (R233), kept where the core goes on at
it.  Nothing else changes. -/
def State.ran (s : State) (k words cyc : Nat) (g : Core → Core) : State :=
  let c := s.core k
  s.setCore k ((g { c with
    pc := c.pc + BitVec.ofNat 16 words, cycles := c.cycles + cyc,
    wdog := if s.wdogCounts k then c.wdog - cyc else c.wdog }).prefetch (s.snapshot k ((c.pc.toNat + words) % 65536)))

/-- The flags V, C, N and Z of ST, in this order from bit 3 (R220). -/
def Core.withFlags (c : Core) (f : FlagUpd) : Core :=
  { c with st := c.st.extractLsb' 4 4 ++ BitVec.ofBool f.v ++ BitVec.ofBool f.c ++ BitVec.ofBool f.n ++ BitVec.ofBool f.z }

/-- The conditions of R231, by number. -/
def condition (cc : Nat) (z n c v : Bool) : Bool :=
  [z, !z, c, !c, n, !n, v, !v, c && !z, !c || z, decide (n = v), decide (n ≠ v), !z && decide (n = v), z || decide (n ≠ v), true].getD
    cc true

/-- A byte of local data stored, with good parity. -/
def Core.stored (c : Core) (a : Nat) (b : Byte) : Core :=
  { c with data := Memory.write c.data a b, dataBad := c.dataBad.filter (· ≠ a), dataLost := c.dataLost.filter (· ≠ a) }

/-- Core k reads a byte of its own data RAM there, without a parity error; on the Ridge in neither core's copy. -/
def State.readable (s : State) (k a : Nat) : Prop :=
  localData k a = true ∧ a ∉ (s.core k).dataBad ∧ a ∉ (s.core k).dataLost

/-- A port whose use has no effect outside the core: not CLAIM_LO, EOI_HI, WDT_KICK or a kernel port (R225). -/
def plainPort (k p : Nat) : Prop := p ≠ 0 ∧ p ≠ 3 ∧ p ≠ 0x18 ∧ isKernelPort k p = false

/-! ### Queue commands -/

/-- The descriptor of a queue's command in progress. -/
def Sq.desc (x : Sq) : Desc := (x.cmd.map Cmd.d).getD (Desc.parse 0 [])

/-- The arguments that it has read from host memory. -/
def Sq.args (x : Sq) : List Byte := (x.cmd.map Cmd.args).getD []

/-- The segment that it belongs to. -/
def Sq.segment (x : Sq) : Seg := x.seg.getD ⟨false, false, 0, 0⟩

/-- The unit may execute the command of queue q, the last of its segment; the queue's completions go to a completion queue
with room that signals nothing, and the engine is not held. -/
structure State.Lone (s : State) (q : Nat) : Prop where
  /-- A command is ready. -/
  cmd : (s.sq q).cmd = some ⟨(s.sq q).desc, (s.sq q).args, .ready⟩
  /-- It is part of a segment. -/
  seg : (s.sq q).seg = some (s.sq q).segment
  /-- Its descriptor has END. -/
  fin : (s.sq q).desc.fin = true
  /-- The completion queue is enabled. -/
  en : (s.cq (s.sq q).cq).en = true
  /-- It has room. -/
  room : 0 < (s.cq (s.sq q).cq).room
  /-- It holds nothing back. -/
  held : (s.cq (s.sq q).cq).held = []
  /-- It signals nothing. -/
  ien : (s.cq (s.sq q).cq).ien = false
  /-- The engine is not held. -/
  live : s.qeHeld = false
  /-- No command accepted before it holds its unit (R275). -/
  turn : s.turn q (s.sq q).desc.op = true

/-- The state once the command of queue q has ended its segment with a status code, a reason and a result (R271, R278): the
segment is over, HEAD stands past a ring entry, the resume point is the descriptor, and a 16-byte completion is written at TAIL
with PHASE, which inverts as TAIL wraps.  QE_COUNT[0] counts a success, QE_COUNT[1] another end (R268). -/
def State.ended (s : State) (q code reason result : Nat) : State :=
  let x := s.sq q
  let c := s.cq x.cq
  let head := if x.segment.ring then (x.head + 1) % Nat.max 1 (Nat.min x.size 4096) else x.head
  let tail := (c.tail + 1) % Nat.max 1 (Nat.min c.size 4096)
  let n := if code = 0 then 0 else 1
  let entry := leBytes 2 x.desc.cid ++ leBytes 1 code ++ leBytes 1 reason ++ leBytes 2 (head % 4096) ++ leBytes 2 0 ++
    leBytes 4 result ++ leBytes 2 x.segment.links ++ leBytes 1 q ++ leBytes 1 (b2n x.segment.resumed + 128 * b2n c.phase)
  let y := { x with head := head, seg := none, nextAt := none, rd := none, cmd := none, point := some (x.desc.at_, x.desc.cid) }
  { ((s.setSq q y).setCq x.cq { c with tail := tail, phase := if tail = 0 then !c.phase else c.phase }).setReg (.qeCount n)
      (s.reg (.qeCount n) + 1) with
    out := .hostWrite (c.base.toNat + 16 * c.tail) entry :: s.out }

/-- A state has ended the command of queue q as from s, whatever else the command did. -/
def State.Ends (t s : State) (q code reason result : Nat) : Prop :=
  let e := s.ended q code reason result
  t.sqs = e.sqs ∧ t.cqs = e.cqs ∧ t.out = e.out ∧
    ∀ n : Fin 2, t.reg (.qeCount n) = e.reg (.qeCount n)

/-- The state in which the command of queue q waits for its end. -/
def State.waiting (s : State) (q : Nat) : State :=
  let x := s.sq q
  s.setSq q { x with cmd := some ⟨x.desc, x.args, .waiting⟩ }

end Sys2Proof.Machine
end

