-- ==== Sys2Proof/Certificates/Slice0/Obligations.lean ====
section
/-! DEFINITION. Certificates/Slice0/Obligations.lean: the statements for the provers. -/

open Sys2Proof Sys2Proof.Machine

/-! ### The machine -/

/-- A step with a command at the front of the queue is exec of that command on the state with the rest of the queue. That there
is one queue of all commands, first in, first out, is the model's choice (log 104). -/
def Obligations.StepRunsFront : Prop :=
  ∀ (c : Instr) (rest : List Instr) (s : State), step { s with pending := c :: rest } = exec c { s with pending := rest }

/-- A step on an empty queue is one cycle of SYSCLK (the model's choice, log 1). It adds 10 ns × (1 + (RATE + SLEW) × 10^-9) to
device time, with a 32-bit fraction (R319): with RATE + SLEW = 0 exactly 10 ns; device time stands while SYSCLK is absent or the
always-on domain has no power (R338). While domains of boot wait, the next four go to RAMP 10 µs after the last (R329; log 97).
A running kernel with the store clear puts the queue engine in service, and it answers a caller of services 6 to 15 with
NO_SERVICE (R253, R329; log 134). Nothing else changes. -/
def Obligations.IdleStep : Prop :=
  ∀ (k : Fin 64) (s : State), s.pending = [] →
    let c := s.clk
    let per := (10 * 2 ^ 32 * (10 ^ 9 + c.rate + c.slew) / 10 ^ 9).toNat
    let later : Clock := { c with dt := (c.dt + (c.frac + per) / 2 ^ 32) % 2 ^ 64, frac := (c.frac + per) % 2 ^ 32 }
    let runs := c.sysclk = true ∧ s.isOn 48 = true
    let served := s.misc.boot ≠ .done ∨ bit (s.reg .qeStatus) 0 = true
    let noCall := ∀ n : Nat, n < 64 → (s.core n).state = .calling → (s.core n).call < 6
    let booted := s.misc.toBoot = []
    (served → noCall → ¬ runs → step s = .next s) ∧
    (served → noCall → runs → booted ∨ later.dt < s.misc.bootAt → step s = .next { s with clk := later }) ∧
    (c.rate + c.slew = 0 → c.frac < 2 ^ 32 → later = { c with dt := (c.dt + 10) % 2 ^ 64 }) ∧
    (served → noCall → runs → s.isOn 47 = true → s.misc.toBoot ≠ [] → s.misc.bootAt ≤ later.dt → ∃ t, step s = .next t ∧
      t = { s with clk := later, misc := { s.misc with toBoot := s.misc.toBoot.drop 4, bootAt := later.dt + 10000 }, doms := t.doms } ∧
      ∀ d : Nat, t.dom d = if d ∈ s.misc.toBoot.take 4 ∧ (s.dom d).st = .off then { s.dom d with st := .ramp } else s.dom d) ∧
    (s.misc.boot = .done → bit (s.reg .qeStatus) 0 = false → s.storeClearing = false → s.isOn 47 = true → s.ridge.stopped = false →
      s.ridge.clearing = false → noCall → booted → ∃ t, step s = .next t ∧ t = { s with clk := t.clk, regs := t.regs } ∧
      bit (t.reg .qeStatus) 0 = true ∧ fld (t.reg .bootStatus) 7 0 = 0) ∧
    (served → booted → 6 ≤ (s.core k).call → s.serves k (s.core k).call = true → (s.core k).gm = false →
      (∀ n : Nat, n < 64 → (s.core n).state = .calling → 6 ≤ (s.core n).call → n = k) → ∃ t, step s = .next t ∧
      (t.core k).excVec = 6 ∧ (t.core k).excDetail = 1 ∧ (t.core k).spc = (s.core k).pc ∧ k.val ∉ t.ridge.kcq)

/-- The state after reset: well-kept, nothing waits, domains 46, 48 and 49 are ON and the others OFF (R307), clusters at step 7
(R311), no line runs, every Shingle is held (R251), no queue runs; HOP_LIMIT is 0x40, PHASE 1 and COUNT 1 (R268), QOS 6 (R298),
MODE 0x0003 (R30), BOOT_STATUS 0x01, the thermal thresholds 125 °C and 110 °C. That no line has received a record (hasRec) and
that CAL_STATUS.LOST is 1 in this reset state are the model's choices (logs 12 and 10). -/
def Obligations.ResetState : Prop :=
  let s := State.reset
  s.Ok ∧ s.pending = [] ∧ s.jobs = [] ∧ s.admitted = [] ∧ s.out = [] ∧
    (∀ d : Fin 50, s.dom d = ⟨if d = 46 ∨ d = 48 ∨ d = 49 then .on else .off, 7, []⟩) ∧
    (∀ l : Fin 16, (s.lane l).run = false ∧ (s.lane l).hasRec = false) ∧
    (∀ k : Fin 65, (s.core k).state = .held) ∧ (∀ k : Fin 2, s.reg (.shgRun k) = 0) ∧
    (∀ q : Fin 64, (s.sq q).run = false ∧ (s.sq q).hop = 0x40 ∧ (s.sq q).stop = 0) ∧
    (∀ q : Fin 65, (s.cq q).en = false ∧ (s.cq q).phase = true ∧ (s.cq q).count = 1) ∧
    (∀ n : Fin 16, (s.dma n).busy = false ∧ (s.dma n).qos = 6) ∧
    (∀ c : Fin 32, (s.cluster c).ctl 47 = 3 ∧ (s.cluster c).phase = .idle) ∧
    s.reg .bootStatus = 1 ∧ s.reg .thermCtl = 0x01F401B8 ∧ s.reg .calStatus = 1 ∧ s.reg .dtCtl = 0

/-- Every step keeps a well-kept state: the store and the register bank in their canonical forms, device time within 64 bits and
its fraction within 32, the calendar within 33 bits of seconds and 15 bits of ticks. -/
def Obligations.StepKeepsOk : Prop :=
  ∀ (s t : State), s.Ok → step s = .next t → t.Ok

/-! ### Cluster operations -/

/-- ADD, SUB, ADC, SBC, NEG and ABS: the operation joins the bundle and its result waits to land at the end of the cycle; each
result is the sum of R60 of the two words, of a word and the complement of another, or of 0 and a complement. -/
def Obligations.AddSubResults : Prop :=
  ∀ (c : Fin 32) (u : Fin 2) (f : Bool) (dst sa sb : Fin 32) (s : State), s.Takes c u 2 f →
    let x := s.cluster c
    let put (r : Res 16) : Answer := s.results c u 2 f [entD 1 u dst r.v (if f then some r.f else none)]
    exec (.add c u f dst sa sb) s = put (sumRule (x.dr sa) (x.dr sb) false x.sat) ∧
    exec (.sub c u f dst sa sb) s = put (sumRule (x.dr sa) (~~~(x.dr sb)) true x.sat) ∧
    exec (.adc c u f dst sa sb) s = put (sumRule (x.dr sa) (x.dr sb) (bit (x.ctl 44) 2) x.sat) ∧
    exec (.sbc c u f dst sa sb) s = put (sumRule (x.dr sa) (~~~(x.dr sb)) (bit (x.ctl 44) 2) x.sat) ∧
    exec (.neg c u f dst sa) s = put (sumRule 0 (~~~(x.dr sa)) true x.sat) ∧
    exec (.abs c u f dst sa) s = put (if (x.dr sa).msb then
        let r := sumRule 0 (~~~(x.dr sa)) true x.sat
        ⟨r.v, { r.f with c := false }⟩ else plainRule (x.dr sa))

/-- MIN, MAX, AND, OR, XOR, ANDN, NOT, MOV and NORM: the results of R59, with C and V 0. That NORM counts every bit below bit 15
that equals it, wherever it stands, is log 27. LSL, LSR, ASR and ROR by SB[4:0], LSLI, LSRI and ASRI by an immediate of 0 to 15:
the value and the last bit out of R59 and R60. -/
def Obligations.LogicShiftResults : Prop :=
  (∀ (c : Fin 32) (u : Fin 2) (f : Bool) (dst sa sb : Fin 32) (s : State), s.Takes c u 2 f →
     let a := (s.cluster c).dr sa
     let b := (s.cluster c).dr sb
     let put (v : W16) : Answer := s.results c u 2 f [entD 1 u dst v (if f then some (plainRule v).f else none)]
     exec (.min c u f dst sa sb) s = put (if a.sle b then a else b) ∧
     exec (.max c u f dst sa sb) s = put (if a.sle b then b else a) ∧
     exec (.and c u f dst sa sb) s = put (a &&& b) ∧
     exec (.or c u f dst sa sb) s = put (a ||| b) ∧
     exec (.xor c u f dst sa sb) s = put (a ^^^ b) ∧
     exec (.andn c u f dst sa sb) s = put (a &&& ~~~b) ∧
     exec (.not c u f dst sa) s = put (~~~a) ∧
     exec (.mov c u f dst sa) s = put a ∧
     exec (.norm c u f dst sa) s =
       put (BitVec.ofNat 16 ((List.range 15).filter (fun i => a.getLsbD i == a.getLsbD 15)).length)) ∧
  (∀ (c : Fin 32) (u : Fin 2) (f : Bool) (dst sa sb n : Fin 32) (s : State), s.Takes c u 2 f →
     let a := (s.cluster c).dr sa
     let m := ((s.cluster c).dr sb).toNat % 32
     let put (r : Res 16) : Answer := s.results c u 2 f [entD 1 u dst r.v (if f then some r.f else none)]
     let lsl (n : Nat) := shiftRule (a <<< n) (decide (0 < n ∧ n ≤ 16) && a.getLsbD (16 - n))
     let lsr (n : Nat) := shiftRule (a >>> n) (decide (0 < n ∧ n ≤ 16) && a.getLsbD (n - 1))
     let asr (n : Nat) := shiftRule (a.sshiftRight n) (decide (0 < n) && a.getLsbD (Nat.min (n - 1) 15))
     exec (.lsl c u f dst sa sb) s = put (lsl m) ∧
     exec (.lsr c u f dst sa sb) s = put (lsr m) ∧
     exec (.asr c u f dst sa sb) s = put (asr m) ∧
     exec (.ror c u f dst sa sb) s = put (shiftRule (a.rotateRight (m % 16)) (decide (0 < m) && (a.rotateRight (m % 16)).msb)) ∧
     (n.val < 16 →
       exec (.lsli c u f dst sa n) s = put (lsl n) ∧
       exec (.lsri c u f dst sa n) s = put (lsr n) ∧
       exec (.asri c u f dst sa n) s = put (asr n)))

/-- ADD32, SUB32, NEG32, ABS32, ASR32I, LSL32I and MOV32 on even pairs. CMP, TST, CMP32 and FCMP write flags only: of the
difference as compared, of the AND, and of the binary32 compare. -/
def Obligations.PairCompareResults : Prop :=
  (∀ (c : Fin 32) (u : Fin 2) (f : Bool) (dst sa sb n : Fin 32) (s : State), s.Takes c u 2 f →
     dst.val % 2 = 0 → sa.val % 2 = 0 → sb.val % 2 = 0 →
     let x := s.cluster c
     let a := x.dp sa
     let b := x.dp sb
     let put (r : Res 32) : Answer := s.results c u 2 f (entP 1 u dst r.v (if f then some r.f else none))
     exec (.add32 c u f dst sa sb) s = put (sumRule a b false x.sat) ∧
     exec (.sub32 c u f dst sa sb) s = put (sumRule a (~~~b) true x.sat) ∧
     exec (.neg32 c u f dst sa) s = put (sumRule 0 (~~~a) true x.sat) ∧
     exec (.abs32 c u f dst sa) s = put (if a.msb then
         let r := sumRule 0 (~~~a) true x.sat
         ⟨r.v, { r.f with c := false }⟩ else plainRule a) ∧
     exec (.asr32i c u f dst sa n) s = put (shiftRule (a.sshiftRight n) (decide (0 < n.val) && a.getLsbD (n - 1))) ∧
     exec (.lsl32i c u f dst sa n) s = put (shiftRule (a <<< n.val) (decide (0 < n.val) && a.getLsbD (32 - n))) ∧
     exec (.mov32 c u f dst sa) s = put (plainRule a)) ∧
  (∀ (c : Fin 32) (u : Fin 2) (sa sb : Fin 32) (s : State), s.Takes c u 2 true →
     let x := s.cluster c
     let put (fl : FlagUpd) (e : BitVec 5) : Answer :=
       s.results c u 2 true [{ mkEnt 1 u .nowhere 0 (some fl) with fpf := e }]
     exec (.cmp c u sa sb) s = put (sumRule (x.dr sa) (~~~(x.dr sb)) true false).f 0 ∧
     exec (.tst c u sa sb) s = put (plainRule (x.dr sa &&& x.dr sb)).f 0 ∧
     (sa.val % 2 = 0 → sb.val % 2 = 0 →
       exec (.cmp32 c u sa sb) s = put (sumRule (x.dp sa) (~~~(x.dp sb)) true false).f 0 ∧
       exec (.fcmp c u sa sb) s = put (fCmp (x.dp sa) (x.dp sb)).1 (fCmp (x.dp sa) (x.dp sb)).2))

/-- The binary32 operations and the conversions on even pairs: the result, its flags and its exceptions, readable at +3, +1 and
+2 (R36, R61). -/
def Obligations.FloatResults : Prop :=
  ∀ (c : Fin 32) (u : Fin 2) (f : Bool) (dst sa sb : Fin 32) (s : State), s.Takes c u 2 f →
    dst.val % 2 = 0 → sa.val % 2 = 0 → sb.val % 2 = 0 →
    let x := s.cluster c
    let a := x.dp sa
    let b := x.dp sb
    let pair (due : Nat) (v : W32) (fl : FlagUpd) (e : BitVec 5) : Answer :=
      s.results c u 2 f [{ entD due u dst (v.setWidth 16) (if f then some fl else none) with fpf := e },
        entD due u (dst + 1) ((v >>> 16).setWidth 16) none]
    let fp (due : Nat) (r : FRes) : Answer := pair due r.v (fFlags r.v) r.x
    exec (.fadd c u f dst sa sb) s = fp 3 (fAdd a b) ∧
    exec (.fsub c u f dst sa sb) s = fp 3 (fSub a b) ∧
    exec (.fmul c u f dst sa sb) s = fp 3 (fMul a b) ∧
    exec (.fmin c u f dst sa sb) s = fp 1 (fMinMax false a b) ∧
    exec (.fmax c u f dst sa sb) s = fp 1 (fMinMax true a b) ∧
    exec (.fabs c u f dst sa) s = fp 1 ⟨a &&& 0x7FFFFFFF, 0⟩ ∧
    exec (.fneg c u f dst sa) s = fp 1 ⟨a ^^^ 0x80000000, 0⟩ ∧
    exec (.flt c u f dst sa) s = fp 2 (fromInt a.toInt 0) ∧
    exec (.fq15 c u f dst sa) s = fp 2 (fromInt (x.dr sa).toInt 15) ∧
    exec (.fq31 c u f dst sa) s = fp 2 (fromInt a.toInt 31) ∧
    exec (.fix c u f dst sa) s = pair 2 (toInt 32 0 a).1.v (toInt 32 0 a).1.f (toInt 32 0 a).2 ∧
    exec (.qf31 c u f dst sa) s = pair 2 (toInt 32 31 a).1.v (toInt 32 31 a).1.f (toInt 32 31 a).2 ∧
    exec (.qf15 c u f dst sa) s = s.results c u 2 f
      [{ entD 2 u dst (toInt 16 15 a).1.v (if f then some (toInt 16 15 a).1.f else none) with fpf := (toInt 16 15 a).2 }]

/-- The divide and square-root unit, launched from ALU1: the results of R62, marked as the unit's and due at +18. -/
def Obligations.DivideResults : Prop :=
  ∀ (c : Fin 32) (f : Bool) (dst sa sb : Fin 32) (s : State), s.Takes c 1 2 f → sa.val % 2 = 0 →
    let x := s.cluster c
    let a := x.dp sa
    let b := x.dr sb
    let one (v : W16) (ov : Bool) : Answer := s.results c 1 2 f
      [{ entD 18 1 dst v (if f then some ⟨decide (v = 0), v.msb, false, ov, ov⟩ else none) with div := true }]
    let two (q r : W16) (ov : Bool) : Answer := s.results c 1 2 f
      [{ entD 18 1 dst q (if f then some ⟨decide (q = 0), q.msb, false, ov, ov⟩ else none) with div := true },
       { entD 18 1 (dst + 1) r none with div := true }]
    let fp (r : FRes) : Answer := s.results c 1 2 f
      [{ entD 18 1 dst (r.v.setWidth 16) (if f then some (fDivFlags r.v) else none) with div := true, fpf := r.x },
       { entD 18 1 (dst + 1) ((r.v >>> 16).setWidth 16) none with div := true }]
    let top (pos : Bool) : W16 := if pos then 0x7FFF else 0x8000
    (dst.val % 2 = 0 →
      exec (.div c 1 f dst sa sb) s =
        (if b = 0 then two (top (decide (0 ≤ a.toInt))) 0 true
         else if (a.toInt.tdiv b.toInt < -32768 ∨ 32767 < a.toInt.tdiv b.toInt) then two (top (decide (0 < a.toInt.tdiv b.toInt))) 0 true
         else two (BitVec.ofInt 16 (a.toInt.tdiv b.toInt)) (BitVec.ofInt 16 (a.toInt.tmod b.toInt)) false) ∧
      exec (.divu c 1 f dst sa sb) s =
        (if b = 0 ∨ 65535 < a.toNat / b.toNat then two 0xFFFF 0 true
         else two (BitVec.ofNat 16 (a.toNat / b.toNat)) (BitVec.ofNat 16 (a.toNat % b.toNat)) false) ∧
      exec (.fsqrt c 1 f dst sa) s = fp (fSqrt a) ∧
      (sb.val % 2 = 0 → exec (.fdiv c 1 f dst sa sb) s = fp (fDiv a (x.dp sb)))) ∧
    exec (.divq c 1 f dst sa sb) s = one (divqRes (x.dr sa) b).q (divqRes (x.dr sa) b).ov ∧
    exec (.sqrtu c 1 f dst sa) s = one (BitVec.ofNat 16 (isqrt a.toNat)) false

/-- MOVC, LDIA, LDIK and LDI: the register takes the value at the end of the cycle; a write of FLG is a flag writer. -/
def Obligations.MoveResults : Prop :=
  ∀ (c : Fin 32) (u : Fin 2) (d dst : Fin 32) (k : Fin 52) (a l : Fin 32) (imm : Syl) (v : W16) (s : State),
    let x := s.cluster c
    let ctl (n : Nat) (w : W16) : Answer := s.results c u 2 (decide (n = 44)) [mkEnt 1 u (.cr n) (w.setWidth 40) none]
    (s.Takes c u 2 (decide (k.val = 44)) → exec (.movc c u 0 d ⟨k, by omega⟩) s = ctl k (x.dr d)) ∧
    (s.Takes c u 2 false → exec (.movc c u 1 d ⟨k, by omega⟩) s = s.results c u 2 false [entD 1 u d (x.ctl k) none]) ∧
    (s.Takes c u 2 false → exec (.ldia c u a imm) s = ctl a (if a.val < 24 then imm.setWidth 16 else imm.signExtend 16)) ∧
    (s.Takes c u 2 (decide (l.val = 12)) → l.val < 20 →
      exec (.ldik c u l imm) s = ctl (32 + l) (if l.val = 14 then imm.signExtend 16 else imm.setWidth 16)) ∧
    (s.Takes c u 2 false → exec (.ldi c u dst v) s = s.results c u 2 false [entD 1 u dst v none])

/-- The MAC operations: exact sums of exact products, modulo 2^40, readable at +2; the addend follows R39. -/
def Obligations.MacResults : Prop :=
  ∀ (c : Fin 32) (u : Fin 2) (f : Bool) (k j : Fin 8) (da db : Fin 32) (n : BitVec 6) (s : State), s.Takes c (2 + u) 2 f →
    let x := s.cluster c
    let unit := 2 + u.val
    let add (i : Nat) : Int := (x.addend unit i).toInt
    let m (i l : Nat) : Int := (x.dr i).toInt * (x.dr l).toInt * (if x.frac then 2 else 1)
    let fl (r i : Int) : FlagUpd :=
      let v := BitVec.ofInt 40 r
      let w := BitVec.ofInt 40 i
      ⟨decide (v = 0), v.msb, outside32 v || outside32 w, decide (v.toInt ≠ r) || decide (w.toInt ≠ i), false⟩
    let one (r : Int) : Answer :=
      s.results c unit 2 f [mkEnt 2 unit (.acc k) (BitVec.ofInt 40 r) (if f then some (fl r r) else none)]
    let two (r i : Int) : Answer :=
      s.results c unit 2 f [mkEnt 2 unit (.acc k) (BitVec.ofInt 40 r) (if f then some (fl r i) else none),
        mkEnt 2 unit (.acc (k + 1)) (BitVec.ofInt 40 i) none]
    exec (.mpy c u f k da db) s = one (m da db) ∧
    exec (.mac c u f k da db) s = one (add k + m da db) ∧
    exec (.msu c u f k da db) s = one (add k - m da db) ∧
    exec (.macsu c u f k da db) s = one (add k + (x.dr da).toInt * (x.dr db).toNat) ∧
    exec (.macuu c u f k da db) s = one (add k + (x.dr da).toNat * (x.dr db).toNat) ∧
    exec (.adda c u f k j) s = one (add k + (x.ac j).toInt) ∧
    exec (.suba c u f k j) s = one (add k - (x.ac j).toInt) ∧
    exec (.ash c u f k n) s =
      one (if 0 ≤ n.toInt then add k * 2 ^ n.toInt.toNat else roundHalfEven (add k) (-n.toInt).toNat) ∧
    (da.val < 31 → exec (.ftap c u f k da db) s = s.results c unit 2 f
      [mkEnt 2 unit (.acc k) (BitVec.ofInt 40 (add k + m da db)) (if f then some (fl (add k + m da db) (add k + m da db)) else none),
       entD 1 unit (da + 1) (x.dr da) none]) ∧
    (k.val % 2 = 0 → db.val % 2 = 0 →
      exec (.mac2 c u f k da db) s = two (add k + m da db) (add (k + 1) + m da (db + 1)) ∧
      exec (.msu2 c u f k da db) s = two (add k - m da db) (add (k + 1) - m da (db + 1)) ∧
      (da.val % 2 = 0 →
        exec (.cmpy c u f k da db) s = two (m da db - m (da + 1) (db + 1)) (m da (db + 1) + m (da + 1) db) ∧
        exec (.cmac c u f k da db) s =
          two (add k + (m da db - m (da + 1) (db + 1))) (add (k + 1) + (m da (db + 1) + m (da + 1) db)) ∧
        exec (.cmacj c u f k da db) s =
          two (add k + (m da db + m (da + 1) (db + 1))) (add (k + 1) + (m (da + 1) db - m da (db + 1)))))

/-- CLR and CLRP clear an accumulator or a pair, LDA loads one with a sign-extended D pair. EXT, EXTL, EXTD and EXTG: the
rounded or cut part of an accumulator, saturated with MODE.SAT = 1 (R86). -/
def Obligations.AccumulatorResults : Prop :=
  (∀ (c : Fin 32) (u : Fin 2) (k : Fin 8) (da : Fin 32) (s : State),
     let unit := 2 + u.val
     let put (len : Nat) (n : Nat) (v : W40) : Answer := s.results c unit len false [mkEnt 2 unit (.acc n) v none]
     (s.Takes c unit 1 false → exec (.clr c u k) s = put 1 k 0) ∧
     (s.Takes c unit 1 false → k.val % 2 = 0 → exec (.clrp c u k) s =
       s.results c unit 1 false [mkEnt 2 unit (.acc k) 0 none, mkEnt 2 unit (.acc (k + 1)) 0 none]) ∧
     (s.Takes c unit 2 false → da.val % 2 = 0 → exec (.lda c u k da) s = put 2 k (((s.cluster c).dp da).signExtend 40))) ∧
  (∀ (c : Fin 32) (u : Fin 2) (f : Bool) (k : Fin 8) (db : Fin 32) (s : State), s.Takes c (2 + u) 2 f →
     let x := s.cluster c
     let unit := 2 + u.val
     let a := (x.ac k).toInt
     let cut (w : Nat) (q : Int) : BitVec w × FlagUpd :=
       let tooBig := x.sat && (decide (q < -2 ^ (w - 1)) || decide (2 ^ (w - 1) - 1 < q))
       let v : BitVec w := if tooBig then (if q < 0 then BitVec.intMin w else BitVec.intMax w) else BitVec.ofInt w q
       (v, ⟨decide (v = 0), v.msb, false, tooBig, tooBig⟩)
     let one (r : W16 × FlagUpd) : Answer := s.results c unit 2 f [entD 2 unit db r.1 (if f then some r.2 else none)]
     exec (.ext c u f k db) s = one (cut 16 (roundHalfEven a 16)) ∧
     exec (.extl c u f k db) s = one (cut 16 a) ∧
     exec (.extg c u f k db) s = one (let v : W16 := BitVec.ofInt 16 (a / 2 ^ 32); (v, (plainRule v).f)) ∧
     (db.val % 2 = 0 →
       exec (.extd c u f k db) s = s.results c unit 2 f (entP 2 unit db (cut 32 a).1 (if f then some (cut 32 a).2 else none))))

/-- LD and LDD read X or Y at the address of a generator, TRD, TRDI and TLI read C at a table base; the words have no parity
error. The generator is updated by its mode (R34), and a pair comes from an even address (R32). -/
def Obligations.LoadResults : Prop :=
  ∀ (c : Fin 32) (u : Fin 2) (ag : Fin 8) (mode : AgMode) (r : Fin 32) (tb : Fin 4) (k : Fin 8) (sg : Bool) (off : Fin 512)
    (q q1 : Nat) (s : State),
    let x := s.cluster c
    let sp := 1 + u.val
    let unit := 4 + u.val
    let step := mkEnt 1 unit (.post ag) ((x.eaNext ag mode).setWidth 40) none
    let tbl (due : Nat) (v : W16) : Answer := s.results c 6 2 false [entD due 6 r v none]
    (s.Takes c unit 2 false → s.AgFree c ag → x.phys sp (x.ea ag).toNat = some q → x.isBad sp q = false →
      exec (.ld c u ag mode r) s =
        .next (s.joined c unit 2 false (some ag) .none [entD 3 unit r (x.word sp q) none, step]) ∧
      (x.isBad sp (q + 1) = false → (x.ea ag).toNat % 2 = 0 → r.val % 2 = 0 →
        exec (.ldd c u ag mode r) s = .next (s.joined c unit 2 false (some ag) .none
          [entD 3 unit r (x.word sp q) none, entD 3 unit (r + 1) (x.word sp (q + 1)) none, step]))) ∧
    (s.Takes c 6 2 false → ∀ dx : Fin 32,
      (x.phys 3 (((x.tb tb).toNat + (x.dr dx).toNat) % 65536) = some q → x.isBad 3 q = false →
        exec (.trd c tb dx r) s = tbl 3 (x.word 3 q)) ∧
      (x.phys 3 (((x.tb tb).toNat + off) % 65536) = some q → x.isBad 3 q = false →
        exec (.trdi c tb off r) s = tbl 3 (x.word 3 q)) ∧
      (let v := if sg then x.dr dx ^^^ 0x8000 else x.dr dx
       let sh := 12 - k.val
       let base := (x.tb tb).toNat + v.toNat / 2 ^ sh
       k.val < 7 → x.phys 3 (base % 65536) = some q → x.phys 3 ((base + 1) % 65536) = some q1 →
       x.isBad 3 q = false → x.isBad 3 q1 = false →
       exec (.tli c tb k sg dx r) s =
         tbl 4 (BitVec.ofInt 16 ((x.word 3 q).toInt +
           roundHalfEven (((x.word 3 q1).toInt - (x.word 3 q).toInt) * (v.toNat % 2 ^ sh)) sh))))

/-- ST, STD, STS, STSC and STSD: the words wait to be written at the generator's address, whose page has WRITE; the accumulator
stores are scaled, rounded and saturated (R88, R89). -/
def Obligations.StoreResults : Prop :=
  ∀ (c : Fin 32) (u : Fin 2) (f : Bool) (ag : Fin 8) (mode : AgMode) (r : Fin 32) (k : Fin 8) (q : Nat) (s : State),
    let x := s.cluster c
    let unit := 4 + u.val
    let a := (x.ea ag).toNat
    s.AgFree c ag → x.physW (1 + u) a = some q →
    let dest (i : Nat) : Dest := if u = 0 then .xst (q + i) (a + i) else .yst (q + i) (a + i)
    let put (g : Bool) (lo : W16) (hi : List W16) (fl : Option FlagUpd) : Answer :=
      .next (s.joined c unit 2 g (some ag) .none
        (mkEnt 2 unit (dest 0) (lo.setWidth 40) fl :: hi.map (fun h => mkEnt 2 unit (dest 1) (h.setWidth 40) none) ++
          [mkEnt 1 unit (.post ag) ((x.eaNext ag mode).setWidth 40) none]))
    (s.Takes c unit 2 false → exec (.st c u ag mode r) s = put false (x.dr r) [] none) ∧
    (s.Takes c unit 2 false → a % 2 = 0 → r.val % 2 = 0 → exec (.std c u ag mode r) s = put false (x.dr r) [x.dr (r + 1)] none) ∧
    (s.Takes c unit 2 f →
      (let w := stsRes (x.ac k) x.scl
       exec (.sts c u f ag mode k) s = put f w.v [] (if f then some w.f else none)) ∧
      (a % 2 = 0 →
        (let w := stsdRes (x.ac k) x.scl
         exec (.stsd c u f ag mode k) s =
           put f (w.v.setWidth 16) [(w.v >>> 16).setWidth 16] (if f then some w.f else none)) ∧
        (k.val % 2 = 0 →
          let v := stsRes (x.ac k) x.scl
          let w := stsRes (x.ac (k + 1)) x.scl
          exec (.stsc c u f ag mode k) s = put f v.v [w.v]
            (if f then some ⟨v.f.z && w.f.z, v.f.n, false, v.f.v || w.f.v, v.f.sat || w.f.sat⟩ else none))))

/-- NOP, END, RET, BR, CALL, BRD, LOOPD and LOOPI: the transfer that the bundle will make at the end of its cycle. -/
def Obligations.ControlResults : Prop :=
  ∀ (c : Fin 32) (cc : Fin 16) (target last : Syl) (ds : Fin 32) (n : BitVec 12) (off : BitVec 10) (s : State),
    let x := s.cluster c
    let go (len : Nat) (ctl : Ctl) : Answer := .next (s.joined c 7 len false none ctl [])
    let loop (k le : Nat) : Answer := go 2 (if k = 0 then .skip le else .loop k le)
    (s.Takes c 7 1 false →
      exec (.nop c) s = go 1 .none ∧
      exec (.endOp c) s = go 1 .stop ∧
      (x.atLe = false →
        exec (.brd c ds) s = go 1 (.jump (x.dr ds).toNat) ∧
        (0 < x.depth → exec (.ret c) s = go 1 (.ret (Tab.get (fun _ => 0) x.rs (x.depth - 1)).toNat)))) ∧
    (s.Takes c 7 2 false → x.atLe = false →
      exec (.br c cc target) s = go 2 (if condHolds cc (x.ctl 44) then .jump target.toNat else .none) ∧
      (x.depth < 8 → exec (.call c target) s = go 2 (.call target.toNat)) ∧
      (x.loops < 4 →
        (x.badEnd last.toNat = false → exec (.loopd c ds last) s = loop (x.dr ds).toNat last.toNat) ∧
        (x.badEnd (x.pc + off.toNat) = false → exec (.loopi c n off) s = loop n.toNat (x.pc + off.toNat))))

/-! ### Cluster cycles, traps and holds -/

/-- The causes that a form of an operation brings to its bundle (R72; log 21): the operation issues, the bundle holds the cause
and the address of the first syllable to report, and nothing outside the cluster changes. -/
def Obligations.IssueTraps : Prop :=
  ∀ (c : Fin 32) (u : Fin 2) (f : Bool) (dst sa sb n : Fin 32) (dir : Fin 4) (k : Fin 64) (ag : Fin 8) (mode : AgMode)
    (cc : Fin 16) (target : Syl) (a0 q : Nat) (s : State),
    let x := s.cluster c
    let a := x.place u
    let p := x.place 7
    let brings (i : Instr) (code syl : Nat) : Prop :=
      ∃ t, exec i s = .next t ∧ t = s.setCluster c (t.cluster c) ∧ (t.cluster c).iss.fail = some ⟨3, code, syl, none⟩
    x.iss.fail = none →
    (s.Takes c u 2 f → (dst.val % 2 = 1 ∨ sa.val % 2 = 1) → brings (.mov32 c u f dst sa) 6 a) ∧
    (s.Takes c 0 2 f → brings (.sqrtu c 0 f dst sa) 4 (x.place 0)) ∧
    (s.Takes c u 2 f → 16 ≤ n.val → brings (.lsli c u f dst sa n) 5 a) ∧
    (s.Takes c u 2 false → 2 ≤ dir.val → brings (.movc c u dir dst k) 5 a) ∧
    (s.Takes c u 2 false → x.iss.flagAt = some a0 → brings (.add c u true dst sa sb) 0x10 a0) ∧
    (s.Takes c 5 2 false → x.iss.ags = [(ag.val, a0)] → x.phys 2 (x.ea ag).toNat = some q → x.isBad 2 q = false →
      brings (.ld c 1 ag mode dst) 0x11 a0) ∧
    (s.canIssue c = true → x.iss.units = [7] → 7 ∉ x.iss.skip → x.fetchFail p 1 = none → brings (.nop c) 1 p) ∧
    (s.Takes c 7 2 false → x.atLe = true → brings (.br c cc target) 0x12 p) ∧
    (s.Takes c 7 2 false → x.atLe = false → x.badEnd target.toNat = true → brings (.loopd c sa target) 0x13 p) ∧
    (s.Takes c 7 2 false → x.atLe = false → x.badEnd target.toNat = false → 4 ≤ x.loops → brings (.loopd c sa target) 0x20 p)

/-- LDD and STD of a D pair: the word at the even address goes with the even register; an odd address raises ALIGN, at the end
of the cycle (R32). -/
def Obligations.PairAlignment : Prop :=
  ∀ (c : Fin 32) (u : Fin 2) (ag : Fin 8) (mode : AgMode) (r : Fin 32) (q : Nat) (s : State),
    let x := s.cluster c
    let a := (x.ea ag).toNat
    s.Takes c (4 + u) 2 false → s.AgFree c ag → x.iss.fail = none → r.val % 2 = 0 →
    (a % 2 = 0 →
      (x.phys (1 + u) a = some q → x.isBad (1 + u) q = false → x.isBad (1 + u) (q + 1) = false →
        ∃ t, exec (.ldd c u ag mode r) s = .next t ∧ t = { s with clusters := t.clusters } ∧
          entD 3 (4 + u) r (x.word (1 + u) q) none ∈ (t.cluster c).pend ∧
          entD 3 (4 + u) (r + 1) (x.word (1 + u) (q + 1)) none ∈ (t.cluster c).pend) ∧
      (x.physW (1 + u) a = some q →
        let dest (i : Nat) : Dest := if u = 0 then .xst (q + i) (a + i) else .yst (q + i) (a + i)
        ∃ t, exec (.std c u ag mode r) s = .next t ∧ t = { s with clusters := t.clusters } ∧
          mkEnt 2 (4 + u) (dest 0) ((x.dr r).setWidth 40) none ∈ (t.cluster c).pend ∧
          mkEnt 2 (4 + u) (dest 1) ((x.dr (r + 1)).setWidth 40) none ∈ (t.cluster c).pend)) ∧
    (a % 2 = 1 →
      (x.phys (1 + u) a = some q → x.isBad (1 + u) q = false → x.isBad (1 + u) (q + 1) = false →
        ∃ t, exec (.ldd c u ag mode r) s = .next t ∧ exec (.resultLands c) t = State.faulting t c cAlign) ∧
      (x.physW (1 + u) a = some q →
        ∃ t, exec (.std c u ag mode r) s = .next t ∧ exec (.resultLands c) t = State.faulting t c cAlign))

/-- Two loads or stores in one bundle that name the same address generator trap at issue (R35): the second, by LSY, brings AGEN,
and the end of the cycle takes the trap instead of issuing the bundle. -/
def Obligations.SameGeneratorTraps : Prop :=
  ∀ (c : Fin 32) (ag : Fin 8) (m1 m2 : AgMode) (r1 r2 : Fin 32) (q1 q2 : Nat) (s : State),
    let x := s.cluster c
    let even (q u : Nat) (r : Fin 32) : Bool := decide (r.val % 2 = 0 ∧ (x.ea ag).toNat % 2 = 0) && !x.isBad u (q + 1)
    s.Takes c 4 2 false → x.iss = Issue.empty → x.fetchFail (x.pc + 2) 2 = none →
    x.phys 1 (x.ea ag).toNat = some q1 → x.physW 1 (x.ea ag).toNat = some q1 → x.isBad 1 q1 = false →
    x.phys 2 (x.ea ag).toNat = some q2 → x.physW 2 (x.ea ag).toNat = some q2 → x.isBad 2 q2 = false →
    ∀ i ∈ [Instr.ld c 0 ag m1 r1, .st c 0 ag m1 r1] ++ (if even q1 1 r1 then [Instr.ldd c 0 ag m1 r1, .std c 0 ag m1 r1] else []),
    ∀ j ∈ [Instr.ld c 1 ag m2 r2, .st c 1 ag m2 r2] ++ (if even q2 2 r2 then [Instr.ldd c 1 ag m2 r2, .std c 1 ag m2 r2] else []),
      ∃ t, exec i s = .next t ∧ ∃ t2, exec j t = .next t2 ∧ exec (.resultLands c) t2 = .next (t2.trapAt c tAgen x.pc)

/-- CALL pushes the address of the bundle that follows and branches, RET pops that address and branches to it; at 8 entries, or
with none, they raise RSTACK (R43). The bundle is the CALL or the RET alone. -/
def Obligations.ReturnStack : Prop :=
  ∀ (c : Fin 32) (target : Syl) (s : State),
    let x := s.cluster c
    s.checkedOn c = false → x.iss = Issue.empty → x.atLe = false →
    (s.Takes c 7 2 false →
      (x.depth < 8 → ∃ t, exec (.call c target) s = .next t ∧ t = { s with clusters := t.clusters } ∧
        ∃ t2, exec (.resultLands c) t = .next t2 ∧
        let y := t2.cluster c
        y.depth = x.depth + 1 ∧ Tab.get (fun _ => 0) y.rs x.depth = BitVec.ofNat 14 (x.pc + 2) ∧ y.pc = target.toNat ∧
        y.kill = 2) ∧
      (8 ≤ x.depth → ∃ t, exec (.call c target) s = .next t ∧ exec (.resultLands c) t = State.faulting t c cRstack)) ∧
    (s.Takes c 7 1 false →
      (0 < x.depth → ∃ t, exec (.ret c) s = .next t ∧ t = { s with clusters := t.clusters } ∧
        ∃ t2, exec (.resultLands c) t = .next t2 ∧
        let y := t2.cluster c
        y.depth = x.depth - 1 ∧ y.pc = (Tab.get (fun _ => 0) x.rs (x.depth - 1)).toNat ∧ y.kill = 2) ∧
      (x.depth = 0 → ∃ t, exec (.ret c) s = .next t ∧ exec (.resultLands c) t = State.faulting t c cRstack))

/-- The cycle after the declared count (R50): no operation issues in it, and the instance aborts with OVERRUN; an END issued
exactly at the declared count is on time. -/
def Obligations.Overrun : Prop :=
  ∀ (c : Fin 32) (u : Fin 2) (f : Bool) (dst sa sb : Fin 32) (s : State),
    let x := s.cluster c
    x.phase = .run →
    (x.cycle = s.declared c + 1 →
      exec (.add c u f dst sa sb) s = .next s ∧ exec (.endOp c) s = .next s ∧
      exec (.overrun c) s = .next (s.instFault c cOverrun) ∧ exec (.resultLands c) s = .next (s.instFault c cOverrun)) ∧
    (x.cycle = s.declared c → s.Takes c 7 1 false → x.iss = Issue.empty → x.kill = 0 → s.checkedOn c = false →
      ∃ t, exec (.endOp c) s = .next t ∧ t = { s with clusters := t.clusters } ∧
        ∃ t2, exec (.resultLands c) t = .next t2 ∧
        ((t2.cluster c).phase = .ended ∨ (t2.cluster c).phase = .drain) ∧ t2 = s.setCluster c (t2.cluster c))

/-- RESULT_LANDS after a bundle without a transfer, outside loops, of an instance that is not Checked (R36, R49): the results
land, the cycle count rises by one and the next bundle follows; nothing outside the cluster changes. A result that is due and
alone lands in its register, one that is not counts down by one. A taken branch (R42, R45): the target follows two killed
cycles, in which nothing issues and which count; the loops whose body does not hold the target end. The loop end check at the LE
bundle of the innermost loop (R44): with LC above 1 the count falls and the body starts again at LS; otherwise LC is 0, the loop
ends and the next bundle follows. -/
def Obligations.BundleSequence : Prop :=
  (∀ (c n : Fin 32) (k u due : Nat) (v : W16) (s : State),
     let x := s.cluster c
     x.phase = .run → x.cycle ≤ s.declared c → x.kill = 0 → x.iss.fail = none → x.iss.units ≠ [] → x.iss.ctl = .none →
     x.loops = 0 → s.checkedOn c = false →
     ∃ t, exec (.resultLands c) s = .next t ∧ t = s.setCluster c (t.cluster c) ∧
       let y := t.cluster c
       y.pc = x.pc + x.iss.total ∧ y.cycle = x.cycle + 1 ∧ y.iss = Issue.empty ∧ y.phase = .run ∧ y.loops = 0 ∧
       y.rs = x.rs ∧ y.depth = x.depth ∧ y.maps = x.maps ∧ y.sig = x.sig ∧
       (x.pend = [entD 1 u n v none] → y.dr n = v ∧ y.pend = [] ∧ (∀ m : Nat, m ≠ n → y.dr m = x.dr m) ∧
         (∀ m : Nat, y.ac m = x.ac m) ∧ y.ctl 44 = x.ctl 44 ∧ y.x = x.x ∧ y.y = x.y) ∧
       (1 < due → x.pend = [mkEnt due u (.acc k) (v.setWidth 40) none] →
         y.pend = [{ mkEnt (due - 1) u (.acc k) (v.setWidth 40) none with fresh := false }] ∧ (∀ m : Nat, y.ac m = x.ac m))) ∧
  (∀ (c : Fin 32) (u : Fin 2) (f : Bool) (dst sa sb : Fin 32) (target : Nat) (s : State),
     let x := s.cluster c
     x.phase = .run → x.cycle + 2 ≤ s.declared c → x.kill = 0 → x.iss.fail = none → x.iss.units ≠ [] → x.iss.ctl = .jump target →
     s.checkedOn c = false → target < 0x4000 →
     ∃ t, exec (.resultLands c) s = .next t ∧ t = { s with clusters := t.clusters } ∧
       (t.cluster c).pc = target ∧ (t.cluster c).kill = 2 ∧
       (t.cluster c).loops = x.loopsAfter target ∧ exec (.add c u f dst sa sb) t = .next t ∧
       ∃ t2, exec (.resultLands c) t = .next t2 ∧ ∃ t3, exec (.resultLands c) t2 = .next t3 ∧
         (t3.cluster c).pc = target ∧ (t3.cluster c).kill = 0 ∧ (t3.cluster c).cycle = x.cycle + 3) ∧
  (∀ (c : Fin 32) (s : State),
     let x := s.cluster c
     let top := x.loops - 1
     x.phase = .run → x.cycle ≤ s.declared c → x.kill = 0 → x.iss.fail = none → x.iss.units ≠ [] → x.iss.ctl = .none →
     0 < x.loops → x.loops ≤ 4 → (x.ctlUse (36 + top)).toNat = x.pc → s.checkedOn c = false → x.pend = [] →
     ∃ t, exec (.resultLands c) s = .next t ∧ t = { s with clusters := t.clusters } ∧
       (t.cluster c).cycle = x.cycle + 1 ∧
       (1 < (x.ctlUse (40 + top)).toNat →
         (t.cluster c).pc = (x.ctlUse (32 + top)).toNat ∧ (t.cluster c).loops = x.loops ∧
         (t.cluster c).ctl (40 + top) = x.ctlUse (40 + top) - 1) ∧
       ((x.ctlUse (40 + top)).toNat ≤ 1 →
         (t.cluster c).pc = x.pc + x.iss.total ∧ (t.cluster c).loops = top ∧ (t.cluster c).ctl (40 + top) = 0))

/-- TRAP of a bundle that holds cause `code` of R72: the results of the cycle are taken back and TRAP_STATUS is written; with
EMULATE = 1 and a TRAP source that targets T0 to T64, and not a stopped Ridge, the cluster holds; otherwise the instance faults
(R51, R74, R75). The cluster is not one of a Checked pair. That TRAP takes the results of the cycle back is log 103. The end of
a hold of a cluster that is not one of a Checked pair (R76, R78): GO re-issues the bundle without the units of SKIP and
EMU_COUNT rises; with REDIRECT the CTL operation is skipped as well and the bundle branches to TRAP_TARGET; FAIL and the timeout
turn the trap into an instance fault. While the cluster is not held, all four leave the state (log 3); a suppressed operation
issues nothing (log 103); for the count in a pair see log 26. -/
def Obligations.TrapsAndHolds : Prop :=
  (∀ (c : Fin 32) (code syl : Nat) (s : State),
     let x := s.cluster c
     let held := bit (s.reg .emuCtl) 0 && decide ((s.src (4 * c + 1)).tgt ≤ 64) &&
       !(decide ((s.src (4 * c + 1)).tgt = 0) && s.ridge.stopped)
     let s1 := (s.updCluster c (fun y => { y.dropFresh with
       trapCause := code, trapBundle := x.pc, trapSyl := syl, trapCycle := x.cycle })).raise (4 * c + 1)
     s.canIssue c = true → x.iss.fail = some ⟨3, code, syl, none⟩ → x.iss.units ≠ [] → s.checkedOn c = false →
     (held = true → ∃ t, exec (.trap c) s = .next t ∧ t = s1.setCluster c (t.cluster c) ∧ (t.src (4 * c + 1)).pend = true ∧
       let y := t.cluster c
       y.phase = .held ∧ y.cycle = x.cycle ∧ y.trapCause = code ∧ y.trapBundle = x.pc ∧ y.trapSyl = syl ∧
       y.trapCycle = x.cycle ∧ y.pend = x.pend.filter (fun e => !e.fresh) ∧ y.iss = Issue.empty) ∧
     (held = false → exec (.trap c) s = .next (s1.instFault c cTrap))) ∧
  (∀ (c : Fin 32) (skip : Byte) (s : State),
     let x := s.cluster c
     let units := (List.range 8).filter (fun n => skip.getLsbD n)
     let b := x.frameBundle x.pc 0 9
     let again (sk : List Nat) (ctl : Ctl) : Answer := .next ((s.setReg .emuCount (s.reg .emuCount + 1)).setCluster c
       { x with phase := .run, resume := none, pend := x.thaw, plist := [], iss := { Issue.empty with
           skip := sk, ctl := ctl, bare := b.2.isNone && b.1.all (fun o => sk.contains o.unit)
           supp := (b.1.filter (fun o => sk.contains o.unit)).map (fun o => (o.unit, if o.long then 2 else 1)) } })
     (x.phase ≠ .held → exec (.trapResumeGo c skip) s = .next s ∧ exec (.trapResumeRedirect c skip) s = .next s ∧
       exec (.trapResumeFail c) s = .next s ∧ exec (.emulationTimeout c) s = .next s) ∧
     (x.phase = .held → s.checkedOn c = false →
       exec (.trapResumeGo c skip) s = again units .none ∧
       exec (.trapResumeRedirect c skip) s =
         again (if skip.getLsbD 7 then units else units ++ [7]) (.jump x.trapTarget) ∧
       exec (.trapResumeFail c) s = .next (s.instFault c cTrap) ∧
       exec (.emulationTimeout c) s = .next (s.instFault c cTrap)))

/-- What the fault of an instance reports (R143, R144): under Report only, for a best-effort instance that pins no buffer, runs
alone and leaves nothing behind, FAULT_INFO names cause, cluster, tasklet and sequence number, source 4c + 2 is pending, the
cluster's count rises and FAULT_STATUS.UNRECOVERED is set. The faults of a data access by LSX or LSY, and of a table read by
TBL, at the end of the cycle (R31, R51, R155): a page that no entry maps, or for a store one without WRITE, raises UNMAPPED, and
the cluster holds its memory and page; a word in error that a load reads raises LOAD_PARITY after ACCESS_FOUND has counted it
and source 4c + 3 is pending. That the cause acts at the end of the cycle is log 21. -/
def Obligations.FaultReport : Prop :=
  (∀ (c : Fin 32) (j : Job) (s : State),
     s.jobOn c = some j → s.jobs = [j] → j.clusters = [c.val] → j.active = true → s.policyOf j.t = 0 → j.pins = [] → j.newBufs = [] →
     (s.task j.t).removing = [] → s.genNamed j.gen = none → (∀ q : Nat, s.waits q 8 = false) →
     (s.cluster c).phase = .held →
     ∃ t, exec (.emulationTimeout c) s = .next t ∧ t = { s with regs := t.regs, clusters := t.clusters, jobs := t.jobs, srcs := t.srcs } ∧
       t.jobs = [] ∧ (t.cluster c).phase = .idle ∧
       t.reg .faultInfo0 = BitVec.ofNat 32 (7 * 2 ^ 24 + c * 2 ^ 16 + b2n j.replay * 2 ^ 15 + j.t) ∧
       t.reg .faultInfo1 = BitVec.ofNat 32 j.seq ∧ (t.src (4 * c + 2)).pend = true ∧
       t.reg .trapFaults = s.reg .trapFaults + 1 ∧ t.reg (.replayCount 0) = s.reg (.replayCount 0) + 1 ∧
       t.reg (.clusterFaults c) = s.reg (.clusterFaults c) + 1 ∧ bit (t.reg .faultStatus) 0 = true) ∧
  (∀ (c : Fin 32) (u : Fin 2) (ag : Fin 8) (mode : AgMode) (r : Fin 32) (tb : Fin 4) (off : Fin 512) (q : Nat) (s : State),
     let x := s.cluster c
     let a := (x.ea ag).toNat
     let b := ((x.tb tb).toNat + off) % 65536
     let unmapped (i : Instr) (sp v : Nat) : Prop := ∃ t, exec i s = .next t ∧ t = { s with clusters := t.clusters } ∧
       exec (.resultLands c) t = State.faulting (t.updCluster c (fun y => { y with unmapped := some (sp, v / 1024) })) c cUnmapped
     let inError (i : Instr) (sp : Nat) : Prop := ∃ t, exec i s = .next t ∧ t = { s with clusters := t.clusters } ∧
       exec (.resultLands c) t = State.faulting (t.accessParity c sp q) c cLoadParity ∧
       (t.accessParity c sp q).reg (.accessFound sp) = s.reg (.accessFound sp) + 1 ∧
       ((t.accessParity c sp q).src (4 * c + 3)).pend = true
     x.iss.fail = none →
     (s.Takes c (4 + u) 2 false → s.AgFree c ag →
       (x.phys (1 + u) a = none → unmapped (.ld c u ag mode r) (1 + u) a) ∧
       (x.physW (1 + u) a = none → unmapped (.st c u ag mode r) (1 + u) a) ∧
       (x.phys (1 + u) a = some q → x.isBad (1 + u) q = true → inError (.ld c u ag mode r) (1 + u))) ∧
     (s.Takes c 6 2 false →
       (x.phys 3 b = none → unmapped (.trdi c tb off r) 3 b) ∧
       (x.phys 3 b = some q → x.isBad 3 q = true → inError (.trdi c tb off r) 3)))

/-! ### Shingle cores -/

/-- The arithmetic and logic instructions of two operands, MOV, MOVI and MUL: the results and flags of R229, R230 and R234, in
the cycles of R229. -/
def Obligations.ShingleTwoOperand : Prop :=
  ∀ (k : Fin 65) (d r : Fin 8) (imm : Byte) (s : State),
    let a := (s.core k).vr d
    let b := (s.core k).vr r
    let ci := bit (s.core k).st 2
    let put (n : Nat) (x : Res 8) : Answer := .next (s.ran k n n (fun c => (c.setV d x.v).withFlags x.f))
    let set (n : Nat) (v : Byte) : Answer := .next (s.ran k n n (fun c => c.setV d v))
    let flags (n : Nat) (x : Res 8) : Answer := .next (s.ran k n n (fun c => c.withFlags x.f))
    (s.Runs k 1 →
      exec (.shgAdd k d r) s = put 1 (sumRule a b false false) ∧
      exec (.shgAdc k d r) s = put 1 (sumRule a b ci false) ∧
      exec (.shgSub k d r) s = put 1 (sumRule a (~~~b) true false) ∧
      exec (.shgSbc k d r) s = put 1 (sumRule a (~~~b) ci false) ∧
      exec (.shgAnd k d r) s = put 1 (plainRule (a &&& b)) ∧
      exec (.shgOr k d r) s = put 1 (plainRule (a ||| b)) ∧
      exec (.shgXor k d r) s = put 1 (plainRule (a ^^^ b)) ∧
      exec (.shgCmp k d r) s = flags 1 (sumRule a (~~~b) true false) ∧
      exec (.shgMov k d r) s = set 1 b ∧
      (d.val % 2 = 0 → exec (.shgMul k d r) s = .next (s.ran k 1 6 (fun c =>
        let p : W16 := BitVec.ofNat 16 (a.toNat * b.toNat)
        ((c.setV d (p.extractLsb' 0 8)).setV (d + 1) (p.extractLsb' 8 8)).withFlags
          ⟨decide (p = 0), p.msb, decide (p.extractLsb' 8 8 ≠ 0), false, false⟩)))) ∧
    (s.Runs k 2 →
      exec (.shgAddi k d imm) s = put 2 (sumRule a imm false false) ∧
      exec (.shgAdci k d imm) s = put 2 (sumRule a imm ci false) ∧
      exec (.shgSubi k d imm) s = put 2 (sumRule a (~~~imm) true false) ∧
      exec (.shgMovi k d imm) s = set 2 imm ∧
      exec (.shgAndi k d imm) s = put 2 (plainRule (a &&& imm)) ∧
      exec (.shgOri k d imm) s = put 2 (plainRule (a ||| imm)) ∧
      exec (.shgXori k d imm) s = put 2 (plainRule (a ^^^ imm)) ∧
      exec (.shgCmpi k d imm) s = flags 2 (sumRule a (~~~imm) true false))

/-- The unary instructions and the shifts by 1 (R229, R230): INC and DEC keep C, TST writes no register. -/
def Obligations.ShingleOneOperand : Prop :=
  ∀ (k : Fin 65) (r : Fin 8) (s : State), s.Runs k 1 →
    let a := (s.core k).vr r
    let c0 := bit (s.core k).st 2
    let put (x : Res 8) : Answer := .next (s.ran k 1 1 (fun c => (c.setV r x.v).withFlags x.f))
    let keepC (x : Res 8) : Res 8 := ⟨x.v, { x.f with c := c0 }⟩
    exec (.shgInc k r) s = put (keepC (sumRule a 1 false false)) ∧
    exec (.shgDec k r) s = put (keepC (sumRule a (~~~1) true false)) ∧
    exec (.shgNot k r) s = put (plainRule (~~~a)) ∧
    exec (.shgNeg k r) s = put (sumRule 0 (~~~a) true false) ∧
    exec (.shgTst k r) s = .next (s.ran k 1 1 (fun c => c.withFlags (plainRule a).f)) ∧
    exec (.shgSwap k r) s = put (plainRule (a.extractLsb' 0 4 ++ a.extractLsb' 4 4 : BitVec 8)) ∧
    exec (.shgClr k r) s = put ⟨0, ⟨true, false, false, false, false⟩⟩ ∧
    exec (.shgShl k r) s = put (shiftRule (a.extractLsb' 0 7 ++ BitVec.ofBool false : BitVec 8) a.msb) ∧
    exec (.shgShr k r) s = put (shiftRule (BitVec.ofBool false ++ a.extractLsb' 1 7 : BitVec 8) (bit a 0)) ∧
    exec (.shgAsr k r) s = put (shiftRule (BitVec.ofBool a.msb ++ a.extractLsb' 1 7 : BitVec 8) (bit a 0)) ∧
    exec (.shgRol k r) s = put (shiftRule (a.extractLsb' 0 7 ++ BitVec.ofBool a.msb : BitVec 8) a.msb) ∧
    exec (.shgRor k r) s = put (shiftRule (BitVec.ofBool (bit a 0) ++ a.extractLsb' 1 7 : BitVec 8) (bit a 0)) ∧
    exec (.shgRcl k r) s = put (shiftRule (a.extractLsb' 0 7 ++ BitVec.ofBool c0 : BitVec 8) a.msb) ∧
    exec (.shgRcr k r) s = put (shiftRule (BitVec.ofBool c0 ++ a.extractLsb' 1 7 : BitVec 8) (bit a 0))

/-- MOVP, MOVV, INCP, DECP and LDIP on the pointers and on ST (R228, R229, R230, R243, R248). -/
def Obligations.ShinglePointers : Prop :=
  ∀ (k : Fin 65) (p : Fin 8) (n q : Fin 4) (a : W16) (s : State),
    let c := s.core k
    let lo := c.vr (2 * n)
    let hi := c.vr (2 * n + 1)
    let pair (v : W16) : Answer := .next (s.ran k 1 1 (fun c =>
      (c.setV (2 * n) (v.extractLsb' 0 8)).setV (2 * n + 1) (v.extractLsb' 8 8)))
    let step (v : W16) : Answer := .next (s.ran k 1 1 (fun c =>
      let d := c.setPtr p v
      { d with st := (d.st.extractLsb' 1 7 ++ BitVec.ofBool (decide (v = 0)) : BitVec 8) }))
    (s.Runs k 1 →
      (p.val < 5 →
        exec (.shgMovp k p n) s = .next (s.ran k 1 1 (fun c => c.setPtr p (hi ++ lo))) ∧
        exec (.shgMovv k p n) s = pair (c.ptr p) ∧
        exec (.shgIncp k p) s = step (c.ptr p + 1) ∧
        exec (.shgDecp k p) s = step (c.ptr p - 1)) ∧
      exec (.shgMovp k 5 n) s = .next (s.ran k 1 1 (fun c =>
        { c with st := (BitVec.ofBool (lo.msb || c.shadow) ++ BitVec.ofBool (bit lo 6 && bit c.st 6) ++ (0 : BitVec 2) ++
                        lo.extractLsb' 0 4 : BitVec 8) })) ∧
      exec (.shgMovv k 5 n) s = pair (c.st.setWidth 16)) ∧
    (s.Runs k 2 → exec (.shgLdip k q a) s =
      .next (s.ran k 2 2 (fun c => match q with
        | 0 => { c with px := a }
        | 1 => { c with py := a }
        | 2 => c.setPz a
        | 3 => { c with cnt := a })))

/-- NOP, SETGM, CLRGM, RPT, JPZ, Jcc and BR; the conditions are those of the table of R231, and a jump that is taken costs its
third cycle. -/
def Obligations.ShingleJumps : Prop :=
  ∀ (k : Fin 65) (cc : Fin 15) (a : W16) (off : BitVec 7) (s : State),
    let st := (s.core k).st
    let holds := Machine.condition cc (bit st 0) (bit st 1) (bit st 2) (bit st 3)
    (s.Runs k 1 →
      exec (.shgNop k) s = .next (s.ran k 1 1 id) ∧
      exec (.shgSetgm k) s = .next (s.ran k 1 1 (fun c => { c with st := c.st ||| 0x80 })) ∧
      exec (.shgClrgm k) s = .next (s.ran k 1 1 (fun c => { c with st := if c.shadow then c.st ||| 0x80 else c.st &&& 0x7F })) ∧
      exec (.shgRpt k) s = .next (s.ran k 1 1 (fun c => { c with rpt := true, pc := (s.core k).pc })) ∧
      exec (.shgJpz k) s = .next (s.ran k 1 3 (fun c => { c with pc := c.pzr })) ∧
      exec (.shgBr k cc off) s = .next (s.ran k 1 (if holds then 3 else 1) (fun c =>
        if holds then { c with pc := (s.core k).pc + 1 + off.signExtend 16 } else c))) ∧
    (s.Runs k 2 → exec (.shgJcc k cc a) s = .next (s.ran k 2 (if holds then 3 else 2) (fun c =>
        if holds then { c with pc := a } else c)))

/-- The stack and the direct loads and stores in the core's own data RAM: PUSH, POP, PUSHP, POPP, LDA, STA, CALL, RCALL, CALLPZ
and RET (R229); PUSHP and POPP of SP move SP in the column's order (log 138). -/
def Obligations.ShingleStack : Prop :=
  ∀ (k : Fin 65) (r p : Fin 8) (a : W16) (off : BitVec 7) (s : State),
    let c := s.core k
    let read (x : W16) : Byte := Memory.read c.data x.toNat
    let word : W16 := read (c.sp + 1) ++ read c.sp
    let push (words cyc : Nat) (v : W16) (g : Core → Core) : Answer := .next (s.ran k words cyc (fun c =>
      g { (c.stored (c.sp - 2).toNat (v.extractLsb' 0 8)).stored (c.sp - 1).toNat (v.extractLsb' 8 8) with sp := c.sp - 2 }))
    let pop (cyc : Nat) (g : Core → Core) : Answer := .next (s.ran k 1 cyc (fun c => g { c with sp := c.sp + 2 }))
    (s.Runs k 1 → localData k (c.sp - 1).toNat = true → exec (.shgPush k r) s = .next (s.ran k 1 2 (fun d =>
      { d.stored (c.sp - 1).toNat (c.vr r) with sp := c.sp - 1 }))) ∧
    (s.Runs k 1 → s.readable k c.sp.toNat → exec (.shgPop k r) s = .next (s.ran k 1 2 (fun d =>
      { d.setV r (read c.sp) with sp := c.sp + 1 }))) ∧
    (s.Runs k 1 → localData k (c.sp - 2).toNat = true → localData k (c.sp - 1).toNat = true →
      (p.val < 5 → exec (.shgPushp k p) s = push 1 3 (if p = 3 then c.sp - 2 else c.ptr p) id) ∧
      exec (.shgRcall k off) s = push 1 4 (c.pc + 1) (fun d => { d with pc := c.pc + 1 + off.signExtend 16 }) ∧
      exec (.shgCallpz k) s = push 1 4 (c.pc + 1) (fun d => { d with pc := c.pzr })) ∧
    (s.Runs k 2 → localData k (c.sp - 2).toNat = true → localData k (c.sp - 1).toNat = true →
      exec (.shgCall k a) s = push 2 4 (c.pc + 2) (fun d => { d with pc := a })) ∧
    (s.Runs k 1 → s.readable k c.sp.toNat → s.readable k (c.sp + 1).toNat →
      (p.val < 5 → exec (.shgPopp k p) s = pop 3 (fun d => d.setPtr p (if p = 3 then word + 2 else word))) ∧
      exec (.shgRet k) s = pop 4 (fun d => { d with pc := word })) ∧
    (s.Runs k 2 →
      (s.readable k a.toNat → exec (.shgLda k r a) s = .next (s.ran k 2 3 (fun d => d.setV r (read a)))) ∧
      (localData k a.toNat = true → exec (.shgSta k r a) s = .next (s.ran k 2 3 (fun d => d.stored a.toNat (c.vr r)))))

/-- LD and ST in the four data modes of R229, in the core's own data RAM: the address, the pointer after it, and for a word the
third cycle of a split access (R238). -/
def Obligations.ShingleDataModes : Prop :=
  ∀ (k : Fin 65) (p : Fin 4) (r : Fin 8) (s : State), s.Runs k 1 → (s.core k).wdPend = false →
    let c := s.core k
    let a := c.ptr p
    let read (x : W16) : Byte := Memory.read c.data x.toNat
    let ld (m : Fin 4) (x v : W16) : Prop := s.readable k x.toNat →
      exec (.shgLd k p m r) s = .next (s.ran k 1 2 (fun d => (d.setV r (read x)).setPtr p v))
    let st (m : Fin 4) (x v : W16) : Prop := localData k x.toNat = true →
      exec (.shgSt k p m r) s = .next (s.ran k 1 2 (fun d => (d.stored x.toNat (c.vr r)).setPtr p v))
    let cyc := if a.toNat % 2 = 1 then 3 else 2
    ld 0 a a ∧ ld 1 a (a + 1) ∧ ld 2 (a - 1) (a - 1) ∧ st 0 a a ∧ st 1 a (a + 1) ∧ st 2 (a - 1) (a - 1) ∧
    (r.val % 2 = 0 →
      (s.readable k a.toNat → s.readable k (a + 1).toNat → exec (.shgLd k p 3 r) s =
        .next (s.ran k 1 cyc (fun d => ((d.setV r (read a)).setV (r + 1) (read (a + 1))).setPtr p (a + 2)))) ∧
      (localData k a.toNat = true → localData k (a + 1).toNat = true → exec (.shgSt k p 3 r) s =
        .next (s.ran k 1 cyc (fun d =>
          ((d.stored a.toNat (c.vr r)).stored (a + 1).toNat (c.vr (r + 1))).setPtr p (a + 2)))))

/-- CPYB, FILB, CMPB, PRDB and PWRB without RPT, on the core's own data RAM and on ports without an effect outside the core:
they run once and leave CNT (R229, R235). A run under RPT (R235): with CNT = 0 the block instruction is skipped; otherwise FILB
makes one iteration, CNT falls by one, and PC leaves the RPT when CNT reaches 0. -/
def Obligations.ShingleBlocks : Prop :=
  (∀ (k : Fin 65) (s : State), s.Runs k 1 → (s.core k).wdPend = false →
     let c := s.core k
     let port := fld c.pzr 7 0
     let read (x : W16) : Byte := Memory.read c.data x.toNat
     (s.readable k c.px.toNat → localData k c.py.toNat = true → exec (.shgCpyb k) s =
       .next (s.ran k 1 3 (fun d => { d.stored c.py.toNat (read c.px) with px := c.px + 1, py := c.py + 1 }))) ∧
     (localData k c.py.toNat = true → exec (.shgFilb k) s =
       .next (s.ran k 1 2 (fun d => { d.stored c.py.toNat (c.vr 0) with py := c.py + 1 }))) ∧
     (s.readable k c.px.toNat → s.readable k c.py.toNat → exec (.shgCmpb k) s =
       .next (s.ran k 1 3 (fun d => Core.withFlags { d with px := c.px + 1, py := c.py + 1 }
         (sumRule (read c.px) (~~~(read c.py)) true false).f))) ∧
     (plainPort k port → localData k c.py.toNat = true → exec (.shgPrdb k) s =
       .next (s.ran k 1 3 (fun d => { d.stored c.py.toNat (s.portValue k port) with py := c.py + 1 }))) ∧
     (plainPort k port → s.readable k c.px.toNat → exec (.shgPwrb k) s =
       .next (s.ran k 1 3 (fun d => { d.portPoke (decide (k = 64)) port (read c.px) with px := c.px + 1 })))) ∧
  (∀ (k : Fin 65) (s : State),
     let c := s.core k
     let a := (c.pc.toNat + 1) % 65536
     let ends (d : Core) : Core := Core.prefetch { d with pc := c.pc + 2, rpt := false } (s.snapshot k ((c.pc.toNat + 2) % 65536))
     let spent := (s.entered k 0 2).core k
     let once := { spent.stored c.py.toNat (c.vr 0) with py := c.py + 1, cnt := c.cnt - 1 }
     s.shgReady k = true → c.rpt = true → s.fetchWord k a = (s, none) → c.wdPend = false →
     (c.cnt = 0 → exec (.shgFilb k) s = .next (s.setCore k (ends c))) ∧
     (c.cnt ≠ 0 → localData k c.py.toNat = true → exec (.shgFilb k) s = .next (s.setCore k
       (if c.cnt = 1 then ends once else { once with pre := some { s.seen k a with bad := false } }))))

/-- IN, OUT, IN (PZ) and OUT (PZ) on ports without an effect outside the core (R225, R229): the byte that the port shows, or a
write of the core's own registers. LDP and STP move 12-bit program words at PZ, which rises (R229, R239). -/
def Obligations.ShinglePorts : Prop :=
  (∀ (k : Fin 65) (r : Fin 8) (port : Byte) (s : State),
     let c := s.core k
     let z := fld c.pzr 7 0
     (s.Runs k 2 → plainPort k port.toNat →
       exec (.shgIn k r port) s = .next (s.ran k 2 3 (fun d => d.setV r (s.portValue k port.toNat))) ∧
       exec (.shgOut k r port) s = .next (s.ran k 2 3 (fun d => d.portPoke (decide (k = 64)) port.toNat (c.vr r)))) ∧
     (s.Runs k 1 → plainPort k z →
       exec (.shgInPz k r) s = .next (s.ran k 1 2 (fun d => d.setV r (s.portValue k z))) ∧
       exec (.shgOutPz k r) s = .next (s.ran k 1 2 (fun d => d.portPoke (decide (k = 64)) z (c.vr r))))) ∧
  (∀ (k : Fin 65) (r : Fin 8) (s : State), s.Runs k 1 → r.val % 2 = 0 →
     let c := s.core k
     let a := c.pzr.toNat
     a < progSize k →
     (a ∉ c.progBad → a ∉ c.progLost → exec (.shgLdp k r) s = .next (s.ran k 1 3 (fun d =>
       ((d.setV r ((s.progWord k a).extractLsb' 0 8)).setV (r + 1) ((s.progWord k a).extractLsb' 8 4 |>.setWidth 8)).setPz
         (c.pzr + 1)))) ∧
     (s.stpOk k a = true → exec (.shgStp k r) s = .next (s.ran k 1 3 (fun d =>
       Core.setPz { d with
         prog := Tab.set (fun _ => 0) d.prog a ((c.vr (r + 1)).extractLsb' 0 4 ++ c.vr r : BitVec 12)
         progBad := d.progBad.filter (· ≠ a)
         progLost := d.progLost.filter (· ≠ a) } (c.pzr + 1)))))

/-- WAIT sleeps unless a deliverable interrupt or, on the Ridge, a kernel call is there (R241); WAITD completes at once where
the channel is done and otherwise waits at its own address, and WAITD_EXPIRY ends it with CNT 0 (R240); WDT_KICK restarts the
watchdog from PERIOD × 400 (R247). That WDT_KICK leaves the PC and the cycle count is log 70 (a port command belongs to the
access that performs it), and that the expiry of a WAITD spends no cycles of its own is the scope's choice of timing. KCALL n of
a Shingle (R252, R254): it is CALLING with its number and queued, which wakes the Ridge from WAIT; with the Ridge stopped it
resumes at once, with vector 6 and status 0xFF unless that locks it up. -/
def Obligations.ShingleWaitsAndCalls : Prop :=
  (∀ (k : Fin 65) (s : State),
     let c := s.core k
     let done := (s.dma (fld (c.vr 0) 3 0)).done
     let ready := (s.best (if k = 64 then 0 else k + 1)).isSome || (decide (k = 64) && !s.ridge.kcq.isEmpty)
     let z (d : Core) (b : Bool) : Core := { d with st := (d.st.extractLsb' 1 7 ++ BitVec.ofBool b : BitVec 8) }
     (s.Runs k 1 →
       exec (.shgWait k) s = .next (s.ran k 1 1 (fun d => if ready then d else { d with state := .wait })) ∧
       exec (.shgWaitd k) s = .next (s.ran k 1 2 (fun d => if done then z d true else { d with waitd := true, pc := c.pc }))) ∧
     (s.coreRuns k = true →
       (c.waitd = true → c.wdPend = false → exec (.waitdExpiry k) s = .next (s.setCore k
         ((z { c with waitd := false, pc := c.pc + 1, cnt := 0 } done).prefetch (s.snapshot k ((c.pc.toNat + 1) % 65536))))) ∧
       exec (.wdtKick k) s = .next (s.setCore k { c with wdog := (s.reg .shgWdog).toNat * 400 }))) ∧
  (∀ (k : Fin 64) (n : Fin 16) (s : State), s.Runs k 1 →
     let t1 := s.ran k 1 2 (fun d => { d with call := n, state := .calling })
     (s.ridge.stopped = false → exec (.shgKcall ⟨k, by omega⟩ n) s =
       .next ({ t1 with ridge := { s.ridge with kcq := s.ridge.kcq ++ [k.val] } }.setCore 64
         (let d := s.core 64; if d.state = CoreSt.wait then { d with state := .run } else d))) ∧
     (s.ridge.stopped = true → ∃ t, exec (.shgKcall ⟨k, by omega⟩ n) s = .next t ∧
       ((s.core k).gm = true ∨ s.readable k ((s.core k).vb + 12).toNat ∧ s.readable k ((s.core k).vb + 13).toNat →
         t = { s with free := t.free, regs := t.regs, cores := t.cores, srcs := t.srcs }) ∧
       (((s.core k).gm = true ∧ (t.core k).state = .locked) ∨
        ((s.core k).gm = false ∧ (t.core k).excVec = 6 ∧ (t.core k).excDetail = 0xFF ∧ (t.core k).spc = (s.core k).pc + 1 ∧
         (t.core k).shadow = true))))

/-- RFE in the shadow bank: PC from SPC, ST from SST, the main bank; K is SST.K AND TAG AND ST.K, and where SST.K = 1 is cut so,
PRIV_CLAMP (source 488) is raised (R248). A watchdog that counts reaches 0 (R244, R247): with GM = 0 vector 5 is taken, with the
next instruction as saved PC; with GM = 1 a Shingle locks up, its LOCKUP_SRC bit is set and source 128 + 2s + 1 is pending.
Inside a run or a WAITD it waits for the instruction's end (log 139). A reserved encoding takes vector 2 with no state changed,
and the saved PC points to its first word (R232): here an odd d in MUL, odd r in LDP and STP, codes 5 to 7 and 6 to 7 of the
pointers, RFE in the main bank and KCALL on the Ridge, with GM = 0. EXC_ADDR at vector 2 is PC (log 67), and the entry spends 5
cycles (log 68). -/
def Obligations.ShingleExceptions : Prop :=
  (∀ (k : Fin 65) (s : State), s.Runs k 1 → (s.core k).shadow = true →
     let c := s.core k
     let kk := bit c.sst 6 && c.tag && bit c.st 6
     let t1 := s.ran k 1 3 (fun d => { d with
       pc := c.spc, st := (BitVec.ofBool c.sst.msb ++ BitVec.ofBool kk ++ c.sst.extractLsb' 0 6 : BitVec 8), shadow := false })
     exec (.shgRfe k) s = .next (if bit c.sst 6 = kk then t1 else t1.raise 488)) ∧
  (∀ (k : Fin 65) (s : State),
     let c := s.core k
     let e : W16 := c.vb + 10
     s.coreRuns k = true → s.wdogCounts k = true →
     (c.rpt = true ∨ c.waitd = true → exec (.watchdog k) s =
       .next (s.setCore k { c with wdog := (s.reg .shgWdog).toNat * 400, wdPend := true })) ∧
     (c.rpt = false → c.waitd = false → c.gm = false → s.readable k e.toNat → s.readable k (e + 1).toNat →
       ∃ t, exec (.watchdog k) s = .next t ∧ t = { s with free := t.free, cores := t.cores } ∧
         (t.core k).excVec = 5 ∧ (t.core k).spc = c.pc ∧ (t.core k).sst = c.st ∧
         (t.core k).shadow = true ∧ (t.core k).gm = true ∧
         (t.core k).pc = Memory.read c.data (e + 1).toNat ++ Memory.read c.data e.toNat ∧
         (∀ j, j ≠ k.val → t.core j = s.core j)) ∧
     (c.rpt = false → c.waitd = false → c.gm = true → k.val < 64 →
       ∃ t, exec (.watchdog k) s = .next t ∧ t = { s with free := t.free, regs := t.regs, cores := t.cores, srcs := t.srcs } ∧
         (t.core k).state = .locked ∧
         bit (t.reg (.lockupSrc (k / 32))) (k % 32) = true ∧ (t.src (128 + 2 * k + 1)).pend = true ∧ t.lockupN = false)) ∧
  (∀ (k : Fin 65) (d r p : Fin 8) (n : Fin 4) (m : Fin 16) (s : State), s.Runs k 1 →
     let c := s.core k
     let e : W16 := c.vb + 4
     let vector2 : Answer := .next (s.setCore k { c with
       spc := c.pc, sst := c.st, tag := bit c.st 6, shadow := true, st := c.st ||| 0x80, excVec := 2, excDetail := 0, excAddr := c.pc
       pc := Memory.read c.data (e + 1).toNat ++ Memory.read c.data e.toNat, cycles := c.cycles + 5
       wdog := if s.wdogCounts k then c.wdog - 5 else c.wdog, pre := none })
     c.gm = false → c.wdPend = false → s.readable k e.toNat → s.readable k (e + 1).toNat →
     (d.val % 2 = 1 → exec (.shgMul k d r) s = vector2) ∧
     (r.val % 2 = 1 → exec (.shgLdp k r) s = vector2 ∧ exec (.shgStp k r) s = vector2) ∧
     (5 ≤ p.val → exec (.shgIncp k p) s = vector2 ∧ exec (.shgDecp k p) s = vector2 ∧ exec (.shgPushp k p) s = vector2 ∧
       exec (.shgPopp k p) s = vector2) ∧
     (6 ≤ p.val → exec (.shgMovp k p n) s = vector2 ∧ exec (.shgMovv k p n) s = vector2) ∧
     (c.shadow = false → exec (.shgRfe k) s = vector2) ∧
     (k = 64 → exec (.shgKcall k m) s = vector2))

/-- EXCEPTION_ENTRY with a deliverable interrupt of level p and GM = 0 (R242, R245): SPC takes PC, SST takes ST, TAG takes K,
the core goes on in the shadow bank with GM = 1 at the entry of vector 16 + p, five cycles later; the EXC registers stay, and
nothing outside the core changes. A WAITD under way is left at its own address, and a watchdog that is due comes first (log
139). The saved PC of a run is log 67, the cycles are log 68. -/
def Obligations.InterruptEntry : Prop :=
  ∀ (k : Fin 65) (i : Nat) (s : State),
    let c := s.core k
    let e : W16 := c.vb + BitVec.ofNat 16 (2 * (16 + (s.src i).prio))
    (c.state = .run ∨ c.state = .wait) → (if k = 64 then s.ridge.stopped = false ∧ s.ridge.clearing = false else s.shingleOn k = true) →
    s.best (if k = 64 then 0 else k + 1) = some i → c.gm = false → c.wdPend = false →
    s.readable k e.toNat → s.readable k (e + 1).toNat →
    ∃ t, exec (.exceptionEntry k) s = .next t ∧ t = { s with free := t.free }.setCore k (t.core k) ∧
      let d := t.core k
      d.spc = c.pc ∧ d.sst = c.st ∧ d.tag = bit c.st 6 ∧ d.shadow = true ∧ d.st = c.st ||| 0x80 ∧ d.state = .run ∧
      d.pc = (Memory.read c.data (e + 1).toNat ++ Memory.read c.data e.toNat : BitVec 16) ∧ d.cycles = c.cycles + 5 ∧
      d.rpt = false ∧ d.waitd = false ∧ d.excVec = c.excVec ∧ d.excDetail = c.excDetail ∧ d.excAddr = c.excAddr ∧
      d.v = c.v ∧ d.sv = c.sv ∧ d.sp = c.sp ∧ d.data = c.data ∧ (c.waitd = false → d.cnt = c.cnt)

/-- No command makes a core Kept short of a reset of the Ridge (R249): a core that becomes Kept is the Ridge, and it is then
held while its memories are cleared, as SOFT_RST.RIDGE and PORST_N leave it, and the loss of VDD_AON (log 135). The Ridge is
Kept while its memories are cleared, and no command changes that. -/
def Obligations.KeptNeverRises : Prop :=
  ∀ (i : Instr) (k : Fin 65) (s t : State), (s.ridge.clearing = true → (s.core 64).kept = true) → exec i s = .next t →
    ((s.core k).kept = false → (t.core k).kept = true → k = 64 ∧ t.ridge.clearing = true) ∧
    (t.ridge.clearing = true → (t.core 64).kept = true)

/-! ### Kernel, core ports and event sources -/

/-- The services of the kernel for a caller that is not refused (R252, R253): the caller leaves the queue and goes on in RUN;
the results stand in the bank it called from, its other registers stay; BAD_ARG ends the call with vector 6 and detail 2.
Nothing else changes but what the service names. Which caller is served is log 75, a LOG record's origin is open (log 132), and
a call that nobody has made is log 3. A kernel call that the host's policy refuses ends with vector 6 and status 3; no service
acts, and one that nobody has called changes nothing (R252, R253; logs 3 and 75). -/
def Obligations.KernelServices : Prop :=
  (∀ (k : Fin 64) (s : State),
     let c := s.core k
     let v (n : Nat) : Nat := (c.vAt c.shadow n).toNat
     let q := { s with ridge := { s.ridge with kcq := s.ridge.kcq.filter (fun x => decide (x ≠ k.val)) } }
     let ns := s.cald.sub * 1000000000 / 32768
     let resumed (d : Core) : Prop := d.state = .run ∧ d.pc = c.pc ∧ d.st = c.st ∧ d.shadow = c.shadow ∧ d.px = c.px ∧ d.py = c.py ∧
       d.data = c.data
     let kept (d : Core) (n : Nat) : Prop := ∀ m : Nat, n ≤ m → d.vAt c.shadow m = c.vAt c.shadow m
     let target := v 0
     let bytes (n : Nat) : List Byte := (List.range n).map (fun i => Memory.read c.data (c.px.toNat + i))
     let badArg (i : Instr) : Prop := c.gm = false → ∃ t, exec i s = .next t ∧
       (t.core k).excVec = 6 ∧ (t.core k).excDetail = 2 ∧ (t.core k).spc = c.pc ∧ t.ridge.kcq = q.ridge.kcq ∧
       (c.wdPend = false → s.readable k (c.vb + 12).toNat → s.readable k (c.vb + 13).toNat →
         t = { s with free := t.free, cores := t.cores, ridge := q.ridge })
     (s.serves k 0 = true → ∃ t, exec (.svcVersion k false) s = .next t ∧ t = { s with cores := t.cores, ridge := t.ridge } ∧
       t = q.setCore k (t.core k) ∧ resumed (t.core k) ∧
       ((t.core k).vAt c.shadow 1 ++ (t.core k).vAt c.shadow 0 : BitVec 16) = Config.kernelVersion ∧ (t.core k).vAt c.shadow 2 = 5 ∧
       kept (t.core k) 3) ∧
     (s.serves k 1 = true → ∃ t, exec (.svcWallclock k false) s = .next t ∧ t = { s with cores := t.cores, ridge := t.ridge } ∧
       t = q.setCore k (t.core k) ∧ resumed (t.core k) ∧
       leNat ((List.range 4).map (fun i => (t.core k).vAt c.shadow i)) = s.cald.sec % 2 ^ 32 ∧
       leNat ((List.range 4).map (fun i => (t.core k).vAt c.shadow (4 + i))) = ns % 2 ^ 32) ∧
     (s.serves k 2 = true → ∃ t, exec (.svcLog k false) s = .next t ∧ t = { s with free := t.free, cores := t.cores, ridge := t.ridge } ∧
       resumed (t.core k) ∧ kept (t.core k) 0 ∧ t.srcs = s.srcs ∧
       t.ridge.logs = s.ridge.logs + 1 ∧ (s.ridge.logs < 256 → t.logBytes.take (16 * s.ridge.logs) = s.logBytes) ∧
       (let r := t.logBytes.drop (16 * Nat.min 255 s.ridge.logs);
         r.take 8 = leBytes 4 (s.cald.sec % 2 ^ 32) ++ leBytes 4 ns ∧
         r.drop 10 = leBytes 2 (v 0) ++ leBytes 4 (v 1 + 256 * v 2 + 65536 * v 3 + 16777216 * v 4))) ∧
     (s.serves k 3 = true → target < 64 →
       (c.px.toNat + 8 ≤ 0x4000 → s.shingleOn target = true → ∃ t, exec (.svcMailbox k false) s = .next t ∧ t = { s with regs := t.regs, cores := t.cores, ridge := t.ridge, srcs := t.srcs } ∧
         resumed (t.core k) ∧
         kept (t.core k) 0 ∧ (List.range 8).map (fun i => Tab.get (fun _ => 0) (t.core target).mbox i) = bytes 8 ∧
         (t.src (128 + 2 * target)).pend = true) ∧
       (0x4000 < c.px.toNat + 8 → badArg (.svcMailbox k false))) ∧
     (s.serves k 3 = true → 64 ≤ target → badArg (.svcMailbox k false)) ∧
     (s.serves k 4 = true →
       let i := v 0 + 256 * v 1
       (496 ≤ i → i < 512 → ∃ t, exec (.svcRaise k false) s = .next t ∧ t = { s with regs := t.regs, cores := t.cores, ridge := t.ridge, srcs := t.srcs } ∧
         resumed (t.core k) ∧ kept (t.core k) 0 ∧
         (t.src i).pend = true ∧ (∀ j : Nat, j ≠ i → j ≠ 491 → t.src j = s.src j)) ∧
       ((i < 496 ∨ 512 ≤ i) → badArg (.svcRaise k false))) ∧
     (s.serves k 5 = true →
       (c.px.toNat + 12 ≤ 0x4000 → exec (.svcHostNote k false) s = .next
         ((q.postEvent ⟨bytes 12 ++ leBytes 2 k.val ++ leBytes 2 0x2000, none⟩).updCore k (fun d => { d with state := .run }))) ∧
       (0x4000 < c.px.toNat + 12 → badArg (.svcHostNote k false)))) ∧
  (∀ (k : Fin 64) (s : State),
     ∀ p ∈ [(0, Instr.svcVersion k true), (1, .svcWallclock k true), (2, .svcLog k true), (3, .svcMailbox k true),
            (4, .svcRaise k true), (5, .svcHostNote k true)],
       ((s.core k).state ≠ .calling → exec p.2 s = .next s) ∧
       (s.serves k p.1 = true →
         ((s.core k).gm = false → ∃ t, exec p.2 s = .next t ∧
           (t.core k).excVec = 6 ∧ (t.core k).excDetail = 3 ∧ (t.core k).spc = (s.core k).pc ∧
           ((s.core k).wdPend = false →
             s.readable k ((s.core k).vb + 12).toNat → s.readable k ((s.core k).vb + 13).toNat →
             t = { s with free := t.free, cores := t.cores, ridge := t.ridge } ∧ t.logBytes = s.logBytes)) ∧
         ((s.core k).gm = true → ∃ t, exec p.2 s = .next t ∧ t = { s with free := t.free, regs := t.regs, cores := t.cores, ridge := t.ridge, srcs := t.srcs } ∧
           (t.core k).state = .locked)))

/-- The ports of a core that act on the device: CLAIM and EOI (R288, R290), the kernel-call ports of a Kept Ridge (R252),
SA_DATA at a store byte (R256), a mailbox write (R224), SHG_RUN (R251), and the lockstep comparators (R162, R254). The running
kernel logs a LOCKUP, PRIV_CLAMP or ACCESS_DENIED that it claims (R260). That a port of the core spends no cycles and leaves the
PC is log 70; that a stopped Ridge does not stop again is log 3. -/
def Obligations.CorePorts : Prop :=
  ∀ (k : Fin 65) (n : Fin 64) (hi v : Byte) (r : Fin 8) (i off : Nat) (s : State),
    let c := s.core k
    let g := if k = 64 then 0 else k.val + 1
    let e := 256 * (hi.toNat % 2) + c.eoiLo.toNat
    (s.coreRuns k = true → s.best g = some i → i < 512 → ∃ t, exec (.claim k) s = .next t ∧
      t = { s with free := t.free, regs := t.regs, cores := t.cores, ridge := t.ridge, srcs := t.srcs, running := t.running } ∧
      (k ≠ 64 ∨ s.misc.boot ≠ .done ∨ (i ≠ 488 ∧ i ≠ 489 ∧ (i < 128 ∨ 256 ≤ i ∨ i % 2 = 0)) → t.free = s.free ∧ t.ridge = s.ridge) ∧
      (k = 64 → s.misc.boot = .done → i = 488 ∨ i = 489 ∨ (128 ≤ i ∧ i < 256 ∧ i % 2 = 1) →
        t.ridge = { s.ridge with logs := s.ridge.logs + 1 } ∧
        (t.logBytes.drop (16 * Nat.min 255 s.ridge.logs + 8)).take 2 = leBytes 2 i) ∧
      (t.src i).pend = false ∧ (t.src i).act = some g ∧ (t.src i).prio = (s.src i).prio ∧ (t.src i).tgt = (s.src i).tgt ∧
      t.stack g = ((s.src i).prio, i) :: s.stack g ∧ (t.core k).claimHi = BitVec.ofNat 8 (0x80 + i / 256) ∧
      (∀ j : Nat, j ≠ i → t.src j = s.src j) ∧ (t.core k).pc = c.pc) ∧
    (s.coreRuns k = true → s.best g = none → ∃ t, exec (.claim k) s = .next t ∧ t = { s with regs := t.regs } ∧
      (t.core k).claimHi = 0 ∧ t.srcs = s.srcs ∧
      t.running = s.running ∧ t.reg (.evcCount 3) = s.reg (.evcCount 3) + 1) ∧
    (s.coreRuns k = true →
      ((s.src e).act = some g → ∃ t, exec (.eoi k hi) s = .next t ∧ t = { s with srcs := t.srcs, running := t.running } ∧
        (t.src e).act = none ∧ (t.src e).pend = (s.src e).pend ∧ t.stack g = (s.stack g).filter (fun x => decide (x.2 ≠ e)) ∧
        (∀ j : Nat, j ≠ e → t.src j = s.src j)) ∧
      ((s.src e).act ≠ some g → exec (.eoi k hi) s = .next (s.setReg (.evcCount 0) (s.reg (.evcCount 0) + 1)))) ∧
    (s.coreRuns 64 = true → s.kept = true →
      (s.ridge.kcq ≠ [] → let m := s.ridge.kcq.headD 0
        exec .kcHead s = .next (State.emit { s with ridge := { s.ridge with
          kcq := s.ridge.kcq.tail, kcCall := BitVec.ofNat 8 (s.core m).call } } (.readData [BitVec.ofNat 8 m]))) ∧
      (s.ridge.kcq = [] → exec .kcHead s = .next (s.emit (.readData [0xFF]))) ∧
      exec (.kcReturn (BitVec.ofNat 8 n) 0) s =
        (let s1 := { s with ridge := { s.ridge with kcTarget := BitVec.ofNat 8 n } }
         .next (if (s.core n).state = .calling then s1.setCore n { s.core n with state := .run } else s1)) ∧
      (s.ridge.sa = 0x100000000 + off → off < 0x2000000 → s.storeOn off 1 = true → off ∉ s.storeBad → s.storeClearing = false →
        exec (.saData false r) s = .next (State.setCore { s with ridge := { s.ridge with sa := 0x100000000 + off + 1 } } 64
          ((s.core 64).setV r (Memory.read s.store off))) ∧
        exec (.saData true r) s = .next { s with
          ridge := { s.ridge with sa := 0x100000000 + off + 1 }, store := Memory.write s.store off ((s.core 64).vr r) })) ∧
    (s.coreRuns 64 = true → s.kept = false → (s.core 64).gm = false →
      ∀ j ∈ [Instr.kcHead, .kcReturn hi v, .saData false r, .saData true r], ∃ t, exec j s = .next t ∧
        ((s.core 64).wdPend = false → s.readable 64 ((s.core 64).vb + 6).toNat → s.readable 64 ((s.core 64).vb + 7).toNat →
          t = { s with free := t.free, cores := t.cores } ∧ t.ridge = s.ridge) ∧
        (t.core 64).excVec = 3 ∧
        (t.core 64).excDetail = 0 ∧ (t.core 64).spc = (s.core 64).pc) ∧
    (s.shingleOn n = true → ∃ t, exec (.mailboxWrite n v) s = .next t ∧ t = { s with regs := t.regs, cores := t.cores, srcs := t.srcs } ∧
      (t.src (128 + 2 * n)).pend = true ∧
      t.core n = { s.core n with mbox := Tab.set (fun _ => 0) (s.core n).mbox 7 v } ∧ (∀ j : Nat, j ≠ n → t.core j = s.core j)) ∧
    (bit (s.reg (.shgRun (n / 32))) (n % 32) = true → ∃ t, exec (.shgRun n false) s = .next t ∧ t = { s with regs := t.regs, cores := t.cores, ridge := t.ridge } ∧
      (t.core n).state = .held ∧
      bit (t.reg (.shgRun (n / 32))) (n % 32) = false ∧ t.ridge.kcq = s.ridge.kcq.filter (fun x => decide (x ≠ n.val)) ∧
      (∀ j : Nat, j ≠ n → t.core j = s.core j)) ∧
    (bit (s.reg (.shgRun (n / 32))) (n % 32) = false → s.shingleOn n = true → s.clearing (40 + n / 16) = false →
      s.readable n 0 → s.readable n 1 →
      ∃ t, exec (.shgRun n true) s = .next t ∧ t = { s with regs := t.regs, cores := t.cores, srcs := t.srcs, running := t.running } ∧
        (t.core n).state = .run ∧ (t.core n).gm = true ∧ (t.core n).kept = false ∧
        (t.core n).sp = 0x4000 ∧ (t.core n).pc = Memory.read (s.core n).data 1 ++ Memory.read (s.core n).data 0 ∧
        (t.core n).data = (s.core n).data ∧ bit (t.reg (.shgRun (n / 32))) (n % 32) = true ∧ (∀ j : Nat, j ≠ n → t.core j = s.core j)) ∧
    (s.ridge.stopped = false →
      (∀ j : Nat, j < 64 → (s.core j).state = .calling →
        s.readable j ((s.core j).vb + 12).toNat ∧ s.readable j ((s.core j).vb + 13).toNat) → ∃ t, exec .lockstepMismatch s = .next t ∧ t = { s with free := t.free, regs := t.regs, cores := t.cores, ridge := t.ridge, srcs := t.srcs } ∧
      t.ridge.stopped = true ∧ t.ridge.kcq = [] ∧
      bit t.faultStatus 3 = true ∧ t.faultN = false ∧ t.lockupN = false ∧ (t.src 447).pend = true ∧
      ((s.core n).state = .calling → (s.core n).gm = false → (s.core n).wdPend = false → (t.core n).excVec = 6 ∧ (t.core n).excDetail = 0xFF ∧
        (t.core n).spc = (s.core n).pc) ∧
      ((s.core n).state ≠ .calling → t.core n = s.core n)) ∧
    (s.ridge.stopped = true → exec .lockstepMismatch s = .next s)

/-- Event sources (R285 to R292): an edge makes its source pending and is counted, also where it merges; PEND_CLR clears the
bit; SRC_CFG writes TARGET and PRIO, but the target of source 491; a host target claims its best source and hands the entry to
the event queue; EOI ends the source or is counted. An edge to a Shingle whose group is off raises source 491 once, and so does
a pending source that SRC_CFG moves to one. The sources that no hardware raises have no edge (log 101). A claim with nothing
pending does nothing (log 3), and PEND_CLR leaves UNDELIVERABLE as it is (log 101). -/
def Obligations.EventSources : Prop :=
  ∀ (i : Fin 512) (v : Fin 64) (w : W32) (s : State),
    let x := s.src i
    (edgeSource i = false → exec (.sourceEdge i) s = .next s) ∧
    (edgeSource i = true → s.targetOff x.tgt = false ∨ x.undel = true ∨ x.pend = true →
      exec (.sourceEdge i) s = exec (.pend i) s ∧ ∃ t, exec (.sourceEdge i) s = .next t ∧ t = { s with srcs := t.srcs, regs := t.regs } ∧
        t.src i = { x with pend := true } ∧ (∀ j : Nat, j ≠ i → t.src j = s.src j) ∧
        t.reg (.srcCount i) = s.reg (.srcCount i) + 1 ∧
        t.reg (.evcCount 2) = s.reg (.evcCount 2) + (if x.pend then 1 else 0)) ∧
    (edgeSource i = true → s.targetOff x.tgt = true → x.undel = false → x.pend = false → i ≠ 491 →
      ∃ t, exec (.sourceEdge i) s = .next t ∧ t = { s with regs := t.regs, srcs := t.srcs } ∧
        t.src i = { x with pend := true, undel := true } ∧ (t.src 491).pend = true ∧
        t.reg (.evcCount 1) = s.reg (.evcCount 1) + 1 ∧ t.reg (.srcCount 491) = s.reg (.srcCount 491) + 1) ∧
    exec (.pendClr i) s = .next (s.setSrc i { x with pend := false }) ∧
    (i ≠ 491 →
      let moved := { x with prio := fld w 11 8, tgt := fld w 7 0, undel := x.undel && decide (x.tgt = fld w 7 0) }
      (x.pend = false ∨ x.tgt = fld w 7 0 ∨ s.targetOff (fld w 7 0) = false → exec (.srcCfg i w) s = .next (s.setSrc i moved)) ∧
      (x.pend = true → x.tgt ≠ fld w 7 0 → s.targetOff (fld w 7 0) = true →
        ∃ t, exec (.srcCfg i w) s = .next t ∧ t = { s with regs := t.regs, srcs := t.srcs } ∧
          t.src i = { moved with undel := true } ∧ (t.src 491).pend = true ∧ (∀ j : Nat, j ≠ i → j ≠ 491 → t.src j = s.src j) ∧
          t.reg (.evcCount 1) = s.reg (.evcCount 1) + 1 ∧ t.reg (.srcCount 491) = s.reg (.srcCount 491) + 1)) ∧
    (i = 491 → x.tgt = 0 → exec (.srcCfg i w) s = .next (s.setSrc i { x with prio := fld w 11 8 })) ∧
    (s.best (65 + v) = some i.val → ∃ t, exec (.hostTargetClaim v) s = .next t ∧ t = { s with regs := t.regs, engine := t.engine, srcs := t.srcs, running := t.running, claims := t.claims } ∧
      t.src i = { x with pend := false, act := some (65 + v.val), undel := false } ∧ t.stack (65 + v) = (x.prio, i.val) :: s.stack (65 + v) ∧
      t.claimed v = some i.val ∧
      (s.qeHeld = true → s.engine.heldE.length < 64 → t.engine.heldE = s.engine.heldE ++
        [⟨leBytes 8 s.clk.dt ++ leBytes 4 0 ++ leBytes 2 i.val ++ leBytes 2 v.val, some v.val⟩])) ∧
    (s.best (65 + v) = none → exec (.hostTargetClaim v) s = .next s) ∧
    (s.hostHears = true → s.pcie.d3 = false → x.act = some (65 + v.val) → exec (.hostEoi v i) s = .next ((s.setSrc i { x with act := none }).setStack (65 + v)
      ((s.stack (65 + v)).filter (fun e => decide (e.2 ≠ i.val))))) ∧
    (s.hostHears = true → s.pcie.d3 = false → x.act ≠ some (65 + v.val) → exec (.hostEoi v i) s = .next (s.setReg (.evcCount 0) (s.reg (.evcCount 0) + 1)))

/-- The best deliverable source of a target (R287). A source is deliverable at target g, 0 to 128, when it is pending, active at
no target, its TARGET is g, its PRIO exceeds the running priority of g, and the power domain of g is on. The best source is
deliverable, and every other deliverable one has a lower PRIO, or the same PRIO and a higher number; with no best source none is
deliverable. -/
def Obligations.BestSource : Prop :=
  ∀ (g i j : Nat) (s : State), g ≤ 128 →
    let on (t : Nat) : Bool := if t = 0 then s.isOn 48 else if t ≤ 64 then s.isOn (40 + (t - 1) / 16) else s.isOn 47
    let deliverable (t n : Nat) : Bool := (s.src n).pend && (s.src n).act.isNone && decide ((s.src n).tgt = t) &&
      decide (((s.stack t).headD (0, 0)).1 < (s.src n).prio) && on t
    (s.best g = some i → deliverable g i = true ∧
      (deliverable g j = true → (s.src j).prio < (s.src i).prio ∨ ((s.src j).prio = (s.src i).prio ∧ i ≤ j))) ∧
    (s.best g = none → deliverable g j = false) ∧
    ((s.src i).prio = 0 ∨ 129 ≤ (s.src i).tgt → s.best g ≠ some i)

/-! ### DMA, registers, host interface and queue engine -/

/-- A DMA channel (R295 to R297). START is ignored while BUSY or while an error stands; with COUNT 0 it is done at once;
otherwise the channel runs; by a master ID that is never issued it does nothing (R300; log 3). Its end: a copy within the store
of one burst of at most 512 bytes, by the only busy channel, moves the bytes (SRC, DST and COUNT count them), sets DONE and
raises source 416 + n. ABORT stops it. A byte in error stops the channel, moves nothing, and is recorded. That what a channel
moves is moved at the command that ends it is the model's choice (log 94); a row for a channel that is not busy does nothing
(log 3). -/
def Obligations.DmaChannels : Prop :=
  ∀ (n : Fin 16) (m : Byte) (k : Nat) (s : State),
    let d := s.dma n
    let a := d.src - 0x100000000
    let b := d.dst - 0x100000000
    let e := s.storeBad.headD 0
    let ready := d.busy = true ∧ d.srcFix = false ∧ d.dstFix = false ∧ 0x100000000 ≤ d.src ∧ 0x100000000 ≤ d.dst ∧
      0 < d.cnt ∧ a % 512 + d.cnt ≤ 512 ∧ b % 512 + d.cnt ≤ 512 ∧ a + d.cnt ≤ 0x2000000 ∧ b + d.cnt ≤ 0x2000000 ∧
      s.regionOk d.master d.src d.cnt false = true ∧ s.regionOk d.master d.dst d.cnt true = true ∧
      (∀ g : Nat, g < 8 → s.isOn (32 + g) = true) ∧ (∀ i : Nat, i < 16 → i ≠ n → (s.dma i).busy = false)
    (masterId m.toNat = false ∨ d.busy = true ∨ bit (s.reg .dmaErrInfo) 31 = true → exec (.dmaStart n m) s = .next s) ∧
    (masterId m.toNat = true → d.busy = false → bit (s.reg .dmaErrInfo) 31 = false →
      (d.cnt ≠ 0 → exec (.dmaStart n m) s = .next (s.setDma n { d with
        busy := true, done := false, stopped := false, lastIss := false, master := m.toNat })) ∧
      (d.cnt = 0 → ∃ t, exec (.dmaStart n m) s = .next t ∧ t = { s with regs := t.regs, srcs := t.srcs, dmas := t.dmas } ∧
        t.dma n = { d with done := true } ∧
        (t.src (416 + n)).pend = true ∧ t.store = s.store)) ∧
    (d.busy = false → exec (.dmaDone n) s = .next s ∧ exec (.dmaAbort n k) s = .next s ∧ exec (.dmaStop n) s = .next s) ∧
    (d.busy = true → exec (.dmaAbort n 0) s = .next (s.setDma n { d with busy := false, stopped := true })) ∧
    (ready → (∀ i : Nat, i < d.cnt → a + i ∉ s.storeBad) →
      exec (.dmaStop n) s = .next s ∧
      ∃ t, exec (.dmaDone n) s = .next t ∧ t = { s with regs := t.regs, store := t.store, storeBad := t.storeBad, srcs := t.srcs, dmas := t.dmas, dmaLast := n } ∧
        t.store = Memory.writeList s.store b ((List.range d.cnt).map (fun i => Memory.read s.store (a + i))) ∧
        t.dma n = { d with src := d.src + d.cnt, dst := d.dst + d.cnt, cnt := 0, busy := false, done := true } ∧
        (∀ i : Nat, i ≠ n → t.dma i = s.dma i) ∧ (t.src (416 + n)).pend = true ∧
        (∀ i : Nat, i < d.cnt → b + i ∉ t.storeBad)) ∧
    (ready → s.storeBad = [e] → a ≤ e → e < a + d.cnt →
      exec (.dmaStop n) s = exec (.dmaDone n) s ∧
      ∃ t, exec (.dmaStop n) s = .next t ∧ t = { s with regs := t.regs, srcs := t.srcs, dmas := t.dmas, dmaLast := n } ∧
        t.dma n = { d with busy := false, stopped := true, lastIss := true } ∧
        (∀ i : Nat, i ≠ n → t.dma i = s.dma i) ∧
        t.reg .dmaErrAddrLo = BitVec.ofNat 32 e ∧ t.reg .dmaErrAddrHi = 1 ∧
        t.reg .dmaErrInfo = BitVec.ofNat 32 (0x80000400 + n) ∧ (t.src 492).pend = true ∧ (t.src 438).pend = true ∧
        t.reg .storeErrAddr = BitVec.ofNat 32 e)

/-- FETCH_ADD and COMPARE_SWAP on a store word (R303), by a master that no region binds; and BAR4 (R263, R264, R302): inside the
window the store answers, at a bank without power the request is aborted, in D3hot it is unsupported, and a byte in error is
returned poisoned, all three logged by AER (R266; the bits are log 131); outside the window the model stops (its choice, log 3).
-/
def Obligations.StoreWindows : Prop :=
  ∀ (m : Byte) (off len : Nat) (b : List Byte) (s : State),
    let w := off / 8 * 8
    let word := leNat ((List.range 8).map (fun i => Memory.read s.store (w + i)))
    let opnd := s.latch (3 * m.toNat)
    let e := s.storeBad.headD 0
    let atomically (i : Instr) (new : Nat) : Prop :=
      ∃ t, exec i s = .next t ∧ t = { s with store := t.store, latches := t.latches, out := t.out } ∧
        t.out = .readData ((List.range len).map (fun i => Memory.read s.store (off + i))) :: s.out ∧
        t.latch (3 * m.toNat + 2) = BitVec.ofNat 64 word ∧ (∀ n : Nat, n ≠ 3 * m.toNat + 2 → t.latch n = s.latch n) ∧
        leNat ((List.range 8).map (fun i => Memory.read t.store (w + i))) = new ∧
        (∀ x : Nat, x < w ∨ w + 8 ≤ x → Memory.read t.store x = Memory.read s.store x)
    (masterId m.toNat = false → exec (.fetchAdd m off len) s = .next s ∧ exec (.compareSwap m off len) s = .next s) ∧
    (m.toNat ≤ 8 → 1 ≤ len → off % 8 + len ≤ 8 → off < 0x2000000 →
      s.isOn (32 + off / 4096 % 8) = true →
      (s.storeBad = [] →
        atomically (.fetchAdd m off len) ((word + opnd.toNat) % 2 ^ 64) ∧
        atomically (.compareSwap m off len) (if word = (s.latch (3 * m.toNat + 1)).toNat then opnd.toNat else word)) ∧
      (s.storeBad = [w] → ∀ i ∈ [Instr.fetchAdd m off len, .compareSwap m off len], ∃ t, exec i s = .next t ∧ t = { s with regs := t.regs, srcs := t.srcs } ∧
        t.store = s.store ∧ t.latches = s.latches ∧ t.out = s.out ∧ t.reg .storeErrAddr = BitVec.ofNat 32 w ∧
        (t.src 438).pend = true)) ∧
    (len = 0 ∨ 4096 < len ∨ 0x2000000 < off + len →
      exec (.bar4Access off len none) s = .fault .outsideBar4 ∧ exec (.bar4Access off len (some b)) s = .fault .outsideBar4) ∧
    (1 ≤ len → len ≤ 4096 → off + len ≤ 0x2000000 → s.hostHears = true →
      (s.pcie.d3 = true → ∃ t, exec (.bar4Access off len (some b)) s = .next t ∧ t = { s with free := t.free, pcie := t.pcie, regs := t.regs, srcs := t.srcs, out := t.out } ∧
        t.out = .unsupported :: s.out ∧ bit t.pcie.aer 20 = true ∧ (t.src 453).pend = true) ∧
      (s.pcie.d3 = false → s.misc.mode ≠ 3 →
        (s.storeClearing = true → exec (.bar4Access off len (some b)) s = .next { s with heldBar := s.heldBar ++ [(off, len, some b)] }) ∧
        (s.storeClearing = false → (∀ g : Nat, g < 8 → s.isOn (32 + g) = true) →
          (s.storeBad = [] → exec (.bar4Access off len none) s =
            .next (s.emit (.bar4Data ((List.range len).map (fun i => Memory.read s.store (off + i))) false))) ∧
          (s.storeBad = [e] → off ≤ e → e < off + len → ∃ t, exec (.bar4Access off len none) s = .next t ∧
            t = { s with free := t.free, pcie := t.pcie, regs := t.regs, srcs := t.srcs, out := t.out } ∧
            t.out = .bar4Data ((List.range len).map (fun i => Memory.read s.store (off + i))) true :: s.out ∧
            bit t.pcie.aer 12 = true ∧ (t.src 453).pend = true ∧ (t.src 438).pend = true ∧ t.reg .storeErrAddr = BitVec.ofNat 32 e) ∧
          (b.length = len → ∃ t, exec (.bar4Access off len (some b)) s = .next t ∧
            t = { s with store := t.store, storeBad := t.storeBad } ∧ t.store = Memory.writeList s.store off b)) ∧
        (s.storeClearing = false → s.powered (32 + off / 4096 % 8) = false → ∃ t, exec (.bar4Access off len none) s = .next t ∧
          t = { s with free := t.free, pcie := t.pcie, regs := t.regs, srcs := t.srcs, out := t.out } ∧
          t.out = .bar4Abort :: s.out ∧ bit t.pcie.aer 15 = true ∧ (t.src 453).pend = true ∧ t.reg .mtxErrAddrLo = BitVec.ofNat 32 off ∧ (t.src 490).pend = true)))

/-- Writes of registers by the host (R3, R4, R111, R147, R266, R268): the selected bytes of a plain register; nothing at an
offset without a register, at HOST_EOI without a byte of SOURCE, or while the balls are disconnected (R348; log 100), and an
Unsupported Request in D3hot, which AER logs; the queue registers by their fields, with RUN and ENABLE refused for a SIZE below
2 and the base locked while a queue runs; the masks of the dispatcher, with no tasklet to re-home. -/
def Obligations.RegisterWrites : Prop :=
  ∀ (off : Nat) (n : Fin 5) (m : Fin 4) (q : Fin 64) (v : W32) (be : BitVec 4) (s : State),
    let byte (w : W32) (i : Nat) : Byte := w.extractLsb' (8 * i) 8
    let x := s.sq q
    let c (k : Nat) := s.cq k
    let noneLost := s.tasks.all (fun e => !e.2.homeLost)
    let live := s.hostHears = true ∧ s.pcie.d3 = false
    (live → decodeReg (off / 4 * 4) = none → exec (.registerWrite off v be) s = .next s) ∧
    (live → ∀ r ∈ [Reg.calScratch n, .xlatHi q, .xlatLo q, .shgNx q, .allocLow m], r.off = off →
      ∃ t, exec (.registerWrite off v be) s = .next t ∧ t = s.setReg r (t.reg r) ∧
        ∀ i : Nat, i < 4 → byte (t.reg r) i = byte (s.reg r) i ^^^
          ((byte v i ^^^ byte (s.reg r) i) &&& byte r.rw i &&& (if bit be i then 0xFF else 0))) ∧
    (live → off = Reg.off (.hostEoi q) → be.extractLsb' 0 2 = 0 → exec (.registerWrite off v be) s = .next s) ∧
    (∀ i ∈ [Instr.registerWrite off v be, .spareMask v, .fenceStatus v, .admCtl v, .queueCtl q v, .sqBaseLo q v, .cqCfg (some q) v,
        .cqCfg none v, .sqTail q v, .chainResume q, .cqHead q v, .evqHead v, .bootGo],
      (s.hostHears = false → exec i s = .next s) ∧
      (s.hostHears = true → s.pcie.d3 = true → ∃ t, exec i s = .next t ∧
        t = { s with free := t.free, pcie := t.pcie, regs := t.regs, srcs := t.srcs, out := t.out } ∧
        t.out = .unsupported :: s.out ∧ bit t.pcie.aer 20 = true ∧ (t.src 453).pend = true)) ∧
    (live → exec (.queueCtl q v) s = .next (s.setSq q { x with
      size := if x.run = true ∨ x.seg.isSome = true then x.size else fld v 30 18
      hop := fld v 17 8, cq := if x.run then x.cq else fld v 7 2
      run := bit v 0 && (x.run || decide (2 ≤ (if x.seg.isSome then x.size else fld v 30 18))) })) ∧
    (live → x.run = true ∨ x.seg.isSome = true → exec (.sqBaseLo q v) s = .next s) ∧
    (live → x.run = false → x.seg = none → ∃ t, exec (.sqBaseLo q v) s = .next t ∧ t = s.setSq q (t.sq q) ∧
      (t.sq q).base = x.base &&& 0xFFFFFFFF0000003F ||| (v &&& 0xFFFFFFC0).setWidth 64 ∧ (t.sq q).head = 0 ∧ (t.sq q).tail = 0 ∧
      (t.sq q).point = none ∧ (t.sq q).run = false ∧ (t.sq q).size = x.size ∧ (t.sq q).cq = x.cq) ∧
    (live → ∀ p ∈ [(Instr.cqCfg (some q) v, q.val), (.cqCfg none v, 64)], (c p.2).held = [] → ∃ t, exec p.1 s = .next t ∧ t = { s with cqs := t.cqs } ∧
      (∀ k : Nat, k ≠ p.2 → t.cq k = s.cq k) ∧
      let y := t.cq p.2
      y.ien = bit v 22 ∧ y.vec = fld v 21 16 ∧ y.base = (c p.2).base ∧
      y.size = (if (c p.2).en then (c p.2).size else fld v 12 0) ∧
      y.en = (bit v 31 && ((c p.2).en || decide (2 ≤ fld v 12 0))) ∧
      (y.en = true → (c p.2).en = false → y.head = 0 ∧ y.tail = 0 ∧ y.phase = true) ∧
      (y.en = (c p.2).en → y.head = (c p.2).head ∧ y.tail = (c p.2).tail ∧ y.phase = (c p.2).phase)) ∧
    (live → noneLost = true → (∀ d : Nat, d < 32 → s.homedOn d = []) → exec (.spareMask v) s = .next (s.setReg .spareMask v)) ∧
    (live → noneLost = true → ∃ t, exec (.fenceStatus v) s = .next t ∧ t = { s with regs := t.regs } ∧
      t.reg .fenceStatus = s.reg .fenceStatus &&& ~~~v ∧
      ∀ d : Nat, d < 32 → t.reg (.clusterFaults d) = if bit v d then 0 else s.reg (.clusterFaults d)) ∧
    (live → noneLost = true → ∃ t, exec (.admCtl v) s = .next t ∧ t = s.setReg .admCtl (t.reg .admCtl) ∧
      t.reg .admCtl = (s.reg .admCtl &&& ~~~(Reg.rw .admCtl)) ||| (v &&& Reg.rw .admCtl))

/-- Doorbells (R269, R274) and the states of the function (R264, R283, R284): with READY = 1 a legal value is taken, another is
counted and raises source 450; with READY = 0 a doorbell does nothing; the engine is held while the link is down, in D3hot or
with Bus Master Enable 0, and what leaves a state raises its source. Nothing is held in the queues, no message is pending. The
AER bits are those of the PCI Express family (log 131); a timer that does not run, and an empty change, do nothing (log 3). -/
def Obligations.DoorbellsAndLinkStates : Prop :=
  ∀ (q : Fin 64) (v : W32) (up e f g : Bool) (sp wd : Fin 4) (vec : Option (Fin 64)) (s : State),
    let n := fld v 11 0
    let size (k : Nat) := Nat.min k 4096
    let x := s.sq q
    let live := s.hostHears = true ∧ s.pcie.d3 = false ∧ bit (s.reg .qeStatus) 0 = true
    let quiet := s.engine.heldC = [] ∧ s.engine.heldE = [] ∧ s.pcie.pba = [] ∧ (∀ k : Nat, k < 65 → (s.cq k).held = [])
    let wrong (i : Instr) : Prop := ∃ t, exec i s = .next t ∧ t = { s with srcs := t.srcs, regs := t.regs } ∧
      t.reg (.qeCount 5) = s.reg (.qeCount 5) + 1 ∧ (t.src 450).pend = true
    let inRange (c : Cq) : Bool :=
      let z := size c.size
      decide (n < z) && decide ((n + z - c.head % z) % z ≤ (c.tail + z - c.head % z) % z)
    (s.hostHears = true → s.pcie.d3 = false → bit (s.reg .qeStatus) 0 = false →
      ∀ i ∈ [Instr.sqTail q v, .chainResume q, .cqHead q v, .evqHead v], exec i s = .next s) ∧
    (live → (n < size x.size → exec (.sqTail q v) s = .next (s.setSq q { x with tail := n })) ∧
      (size x.size ≤ n → wrong (.sqTail q v)) ∧
      exec (.chainResume q) s = .next (s.setSq q { x with resume := true }) ∧
      ((s.cq q).held = [] → inRange (s.cq q) = true → exec (.cqHead q v) s = .next (s.setCq q { s.cq q with head := n })) ∧
      (inRange (s.cq q) = false → wrong (.cqHead q v)) ∧
      ((s.cq 64).held = [] → inRange (s.cq 64) = true → exec (.evqHead v) s = .next (s.setCq 64 { s.cq 64 with head := n })) ∧
      (inRange (s.cq 64) = false → wrong (.evqHead v))) ∧
    (s.pcie.pba = [] → ∃ t, exec (.msixUnmask e f vec) s = .next t ∧ t = { s with pcie := t.pcie, regs := t.regs } ∧
      t.pcie = { s.pcie with msix := e, fmask := f } ∧
      ∀ k, vec = some k → t.vecMasked k = false ∧ (∀ j : Nat, j ≠ k → t.vecMasked j = s.vecMasked j)) ∧
    (quiet → ∃ t, exec (.dStateChange e f g) s = .next t ∧ t = { s with pcie := t.pcie, srcs := t.srcs, regs := t.regs } ∧
      t.pcie = { s.pcie with d3 := e, pmeEn := f, pmeSt := s.pcie.pmeSt && !g } ∧
      (s.pcie.d3 ≠ e → (t.src 454).pend = true) ∧ (s.pcie.d3 = e → t.srcs = s.srcs) ∧ (e = true → t.qeHeld = true)) ∧
    (quiet → exec (.busMasterEnable e) s = .next { s with pcie := { s.pcie with bme := e } }) ∧
    (quiet → ∃ t, exec (.linkChange up sp wd) s = .next t ∧ t = { s with pcie := t.pcie, srcs := t.srcs, regs := t.regs } ∧
      t.pcie = { s.pcie with up := up && s.hostHears, speed := sp, width := wd } ∧
      (t.pcie ≠ s.pcie → (t.src 452).pend = true) ∧ (t.pcie = s.pcie → t.srcs = s.srcs) ∧ (up = false → t.qeHeld = true)) ∧
    (s.hostHears = false → ∀ i ∈ [BadRequest.length, .ioOrLocked, .poisonedWrite], exec (.unsupportedRequest i) s = .next s) ∧
    (s.hostHears = true → ∀ i ∈ [BadRequest.length, .ioOrLocked, .poisonedWrite], ∃ t, exec (.unsupportedRequest i) s = .next t ∧
      t = { s with free := t.free, pcie := t.pcie, out := t.out, srcs := t.srcs, regs := t.regs } ∧
      t.pcie = { s.pcie with aer := t.pcie.aer, hdr := t.pcie.hdr } ∧ bit t.pcie.aer (if i = .poisonedWrite then 12 else 20) = true ∧
      (s.pcie.aer ≠ 0 → t.pcie.hdr = s.pcie.hdr) ∧ (t.src 453).pend = true ∧
      t.out = (if i = .poisonedWrite then s.out else .unsupported :: s.out)) ∧
    (let c := s.cq q
     (c.timerOn = false → exec (.moderationTimer q) s = .next s) ∧
     (c.timerOn = true → c.ien = false → exec (.moderationTimer q) s = .next (s.setCq q { c with timerOn := false, cnt := 0 })) ∧
     (c.timerOn = true → c.ien = true → s.pcie.msix = true → s.qeHeld = false → s.pcie.fmask = false → s.vecMasked c.vec = false → c.vec ∉ s.pcie.pba →
       ∃ t, exec (.moderationTimer q) s = .next t ∧ t = { s with regs := t.regs, cqs := t.cqs, out := t.out } ∧
         t.cq q = { c with timerOn := false, cnt := 0 } ∧
         t.out.length = s.out.length + 1 ∧ t.reg (.qeCount 7) = s.reg (.qeCount 7) + 1))

/-- The queue engine (R271 to R275, R278). DESCRIPTOR_READ: a queue alone at work asks for the entry at HEAD, the next
descriptor of its chain, or the link word of its resume point. READ_COMPLETION: a descriptor of any opcode that passes checks 1
and 2 of R276 is its queue's command, last in the order of acceptance; otherwise the segment ends with INVALID_OPCODE or
INVALID_FIELD, whose 16-byte completion is written at TAIL with PHASE. A command's arguments come by reads of at most
Max_Read_Request_Size. A failed or late read ends the segment with HOST_READ_FAILED and stops the queue; AER logs a late one,
one with poisoned data (log 141), and a completion that nobody asked for (the bits are log 131, R265). A timeout with no read
out, and an engine that is held, do nothing (logs 3 and 79). -/
def Obligations.QueueEngine : Prop :=
  ∀ (q : Fin 64) (bs : List Byte) (link cid : Nat) (s : State),
    let x := s.sq q
    let c := s.cq x.cq
    let d := Desc.parse (x.base.toNat + 32 * x.head) bs
    let m := x.cmd.getD ⟨d, [], .ready⟩
    let active := bit (s.reg .qeStatus) 0 = true ∧ s.qeHeld = false ∧ (∀ k : Nat, k < 64 → k ≠ q → s.sqReady k = false)
    let asks (r : Rd) (a n : Nat) (y : Sq) : Prop :=
      exec .descriptorRead s = .next { s.setSq q { y with rd := some r } with
        engine := { s.engine with last := q }, out := .hostRead q a n :: s.out }
    let room := c.en = true ∧ 0 < c.room ∧ c.held = [] ∧ c.ien = false ∧ s.qeHeld = false
    let entry (cid code at_ index flags : Nat) : Emit := .hostWrite (c.base.toNat + 16 * c.tail)
      (leBytes 2 cid ++ leBytes 1 code ++ leBytes 1 0 ++ leBytes 2 at_ ++ leBytes 2 0 ++ leBytes 4 0 ++ leBytes 2 index ++
        leBytes 1 q ++ leBytes 1 (flags + (if c.phase then 0x80 else 0)))
    let written (t : State) : Prop :=
      let y := t.cq x.cq
      y.tail = (c.tail + 1) % Nat.min c.size 4096 ∧ y.phase = (if y.tail = 0 then !c.phase else c.phase) ∧ y.head = c.head ∧
        (∀ k : Nat, k ≠ x.cq → t.cq k = s.cq k)
    (bit (s.reg .qeStatus) 0 = false ∨ s.qeHeld = true → exec .descriptorRead s = .next s) ∧
    (active → x.rd = none → x.cmd = none → c.en = true → 0 < c.room → c.held = [] →
      (x.seg = none → x.run = true → x.resume = false → x.head ≠ x.tail →
        asks .ring (x.base.toNat + 32 * x.head) 32 { x with seg := some ⟨true, false, 0xFFFF, 0⟩ }) ∧
      (x.seg.isSome = true → x.nextAt = some link → asks (.chain link) link 32 { x with nextAt := none }) ∧
      (x.seg = none → x.run = true → x.resume = true → x.point = some (link, cid) →
        asks .link (link + 24) 8 { x with resume := false })) ∧
    (x.rd = none → exec (.completionTimeout q) s = .next s ∧
      ∃ t, exec (.readCompletion q bs true) s = .next t ∧ t = { s with free := t.free, pcie := t.pcie, srcs := t.srcs, regs := t.regs } ∧
        bit t.pcie.aer 16 = true ∧ (t.src 453).pend = true) ∧
    (x.rd = some .ring → x.seg = some ⟨true, false, 0xFFFF, 0⟩ → x.cmd = none → bs.length = 32 →
      (0 < d.op → d.op < 0x1D → d.fieldsOk = true → ∃ t, exec (.readCompletion q bs true) s = .next t ∧
        t = { s with regs := t.regs, sqs := t.sqs, engine := { s.engine with order := s.engine.order.filter (fun k => decide (k ≠ q.val)) ++ [q.val] } } ∧
        t.sq q = { x with rd := none, cmd := some ⟨d, [], .ready⟩, seg := some ⟨true, false, d.cid, 0⟩ } ∧
        (∀ k : Nat, k ≠ q → t.sq k = s.sq k) ∧ t.reg (.qeCount 2) = s.reg (.qeCount 2) + 1) ∧
      (d.op = 0 ∨ 0x1D ≤ d.op ∨ d.fieldsOk = false → room → ∃ t, exec (.readCompletion q bs true) s = .next t ∧
        t = { s with regs := t.regs, sqs := t.sqs, cqs := t.cqs, out := t.out } ∧
        t.sq q = { x with rd := none, cmd := none, seg := none, nextAt := none, head := x.nextHead, point := some (d.at_, d.cid) } ∧
        t.out = entry d.cid (if d.op = 0 ∨ 0x1D ≤ d.op then 1 else 2) (x.nextHead % 4096) 0 0 :: s.out ∧ written t ∧
        t.reg (.qeCount 1) = s.reg (.qeCount 1) + 1)) ∧
    (x.rd = some .ring → room →
      ∀ p ∈ [(Instr.readCompletion q [] false, none), (.readCompletion q (0 :: bs) false, some 12), (.completionTimeout q, some 14)],
        ∃ t, exec p.1 s = .next t ∧
        t = { s with free := t.free, pcie := t.pcie, regs := t.regs, sqs := t.sqs, cqs := t.cqs, srcs := t.srcs, out := t.out } ∧
        t.sq q = { x with rd := none, seg := none, run := false, stop := 2 } ∧ (∀ k : Nat, k ≠ q → t.sq k = s.sq k) ∧
        t.out = entry 0xFFFF 0xC (x.head % 4096) 0 0 :: s.out ∧ written t ∧ (t.src 449).pend = true ∧
        t.reg (.qeCount 3) = s.reg (.qeCount 3) + 1 ∧
        (p.2 = none → t.pcie = s.pcie) ∧ (∀ b : Nat, p.2 = some b → (t.src 453).pend = true ∧ bit t.pcie.aer b = true)) ∧
    (x.rd = some .args → x.cmd.isSome = true → bs.length = Nat.min s.readMax (s.argLen m.d - m.args.length) →
      (s.argLen m.d ≤ m.args.length + bs.length → exec (.readCompletion q bs true) s =
        .next (s.setSq q { x with rd := none, cmd := some { m with args := m.args ++ bs, st := .ready } })) ∧
      (m.args.length + bs.length < s.argLen m.d → s.qeHeld = false → ∃ t, exec (.readCompletion q bs true) s = .next t ∧
        t = { s.setSq q { x with rd := some .args, cmd := some { m with args := m.args ++ bs, st := .fetching } } with out := t.out } ∧
        t.out = .hostRead q (m.d.addr + m.args.length + bs.length)
          (Nat.min s.readMax (s.argLen m.d - (m.args.length + bs.length))) :: s.out)) ∧
    (x.rd = some .link → bs.length = 8 → ∃ t, exec (.readCompletion q bs true) s = .next t ∧ t = { s with free := t.free, sqs := t.sqs } ∧
      (t.sq q).rd = none ∧
      (leNat bs % 2 = 1 → t.sq q = { x with rd := none }) ∧
      (leNat bs % 2 = 0 → (t.sq q).nextAt = some (leNat bs / 32 * 32) ∧ (t.sq q).seg.isSome = true))

/-! ### Staging, paging, instances and the allocator -/

/-- STAGE_IN_COMPLETE: the registers at the first bundle of an instance that uses one cluster (R30), for every register the rule
lists; its frame map names the resident frame of each page of the plan, and the other clusters stay (R122). An INPUT page holds
its input's buffer with header word 0 replaced, and zeros behind the payload or without a buffer; OUTPUT and SCRATCH pages are
zero; a STATE page that was not valid holds the checkpoint copy, and words at and beyond STATE_WORDS are zero. Its inputs and
its state can be read. Where an input's bytes lie is log 31; a state page that needs no fetch before stage-in is log 32. -/
def Obligations.FirstBundle : Prop :=
  ∀ (c : Fin 32) (j : Job) (tr : List (Nat × Nat)) (s : State),
    let x := s.cluster c
    let r := s.recOf j.t
    let single := ∀ a : Nat, a < framesOf 1 → ∀ b : Nat, b < framesOf 1 →
      (x.frame 1 a).page = (x.frame 1 b).page → (x.frame 1 a).page = none ∨ a = b
    let input (i o : Nat) : W16 :=
      if o = 0 then j.hdr.getD i 0
      else match j.pins.getD i none with
        | some b => let n := 64 + leNat [Memory.read s.store (b + 2), Memory.read s.store (b + 3)]
          (if o + 1 < n then Memory.read s.store (b + o + 1) else 0) ++ (if o < n then Memory.read s.store (b + o) else 0)
        | none => 0
    s.jobOn c = some j → j.cl = c → j.checked = false → (s.cluster c).phase = .staging → s.pagesReady j = true →
    s.takeFrames [c.val] (s.recOf j.t).transients [] = some tr → s.inputFail j = none → s.stateFail j = none →
    ∃ t, exec (.stageInComplete c) s = .next t ∧ t = { s with clusters := t.clusters, mapClock := t.mapClock } ∧
      let y := t.cluster c
      (∀ n : Nat, n < 24 → y.dr n = 0) ∧ y.dr 25 = 0 ∧ y.dr 24 = BitVec.ofNat 16 j.t ∧
      (y.dr 27 ++ y.dr 26 : BitVec 32) = BitVec.ofNat 32 j.seq ∧
      (y.dr 31 ++ y.dr 30 ++ y.dr 29 ++ y.dr 28 : BitVec 64) = BitVec.ofNat 64 j.nominal ∧
      (∀ n : Nat, n < 8 → y.ac n = 0) ∧ (∀ n : Nat, n < 52 → n ≠ 47 → y.ctl n = 0 ∧ y.ctlUse n = 0) ∧ y.ctl 47 = 3 ∧
      y.loops = 0 ∧ y.depth = 0 ∧ y.pc = 0 ∧ y.cycle = 1 ∧ y.phase = .run ∧ y.pend = [] ∧ y.sig = BitVec.allOnes 64 ∧
      (∀ d : Nat, d ≠ c → t.cluster d = s.cluster d) ∧ t.jobs = s.jobs ∧
      (∀ e : Nat, e < 64 →
        let sp := e / 16
        let m := y.map sp (e % 16)
        let at_ (f : Nat) : W16 := BitVec.ofNat 16 (0x8000 + (if r.writable e then 0x4000 else 0) + f)
        let f := fld m 5 0
        let pg : PageId := .state j.t (r.index e)
        let stored (w : Nat) : W16 := let o := r.copyAt r.ckpt + 2048 * r.index e + 2 * w
          Memory.read s.store (o + 1) ++ Memory.read s.store o
        (r.kind e = 0 → m = 0) ∧
        (r.kind e = 1 → (s.resident c sp (.image j.host (j.img + 2048 * r.index e))).map at_ = some m) ∧
        (r.kind e = 5 → (s.resident c sp (.table r.tset j.gen (r.index e))).map at_ = some m) ∧
        (r.kind e = 2 → sp = 1 → r.index e < (r.stateWords + 1023) / 1024 → single → m = at_ f ∧ y.frame sp f = { y.frame sp f with page := some pg, ok := true } ∧
          ∀ w : Nat, w < 1024 → y.word sp (1024 * f + w) =
            if r.stateWords ≤ 1024 * r.index e + w then 0
            else if (s.resident c sp pg).isSome then x.word sp (1024 * f + w) else stored w) ∧
        (r.kind e ∈ [3, 4, 6] → (e, f) ∈ tr ∧ m = at_ f ∧ ∀ w : Nat, w < 1024 → y.word sp (1024 * f + w) =
          if r.kind e = 3 then input (r.index e / 8) (2048 * (r.index e % 8) + 2 * w) else 0))

/-- STAGE_IN of a cluster that serves one waiting instance alone (R118, R120, R127): it starts when its pages are resident;
otherwise PAGE_LATE is raised once. PAGE_FETCH marks the frame it takes; PAGE_FETCH_DONE fills it from the store, or reports a
host read that failed (R125, R126, R128); a STATE page whose checkpoint copy cannot be read waits for its stage-in (R157; log
120). A row for a cluster with nothing to do does nothing (log 3); which page is held is log 39. -/
def Obligations.StagingAndPaging : Prop :=
  ∀ (c : Fin 32) (j : Job) (a f : Nat) (g : Fetch) (s : State),
    let x := s.cluster c
    let put (n : Job) : State := { s with jobs := s.jobs.map (fun i => if i = j then n else i) }
    let one := s.servedBy c = [j] ∧ j.deferred = false ∧ j.checked = false ∧ j.cl = c
    (s.freeCluster c = false ∨ s.servedBy c = [] → exec (.stageIn c) s = .next s) ∧
    (s.freeCluster c = true → one →
      (s.pagesReady j = true → exec (.stageIn c) s = .next ((put { j with active := true }).setCluster c
        { x with phase := .staging, job := some ⟨j.t, j.seq, j.replay⟩ })) ∧
      (s.pagesReady j = false → j.late = true → exec (.stageIn c) s = .next s) ∧
      (s.pagesReady j = false → j.late = false → ∃ t, exec (.stageIn c) s = .next t ∧ t = { s with regs := t.regs, jobs := t.jobs, srcs := t.srcs } ∧
        t.jobs = (put { j with late := true }).jobs ∧
        (t.src 384).pend = true ∧ t.reg (.pagerCount 2) = s.reg (.pagerCount 2) + 1 ∧ t.clusters = s.clusters)) ∧
    (s.nextFetch c = none → exec (.pageFetch c) s = .next s) ∧
    (s.nextFetch c = some g → g.cs = [c.val] → x.fetch.isSome = true → exec (.pageFetch c) s = .next s) ∧
    (s.nextFetch c = some g → g.cs = [c.val] → x.fetch = none → s.holds c g.sp g.page = none → s.awaiting c g.page = none →
      (s.pickFrame [c.val] g.sp [] = some f → ∃ t, exec (.pageFetch c) s = .next t ∧ t = { s with clusters := t.clusters, regs := t.regs } ∧
        t.reg (.pagerCount 0) = s.reg (.pagerCount 0) + 1 ∧ (∀ d : Nat, d ≠ c → t.cluster d = s.cluster d) ∧
        t.cluster c = { x.setFrame g.sp f { x.frame g.sp f with page := some g.page, ok := false, stuck := false } with fetch := some g.page, again := false }) ∧
      (s.pickFrame [c.val] g.sp [] = none → g.job.isSome = true → g.job.all (fun i => !i.noFrame) = true → ∃ t, exec (.pageFetch c) s = .next t ∧ t = { s with regs := t.regs, jobs := t.jobs, srcs := t.srcs } ∧
        (t.src 385).pend = true ∧ t.reg (.pagerCount 3) = s.reg (.pagerCount 3) + 1 ∧ t.clusters = s.clusters)) ∧
    (x.fetch = none → ∀ b ∈ [true, false], exec (.pageFetchDone c b) s = .next s) ∧
    (x.fetch = some (.image false (0x100000000 + a)) → (s.cluster (mate c)).fetch = none → a % 2048 = 0 → a < 0x2000000 →
      s.storeOn a 2048 = true → s.storeBad = [] → s.awaiting c (.image false (0x100000000 + a)) = some (0, f) → x.badIn 0 f = 0 →
      ∃ t, exec (.pageFetchDone c true) s = .next t ∧ t = s.setCluster c (t.cluster c) ∧ (t.cluster c).fetch = none ∧
        ((t.cluster c).frame 0 f) = { x.frame 0 f with page := some (.image false (0x100000000 + a)), ok := true, stuck := false } ∧ (t.cluster c).again = false ∧
        (∀ w : Nat, w < 1024 → (t.cluster c).word 0 (1024 * f + w) =
          ((Memory.read s.store (a + 2 * w + 1) ++ Memory.read s.store (a + 2 * w) : BitVec 16) &&& 0x3FFF)) ∧
        (t.cluster c).x = x.x ∧ (t.cluster c).y = x.y ∧ (t.cluster c).c = x.c) ∧
    (x.fetch = some (.state a f) → (s.cluster (mate c)).fetch ≠ x.fetch → (s.pageFail (.state a f) true).isSome = true →
      exec (.pageFetchDone c true) s = .next (s.setCluster c { x with fetch := none, again := false })) ∧
    (x.fetch = some (.image true a) → bit (s.reg (.xlatLo (a / 2 ^ 30 % 64))) 0 = true → x.again = false →
      s.fetchedFor c (.image true a) = [] → (s.cluster (mate c)).fetch ≠ x.fetch → s.awaiting c (.image true a) = none →
      ∃ t, exec (.pageFetchDone c false) s = .next t ∧ t = { s with regs := t.regs, clusters := t.clusters, srcs := t.srcs } ∧
        (t.src 386).pend = true ∧
        t.reg (.pagerCount 4) = s.reg (.pagerCount 4) + 1 ∧ t.cluster c = { x with fetch := none, again := false } ∧
        (∀ d : Nat, d ≠ c → t.cluster d = s.cluster d))

/-- The course of an instance of a tasklet without inputs and outputs, which runs alone (R103 to R121, R140 to R142).
TIME_RELEASE queues it; a second one behind it is deferred. BE_DROP ends one that has not started. COMMIT writes its state to
the checkpoint copy that CKPT does not name, once its cluster has ended; publication flips CKPT, counts the commit, raises
source 4c, and the instance ends; after the deadline it also raises DEADLINE_MISS. A row for a tasklet or cluster to which
nothing is due does nothing (log 3); the order of a queue is log 44. The two clusters of a Checked pair are the next
statement's. A Checked pair that disagrees at commit (R138, R140): with different cycle counts DIVERGE, with different
signatures SIGNATURE (the final XOR of both signatures is latched); under Report only nothing is stored, nothing published, and
both clusters stop. -/
def Obligations.InstanceLife : Prop :=
  (∀ (tk : Fin 4096) (c : Fin 32) (n : Nat) (j : Job) (s : State),
     let r := s.recOf tk
     let q := s.recOf j.t
     let x := s.cluster c
     let quiet := s.jobs = [j] ∧ j.pins = [] ∧ j.newBufs = [] ∧ s.genNamed j.gen = none ∧ (s.task j.t).removing = [] ∧
       (∀ k : Nat, k < 64 → s.waits k 8 = false)
     let mine := s.jobs.filter (fun i => decide (i.t = tk.val))
     (s.timeCycle tk = none → exec (.timeRelease tk) s = .next s) ∧
     (s.timeRuns = true → s.timeCycle tk = some n → r.nIn = 0 → r.bestEffort = false → s.genNamed s.currentGen = none →
       (mine = [] → ∃ t, exec (.timeRelease tk) s = .next t ∧ t = { s with regs := t.regs, recs := t.recs, tasks := t.tasks, jobs := t.jobs } ∧
         t.jobs = s.jobs ++ [{
           t := tk, seq := (if (s.task tk).started then ((r 57) + 1).toNat else 0), cyc := n, nominal := s.t0Of (s.portA r.line) n,
           deadline := s.t0Of (s.portA r.line) n + r.deadline * 1000, pins := [], hdr := [], gen := s.currentGen, host := r.hostImg,
           img := r.imgAddr, cl := r.home, checked := r.checked, guaranteed := true, deferred := false, active := false, late := false,
           noFrame := false, replay := false, newBufs := [] }] ∧
         t.reg (.dspCount 6) = s.reg (.dspCount 6) + 1 ∧ (t.task tk).lastCyc = some n ∧ (t.task tk).started = true ∧
         t.recOf tk 60 = r 60 + 1 ∧ t.clusters = s.clusters ∧ t.srcs = s.srcs) ∧
       (mine.any (·.deferred) = true → ∃ t, exec (.timeRelease tk) s = .next t ∧ t = { s with regs := t.regs, tasks := t.tasks, srcs := t.srcs } ∧
         t.jobs = s.jobs ∧ (t.src 354).pend = true ∧
         t.reg (.dspCount 2) = s.reg (.dspCount 2) + 1 ∧ (t.task tk).lastCyc = some n) ∧
       (mine ≠ [] → mine.any (·.deferred) = false → ∃ t, exec (.timeRelease tk) s = .next t ∧ t = { s with regs := t.regs, recs := t.recs, tasks := t.tasks, jobs := t.jobs, srcs := t.srcs } ∧
         t.jobs.length = s.jobs.length + 1 ∧ (t.jobs.getLast?.map (fun i => (i.t, i.cyc, i.deferred))) = some (tk.val, n, true) ∧
         (t.src 353).pend = true ∧ t.reg (.dspCount 1) = s.reg (.dspCount 1) + 1)) ∧
     (s.jobs.all (fun i => decide (i.t ≠ tk) || i.guaranteed || i.active) = true → exec (.beDrop tk) s = .next s) ∧
     (quiet → j.t = tk → j.guaranteed = false → j.active = false → ∃ t, exec (.beDrop tk) s = .next t ∧ t = { s with regs := t.regs, jobs := t.jobs, srcs := t.srcs } ∧
       t.jobs = [] ∧
       (t.src 356).pend = true ∧ t.reg (.dspCount 4) = s.reg (.dspCount 4) + 1 ∧ t.clusters = s.clusters ∧ t.store = s.store) ∧
     (x.phase ≠ .ended → s.jobOn c = some j → j.checked = false → j.cl = c → exec (.commit c) s = .next s) ∧
     (quiet → s.jobOn c = some j → j.checked = false → j.cl = c → x.phase = .ended → q.nOut = 0 →
       (q.stateWords = 0 → exec (.commit c) s = .next (s.setCluster c { x with phase := .committing })) ∧
       (0 < q.stateWords → x.bad = [] →
         (let off := q.ckptAddr + (if q.ckpt then 0 else classSize q.ckptClass / 2)
          s.storeOn off (2 * (s.stateWordsAt j).length) = true →
          ∃ t, exec (.commit c) s = .next t ∧ t = { s with store := t.store, storeBad := t.storeBad, clusters := t.clusters } ∧
            (t.cluster c).phase = .committing ∧ t.jobs = s.jobs ∧ t.recs = s.recs ∧
           t.store = Memory.writeList s.store off ((s.stateWordsAt j).flatMap (fun p => leBytes 2 (x.word p.1 p.2).toNat))))) ∧
     (quiet → s.jobOn c = some j → j.checked = false → j.cl = c → x.phase = .committing → q.nOut = 0 → j.replay = false →
       ∃ t, exec (.commitPublication c) s = .next t ∧ t = { s with regs := t.regs, clusters := t.clusters, recs := t.recs, jobs := t.jobs, srcs := t.srcs } ∧
         t.jobs = [] ∧ (t.cluster c).phase = .idle ∧ (t.cluster c).job = none ∧
         bit (t.recOf j.t 56) 0 = !q.ckpt ∧ (t.recOf j.t).last = c ∧ t.recOf j.t 61 = q 61 + 1 ∧ (t.src (4 * c)).pend = true ∧
         t.reg (.dspCount 7) = s.reg (.dspCount 7) + 1 ∧ t.store = s.store ∧
         (j.deadline < s.clk.dt → (t.src 352).pend = true ∧ t.reg (.dspCount 0) = s.reg (.dspCount 0) + 1) ∧
         (s.clk.dt ≤ j.deadline → t.reg (.dspCount 0) = s.reg (.dspCount 0) ∧ t.recOf j.t 62 = q 62)) ∧
     (x.phase ≠ .committing → exec (.commitPublication c) s = .next s)) ∧
  (∀ (c : Fin 32) (j : Job) (s : State),
     let x := s.cluster c
     let y := s.cluster (c + 1)
     s.jobOn c = some j → s.jobs = [j] → j.checked = true → j.active = true → j.cl = c → c.val % 2 = 0 → x.phase = .ended → y.phase = .ended →
     s.policyOf j.t = 0 → j.pins = [] → j.newBufs = [] → s.genNamed j.gen = none → (s.task j.t).removing = [] →
     (∀ k : Nat, k < 64 → s.waits k 8 = false) → (x.cycle ≠ y.cycle ∨ x.sig ≠ y.sig) →
     ∃ t, exec (.commit c) s = .next t ∧ t = { s with regs := t.regs, clusters := t.clusters, jobs := t.jobs, srcs := t.srcs } ∧
       t.jobs = [] ∧ t.store = s.store ∧ t.recs = s.recs ∧
       (t.cluster c).phase = .idle ∧ (t.cluster (c + 1)).phase = .idle ∧
       t.reg .faultInfo0 = BitVec.ofNat 32 ((if x.cycle ≠ y.cycle then 9 else 8) * 2 ^ 24 + c * 2 ^ 16 + b2n j.replay * 2 ^ 15 + j.t) ∧
       (t.src (4 * c + 2)).pend = true ∧ (t.src (if x.cycle ≠ y.cycle then 436 else 435)).pend = true ∧
       bit (t.reg .faultStatus) 0 = true ∧
       (x.cycle = y.cycle → (t.reg (.sigReg 1) ++ t.reg (.sigReg 0) : BitVec 64) = ~~~x.sig ∧
         (t.reg (.sigReg 3) ++ t.reg (.sigReg 2) : BitVec 64) = ~~~y.sig))

/-- INIT of an allocator class (R130, R136) is ignored while a line runs or a buffer is allocated; its end builds the free list
in ascending order, or an empty one with INIT_ERR for a pool that leaves the store or meets another. The scrubber of a class
(R159, R160) checks the word it stands at: a store byte in error is reported; at the end of a lap the time is recorded, and a
lap over the threshold raises SCRUB_SLOW. READY after INIT_ERR is log 46; what a scrubber does at its turn is log 45; an end of
INIT that was not begun, and a scrubber that is off, do nothing (log 3). -/
def Obligations.AllocatorAndScrubbers : Prop :=
  ∀ (k i : Fin 4) (n : Fin 8) (s : State),
    let a := s.cls k
    let base := (s.reg (.allocBase k)).toNat
    let count := (s.reg (.allocCount k)).toNat
    let size := 256 * 4 ^ k.val
    let locked := s.anyRuns = true ∨ a.used ≠ []
    let z := s.scr n
    let on := bit (s.reg (.scrubCtl n)) 31 = true
    let lap : Int := (s.clk.dt : Int) - z.since
    (locked → exec (.allocInit k) s = .next s) ∧
    (¬ locked → ∃ t, exec (.allocInit k) s = .next t ∧ t = { s with regs := t.regs, alloc := t.alloc, srcs := t.srcs } ∧
      (t.cls k).freeL = [] ∧ (t.cls k).building = true ∧ (t.cls k).resv = a.resv ∧
      t.reg (.allocCtl k) = 0 ∧ (∀ i : Nat, i ≠ k → t.cls i = s.cls i) ∧ t.store = s.store) ∧
    (a.building = false → exec (.allocInitDone k) s = .next s) ∧
    (a.building = true → s.reg (.allocLow k) = 0 →
      (s.poolBad k = false → exec (.allocInitDone k) s = .next
        ((s.setCls k { a with freeL := (List.range count).map (fun i => base + i * size), building := false }).setReg (.allocCtl k) 2)) ∧
      (0x2000000 < base + count * size ∨ (i ≠ k ∧ 0 < count ∧ 0 < (s.reg (.allocCount i)).toNat ∧
          base < (s.reg (.allocBase i)).toNat + (s.reg (.allocCount i)).toNat * 256 * 4 ^ i.val ∧
          (s.reg (.allocBase i)).toNat < base + count * size) → exec (.allocInitDone k) s = .next
        ((s.setCls k { a with freeL := [], building := false }).setReg (.allocCtl k) 6))) ∧
    (¬ on → exec (.scrub n) s = .next s) ∧
    (bit (s.reg (.scrubCtl 4)) 31 = true → fld (s.reg (.scrubCtl 4)) 19 0 = 0 →
      (let y := s.scr 4
       let at_ (b : Nat) : Nat := y.pos / 128 * 32768 + b * 4096 + y.pos % 128 * 32
       y.pos + 1 < 131072 →
        ((∀ b : Nat, b < 8 → ∀ e ∈ s.storeBad, e < at_ b ∨ at_ b + 32 ≤ e) →
          exec (.scrub 4) s = .next (s.setScr 4 { y with pos := y.pos + 1 })) ∧
        ((∀ b : Nat, b < 8 → s.isOn (32 + b) = true) → (let e := s.storeBad.headD 0
          s.storeBad = [e] → (∃ b ∈ List.range 8, at_ b ≤ e ∧ e < at_ b + 32) →
          ∃ t, exec (.scrub 4) s = .next t ∧ t = { s with regs := t.regs, srcs := t.srcs, scrubs := t.scrubs } ∧
            (t.scr 4).pos = y.pos + 1 ∧ t.reg (.scrubFound 4) = s.reg (.scrubFound 4) + 1 ∧
            t.reg .storeErrAddr = BitVec.ofNat 32 e ∧ (t.src 438).pend = true ∧ bit (t.reg .faultStatus) 1 = true ∧ t.store = s.store)))) ∧
    (bit (s.reg (.scrubCtl 7)) 31 = true → fld (s.reg (.scrubCtl 7)) 19 0 = 0 →
      (let y := s.scr 7
       y.pos = 65535 → y.todo = [] → (s.core 64).progBad = [] → (s.core 64).dataBad = [] → (s.core 64).progLost = [] → (s.core 64).dataLost = [] →
       (let us := Nat.min 0xFFFFFFFF (((s.clk.dt : Int) - y.since).toNat / 1000)
        ∃ t, exec (.scrub 7) s = .next t ∧ t = { s with regs := t.regs, scrubs := t.scrubs } ∧
          t.reg (.scrubLast 7) = BitVec.ofNat 32 us ∧
          (t.reg (.scrubMax 7)).toNat = Nat.max us (s.reg (.scrubMax 7)).toNat ∧ t.scr 7 = { pos := 0, todo := [], since := s.clk.dt, slow := false }))) ∧
    (on → z.slow = false → 0 < fld (s.reg (.scrubCtl n)) 19 0 → (1000 * fld (s.reg (.scrubCtl n)) 19 0 : Int) < lap →
      ∃ t, exec (.scrub n) s = .next t ∧ t = { s with regs := t.regs, srcs := t.srcs, scrubs := t.scrubs } ∧
        (t.src 441).pend = true)

/-! ### Generations -/

/-- Building a generation (R180, R133, R188): OPEN takes the lowest FREE descriptor and the next number, is ignored while one is
BUILDING or VERIFYING, and reports NO_DESC; REQ takes the head of class 3 or is refused; ABANDON frees the descriptor and its
buffer; GO submits. MRD_CTL with ENABLE 0 restarts every window and keeps the averages. A row with no generation in the state it
acts on does nothing (log 3). The buffer given up is in no other generation. Verification and adoption of a generation (R129,
R181 to R186): ENTRIES of 0 is rejected with DIRECTORY; a generation that passes is READY with GEN_READY and its differences,
and auto-adoption takes it only within both limits; the adoption makes it CURRENT, the former one RETIRING or FREE, an earlier
READY one FREE, and a host adoption makes it the baseline. A row with no generation in its state does nothing (log 3); that the
pages it loads count as page fetches is log 106, a page of the CURRENT generation in error log 122. -/
def Obligations.Generations : Prop :=
  (∀ (i : Fin 8) (b k : Nat) (v : W32) (s : State),
     let g := s.gen i
     let a := s.cls 3
     let none_ (n : Nat) : Prop := ∀ d : Nat, d < 8 → (s.gen d).st ≠ n
     let first (n : Nat) : Prop := g.st = n ∧ ∀ d : Nat, d < i → (s.gen d).st ≠ n
     let status := s.reg .genStatus
     (¬ (none_ 1 ∧ none_ 2) → exec .genOpen s = .next s) ∧
     (none_ 1 → none_ 2 → first 0 → exec .genOpen s = .next
       { s.setGen i { Gen.reset with st := 1, num := s.genNum % 65535 + 1 } with genNum := s.genNum % 65535 + 1 }) ∧
     (none_ 0 → none_ 1 → none_ 2 → ∃ t, exec .genOpen s = .next t ∧ t = s.setReg .genStatus (t.reg .genStatus) ∧
       fld (t.reg .genStatus) 31 28 = 5 ∧ fld (t.reg .genStatus) 27 0 = fld status 27 0) ∧
     (none_ 1 → exec .genAbandon s = .next s ∧ exec .genReq s = .next s ∧ exec .genGo s = .next s) ∧
     (first 1 → g.bufs = [b] → g.dir = [] → b ∉ s.otherBufs i →
       ∃ t, exec .genAbandon s = .next t ∧ t = { s with regs := t.regs, clusters := t.clusters, alloc := t.alloc, gens := t.gens, srcs := t.srcs } ∧
         t.gen i = Gen.reset ∧ (∀ d : Nat, d ≠ i → t.gen d = s.gen d) ∧
         (t.cls 3).freeL = (if a.used.any (fun u => decide (u.1 = b)) then a.freeL ++ [b] else a.freeL) ∧
         (t.cls 3).used = a.used.filter (fun u => decide (u.1 ≠ b)) ∧ t.store = s.store) ∧
     (first 1 → a.resv = [] →
       (let e := a.freeL.headD 0
        a.freeL ≠ [] → ∃ t, exec .genReq s = .next t ∧ t = { s with regs := t.regs, alloc := t.alloc, gens := t.gens, srcs := t.srcs } ∧
          (t.cls 3).freeL = a.freeL.tail ∧
         (t.cls 3).used = a.used ++ [(e, Holder.gen g.num)] ∧ t.gen i = { g with bufs := g.bufs ++ [e] } ∧
         t.reg .genBuf = BitVec.ofNat 32 e ∧ (∀ d : Nat, d ≠ i → t.gen d = s.gen d)) ∧
       (a.freeL = [] → ∃ t, exec .genReq s = .next t ∧ t = { s with regs := t.regs, srcs := t.srcs } ∧
         bit (t.reg .genBuf) 30 = true ∧ t.alloc = s.alloc ∧ t.gens = s.gens ∧
         (t.src 359).pend = true ∧ t.reg (.allocMiss 3) = s.reg (.allocMiss 3) + 1)) ∧
     (first 1 → ∃ t, exec .genGo s = .next t ∧ t = { s with regs := t.regs, gens := t.gens, genOrder := t.genOrder } ∧
       t.gen i = { g with st := 2, order := s.genOrder + 1 } ∧
       t.genOrder = s.genOrder + 1 ∧ t.reg (.mrdCount 4) = s.reg (.mrdCount 4) + 1 ∧ fld (t.reg .genStatus) 15 0 = g.num % 65536 ∧
       fld (t.reg .genStatus) 25 24 = 1 ∧ fld (t.reg .genStatus) 31 28 = fld status 31 28 ∧ t.alloc = s.alloc) ∧
     (bit v 0 = true → exec (.mrdCtl v) s = .next (s.setReg .mrdCtl ((s.reg .mrdCtl &&& 0xFFFFFFF8) ||| (v &&& 7)))) ∧
     (bit v 0 = false → ∃ t, exec (.mrdCtl v) s = .next t ∧ t = { s with regs := t.regs, cal := t.cal } ∧
       fld (t.reg .mrdCtl) 2 0 = fld v 2 0 ∧
       (Tab.wf (fun _ => CalSlot.reset) s.cal = true → t.calSlot k = { s.calSlot k with
         n := 0, sd := 0, sx := 0, sxd := 0, sxx := 0, gaps := 0 }))) ∧
  (∀ (i c : Fin 8) (s : State),
     let g := s.gen i
     let none_ (n : Nat) : Prop := ∀ d : Nat, d < 8 → (s.gen d).st ≠ n
     let first (n : Nat) (e : Fin 8) : Prop := (s.gen e).st = n ∧ ∀ d : Nat, d < e → (s.gen d).st ≠ n
     let lim := s.reg .adoptLimit
     (none_ 2 → exec .genVerificationDone s = .next s) ∧
     (none_ 5 → exec .genLoaded s = .next s) ∧
     (first 2 i → fld (s.reg .genSubmit) 10 0 = 0 →
       ∃ t, exec .genVerificationDone s = .next t ∧ t = { s with free := t.free, regs := t.regs, clusters := t.clusters, alloc := t.alloc, gens := t.gens, srcs := t.srcs } ∧
         t.gen i = Gen.reset ∧ (t.src 406).pend = true ∧
         t.reg (.mrdCount 5) = s.reg (.mrdCount 5) + 1 ∧ t.reg .genStatus = BitVec.ofNat 32 (0x13000000 + g.num % 65536) ∧
         (∀ d : Nat, d ≠ i → t.gen d = s.gen d)) ∧
     (first 2 i → s.verifyReason i = 0 → ∃ t, exec .genVerificationDone s = .next t ∧ t = { s with free := t.free, regs := t.regs, clusters := t.clusters, alloc := t.alloc, gens := t.gens, srcs := t.srcs } ∧
       (t.src 405).pend = true ∧
       fld (t.reg .genStatus) 25 24 = 2 ∧ fld (t.reg .genStatus) 15 0 = g.num % 65536 ∧ (t.gen i).dir = s.readDir.map (·.1) ∧
       (t.gen i).num = g.num ∧ (t.gen i).order = g.order ∧ t.reg .genDiff = BitVec.ofNat 32 ((t.gen i).dBase * 65536 + (t.gen i).dStep) ∧
       (none_ 6 → s.baseDir = [] → t.reg .genDiff = 0) ∧
       (bit (s.reg .mrdCtl) 2 = false → (t.gen i).st = 3) ∧
       (bit (s.reg .mrdCtl) 2 = true →
         ((fld lim 15 0 < (t.gen i).dStep ∨ fld lim 31 16 < (t.gen i).dBase) → (t.gen i).st = 3 ∧ (t.src 409).pend = true ∧
           t.reg (.mrdCount 7) = s.reg (.mrdCount 7) + 1) ∧
         ((t.gen i).dStep ≤ fld lim 15 0 → (t.gen i).dBase ≤ fld lim 31 16 →
           ((¬ (none_ 4 ∧ none_ 5)) → (t.gen i).st = 3) ∧
           (none_ 4 → none_ 5 → (t.gen i).st = (if (List.range 8).any (fun d => decide ((s.gen d).st = 7)) then 4 else 5) ∧
             (t.gen i).byHost = false)))) ∧
     (first 5 i → s.loadList g.num = [] → (∀ d : Nat, d < 8 → (s.gen d).retry = false) →
       ∃ t, exec .genLoaded s = .next t ∧ t = { s with regs := t.regs, clusters := t.clusters, alloc := t.alloc, gens := t.gens, baseline := t.baseline, baseDir := t.baseDir, baseMem := t.baseMem, srcs := t.srcs } ∧
         (t.gen i).st = 6 ∧ (t.gen i).num = g.num ∧ (t.gen i).dir = g.dir ∧
         (t.src 387).pend = true ∧ (t.src 407).pend = true ∧ t.reg (.mrdCount 6) = s.reg (.mrdCount 6) + 1 ∧
         (first 6 c → (0 < (s.gen c).refs → (t.gen c).st = 7 ∧ (t.gen c).num = (s.gen c).num ∧ (t.gen c).refs = (s.gen c).refs) ∧
           ((s.gen c).refs = 0 → t.gen c = Gen.reset)) ∧
         ((s.gen c).st = 3 → (s.gen c).order < g.order → t.gen c = Gen.reset) ∧
         ((s.gen c).st = 3 → g.order ≤ (s.gen c).order → t.gen c = s.gen c) ∧
         t.baseline = (if g.byHost then g.num else s.baseline)))

/-! ### Field lines -/

/-- What a field line sends (R6 to R8, R197 to R201, R207 to R212). T_OF reads the slot of its one partner; T0 begins the next
cycle and sends the set, one OUT frame with SEG 0 and LAST 1, also without a record; LATE_SET sends a slot published after T0,
CONT_FRAME what a cut has left; a message without an ACK is sent again, and after three sends has failed. On a ring a returned
frame measures its delay, and the ring is CLOSED after two cycles in which both copies came back. While device time stands
(R338) none of the moments of a line is reached, and without a line Shingle no message is sent again (R217; log 126). A row for
what is not there does nothing (log 3); that a set's frames leave the device at its T0 is log 59, their length on the wire log
53, the FCS log 128, the octets of a MAC address log 16, STALE log 37, a frame that waits log 58, RETURN_LIMIT log 60. -/
def Obligations.FieldSends : Prop :=
  ∀ (l : Fin 16) (p : Fin 4096) (ch : Fin 64) (mseq : Byte) (b delay q : Nat) (f : TxFrame) (m : Msg) (s : State),
    let d := s.lane l
    let solo := s.portA l = l ∧ s.isRing l = false
    let entry (r : OutRec) : List Byte :=
      leBytes 2 ((if r.invalid then 0x2000 else 0) + (if r.stale then 0x1000 else 0) + r.slot % 4096) ++ leBytes 2 r.body.length ++ r.body
    let frame (type cyc : Nat) (rs : List OutRec) : List Byte :=
      let x := rs.flatMap entry
      let bs := List.replicate 6 0xFF ++ (leBytes 6 (s.laneMac l)).reverse ++ (leBytes 2 (s.etype l)).reverse ++
        leBytes 1 (0x10 + type) ++ leBytes 1 1 ++ leBytes 2 l ++ leBytes 4 cyc ++ leBytes 2 0 ++ leBytes 2 0 ++ leBytes 2 x.length ++ x
      withFcs (bs ++ List.replicate (60 - bs.length) 0)
    let z := 10 * s.clk.dt
    let slot := s.pSlot p
    let len := s.pOutLen p
    let n := match d.cyc with | none => 0 | some c => c + 1
    let records (r : OutRec) : Answer := .next (s.setLane l { d with
      latePub := [], ofDone := true, outSet := [r], staleNow := if r.stale then [slot] else []
      msgs := if s.lineServed l then d.msgs ++ d.posted else d.msgs, posted := if s.lineServed l then [] else d.posted })
    (s.timeRuns = false → exec (.tOf l) s = .next s ∧ exec (.t0 l) s = .next s ∧ exec (.applyTime l) s = .next s ∧
      exec (.returnLimit l) s = .next s) ∧
    (d.run = false ∨ d.ofDone = true ∨ d.stopping = true → exec (.tOf l) s = .next s) ∧
    (solo → s.timeRuns = true → d.run = true → d.ofDone = false → d.stopping = false → s.bySlot l = [p.val] → 0 < len → (s.partner p).st = 1 →
      ((s.outSlot (512 * l + slot)).buf = none → exec (.tOf l) s = records ⟨slot, true, true, List.replicate len 0⟩) ∧
      ((s.outSlot (512 * l + slot)).buf = some b → s.storeOn b len = true → s.storeBad = [] →
        exec (.tOf l) s = records ⟨slot, s.outStale l slot n, false, (List.range len).map (fun i => Memory.read s.store (b + i))⟩)) ∧
    (d.run = false → d.lastSet = false → exec (.t0 l) s = .next s) ∧
    (solo → s.timeRuns = true → d.run = true → d.lastSet = false → d.ofDone = true → d.msgs = [] → d.starter = none → (∀ k : Nat, k < 64 → s.waits k 8 = false) →
      s.laneTx l = true → (d.outSet = [] ∨ 4 + ((d.outSet.map (·.body)).flatten).length ≤ s.frameMax l - 34 ∧ d.outSet.length = 1) →
      ∃ t, exec (.t0 l) s = .next t ∧ t = { s with regs := t.regs, lanes := t.lanes, sqs := t.sqs, cqs := t.cqs, engine := t.engine, srcs := t.srcs, out := t.out } ∧
        (t.lane l).cyc = some n ∧ (t.lane l).ofDone = false ∧ (t.lane l).icDone = false ∧
        (t.lane l).applied = false ∧ (t.lane l).outSet = [] ∧ (t.lane l).arr = [] ∧ t.out = .frame l (10 * s.t0Of l n) (frame 1 n d.outSet) :: s.out ∧
        t.reg (.fldCount l 1) = s.reg (.fldCount l 1) + 1 ∧ (∀ k : Nat, k ≠ l → t.lane k = s.lane k) ∧
        (fld (s.reg .replayCtl) 19 16 = l → fld (t.reg .replayStatus) 2 0 = 0)) ∧
    (s.timeRuns = true → exec (.applyTime l) s = .next (if s.portA l = l ∧ d.run = true ∧ d.cyc.isSome = true ∧ d.ofDone = false then
      s.setLane l { d with applied := true } else s)) ∧
    (s.laneTx l = false ∨ (d.lateq = [] ∧ d.latePub = []) → exec (.lateSet l) s = .next s) ∧
    (solo → s.laneTx l = true → d.run = true → d.ofDone = false → d.cyc = some q → d.lateq = [] → d.latePub = [(slot, true)] → d.tx = [] →
      s.partnerAt l slot = some p.val → slot < 512 → len + 38 ≤ s.frameMax l → (s.outSlot (512 * l + slot)).buf = some b → s.storeOn b len = true →
      s.storeBad = [] → ∃ t, exec (.lateSet l) s = .next t ∧ t = { s with free := t.free, regs := t.regs, lanes := t.lanes, srcs := t.srcs, out := t.out } ∧
        t.out = .frame l z (frame 3 q [⟨slot, false, false, (List.range len).map (fun i => Memory.read s.store (b + i))⟩]) :: s.out ∧
        (t.lane l).latePub = [] ∧ (t.lane l).lateq = [] ∧ t.reg (.fldCount l 2) = s.reg (.fldCount l 2) + 1 ∧ t.store = s.store) ∧
    (d.cut = [] ∨ s.laneTx l = false → exec (.contFrame l) s = .next s) ∧
    (solo → s.laneTx l = true → d.lateq = [] → d.cut = [f] → ∃ t, exec (.contFrame l) s = .next t ∧ t = { s with regs := t.regs, lanes := t.lanes, out := t.out } ∧
      (t.lane l).cut = [] ∧
      t.out = .frame l (Nat.max z d.busyTo) (withFcs (s.frameBody l (d.cyc.getD 0) f)) :: s.out ∧ (t.lane l).tx.length = d.tx.length + 1) ∧
    (solo → (d.msgs = [] → exec (.messageRetry l p mseq) s = .next s) ∧
      (s.lineServed l = false → exec (.messageRetry l p mseq) s = .next s) ∧
      (s.lineServed l = true → d.msgs = [m] → m.p = p → m.mseq = mseq.toNat → m.due = false →
        (m.sends < 3 → exec (.messageRetry l p mseq) s = .next (s.setLane l { d with msgs := [{ m with due := true }] })) ∧
        (3 ≤ m.sends → m.by_ = .config → exec (.messageRetry l p mseq) s = .next (s.setLane l { d with msgs := [] })) ∧
        (3 ≤ m.sends → m.by_ = .dstop ch.val → s.stoppedD = [⟨p, ch, b, false, m.mseq⟩] → ∃ t, exec (.messageRetry l p mseq) s = .next t ∧ t = { s with regs := t.regs, stoppedD := t.stoppedD, lanes := t.lanes, srcs := t.srcs } ∧
          t.stoppedD = [⟨p, ch, b, true, m.mseq⟩] ∧ (t.lane l).msgs = [] ∧ (t.src 403).pend = true) ∧
        (3 ≤ m.sends → m.by_ = .host q → s.waits q 0x0D = true → ∃ t, exec (.messageRetry l p mseq) s = .next t ∧ t = { s with regs := t.regs, lanes := t.lanes, sqs := t.sqs, cqs := t.cqs, engine := t.engine, srcs := t.srcs, out := t.out } ∧
          (t.lane l).msgs = [] ∧
          (t.sq q).cmd = none))) ∧
    (s.stoppedD = [] ∨ s.stoppedD = [⟨p, ch, b, false, q⟩] → exec (.ditherStopRetry p ch) s = .next s) ∧
    (s.stoppedD = [⟨p, ch, b, true, q⟩] → ∃ t, exec (.ditherStopRetry p ch) s = .next t ∧ t = { s with stoppedD := t.stoppedD, lanes := t.lanes, partners := t.partners } ∧
      t.stoppedD = [⟨p, ch, b, false, (s.partner p).mseq⟩] ∧
      (let a := s.portA (s.pLine p)
       let new := (if s.lineServed a then (t.lane a).msgs else (t.lane a).posted).getLast?
       new = some ⟨p, s.pSlot p, 3, (s.partner p).mseq, leBytes 1 ch ++ [0] ++ leBytes 2 (s.cycOfPartner p + 4), 0, true, .dstop ch⟩)) ∧
    (s.isRing l = false → solo → exec (.returnedFrame l true delay) s = .next s ∧ exec (.returnLimit l) s = .next s) ∧
    (s.isRing l = true → s.portA l = l → s.laneRx l = true → l.val < 15 →
      (let v := Nat.min 0xFFFF delay
       ∃ t, exec (.returnedFrame l true delay) s = .next t ∧ t = { s with regs := t.regs, lanes := t.lanes } ∧
         t.reg (.fldCount l 14) = s.reg (.fldCount l 14) + 1 ∧
        fld (t.reg (.ringDelay l)) 31 16 = v ∧ fld (t.reg (.ringDelay l)) 15 0 = fld (s.reg (.ringDelay l)) 15 0 ∧
        t.lane (l + 1) = { s.lane (l + 1) with ret := true } ∧ t.lane l = d)) ∧
    (s.isRing l = true → s.timeRuns = true → l.val < 15 → d.run = true → d.cyc.isSome = true → d.stopped = false →
      (let both := d.ret && (s.lane (l + 1)).ret
       let run := if both then d.okRun + 1 else 0
       let closed := both && (d.closed || decide (2 ≤ run))
       ∃ t, exec (.returnLimit l) s = .next t ∧ t = { s with regs := t.regs, lanes := t.lanes, srcs := t.srcs } ∧
         t.lane l = { d with okRun := Nat.min 2 run, closed := closed } ∧
        (closed ≠ d.closed → (t.src (256 + 6 * l + 4)).pend = true) ∧ (closed = d.closed → t.srcs = s.srcs)))

/-- What a field line receives (R9 to R13, R115, R191 to R206, R213 to R219): the checks of a frame in their order, each with
its counter and its event; the placement of a payload behind its 64-byte header, or its comparison with the copy already taken;
T_IC with the misses; Sync, Announce, peer delays; the link and the module input. While no line Shingle runs the partners stay
as they are (R217; log 126). A row for what is not there does nothing (log 3); the checks of a header are log 107, a placement
is log 64, the status table log 55, the moments of an in-frame log 66, the peer delay and the interval of Announce log 129, Sync
log 61, a module's PCS log 63. -/
def Obligations.FieldReceives : Prop :=
  ∀ (l : Fin 16) (p : Fin 4096) (fr_ : List Byte) (e : Fin 2) (a b buf n delay turn : Nat) (g x y z w : Bool) (s : State),
    let d := s.lane l
    let solo := s.portA l = l ∧ s.isRing l = false
    let bump (r : Reg) (t : State) : Prop := t.reg r = s.reg r + 1 ∧ (∀ i : Fin 16, i ≠ l → t.lane i = s.lane i) ∧ t.store = s.store
    let pend (t : State) (i : Nat) : Prop := (t.src (256 + 6 * l + i)).pend = true
    let isField := frType fr_ = s.etype l ∧ frDest fr_ = s.laneMac l ∧ frType fr_ ≠ 0x88F7 ∧ 64 ≤ fr_.length ∧ fr_.length ≤ 9216
    let arrives := exec (.inFrameArrival l fr_ true a b) s
    let pay := (fr_.drop (frPay fr_)).take (s.pInLen p)
    let dt := s.clk.dt
    let dom := fld (s.lineRecW (s.portA l) 4) 23 16
    let changed (v : Nat) (t : State) : Prop :=
      (∀ o : Nat, d.pdelay = some o → (o + 20 < v ∨ v + 20 < o) → (t.src (256 + 6 * s.portA l + 3)).pend = true) ∧
      (∀ o : Nat, d.pdelay = some o → o ≤ v + 20 → v ≤ o + 20 → t.srcs = s.srcs) ∧ (d.pdelay = none → t.srcs = s.srcs)
    let ev (old t : State) : Prop := (old.linkUp l ≠ t.linkUp l → pend t 0) ∧ (old.linkUp l = t.linkUp l → t.srcs = s.srcs)
    (s.laneRx l = false → ∀ i ∈ [Instr.inFrameArrival l fr_ true a b, .ptpMessage l .announce, .ptpMessage l .delayReq,
      .ptpMessage l (.delayResp delay)], exec i s = .next s) ∧
    (s.laneRx l = true → ∃ t, exec (.inFrameArrival l fr_ false a b) s = .next t ∧ t = { s with regs := t.regs, srcs := t.srcs } ∧
      bump (.fldCount l 3) t ∧ pend t 1 ∧ t.lane l = d) ∧
    (s.laneRx l = true → 64 ≤ fr_.length → fr_.length ≤ 9216 →
      (frType fr_ = 0x88F7 → arrives = .next s) ∧
      (frType fr_ ≠ 0x88F7 → (frType fr_ ≠ s.etype l ∨ frDest fr_ ≠ s.laneMac l) → ∃ t, arrives = .next t ∧ bump (.fldCount l 15) t ∧
        t.srcs = s.srcs ∧ t.lane l = d)) ∧
    (s.laneRx l = true → isField → s.headerOk l fr_ = none → ∃ t, arrives = .next t ∧ bump (.fldCount l 4) t ∧ pend t 1 ∧ t.lane l = d) ∧
    (solo → s.laneRx l = true → isField → s.headerOk l fr_ = some p.val →
      (d.icDone = true → ∃ t, arrives = .next t ∧ bump (.fldCount l 5) t ∧ pend t 5 ∧ t.lane l = d) ∧
      (d.icDone = false → (p.val, 0) ∈ d.arr → ∃ t, arrives = .next t ∧ bump (.fldCount l 9) t ∧ t.srcs = s.srcs ∧ t.lane l = d) ∧
      (d.icDone = false → (p.val, 0) ∉ d.arr → ∃ t, arrives = .next t ∧ t.srcs = s.srcs ∧
        t.lane l = { d with accq := d.accq ++ [⟨p, 0, d.cyc.getD 0, fr_⟩], arr := d.arr ++ [(p.val, 0)] } ∧
        t.reg (.fldCount l 10) = s.reg (.fldCount l 10) + (if s.inWindow l p (d.cyc.getD 0) a b then 0 else 1))) ∧
    (solo → d.accq = [] → exec (.placement l) s = .next s) ∧
    (s.portA l = l → e = 0 ∨ s.isRing l = true → d.accq = [⟨p, e, n, fr_⟩] → d.placed.map (·.1) = [p.val] →
      exec (.placement l) s = .next
        (let c := Reg.fldCount (l + e) (if d.placed.map (·.2) = [pay] then 6 else 7)
         (s.setLane l { d with accq := [] }).setReg c (s.reg c + 1))) ∧
    (solo → d.accq = [⟨p, 0, n, fr_⟩] →
      (d.placed = [] → (s.partner p).st = 1 → frM fr_ = false → frRestarted fr_ = false → d.icDone = false → s.calSlotsOf p = [] →
        s.admitted = [] → s.inSlot (512 * l + s.pSlot p) = Slot.reset → fr_.length = frPay fr_ + s.pInLen p →
        (let k := classFor (64 + s.pInLen p)
         (s.cls k).freeL.head? = some buf → 0 < (s.cls k).resvOf (.inSlot (512 * l + s.pSlot p)) → s.storeOn buf (64 + s.pInLen p) = true →
         ∃ t, exec (.placement l) s = .next t ∧ t = { s with free := t.free, regs := t.regs, store := t.store, storeBad := t.storeBad, inSlots := t.inSlots, alloc := t.alloc, lanes := t.lanes, partners := t.partners, srcs := t.srcs } ∧
           t.inSlot (512 * l + s.pSlot p) = ⟨some buf, s.clk.dt, none⟩ ∧
          t.reg (.fldCount l 0) = s.reg (.fldCount l 0) + 1 ∧ (t.cls k).freeL = (s.cls k).freeL.tail ∧
          (∀ i : Nat, i < s.pInLen p → Memory.read t.store (buf + 64 + i) = pay.getD i 0) ∧
          (List.range 16).map (fun i => Memory.read t.store (buf + i)) =
            leBytes 2 0 ++ leBytes 2 (s.pInLen p) ++ leBytes 2 (s.pSlot p) ++ leBytes 2 p ++ leBytes 8 s.clk.dt ∧
          (t.partner p).hdr = (fr_.drop 30).take 10 ∧ (t.lane l).accq = [] ∧ (t.lane l).placed = [(p.val, pay)]))) ∧
    (solo → s.timeRuns = false ∨ d.run = false ∨ d.icDone = true ∨ d.ofDone = true ∨ d.cyc = none → exec (.tIc l) s = .next s) ∧
    (solo → s.timeRuns = true → d.run = true → d.icDone = false → d.ofDone = false → d.cyc = some n → s.bySlot l = [p.val] → s.admitted = [] → s.calSlotsOf p = [] →
      ((d.arr = [(p.val, 0)] ∨ d.arr = [(p.val, 1)]) → ∃ t, exec (.tIc l) s = .next t ∧ t = { s with free := t.free, regs := t.regs, lanes := t.lanes, partners := t.partners } ∧
        (t.lane l).icDone = true ∧
        t.partner p = (if s.lineServed l then { s.partner p with miss := 0 } else s.partner p) ∧ t.reg (.missLast l) = 0xFFF ∧ t.srcs = s.srcs ∧
        t.reg (.fldCount l 11) = s.reg (.fldCount l 11)) ∧
      (d.arr = [] → ∃ t, exec (.tIc l) s = .next t ∧ t = { s with free := t.free, regs := t.regs, lanes := t.lanes, partners := t.partners, srcs := t.srcs } ∧
        (t.lane l).icDone = true ∧ pend t 2 ∧
        t.partner p = (if s.lineServed l then { s.partner p with
          miss := (s.partner p).miss + 1
          st := if (s.partner p).st = 1 ∧ s.missLimit l ≤ (s.partner p).miss + 1 then 2 else (s.partner p).st } else s.partner p) ∧
        t.reg (.missLast l) = BitVec.ofNat 32 (65536 + s.pSlot p) ∧ t.reg (.fldCount l 11) = s.reg (.fldCount l 11) + 1)) ∧
    (s.laneTx l = false → exec (.announce l) s = .next s ∧ exec (.peerDelayGeneration l ⟨delay, turn⟩) s = .next s) ∧
    (s.laneTx l = true →
      (s.timeRuns = true → ∃ t, exec (.announce l) s = .next t ∧ t = { s with regs := t.regs, out := t.out } ∧
        t.out = .ptp l 2 dom 0 dt :: s.out ∧ t.reg (.fldCount l 1) = s.reg (.fldCount l 1) + 1) ∧
      (∃ t, exec (.ptpMessage l .delayReq) s = .next t ∧ t = { s with regs := t.regs, lanes := t.lanes, out := t.out } ∧
        t.out = .ptp l 5 dom 0x7F dt :: .ptp l 4 dom 0x7F dt :: s.out ∧
        t.lane l = { d with ptp := { d.ptp with reqRx := some dt, respTx := some dt } }) ∧
      (∃ t, exec (.peerDelayGeneration l ⟨delay, turn⟩) s = .next t ∧ t = { s with regs := t.regs, lanes := t.lanes, srcs := t.srcs, out := t.out } ∧
        t.out = .ptp l 3 dom 0x7F dt :: s.out ∧
        t.lane l = { d with pdelay := some ((delay - turn) / 2), ptp := { d.ptp with reqTx := none, respRx := some (dt + delay) } } ∧
        changed ((delay - turn) / 2) t)) ∧
    (s.laneRx l = true →
      (∃ t, exec (.ptpMessage l .announce) s = .next t ∧ t = { s with regs := t.regs, srcs := t.srcs } ∧
        bump (.fldCount l 15) t ∧ (t.src (256 + 6 * s.portA l + 3)).pend = true) ∧
      (d.ptp.reqTx = none → exec (.ptpMessage l (.delayResp turn)) s = .next s) ∧
      (d.ptp.reqTx = some n → ∃ t, exec (.ptpMessage l (.delayResp turn)) s = .next t ∧ t = { s with regs := t.regs, lanes := t.lanes, srcs := t.srcs } ∧
        t.lane l = { d with pdelay := some ((dt - n - turn) / 2), ptp := { d.ptp with reqTx := none, respRx := some dt } } ∧
        changed ((dt - n - turn) / 2) t)) ∧
    (solo → d.run = true → s.laneTx l = true → s.timeRuns = true →
      (fld (s.lineRecW l 4) 10 0 ≤ d.syncN → ∃ t, exec (.sync l) s = .next t ∧ t = { s with regs := t.regs, lanes := t.lanes, out := t.out } ∧
        t.out = .ptp l 1 dom 0x7F dt :: .ptp l 0 dom 0x7F dt :: s.out ∧
        t.lane l = { d with syncN := 0, ptp := { d.ptp with sync := some dt } } ∧ t.reg (.fldCount l 1) = s.reg (.fldCount l 1) + 2) ∧
      (d.syncN < fld (s.lineRecW l 4) 10 0 → exec (.sync l) s = .next s)) ∧
    (s.laneOn l = true → ∃ t, exec (.link l g x y ⟨z, w⟩ n) s = .next t ∧ t = { s with regs := t.regs, lanes := t.lanes, srcs := t.srcs } ∧
      t.lane l = { d with signal := g, blockLock := x, hiBer := y, localFault := z, remoteFault := w } ∧
      t.linkUp l = (x && !y && !z && !w) ∧ t.reg (.fldCount l 13) = s.reg (.fldCount l 13) + BitVec.ofNat 32 n ∧ ev s t) ∧
    (s.laneOn l = false → exec (.link l g x y ⟨z, w⟩ n) s = .next (s.setLane l { d with signal := g })) ∧
    exec (.modPresent l g) s = .next (if s.ballsOff then s else s.setLane l { d with gpio := g })

/-! ### Power, boot, resets and time -/

/-- The steps of a power domain (R307 to R309, R329), in a domain that no POWER_SET waits for. POWER_RAMP_DONE: a domain with
memories starts clearing and its flag is set, another is ON, and after the control domain the first four of the domains that
boot switches on go to RAMP (log 97). MEM_CLEAR_DONE: the domain is ON, its memories read 0 and its flag is clear. DRAIN_DONE:
OFF, the contents are lost; a cluster with work keeps draining. In any other state the command does nothing (log 3). -/
def Obligations.PowerSteps : Prop :=
  ∀ (d : Fin 50) (j a : Nat) (s : State),
    let x := s.dom d
    let memories : Bool := decide (d.val < 44) || decide (d.val = 48)
    let alone : Bool := x.cmds.isEmpty && s.tasks.all (fun e => !e.2.homeLost)
    let switched (t : State) (st : DomSt) : Prop := t.dom d = { x with st := st } ∧ (j ≠ d → t.dom j = s.dom j)
    let lost (t : State) : Prop :=
      (d.val < 32 → t.cluster d = { Cluster.reset with trapTarget := (s.cluster d).trapTarget, newStep := (s.cluster d).newStep } ∧
        (j ≠ d → t.cluster j = s.cluster j)) ∧
      (32 ≤ d.val → d.val < 40 → Memory.read t.store a = if a / 4096 % 8 + 32 = d.val then 0 else Memory.read s.store a)
    (x.st ≠ .ramp → exec (.powerRampDone d) s = .next s) ∧
    (x.st ≠ .drain → exec (.drainDone d) s = .next s) ∧
    (x.st ≠ .clear → (d.val < 40 ∨ 44 ≤ d.val) → d.val ≠ 48 → exec (.memClearDone d) s = .next s) ∧
    (x.st = .ramp → memories = true → ∃ t, exec (.powerRampDone d) s = .next t ∧ t = { s with doms := t.doms, regs := t.regs, misc := { s.misc with clearing := t.misc.clearing } } ∧
      switched t .clear ∧ t.clearing d = true ∧ (d.val < 32 → bit (t.reg .memClearCl) d = true)) ∧
    (x.st = .ramp → memories = false → alone = true → d.val ≠ 47 →
      exec (.powerRampDone d) s = .next (s.setDom d { x with st := .on })) ∧
    (x.st = .ramp → d.val = 47 → alone = true → ∃ t, exec (.powerRampDone d) s = .next t ∧
      t = { s with doms := t.doms, misc := { s.misc with toBoot := s.misc.toBoot.drop 4, bootAt := s.clk.dt + 10000 } } ∧
      (t.dom 47).st = (if (s.dom 47).st = .ramp then .on else (s.dom 47).st) ∧
      (j ≠ 47 → t.dom j = if j ∈ s.misc.toBoot.take 4 ∧ (s.dom j).st = .off then { s.dom j with st := .ramp } else s.dom j)) ∧
    (x.st = .clear → alone = true → d.val < 40 → s.heldBar = [] → s.misc.boot = .ridgeClear → ∃ t, exec (.memClearDone d) s = .next t ∧ t = { s with regs := t.regs, store := t.store, storeBad := t.storeBad, clusters := t.clusters, doms := t.doms, misc := { s.misc with clearing := t.misc.clearing } } ∧
      switched t .on ∧ lost t ∧ t.recs = s.recs ∧ t.cores = s.cores ∧
      (d.val < 32 → bit (t.reg .memClearCl) d = false) ∧
      (32 ≤ d.val → t.storeClearing = (s.storeClearing &&
        (List.range 8).any (fun b => decide (32 + b ≠ d.val) && decide ((s.dom (32 + b)).st = .clear))))) ∧
    (x.st = .drain → d.val < 32 → s.clusterBusy d = true → exec (.drainDone d) s = .next s) ∧
    (x.st = .drain → alone = true → (d.val < 32 → s.clusterBusy d = false) → ∃ t, exec (.drainDone d) s = .next t ∧ t = { s with regs := t.regs, store := t.store, storeBad := t.storeBad, clusters := t.clusters, cores := t.cores, ridge := t.ridge, doms := t.doms, misc := { s.misc with clearing := t.misc.clearing } } ∧
      switched t .off ∧ lost t ∧ t.recs = s.recs ∧ t.srcs = s.srcs ∧
      (d.val < 32 → t.clearing d = false))

/-- Boot and the soft resets (R323, R325 to R329, R331). BOOT_GO is ignored unless STATE is 0x02. KERNEL_LOADED in a QSPI mode:
a good image is in Ridge RAM from word 0x2000 and runs from ENTRY; a bad one leaves its code in LAST_ERR, and so does a bad
header in the store. SOFT_RST.RIDGE clears the Ridge and keeps the data path; SOFT_RST.SHINGLE holds a group's cores;
SOFT_RST.FIELD resets the lanes of a group without a running line, and keeps the messages of its line Shingles. A load that the
ROM does not wait for does nothing (log 3); what the vector read of a caller in a window does is the access's own. -/
def Obligations.BootSteps : Prop :=
  ∀ (g : Fin 4) (k : Fin 2) (i j : Nat) (h body : List Byte) (s : State),
    let flash := h ++ body
    let st := fld (s.reg .bootStatus) 7 0
    let n := leNat ((h.drop 16).take 4)
    let entry := leNat ((h.drop 10).take 2)
    let good := h.length = 32 ∧ bootHeaderOk false h = true ∧ leNat ((h.drop 12).take 4) = 32 ∧ body.length = 2 * n
    let flashBoot := s.misc.boot = .load ∧ (s.misc.mode = 1 ∨ s.misc.mode = 2) ∧ s.misc.fellBack = false
    let base := fld (s.reg .bootCtl) 24 12 * 4096
    let called := ∀ c : Nat, c < 64 → (s.core c).state = .calling →
      s.readable c ((s.core c).vb + 12).toNat ∧ s.readable c ((s.core c).vb + 13).toNat
    (s.hostHears = true → s.pcie.d3 = false → st ≠ 2 → exec .bootGo s = .next s) ∧
    (s.hostHears = true → s.pcie.d3 = false → st = 2 → ∃ t, exec .bootGo s = .next t ∧ t = { s with regs := t.regs } ∧
      t.reg .bootStatus = (s.reg .bootStatus &&& 0xFFFFFF00) ||| 3) ∧
    (s.misc.boot ≠ .load → exec (.kernelLoaded flash) s = .next s) ∧
    (flashBoot → good → kernelOk n (leNat ((h.drop 20).take 4)) body = true →
      ∃ t, exec (.kernelLoaded flash) s = .next t ∧ t = { s with regs := t.regs, cores := t.cores, misc := t.misc } ∧
        t.misc = { s.misc with boot := .done } ∧ t.store = s.store ∧
        fld (t.reg .bootStatus) 7 0 = 4 ∧ bit (t.reg .bootStatus) 17 = false ∧
        (t.core 64).pc = BitVec.ofNat 16 entry ∧ (t.core 64).data = (s.core 64).data ∧
        (i < n → Tab.get (fun _ => (0 : W12)) (t.core 64).prog (0x2000 + i) = BitVec.ofNat 12 (leNat ((body.drop (2 * i)).take 2)) ∧
          0x2000 + i ∉ (t.core 64).progBad ∧ 0x2000 + i ∉ (t.core 64).progLost) ∧
        (i < 0x2000 → Tab.get (fun _ => (0 : W12)) (t.core 64).prog i = Tab.get (fun _ => (0 : W12)) (s.core 64).prog i) ∧
        (j ≠ 64 → t.core j = s.core j)) ∧
    (flashBoot → (bootHeaderOk false h = false ∧ h.length = 32) ∨ (good ∧ kernelOk n (leNat ((h.drop 20).take 4)) body = false) →
      ∃ t, exec (.kernelLoaded flash) s = .next t ∧ t = { s with regs := t.regs, misc := t.misc } ∧
        fld (t.reg .bootStatus) 15 8 = (if bootHeaderOk false h then 9 else 8) ∧
        (s.misc.mode = 1 → t.misc = { s.misc with boot := .stop } ∧ fld (t.reg .bootStatus) 7 0 = if bootHeaderOk false h then 9 else 8) ∧
        (s.misc.mode = 2 → t.misc = { s.misc with fellBack := true } ∧ bit (t.reg .bootStatus) 16 = true ∧
          fld (t.reg .bootStatus) 7 0 = if s.storeClearing then 1 else 2)) ∧
    (s.misc.boot = .load → s.misc.mode = 0 ∨ s.misc.fellBack = true →
      (st ≠ 3 → exec (.kernelLoaded flash) s = .next s) ∧
      (st = 3 → s.storeOn base 32 = true → s.storeBad = [] →
        bootHeaderOk true ((List.range 32).map (fun b => Memory.read s.store (base + b))) = false →
        ∃ t, exec (.kernelLoaded flash) s = .next t ∧ t = { s with regs := t.regs } ∧
          fld (t.reg .bootStatus) 15 8 = 0x0A ∧ fld (t.reg .bootStatus) 7 0 = 2)) ∧
    (s.misc.mode = 3 → exec .softRstRidge s = .next s) ∧
    (s.misc.mode ≠ 3 → called → ∃ t, exec .softRstRidge s = .next t ∧ t = { s with free := t.free, regs := t.regs, cores := t.cores, ridge := t.ridge, srcs := t.srcs, running := t.running, misc := t.misc } ∧
      t.core 64 = Core.fresh true ∧ t.ridge.clearing = true ∧
      t.ridge.stopped = s.ridge.stopped ∧ t.ridge.logs = 0 ∧ t.ridge.kcq = [] ∧
      t.misc = { s.misc with boot := .ridgeClear, fellBack := false, clearing := t.misc.clearing } ∧
      fld (t.reg .bootStatus) 7 0 = 1 ∧ t.clearing 48 = true ∧ t.stack 0 = [] ∧
      (j < 64 → (s.core j).state ≠ .calling → t.core j = s.core j) ∧ t.jobs = s.jobs ∧ t.store = s.store ∧ t.lanes = s.lanes ∧
      ((s.src j).act = none → j < 128 ∨ 256 ≤ j → j ≠ 491 → t.src j = s.src j)) ∧
    (∃ t, exec (.softRstShingle g) s = .next t ∧ t = { s with regs := t.regs, cores := t.cores, ridge := t.ridge, srcs := t.srcs, running := t.running, misc := { s.misc with clearing := t.misc.clearing } } ∧
      (s.isOn (40 + g) = true → t.clearing (40 + g) = true) ∧
      (j / 16 = g.val → (t.core j).state = .held ∧ (t.core j).prog = [] ∧ (t.core j).data = [] ∧ j ∉ t.ridge.kcq ∧
        bit (t.reg (.shgRun (Fin.ofNat 2 (j / 32)))) (j % 32) = false ∧ bit (t.reg (.lockupSrc (Fin.ofNat 2 (j / 32)))) (j % 32) = false ∧ t.stack (j + 1) = []) ∧
      (j / 16 ≠ g.val → t.core j = s.core j) ∧ (i < 64 → t.reg (.shgNx (Fin.ofNat 64 i)) = s.reg (.shgNx (Fin.ofNat 64 i)))) ∧
    (s.groupRuns k = true → exec (.softRstField k) s = .next s) ∧
    (s.groupRuns k = false → ∃ t, exec (.softRstField k) s = .next t ∧ t = { s with regs := t.regs, lanes := t.lanes, srcs := t.srcs } ∧
      t.lineRec = s.lineRec ∧ t.partRec = s.partRec ∧
      (i < 8 → t.lane (8 * k + i) = { Lane.reset with
        hasRec := (s.lane (8 * k + i)).hasRec, gpio := (s.lane (8 * k + i)).gpio, signal := (s.lane (8 * k + i)).signal
        msgs := (s.lane (8 * k + i)).msgs, posted := (s.lane (8 * k + i)).posted }) ∧
      (j / 8 ≠ k.val → t.lane j = s.lane j))

/-- Function-level reset, PERST_N and PORST_N (R319, R323, R324): the data path stops, power, time, the calendar, the records of
lines and partners, the DMA and the matrix are kept; PERST_N also resets the PCIe block; PORST_N leaves the backup domain alone,
seeds DT and samples BOOT_MODE. The function's own configuration is log 13, what is kept logs 98, 99 and 133, READY log 134, a
reset while the balls are disconnected log 136. -/
def Obligations.Resets : Prop :=
  ∀ (j : Nat) (m : BitVec 2) (s : State),
    let hears := s.hostHears = true
    let seed := s.cald.sec * 10 ^ 9 + s.cald.sub * 10 ^ 9 / 32768
    let dataPathDown (t : State) : Prop :=
      (j < 4096 → (t.recOf j).admitted = false) ∧ t.jobs = [] ∧ t.alloc = [] ∧ t.sqs = [] ∧ t.cqs = [] ∧ t.gens = [] ∧ t.cal = [] ∧
        t.baseline = 0 ∧ (j < 8 → bit (t.reg (.allocCtl j)) 1 = false) ∧ t.reg (.qeCount 1) = 0 ∧ bit (t.reg .qeStatus) 0 = false ∧
        (s.pcie.d3 = true → (t.src 454).pend = true) ∧
        (j < 16 → (t.lane j).run = false ∧ (t.lane j).lastSet = ((s.lane j).run && decide (s.portA j = j))) ∧
        (∀ e ∈ t.clusters, e.2.phase = .idle)
    let kept (t : State) : Prop :=
      ((t.dom j).st = (s.dom j).st ∧ (t.dom j).step = (s.dom j).step) ∧ t.clk = s.clk ∧ t.cald = s.cald ∧ t.lineRec = s.lineRec ∧
        t.partRec = s.partRec ∧ t.dmas = s.dmas ∧ t.latches = s.latches ∧ t.misc = s.misc ∧ t.store = s.store ∧ t.ridge = s.ridge ∧
        t.reg .bootStatus = s.reg .bootStatus ∧ (t.partner j).st = (s.partner j).st
    (s.hostHears = false → exec .functionLevelReset s = .next s ∧ exec .perstN s = .next s) ∧
    (hears → ∃ t, exec .functionLevelReset s = .next t ∧ dataPathDown t ∧ kept t ∧ t.cores = s.cores ∧ t.pcie.up = s.pcie.up) ∧
    (hears → ∃ t, exec .perstN s = .next t ∧ dataPathDown t ∧ kept t ∧ t.pcie.up = false ∧ t.pcie.bme = false ∧ t.pcie.msix = false ∧
      t.pcie.pba = [] ∧ (s.pcie.up = true → (t.src 452).pend = true)) ∧
    (s.ballsOff = true → exec (.porstN m) s = .next s) ∧
    (s.ballsOff = false → ∃ t, exec (.porstN m) s = .next t ∧ t.store = [] ∧ t.clusters = [] ∧ t.recs = [] ∧ t.cores = [] ∧ t.srcs = [] ∧ t.doms = [] ∧
      t.dmas = [] ∧ t.jobs = [] ∧ t.sqs = [] ∧ t.cald = s.cald ∧ t.pending = s.pending ∧ t.out = s.out ∧
      t.clk.dt = seed % 2 ^ 64 ∧ t.clk.frac = 0 ∧ t.clk.rate = 0 ∧ t.clk.hi = BitVec.ofNat 32 (seed % 2 ^ 64 / 2 ^ 32) ∧ t.misc.mode = m.toNat ∧
      t.reg .bootStatus = (if m = 3 then 0x0F else 1) ∧
      t.reg .dtCtl = 0 ∧ (∀ r ∈ [Reg.calTrim, .calAlarmLo, .calStatus, .calScratch 3], t.reg r = s.reg r))

/-- Clock steps, temperature and test (R313 to R315, R338, R348): an idle cluster takes its new step; a reading is shown with
its peak, and each threshold is raised once until the reading has fallen 5 °C; THERMTRIP latches until VDD_AON goes; SYSCLK
stops and starts device time; a JTAG code without an instruction selects BYPASS, and one that disconnects the balls takes the
link down (log 136). A cluster without a new step keeps the one it has (log 3); the thresholds' arming is log 102, the loss of
VDD_AON log 135, CLOCK_SET log 92. -/
def Obligations.ClocksAndTemperature : Prop :=
  ∀ (c : Fin 32) (w : BitVec 12) (code : Byte) (st : Nat) (s : State),
    let temp : BitVec 12 := (s.reg .thermStatus).extractLsb' 0 12
    let peak : BitVec 12 := (s.reg .thermStatus).extractLsb' 16 12
    let warn : BitVec 12 := (s.reg .thermCtl).extractLsb' 0 12
    let crit : BitVec 12 := (s.reg .thermCtl).extractLsb' 16 12
    let x := s.cluster c
    let quiet : Bool := (List.range 64).all (fun q => (s.sq q).cmd.isNone)
    (x.newStep = none → exec (.clockChange c) s = .next s) ∧
    (x.phase ≠ .idle → exec (.clockChange c) s = .next s) ∧
    (x.newStep = some st → x.phase = .idle → s.jobs = [] → quiet = true →
      exec (.clockChange c) s = .next ((s.setCluster c { x with newStep := none }).setDom c { s.dom c with step := st })) ∧
    (s.isOn 48 = false → exec (.thermSample w) s = .next s) ∧
    (s.isOn 48 = true → ∃ t, exec (.thermSample w) s = .next t ∧ t = { s with regs := t.regs, misc := t.misc, srcs := t.srcs } ∧
      fld (t.reg .thermStatus) 11 0 = w.toNat ∧
      fld (t.reg .thermStatus) 27 16 = (if s.misc.hot = true ∧ w.toInt ≤ peak.toInt then peak else w).toNat ∧
      (s.misc.warnArmed = true → warn.toInt ≤ w.toInt → (t.src 464).pend = true ∧ t.misc.warnArmed = false) ∧
      (s.misc.critArmed = true → crit.toInt ≤ w.toInt → (t.src 465).pend = true ∧ t.misc.critArmed = false) ∧
      (w.toInt < warn.toInt ∨ s.misc.warnArmed = false → (t.src 464).pend = (s.src 464).pend) ∧
      (w.toInt + 20 ≤ warn.toInt → t.misc.warnArmed = true) ∧
      (w.toInt + 20 ≤ crit.toInt → t.misc.critArmed = true) ∧ temp.toNat = fld (s.reg .thermStatus) 11 0) ∧
    (∃ t, exec .thermtrip s = .next t ∧ t = { s with regs := t.regs, srcs := t.srcs, misc := t.misc } ∧
      t.misc = { s.misc with trip := true } ∧ (s.isOn 48 = true → (t.src 466).pend = true)) ∧
    exec .sysclkLoss s = .next { s with clk := { s.clk with sysclk := false } } ∧
    exec .sysclkReturn s = .next { s with clk := { s.clk with sysclk := true } } ∧
    (∃ t, exec .vddAonLoss s = .next t ∧ t.misc.trip = false ∧ t.misc.onVbat = true ∧ t.misc.boot = .stop ∧ (t.dom 46).st = .off ∧
      (t.dom 48).st = .off ∧ t.timeRuns = false ∧ t.cald = s.cald ∧ t.pending = s.pending ∧ t.out = s.out ∧ t.store = [] ∧ t.jobs = [] ∧
      t.lineRec = [] ∧ t.srcs = [] ∧ t.cores = [] ∧ (∀ r ∈ [Reg.calTrim, .calAlarmLo, .calStatus, .calScratch 3], t.reg r = s.reg r)) ∧
    (let m := { s.misc with jtag := if code ≤ 6 then code else 0xFF }
     (s.pcie.up = false ∨ code ∉ [0, 3, 4, 5, 6] → exec (.jtagInstruction code) s = .next { s with misc := m }) ∧
     (s.pcie.up = true → code ∈ [0, 3, 4, 5, 6] → ∃ t, exec (.jtagInstruction code) s = .next t ∧
       t = { s with misc := m, pcie := { s.pcie with up := false }, regs := t.regs, srcs := t.srcs } ∧ (t.src 452).pend = true ∧
       t.ballsOff = true ∧ t.hostHears = false))

/-- The calendar and device time (R316 to R322, R331): a tick with the trim, the end of the range, the alarm, a write of
CAL_SEC_HI, the snapshot of a read, the loss of backup power; the latch of DT_LO, the servo at an edge of PPS_IN, PPS_LOST and
PPS_OUT. While device time stands (R338) or the balls are disconnected (R348) the pins' rows do nothing, and neither does an
unarmed servo (log 3). -/
def Obligations.CalendarAndTime : Prop :=
  ∀ (v : W32) (b : Bool) (s : State),
    let c := s.cald
    let k := s.clk
    let trim : Int := max (-10000) (min 10000 ((s.reg .calTrim).extractLsb' 0 16).toInt)
    let plain := c.trimAcc + trim < 20000000 ∧ -20000000 < c.trimAcc + trim
    let armed := bit (s.reg .calStatus) 3
    let alarm := (s.reg .calAlarmLo).toNat + 2 ^ 32 * ((s.reg .calAlarmHi).toNat % 2)
    let alarmIf (t : State) (sec : Nat) : Prop :=
      (armed = true → sec = alarm → (t.src 480).pend = true ∧ bit (t.reg .calStatus) 2 = true) ∧
      (armed = false ∨ sec ≠ alarm → t.srcs = s.srcs ∧ t.regs = s.regs)
    let cap := k.dt
    let e : Int := if cap % 10 ^ 9 ≤ 5 * 10 ^ 8 then cap % 10 ^ 9 else (cap % 10 ^ 9 : Nat) - 10 ^ 9
    let accepted : Bool := match k.edge with
      | none => true
      | some p => decide (999000000 + p ≤ cap ∧ cap ≤ 1001000000 + p)
    let clamp (z : Int) : Int := max (-500000) (min 500000 z)
    let lim := (s.reg .dtCtl).toNat % 2 ^ 20
    (6311433600 ≤ c.sec → exec .calTick s = .next s) ∧
    (c.sec < 6311433600 → plain → c.sub + 1 < 32768 →
      exec .calTick s = .next { s with cald := { c with sub := c.sub + 1, trimAcc := c.trimAcc + trim } }) ∧
    (c.sec < 6311433600 → 20000000 ≤ c.trimAcc + trim → c.sub + 2 < 32768 →
      exec .calTick s = .next { s with cald := { c with sub := c.sub + 2, trimAcc := c.trimAcc + trim - 20000000 } }) ∧
    (c.sec < 6311433600 → c.trimAcc + trim ≤ -20000000 → c.sub < 32768 →
      exec .calTick s = .next { s with cald := { c with trimAcc := c.trimAcc + trim + 20000000 } }) ∧
    (c.sec < 6311433600 → plain → c.sub = 32767 → ∃ t, exec .calTick s = .next t ∧ t = { s with regs := t.regs, srcs := t.srcs, cald := t.cald } ∧
      t.cald = { c with sec := c.sec + 1, sub := 0, trimAcc := c.trimAcc + trim, range := decide (c.sec = 6311433599) } ∧
      t.clk = k ∧ alarmIf t (c.sec + 1)) ∧
    (∃ t, exec (.calSecHi v) s = .next t ∧ t = { s with regs := t.regs, srcs := t.srcs, cald := t.cald } ∧
      t.cald = { c with sec := c.lo.toNat + 2 ^ 32 * (v.toNat % 2), sub := 0, range := decide (6311433600 ≤ c.lo.toNat + 2 ^ 32 * (v.toNat % 2)) } ∧
      t.clk = k ∧ alarmIf t (c.lo.toNat + 2 ^ 32 * (v.toNat % 2))) ∧
    exec .calSecLo s = .next { s with
      cald := { c with snapSec := c.sec, snapSub := c.sub }, out := .readData (leBytes 4 (c.sec % 2 ^ 32)) :: s.out } ∧
    (∃ t, exec .backupLoss s = .next t ∧ t = { s with cald := State.reset.cald, regs := t.regs, misc := { s.misc with calLost := true } } ∧
      bit (t.reg .calStatus) 0 = true ∧ t.reg .calTrim = 0 ∧ t.reg (.calScratch 3) = 0 ∧ t.reg .dtCtl = s.reg .dtCtl) ∧
    exec .dtLo s = .next { s with
      clk := { k with hi := BitVec.ofNat 32 (k.dt / 2 ^ 32) }, out := .readData (leBytes 4 (k.dt % 2 ^ 32)) :: s.out } ∧
    (bit (s.reg .dtCtl) 31 = false → exec .ppsIn s = .next s ∧ exec .ppsLost s = .next s) ∧
    (bit (s.reg .dtCtl) 31 = true → s.ballsOff = false → s.isOn 48 = true →
      (accepted = false → ∃ t, exec .ppsIn s = .next t ∧ t = { s with regs := t.regs } ∧
        fld (t.reg .ppsStatus) 31 24 = min 255 (fld (s.reg .ppsStatus) 31 24 + 1) ∧ fld (t.reg .ppsStatus) 23 0 = fld (s.reg .ppsStatus) 23 0) ∧
      (accepted = true → ∃ t, exec .ppsIn s = .next t ∧ t = { s with regs := t.regs, srcs := t.srcs, clk := t.clk } ∧
        t.clk = { k with rate := if k.stepped then k.rate else clamp (k.rate - Int.tdiv e 8), slew := if k.stepped then 0 else clamp (-e), edge := some cap, stepped := false } ∧
        ((t.reg .ppsStatus).extractLsb' 0 24).toInt = max (-8388607) (min 8388607 e) ∧ (t.src 482).pend = true ∧
        (lim ≠ 0 → lim < e.natAbs → (t.src 484).pend = true) ∧
        (lim = 0 ∨ e.natAbs ≤ lim → (t.src 484).pend = (s.src 484).pend) ∧ t.cald = c)) ∧
    (s.timeRuns = false → exec .ppsLost s = .next s ∧ exec (.ppsOut b) s = .next s) ∧
    (s.ballsOff = true ∨ s.isOn 48 = false → exec .ppsIn s = .next s) ∧
    (bit (s.reg .dtCtl) 31 = true → s.timeRuns = true → ∃ t, exec .ppsLost s = .next t ∧ t = { s with regs := t.regs, srcs := t.srcs, clk := t.clk } ∧
      t.clk = { k with slew := 0, edge := none } ∧
      (t.src 483).pend = true) ∧
    (s.timeRuns = true → exec (.ppsOut b) s = .next { s with clk := { k with ppsOut := b && bit (s.reg .dtCtl) 30 } })

/-! ### Queue commands -/

/-- Commands that complete at once: NOP; the reads TASKLET_READ, PARTNER_READ, CAL_SLOT_READ, LOG_READ and STATS_READ, which
write their bytes to host memory at ADDR; REGION_SET and REG_WRITE, which write registers under the mask; STORE_WRITE and
STORE_READ with every bank in service; and the three modes of TIME_SET. The zeros behind the records of LOG_READ and the order
of STATS_READ are log 90, the place of the fault log is log 132, and the clock that TIME_SET leaves is log 91. -/
def Obligations.ImmediateCommands : Prop :=
  ∀ (q w : Fin 64) (s : State),
    let d := (s.sq q).desc
    let writes (bs : List Byte) : State := { s with out := .hostWrite d.addr bs :: s.out }
    let words (l : List W32) : List Byte := l.flatMap (fun v => leBytes 4 v.toNat)
    let p := s.partner (d.p0 % 4096)
    let k := s.calSlot d.p0
    let region := 4 * (d.p0 % 64) + d.p0 / 256 % 4
    let mask : W32 := BitVec.ofNat 32 d.p2 &&& Reg.rw (.shgNx w)
    let v : W32 := (s.reg (.shgNx w) &&& ~~~mask) ||| (BitVec.ofNat 32 d.p1 &&& mask)
    let allOn := ∀ g : Nat, g < 8 → s.isOn (32 + g) = true
    let laps (t : State) : Prop := ∀ k : Nat, k < 8 →
      t.scr k = { s.scr k with since := (s.scr k).since + ((t.clk.dt : Int) - s.clk.dt) }
    s.Lone q →
      (d.op = 0x01 → exec (.cmdNop q) s = .next (s.ended q 0 0 0)) ∧
      (d.op = 0x05 → exec (.taskletRead q) s = .next ((writes (words ((List.range 64).map (s.recOf d.p0)))).ended q 0 0 0)) ∧
      (d.op = 0x0C → p.hdr.length = 10 → p.caps.length = 10 →
        exec (.partnerRead q) s = .next ((writes ([BitVec.ofNat 8 p.st, 0] ++ p.hdr ++ p.caps ++ List.replicate 10 0)).ended q 0 0 0)) ∧
      (d.op = 0x10 → exec (.calSlotRead q) s = .next ((writes (words ((List.range 8).map (s.calRecW d.p0) ++
        [BitVec.ofNat 32 k.st, k.gAvg, k.oAvg, BitVec.ofNat 32 k.win, 0, 0, 0, 0]))).ended q 0 0 0)) ∧
      (d.op = 0x15 → (s.ridge.stopped = true → exec (.logRead q) s = .next (s.ended q 0xD 0 0)) ∧
        (s.ridge.stopped = false → s.ridge.clearing = false → s.misc.boot = .done →
          let n := Nat.min 256 s.ridge.logs
          let at_ (i : Nat) : Nat := logBase + 16 * ((s.ridge.logs - n + i) % 256)
          exec (.logRead q) s = .next ((writes ((List.range n).flatMap (fun i => (List.range 16).map (fun b =>
            Memory.read (s.core 64).data (at_ i + b))) ++ List.replicate (4096 - 16 * n) 0)).ended q 0 0 0))) ∧
      (d.op = 0x19 →
        (d.p0 = 5 → exec (.statsRead q) s = .next ((writes (words ((List.range 8).map (fun i => s.reg (.qeCount i))))).ended q 0 0 32)) ∧
        (d.p0 = 1 → ∃ t, exec (.statsRead q) s = .next t ∧ t = { s with sqs := t.sqs, cqs := t.cqs, regs := t.regs, out := t.out } ∧
          t.sqs = (s.ended q 0 0 160).sqs ∧ t.out.tail = .hostWrite d.addr (words ((List.range 8).map (fun i => s.reg (.replayCount i)) ++
            (List.range 32).map (fun i => s.reg (.clusterFaults i)))) :: s.out)) ∧
      (d.op = 0x14 → ∃ t, exec (.regionSet q) s = .next t ∧ t = { s with regs := t.regs, sqs := t.sqs, cqs := t.cqs, out := t.out } ∧
        t.Ends s q 0 0 0 ∧ t.cores = s.cores ∧
        t.reg (.shgRegion0 region) = BitVec.ofNat 32 d.p1 &&& Reg.rw (.shgRegion0 region) ∧
        t.reg (.shgRegion1 region) = BitVec.ofNat 32 d.p2 &&& Reg.rw (.shgRegion1 region) ∧ t.reg (.shgNx w) = s.reg (.shgNx w)) ∧
      (d.op = 0x1A → d.p0 = (Reg.shgNx w).off → ∃ t, exec (.regWrite q) s = .next t ∧ t = { s with regs := t.regs, sqs := t.sqs, cqs := t.cqs, out := t.out } ∧
        t.Ends s q 0 0 v.toNat ∧
        t.reg (.shgNx w) = v ∧ t.cores = s.cores ∧ t.srcs = s.srcs) ∧
      (d.op = 0x1B → (s.sq q).args.length = d.p1 → d.p0 + d.p1 ≤ 0x2000000 → allOn → ∃ t, exec (.storeWrite q) s = .next t ∧ t = { s with regs := t.regs, store := t.store, storeBad := t.storeBad, sqs := t.sqs, cqs := t.cqs, out := t.out } ∧
        t.Ends s q 0 0 0 ∧ t.store = Memory.writeList s.store d.p0 (s.sq q).args ∧ t.srcs = s.srcs ∧
        ∀ a ∈ t.storeBad, a ∈ s.storeBad ∧ (a < d.p0 ∨ d.p0 + d.p1 ≤ a)) ∧
      (d.op = 0x1C → d.p0 + d.p1 ≤ 0x2000000 → allOn →
        let bs := (List.range d.p1).map (fun i => Memory.read s.store (d.p0 + i))
        (s.storeBad = [] → exec (.storeRead q) s = .next ((writes bs).ended q 0 0 0)) ∧
        (s.storeBad = [d.p0] → 0 < d.p1 → ∃ t, exec (.storeRead q) s = .next t ∧ t = { s with regs := t.regs, sqs := t.sqs, cqs := t.cqs, srcs := t.srcs, out := t.out } ∧
          t.sqs = (s.ended q 0 0 1).sqs ∧
          t.out = ((writes bs).ended q 0 0 1).out ∧ t.store = s.store ∧ (t.src 438).pend = true)) ∧
      (d.op = 0x18 →
        (d.p0 = 0 → s.anyRuns = true → exec (.timeSetDt q) s = .next (s.ended q 3 0 0)) ∧
        (d.p0 = 1 → s.anyRuns = true → exec (.timeSetStep q) s = .next (s.ended q 3 0 0)) ∧
        (d.p0 = 0 → s.anyRuns = false → d.addr < 2 ^ 64 → ∃ t, exec (.timeSetDt q) s = .next t ∧ t = { s with regs := t.regs, sqs := t.sqs, cqs := t.cqs, srcs := t.srcs, clk := t.clk, scrubs := t.scrubs, out := t.out } ∧
          t.Ends s q 0 0 0 ∧ laps t ∧
          t.clk = { s.clk with dt := d.addr, frac := 0, stepped := true } ∧ (t.src 485).pend = true) ∧
        (d.p0 = 1 → s.anyRuns = false → ∃ t, exec (.timeSetStep q) s = .next t ∧ t = { s with regs := t.regs, sqs := t.sqs, cqs := t.cqs, srcs := t.srcs, clk := t.clk, scrubs := t.scrubs, out := t.out } ∧
          t.Ends s q 0 0 0 ∧ laps t ∧
          t.clk = { s.clk with dt := (s.clk.dt + d.addr) % 2 ^ 64, stepped := true } ∧ (t.src 485).pend = true) ∧
        (d.p0 = 2 → exec (.timeSetRate q) s =
          .next (({ s with clk := { s.clk with rate := (BitVec.ofNat 32 d.p1).toInt } }).ended q 0 0 0)))

/-- The schedule and the field ports (R8, R194, R195, R201, R276, R350). SCHED_START of one line runs it from acceptance and
completes later; SCHED_STOP of a line with no cycle and no instance waits for the next T0; SLOT_LOAD takes a buffer for the slot
of a partner; the records of a line without partners and of a partner are stored; FIELD_MSG_POST queues the message behind the
line's others, or where its line Shingles wait behind them (log 126), and MSG_FREE gives a buffer back. When SCHED_START and
SCHED_STOP complete is log 42, the checks of records log 65, the bytes of SLOT_LOAD log 87, the units' order log 81. -/
def Obligations.FieldCommands : Prop :=
  ∀ (q : Fin 64) (l : Fin 16) (s : State),
    let d := (s.sq q).desc
    let args := (s.sq q).args
    let word (i : Nat) : W32 := BitVec.ofNat 32 (leNat ((args.drop (4 * i)).take 4))
    let n := s.lane l
    let alone := s.portA l = l.val ∧ s.isRing l = false
    let here : Bool := decide (d.p0 = 2 ^ l.val)
    let slot := 512 * l.val + d.p0 / 65536 % 512
    let p := d.p0 % 4096
    let k := classFor args.length
    s.Lone q →
      (d.op = 0x07 → here = true → alone →
        (d.addr < s.clk.dt + 100000 → exec (.schedStart q) s = .next (s.ended q 2 0 0)) ∧
        (s.clk.dt + 100000 ≤ d.addr → (n.run = true ∨ n.hasRec = false) → exec (.schedStart q) s = .next (s.ended q 3 0 0)) ∧
        (s.clk.dt + 100000 ≤ d.addr → n.run = false → n.hasRec = true → ∃ t, exec (.schedStart q) s = .next t ∧ t = { s with tasks := t.tasks, outSlots := t.outSlots, lanes := t.lanes, sqs := t.sqs } ∧
          (t.lane l).run = true ∧ (t.lane l).dt0 = d.addr ∧ (t.lane l).cyc = none ∧ (t.lane l).starter = some q.val ∧
          t.sqs = (s.waiting q).sqs ∧ t.out = s.out ∧ t.regs = s.regs)) ∧
      (d.op = 0x08 → here = true → alone → (n.run = false → exec (.schedStop q) s = .next (s.ended q 3 0 0)) ∧
        (n.run = true → n.cyc = none → n.stopped = false → (∀ i : Nat, i < 64 → s.waits i 8 = false) → ∃ t,
          exec (.schedStop q) s = .next t ∧ t = (s.waiting q).setLane l (t.lane l) ∧ (t.lane l).stopping = true ∧ (t.lane l).run = true ∧
          q.val ∈ (t.lane l).stoppers)) ∧
      (d.op = 0x09 → d.p0 % 16 = l → alone →
        (n.run = true → exec (.slotLoad q) s = .next (s.ended q 3 0 0)) ∧
        (n.run = false → 0 < s.loadLen d → args.length = s.loadLen d → args.length ≤ 4096 → s.storeBad = [] →
          (∀ g : Nat, g < 8 → s.isOn (32 + g) = true) → (s.cls k).resv = [] → (s.outSlot slot).buf = none →
          ((s.cls k).freeL = [] → ∃ t, exec (.slotLoad q) s = .next t ∧ t = { s with regs := t.regs, sqs := t.sqs, cqs := t.cqs, srcs := t.srcs, out := t.out } ∧
            t.Ends s q 4 0 0 ∧ t.outSlots = s.outSlots ∧ t.alloc = s.alloc ∧
            (t.src 359).pend = true) ∧
          (let b := (s.cls k).freeL.headD 0
           s.cls k = { s.cls k with freeL := b :: (s.cls k).freeL.tail } → b + args.length ≤ 0x2000000 →
           ∃ t, exec (.slotLoad q) s = .next t ∧ t = { s with regs := t.regs, store := t.store, storeBad := t.storeBad, outSlots := t.outSlots, alloc := t.alloc, sqs := t.sqs, cqs := t.cqs, srcs := t.srcs, out := t.out } ∧
             t.Ends s q 0 0 0 ∧ t.outSlot slot = ⟨some b, s.clk.dt, none⟩ ∧
             t.store = Memory.writeList s.store b args ∧ (t.cls k).freeL = (s.cls k).freeL.tail ∧
             (t.cls k).used = (s.cls k).used ++ [(b, .outSlot slot)]))) ∧
      (d.op = 0x0A → d.p0 = l → args.length = 32 → alone → (n.run = true → exec (.fieldLineSet q) s = .next (s.ended q 3 0 0)) ∧
        (n.run = false → (word 0).toNat % 2 ^ 14 < 25 → exec (.fieldLineSet q) s = .next (s.ended q 2 0 0)) ∧
        (n.run = false → s.partnersOf l = [] → bit (word 0) 16 = false → lineOk l word = true → ∃ t, exec (.fieldLineSet q) s = .next t ∧ t = { s with regs := t.regs, lineRec := t.lineRec, lanes := t.lanes, sqs := t.sqs, cqs := t.cqs, out := t.out } ∧
          t.Ends s q 0 0 0 ∧ t.lane l = { n with hasRec := true } ∧ (∀ i : Nat, i < 8 → t.lineRecW l i = word i) ∧
          t.partRec = s.partRec)) ∧
      (d.op = 0x0B → d.p0 < 4096 → args.length = 32 → s.pValid d.p0 = false →
        (partReserved word = false → exec (.fieldPartnerSet q) s = .next (s.ended q 2 0 0)) ∧
        (partReserved word = true → bit (word 0) 31 = false → ∃ t, exec (.fieldPartnerSet q) s = .next t ∧ t = { s with regs := t.regs, partRec := t.partRec, partners := t.partners, sqs := t.sqs, cqs := t.cqs, out := t.out } ∧
          t.Ends s q 0 0 0 ∧
          (∀ i : Nat, i < 8 → t.partRecW d.p0 i = word i) ∧ (t.partner d.p0).st = 0 ∧ t.lineRec = s.lineRec) ∧
        (partReserved word = true → bit (word 0) 31 = true → (word 0).toNat / 65536 % 16 = l → alone → n.run = false → n.hasRec = false →
          s.partnersOf l = [] → partSelfOk word = true → ∃ t, exec (.fieldPartnerSet q) s = .next t ∧ t = { s with regs := t.regs, partRec := t.partRec, partners := t.partners, sqs := t.sqs, cqs := t.cqs, out := t.out } ∧
            t.Ends s q 0 0 0 ∧
          (∀ i : Nat, i < 8 → t.partRecW d.p0 i = word i) ∧ (t.partner d.p0).st = 0)) ∧
      (d.op = 0x0D → args.length = d.p1 → (s.pValid p = false → exec (.fieldMsgPost q) s = .next (s.ended q 3 0 0)) ∧
        (s.pValid p = true → s.pLine p = l → alone → n.run = true → ∃ t, exec (.fieldMsgPost q) s = .next t ∧ t = { s with lanes := t.lanes, partners := t.partners, sqs := t.sqs } ∧
          t.sqs = (s.waiting q).sqs ∧ t.out = s.out ∧
          (let m : Msg := ⟨p, if d.p0 / 65536 % 256 = 1 then 0xFFF else s.pSlot p, d.p0 / 65536 % 256, (s.partner p).mseq, args, 0, true, .host q⟩
           t.lane l = if s.lineServed l then { n with msgs := n.msgs ++ n.posted ++ [m], posted := [] }
             else { n with posted := n.posted ++ [m] }) ∧
          (t.partner p).mseq = ((s.partner p).mseq + 1) % 256)) ∧
      (d.op = 0x0E → ((d.p0, Holder.msg) ∉ (s.cls 1).used → exec (.msgFree q) s = .next (s.ended q 2 0 0)) ∧
        ((d.p0, Holder.msg) ∈ (s.cls 1).used → ∃ t, exec (.msgFree q) s = .next t ∧ t = { s with regs := t.regs, alloc := t.alloc, sqs := t.sqs, cqs := t.cqs, srcs := t.srcs, out := t.out } ∧
          t.Ends s q 0 0 0 ∧
          (t.cls 1).freeL = (s.cls 1).freeL ++ [d.p0] ∧ (∀ u ∈ (t.cls 1).used, u.1 ≠ d.p0) ∧ t.store = s.store))

/-- Tasklets, pages, correlator slots, generations and firmware (R100, R107, R117, R134, R166, R174, R183, R257, R276): the
checks that come before any host read, the statuses of each command, and its effect where it succeeds. A guaranteed tasklet is
defined with its pages resident on its home: at once where they are, and with one page loaded into frame 0 where every frame is
free; a rebinding of a pinned home whose new pages are resident takes the new image. The order of TASKLET_DEFINE's checks is log
83, the checks of a rebinding are log 84, removal is log 85, PAGE_PIN log 86, the correlator checks log 88, the parameter block
of SHINGLE_LOAD log 89. -/
def Obligations.TaskletCommands : Prop :=
  ∀ (q : Fin 64) (ok : Bool) (c e : Nat) (s : State),
    let d := (s.sq q).desc
    let args := (s.sq q).args
    let word (i : Nat) : W32 := BitVec.ofNat 32 (leNat ((args.drop (4 * i)).take 4))
    let r := s.recOf d.p0
    let h := d.p0 % 32
    let page : PageId := .image (decide (0x8000000000 ≤ d.addr)) d.addr
    let i := (s.readyGen d.p0).getD 0
    let ridge := s.ridge.stopped = false ∧ s.ridge.clearing = false ∧ s.misc.boot = .done
    let n : Rec := defineRec args
    let here (n : Rec) (cs : List Nat) (but : Nat → Bool) : Prop := ∀ k : Nat, k < 64 → but k = false →
      (n.kind k = 1 → s.residentOn cs (k / 16) (.image n.hostImg (n.imgAddr + 2048 * n.index k)) = true) ∧
      (n.kind k = 2 → s.residentOn cs (k / 16) (.state d.p0 (n.index k)) = true) ∧
      (n.kind k = 5 → s.residentOn cs (k / 16) (.table n.tset s.currentGen (n.index k)) = true)
    s.Lone q →
      (d.op = 0x02 → (r.admitted = true → exec (.taskletDefine q ok) s = .next (s.ended q 3 0 0)) ∧
        (r.admitted = false → args = [] → ∃ t, exec (.taskletDefine q ok) s = .next t ∧ t = { s with sqs := t.sqs, out := t.out } ∧
          t.out = .hostRead q d.addr 256 :: s.out ∧
          t.regs = s.regs ∧ t.recs = s.recs ∧ (t.sq q).rd = some .args) ∧
        (r.admitted = false → args.length = 256 → s.admission d.p0 (defineRec args) = .inr c → c < 256 →
          exec (.taskletDefine q ok) s = .next (s.ended q 5 c 0)) ∧
        (r.admitted = false → args.length = 256 → s.admission d.p0 (defineRec args) = .inl c → c < 32 → bit (word 0) 28 = true →
          ∃ t, exec (.taskletDefine q ok) s = .next t ∧ t = { s with regs := t.regs, store := t.store, storeBad := t.storeBad, recs := t.recs, tasks := t.tasks, alloc := t.alloc, sqs := t.sqs, cqs := t.cqs, srcs := t.srcs, out := t.out } ∧
            t.Ends s q 0 0 c ∧
          (∀ w : Nat, w < 56 → t.recOf d.p0 w = word w) ∧ (t.recOf d.p0).admitted = true ∧ (t.recOf d.p0).home = c ∧
          (t.recOf d.p0).ckpt = false ∧ t.task d.p0 = { Task.reset with since := s.clk.dt }) ∧
        (r.admitted = false → args.length = 256 → s.admission d.p0 n = .inl c → bit (word 0) 28 = false →
          here n (n.homesAt c) (fun _ => false) → ∃ t, exec (.taskletDefine q ok) s = .next t ∧ t = { s with regs := t.regs, store := t.store, storeBad := t.storeBad, recs := t.recs, tasks := t.tasks, alloc := t.alloc, sqs := t.sqs, cqs := t.cqs, srcs := t.srcs, out := t.out } ∧
            t.Ends s q 0 0 c ∧ (∀ w : Nat, w < 56 → t.recOf d.p0 w = word w) ∧ (t.recOf d.p0).admitted = true ∧
            (t.recOf d.p0).home = c ∧ t.task d.p0 = { Task.reset with since := s.clk.dt }) ∧
        (r.admitted = false → args.length = 256 → s.admission d.p0 n = .inl c → bit (word 0) 28 = false → n.checked = false →
          s.storeBad = [] → (∀ g : Nat, g < 8 → s.isOn (32 + g) = true) → (s.cluster c).phase = .idle →
          (∀ f : Nat, f < 64 → ((s.cluster c).frame (e / 16) f).page = none) → e < 64 → n.kind e = 1 → n.hostImg = false →
          0x100000000 ≤ n.imgAddr → here n [c] (fun k => k = e) →
          ∃ t, exec (.taskletDefine q ok) s = .next t ∧ t.Ends s q 0 0 c ∧ (∀ w : Nat, w < 56 → t.recOf d.p0 w = word w) ∧
            (t.recOf d.p0).admitted = true ∧ (t.recOf d.p0).home = c ∧
            t.resident c (e / 16) (.image false (n.imgAddr + 2048 * n.index e)) = some 0)) ∧
      (d.op = 0x03 → (r.admitted = false → exec (.taskletRebind q ok) s = .next (s.ended q 3 0 0)) ∧
        (r.admitted = true → args.length = 256 → word 1 ≠ r 1 → exec (.taskletRebind q ok) s = .next (s.ended q 2 0 0)) ∧
        (r.admitted = true → args.length = 256 → r.sameButImage word = true → Rec.imageInRange word = true → s.imageOk word = true →
          (s.task d.p0).homeLost = true → ∃ t, exec (.taskletRebind q ok) s = .next t ∧ t = { s with regs := t.regs, recs := t.recs, sqs := t.sqs, cqs := t.cqs, out := t.out } ∧
            t.Ends s q 0 0 0 ∧
          (∀ w : Nat, w < 56 → t.recOf d.p0 w = word w) ∧ (t.recOf d.p0).home = r.home ∧ t.tasks = s.tasks ∧ t.clusters = s.clusters) ∧
        (r.admitted = true → args.length = 256 → r.sameButImage word = true → Rec.imageInRange word = true → s.imageOk word = false →
          exec (.taskletRebind q ok) s = .next (s.ended q 5 3 0)) ∧
        (r.admitted = true → args.length = 256 → r.sameButImage word = true → Rec.imageInRange word = true → s.imageOk word = true →
          r.bestEffort = false → (s.task d.p0).homeLost = false → r.homes.all (fun c => framesOk (s.homedWith c d.p0 word)) = false →
          exec (.taskletRebind q ok) s = .next (s.ended q 5 7 0)) ∧
        (r.admitted = true → args.length = 256 → r.sameButImage word = true → Rec.imageInRange word = true → s.imageOk word = true →
          r.bestEffort = false → (s.task d.p0).homeLost = false → r.homes.all (fun c => framesOk (s.homedWith c d.p0 word)) = true →
          here word r.homes (fun _ => false) → ∃ t, exec (.taskletRebind q ok) s = .next t ∧ t = { s with regs := t.regs, recs := t.recs, sqs := t.sqs, cqs := t.cqs, out := t.out } ∧
            t.Ends s q 0 0 0 ∧ (∀ w : Nat, w < 56 → t.recOf d.p0 w = word w) ∧ (t.recOf d.p0).home = r.home)) ∧
      (d.op = 0x04 → (r.admitted = false → exec (.taskletRemove q) s = .next (s.ended q 3 0 0)) ∧
        (r.admitted = true → (s.task d.p0).removing = [] → s.jobs = [] → s.tasks.all (fun e => !e.2.homeLost) = true →
          ∃ t, exec (.taskletRemove q) s = .next t ∧ t = { s with regs := t.regs, clusters := t.clusters, recs := t.recs, tasks := t.tasks, alloc := t.alloc, sqs := t.sqs, cqs := t.cqs, srcs := t.srcs, out := t.out } ∧
            t.Ends s q 0 0 0 ∧
          (t.recOf d.p0).admitted = false ∧ t.task d.p0 = Task.reset ∧ t.store = s.store) ∧
        (r.admitted = true → s.jobs.any (fun j => decide (j.t = d.p0) && j.active) = true →
          s.jobs.all (fun j => decide (j.t ≠ d.p0) || j.active) = true → exec (.taskletRemove q) s =
            .next ((s.waiting q).setTask d.p0 { s.task d.p0 with removing := (s.task d.p0).removing ++ [q.val] })) ∧
        (r.admitted = true → s.jobs.any Job.active = true → (s.jobs.map Job.key).Nodup →
          s.jobs.all (fun j => decide (j.t = d.p0) && !j.deferred &&
            (j.active || (j.pins.isEmpty && (s.genNamed j.gen).isNone))) = true →
          (∀ i : Nat, i < 64 → s.waits i 8 = false) → ∃ t, exec (.taskletRemove q) s = .next t ∧ t = { s with regs := t.regs, tasks := t.tasks, jobs := t.jobs, alloc := t.alloc, sqs := t.sqs, srcs := t.srcs } ∧
            t.sqs = (s.waiting q).sqs ∧ (t.recOf d.p0).admitted = true ∧ t.jobs = s.jobs.filter Job.active)) ∧
      (d.op = 0x06 → d.p0 < 512 →
        (256 ≤ d.p0 → (h, d.addr) ∉ s.hostPins → exec (.pagePin q ok) s = .next (s.ended q 3 0 0)) ∧
        (256 ≤ d.p0 → (h, d.addr) ∈ s.hostPins → exec (.pagePin q ok) s =
          .next (({ s with hostPins := s.hostPins.filter (· ≠ (h, d.addr)) }).ended q 0 0 0)) ∧
        (d.p0 < 256 → s.isOn h = false → exec (.pagePin q ok) s = .next (s.ended q 3 0 0)) ∧
        (d.p0 < 256 → s.isOn h = true → (s.resident h 0 page).isSome = true → (h, d.addr) ∉ s.hostPins →
          exec (.pagePin q ok) s = .next (({ s with hostPins := s.hostPins ++ [(h, d.addr)] }).ended q 0 0 0))) ∧
      (d.op = 0x0F → args.length = 32 → d.p0 < 4096 →
        (calRecOk word = false → exec (.calSlotSet q) s = .next (s.ended q 2 0 0)) ∧
        (calRecOk word = true → s.calPlaceOk word = true → bit (word 0) 31 = false → s.calOn d.p0 = false → ∃ t,
          exec (.calSlotSet q) s = .next t ∧ t = { s with regs := t.regs, calRec := t.calRec, sqs := t.sqs, cqs := t.cqs, out := t.out } ∧
            t.Ends s q 0 0 0 ∧ (∀ w : Nat, w < 8 → t.calRecW d.p0 w = word w) ∧ t.cal = s.cal ∧
          t.stoppedD = s.stoppedD ∧ t.lanes = s.lanes) ∧
        (calRecOk word = true → s.calPlaceOk word = true → bit (word 0) 31 = true → s.calOn d.p0 = false →
          s.otherDithers d.p0 ((word 0).toNat % 4096) ((word 0).toNat / 4096 % 64) < 16 → ∃ t, exec (.calSlotSet q) s = .next t ∧ t = { s with regs := t.regs, calRec := t.calRec, cal := t.cal, stoppedD := t.stoppedD, lanes := t.lanes, partners := t.partners, sqs := t.sqs, cqs := t.cqs, out := t.out } ∧
          t.Ends s q 0 0 0 ∧ (∀ w : Nat, w < 8 → t.calRecW d.p0 w = word w) ∧ (t.calSlot d.p0).st = 1 ∧ (t.calSlot d.p0).n = 0 ∧
          (t.calSlot d.p0).gAvg = word 4 ∧ (t.calSlot d.p0).oAvg = word 5)) ∧
      (d.op = 0x11 → (s.readyGen d.p0 = none → exec (.calAdopt q) s = .next (s.ended q 3 0 0)) ∧
        (s.readyGen d.p0 = some i → s.adopting = true → exec (.calAdopt q) s = .next (s.ended q 4 0 0)) ∧
        (s.readyGen d.p0 = some i → s.adopting = false → ∃ t, exec (.calAdopt q) s = .next t ∧ t = { s with regs := t.regs, gens := t.gens, sqs := t.sqs, cqs := t.cqs, out := t.out } ∧
          t.Ends s q 0 0 0 ∧
          t.gen i = { s.gen i with byHost := true, retry := false
                                   st := if (List.range 8).any (fun k => decide ((s.gen k).st = gRetiring)) then gQueued else gLoading } ∧
          t.out.length = s.out.length + 1)) ∧
      (d.op = 0x12 → (s.readyGen d.p0 = none → exec (.calDiscard q) s = .next (s.ended q 3 0 0)) ∧
        (s.readyGen d.p0 = some i → i < 8 → ∃ t, exec (.calDiscard q) s = .next t ∧ t = { s with regs := t.regs, clusters := t.clusters, alloc := t.alloc, gens := t.gens, sqs := t.sqs, cqs := t.cqs, srcs := t.srcs, out := t.out } ∧
          t.Ends s q 0 0 0 ∧ t.gen i = Gen.reset ∧
          t.store = s.store ∧ t.jobs = s.jobs)) ∧
      (d.op = 0x13 → (s.ridge.stopped = true → exec (.shingleLoad q) s = .next (s.ended q 0xD 0 0)) ∧
        (ridge → args.length = 64 → loadParamsOk args = false → exec (.shingleLoad q) s = .next (s.ended q 2 0 0)))

/-- Clock steps, power and firmware (R111, R257, R276, R307, R309, R313): CLOCK_SET of a cluster without tasklets, and of one
cluster of a pair that homes a Checked tasklet; POWER_SET, with a cluster that homes no tasklet or one, which is re-homed or
refuses the command; and SHINGLE_LOAD for held Shingles of an image that lies in the store. The acceptance of CLOCK_SET and
POWER_SET is log 92, the order of SHINGLE_LOAD's checks log 89. -/
def Obligations.PowerCommands : Prop :=
  ∀ (q : Fin 64) (c : Fin 32) (i j : Nat) (s : State),
    let d := (s.sq q).desc
    let args := (s.sq q).args
    let e := d.p0 % 64
    let x := s.dom e
    let calm : Bool := s.tasks.all (fun e => !e.2.homeLost) && (List.range 64).all (fun i => !s.waits i 0x16)
    let a := leNat (args.take 5) - 0x100000000
    let n := leNat ((args.drop 8).take 4)
    let im := (List.range n).map (fun i => Memory.read s.store (a + i))
    let pw := leNat ((im.drop 4).take 2)
    let target := Nat.testBit (leNat ((args.drop 16).take 8)) j
    s.Lone q →
      (d.op = 0x16 → d.p1 = 2 ^ c.val → d.p0 < 8 → s.homedOn c = [] → calm = true →
        ((s.dom c).st = .on → (s.cluster c).newStep = none → (s.dom c).step ≠ d.p0 →
          exec (.clockSet q) s = .next ((s.waiting q).setCluster c { s.cluster c with newStep := some d.p0 })) ∧
        ((s.dom c).st = .on → (s.cluster c).newStep = none → (s.dom c).step = d.p0 → exec (.clockSet q) s = .next (s.ended q 0 0 0)) ∧
        ((s.dom c).st = .off → ∃ t, exec (.clockSet q) s = .next t ∧ t = { s with regs := t.regs, clusters := t.clusters, sqs := t.sqs, cqs := t.cqs, doms := t.doms, out := t.out } ∧
          t.Ends s q 0 0 0 ∧ t.dom c = { s.dom c with step := d.p0 } ∧
          (t.cluster c).newStep = none)) ∧
      (d.op = 0x16 → d.p1 = 2 ^ c.val → d.p0 < 8 → (∃ u ∈ s.homedOn c, (s.recOf u).checked = true) → (s.dom c).st = .on →
        s.stepOf (mate c) ≠ d.p0 → exec (.clockSet q) s = .next (s.ended q 5 8 0)) ∧
      (d.op = 0x17 → d.p0 < 32 → x.st = .on → x.cmds = [] → s.jobs = [] →
        let off := s.setDomSt d.p0 .drain
        let lost := off.setTask i { s.task i with homeLost := true }
        (s.homedOn d.p0 = [] →
          exec (.powerSet q) s = .next ((s.waiting q).setDom d.p0 { x with st := .drain, cmds := [(q.val, false)] })) ∧
        (s.homedOn d.p0 = [i] → lost.findHome (s.recOf i) = .inr j → j < 256 → exec (.powerSet q) s = .next (s.ended q 5 j 0)) ∧
        (s.homedOn d.p0 = [i] → lost.findHome (s.recOf i) = .inl j → j < 32 → ∃ t, exec (.powerSet q) s = .next t ∧
          t = { s with free := t.free, regs := t.regs, clusters := t.clusters, recs := t.recs, tasks := t.tasks, sqs := t.sqs, srcs := t.srcs, doms := t.doms, out := t.out } ∧
          t.dom d.p0 = { x with st := .drain, cmds := [(q.val, false)] } ∧ t.sqs = (s.waiting q).sqs ∧ (t.recOf i).home = j ∧
          t.task i = { s.task i with homeLost := false })) ∧
      (d.op = 0x17 → calm = true → x.cmds = [] →
        (256 ≤ d.p0 → d.p0 < 512 → x.st = .on → exec (.powerSet q) s = .next (s.ended q 0 0 0)) ∧
        (d.p0 < 64 → x.st = .off → exec (.powerSet q) s = .next (s.ended q 0 0 0)) ∧
        (256 ≤ d.p0 → d.p0 < 512 → x.st = .off →
          exec (.powerSet q) s = .next ((s.waiting q).setDom e { x with st := .ramp, cmds := [(q.val, true)] })) ∧
        (256 ≤ d.p0 → d.p0 < 512 → x.st = .ramp ∨ x.st = .clear ∨ x.st = .drain →
          exec (.powerSet q) s = .next ((s.waiting q).setDom e { x with cmds := [(q.val, true)] })) ∧
        (32 ≤ d.p0 → d.p0 < 40 → x.st = .on → s.admitted ≠ [] → exec (.powerSet q) s = .next (s.ended q 3 0 0)) ∧
        (d.p0 = 44 ∨ d.p0 = 45 → x.st = .on → s.groupRuns (d.p0 - 44) = true → exec (.powerSet q) s = .next (s.ended q 3 0 0)) ∧
        (d.p0 = 44 ∨ d.p0 = 45 → x.st = .on → s.groupRuns (d.p0 - 44) = false →
          exec (.powerSet q) s = .next ((s.waiting q).setDom e { x with st := .drain, cmds := [(q.val, false)] })) ∧
        (40 ≤ d.p0 → d.p0 < 44 → x.st = .on → ∃ t, exec (.powerSet q) s = .next t ∧ t = { s with cores := t.cores, ridge := t.ridge, sqs := t.sqs, srcs := t.srcs, running := t.running, doms := t.doms } ∧
          t.dom e = { x with st := .drain, cmds := [(q.val, false)] } ∧ t.sqs = (s.waiting q).sqs ∧
          (j / 16 + 40 = d.p0 → (t.core j).state = .held ∧ j ∉ t.ridge.kcq ∧ t.stack (j + 1) = []) ∧
          (j / 16 + 40 ≠ d.p0 → t.core j = s.core j))) ∧
      (d.op = 0x13 → args.length = 64 → s.ridge.stopped = false → s.ridge.clearing = false → s.misc.boot = .done →
        (∀ g : Nat, g < 12 → s.isOn (32 + g) = true) → s.reg (.shgRun 0) = 0 → s.reg (.shgRun 1) = 0 → s.storeBad = [] →
        loadParamsOk args = true → 0x100000000 ≤ leNat (args.take 5) → a + n ≤ 0x2000000 →
        (n < 36 → ∃ t, exec (.shingleLoad q) s = .next t ∧ t = { s with free := t.free, regs := t.regs, cores := t.cores, ridge := t.ridge, sqs := t.sqs, cqs := t.cqs, out := t.out } ∧
          t.Ends s q 7 0 0 ∧ ∀ k : Nat, k < 64 → t.core k = s.core k) ∧
        (36 ≤ n → n ≤ 32800 → imageFormatOk im = false → ∃ t, exec (.shingleLoad q) s = .next t ∧ t = { s with free := t.free, regs := t.regs, cores := t.cores, ridge := t.ridge, sqs := t.sqs, cqs := t.cqs, out := t.out } ∧
          t.Ends s q 7 0 0 ∧ ∀ k : Nat, k < 64 → t.core k = s.core k) ∧
        (36 ≤ n → imageFormatOk im = true → (crc32c im).toNat ≠ leNat ((args.drop 12).take 4) →
          ∃ t, exec (.shingleLoad q) s = .next t ∧ t = { s with free := t.free, regs := t.regs, cores := t.cores, ridge := t.ridge, sqs := t.sqs, cqs := t.cqs, out := t.out } ∧
            t.Ends s q 9 0 0 ∧ t.reg (.shgRun 0) = 0 ∧ t.reg (.shgRun 1) = 0) ∧
        (36 ≤ n → imageFormatOk im = true → (crc32c im).toNat = leNat ((args.drop 12).take 4) → args.getD 24 0 = 1 →
          sha256 im ≠ (args.drop 32).take 32 →
          ∃ t, exec (.shingleLoad q) s = .next t ∧ t = { s with free := t.free, regs := t.regs, cores := t.cores, ridge := t.ridge, sqs := t.sqs, cqs := t.cqs, out := t.out } ∧
            t.Ends s q 10 0 0 ∧ t.reg (.shgRun 0) = 0 ∧ t.reg (.shgRun 1) = 0) ∧
        (36 ≤ n → imageFormatOk im = true → (crc32c im).toNat = leNat ((args.drop 12).take 4) → args.getD 24 0 = 0 →
          s.reg .memClearOther = 0 → ∃ t,
          exec (.shingleLoad q) s = .next t ∧ t = { s with regs := t.regs, cores := t.cores, sqs := t.sqs, cqs := t.cqs, srcs := t.srcs, running := t.running, out := t.out } ∧
            t.Ends s q 0 0 0 ∧
          (j < 64 → target = true → (t.core j).state = .run ∧
            (i < pw → Tab.get (fun _ => (0 : W12)) (t.core j).prog i = BitVec.ofNat 12 (leNat ((im.drop (32 + 2 * i)).take 2))) ∧
            (t.core j).data = Memory.writeList [] 0 (im.drop (32 + 2 * pw)) ∧
            (t.reg (.shgNx (Fin.ofNat 64 j))).toNat = leNat ((im.drop 8).take 4) ∧
            bit (t.reg (.shgRun (Fin.ofNat 2 (j / 32)))) (j % 32) = true) ∧
          (j < 64 → target = false → t.core j = s.core j)))
end

