-- ==== Sys2Proof/Laws/Tab.lean ====
section
/-!
SUPPORT. Laws/Tab.lean: reading after writing a sparse table, writing twice, and the canonical form that every operation on a
memory keeps.
-/
namespace Sys2Proof.Machine

variable {α : Type}

/-- An erased key reads as its default. -/
theorem Tab.get_erase_self (d : Nat → α) (t : Tab α) (k : Nat) : Tab.get d (Tab.erase t k) k = d k := by
  induction t with
  | nil => rfl
  | cons e t ih =>
    obtain ⟨j, v⟩ := e
    by_cases h : j = k
    · subst h; simpa [Tab.erase] using ih
    · simp only [Tab.erase] at ih
      simp [Tab.erase, h, Tab.get, ih]

/-- The other keys read as before. -/
theorem Tab.get_erase_ne (d : Nat → α) (t : Tab α) {k j : Nat} (h : j ≠ k) : Tab.get d (Tab.erase t k) j = Tab.get d t j := by
  induction t with
  | nil => rfl
  | cons e t ih =>
    obtain ⟨i, v⟩ := e
    simp only [Tab.erase] at ih
    by_cases hi : i = k
    · subst hi; simp [Tab.erase, Tab.get, ih, h.symm]
    · by_cases hj : i = j
      · subst hj; simp [Tab.erase, hi, Tab.get]
      · simp [Tab.erase, hi, Tab.get, hj, ih]

/-- A placed key reads as its value, where no entry of it stood. -/
theorem Tab.get_place_self (d : Nat → α) (t : Tab α) (k : Nat) (v : α) (h : ∀ e ∈ t, e.1 ≠ k) :
    Tab.get d (Tab.place k v t) k = v := by
  induction t with
  | nil => simp [Tab.place, Tab.get]
  | cons e t ih =>
    obtain ⟨i, w⟩ := e
    have hi : i ≠ k := h (i, w) (by simp)
    have ht : ∀ e ∈ t, e.1 ≠ k := fun e he => h e (by simp [he])
    by_cases hk : k < i <;> simp [Tab.place, hk, Tab.get, hi, ih ht]

/-- The other keys read as before. -/
theorem Tab.get_place_ne (d : Nat → α) (t : Tab α) (v : α) {k j : Nat} (h : j ≠ k) :
    Tab.get d (Tab.place k v t) j = Tab.get d t j := by
  induction t with
  | nil => simp [Tab.place, Tab.get, h.symm]
  | cons e t ih =>
    obtain ⟨i, w⟩ := e
    by_cases hk : k < i
    · simp [Tab.place, hk, Tab.get, h.symm]
    · by_cases hj : i = j
      · subst hj; simp [Tab.place, hk, Tab.get]
      · simp [Tab.place, hk, Tab.get, hj, ih]

/-- No entry of an erased key is left. -/
theorem Tab.erase_keys (t : Tab α) (k : Nat) : ∀ e ∈ Tab.erase t k, e.1 ≠ k := by
  intro e he; simpa [Tab.erase] using (List.mem_filter.mp he).2

/-- Reading after writing. -/
@[simp] theorem Tab.get_set [DecidableEq α] (d : Nat → α) (t : Tab α) (k j : Nat) (v : α) :
    Tab.get d (Tab.set d t k v) j = if j = k then v else Tab.get d t j := by
  unfold Tab.set
  by_cases hv : v = d k
  · by_cases hj : j = k
    · subst hj; simp [hv, Tab.get_erase_self]
    · simp [hv, hj, Tab.get_erase_ne]
  · by_cases hj : j = k
    · subst hj; simp [hv, Tab.get_place_self d _ j v (Tab.erase_keys t j)]
    · simp [hv, hj, Tab.get_place_ne d _ v hj, Tab.get_erase_ne]

/-- Erasing twice. -/
theorem Tab.erase_erase (t : Tab α) (k : Nat) : Tab.erase (Tab.erase t k) k = Tab.erase t k := by
  simp [Tab.erase, List.filter_filter]

/-- Erasing what was placed. -/
theorem Tab.erase_place (t : Tab α) (k : Nat) (v : α) (h : ∀ e ∈ t, e.1 ≠ k) : Tab.erase (Tab.place k v t) k = t := by
  induction t with
  | nil => simp [Tab.place, Tab.erase]
  | cons e t ih =>
    have he : e.1 ≠ k := h e (by simp)
    have ht : ∀ e ∈ t, e.1 ≠ k := fun e he => h e (by simp [he])
    have hf : t.filter (fun e => !decide (e.1 = k)) = t := by
      apply List.filter_eq_self.mpr; intro a ha; simpa using ht a ha
    simp only [Tab.erase] at ih
    by_cases hk : k < e.1
    · simpa [Tab.place, hk, Tab.erase, he] using hf
    · simpa [Tab.place, hk, Tab.erase, he] using ih ht

/-- Writing a key twice leaves the second value. -/
@[simp] theorem Tab.set_set [DecidableEq α] (d : Nat → α) (t : Tab α) (k : Nat) (v w : α) :
    Tab.set d (Tab.set d t k v) k w = Tab.set d t k w := by
  have h : Tab.erase (Tab.set d t k v) k = Tab.erase t k := by
    unfold Tab.set
    by_cases hv : v = d k
    · simp [hv, Tab.erase_erase]
    · simp [hv, Tab.erase_place _ _ _ (Tab.erase_keys t k)]
  unfold Tab.set at h ⊢
  rw [h]

/-! ### The canonical form -/

/-- A table above a bound is above every lower one. -/
theorem Tab.wfAbove_mono [DecidableEq α] (d : Nat → α) {a b : Nat} (h : a ≤ b) :
    ∀ t : Tab α, Tab.wfAbove d b t = true → Tab.wfAbove d a t = true := by
  intro t ht
  cases t with
  | nil => rfl
  | cons e t =>
    obtain ⟨k, v⟩ := e
    simp only [Tab.wfAbove, Bool.and_eq_true, decide_eq_true_eq] at ht ⊢
    exact ⟨⟨by omega, ht.1.2⟩, ht.2⟩

/-- Filtering keeps the canonical form. -/
theorem Tab.filter_wf [DecidableEq α] (d : Nat → α) (p : Nat × α → Bool) :
    ∀ (t : Tab α) (b : Nat), Tab.wfAbove d b t = true → Tab.wfAbove d b (t.filter p) = true := by
  intro t
  induction t with
  | nil => intro b _; rfl
  | cons e t ih =>
    obtain ⟨k, v⟩ := e
    intro b h
    simp only [Tab.wfAbove, Bool.and_eq_true, decide_eq_true_eq] at h
    by_cases hp : p (k, v) = true
    · simp only [List.filter_cons, hp, if_true, Tab.wfAbove, Bool.and_eq_true, decide_eq_true_eq]
      exact ⟨h.1, ih _ h.2⟩
    · simp only [List.filter_cons, hp]
      exact Tab.wfAbove_mono d (by omega) _ (ih _ h.2)

/-- Placing a value other than the default where no entry of the key stands keeps the canonical form. -/
theorem Tab.place_wf [DecidableEq α] (d : Nat → α) (k : Nat) (v : α) (hv : v ≠ d k) :
    ∀ (t : Tab α) (b : Nat), b ≤ k → (∀ e ∈ t, e.1 ≠ k) → Tab.wfAbove d b t = true → Tab.wfAbove d b (Tab.place k v t) = true := by
  intro t
  induction t with
  | nil => intro b hb _ _; simp [Tab.place, Tab.wfAbove, hb, hv]
  | cons e t ih =>
    obtain ⟨i, w⟩ := e
    intro b hb hk h
    have hi : i ≠ k := hk (i, w) (by simp)
    simp only [Tab.wfAbove, Bool.and_eq_true, decide_eq_true_eq] at h
    by_cases hlt : k < i
    · simp only [Tab.place, hlt, if_true, Tab.wfAbove, Bool.and_eq_true, decide_eq_true_eq]
      exact ⟨⟨hb, hv⟩, ⟨by omega, h.1.2⟩, h.2⟩
    · simp only [Tab.place, hlt, if_false, Tab.wfAbove, Bool.and_eq_true, decide_eq_true_eq]
      exact ⟨h.1, ih _ (by omega) (fun e he => hk e (by simp [he])) h.2⟩

/-- A write keeps the canonical form of a table. -/
theorem Tab.set_wf [DecidableEq α] (d : Nat → α) (t : Tab α) (k : Nat) (v : α) (h : Tab.wf d t = true) :
    Tab.wf d (Tab.set d t k v) = true := by
  have he : Tab.wfAbove d 0 (Tab.erase t k) = true := Tab.filter_wf d _ t 0 h
  unfold Tab.set Tab.wf
  split
  · exact he
  · exact Tab.place_wf d k v ‹_› _ 0 (Nat.zero_le _) (Tab.erase_keys t k) he

/-! ### Memories of bytes -/

/-- Reading one byte after writing one. -/
@[simp] theorem Memory.read_write (m : Memory) (a j : Nat) (v : Byte) :
    (m.write a v).read j = if j = a then v else m.read j := by
  simp [Memory.read, Memory.write]

/-- Reading one byte after writing bytes from `a` upwards. -/
theorem Memory.read_writeList (bs : List Byte) : ∀ (m : Memory) (a j : Nat),
    (m.writeList a bs).read j = if a ≤ j ∧ j < a + bs.length then bs.getD (j - a) 0 else m.read j := by
  induction bs with
  | nil => intro m a j; simp [Memory.writeList] <;> (intro h1 h2; omega)
  | cons b bs ih =>
    intro m a j
    simp only [Memory.writeList, ih, Memory.read_write, List.length_cons]
    by_cases h : j = a
    · subst h
      have h2 : ¬ (j + 1 ≤ j ∧ j < j + 1 + bs.length) := by omega
      have h3 : j ≤ j ∧ j < j + (bs.length + 1) := by omega
      rw [if_neg h2, if_pos h3]; simp
    · by_cases h1 : a + 1 ≤ j ∧ j < a + 1 + bs.length
      · have : j - a = (j - (a + 1)) + 1 := by omega
        rw [if_pos h1, if_pos (by omega), this]; simp
      · rw [if_neg h1, if_neg h, if_neg (by omega)]

/-- A write of one byte keeps the canonical form. -/
theorem Memory.write_wf (m : Memory) (a : Nat) (v : Byte) (h : m.wf = true) : (m.write a v).wf = true := Tab.set_wf _ m a v h

/-- A write of bytes keeps the canonical form. -/
theorem Memory.writeList_wf (bs : List Byte) : ∀ (m : Memory) (a : Nat), m.wf = true → (m.writeList a bs).wf = true := by
  induction bs with
  | nil => intro m a h; exact h
  | cons b bs ih => intro m a h; exact ih _ _ (Memory.write_wf m a b h)

/-- Reading n bytes reads n bytes. -/
@[simp] theorem Memory.readList_length (m : Memory) : ∀ a n, (m.readList a n).length = n := by
  intro a n
  induction n generalizing a with
  | zero => rfl
  | succ n ih => simp [Memory.readList, ih]

/-- Byte i of a range. -/
theorem Memory.readList_getD (m : Memory) : ∀ (n a i : Nat), i < n → (m.readList a n).getD i 0 = m.read (a + i) := by
  intro n
  induction n with
  | zero => intro a i h; omega
  | succ n ih =>
    intro a i h
    cases i with
    | zero => simp [Memory.readList]
    | succ i => simp only [Memory.readList, List.getD_cons_succ]; rw [ih (a + 1) i (by omega)]; congr 1; omega

end Sys2Proof.Machine
end

