-- ==== Sys2Proof/Laws/State.lean ====
section
/-!
SUPPORT. Laws/State.lean: what each replacement of an entry of a table of the state leaves alone, and what it writes.
-/

namespace Sys2Proof.Machine

/-! ### cluster -/

@[simp] theorem State.setCluster_pending (s : State) (k : Nat) (v : Cluster) : (s.setCluster k v).pending = s.pending := by delta State.setCluster; rfl
@[simp] theorem State.setCluster_free (s : State) (k : Nat) (v : Cluster) : (s.setCluster k v).free = s.free := by delta State.setCluster; rfl
@[simp] theorem State.setCluster_regs (s : State) (k : Nat) (v : Cluster) : (s.setCluster k v).regs = s.regs := by delta State.setCluster; rfl
@[simp] theorem State.setCluster_store (s : State) (k : Nat) (v : Cluster) : (s.setCluster k v).store = s.store := by delta State.setCluster; rfl
@[simp] theorem State.setCluster_storeBad (s : State) (k : Nat) (v : Cluster) : (s.setCluster k v).storeBad = s.storeBad := by delta State.setCluster; rfl
@[simp] theorem State.setCluster_recs (s : State) (k : Nat) (v : Cluster) : (s.setCluster k v).recs = s.recs := by delta State.setCluster; rfl
@[simp] theorem State.setCluster_tasks (s : State) (k : Nat) (v : Cluster) : (s.setCluster k v).tasks = s.tasks := by delta State.setCluster; rfl
@[simp] theorem State.setCluster_jobs (s : State) (k : Nat) (v : Cluster) : (s.setCluster k v).jobs = s.jobs := by delta State.setCluster; rfl
@[simp] theorem State.setCluster_hostPins (s : State) (k : Nat) (v : Cluster) : (s.setCluster k v).hostPins = s.hostPins := by delta State.setCluster; rfl
@[simp] theorem State.setCluster_mapClock (s : State) (k : Nat) (v : Cluster) : (s.setCluster k v).mapClock = s.mapClock := by delta State.setCluster; rfl
@[simp] theorem State.setCluster_inSlots (s : State) (k : Nat) (v : Cluster) : (s.setCluster k v).inSlots = s.inSlots := by delta State.setCluster; rfl
@[simp] theorem State.setCluster_outSlots (s : State) (k : Nat) (v : Cluster) : (s.setCluster k v).outSlots = s.outSlots := by delta State.setCluster; rfl
@[simp] theorem State.setCluster_intSlots (s : State) (k : Nat) (v : Cluster) : (s.setCluster k v).intSlots = s.intSlots := by delta State.setCluster; rfl
@[simp] theorem State.setCluster_alloc (s : State) (k : Nat) (v : Cluster) : (s.setCluster k v).alloc = s.alloc := by delta State.setCluster; rfl
@[simp] theorem State.setCluster_calRec (s : State) (k : Nat) (v : Cluster) : (s.setCluster k v).calRec = s.calRec := by delta State.setCluster; rfl
@[simp] theorem State.setCluster_cal (s : State) (k : Nat) (v : Cluster) : (s.setCluster k v).cal = s.cal := by delta State.setCluster; rfl
@[simp] theorem State.setCluster_stoppedD (s : State) (k : Nat) (v : Cluster) : (s.setCluster k v).stoppedD = s.stoppedD := by delta State.setCluster; rfl
@[simp] theorem State.setCluster_gens (s : State) (k : Nat) (v : Cluster) : (s.setCluster k v).gens = s.gens := by delta State.setCluster; rfl
@[simp] theorem State.setCluster_genNum (s : State) (k : Nat) (v : Cluster) : (s.setCluster k v).genNum = s.genNum := by delta State.setCluster; rfl
@[simp] theorem State.setCluster_baseline (s : State) (k : Nat) (v : Cluster) : (s.setCluster k v).baseline = s.baseline := by delta State.setCluster; rfl
@[simp] theorem State.setCluster_baseDir (s : State) (k : Nat) (v : Cluster) : (s.setCluster k v).baseDir = s.baseDir := by delta State.setCluster; rfl
@[simp] theorem State.setCluster_baseMem (s : State) (k : Nat) (v : Cluster) : (s.setCluster k v).baseMem = s.baseMem := by delta State.setCluster; rfl
@[simp] theorem State.setCluster_genOrder (s : State) (k : Nat) (v : Cluster) : (s.setCluster k v).genOrder = s.genOrder := by delta State.setCluster; rfl
@[simp] theorem State.setCluster_lineRec (s : State) (k : Nat) (v : Cluster) : (s.setCluster k v).lineRec = s.lineRec := by delta State.setCluster; rfl
@[simp] theorem State.setCluster_partRec (s : State) (k : Nat) (v : Cluster) : (s.setCluster k v).partRec = s.partRec := by delta State.setCluster; rfl
@[simp] theorem State.setCluster_lanes (s : State) (k : Nat) (v : Cluster) : (s.setCluster k v).lanes = s.lanes := by delta State.setCluster; rfl
@[simp] theorem State.setCluster_partners (s : State) (k : Nat) (v : Cluster) : (s.setCluster k v).partners = s.partners := by delta State.setCluster; rfl
@[simp] theorem State.setCluster_cores (s : State) (k : Nat) (v : Cluster) : (s.setCluster k v).cores = s.cores := by delta State.setCluster; rfl
@[simp] theorem State.setCluster_ridge (s : State) (k : Nat) (v : Cluster) : (s.setCluster k v).ridge = s.ridge := by delta State.setCluster; rfl
@[simp] theorem State.setCluster_sqs (s : State) (k : Nat) (v : Cluster) : (s.setCluster k v).sqs = s.sqs := by delta State.setCluster; rfl
@[simp] theorem State.setCluster_cqs (s : State) (k : Nat) (v : Cluster) : (s.setCluster k v).cqs = s.cqs := by delta State.setCluster; rfl
@[simp] theorem State.setCluster_engine (s : State) (k : Nat) (v : Cluster) : (s.setCluster k v).engine = s.engine := by delta State.setCluster; rfl
@[simp] theorem State.setCluster_pcie (s : State) (k : Nat) (v : Cluster) : (s.setCluster k v).pcie = s.pcie := by delta State.setCluster; rfl
@[simp] theorem State.setCluster_srcs (s : State) (k : Nat) (v : Cluster) : (s.setCluster k v).srcs = s.srcs := by delta State.setCluster; rfl
@[simp] theorem State.setCluster_running (s : State) (k : Nat) (v : Cluster) : (s.setCluster k v).running = s.running := by delta State.setCluster; rfl
@[simp] theorem State.setCluster_claims (s : State) (k : Nat) (v : Cluster) : (s.setCluster k v).claims = s.claims := by delta State.setCluster; rfl
@[simp] theorem State.setCluster_dmas (s : State) (k : Nat) (v : Cluster) : (s.setCluster k v).dmas = s.dmas := by delta State.setCluster; rfl
@[simp] theorem State.setCluster_dmaLast (s : State) (k : Nat) (v : Cluster) : (s.setCluster k v).dmaLast = s.dmaLast := by delta State.setCluster; rfl
@[simp] theorem State.setCluster_latches (s : State) (k : Nat) (v : Cluster) : (s.setCluster k v).latches = s.latches := by delta State.setCluster; rfl
@[simp] theorem State.setCluster_doms (s : State) (k : Nat) (v : Cluster) : (s.setCluster k v).doms = s.doms := by delta State.setCluster; rfl
@[simp] theorem State.setCluster_clk (s : State) (k : Nat) (v : Cluster) : (s.setCluster k v).clk = s.clk := by delta State.setCluster; rfl
@[simp] theorem State.setCluster_cald (s : State) (k : Nat) (v : Cluster) : (s.setCluster k v).cald = s.cald := by delta State.setCluster; rfl
@[simp] theorem State.setCluster_misc (s : State) (k : Nat) (v : Cluster) : (s.setCluster k v).misc = s.misc := by delta State.setCluster; rfl
@[simp] theorem State.setCluster_scrubs (s : State) (k : Nat) (v : Cluster) : (s.setCluster k v).scrubs = s.scrubs := by delta State.setCluster; rfl
@[simp] theorem State.setCluster_heldBar (s : State) (k : Nat) (v : Cluster) : (s.setCluster k v).heldBar = s.heldBar := by delta State.setCluster; rfl
@[simp] theorem State.setCluster_out (s : State) (k : Nat) (v : Cluster) : (s.setCluster k v).out = s.out := by delta State.setCluster; rfl
@[simp] theorem State.recW_setCluster (s : State) (k : Nat) (v : Cluster) (j : Nat) : (s.setCluster k v).recW j = s.recW j := by delta State.setCluster; rfl
@[simp] theorem State.task_setCluster (s : State) (k : Nat) (v : Cluster) (j : Nat) : (s.setCluster k v).task j = s.task j := by delta State.setCluster; rfl
@[simp] theorem State.inSlot_setCluster (s : State) (k : Nat) (v : Cluster) (j : Nat) : (s.setCluster k v).inSlot j = s.inSlot j := by delta State.setCluster; rfl
@[simp] theorem State.outSlot_setCluster (s : State) (k : Nat) (v : Cluster) (j : Nat) : (s.setCluster k v).outSlot j = s.outSlot j := by delta State.setCluster; rfl
@[simp] theorem State.intSlot_setCluster (s : State) (k : Nat) (v : Cluster) (j : Nat) : (s.setCluster k v).intSlot j = s.intSlot j := by delta State.setCluster; rfl
@[simp] theorem State.cls_setCluster (s : State) (k : Nat) (v : Cluster) (j : Nat) : (s.setCluster k v).cls j = s.cls j := by delta State.setCluster; rfl
@[simp] theorem State.calW_setCluster (s : State) (k : Nat) (v : Cluster) (j : Nat) : (s.setCluster k v).calW j = s.calW j := by delta State.setCluster; rfl
@[simp] theorem State.calSlot_setCluster (s : State) (k : Nat) (v : Cluster) (j : Nat) : (s.setCluster k v).calSlot j = s.calSlot j := by delta State.setCluster; rfl
@[simp] theorem State.gen_setCluster (s : State) (k : Nat) (v : Cluster) (j : Nat) : (s.setCluster k v).gen j = s.gen j := by delta State.setCluster; rfl
@[simp] theorem State.lineW_setCluster (s : State) (k : Nat) (v : Cluster) (j : Nat) : (s.setCluster k v).lineW j = s.lineW j := by delta State.setCluster; rfl
@[simp] theorem State.partW_setCluster (s : State) (k : Nat) (v : Cluster) (j : Nat) : (s.setCluster k v).partW j = s.partW j := by delta State.setCluster; rfl
@[simp] theorem State.lane_setCluster (s : State) (k : Nat) (v : Cluster) (j : Nat) : (s.setCluster k v).lane j = s.lane j := by delta State.setCluster; rfl
@[simp] theorem State.partner_setCluster (s : State) (k : Nat) (v : Cluster) (j : Nat) : (s.setCluster k v).partner j = s.partner j := by delta State.setCluster; rfl
@[simp] theorem State.core_setCluster (s : State) (k : Nat) (v : Cluster) (j : Nat) : (s.setCluster k v).core j = s.core j := by delta State.setCluster; rfl
@[simp] theorem State.sq_setCluster (s : State) (k : Nat) (v : Cluster) (j : Nat) : (s.setCluster k v).sq j = s.sq j := by delta State.setCluster; rfl
@[simp] theorem State.cq_setCluster (s : State) (k : Nat) (v : Cluster) (j : Nat) : (s.setCluster k v).cq j = s.cq j := by delta State.setCluster; rfl
@[simp] theorem State.src_setCluster (s : State) (k : Nat) (v : Cluster) (j : Nat) : (s.setCluster k v).src j = s.src j := by delta State.setCluster; rfl
@[simp] theorem State.stack_setCluster (s : State) (k : Nat) (v : Cluster) (j : Nat) : (s.setCluster k v).stack j = s.stack j := by delta State.setCluster; rfl
@[simp] theorem State.claimed_setCluster (s : State) (k : Nat) (v : Cluster) (j : Nat) : (s.setCluster k v).claimed j = s.claimed j := by delta State.setCluster; rfl
@[simp] theorem State.dma_setCluster (s : State) (k : Nat) (v : Cluster) (j : Nat) : (s.setCluster k v).dma j = s.dma j := by delta State.setCluster; rfl
@[simp] theorem State.latch_setCluster (s : State) (k : Nat) (v : Cluster) (j : Nat) : (s.setCluster k v).latch j = s.latch j := by delta State.setCluster; rfl
@[simp] theorem State.dom_setCluster (s : State) (k : Nat) (v : Cluster) (j : Nat) : (s.setCluster k v).dom j = s.dom j := by delta State.setCluster; rfl
@[simp] theorem State.scr_setCluster (s : State) (k : Nat) (v : Cluster) (j : Nat) : (s.setCluster k v).scr j = s.scr j := by delta State.setCluster; rfl
@[simp] theorem State.reg_setCluster (s : State) (k : Nat) (v : Cluster) (r : Reg) : (s.setCluster k v).reg r = s.reg r := by delta State.setCluster; rfl
@[simp] theorem State.cluster_setCluster (s : State) (k : Nat) (v : Cluster) (j : Nat) : (s.setCluster k v).cluster j = if j = k then v else s.cluster j := by
  simp [State.cluster, State.setCluster]
@[simp] theorem State.setCluster_setCluster (s : State) (k : Nat) (v : Cluster) (v' : Cluster) : (s.setCluster k v).setCluster k v' = s.setCluster k v' := by
  simp [State.setCluster]
@[simp] theorem State.updCluster_eq (s : State) (k : Nat) (g : Cluster → Cluster) : s.updCluster k g = s.setCluster k (g (s.cluster k)) := rfl

/-! ### recW -/

@[simp] theorem State.setRecW_pending (s : State) (k : Nat) (v : W32) : (s.setRecW k v).pending = s.pending := by delta State.setRecW; rfl
@[simp] theorem State.setRecW_free (s : State) (k : Nat) (v : W32) : (s.setRecW k v).free = s.free := by delta State.setRecW; rfl
@[simp] theorem State.setRecW_regs (s : State) (k : Nat) (v : W32) : (s.setRecW k v).regs = s.regs := by delta State.setRecW; rfl
@[simp] theorem State.setRecW_store (s : State) (k : Nat) (v : W32) : (s.setRecW k v).store = s.store := by delta State.setRecW; rfl
@[simp] theorem State.setRecW_storeBad (s : State) (k : Nat) (v : W32) : (s.setRecW k v).storeBad = s.storeBad := by delta State.setRecW; rfl
@[simp] theorem State.setRecW_clusters (s : State) (k : Nat) (v : W32) : (s.setRecW k v).clusters = s.clusters := by delta State.setRecW; rfl
@[simp] theorem State.setRecW_tasks (s : State) (k : Nat) (v : W32) : (s.setRecW k v).tasks = s.tasks := by delta State.setRecW; rfl
@[simp] theorem State.setRecW_jobs (s : State) (k : Nat) (v : W32) : (s.setRecW k v).jobs = s.jobs := by delta State.setRecW; rfl
@[simp] theorem State.setRecW_hostPins (s : State) (k : Nat) (v : W32) : (s.setRecW k v).hostPins = s.hostPins := by delta State.setRecW; rfl
@[simp] theorem State.setRecW_mapClock (s : State) (k : Nat) (v : W32) : (s.setRecW k v).mapClock = s.mapClock := by delta State.setRecW; rfl
@[simp] theorem State.setRecW_inSlots (s : State) (k : Nat) (v : W32) : (s.setRecW k v).inSlots = s.inSlots := by delta State.setRecW; rfl
@[simp] theorem State.setRecW_outSlots (s : State) (k : Nat) (v : W32) : (s.setRecW k v).outSlots = s.outSlots := by delta State.setRecW; rfl
@[simp] theorem State.setRecW_intSlots (s : State) (k : Nat) (v : W32) : (s.setRecW k v).intSlots = s.intSlots := by delta State.setRecW; rfl
@[simp] theorem State.setRecW_alloc (s : State) (k : Nat) (v : W32) : (s.setRecW k v).alloc = s.alloc := by delta State.setRecW; rfl
@[simp] theorem State.setRecW_calRec (s : State) (k : Nat) (v : W32) : (s.setRecW k v).calRec = s.calRec := by delta State.setRecW; rfl
@[simp] theorem State.setRecW_cal (s : State) (k : Nat) (v : W32) : (s.setRecW k v).cal = s.cal := by delta State.setRecW; rfl
@[simp] theorem State.setRecW_stoppedD (s : State) (k : Nat) (v : W32) : (s.setRecW k v).stoppedD = s.stoppedD := by delta State.setRecW; rfl
@[simp] theorem State.setRecW_gens (s : State) (k : Nat) (v : W32) : (s.setRecW k v).gens = s.gens := by delta State.setRecW; rfl
@[simp] theorem State.setRecW_genNum (s : State) (k : Nat) (v : W32) : (s.setRecW k v).genNum = s.genNum := by delta State.setRecW; rfl
@[simp] theorem State.setRecW_baseline (s : State) (k : Nat) (v : W32) : (s.setRecW k v).baseline = s.baseline := by delta State.setRecW; rfl
@[simp] theorem State.setRecW_baseDir (s : State) (k : Nat) (v : W32) : (s.setRecW k v).baseDir = s.baseDir := by delta State.setRecW; rfl
@[simp] theorem State.setRecW_baseMem (s : State) (k : Nat) (v : W32) : (s.setRecW k v).baseMem = s.baseMem := by delta State.setRecW; rfl
@[simp] theorem State.setRecW_genOrder (s : State) (k : Nat) (v : W32) : (s.setRecW k v).genOrder = s.genOrder := by delta State.setRecW; rfl
@[simp] theorem State.setRecW_lineRec (s : State) (k : Nat) (v : W32) : (s.setRecW k v).lineRec = s.lineRec := by delta State.setRecW; rfl
@[simp] theorem State.setRecW_partRec (s : State) (k : Nat) (v : W32) : (s.setRecW k v).partRec = s.partRec := by delta State.setRecW; rfl
@[simp] theorem State.setRecW_lanes (s : State) (k : Nat) (v : W32) : (s.setRecW k v).lanes = s.lanes := by delta State.setRecW; rfl
@[simp] theorem State.setRecW_partners (s : State) (k : Nat) (v : W32) : (s.setRecW k v).partners = s.partners := by delta State.setRecW; rfl
@[simp] theorem State.setRecW_cores (s : State) (k : Nat) (v : W32) : (s.setRecW k v).cores = s.cores := by delta State.setRecW; rfl
@[simp] theorem State.setRecW_ridge (s : State) (k : Nat) (v : W32) : (s.setRecW k v).ridge = s.ridge := by delta State.setRecW; rfl
@[simp] theorem State.setRecW_sqs (s : State) (k : Nat) (v : W32) : (s.setRecW k v).sqs = s.sqs := by delta State.setRecW; rfl
@[simp] theorem State.setRecW_cqs (s : State) (k : Nat) (v : W32) : (s.setRecW k v).cqs = s.cqs := by delta State.setRecW; rfl
@[simp] theorem State.setRecW_engine (s : State) (k : Nat) (v : W32) : (s.setRecW k v).engine = s.engine := by delta State.setRecW; rfl
@[simp] theorem State.setRecW_pcie (s : State) (k : Nat) (v : W32) : (s.setRecW k v).pcie = s.pcie := by delta State.setRecW; rfl
@[simp] theorem State.setRecW_srcs (s : State) (k : Nat) (v : W32) : (s.setRecW k v).srcs = s.srcs := by delta State.setRecW; rfl
@[simp] theorem State.setRecW_running (s : State) (k : Nat) (v : W32) : (s.setRecW k v).running = s.running := by delta State.setRecW; rfl
@[simp] theorem State.setRecW_claims (s : State) (k : Nat) (v : W32) : (s.setRecW k v).claims = s.claims := by delta State.setRecW; rfl
@[simp] theorem State.setRecW_dmas (s : State) (k : Nat) (v : W32) : (s.setRecW k v).dmas = s.dmas := by delta State.setRecW; rfl
@[simp] theorem State.setRecW_dmaLast (s : State) (k : Nat) (v : W32) : (s.setRecW k v).dmaLast = s.dmaLast := by delta State.setRecW; rfl
@[simp] theorem State.setRecW_latches (s : State) (k : Nat) (v : W32) : (s.setRecW k v).latches = s.latches := by delta State.setRecW; rfl
@[simp] theorem State.setRecW_doms (s : State) (k : Nat) (v : W32) : (s.setRecW k v).doms = s.doms := by delta State.setRecW; rfl
@[simp] theorem State.setRecW_clk (s : State) (k : Nat) (v : W32) : (s.setRecW k v).clk = s.clk := by delta State.setRecW; rfl
@[simp] theorem State.setRecW_cald (s : State) (k : Nat) (v : W32) : (s.setRecW k v).cald = s.cald := by delta State.setRecW; rfl
@[simp] theorem State.setRecW_misc (s : State) (k : Nat) (v : W32) : (s.setRecW k v).misc = s.misc := by delta State.setRecW; rfl
@[simp] theorem State.setRecW_scrubs (s : State) (k : Nat) (v : W32) : (s.setRecW k v).scrubs = s.scrubs := by delta State.setRecW; rfl
@[simp] theorem State.setRecW_heldBar (s : State) (k : Nat) (v : W32) : (s.setRecW k v).heldBar = s.heldBar := by delta State.setRecW; rfl
@[simp] theorem State.setRecW_out (s : State) (k : Nat) (v : W32) : (s.setRecW k v).out = s.out := by delta State.setRecW; rfl
@[simp] theorem State.cluster_setRecW (s : State) (k : Nat) (v : W32) (j : Nat) : (s.setRecW k v).cluster j = s.cluster j := by delta State.setRecW; rfl
@[simp] theorem State.task_setRecW (s : State) (k : Nat) (v : W32) (j : Nat) : (s.setRecW k v).task j = s.task j := by delta State.setRecW; rfl
@[simp] theorem State.inSlot_setRecW (s : State) (k : Nat) (v : W32) (j : Nat) : (s.setRecW k v).inSlot j = s.inSlot j := by delta State.setRecW; rfl
@[simp] theorem State.outSlot_setRecW (s : State) (k : Nat) (v : W32) (j : Nat) : (s.setRecW k v).outSlot j = s.outSlot j := by delta State.setRecW; rfl
@[simp] theorem State.intSlot_setRecW (s : State) (k : Nat) (v : W32) (j : Nat) : (s.setRecW k v).intSlot j = s.intSlot j := by delta State.setRecW; rfl
@[simp] theorem State.cls_setRecW (s : State) (k : Nat) (v : W32) (j : Nat) : (s.setRecW k v).cls j = s.cls j := by delta State.setRecW; rfl
@[simp] theorem State.calW_setRecW (s : State) (k : Nat) (v : W32) (j : Nat) : (s.setRecW k v).calW j = s.calW j := by delta State.setRecW; rfl
@[simp] theorem State.calSlot_setRecW (s : State) (k : Nat) (v : W32) (j : Nat) : (s.setRecW k v).calSlot j = s.calSlot j := by delta State.setRecW; rfl
@[simp] theorem State.gen_setRecW (s : State) (k : Nat) (v : W32) (j : Nat) : (s.setRecW k v).gen j = s.gen j := by delta State.setRecW; rfl
@[simp] theorem State.lineW_setRecW (s : State) (k : Nat) (v : W32) (j : Nat) : (s.setRecW k v).lineW j = s.lineW j := by delta State.setRecW; rfl
@[simp] theorem State.partW_setRecW (s : State) (k : Nat) (v : W32) (j : Nat) : (s.setRecW k v).partW j = s.partW j := by delta State.setRecW; rfl
@[simp] theorem State.lane_setRecW (s : State) (k : Nat) (v : W32) (j : Nat) : (s.setRecW k v).lane j = s.lane j := by delta State.setRecW; rfl
@[simp] theorem State.partner_setRecW (s : State) (k : Nat) (v : W32) (j : Nat) : (s.setRecW k v).partner j = s.partner j := by delta State.setRecW; rfl
@[simp] theorem State.core_setRecW (s : State) (k : Nat) (v : W32) (j : Nat) : (s.setRecW k v).core j = s.core j := by delta State.setRecW; rfl
@[simp] theorem State.sq_setRecW (s : State) (k : Nat) (v : W32) (j : Nat) : (s.setRecW k v).sq j = s.sq j := by delta State.setRecW; rfl
@[simp] theorem State.cq_setRecW (s : State) (k : Nat) (v : W32) (j : Nat) : (s.setRecW k v).cq j = s.cq j := by delta State.setRecW; rfl
@[simp] theorem State.src_setRecW (s : State) (k : Nat) (v : W32) (j : Nat) : (s.setRecW k v).src j = s.src j := by delta State.setRecW; rfl
@[simp] theorem State.stack_setRecW (s : State) (k : Nat) (v : W32) (j : Nat) : (s.setRecW k v).stack j = s.stack j := by delta State.setRecW; rfl
@[simp] theorem State.claimed_setRecW (s : State) (k : Nat) (v : W32) (j : Nat) : (s.setRecW k v).claimed j = s.claimed j := by delta State.setRecW; rfl
@[simp] theorem State.dma_setRecW (s : State) (k : Nat) (v : W32) (j : Nat) : (s.setRecW k v).dma j = s.dma j := by delta State.setRecW; rfl
@[simp] theorem State.latch_setRecW (s : State) (k : Nat) (v : W32) (j : Nat) : (s.setRecW k v).latch j = s.latch j := by delta State.setRecW; rfl
@[simp] theorem State.dom_setRecW (s : State) (k : Nat) (v : W32) (j : Nat) : (s.setRecW k v).dom j = s.dom j := by delta State.setRecW; rfl
@[simp] theorem State.scr_setRecW (s : State) (k : Nat) (v : W32) (j : Nat) : (s.setRecW k v).scr j = s.scr j := by delta State.setRecW; rfl
@[simp] theorem State.reg_setRecW (s : State) (k : Nat) (v : W32) (r : Reg) : (s.setRecW k v).reg r = s.reg r := by delta State.setRecW; rfl
@[simp] theorem State.recW_setRecW (s : State) (k : Nat) (v : W32) (j : Nat) : (s.setRecW k v).recW j = if j = k then v else s.recW j := by
  simp [State.recW, State.setRecW]
@[simp] theorem State.setRecW_setRecW (s : State) (k : Nat) (v : W32) (v' : W32) : (s.setRecW k v).setRecW k v' = s.setRecW k v' := by
  simp [State.setRecW]
@[simp] theorem State.updRecW_eq (s : State) (k : Nat) (g : W32 → W32) : s.updRecW k g = s.setRecW k (g (s.recW k)) := rfl

/-! ### task -/

@[simp] theorem State.setTask_pending (s : State) (k : Nat) (v : Task) : (s.setTask k v).pending = s.pending := by delta State.setTask; rfl
@[simp] theorem State.setTask_free (s : State) (k : Nat) (v : Task) : (s.setTask k v).free = s.free := by delta State.setTask; rfl
@[simp] theorem State.setTask_regs (s : State) (k : Nat) (v : Task) : (s.setTask k v).regs = s.regs := by delta State.setTask; rfl
@[simp] theorem State.setTask_store (s : State) (k : Nat) (v : Task) : (s.setTask k v).store = s.store := by delta State.setTask; rfl
@[simp] theorem State.setTask_storeBad (s : State) (k : Nat) (v : Task) : (s.setTask k v).storeBad = s.storeBad := by delta State.setTask; rfl
@[simp] theorem State.setTask_clusters (s : State) (k : Nat) (v : Task) : (s.setTask k v).clusters = s.clusters := by delta State.setTask; rfl
@[simp] theorem State.setTask_recs (s : State) (k : Nat) (v : Task) : (s.setTask k v).recs = s.recs := by delta State.setTask; rfl
@[simp] theorem State.setTask_jobs (s : State) (k : Nat) (v : Task) : (s.setTask k v).jobs = s.jobs := by delta State.setTask; rfl
@[simp] theorem State.setTask_hostPins (s : State) (k : Nat) (v : Task) : (s.setTask k v).hostPins = s.hostPins := by delta State.setTask; rfl
@[simp] theorem State.setTask_mapClock (s : State) (k : Nat) (v : Task) : (s.setTask k v).mapClock = s.mapClock := by delta State.setTask; rfl
@[simp] theorem State.setTask_inSlots (s : State) (k : Nat) (v : Task) : (s.setTask k v).inSlots = s.inSlots := by delta State.setTask; rfl
@[simp] theorem State.setTask_outSlots (s : State) (k : Nat) (v : Task) : (s.setTask k v).outSlots = s.outSlots := by delta State.setTask; rfl
@[simp] theorem State.setTask_intSlots (s : State) (k : Nat) (v : Task) : (s.setTask k v).intSlots = s.intSlots := by delta State.setTask; rfl
@[simp] theorem State.setTask_alloc (s : State) (k : Nat) (v : Task) : (s.setTask k v).alloc = s.alloc := by delta State.setTask; rfl
@[simp] theorem State.setTask_calRec (s : State) (k : Nat) (v : Task) : (s.setTask k v).calRec = s.calRec := by delta State.setTask; rfl
@[simp] theorem State.setTask_cal (s : State) (k : Nat) (v : Task) : (s.setTask k v).cal = s.cal := by delta State.setTask; rfl
@[simp] theorem State.setTask_stoppedD (s : State) (k : Nat) (v : Task) : (s.setTask k v).stoppedD = s.stoppedD := by delta State.setTask; rfl
@[simp] theorem State.setTask_gens (s : State) (k : Nat) (v : Task) : (s.setTask k v).gens = s.gens := by delta State.setTask; rfl
@[simp] theorem State.setTask_genNum (s : State) (k : Nat) (v : Task) : (s.setTask k v).genNum = s.genNum := by delta State.setTask; rfl
@[simp] theorem State.setTask_baseline (s : State) (k : Nat) (v : Task) : (s.setTask k v).baseline = s.baseline := by delta State.setTask; rfl
@[simp] theorem State.setTask_baseDir (s : State) (k : Nat) (v : Task) : (s.setTask k v).baseDir = s.baseDir := by delta State.setTask; rfl
@[simp] theorem State.setTask_baseMem (s : State) (k : Nat) (v : Task) : (s.setTask k v).baseMem = s.baseMem := by delta State.setTask; rfl
@[simp] theorem State.setTask_genOrder (s : State) (k : Nat) (v : Task) : (s.setTask k v).genOrder = s.genOrder := by delta State.setTask; rfl
@[simp] theorem State.setTask_lineRec (s : State) (k : Nat) (v : Task) : (s.setTask k v).lineRec = s.lineRec := by delta State.setTask; rfl
@[simp] theorem State.setTask_partRec (s : State) (k : Nat) (v : Task) : (s.setTask k v).partRec = s.partRec := by delta State.setTask; rfl
@[simp] theorem State.setTask_lanes (s : State) (k : Nat) (v : Task) : (s.setTask k v).lanes = s.lanes := by delta State.setTask; rfl
@[simp] theorem State.setTask_partners (s : State) (k : Nat) (v : Task) : (s.setTask k v).partners = s.partners := by delta State.setTask; rfl
@[simp] theorem State.setTask_cores (s : State) (k : Nat) (v : Task) : (s.setTask k v).cores = s.cores := by delta State.setTask; rfl
@[simp] theorem State.setTask_ridge (s : State) (k : Nat) (v : Task) : (s.setTask k v).ridge = s.ridge := by delta State.setTask; rfl
@[simp] theorem State.setTask_sqs (s : State) (k : Nat) (v : Task) : (s.setTask k v).sqs = s.sqs := by delta State.setTask; rfl
@[simp] theorem State.setTask_cqs (s : State) (k : Nat) (v : Task) : (s.setTask k v).cqs = s.cqs := by delta State.setTask; rfl
@[simp] theorem State.setTask_engine (s : State) (k : Nat) (v : Task) : (s.setTask k v).engine = s.engine := by delta State.setTask; rfl
@[simp] theorem State.setTask_pcie (s : State) (k : Nat) (v : Task) : (s.setTask k v).pcie = s.pcie := by delta State.setTask; rfl
@[simp] theorem State.setTask_srcs (s : State) (k : Nat) (v : Task) : (s.setTask k v).srcs = s.srcs := by delta State.setTask; rfl
@[simp] theorem State.setTask_running (s : State) (k : Nat) (v : Task) : (s.setTask k v).running = s.running := by delta State.setTask; rfl
@[simp] theorem State.setTask_claims (s : State) (k : Nat) (v : Task) : (s.setTask k v).claims = s.claims := by delta State.setTask; rfl
@[simp] theorem State.setTask_dmas (s : State) (k : Nat) (v : Task) : (s.setTask k v).dmas = s.dmas := by delta State.setTask; rfl
@[simp] theorem State.setTask_dmaLast (s : State) (k : Nat) (v : Task) : (s.setTask k v).dmaLast = s.dmaLast := by delta State.setTask; rfl
@[simp] theorem State.setTask_latches (s : State) (k : Nat) (v : Task) : (s.setTask k v).latches = s.latches := by delta State.setTask; rfl
@[simp] theorem State.setTask_doms (s : State) (k : Nat) (v : Task) : (s.setTask k v).doms = s.doms := by delta State.setTask; rfl
@[simp] theorem State.setTask_clk (s : State) (k : Nat) (v : Task) : (s.setTask k v).clk = s.clk := by delta State.setTask; rfl
@[simp] theorem State.setTask_cald (s : State) (k : Nat) (v : Task) : (s.setTask k v).cald = s.cald := by delta State.setTask; rfl
@[simp] theorem State.setTask_misc (s : State) (k : Nat) (v : Task) : (s.setTask k v).misc = s.misc := by delta State.setTask; rfl
@[simp] theorem State.setTask_scrubs (s : State) (k : Nat) (v : Task) : (s.setTask k v).scrubs = s.scrubs := by delta State.setTask; rfl
@[simp] theorem State.setTask_heldBar (s : State) (k : Nat) (v : Task) : (s.setTask k v).heldBar = s.heldBar := by delta State.setTask; rfl
@[simp] theorem State.setTask_out (s : State) (k : Nat) (v : Task) : (s.setTask k v).out = s.out := by delta State.setTask; rfl
@[simp] theorem State.cluster_setTask (s : State) (k : Nat) (v : Task) (j : Nat) : (s.setTask k v).cluster j = s.cluster j := by delta State.setTask; rfl
@[simp] theorem State.recW_setTask (s : State) (k : Nat) (v : Task) (j : Nat) : (s.setTask k v).recW j = s.recW j := by delta State.setTask; rfl
@[simp] theorem State.inSlot_setTask (s : State) (k : Nat) (v : Task) (j : Nat) : (s.setTask k v).inSlot j = s.inSlot j := by delta State.setTask; rfl
@[simp] theorem State.outSlot_setTask (s : State) (k : Nat) (v : Task) (j : Nat) : (s.setTask k v).outSlot j = s.outSlot j := by delta State.setTask; rfl
@[simp] theorem State.intSlot_setTask (s : State) (k : Nat) (v : Task) (j : Nat) : (s.setTask k v).intSlot j = s.intSlot j := by delta State.setTask; rfl
@[simp] theorem State.cls_setTask (s : State) (k : Nat) (v : Task) (j : Nat) : (s.setTask k v).cls j = s.cls j := by delta State.setTask; rfl
@[simp] theorem State.calW_setTask (s : State) (k : Nat) (v : Task) (j : Nat) : (s.setTask k v).calW j = s.calW j := by delta State.setTask; rfl
@[simp] theorem State.calSlot_setTask (s : State) (k : Nat) (v : Task) (j : Nat) : (s.setTask k v).calSlot j = s.calSlot j := by delta State.setTask; rfl
@[simp] theorem State.gen_setTask (s : State) (k : Nat) (v : Task) (j : Nat) : (s.setTask k v).gen j = s.gen j := by delta State.setTask; rfl
@[simp] theorem State.lineW_setTask (s : State) (k : Nat) (v : Task) (j : Nat) : (s.setTask k v).lineW j = s.lineW j := by delta State.setTask; rfl
@[simp] theorem State.partW_setTask (s : State) (k : Nat) (v : Task) (j : Nat) : (s.setTask k v).partW j = s.partW j := by delta State.setTask; rfl
@[simp] theorem State.lane_setTask (s : State) (k : Nat) (v : Task) (j : Nat) : (s.setTask k v).lane j = s.lane j := by delta State.setTask; rfl
@[simp] theorem State.partner_setTask (s : State) (k : Nat) (v : Task) (j : Nat) : (s.setTask k v).partner j = s.partner j := by delta State.setTask; rfl
@[simp] theorem State.core_setTask (s : State) (k : Nat) (v : Task) (j : Nat) : (s.setTask k v).core j = s.core j := by delta State.setTask; rfl
@[simp] theorem State.sq_setTask (s : State) (k : Nat) (v : Task) (j : Nat) : (s.setTask k v).sq j = s.sq j := by delta State.setTask; rfl
@[simp] theorem State.cq_setTask (s : State) (k : Nat) (v : Task) (j : Nat) : (s.setTask k v).cq j = s.cq j := by delta State.setTask; rfl
@[simp] theorem State.src_setTask (s : State) (k : Nat) (v : Task) (j : Nat) : (s.setTask k v).src j = s.src j := by delta State.setTask; rfl
@[simp] theorem State.stack_setTask (s : State) (k : Nat) (v : Task) (j : Nat) : (s.setTask k v).stack j = s.stack j := by delta State.setTask; rfl
@[simp] theorem State.claimed_setTask (s : State) (k : Nat) (v : Task) (j : Nat) : (s.setTask k v).claimed j = s.claimed j := by delta State.setTask; rfl
@[simp] theorem State.dma_setTask (s : State) (k : Nat) (v : Task) (j : Nat) : (s.setTask k v).dma j = s.dma j := by delta State.setTask; rfl
@[simp] theorem State.latch_setTask (s : State) (k : Nat) (v : Task) (j : Nat) : (s.setTask k v).latch j = s.latch j := by delta State.setTask; rfl
@[simp] theorem State.dom_setTask (s : State) (k : Nat) (v : Task) (j : Nat) : (s.setTask k v).dom j = s.dom j := by delta State.setTask; rfl
@[simp] theorem State.scr_setTask (s : State) (k : Nat) (v : Task) (j : Nat) : (s.setTask k v).scr j = s.scr j := by delta State.setTask; rfl
@[simp] theorem State.reg_setTask (s : State) (k : Nat) (v : Task) (r : Reg) : (s.setTask k v).reg r = s.reg r := by delta State.setTask; rfl
@[simp] theorem State.task_setTask (s : State) (k : Nat) (v : Task) (j : Nat) : (s.setTask k v).task j = if j = k then v else s.task j := by
  simp [State.task, State.setTask]
@[simp] theorem State.setTask_setTask (s : State) (k : Nat) (v : Task) (v' : Task) : (s.setTask k v).setTask k v' = s.setTask k v' := by
  simp [State.setTask]
@[simp] theorem State.updTask_eq (s : State) (k : Nat) (g : Task → Task) : s.updTask k g = s.setTask k (g (s.task k)) := rfl

/-! ### inSlot -/

@[simp] theorem State.setInSlot_pending (s : State) (k : Nat) (v : Slot) : (s.setInSlot k v).pending = s.pending := by delta State.setInSlot; rfl
@[simp] theorem State.setInSlot_free (s : State) (k : Nat) (v : Slot) : (s.setInSlot k v).free = s.free := by delta State.setInSlot; rfl
@[simp] theorem State.setInSlot_regs (s : State) (k : Nat) (v : Slot) : (s.setInSlot k v).regs = s.regs := by delta State.setInSlot; rfl
@[simp] theorem State.setInSlot_store (s : State) (k : Nat) (v : Slot) : (s.setInSlot k v).store = s.store := by delta State.setInSlot; rfl
@[simp] theorem State.setInSlot_storeBad (s : State) (k : Nat) (v : Slot) : (s.setInSlot k v).storeBad = s.storeBad := by delta State.setInSlot; rfl
@[simp] theorem State.setInSlot_clusters (s : State) (k : Nat) (v : Slot) : (s.setInSlot k v).clusters = s.clusters := by delta State.setInSlot; rfl
@[simp] theorem State.setInSlot_recs (s : State) (k : Nat) (v : Slot) : (s.setInSlot k v).recs = s.recs := by delta State.setInSlot; rfl
@[simp] theorem State.setInSlot_tasks (s : State) (k : Nat) (v : Slot) : (s.setInSlot k v).tasks = s.tasks := by delta State.setInSlot; rfl
@[simp] theorem State.setInSlot_jobs (s : State) (k : Nat) (v : Slot) : (s.setInSlot k v).jobs = s.jobs := by delta State.setInSlot; rfl
@[simp] theorem State.setInSlot_hostPins (s : State) (k : Nat) (v : Slot) : (s.setInSlot k v).hostPins = s.hostPins := by delta State.setInSlot; rfl
@[simp] theorem State.setInSlot_mapClock (s : State) (k : Nat) (v : Slot) : (s.setInSlot k v).mapClock = s.mapClock := by delta State.setInSlot; rfl
@[simp] theorem State.setInSlot_outSlots (s : State) (k : Nat) (v : Slot) : (s.setInSlot k v).outSlots = s.outSlots := by delta State.setInSlot; rfl
@[simp] theorem State.setInSlot_intSlots (s : State) (k : Nat) (v : Slot) : (s.setInSlot k v).intSlots = s.intSlots := by delta State.setInSlot; rfl
@[simp] theorem State.setInSlot_alloc (s : State) (k : Nat) (v : Slot) : (s.setInSlot k v).alloc = s.alloc := by delta State.setInSlot; rfl
@[simp] theorem State.setInSlot_calRec (s : State) (k : Nat) (v : Slot) : (s.setInSlot k v).calRec = s.calRec := by delta State.setInSlot; rfl
@[simp] theorem State.setInSlot_cal (s : State) (k : Nat) (v : Slot) : (s.setInSlot k v).cal = s.cal := by delta State.setInSlot; rfl
@[simp] theorem State.setInSlot_stoppedD (s : State) (k : Nat) (v : Slot) : (s.setInSlot k v).stoppedD = s.stoppedD := by delta State.setInSlot; rfl
@[simp] theorem State.setInSlot_gens (s : State) (k : Nat) (v : Slot) : (s.setInSlot k v).gens = s.gens := by delta State.setInSlot; rfl
@[simp] theorem State.setInSlot_genNum (s : State) (k : Nat) (v : Slot) : (s.setInSlot k v).genNum = s.genNum := by delta State.setInSlot; rfl
@[simp] theorem State.setInSlot_baseline (s : State) (k : Nat) (v : Slot) : (s.setInSlot k v).baseline = s.baseline := by delta State.setInSlot; rfl
@[simp] theorem State.setInSlot_baseDir (s : State) (k : Nat) (v : Slot) : (s.setInSlot k v).baseDir = s.baseDir := by delta State.setInSlot; rfl
@[simp] theorem State.setInSlot_baseMem (s : State) (k : Nat) (v : Slot) : (s.setInSlot k v).baseMem = s.baseMem := by delta State.setInSlot; rfl
@[simp] theorem State.setInSlot_genOrder (s : State) (k : Nat) (v : Slot) : (s.setInSlot k v).genOrder = s.genOrder := by delta State.setInSlot; rfl
@[simp] theorem State.setInSlot_lineRec (s : State) (k : Nat) (v : Slot) : (s.setInSlot k v).lineRec = s.lineRec := by delta State.setInSlot; rfl
@[simp] theorem State.setInSlot_partRec (s : State) (k : Nat) (v : Slot) : (s.setInSlot k v).partRec = s.partRec := by delta State.setInSlot; rfl
@[simp] theorem State.setInSlot_lanes (s : State) (k : Nat) (v : Slot) : (s.setInSlot k v).lanes = s.lanes := by delta State.setInSlot; rfl
@[simp] theorem State.setInSlot_partners (s : State) (k : Nat) (v : Slot) : (s.setInSlot k v).partners = s.partners := by delta State.setInSlot; rfl
@[simp] theorem State.setInSlot_cores (s : State) (k : Nat) (v : Slot) : (s.setInSlot k v).cores = s.cores := by delta State.setInSlot; rfl
@[simp] theorem State.setInSlot_ridge (s : State) (k : Nat) (v : Slot) : (s.setInSlot k v).ridge = s.ridge := by delta State.setInSlot; rfl
@[simp] theorem State.setInSlot_sqs (s : State) (k : Nat) (v : Slot) : (s.setInSlot k v).sqs = s.sqs := by delta State.setInSlot; rfl
@[simp] theorem State.setInSlot_cqs (s : State) (k : Nat) (v : Slot) : (s.setInSlot k v).cqs = s.cqs := by delta State.setInSlot; rfl
@[simp] theorem State.setInSlot_engine (s : State) (k : Nat) (v : Slot) : (s.setInSlot k v).engine = s.engine := by delta State.setInSlot; rfl
@[simp] theorem State.setInSlot_pcie (s : State) (k : Nat) (v : Slot) : (s.setInSlot k v).pcie = s.pcie := by delta State.setInSlot; rfl
@[simp] theorem State.setInSlot_srcs (s : State) (k : Nat) (v : Slot) : (s.setInSlot k v).srcs = s.srcs := by delta State.setInSlot; rfl
@[simp] theorem State.setInSlot_running (s : State) (k : Nat) (v : Slot) : (s.setInSlot k v).running = s.running := by delta State.setInSlot; rfl
@[simp] theorem State.setInSlot_claims (s : State) (k : Nat) (v : Slot) : (s.setInSlot k v).claims = s.claims := by delta State.setInSlot; rfl
@[simp] theorem State.setInSlot_dmas (s : State) (k : Nat) (v : Slot) : (s.setInSlot k v).dmas = s.dmas := by delta State.setInSlot; rfl
@[simp] theorem State.setInSlot_dmaLast (s : State) (k : Nat) (v : Slot) : (s.setInSlot k v).dmaLast = s.dmaLast := by delta State.setInSlot; rfl
@[simp] theorem State.setInSlot_latches (s : State) (k : Nat) (v : Slot) : (s.setInSlot k v).latches = s.latches := by delta State.setInSlot; rfl
@[simp] theorem State.setInSlot_doms (s : State) (k : Nat) (v : Slot) : (s.setInSlot k v).doms = s.doms := by delta State.setInSlot; rfl
@[simp] theorem State.setInSlot_clk (s : State) (k : Nat) (v : Slot) : (s.setInSlot k v).clk = s.clk := by delta State.setInSlot; rfl
@[simp] theorem State.setInSlot_cald (s : State) (k : Nat) (v : Slot) : (s.setInSlot k v).cald = s.cald := by delta State.setInSlot; rfl
@[simp] theorem State.setInSlot_misc (s : State) (k : Nat) (v : Slot) : (s.setInSlot k v).misc = s.misc := by delta State.setInSlot; rfl
@[simp] theorem State.setInSlot_scrubs (s : State) (k : Nat) (v : Slot) : (s.setInSlot k v).scrubs = s.scrubs := by delta State.setInSlot; rfl
@[simp] theorem State.setInSlot_heldBar (s : State) (k : Nat) (v : Slot) : (s.setInSlot k v).heldBar = s.heldBar := by delta State.setInSlot; rfl
@[simp] theorem State.setInSlot_out (s : State) (k : Nat) (v : Slot) : (s.setInSlot k v).out = s.out := by delta State.setInSlot; rfl
@[simp] theorem State.cluster_setInSlot (s : State) (k : Nat) (v : Slot) (j : Nat) : (s.setInSlot k v).cluster j = s.cluster j := by delta State.setInSlot; rfl
@[simp] theorem State.recW_setInSlot (s : State) (k : Nat) (v : Slot) (j : Nat) : (s.setInSlot k v).recW j = s.recW j := by delta State.setInSlot; rfl
@[simp] theorem State.task_setInSlot (s : State) (k : Nat) (v : Slot) (j : Nat) : (s.setInSlot k v).task j = s.task j := by delta State.setInSlot; rfl
@[simp] theorem State.outSlot_setInSlot (s : State) (k : Nat) (v : Slot) (j : Nat) : (s.setInSlot k v).outSlot j = s.outSlot j := by delta State.setInSlot; rfl
@[simp] theorem State.intSlot_setInSlot (s : State) (k : Nat) (v : Slot) (j : Nat) : (s.setInSlot k v).intSlot j = s.intSlot j := by delta State.setInSlot; rfl
@[simp] theorem State.cls_setInSlot (s : State) (k : Nat) (v : Slot) (j : Nat) : (s.setInSlot k v).cls j = s.cls j := by delta State.setInSlot; rfl
@[simp] theorem State.calW_setInSlot (s : State) (k : Nat) (v : Slot) (j : Nat) : (s.setInSlot k v).calW j = s.calW j := by delta State.setInSlot; rfl
@[simp] theorem State.calSlot_setInSlot (s : State) (k : Nat) (v : Slot) (j : Nat) : (s.setInSlot k v).calSlot j = s.calSlot j := by delta State.setInSlot; rfl
@[simp] theorem State.gen_setInSlot (s : State) (k : Nat) (v : Slot) (j : Nat) : (s.setInSlot k v).gen j = s.gen j := by delta State.setInSlot; rfl
@[simp] theorem State.lineW_setInSlot (s : State) (k : Nat) (v : Slot) (j : Nat) : (s.setInSlot k v).lineW j = s.lineW j := by delta State.setInSlot; rfl
@[simp] theorem State.partW_setInSlot (s : State) (k : Nat) (v : Slot) (j : Nat) : (s.setInSlot k v).partW j = s.partW j := by delta State.setInSlot; rfl
@[simp] theorem State.lane_setInSlot (s : State) (k : Nat) (v : Slot) (j : Nat) : (s.setInSlot k v).lane j = s.lane j := by delta State.setInSlot; rfl
@[simp] theorem State.partner_setInSlot (s : State) (k : Nat) (v : Slot) (j : Nat) : (s.setInSlot k v).partner j = s.partner j := by delta State.setInSlot; rfl
@[simp] theorem State.core_setInSlot (s : State) (k : Nat) (v : Slot) (j : Nat) : (s.setInSlot k v).core j = s.core j := by delta State.setInSlot; rfl
@[simp] theorem State.sq_setInSlot (s : State) (k : Nat) (v : Slot) (j : Nat) : (s.setInSlot k v).sq j = s.sq j := by delta State.setInSlot; rfl
@[simp] theorem State.cq_setInSlot (s : State) (k : Nat) (v : Slot) (j : Nat) : (s.setInSlot k v).cq j = s.cq j := by delta State.setInSlot; rfl
@[simp] theorem State.src_setInSlot (s : State) (k : Nat) (v : Slot) (j : Nat) : (s.setInSlot k v).src j = s.src j := by delta State.setInSlot; rfl
@[simp] theorem State.stack_setInSlot (s : State) (k : Nat) (v : Slot) (j : Nat) : (s.setInSlot k v).stack j = s.stack j := by delta State.setInSlot; rfl
@[simp] theorem State.claimed_setInSlot (s : State) (k : Nat) (v : Slot) (j : Nat) : (s.setInSlot k v).claimed j = s.claimed j := by delta State.setInSlot; rfl
@[simp] theorem State.dma_setInSlot (s : State) (k : Nat) (v : Slot) (j : Nat) : (s.setInSlot k v).dma j = s.dma j := by delta State.setInSlot; rfl
@[simp] theorem State.latch_setInSlot (s : State) (k : Nat) (v : Slot) (j : Nat) : (s.setInSlot k v).latch j = s.latch j := by delta State.setInSlot; rfl
@[simp] theorem State.dom_setInSlot (s : State) (k : Nat) (v : Slot) (j : Nat) : (s.setInSlot k v).dom j = s.dom j := by delta State.setInSlot; rfl
@[simp] theorem State.scr_setInSlot (s : State) (k : Nat) (v : Slot) (j : Nat) : (s.setInSlot k v).scr j = s.scr j := by delta State.setInSlot; rfl
@[simp] theorem State.reg_setInSlot (s : State) (k : Nat) (v : Slot) (r : Reg) : (s.setInSlot k v).reg r = s.reg r := by delta State.setInSlot; rfl
@[simp] theorem State.inSlot_setInSlot (s : State) (k : Nat) (v : Slot) (j : Nat) : (s.setInSlot k v).inSlot j = if j = k then v else s.inSlot j := by
  simp [State.inSlot, State.setInSlot]
@[simp] theorem State.setInSlot_setInSlot (s : State) (k : Nat) (v : Slot) (v' : Slot) : (s.setInSlot k v).setInSlot k v' = s.setInSlot k v' := by
  simp [State.setInSlot]
@[simp] theorem State.updInSlot_eq (s : State) (k : Nat) (g : Slot → Slot) : s.updInSlot k g = s.setInSlot k (g (s.inSlot k)) := rfl

/-! ### outSlot -/

@[simp] theorem State.setOutSlot_pending (s : State) (k : Nat) (v : Slot) : (s.setOutSlot k v).pending = s.pending := by delta State.setOutSlot; rfl
@[simp] theorem State.setOutSlot_free (s : State) (k : Nat) (v : Slot) : (s.setOutSlot k v).free = s.free := by delta State.setOutSlot; rfl
@[simp] theorem State.setOutSlot_regs (s : State) (k : Nat) (v : Slot) : (s.setOutSlot k v).regs = s.regs := by delta State.setOutSlot; rfl
@[simp] theorem State.setOutSlot_store (s : State) (k : Nat) (v : Slot) : (s.setOutSlot k v).store = s.store := by delta State.setOutSlot; rfl
@[simp] theorem State.setOutSlot_storeBad (s : State) (k : Nat) (v : Slot) : (s.setOutSlot k v).storeBad = s.storeBad := by delta State.setOutSlot; rfl
@[simp] theorem State.setOutSlot_clusters (s : State) (k : Nat) (v : Slot) : (s.setOutSlot k v).clusters = s.clusters := by delta State.setOutSlot; rfl
@[simp] theorem State.setOutSlot_recs (s : State) (k : Nat) (v : Slot) : (s.setOutSlot k v).recs = s.recs := by delta State.setOutSlot; rfl
@[simp] theorem State.setOutSlot_tasks (s : State) (k : Nat) (v : Slot) : (s.setOutSlot k v).tasks = s.tasks := by delta State.setOutSlot; rfl
@[simp] theorem State.setOutSlot_jobs (s : State) (k : Nat) (v : Slot) : (s.setOutSlot k v).jobs = s.jobs := by delta State.setOutSlot; rfl
@[simp] theorem State.setOutSlot_hostPins (s : State) (k : Nat) (v : Slot) : (s.setOutSlot k v).hostPins = s.hostPins := by delta State.setOutSlot; rfl
@[simp] theorem State.setOutSlot_mapClock (s : State) (k : Nat) (v : Slot) : (s.setOutSlot k v).mapClock = s.mapClock := by delta State.setOutSlot; rfl
@[simp] theorem State.setOutSlot_inSlots (s : State) (k : Nat) (v : Slot) : (s.setOutSlot k v).inSlots = s.inSlots := by delta State.setOutSlot; rfl
@[simp] theorem State.setOutSlot_intSlots (s : State) (k : Nat) (v : Slot) : (s.setOutSlot k v).intSlots = s.intSlots := by delta State.setOutSlot; rfl
@[simp] theorem State.setOutSlot_alloc (s : State) (k : Nat) (v : Slot) : (s.setOutSlot k v).alloc = s.alloc := by delta State.setOutSlot; rfl
@[simp] theorem State.setOutSlot_calRec (s : State) (k : Nat) (v : Slot) : (s.setOutSlot k v).calRec = s.calRec := by delta State.setOutSlot; rfl
@[simp] theorem State.setOutSlot_cal (s : State) (k : Nat) (v : Slot) : (s.setOutSlot k v).cal = s.cal := by delta State.setOutSlot; rfl
@[simp] theorem State.setOutSlot_stoppedD (s : State) (k : Nat) (v : Slot) : (s.setOutSlot k v).stoppedD = s.stoppedD := by delta State.setOutSlot; rfl
@[simp] theorem State.setOutSlot_gens (s : State) (k : Nat) (v : Slot) : (s.setOutSlot k v).gens = s.gens := by delta State.setOutSlot; rfl
@[simp] theorem State.setOutSlot_genNum (s : State) (k : Nat) (v : Slot) : (s.setOutSlot k v).genNum = s.genNum := by delta State.setOutSlot; rfl
@[simp] theorem State.setOutSlot_baseline (s : State) (k : Nat) (v : Slot) : (s.setOutSlot k v).baseline = s.baseline := by delta State.setOutSlot; rfl
@[simp] theorem State.setOutSlot_baseDir (s : State) (k : Nat) (v : Slot) : (s.setOutSlot k v).baseDir = s.baseDir := by delta State.setOutSlot; rfl
@[simp] theorem State.setOutSlot_baseMem (s : State) (k : Nat) (v : Slot) : (s.setOutSlot k v).baseMem = s.baseMem := by delta State.setOutSlot; rfl
@[simp] theorem State.setOutSlot_genOrder (s : State) (k : Nat) (v : Slot) : (s.setOutSlot k v).genOrder = s.genOrder := by delta State.setOutSlot; rfl
@[simp] theorem State.setOutSlot_lineRec (s : State) (k : Nat) (v : Slot) : (s.setOutSlot k v).lineRec = s.lineRec := by delta State.setOutSlot; rfl
@[simp] theorem State.setOutSlot_partRec (s : State) (k : Nat) (v : Slot) : (s.setOutSlot k v).partRec = s.partRec := by delta State.setOutSlot; rfl
@[simp] theorem State.setOutSlot_lanes (s : State) (k : Nat) (v : Slot) : (s.setOutSlot k v).lanes = s.lanes := by delta State.setOutSlot; rfl
@[simp] theorem State.setOutSlot_partners (s : State) (k : Nat) (v : Slot) : (s.setOutSlot k v).partners = s.partners := by delta State.setOutSlot; rfl
@[simp] theorem State.setOutSlot_cores (s : State) (k : Nat) (v : Slot) : (s.setOutSlot k v).cores = s.cores := by delta State.setOutSlot; rfl
@[simp] theorem State.setOutSlot_ridge (s : State) (k : Nat) (v : Slot) : (s.setOutSlot k v).ridge = s.ridge := by delta State.setOutSlot; rfl
@[simp] theorem State.setOutSlot_sqs (s : State) (k : Nat) (v : Slot) : (s.setOutSlot k v).sqs = s.sqs := by delta State.setOutSlot; rfl
@[simp] theorem State.setOutSlot_cqs (s : State) (k : Nat) (v : Slot) : (s.setOutSlot k v).cqs = s.cqs := by delta State.setOutSlot; rfl
@[simp] theorem State.setOutSlot_engine (s : State) (k : Nat) (v : Slot) : (s.setOutSlot k v).engine = s.engine := by delta State.setOutSlot; rfl
@[simp] theorem State.setOutSlot_pcie (s : State) (k : Nat) (v : Slot) : (s.setOutSlot k v).pcie = s.pcie := by delta State.setOutSlot; rfl
@[simp] theorem State.setOutSlot_srcs (s : State) (k : Nat) (v : Slot) : (s.setOutSlot k v).srcs = s.srcs := by delta State.setOutSlot; rfl
@[simp] theorem State.setOutSlot_running (s : State) (k : Nat) (v : Slot) : (s.setOutSlot k v).running = s.running := by delta State.setOutSlot; rfl
@[simp] theorem State.setOutSlot_claims (s : State) (k : Nat) (v : Slot) : (s.setOutSlot k v).claims = s.claims := by delta State.setOutSlot; rfl
@[simp] theorem State.setOutSlot_dmas (s : State) (k : Nat) (v : Slot) : (s.setOutSlot k v).dmas = s.dmas := by delta State.setOutSlot; rfl
@[simp] theorem State.setOutSlot_dmaLast (s : State) (k : Nat) (v : Slot) : (s.setOutSlot k v).dmaLast = s.dmaLast := by delta State.setOutSlot; rfl
@[simp] theorem State.setOutSlot_latches (s : State) (k : Nat) (v : Slot) : (s.setOutSlot k v).latches = s.latches := by delta State.setOutSlot; rfl
@[simp] theorem State.setOutSlot_doms (s : State) (k : Nat) (v : Slot) : (s.setOutSlot k v).doms = s.doms := by delta State.setOutSlot; rfl
@[simp] theorem State.setOutSlot_clk (s : State) (k : Nat) (v : Slot) : (s.setOutSlot k v).clk = s.clk := by delta State.setOutSlot; rfl
@[simp] theorem State.setOutSlot_cald (s : State) (k : Nat) (v : Slot) : (s.setOutSlot k v).cald = s.cald := by delta State.setOutSlot; rfl
@[simp] theorem State.setOutSlot_misc (s : State) (k : Nat) (v : Slot) : (s.setOutSlot k v).misc = s.misc := by delta State.setOutSlot; rfl
@[simp] theorem State.setOutSlot_scrubs (s : State) (k : Nat) (v : Slot) : (s.setOutSlot k v).scrubs = s.scrubs := by delta State.setOutSlot; rfl
@[simp] theorem State.setOutSlot_heldBar (s : State) (k : Nat) (v : Slot) : (s.setOutSlot k v).heldBar = s.heldBar := by delta State.setOutSlot; rfl
@[simp] theorem State.setOutSlot_out (s : State) (k : Nat) (v : Slot) : (s.setOutSlot k v).out = s.out := by delta State.setOutSlot; rfl
@[simp] theorem State.cluster_setOutSlot (s : State) (k : Nat) (v : Slot) (j : Nat) : (s.setOutSlot k v).cluster j = s.cluster j := by delta State.setOutSlot; rfl
@[simp] theorem State.recW_setOutSlot (s : State) (k : Nat) (v : Slot) (j : Nat) : (s.setOutSlot k v).recW j = s.recW j := by delta State.setOutSlot; rfl
@[simp] theorem State.task_setOutSlot (s : State) (k : Nat) (v : Slot) (j : Nat) : (s.setOutSlot k v).task j = s.task j := by delta State.setOutSlot; rfl
@[simp] theorem State.inSlot_setOutSlot (s : State) (k : Nat) (v : Slot) (j : Nat) : (s.setOutSlot k v).inSlot j = s.inSlot j := by delta State.setOutSlot; rfl
@[simp] theorem State.intSlot_setOutSlot (s : State) (k : Nat) (v : Slot) (j : Nat) : (s.setOutSlot k v).intSlot j = s.intSlot j := by delta State.setOutSlot; rfl
@[simp] theorem State.cls_setOutSlot (s : State) (k : Nat) (v : Slot) (j : Nat) : (s.setOutSlot k v).cls j = s.cls j := by delta State.setOutSlot; rfl
@[simp] theorem State.calW_setOutSlot (s : State) (k : Nat) (v : Slot) (j : Nat) : (s.setOutSlot k v).calW j = s.calW j := by delta State.setOutSlot; rfl
@[simp] theorem State.calSlot_setOutSlot (s : State) (k : Nat) (v : Slot) (j : Nat) : (s.setOutSlot k v).calSlot j = s.calSlot j := by delta State.setOutSlot; rfl
@[simp] theorem State.gen_setOutSlot (s : State) (k : Nat) (v : Slot) (j : Nat) : (s.setOutSlot k v).gen j = s.gen j := by delta State.setOutSlot; rfl
@[simp] theorem State.lineW_setOutSlot (s : State) (k : Nat) (v : Slot) (j : Nat) : (s.setOutSlot k v).lineW j = s.lineW j := by delta State.setOutSlot; rfl
@[simp] theorem State.partW_setOutSlot (s : State) (k : Nat) (v : Slot) (j : Nat) : (s.setOutSlot k v).partW j = s.partW j := by delta State.setOutSlot; rfl
@[simp] theorem State.lane_setOutSlot (s : State) (k : Nat) (v : Slot) (j : Nat) : (s.setOutSlot k v).lane j = s.lane j := by delta State.setOutSlot; rfl
@[simp] theorem State.partner_setOutSlot (s : State) (k : Nat) (v : Slot) (j : Nat) : (s.setOutSlot k v).partner j = s.partner j := by delta State.setOutSlot; rfl
@[simp] theorem State.core_setOutSlot (s : State) (k : Nat) (v : Slot) (j : Nat) : (s.setOutSlot k v).core j = s.core j := by delta State.setOutSlot; rfl
@[simp] theorem State.sq_setOutSlot (s : State) (k : Nat) (v : Slot) (j : Nat) : (s.setOutSlot k v).sq j = s.sq j := by delta State.setOutSlot; rfl
@[simp] theorem State.cq_setOutSlot (s : State) (k : Nat) (v : Slot) (j : Nat) : (s.setOutSlot k v).cq j = s.cq j := by delta State.setOutSlot; rfl
@[simp] theorem State.src_setOutSlot (s : State) (k : Nat) (v : Slot) (j : Nat) : (s.setOutSlot k v).src j = s.src j := by delta State.setOutSlot; rfl
@[simp] theorem State.stack_setOutSlot (s : State) (k : Nat) (v : Slot) (j : Nat) : (s.setOutSlot k v).stack j = s.stack j := by delta State.setOutSlot; rfl
@[simp] theorem State.claimed_setOutSlot (s : State) (k : Nat) (v : Slot) (j : Nat) : (s.setOutSlot k v).claimed j = s.claimed j := by delta State.setOutSlot; rfl
@[simp] theorem State.dma_setOutSlot (s : State) (k : Nat) (v : Slot) (j : Nat) : (s.setOutSlot k v).dma j = s.dma j := by delta State.setOutSlot; rfl
@[simp] theorem State.latch_setOutSlot (s : State) (k : Nat) (v : Slot) (j : Nat) : (s.setOutSlot k v).latch j = s.latch j := by delta State.setOutSlot; rfl
@[simp] theorem State.dom_setOutSlot (s : State) (k : Nat) (v : Slot) (j : Nat) : (s.setOutSlot k v).dom j = s.dom j := by delta State.setOutSlot; rfl
@[simp] theorem State.scr_setOutSlot (s : State) (k : Nat) (v : Slot) (j : Nat) : (s.setOutSlot k v).scr j = s.scr j := by delta State.setOutSlot; rfl
@[simp] theorem State.reg_setOutSlot (s : State) (k : Nat) (v : Slot) (r : Reg) : (s.setOutSlot k v).reg r = s.reg r := by delta State.setOutSlot; rfl
@[simp] theorem State.outSlot_setOutSlot (s : State) (k : Nat) (v : Slot) (j : Nat) : (s.setOutSlot k v).outSlot j = if j = k then v else s.outSlot j := by
  simp [State.outSlot, State.setOutSlot]
@[simp] theorem State.setOutSlot_setOutSlot (s : State) (k : Nat) (v : Slot) (v' : Slot) : (s.setOutSlot k v).setOutSlot k v' = s.setOutSlot k v' := by
  simp [State.setOutSlot]
@[simp] theorem State.updOutSlot_eq (s : State) (k : Nat) (g : Slot → Slot) : s.updOutSlot k g = s.setOutSlot k (g (s.outSlot k)) := rfl

/-! ### intSlot -/

@[simp] theorem State.setIntSlot_pending (s : State) (k : Nat) (v : Slot) : (s.setIntSlot k v).pending = s.pending := by delta State.setIntSlot; rfl
@[simp] theorem State.setIntSlot_free (s : State) (k : Nat) (v : Slot) : (s.setIntSlot k v).free = s.free := by delta State.setIntSlot; rfl
@[simp] theorem State.setIntSlot_regs (s : State) (k : Nat) (v : Slot) : (s.setIntSlot k v).regs = s.regs := by delta State.setIntSlot; rfl
@[simp] theorem State.setIntSlot_store (s : State) (k : Nat) (v : Slot) : (s.setIntSlot k v).store = s.store := by delta State.setIntSlot; rfl
@[simp] theorem State.setIntSlot_storeBad (s : State) (k : Nat) (v : Slot) : (s.setIntSlot k v).storeBad = s.storeBad := by delta State.setIntSlot; rfl
@[simp] theorem State.setIntSlot_clusters (s : State) (k : Nat) (v : Slot) : (s.setIntSlot k v).clusters = s.clusters := by delta State.setIntSlot; rfl
@[simp] theorem State.setIntSlot_recs (s : State) (k : Nat) (v : Slot) : (s.setIntSlot k v).recs = s.recs := by delta State.setIntSlot; rfl
@[simp] theorem State.setIntSlot_tasks (s : State) (k : Nat) (v : Slot) : (s.setIntSlot k v).tasks = s.tasks := by delta State.setIntSlot; rfl
@[simp] theorem State.setIntSlot_jobs (s : State) (k : Nat) (v : Slot) : (s.setIntSlot k v).jobs = s.jobs := by delta State.setIntSlot; rfl
@[simp] theorem State.setIntSlot_hostPins (s : State) (k : Nat) (v : Slot) : (s.setIntSlot k v).hostPins = s.hostPins := by delta State.setIntSlot; rfl
@[simp] theorem State.setIntSlot_mapClock (s : State) (k : Nat) (v : Slot) : (s.setIntSlot k v).mapClock = s.mapClock := by delta State.setIntSlot; rfl
@[simp] theorem State.setIntSlot_inSlots (s : State) (k : Nat) (v : Slot) : (s.setIntSlot k v).inSlots = s.inSlots := by delta State.setIntSlot; rfl
@[simp] theorem State.setIntSlot_outSlots (s : State) (k : Nat) (v : Slot) : (s.setIntSlot k v).outSlots = s.outSlots := by delta State.setIntSlot; rfl
@[simp] theorem State.setIntSlot_alloc (s : State) (k : Nat) (v : Slot) : (s.setIntSlot k v).alloc = s.alloc := by delta State.setIntSlot; rfl
@[simp] theorem State.setIntSlot_calRec (s : State) (k : Nat) (v : Slot) : (s.setIntSlot k v).calRec = s.calRec := by delta State.setIntSlot; rfl
@[simp] theorem State.setIntSlot_cal (s : State) (k : Nat) (v : Slot) : (s.setIntSlot k v).cal = s.cal := by delta State.setIntSlot; rfl
@[simp] theorem State.setIntSlot_stoppedD (s : State) (k : Nat) (v : Slot) : (s.setIntSlot k v).stoppedD = s.stoppedD := by delta State.setIntSlot; rfl
@[simp] theorem State.setIntSlot_gens (s : State) (k : Nat) (v : Slot) : (s.setIntSlot k v).gens = s.gens := by delta State.setIntSlot; rfl
@[simp] theorem State.setIntSlot_genNum (s : State) (k : Nat) (v : Slot) : (s.setIntSlot k v).genNum = s.genNum := by delta State.setIntSlot; rfl
@[simp] theorem State.setIntSlot_baseline (s : State) (k : Nat) (v : Slot) : (s.setIntSlot k v).baseline = s.baseline := by delta State.setIntSlot; rfl
@[simp] theorem State.setIntSlot_baseDir (s : State) (k : Nat) (v : Slot) : (s.setIntSlot k v).baseDir = s.baseDir := by delta State.setIntSlot; rfl
@[simp] theorem State.setIntSlot_baseMem (s : State) (k : Nat) (v : Slot) : (s.setIntSlot k v).baseMem = s.baseMem := by delta State.setIntSlot; rfl
@[simp] theorem State.setIntSlot_genOrder (s : State) (k : Nat) (v : Slot) : (s.setIntSlot k v).genOrder = s.genOrder := by delta State.setIntSlot; rfl
@[simp] theorem State.setIntSlot_lineRec (s : State) (k : Nat) (v : Slot) : (s.setIntSlot k v).lineRec = s.lineRec := by delta State.setIntSlot; rfl
@[simp] theorem State.setIntSlot_partRec (s : State) (k : Nat) (v : Slot) : (s.setIntSlot k v).partRec = s.partRec := by delta State.setIntSlot; rfl
@[simp] theorem State.setIntSlot_lanes (s : State) (k : Nat) (v : Slot) : (s.setIntSlot k v).lanes = s.lanes := by delta State.setIntSlot; rfl
@[simp] theorem State.setIntSlot_partners (s : State) (k : Nat) (v : Slot) : (s.setIntSlot k v).partners = s.partners := by delta State.setIntSlot; rfl
@[simp] theorem State.setIntSlot_cores (s : State) (k : Nat) (v : Slot) : (s.setIntSlot k v).cores = s.cores := by delta State.setIntSlot; rfl
@[simp] theorem State.setIntSlot_ridge (s : State) (k : Nat) (v : Slot) : (s.setIntSlot k v).ridge = s.ridge := by delta State.setIntSlot; rfl
@[simp] theorem State.setIntSlot_sqs (s : State) (k : Nat) (v : Slot) : (s.setIntSlot k v).sqs = s.sqs := by delta State.setIntSlot; rfl
@[simp] theorem State.setIntSlot_cqs (s : State) (k : Nat) (v : Slot) : (s.setIntSlot k v).cqs = s.cqs := by delta State.setIntSlot; rfl
@[simp] theorem State.setIntSlot_engine (s : State) (k : Nat) (v : Slot) : (s.setIntSlot k v).engine = s.engine := by delta State.setIntSlot; rfl
@[simp] theorem State.setIntSlot_pcie (s : State) (k : Nat) (v : Slot) : (s.setIntSlot k v).pcie = s.pcie := by delta State.setIntSlot; rfl
@[simp] theorem State.setIntSlot_srcs (s : State) (k : Nat) (v : Slot) : (s.setIntSlot k v).srcs = s.srcs := by delta State.setIntSlot; rfl
@[simp] theorem State.setIntSlot_running (s : State) (k : Nat) (v : Slot) : (s.setIntSlot k v).running = s.running := by delta State.setIntSlot; rfl
@[simp] theorem State.setIntSlot_claims (s : State) (k : Nat) (v : Slot) : (s.setIntSlot k v).claims = s.claims := by delta State.setIntSlot; rfl
@[simp] theorem State.setIntSlot_dmas (s : State) (k : Nat) (v : Slot) : (s.setIntSlot k v).dmas = s.dmas := by delta State.setIntSlot; rfl
@[simp] theorem State.setIntSlot_dmaLast (s : State) (k : Nat) (v : Slot) : (s.setIntSlot k v).dmaLast = s.dmaLast := by delta State.setIntSlot; rfl
@[simp] theorem State.setIntSlot_latches (s : State) (k : Nat) (v : Slot) : (s.setIntSlot k v).latches = s.latches := by delta State.setIntSlot; rfl
@[simp] theorem State.setIntSlot_doms (s : State) (k : Nat) (v : Slot) : (s.setIntSlot k v).doms = s.doms := by delta State.setIntSlot; rfl
@[simp] theorem State.setIntSlot_clk (s : State) (k : Nat) (v : Slot) : (s.setIntSlot k v).clk = s.clk := by delta State.setIntSlot; rfl
@[simp] theorem State.setIntSlot_cald (s : State) (k : Nat) (v : Slot) : (s.setIntSlot k v).cald = s.cald := by delta State.setIntSlot; rfl
@[simp] theorem State.setIntSlot_misc (s : State) (k : Nat) (v : Slot) : (s.setIntSlot k v).misc = s.misc := by delta State.setIntSlot; rfl
@[simp] theorem State.setIntSlot_scrubs (s : State) (k : Nat) (v : Slot) : (s.setIntSlot k v).scrubs = s.scrubs := by delta State.setIntSlot; rfl
@[simp] theorem State.setIntSlot_heldBar (s : State) (k : Nat) (v : Slot) : (s.setIntSlot k v).heldBar = s.heldBar := by delta State.setIntSlot; rfl
@[simp] theorem State.setIntSlot_out (s : State) (k : Nat) (v : Slot) : (s.setIntSlot k v).out = s.out := by delta State.setIntSlot; rfl
@[simp] theorem State.cluster_setIntSlot (s : State) (k : Nat) (v : Slot) (j : Nat) : (s.setIntSlot k v).cluster j = s.cluster j := by delta State.setIntSlot; rfl
@[simp] theorem State.recW_setIntSlot (s : State) (k : Nat) (v : Slot) (j : Nat) : (s.setIntSlot k v).recW j = s.recW j := by delta State.setIntSlot; rfl
@[simp] theorem State.task_setIntSlot (s : State) (k : Nat) (v : Slot) (j : Nat) : (s.setIntSlot k v).task j = s.task j := by delta State.setIntSlot; rfl
@[simp] theorem State.inSlot_setIntSlot (s : State) (k : Nat) (v : Slot) (j : Nat) : (s.setIntSlot k v).inSlot j = s.inSlot j := by delta State.setIntSlot; rfl
@[simp] theorem State.outSlot_setIntSlot (s : State) (k : Nat) (v : Slot) (j : Nat) : (s.setIntSlot k v).outSlot j = s.outSlot j := by delta State.setIntSlot; rfl
@[simp] theorem State.cls_setIntSlot (s : State) (k : Nat) (v : Slot) (j : Nat) : (s.setIntSlot k v).cls j = s.cls j := by delta State.setIntSlot; rfl
@[simp] theorem State.calW_setIntSlot (s : State) (k : Nat) (v : Slot) (j : Nat) : (s.setIntSlot k v).calW j = s.calW j := by delta State.setIntSlot; rfl
@[simp] theorem State.calSlot_setIntSlot (s : State) (k : Nat) (v : Slot) (j : Nat) : (s.setIntSlot k v).calSlot j = s.calSlot j := by delta State.setIntSlot; rfl
@[simp] theorem State.gen_setIntSlot (s : State) (k : Nat) (v : Slot) (j : Nat) : (s.setIntSlot k v).gen j = s.gen j := by delta State.setIntSlot; rfl
@[simp] theorem State.lineW_setIntSlot (s : State) (k : Nat) (v : Slot) (j : Nat) : (s.setIntSlot k v).lineW j = s.lineW j := by delta State.setIntSlot; rfl
@[simp] theorem State.partW_setIntSlot (s : State) (k : Nat) (v : Slot) (j : Nat) : (s.setIntSlot k v).partW j = s.partW j := by delta State.setIntSlot; rfl
@[simp] theorem State.lane_setIntSlot (s : State) (k : Nat) (v : Slot) (j : Nat) : (s.setIntSlot k v).lane j = s.lane j := by delta State.setIntSlot; rfl
@[simp] theorem State.partner_setIntSlot (s : State) (k : Nat) (v : Slot) (j : Nat) : (s.setIntSlot k v).partner j = s.partner j := by delta State.setIntSlot; rfl
@[simp] theorem State.core_setIntSlot (s : State) (k : Nat) (v : Slot) (j : Nat) : (s.setIntSlot k v).core j = s.core j := by delta State.setIntSlot; rfl
@[simp] theorem State.sq_setIntSlot (s : State) (k : Nat) (v : Slot) (j : Nat) : (s.setIntSlot k v).sq j = s.sq j := by delta State.setIntSlot; rfl
@[simp] theorem State.cq_setIntSlot (s : State) (k : Nat) (v : Slot) (j : Nat) : (s.setIntSlot k v).cq j = s.cq j := by delta State.setIntSlot; rfl
@[simp] theorem State.src_setIntSlot (s : State) (k : Nat) (v : Slot) (j : Nat) : (s.setIntSlot k v).src j = s.src j := by delta State.setIntSlot; rfl
@[simp] theorem State.stack_setIntSlot (s : State) (k : Nat) (v : Slot) (j : Nat) : (s.setIntSlot k v).stack j = s.stack j := by delta State.setIntSlot; rfl
@[simp] theorem State.claimed_setIntSlot (s : State) (k : Nat) (v : Slot) (j : Nat) : (s.setIntSlot k v).claimed j = s.claimed j := by delta State.setIntSlot; rfl
@[simp] theorem State.dma_setIntSlot (s : State) (k : Nat) (v : Slot) (j : Nat) : (s.setIntSlot k v).dma j = s.dma j := by delta State.setIntSlot; rfl
@[simp] theorem State.latch_setIntSlot (s : State) (k : Nat) (v : Slot) (j : Nat) : (s.setIntSlot k v).latch j = s.latch j := by delta State.setIntSlot; rfl
@[simp] theorem State.dom_setIntSlot (s : State) (k : Nat) (v : Slot) (j : Nat) : (s.setIntSlot k v).dom j = s.dom j := by delta State.setIntSlot; rfl
@[simp] theorem State.scr_setIntSlot (s : State) (k : Nat) (v : Slot) (j : Nat) : (s.setIntSlot k v).scr j = s.scr j := by delta State.setIntSlot; rfl
@[simp] theorem State.reg_setIntSlot (s : State) (k : Nat) (v : Slot) (r : Reg) : (s.setIntSlot k v).reg r = s.reg r := by delta State.setIntSlot; rfl
@[simp] theorem State.intSlot_setIntSlot (s : State) (k : Nat) (v : Slot) (j : Nat) : (s.setIntSlot k v).intSlot j = if j = k then v else s.intSlot j := by
  simp [State.intSlot, State.setIntSlot]
@[simp] theorem State.setIntSlot_setIntSlot (s : State) (k : Nat) (v : Slot) (v' : Slot) : (s.setIntSlot k v).setIntSlot k v' = s.setIntSlot k v' := by
  simp [State.setIntSlot]
@[simp] theorem State.updIntSlot_eq (s : State) (k : Nat) (g : Slot → Slot) : s.updIntSlot k g = s.setIntSlot k (g (s.intSlot k)) := rfl

/-! ### cls -/

@[simp] theorem State.setCls_pending (s : State) (k : Nat) (v : AllocClass) : (s.setCls k v).pending = s.pending := by delta State.setCls; rfl
@[simp] theorem State.setCls_free (s : State) (k : Nat) (v : AllocClass) : (s.setCls k v).free = s.free := by delta State.setCls; rfl
@[simp] theorem State.setCls_regs (s : State) (k : Nat) (v : AllocClass) : (s.setCls k v).regs = s.regs := by delta State.setCls; rfl
@[simp] theorem State.setCls_store (s : State) (k : Nat) (v : AllocClass) : (s.setCls k v).store = s.store := by delta State.setCls; rfl
@[simp] theorem State.setCls_storeBad (s : State) (k : Nat) (v : AllocClass) : (s.setCls k v).storeBad = s.storeBad := by delta State.setCls; rfl
@[simp] theorem State.setCls_clusters (s : State) (k : Nat) (v : AllocClass) : (s.setCls k v).clusters = s.clusters := by delta State.setCls; rfl
@[simp] theorem State.setCls_recs (s : State) (k : Nat) (v : AllocClass) : (s.setCls k v).recs = s.recs := by delta State.setCls; rfl
@[simp] theorem State.setCls_tasks (s : State) (k : Nat) (v : AllocClass) : (s.setCls k v).tasks = s.tasks := by delta State.setCls; rfl
@[simp] theorem State.setCls_jobs (s : State) (k : Nat) (v : AllocClass) : (s.setCls k v).jobs = s.jobs := by delta State.setCls; rfl
@[simp] theorem State.setCls_hostPins (s : State) (k : Nat) (v : AllocClass) : (s.setCls k v).hostPins = s.hostPins := by delta State.setCls; rfl
@[simp] theorem State.setCls_mapClock (s : State) (k : Nat) (v : AllocClass) : (s.setCls k v).mapClock = s.mapClock := by delta State.setCls; rfl
@[simp] theorem State.setCls_inSlots (s : State) (k : Nat) (v : AllocClass) : (s.setCls k v).inSlots = s.inSlots := by delta State.setCls; rfl
@[simp] theorem State.setCls_outSlots (s : State) (k : Nat) (v : AllocClass) : (s.setCls k v).outSlots = s.outSlots := by delta State.setCls; rfl
@[simp] theorem State.setCls_intSlots (s : State) (k : Nat) (v : AllocClass) : (s.setCls k v).intSlots = s.intSlots := by delta State.setCls; rfl
@[simp] theorem State.setCls_calRec (s : State) (k : Nat) (v : AllocClass) : (s.setCls k v).calRec = s.calRec := by delta State.setCls; rfl
@[simp] theorem State.setCls_cal (s : State) (k : Nat) (v : AllocClass) : (s.setCls k v).cal = s.cal := by delta State.setCls; rfl
@[simp] theorem State.setCls_stoppedD (s : State) (k : Nat) (v : AllocClass) : (s.setCls k v).stoppedD = s.stoppedD := by delta State.setCls; rfl
@[simp] theorem State.setCls_gens (s : State) (k : Nat) (v : AllocClass) : (s.setCls k v).gens = s.gens := by delta State.setCls; rfl
@[simp] theorem State.setCls_genNum (s : State) (k : Nat) (v : AllocClass) : (s.setCls k v).genNum = s.genNum := by delta State.setCls; rfl
@[simp] theorem State.setCls_baseline (s : State) (k : Nat) (v : AllocClass) : (s.setCls k v).baseline = s.baseline := by delta State.setCls; rfl
@[simp] theorem State.setCls_baseDir (s : State) (k : Nat) (v : AllocClass) : (s.setCls k v).baseDir = s.baseDir := by delta State.setCls; rfl
@[simp] theorem State.setCls_baseMem (s : State) (k : Nat) (v : AllocClass) : (s.setCls k v).baseMem = s.baseMem := by delta State.setCls; rfl
@[simp] theorem State.setCls_genOrder (s : State) (k : Nat) (v : AllocClass) : (s.setCls k v).genOrder = s.genOrder := by delta State.setCls; rfl
@[simp] theorem State.setCls_lineRec (s : State) (k : Nat) (v : AllocClass) : (s.setCls k v).lineRec = s.lineRec := by delta State.setCls; rfl
@[simp] theorem State.setCls_partRec (s : State) (k : Nat) (v : AllocClass) : (s.setCls k v).partRec = s.partRec := by delta State.setCls; rfl
@[simp] theorem State.setCls_lanes (s : State) (k : Nat) (v : AllocClass) : (s.setCls k v).lanes = s.lanes := by delta State.setCls; rfl
@[simp] theorem State.setCls_partners (s : State) (k : Nat) (v : AllocClass) : (s.setCls k v).partners = s.partners := by delta State.setCls; rfl
@[simp] theorem State.setCls_cores (s : State) (k : Nat) (v : AllocClass) : (s.setCls k v).cores = s.cores := by delta State.setCls; rfl
@[simp] theorem State.setCls_ridge (s : State) (k : Nat) (v : AllocClass) : (s.setCls k v).ridge = s.ridge := by delta State.setCls; rfl
@[simp] theorem State.setCls_sqs (s : State) (k : Nat) (v : AllocClass) : (s.setCls k v).sqs = s.sqs := by delta State.setCls; rfl
@[simp] theorem State.setCls_cqs (s : State) (k : Nat) (v : AllocClass) : (s.setCls k v).cqs = s.cqs := by delta State.setCls; rfl
@[simp] theorem State.setCls_engine (s : State) (k : Nat) (v : AllocClass) : (s.setCls k v).engine = s.engine := by delta State.setCls; rfl
@[simp] theorem State.setCls_pcie (s : State) (k : Nat) (v : AllocClass) : (s.setCls k v).pcie = s.pcie := by delta State.setCls; rfl
@[simp] theorem State.setCls_srcs (s : State) (k : Nat) (v : AllocClass) : (s.setCls k v).srcs = s.srcs := by delta State.setCls; rfl
@[simp] theorem State.setCls_running (s : State) (k : Nat) (v : AllocClass) : (s.setCls k v).running = s.running := by delta State.setCls; rfl
@[simp] theorem State.setCls_claims (s : State) (k : Nat) (v : AllocClass) : (s.setCls k v).claims = s.claims := by delta State.setCls; rfl
@[simp] theorem State.setCls_dmas (s : State) (k : Nat) (v : AllocClass) : (s.setCls k v).dmas = s.dmas := by delta State.setCls; rfl
@[simp] theorem State.setCls_dmaLast (s : State) (k : Nat) (v : AllocClass) : (s.setCls k v).dmaLast = s.dmaLast := by delta State.setCls; rfl
@[simp] theorem State.setCls_latches (s : State) (k : Nat) (v : AllocClass) : (s.setCls k v).latches = s.latches := by delta State.setCls; rfl
@[simp] theorem State.setCls_doms (s : State) (k : Nat) (v : AllocClass) : (s.setCls k v).doms = s.doms := by delta State.setCls; rfl
@[simp] theorem State.setCls_clk (s : State) (k : Nat) (v : AllocClass) : (s.setCls k v).clk = s.clk := by delta State.setCls; rfl
@[simp] theorem State.setCls_cald (s : State) (k : Nat) (v : AllocClass) : (s.setCls k v).cald = s.cald := by delta State.setCls; rfl
@[simp] theorem State.setCls_misc (s : State) (k : Nat) (v : AllocClass) : (s.setCls k v).misc = s.misc := by delta State.setCls; rfl
@[simp] theorem State.setCls_scrubs (s : State) (k : Nat) (v : AllocClass) : (s.setCls k v).scrubs = s.scrubs := by delta State.setCls; rfl
@[simp] theorem State.setCls_heldBar (s : State) (k : Nat) (v : AllocClass) : (s.setCls k v).heldBar = s.heldBar := by delta State.setCls; rfl
@[simp] theorem State.setCls_out (s : State) (k : Nat) (v : AllocClass) : (s.setCls k v).out = s.out := by delta State.setCls; rfl
@[simp] theorem State.cluster_setCls (s : State) (k : Nat) (v : AllocClass) (j : Nat) : (s.setCls k v).cluster j = s.cluster j := by delta State.setCls; rfl
@[simp] theorem State.recW_setCls (s : State) (k : Nat) (v : AllocClass) (j : Nat) : (s.setCls k v).recW j = s.recW j := by delta State.setCls; rfl
@[simp] theorem State.task_setCls (s : State) (k : Nat) (v : AllocClass) (j : Nat) : (s.setCls k v).task j = s.task j := by delta State.setCls; rfl
@[simp] theorem State.inSlot_setCls (s : State) (k : Nat) (v : AllocClass) (j : Nat) : (s.setCls k v).inSlot j = s.inSlot j := by delta State.setCls; rfl
@[simp] theorem State.outSlot_setCls (s : State) (k : Nat) (v : AllocClass) (j : Nat) : (s.setCls k v).outSlot j = s.outSlot j := by delta State.setCls; rfl
@[simp] theorem State.intSlot_setCls (s : State) (k : Nat) (v : AllocClass) (j : Nat) : (s.setCls k v).intSlot j = s.intSlot j := by delta State.setCls; rfl
@[simp] theorem State.calW_setCls (s : State) (k : Nat) (v : AllocClass) (j : Nat) : (s.setCls k v).calW j = s.calW j := by delta State.setCls; rfl
@[simp] theorem State.calSlot_setCls (s : State) (k : Nat) (v : AllocClass) (j : Nat) : (s.setCls k v).calSlot j = s.calSlot j := by delta State.setCls; rfl
@[simp] theorem State.gen_setCls (s : State) (k : Nat) (v : AllocClass) (j : Nat) : (s.setCls k v).gen j = s.gen j := by delta State.setCls; rfl
@[simp] theorem State.lineW_setCls (s : State) (k : Nat) (v : AllocClass) (j : Nat) : (s.setCls k v).lineW j = s.lineW j := by delta State.setCls; rfl
@[simp] theorem State.partW_setCls (s : State) (k : Nat) (v : AllocClass) (j : Nat) : (s.setCls k v).partW j = s.partW j := by delta State.setCls; rfl
@[simp] theorem State.lane_setCls (s : State) (k : Nat) (v : AllocClass) (j : Nat) : (s.setCls k v).lane j = s.lane j := by delta State.setCls; rfl
@[simp] theorem State.partner_setCls (s : State) (k : Nat) (v : AllocClass) (j : Nat) : (s.setCls k v).partner j = s.partner j := by delta State.setCls; rfl
@[simp] theorem State.core_setCls (s : State) (k : Nat) (v : AllocClass) (j : Nat) : (s.setCls k v).core j = s.core j := by delta State.setCls; rfl
@[simp] theorem State.sq_setCls (s : State) (k : Nat) (v : AllocClass) (j : Nat) : (s.setCls k v).sq j = s.sq j := by delta State.setCls; rfl
@[simp] theorem State.cq_setCls (s : State) (k : Nat) (v : AllocClass) (j : Nat) : (s.setCls k v).cq j = s.cq j := by delta State.setCls; rfl
@[simp] theorem State.src_setCls (s : State) (k : Nat) (v : AllocClass) (j : Nat) : (s.setCls k v).src j = s.src j := by delta State.setCls; rfl
@[simp] theorem State.stack_setCls (s : State) (k : Nat) (v : AllocClass) (j : Nat) : (s.setCls k v).stack j = s.stack j := by delta State.setCls; rfl
@[simp] theorem State.claimed_setCls (s : State) (k : Nat) (v : AllocClass) (j : Nat) : (s.setCls k v).claimed j = s.claimed j := by delta State.setCls; rfl
@[simp] theorem State.dma_setCls (s : State) (k : Nat) (v : AllocClass) (j : Nat) : (s.setCls k v).dma j = s.dma j := by delta State.setCls; rfl
@[simp] theorem State.latch_setCls (s : State) (k : Nat) (v : AllocClass) (j : Nat) : (s.setCls k v).latch j = s.latch j := by delta State.setCls; rfl
@[simp] theorem State.dom_setCls (s : State) (k : Nat) (v : AllocClass) (j : Nat) : (s.setCls k v).dom j = s.dom j := by delta State.setCls; rfl
@[simp] theorem State.scr_setCls (s : State) (k : Nat) (v : AllocClass) (j : Nat) : (s.setCls k v).scr j = s.scr j := by delta State.setCls; rfl
@[simp] theorem State.reg_setCls (s : State) (k : Nat) (v : AllocClass) (r : Reg) : (s.setCls k v).reg r = s.reg r := by delta State.setCls; rfl
@[simp] theorem State.cls_setCls (s : State) (k : Nat) (v : AllocClass) (j : Nat) : (s.setCls k v).cls j = if j = k then v else s.cls j := by
  simp [State.cls, State.setCls]
@[simp] theorem State.setCls_setCls (s : State) (k : Nat) (v : AllocClass) (v' : AllocClass) : (s.setCls k v).setCls k v' = s.setCls k v' := by
  simp [State.setCls]
@[simp] theorem State.updCls_eq (s : State) (k : Nat) (g : AllocClass → AllocClass) : s.updCls k g = s.setCls k (g (s.cls k)) := rfl

/-! ### calW -/

@[simp] theorem State.setCalW_pending (s : State) (k : Nat) (v : W32) : (s.setCalW k v).pending = s.pending := by delta State.setCalW; rfl
@[simp] theorem State.setCalW_free (s : State) (k : Nat) (v : W32) : (s.setCalW k v).free = s.free := by delta State.setCalW; rfl
@[simp] theorem State.setCalW_regs (s : State) (k : Nat) (v : W32) : (s.setCalW k v).regs = s.regs := by delta State.setCalW; rfl
@[simp] theorem State.setCalW_store (s : State) (k : Nat) (v : W32) : (s.setCalW k v).store = s.store := by delta State.setCalW; rfl
@[simp] theorem State.setCalW_storeBad (s : State) (k : Nat) (v : W32) : (s.setCalW k v).storeBad = s.storeBad := by delta State.setCalW; rfl
@[simp] theorem State.setCalW_clusters (s : State) (k : Nat) (v : W32) : (s.setCalW k v).clusters = s.clusters := by delta State.setCalW; rfl
@[simp] theorem State.setCalW_recs (s : State) (k : Nat) (v : W32) : (s.setCalW k v).recs = s.recs := by delta State.setCalW; rfl
@[simp] theorem State.setCalW_tasks (s : State) (k : Nat) (v : W32) : (s.setCalW k v).tasks = s.tasks := by delta State.setCalW; rfl
@[simp] theorem State.setCalW_jobs (s : State) (k : Nat) (v : W32) : (s.setCalW k v).jobs = s.jobs := by delta State.setCalW; rfl
@[simp] theorem State.setCalW_hostPins (s : State) (k : Nat) (v : W32) : (s.setCalW k v).hostPins = s.hostPins := by delta State.setCalW; rfl
@[simp] theorem State.setCalW_mapClock (s : State) (k : Nat) (v : W32) : (s.setCalW k v).mapClock = s.mapClock := by delta State.setCalW; rfl
@[simp] theorem State.setCalW_inSlots (s : State) (k : Nat) (v : W32) : (s.setCalW k v).inSlots = s.inSlots := by delta State.setCalW; rfl
@[simp] theorem State.setCalW_outSlots (s : State) (k : Nat) (v : W32) : (s.setCalW k v).outSlots = s.outSlots := by delta State.setCalW; rfl
@[simp] theorem State.setCalW_intSlots (s : State) (k : Nat) (v : W32) : (s.setCalW k v).intSlots = s.intSlots := by delta State.setCalW; rfl
@[simp] theorem State.setCalW_alloc (s : State) (k : Nat) (v : W32) : (s.setCalW k v).alloc = s.alloc := by delta State.setCalW; rfl
@[simp] theorem State.setCalW_cal (s : State) (k : Nat) (v : W32) : (s.setCalW k v).cal = s.cal := by delta State.setCalW; rfl
@[simp] theorem State.setCalW_stoppedD (s : State) (k : Nat) (v : W32) : (s.setCalW k v).stoppedD = s.stoppedD := by delta State.setCalW; rfl
@[simp] theorem State.setCalW_gens (s : State) (k : Nat) (v : W32) : (s.setCalW k v).gens = s.gens := by delta State.setCalW; rfl
@[simp] theorem State.setCalW_genNum (s : State) (k : Nat) (v : W32) : (s.setCalW k v).genNum = s.genNum := by delta State.setCalW; rfl
@[simp] theorem State.setCalW_baseline (s : State) (k : Nat) (v : W32) : (s.setCalW k v).baseline = s.baseline := by delta State.setCalW; rfl
@[simp] theorem State.setCalW_baseDir (s : State) (k : Nat) (v : W32) : (s.setCalW k v).baseDir = s.baseDir := by delta State.setCalW; rfl
@[simp] theorem State.setCalW_baseMem (s : State) (k : Nat) (v : W32) : (s.setCalW k v).baseMem = s.baseMem := by delta State.setCalW; rfl
@[simp] theorem State.setCalW_genOrder (s : State) (k : Nat) (v : W32) : (s.setCalW k v).genOrder = s.genOrder := by delta State.setCalW; rfl
@[simp] theorem State.setCalW_lineRec (s : State) (k : Nat) (v : W32) : (s.setCalW k v).lineRec = s.lineRec := by delta State.setCalW; rfl
@[simp] theorem State.setCalW_partRec (s : State) (k : Nat) (v : W32) : (s.setCalW k v).partRec = s.partRec := by delta State.setCalW; rfl
@[simp] theorem State.setCalW_lanes (s : State) (k : Nat) (v : W32) : (s.setCalW k v).lanes = s.lanes := by delta State.setCalW; rfl
@[simp] theorem State.setCalW_partners (s : State) (k : Nat) (v : W32) : (s.setCalW k v).partners = s.partners := by delta State.setCalW; rfl
@[simp] theorem State.setCalW_cores (s : State) (k : Nat) (v : W32) : (s.setCalW k v).cores = s.cores := by delta State.setCalW; rfl
@[simp] theorem State.setCalW_ridge (s : State) (k : Nat) (v : W32) : (s.setCalW k v).ridge = s.ridge := by delta State.setCalW; rfl
@[simp] theorem State.setCalW_sqs (s : State) (k : Nat) (v : W32) : (s.setCalW k v).sqs = s.sqs := by delta State.setCalW; rfl
@[simp] theorem State.setCalW_cqs (s : State) (k : Nat) (v : W32) : (s.setCalW k v).cqs = s.cqs := by delta State.setCalW; rfl
@[simp] theorem State.setCalW_engine (s : State) (k : Nat) (v : W32) : (s.setCalW k v).engine = s.engine := by delta State.setCalW; rfl
@[simp] theorem State.setCalW_pcie (s : State) (k : Nat) (v : W32) : (s.setCalW k v).pcie = s.pcie := by delta State.setCalW; rfl
@[simp] theorem State.setCalW_srcs (s : State) (k : Nat) (v : W32) : (s.setCalW k v).srcs = s.srcs := by delta State.setCalW; rfl
@[simp] theorem State.setCalW_running (s : State) (k : Nat) (v : W32) : (s.setCalW k v).running = s.running := by delta State.setCalW; rfl
@[simp] theorem State.setCalW_claims (s : State) (k : Nat) (v : W32) : (s.setCalW k v).claims = s.claims := by delta State.setCalW; rfl
@[simp] theorem State.setCalW_dmas (s : State) (k : Nat) (v : W32) : (s.setCalW k v).dmas = s.dmas := by delta State.setCalW; rfl
@[simp] theorem State.setCalW_dmaLast (s : State) (k : Nat) (v : W32) : (s.setCalW k v).dmaLast = s.dmaLast := by delta State.setCalW; rfl
@[simp] theorem State.setCalW_latches (s : State) (k : Nat) (v : W32) : (s.setCalW k v).latches = s.latches := by delta State.setCalW; rfl
@[simp] theorem State.setCalW_doms (s : State) (k : Nat) (v : W32) : (s.setCalW k v).doms = s.doms := by delta State.setCalW; rfl
@[simp] theorem State.setCalW_clk (s : State) (k : Nat) (v : W32) : (s.setCalW k v).clk = s.clk := by delta State.setCalW; rfl
@[simp] theorem State.setCalW_cald (s : State) (k : Nat) (v : W32) : (s.setCalW k v).cald = s.cald := by delta State.setCalW; rfl
@[simp] theorem State.setCalW_misc (s : State) (k : Nat) (v : W32) : (s.setCalW k v).misc = s.misc := by delta State.setCalW; rfl
@[simp] theorem State.setCalW_scrubs (s : State) (k : Nat) (v : W32) : (s.setCalW k v).scrubs = s.scrubs := by delta State.setCalW; rfl
@[simp] theorem State.setCalW_heldBar (s : State) (k : Nat) (v : W32) : (s.setCalW k v).heldBar = s.heldBar := by delta State.setCalW; rfl
@[simp] theorem State.setCalW_out (s : State) (k : Nat) (v : W32) : (s.setCalW k v).out = s.out := by delta State.setCalW; rfl
@[simp] theorem State.cluster_setCalW (s : State) (k : Nat) (v : W32) (j : Nat) : (s.setCalW k v).cluster j = s.cluster j := by delta State.setCalW; rfl
@[simp] theorem State.recW_setCalW (s : State) (k : Nat) (v : W32) (j : Nat) : (s.setCalW k v).recW j = s.recW j := by delta State.setCalW; rfl
@[simp] theorem State.task_setCalW (s : State) (k : Nat) (v : W32) (j : Nat) : (s.setCalW k v).task j = s.task j := by delta State.setCalW; rfl
@[simp] theorem State.inSlot_setCalW (s : State) (k : Nat) (v : W32) (j : Nat) : (s.setCalW k v).inSlot j = s.inSlot j := by delta State.setCalW; rfl
@[simp] theorem State.outSlot_setCalW (s : State) (k : Nat) (v : W32) (j : Nat) : (s.setCalW k v).outSlot j = s.outSlot j := by delta State.setCalW; rfl
@[simp] theorem State.intSlot_setCalW (s : State) (k : Nat) (v : W32) (j : Nat) : (s.setCalW k v).intSlot j = s.intSlot j := by delta State.setCalW; rfl
@[simp] theorem State.cls_setCalW (s : State) (k : Nat) (v : W32) (j : Nat) : (s.setCalW k v).cls j = s.cls j := by delta State.setCalW; rfl
@[simp] theorem State.calSlot_setCalW (s : State) (k : Nat) (v : W32) (j : Nat) : (s.setCalW k v).calSlot j = s.calSlot j := by delta State.setCalW; rfl
@[simp] theorem State.gen_setCalW (s : State) (k : Nat) (v : W32) (j : Nat) : (s.setCalW k v).gen j = s.gen j := by delta State.setCalW; rfl
@[simp] theorem State.lineW_setCalW (s : State) (k : Nat) (v : W32) (j : Nat) : (s.setCalW k v).lineW j = s.lineW j := by delta State.setCalW; rfl
@[simp] theorem State.partW_setCalW (s : State) (k : Nat) (v : W32) (j : Nat) : (s.setCalW k v).partW j = s.partW j := by delta State.setCalW; rfl
@[simp] theorem State.lane_setCalW (s : State) (k : Nat) (v : W32) (j : Nat) : (s.setCalW k v).lane j = s.lane j := by delta State.setCalW; rfl
@[simp] theorem State.partner_setCalW (s : State) (k : Nat) (v : W32) (j : Nat) : (s.setCalW k v).partner j = s.partner j := by delta State.setCalW; rfl
@[simp] theorem State.core_setCalW (s : State) (k : Nat) (v : W32) (j : Nat) : (s.setCalW k v).core j = s.core j := by delta State.setCalW; rfl
@[simp] theorem State.sq_setCalW (s : State) (k : Nat) (v : W32) (j : Nat) : (s.setCalW k v).sq j = s.sq j := by delta State.setCalW; rfl
@[simp] theorem State.cq_setCalW (s : State) (k : Nat) (v : W32) (j : Nat) : (s.setCalW k v).cq j = s.cq j := by delta State.setCalW; rfl
@[simp] theorem State.src_setCalW (s : State) (k : Nat) (v : W32) (j : Nat) : (s.setCalW k v).src j = s.src j := by delta State.setCalW; rfl
@[simp] theorem State.stack_setCalW (s : State) (k : Nat) (v : W32) (j : Nat) : (s.setCalW k v).stack j = s.stack j := by delta State.setCalW; rfl
@[simp] theorem State.claimed_setCalW (s : State) (k : Nat) (v : W32) (j : Nat) : (s.setCalW k v).claimed j = s.claimed j := by delta State.setCalW; rfl
@[simp] theorem State.dma_setCalW (s : State) (k : Nat) (v : W32) (j : Nat) : (s.setCalW k v).dma j = s.dma j := by delta State.setCalW; rfl
@[simp] theorem State.latch_setCalW (s : State) (k : Nat) (v : W32) (j : Nat) : (s.setCalW k v).latch j = s.latch j := by delta State.setCalW; rfl
@[simp] theorem State.dom_setCalW (s : State) (k : Nat) (v : W32) (j : Nat) : (s.setCalW k v).dom j = s.dom j := by delta State.setCalW; rfl
@[simp] theorem State.scr_setCalW (s : State) (k : Nat) (v : W32) (j : Nat) : (s.setCalW k v).scr j = s.scr j := by delta State.setCalW; rfl
@[simp] theorem State.reg_setCalW (s : State) (k : Nat) (v : W32) (r : Reg) : (s.setCalW k v).reg r = s.reg r := by delta State.setCalW; rfl
@[simp] theorem State.calW_setCalW (s : State) (k : Nat) (v : W32) (j : Nat) : (s.setCalW k v).calW j = if j = k then v else s.calW j := by
  simp [State.calW, State.setCalW]
@[simp] theorem State.setCalW_setCalW (s : State) (k : Nat) (v : W32) (v' : W32) : (s.setCalW k v).setCalW k v' = s.setCalW k v' := by
  simp [State.setCalW]
@[simp] theorem State.updCalW_eq (s : State) (k : Nat) (g : W32 → W32) : s.updCalW k g = s.setCalW k (g (s.calW k)) := rfl

/-! ### calSlot -/

@[simp] theorem State.setCalSlot_pending (s : State) (k : Nat) (v : CalSlot) : (s.setCalSlot k v).pending = s.pending := by delta State.setCalSlot; rfl
@[simp] theorem State.setCalSlot_free (s : State) (k : Nat) (v : CalSlot) : (s.setCalSlot k v).free = s.free := by delta State.setCalSlot; rfl
@[simp] theorem State.setCalSlot_regs (s : State) (k : Nat) (v : CalSlot) : (s.setCalSlot k v).regs = s.regs := by delta State.setCalSlot; rfl
@[simp] theorem State.setCalSlot_store (s : State) (k : Nat) (v : CalSlot) : (s.setCalSlot k v).store = s.store := by delta State.setCalSlot; rfl
@[simp] theorem State.setCalSlot_storeBad (s : State) (k : Nat) (v : CalSlot) : (s.setCalSlot k v).storeBad = s.storeBad := by delta State.setCalSlot; rfl
@[simp] theorem State.setCalSlot_clusters (s : State) (k : Nat) (v : CalSlot) : (s.setCalSlot k v).clusters = s.clusters := by delta State.setCalSlot; rfl
@[simp] theorem State.setCalSlot_recs (s : State) (k : Nat) (v : CalSlot) : (s.setCalSlot k v).recs = s.recs := by delta State.setCalSlot; rfl
@[simp] theorem State.setCalSlot_tasks (s : State) (k : Nat) (v : CalSlot) : (s.setCalSlot k v).tasks = s.tasks := by delta State.setCalSlot; rfl
@[simp] theorem State.setCalSlot_jobs (s : State) (k : Nat) (v : CalSlot) : (s.setCalSlot k v).jobs = s.jobs := by delta State.setCalSlot; rfl
@[simp] theorem State.setCalSlot_hostPins (s : State) (k : Nat) (v : CalSlot) : (s.setCalSlot k v).hostPins = s.hostPins := by delta State.setCalSlot; rfl
@[simp] theorem State.setCalSlot_mapClock (s : State) (k : Nat) (v : CalSlot) : (s.setCalSlot k v).mapClock = s.mapClock := by delta State.setCalSlot; rfl
@[simp] theorem State.setCalSlot_inSlots (s : State) (k : Nat) (v : CalSlot) : (s.setCalSlot k v).inSlots = s.inSlots := by delta State.setCalSlot; rfl
@[simp] theorem State.setCalSlot_outSlots (s : State) (k : Nat) (v : CalSlot) : (s.setCalSlot k v).outSlots = s.outSlots := by delta State.setCalSlot; rfl
@[simp] theorem State.setCalSlot_intSlots (s : State) (k : Nat) (v : CalSlot) : (s.setCalSlot k v).intSlots = s.intSlots := by delta State.setCalSlot; rfl
@[simp] theorem State.setCalSlot_alloc (s : State) (k : Nat) (v : CalSlot) : (s.setCalSlot k v).alloc = s.alloc := by delta State.setCalSlot; rfl
@[simp] theorem State.setCalSlot_calRec (s : State) (k : Nat) (v : CalSlot) : (s.setCalSlot k v).calRec = s.calRec := by delta State.setCalSlot; rfl
@[simp] theorem State.setCalSlot_stoppedD (s : State) (k : Nat) (v : CalSlot) : (s.setCalSlot k v).stoppedD = s.stoppedD := by delta State.setCalSlot; rfl
@[simp] theorem State.setCalSlot_gens (s : State) (k : Nat) (v : CalSlot) : (s.setCalSlot k v).gens = s.gens := by delta State.setCalSlot; rfl
@[simp] theorem State.setCalSlot_genNum (s : State) (k : Nat) (v : CalSlot) : (s.setCalSlot k v).genNum = s.genNum := by delta State.setCalSlot; rfl
@[simp] theorem State.setCalSlot_baseline (s : State) (k : Nat) (v : CalSlot) : (s.setCalSlot k v).baseline = s.baseline := by delta State.setCalSlot; rfl
@[simp] theorem State.setCalSlot_baseDir (s : State) (k : Nat) (v : CalSlot) : (s.setCalSlot k v).baseDir = s.baseDir := by delta State.setCalSlot; rfl
@[simp] theorem State.setCalSlot_baseMem (s : State) (k : Nat) (v : CalSlot) : (s.setCalSlot k v).baseMem = s.baseMem := by delta State.setCalSlot; rfl
@[simp] theorem State.setCalSlot_genOrder (s : State) (k : Nat) (v : CalSlot) : (s.setCalSlot k v).genOrder = s.genOrder := by delta State.setCalSlot; rfl
@[simp] theorem State.setCalSlot_lineRec (s : State) (k : Nat) (v : CalSlot) : (s.setCalSlot k v).lineRec = s.lineRec := by delta State.setCalSlot; rfl
@[simp] theorem State.setCalSlot_partRec (s : State) (k : Nat) (v : CalSlot) : (s.setCalSlot k v).partRec = s.partRec := by delta State.setCalSlot; rfl
@[simp] theorem State.setCalSlot_lanes (s : State) (k : Nat) (v : CalSlot) : (s.setCalSlot k v).lanes = s.lanes := by delta State.setCalSlot; rfl
@[simp] theorem State.setCalSlot_partners (s : State) (k : Nat) (v : CalSlot) : (s.setCalSlot k v).partners = s.partners := by delta State.setCalSlot; rfl
@[simp] theorem State.setCalSlot_cores (s : State) (k : Nat) (v : CalSlot) : (s.setCalSlot k v).cores = s.cores := by delta State.setCalSlot; rfl
@[simp] theorem State.setCalSlot_ridge (s : State) (k : Nat) (v : CalSlot) : (s.setCalSlot k v).ridge = s.ridge := by delta State.setCalSlot; rfl
@[simp] theorem State.setCalSlot_sqs (s : State) (k : Nat) (v : CalSlot) : (s.setCalSlot k v).sqs = s.sqs := by delta State.setCalSlot; rfl
@[simp] theorem State.setCalSlot_cqs (s : State) (k : Nat) (v : CalSlot) : (s.setCalSlot k v).cqs = s.cqs := by delta State.setCalSlot; rfl
@[simp] theorem State.setCalSlot_engine (s : State) (k : Nat) (v : CalSlot) : (s.setCalSlot k v).engine = s.engine := by delta State.setCalSlot; rfl
@[simp] theorem State.setCalSlot_pcie (s : State) (k : Nat) (v : CalSlot) : (s.setCalSlot k v).pcie = s.pcie := by delta State.setCalSlot; rfl
@[simp] theorem State.setCalSlot_srcs (s : State) (k : Nat) (v : CalSlot) : (s.setCalSlot k v).srcs = s.srcs := by delta State.setCalSlot; rfl
@[simp] theorem State.setCalSlot_running (s : State) (k : Nat) (v : CalSlot) : (s.setCalSlot k v).running = s.running := by delta State.setCalSlot; rfl
@[simp] theorem State.setCalSlot_claims (s : State) (k : Nat) (v : CalSlot) : (s.setCalSlot k v).claims = s.claims := by delta State.setCalSlot; rfl
@[simp] theorem State.setCalSlot_dmas (s : State) (k : Nat) (v : CalSlot) : (s.setCalSlot k v).dmas = s.dmas := by delta State.setCalSlot; rfl
@[simp] theorem State.setCalSlot_dmaLast (s : State) (k : Nat) (v : CalSlot) : (s.setCalSlot k v).dmaLast = s.dmaLast := by delta State.setCalSlot; rfl
@[simp] theorem State.setCalSlot_latches (s : State) (k : Nat) (v : CalSlot) : (s.setCalSlot k v).latches = s.latches := by delta State.setCalSlot; rfl
@[simp] theorem State.setCalSlot_doms (s : State) (k : Nat) (v : CalSlot) : (s.setCalSlot k v).doms = s.doms := by delta State.setCalSlot; rfl
@[simp] theorem State.setCalSlot_clk (s : State) (k : Nat) (v : CalSlot) : (s.setCalSlot k v).clk = s.clk := by delta State.setCalSlot; rfl
@[simp] theorem State.setCalSlot_cald (s : State) (k : Nat) (v : CalSlot) : (s.setCalSlot k v).cald = s.cald := by delta State.setCalSlot; rfl
@[simp] theorem State.setCalSlot_misc (s : State) (k : Nat) (v : CalSlot) : (s.setCalSlot k v).misc = s.misc := by delta State.setCalSlot; rfl
@[simp] theorem State.setCalSlot_scrubs (s : State) (k : Nat) (v : CalSlot) : (s.setCalSlot k v).scrubs = s.scrubs := by delta State.setCalSlot; rfl
@[simp] theorem State.setCalSlot_heldBar (s : State) (k : Nat) (v : CalSlot) : (s.setCalSlot k v).heldBar = s.heldBar := by delta State.setCalSlot; rfl
@[simp] theorem State.setCalSlot_out (s : State) (k : Nat) (v : CalSlot) : (s.setCalSlot k v).out = s.out := by delta State.setCalSlot; rfl
@[simp] theorem State.cluster_setCalSlot (s : State) (k : Nat) (v : CalSlot) (j : Nat) : (s.setCalSlot k v).cluster j = s.cluster j := by delta State.setCalSlot; rfl
@[simp] theorem State.recW_setCalSlot (s : State) (k : Nat) (v : CalSlot) (j : Nat) : (s.setCalSlot k v).recW j = s.recW j := by delta State.setCalSlot; rfl
@[simp] theorem State.task_setCalSlot (s : State) (k : Nat) (v : CalSlot) (j : Nat) : (s.setCalSlot k v).task j = s.task j := by delta State.setCalSlot; rfl
@[simp] theorem State.inSlot_setCalSlot (s : State) (k : Nat) (v : CalSlot) (j : Nat) : (s.setCalSlot k v).inSlot j = s.inSlot j := by delta State.setCalSlot; rfl
@[simp] theorem State.outSlot_setCalSlot (s : State) (k : Nat) (v : CalSlot) (j : Nat) : (s.setCalSlot k v).outSlot j = s.outSlot j := by delta State.setCalSlot; rfl
@[simp] theorem State.intSlot_setCalSlot (s : State) (k : Nat) (v : CalSlot) (j : Nat) : (s.setCalSlot k v).intSlot j = s.intSlot j := by delta State.setCalSlot; rfl
@[simp] theorem State.cls_setCalSlot (s : State) (k : Nat) (v : CalSlot) (j : Nat) : (s.setCalSlot k v).cls j = s.cls j := by delta State.setCalSlot; rfl
@[simp] theorem State.calW_setCalSlot (s : State) (k : Nat) (v : CalSlot) (j : Nat) : (s.setCalSlot k v).calW j = s.calW j := by delta State.setCalSlot; rfl
@[simp] theorem State.gen_setCalSlot (s : State) (k : Nat) (v : CalSlot) (j : Nat) : (s.setCalSlot k v).gen j = s.gen j := by delta State.setCalSlot; rfl
@[simp] theorem State.lineW_setCalSlot (s : State) (k : Nat) (v : CalSlot) (j : Nat) : (s.setCalSlot k v).lineW j = s.lineW j := by delta State.setCalSlot; rfl
@[simp] theorem State.partW_setCalSlot (s : State) (k : Nat) (v : CalSlot) (j : Nat) : (s.setCalSlot k v).partW j = s.partW j := by delta State.setCalSlot; rfl
@[simp] theorem State.lane_setCalSlot (s : State) (k : Nat) (v : CalSlot) (j : Nat) : (s.setCalSlot k v).lane j = s.lane j := by delta State.setCalSlot; rfl
@[simp] theorem State.partner_setCalSlot (s : State) (k : Nat) (v : CalSlot) (j : Nat) : (s.setCalSlot k v).partner j = s.partner j := by delta State.setCalSlot; rfl
@[simp] theorem State.core_setCalSlot (s : State) (k : Nat) (v : CalSlot) (j : Nat) : (s.setCalSlot k v).core j = s.core j := by delta State.setCalSlot; rfl
@[simp] theorem State.sq_setCalSlot (s : State) (k : Nat) (v : CalSlot) (j : Nat) : (s.setCalSlot k v).sq j = s.sq j := by delta State.setCalSlot; rfl
@[simp] theorem State.cq_setCalSlot (s : State) (k : Nat) (v : CalSlot) (j : Nat) : (s.setCalSlot k v).cq j = s.cq j := by delta State.setCalSlot; rfl
@[simp] theorem State.src_setCalSlot (s : State) (k : Nat) (v : CalSlot) (j : Nat) : (s.setCalSlot k v).src j = s.src j := by delta State.setCalSlot; rfl
@[simp] theorem State.stack_setCalSlot (s : State) (k : Nat) (v : CalSlot) (j : Nat) : (s.setCalSlot k v).stack j = s.stack j := by delta State.setCalSlot; rfl
@[simp] theorem State.claimed_setCalSlot (s : State) (k : Nat) (v : CalSlot) (j : Nat) : (s.setCalSlot k v).claimed j = s.claimed j := by delta State.setCalSlot; rfl
@[simp] theorem State.dma_setCalSlot (s : State) (k : Nat) (v : CalSlot) (j : Nat) : (s.setCalSlot k v).dma j = s.dma j := by delta State.setCalSlot; rfl
@[simp] theorem State.latch_setCalSlot (s : State) (k : Nat) (v : CalSlot) (j : Nat) : (s.setCalSlot k v).latch j = s.latch j := by delta State.setCalSlot; rfl
@[simp] theorem State.dom_setCalSlot (s : State) (k : Nat) (v : CalSlot) (j : Nat) : (s.setCalSlot k v).dom j = s.dom j := by delta State.setCalSlot; rfl
@[simp] theorem State.scr_setCalSlot (s : State) (k : Nat) (v : CalSlot) (j : Nat) : (s.setCalSlot k v).scr j = s.scr j := by delta State.setCalSlot; rfl
@[simp] theorem State.reg_setCalSlot (s : State) (k : Nat) (v : CalSlot) (r : Reg) : (s.setCalSlot k v).reg r = s.reg r := by delta State.setCalSlot; rfl
@[simp] theorem State.calSlot_setCalSlot (s : State) (k : Nat) (v : CalSlot) (j : Nat) : (s.setCalSlot k v).calSlot j = if j = k then v else s.calSlot j := by
  simp [State.calSlot, State.setCalSlot]
@[simp] theorem State.setCalSlot_setCalSlot (s : State) (k : Nat) (v : CalSlot) (v' : CalSlot) : (s.setCalSlot k v).setCalSlot k v' = s.setCalSlot k v' := by
  simp [State.setCalSlot]
@[simp] theorem State.updCalSlot_eq (s : State) (k : Nat) (g : CalSlot → CalSlot) : s.updCalSlot k g = s.setCalSlot k (g (s.calSlot k)) := rfl

/-! ### gen -/

@[simp] theorem State.setGen_pending (s : State) (k : Nat) (v : Gen) : (s.setGen k v).pending = s.pending := by delta State.setGen; rfl
@[simp] theorem State.setGen_free (s : State) (k : Nat) (v : Gen) : (s.setGen k v).free = s.free := by delta State.setGen; rfl
@[simp] theorem State.setGen_regs (s : State) (k : Nat) (v : Gen) : (s.setGen k v).regs = s.regs := by delta State.setGen; rfl
@[simp] theorem State.setGen_store (s : State) (k : Nat) (v : Gen) : (s.setGen k v).store = s.store := by delta State.setGen; rfl
@[simp] theorem State.setGen_storeBad (s : State) (k : Nat) (v : Gen) : (s.setGen k v).storeBad = s.storeBad := by delta State.setGen; rfl
@[simp] theorem State.setGen_clusters (s : State) (k : Nat) (v : Gen) : (s.setGen k v).clusters = s.clusters := by delta State.setGen; rfl
@[simp] theorem State.setGen_recs (s : State) (k : Nat) (v : Gen) : (s.setGen k v).recs = s.recs := by delta State.setGen; rfl
@[simp] theorem State.setGen_tasks (s : State) (k : Nat) (v : Gen) : (s.setGen k v).tasks = s.tasks := by delta State.setGen; rfl
@[simp] theorem State.setGen_jobs (s : State) (k : Nat) (v : Gen) : (s.setGen k v).jobs = s.jobs := by delta State.setGen; rfl
@[simp] theorem State.setGen_hostPins (s : State) (k : Nat) (v : Gen) : (s.setGen k v).hostPins = s.hostPins := by delta State.setGen; rfl
@[simp] theorem State.setGen_mapClock (s : State) (k : Nat) (v : Gen) : (s.setGen k v).mapClock = s.mapClock := by delta State.setGen; rfl
@[simp] theorem State.setGen_inSlots (s : State) (k : Nat) (v : Gen) : (s.setGen k v).inSlots = s.inSlots := by delta State.setGen; rfl
@[simp] theorem State.setGen_outSlots (s : State) (k : Nat) (v : Gen) : (s.setGen k v).outSlots = s.outSlots := by delta State.setGen; rfl
@[simp] theorem State.setGen_intSlots (s : State) (k : Nat) (v : Gen) : (s.setGen k v).intSlots = s.intSlots := by delta State.setGen; rfl
@[simp] theorem State.setGen_alloc (s : State) (k : Nat) (v : Gen) : (s.setGen k v).alloc = s.alloc := by delta State.setGen; rfl
@[simp] theorem State.setGen_calRec (s : State) (k : Nat) (v : Gen) : (s.setGen k v).calRec = s.calRec := by delta State.setGen; rfl
@[simp] theorem State.setGen_cal (s : State) (k : Nat) (v : Gen) : (s.setGen k v).cal = s.cal := by delta State.setGen; rfl
@[simp] theorem State.setGen_stoppedD (s : State) (k : Nat) (v : Gen) : (s.setGen k v).stoppedD = s.stoppedD := by delta State.setGen; rfl
@[simp] theorem State.setGen_genNum (s : State) (k : Nat) (v : Gen) : (s.setGen k v).genNum = s.genNum := by delta State.setGen; rfl
@[simp] theorem State.setGen_baseline (s : State) (k : Nat) (v : Gen) : (s.setGen k v).baseline = s.baseline := by delta State.setGen; rfl
@[simp] theorem State.setGen_baseDir (s : State) (k : Nat) (v : Gen) : (s.setGen k v).baseDir = s.baseDir := by delta State.setGen; rfl
@[simp] theorem State.setGen_baseMem (s : State) (k : Nat) (v : Gen) : (s.setGen k v).baseMem = s.baseMem := by delta State.setGen; rfl
@[simp] theorem State.setGen_genOrder (s : State) (k : Nat) (v : Gen) : (s.setGen k v).genOrder = s.genOrder := by delta State.setGen; rfl
@[simp] theorem State.setGen_lineRec (s : State) (k : Nat) (v : Gen) : (s.setGen k v).lineRec = s.lineRec := by delta State.setGen; rfl
@[simp] theorem State.setGen_partRec (s : State) (k : Nat) (v : Gen) : (s.setGen k v).partRec = s.partRec := by delta State.setGen; rfl
@[simp] theorem State.setGen_lanes (s : State) (k : Nat) (v : Gen) : (s.setGen k v).lanes = s.lanes := by delta State.setGen; rfl
@[simp] theorem State.setGen_partners (s : State) (k : Nat) (v : Gen) : (s.setGen k v).partners = s.partners := by delta State.setGen; rfl
@[simp] theorem State.setGen_cores (s : State) (k : Nat) (v : Gen) : (s.setGen k v).cores = s.cores := by delta State.setGen; rfl
@[simp] theorem State.setGen_ridge (s : State) (k : Nat) (v : Gen) : (s.setGen k v).ridge = s.ridge := by delta State.setGen; rfl
@[simp] theorem State.setGen_sqs (s : State) (k : Nat) (v : Gen) : (s.setGen k v).sqs = s.sqs := by delta State.setGen; rfl
@[simp] theorem State.setGen_cqs (s : State) (k : Nat) (v : Gen) : (s.setGen k v).cqs = s.cqs := by delta State.setGen; rfl
@[simp] theorem State.setGen_engine (s : State) (k : Nat) (v : Gen) : (s.setGen k v).engine = s.engine := by delta State.setGen; rfl
@[simp] theorem State.setGen_pcie (s : State) (k : Nat) (v : Gen) : (s.setGen k v).pcie = s.pcie := by delta State.setGen; rfl
@[simp] theorem State.setGen_srcs (s : State) (k : Nat) (v : Gen) : (s.setGen k v).srcs = s.srcs := by delta State.setGen; rfl
@[simp] theorem State.setGen_running (s : State) (k : Nat) (v : Gen) : (s.setGen k v).running = s.running := by delta State.setGen; rfl
@[simp] theorem State.setGen_claims (s : State) (k : Nat) (v : Gen) : (s.setGen k v).claims = s.claims := by delta State.setGen; rfl
@[simp] theorem State.setGen_dmas (s : State) (k : Nat) (v : Gen) : (s.setGen k v).dmas = s.dmas := by delta State.setGen; rfl
@[simp] theorem State.setGen_dmaLast (s : State) (k : Nat) (v : Gen) : (s.setGen k v).dmaLast = s.dmaLast := by delta State.setGen; rfl
@[simp] theorem State.setGen_latches (s : State) (k : Nat) (v : Gen) : (s.setGen k v).latches = s.latches := by delta State.setGen; rfl
@[simp] theorem State.setGen_doms (s : State) (k : Nat) (v : Gen) : (s.setGen k v).doms = s.doms := by delta State.setGen; rfl
@[simp] theorem State.setGen_clk (s : State) (k : Nat) (v : Gen) : (s.setGen k v).clk = s.clk := by delta State.setGen; rfl
@[simp] theorem State.setGen_cald (s : State) (k : Nat) (v : Gen) : (s.setGen k v).cald = s.cald := by delta State.setGen; rfl
@[simp] theorem State.setGen_misc (s : State) (k : Nat) (v : Gen) : (s.setGen k v).misc = s.misc := by delta State.setGen; rfl
@[simp] theorem State.setGen_scrubs (s : State) (k : Nat) (v : Gen) : (s.setGen k v).scrubs = s.scrubs := by delta State.setGen; rfl
@[simp] theorem State.setGen_heldBar (s : State) (k : Nat) (v : Gen) : (s.setGen k v).heldBar = s.heldBar := by delta State.setGen; rfl
@[simp] theorem State.setGen_out (s : State) (k : Nat) (v : Gen) : (s.setGen k v).out = s.out := by delta State.setGen; rfl
@[simp] theorem State.cluster_setGen (s : State) (k : Nat) (v : Gen) (j : Nat) : (s.setGen k v).cluster j = s.cluster j := by delta State.setGen; rfl
@[simp] theorem State.recW_setGen (s : State) (k : Nat) (v : Gen) (j : Nat) : (s.setGen k v).recW j = s.recW j := by delta State.setGen; rfl
@[simp] theorem State.task_setGen (s : State) (k : Nat) (v : Gen) (j : Nat) : (s.setGen k v).task j = s.task j := by delta State.setGen; rfl
@[simp] theorem State.inSlot_setGen (s : State) (k : Nat) (v : Gen) (j : Nat) : (s.setGen k v).inSlot j = s.inSlot j := by delta State.setGen; rfl
@[simp] theorem State.outSlot_setGen (s : State) (k : Nat) (v : Gen) (j : Nat) : (s.setGen k v).outSlot j = s.outSlot j := by delta State.setGen; rfl
@[simp] theorem State.intSlot_setGen (s : State) (k : Nat) (v : Gen) (j : Nat) : (s.setGen k v).intSlot j = s.intSlot j := by delta State.setGen; rfl
@[simp] theorem State.cls_setGen (s : State) (k : Nat) (v : Gen) (j : Nat) : (s.setGen k v).cls j = s.cls j := by delta State.setGen; rfl
@[simp] theorem State.calW_setGen (s : State) (k : Nat) (v : Gen) (j : Nat) : (s.setGen k v).calW j = s.calW j := by delta State.setGen; rfl
@[simp] theorem State.calSlot_setGen (s : State) (k : Nat) (v : Gen) (j : Nat) : (s.setGen k v).calSlot j = s.calSlot j := by delta State.setGen; rfl
@[simp] theorem State.lineW_setGen (s : State) (k : Nat) (v : Gen) (j : Nat) : (s.setGen k v).lineW j = s.lineW j := by delta State.setGen; rfl
@[simp] theorem State.partW_setGen (s : State) (k : Nat) (v : Gen) (j : Nat) : (s.setGen k v).partW j = s.partW j := by delta State.setGen; rfl
@[simp] theorem State.lane_setGen (s : State) (k : Nat) (v : Gen) (j : Nat) : (s.setGen k v).lane j = s.lane j := by delta State.setGen; rfl
@[simp] theorem State.partner_setGen (s : State) (k : Nat) (v : Gen) (j : Nat) : (s.setGen k v).partner j = s.partner j := by delta State.setGen; rfl
@[simp] theorem State.core_setGen (s : State) (k : Nat) (v : Gen) (j : Nat) : (s.setGen k v).core j = s.core j := by delta State.setGen; rfl
@[simp] theorem State.sq_setGen (s : State) (k : Nat) (v : Gen) (j : Nat) : (s.setGen k v).sq j = s.sq j := by delta State.setGen; rfl
@[simp] theorem State.cq_setGen (s : State) (k : Nat) (v : Gen) (j : Nat) : (s.setGen k v).cq j = s.cq j := by delta State.setGen; rfl
@[simp] theorem State.src_setGen (s : State) (k : Nat) (v : Gen) (j : Nat) : (s.setGen k v).src j = s.src j := by delta State.setGen; rfl
@[simp] theorem State.stack_setGen (s : State) (k : Nat) (v : Gen) (j : Nat) : (s.setGen k v).stack j = s.stack j := by delta State.setGen; rfl
@[simp] theorem State.claimed_setGen (s : State) (k : Nat) (v : Gen) (j : Nat) : (s.setGen k v).claimed j = s.claimed j := by delta State.setGen; rfl
@[simp] theorem State.dma_setGen (s : State) (k : Nat) (v : Gen) (j : Nat) : (s.setGen k v).dma j = s.dma j := by delta State.setGen; rfl
@[simp] theorem State.latch_setGen (s : State) (k : Nat) (v : Gen) (j : Nat) : (s.setGen k v).latch j = s.latch j := by delta State.setGen; rfl
@[simp] theorem State.dom_setGen (s : State) (k : Nat) (v : Gen) (j : Nat) : (s.setGen k v).dom j = s.dom j := by delta State.setGen; rfl
@[simp] theorem State.scr_setGen (s : State) (k : Nat) (v : Gen) (j : Nat) : (s.setGen k v).scr j = s.scr j := by delta State.setGen; rfl
@[simp] theorem State.reg_setGen (s : State) (k : Nat) (v : Gen) (r : Reg) : (s.setGen k v).reg r = s.reg r := by delta State.setGen; rfl
@[simp] theorem State.gen_setGen (s : State) (k : Nat) (v : Gen) (j : Nat) : (s.setGen k v).gen j = if j = k then v else s.gen j := by
  simp [State.gen, State.setGen]
@[simp] theorem State.setGen_setGen (s : State) (k : Nat) (v : Gen) (v' : Gen) : (s.setGen k v).setGen k v' = s.setGen k v' := by
  simp [State.setGen]
@[simp] theorem State.updGen_eq (s : State) (k : Nat) (g : Gen → Gen) : s.updGen k g = s.setGen k (g (s.gen k)) := rfl

/-! ### lineW -/

@[simp] theorem State.setLineW_pending (s : State) (k : Nat) (v : W32) : (s.setLineW k v).pending = s.pending := by delta State.setLineW; rfl
@[simp] theorem State.setLineW_free (s : State) (k : Nat) (v : W32) : (s.setLineW k v).free = s.free := by delta State.setLineW; rfl
@[simp] theorem State.setLineW_regs (s : State) (k : Nat) (v : W32) : (s.setLineW k v).regs = s.regs := by delta State.setLineW; rfl
@[simp] theorem State.setLineW_store (s : State) (k : Nat) (v : W32) : (s.setLineW k v).store = s.store := by delta State.setLineW; rfl
@[simp] theorem State.setLineW_storeBad (s : State) (k : Nat) (v : W32) : (s.setLineW k v).storeBad = s.storeBad := by delta State.setLineW; rfl
@[simp] theorem State.setLineW_clusters (s : State) (k : Nat) (v : W32) : (s.setLineW k v).clusters = s.clusters := by delta State.setLineW; rfl
@[simp] theorem State.setLineW_recs (s : State) (k : Nat) (v : W32) : (s.setLineW k v).recs = s.recs := by delta State.setLineW; rfl
@[simp] theorem State.setLineW_tasks (s : State) (k : Nat) (v : W32) : (s.setLineW k v).tasks = s.tasks := by delta State.setLineW; rfl
@[simp] theorem State.setLineW_jobs (s : State) (k : Nat) (v : W32) : (s.setLineW k v).jobs = s.jobs := by delta State.setLineW; rfl
@[simp] theorem State.setLineW_hostPins (s : State) (k : Nat) (v : W32) : (s.setLineW k v).hostPins = s.hostPins := by delta State.setLineW; rfl
@[simp] theorem State.setLineW_mapClock (s : State) (k : Nat) (v : W32) : (s.setLineW k v).mapClock = s.mapClock := by delta State.setLineW; rfl
@[simp] theorem State.setLineW_inSlots (s : State) (k : Nat) (v : W32) : (s.setLineW k v).inSlots = s.inSlots := by delta State.setLineW; rfl
@[simp] theorem State.setLineW_outSlots (s : State) (k : Nat) (v : W32) : (s.setLineW k v).outSlots = s.outSlots := by delta State.setLineW; rfl
@[simp] theorem State.setLineW_intSlots (s : State) (k : Nat) (v : W32) : (s.setLineW k v).intSlots = s.intSlots := by delta State.setLineW; rfl
@[simp] theorem State.setLineW_alloc (s : State) (k : Nat) (v : W32) : (s.setLineW k v).alloc = s.alloc := by delta State.setLineW; rfl
@[simp] theorem State.setLineW_calRec (s : State) (k : Nat) (v : W32) : (s.setLineW k v).calRec = s.calRec := by delta State.setLineW; rfl
@[simp] theorem State.setLineW_cal (s : State) (k : Nat) (v : W32) : (s.setLineW k v).cal = s.cal := by delta State.setLineW; rfl
@[simp] theorem State.setLineW_stoppedD (s : State) (k : Nat) (v : W32) : (s.setLineW k v).stoppedD = s.stoppedD := by delta State.setLineW; rfl
@[simp] theorem State.setLineW_gens (s : State) (k : Nat) (v : W32) : (s.setLineW k v).gens = s.gens := by delta State.setLineW; rfl
@[simp] theorem State.setLineW_genNum (s : State) (k : Nat) (v : W32) : (s.setLineW k v).genNum = s.genNum := by delta State.setLineW; rfl
@[simp] theorem State.setLineW_baseline (s : State) (k : Nat) (v : W32) : (s.setLineW k v).baseline = s.baseline := by delta State.setLineW; rfl
@[simp] theorem State.setLineW_baseDir (s : State) (k : Nat) (v : W32) : (s.setLineW k v).baseDir = s.baseDir := by delta State.setLineW; rfl
@[simp] theorem State.setLineW_baseMem (s : State) (k : Nat) (v : W32) : (s.setLineW k v).baseMem = s.baseMem := by delta State.setLineW; rfl
@[simp] theorem State.setLineW_genOrder (s : State) (k : Nat) (v : W32) : (s.setLineW k v).genOrder = s.genOrder := by delta State.setLineW; rfl
@[simp] theorem State.setLineW_partRec (s : State) (k : Nat) (v : W32) : (s.setLineW k v).partRec = s.partRec := by delta State.setLineW; rfl
@[simp] theorem State.setLineW_lanes (s : State) (k : Nat) (v : W32) : (s.setLineW k v).lanes = s.lanes := by delta State.setLineW; rfl
@[simp] theorem State.setLineW_partners (s : State) (k : Nat) (v : W32) : (s.setLineW k v).partners = s.partners := by delta State.setLineW; rfl
@[simp] theorem State.setLineW_cores (s : State) (k : Nat) (v : W32) : (s.setLineW k v).cores = s.cores := by delta State.setLineW; rfl
@[simp] theorem State.setLineW_ridge (s : State) (k : Nat) (v : W32) : (s.setLineW k v).ridge = s.ridge := by delta State.setLineW; rfl
@[simp] theorem State.setLineW_sqs (s : State) (k : Nat) (v : W32) : (s.setLineW k v).sqs = s.sqs := by delta State.setLineW; rfl
@[simp] theorem State.setLineW_cqs (s : State) (k : Nat) (v : W32) : (s.setLineW k v).cqs = s.cqs := by delta State.setLineW; rfl
@[simp] theorem State.setLineW_engine (s : State) (k : Nat) (v : W32) : (s.setLineW k v).engine = s.engine := by delta State.setLineW; rfl
@[simp] theorem State.setLineW_pcie (s : State) (k : Nat) (v : W32) : (s.setLineW k v).pcie = s.pcie := by delta State.setLineW; rfl
@[simp] theorem State.setLineW_srcs (s : State) (k : Nat) (v : W32) : (s.setLineW k v).srcs = s.srcs := by delta State.setLineW; rfl
@[simp] theorem State.setLineW_running (s : State) (k : Nat) (v : W32) : (s.setLineW k v).running = s.running := by delta State.setLineW; rfl
@[simp] theorem State.setLineW_claims (s : State) (k : Nat) (v : W32) : (s.setLineW k v).claims = s.claims := by delta State.setLineW; rfl
@[simp] theorem State.setLineW_dmas (s : State) (k : Nat) (v : W32) : (s.setLineW k v).dmas = s.dmas := by delta State.setLineW; rfl
@[simp] theorem State.setLineW_dmaLast (s : State) (k : Nat) (v : W32) : (s.setLineW k v).dmaLast = s.dmaLast := by delta State.setLineW; rfl
@[simp] theorem State.setLineW_latches (s : State) (k : Nat) (v : W32) : (s.setLineW k v).latches = s.latches := by delta State.setLineW; rfl
@[simp] theorem State.setLineW_doms (s : State) (k : Nat) (v : W32) : (s.setLineW k v).doms = s.doms := by delta State.setLineW; rfl
@[simp] theorem State.setLineW_clk (s : State) (k : Nat) (v : W32) : (s.setLineW k v).clk = s.clk := by delta State.setLineW; rfl
@[simp] theorem State.setLineW_cald (s : State) (k : Nat) (v : W32) : (s.setLineW k v).cald = s.cald := by delta State.setLineW; rfl
@[simp] theorem State.setLineW_misc (s : State) (k : Nat) (v : W32) : (s.setLineW k v).misc = s.misc := by delta State.setLineW; rfl
@[simp] theorem State.setLineW_scrubs (s : State) (k : Nat) (v : W32) : (s.setLineW k v).scrubs = s.scrubs := by delta State.setLineW; rfl
@[simp] theorem State.setLineW_heldBar (s : State) (k : Nat) (v : W32) : (s.setLineW k v).heldBar = s.heldBar := by delta State.setLineW; rfl
@[simp] theorem State.setLineW_out (s : State) (k : Nat) (v : W32) : (s.setLineW k v).out = s.out := by delta State.setLineW; rfl
@[simp] theorem State.cluster_setLineW (s : State) (k : Nat) (v : W32) (j : Nat) : (s.setLineW k v).cluster j = s.cluster j := by delta State.setLineW; rfl
@[simp] theorem State.recW_setLineW (s : State) (k : Nat) (v : W32) (j : Nat) : (s.setLineW k v).recW j = s.recW j := by delta State.setLineW; rfl
@[simp] theorem State.task_setLineW (s : State) (k : Nat) (v : W32) (j : Nat) : (s.setLineW k v).task j = s.task j := by delta State.setLineW; rfl
@[simp] theorem State.inSlot_setLineW (s : State) (k : Nat) (v : W32) (j : Nat) : (s.setLineW k v).inSlot j = s.inSlot j := by delta State.setLineW; rfl
@[simp] theorem State.outSlot_setLineW (s : State) (k : Nat) (v : W32) (j : Nat) : (s.setLineW k v).outSlot j = s.outSlot j := by delta State.setLineW; rfl
@[simp] theorem State.intSlot_setLineW (s : State) (k : Nat) (v : W32) (j : Nat) : (s.setLineW k v).intSlot j = s.intSlot j := by delta State.setLineW; rfl
@[simp] theorem State.cls_setLineW (s : State) (k : Nat) (v : W32) (j : Nat) : (s.setLineW k v).cls j = s.cls j := by delta State.setLineW; rfl
@[simp] theorem State.calW_setLineW (s : State) (k : Nat) (v : W32) (j : Nat) : (s.setLineW k v).calW j = s.calW j := by delta State.setLineW; rfl
@[simp] theorem State.calSlot_setLineW (s : State) (k : Nat) (v : W32) (j : Nat) : (s.setLineW k v).calSlot j = s.calSlot j := by delta State.setLineW; rfl
@[simp] theorem State.gen_setLineW (s : State) (k : Nat) (v : W32) (j : Nat) : (s.setLineW k v).gen j = s.gen j := by delta State.setLineW; rfl
@[simp] theorem State.partW_setLineW (s : State) (k : Nat) (v : W32) (j : Nat) : (s.setLineW k v).partW j = s.partW j := by delta State.setLineW; rfl
@[simp] theorem State.lane_setLineW (s : State) (k : Nat) (v : W32) (j : Nat) : (s.setLineW k v).lane j = s.lane j := by delta State.setLineW; rfl
@[simp] theorem State.partner_setLineW (s : State) (k : Nat) (v : W32) (j : Nat) : (s.setLineW k v).partner j = s.partner j := by delta State.setLineW; rfl
@[simp] theorem State.core_setLineW (s : State) (k : Nat) (v : W32) (j : Nat) : (s.setLineW k v).core j = s.core j := by delta State.setLineW; rfl
@[simp] theorem State.sq_setLineW (s : State) (k : Nat) (v : W32) (j : Nat) : (s.setLineW k v).sq j = s.sq j := by delta State.setLineW; rfl
@[simp] theorem State.cq_setLineW (s : State) (k : Nat) (v : W32) (j : Nat) : (s.setLineW k v).cq j = s.cq j := by delta State.setLineW; rfl
@[simp] theorem State.src_setLineW (s : State) (k : Nat) (v : W32) (j : Nat) : (s.setLineW k v).src j = s.src j := by delta State.setLineW; rfl
@[simp] theorem State.stack_setLineW (s : State) (k : Nat) (v : W32) (j : Nat) : (s.setLineW k v).stack j = s.stack j := by delta State.setLineW; rfl
@[simp] theorem State.claimed_setLineW (s : State) (k : Nat) (v : W32) (j : Nat) : (s.setLineW k v).claimed j = s.claimed j := by delta State.setLineW; rfl
@[simp] theorem State.dma_setLineW (s : State) (k : Nat) (v : W32) (j : Nat) : (s.setLineW k v).dma j = s.dma j := by delta State.setLineW; rfl
@[simp] theorem State.latch_setLineW (s : State) (k : Nat) (v : W32) (j : Nat) : (s.setLineW k v).latch j = s.latch j := by delta State.setLineW; rfl
@[simp] theorem State.dom_setLineW (s : State) (k : Nat) (v : W32) (j : Nat) : (s.setLineW k v).dom j = s.dom j := by delta State.setLineW; rfl
@[simp] theorem State.scr_setLineW (s : State) (k : Nat) (v : W32) (j : Nat) : (s.setLineW k v).scr j = s.scr j := by delta State.setLineW; rfl
@[simp] theorem State.reg_setLineW (s : State) (k : Nat) (v : W32) (r : Reg) : (s.setLineW k v).reg r = s.reg r := by delta State.setLineW; rfl
@[simp] theorem State.lineW_setLineW (s : State) (k : Nat) (v : W32) (j : Nat) : (s.setLineW k v).lineW j = if j = k then v else s.lineW j := by
  simp [State.lineW, State.setLineW]
@[simp] theorem State.setLineW_setLineW (s : State) (k : Nat) (v : W32) (v' : W32) : (s.setLineW k v).setLineW k v' = s.setLineW k v' := by
  simp [State.setLineW]
@[simp] theorem State.updLineW_eq (s : State) (k : Nat) (g : W32 → W32) : s.updLineW k g = s.setLineW k (g (s.lineW k)) := rfl

/-! ### partW -/

@[simp] theorem State.setPartW_pending (s : State) (k : Nat) (v : W32) : (s.setPartW k v).pending = s.pending := by delta State.setPartW; rfl
@[simp] theorem State.setPartW_free (s : State) (k : Nat) (v : W32) : (s.setPartW k v).free = s.free := by delta State.setPartW; rfl
@[simp] theorem State.setPartW_regs (s : State) (k : Nat) (v : W32) : (s.setPartW k v).regs = s.regs := by delta State.setPartW; rfl
@[simp] theorem State.setPartW_store (s : State) (k : Nat) (v : W32) : (s.setPartW k v).store = s.store := by delta State.setPartW; rfl
@[simp] theorem State.setPartW_storeBad (s : State) (k : Nat) (v : W32) : (s.setPartW k v).storeBad = s.storeBad := by delta State.setPartW; rfl
@[simp] theorem State.setPartW_clusters (s : State) (k : Nat) (v : W32) : (s.setPartW k v).clusters = s.clusters := by delta State.setPartW; rfl
@[simp] theorem State.setPartW_recs (s : State) (k : Nat) (v : W32) : (s.setPartW k v).recs = s.recs := by delta State.setPartW; rfl
@[simp] theorem State.setPartW_tasks (s : State) (k : Nat) (v : W32) : (s.setPartW k v).tasks = s.tasks := by delta State.setPartW; rfl
@[simp] theorem State.setPartW_jobs (s : State) (k : Nat) (v : W32) : (s.setPartW k v).jobs = s.jobs := by delta State.setPartW; rfl
@[simp] theorem State.setPartW_hostPins (s : State) (k : Nat) (v : W32) : (s.setPartW k v).hostPins = s.hostPins := by delta State.setPartW; rfl
@[simp] theorem State.setPartW_mapClock (s : State) (k : Nat) (v : W32) : (s.setPartW k v).mapClock = s.mapClock := by delta State.setPartW; rfl
@[simp] theorem State.setPartW_inSlots (s : State) (k : Nat) (v : W32) : (s.setPartW k v).inSlots = s.inSlots := by delta State.setPartW; rfl
@[simp] theorem State.setPartW_outSlots (s : State) (k : Nat) (v : W32) : (s.setPartW k v).outSlots = s.outSlots := by delta State.setPartW; rfl
@[simp] theorem State.setPartW_intSlots (s : State) (k : Nat) (v : W32) : (s.setPartW k v).intSlots = s.intSlots := by delta State.setPartW; rfl
@[simp] theorem State.setPartW_alloc (s : State) (k : Nat) (v : W32) : (s.setPartW k v).alloc = s.alloc := by delta State.setPartW; rfl
@[simp] theorem State.setPartW_calRec (s : State) (k : Nat) (v : W32) : (s.setPartW k v).calRec = s.calRec := by delta State.setPartW; rfl
@[simp] theorem State.setPartW_cal (s : State) (k : Nat) (v : W32) : (s.setPartW k v).cal = s.cal := by delta State.setPartW; rfl
@[simp] theorem State.setPartW_stoppedD (s : State) (k : Nat) (v : W32) : (s.setPartW k v).stoppedD = s.stoppedD := by delta State.setPartW; rfl
@[simp] theorem State.setPartW_gens (s : State) (k : Nat) (v : W32) : (s.setPartW k v).gens = s.gens := by delta State.setPartW; rfl
@[simp] theorem State.setPartW_genNum (s : State) (k : Nat) (v : W32) : (s.setPartW k v).genNum = s.genNum := by delta State.setPartW; rfl
@[simp] theorem State.setPartW_baseline (s : State) (k : Nat) (v : W32) : (s.setPartW k v).baseline = s.baseline := by delta State.setPartW; rfl
@[simp] theorem State.setPartW_baseDir (s : State) (k : Nat) (v : W32) : (s.setPartW k v).baseDir = s.baseDir := by delta State.setPartW; rfl
@[simp] theorem State.setPartW_baseMem (s : State) (k : Nat) (v : W32) : (s.setPartW k v).baseMem = s.baseMem := by delta State.setPartW; rfl
@[simp] theorem State.setPartW_genOrder (s : State) (k : Nat) (v : W32) : (s.setPartW k v).genOrder = s.genOrder := by delta State.setPartW; rfl
@[simp] theorem State.setPartW_lineRec (s : State) (k : Nat) (v : W32) : (s.setPartW k v).lineRec = s.lineRec := by delta State.setPartW; rfl
@[simp] theorem State.setPartW_lanes (s : State) (k : Nat) (v : W32) : (s.setPartW k v).lanes = s.lanes := by delta State.setPartW; rfl
@[simp] theorem State.setPartW_partners (s : State) (k : Nat) (v : W32) : (s.setPartW k v).partners = s.partners := by delta State.setPartW; rfl
@[simp] theorem State.setPartW_cores (s : State) (k : Nat) (v : W32) : (s.setPartW k v).cores = s.cores := by delta State.setPartW; rfl
@[simp] theorem State.setPartW_ridge (s : State) (k : Nat) (v : W32) : (s.setPartW k v).ridge = s.ridge := by delta State.setPartW; rfl
@[simp] theorem State.setPartW_sqs (s : State) (k : Nat) (v : W32) : (s.setPartW k v).sqs = s.sqs := by delta State.setPartW; rfl
@[simp] theorem State.setPartW_cqs (s : State) (k : Nat) (v : W32) : (s.setPartW k v).cqs = s.cqs := by delta State.setPartW; rfl
@[simp] theorem State.setPartW_engine (s : State) (k : Nat) (v : W32) : (s.setPartW k v).engine = s.engine := by delta State.setPartW; rfl
@[simp] theorem State.setPartW_pcie (s : State) (k : Nat) (v : W32) : (s.setPartW k v).pcie = s.pcie := by delta State.setPartW; rfl
@[simp] theorem State.setPartW_srcs (s : State) (k : Nat) (v : W32) : (s.setPartW k v).srcs = s.srcs := by delta State.setPartW; rfl
@[simp] theorem State.setPartW_running (s : State) (k : Nat) (v : W32) : (s.setPartW k v).running = s.running := by delta State.setPartW; rfl
@[simp] theorem State.setPartW_claims (s : State) (k : Nat) (v : W32) : (s.setPartW k v).claims = s.claims := by delta State.setPartW; rfl
@[simp] theorem State.setPartW_dmas (s : State) (k : Nat) (v : W32) : (s.setPartW k v).dmas = s.dmas := by delta State.setPartW; rfl
@[simp] theorem State.setPartW_dmaLast (s : State) (k : Nat) (v : W32) : (s.setPartW k v).dmaLast = s.dmaLast := by delta State.setPartW; rfl
@[simp] theorem State.setPartW_latches (s : State) (k : Nat) (v : W32) : (s.setPartW k v).latches = s.latches := by delta State.setPartW; rfl
@[simp] theorem State.setPartW_doms (s : State) (k : Nat) (v : W32) : (s.setPartW k v).doms = s.doms := by delta State.setPartW; rfl
@[simp] theorem State.setPartW_clk (s : State) (k : Nat) (v : W32) : (s.setPartW k v).clk = s.clk := by delta State.setPartW; rfl
@[simp] theorem State.setPartW_cald (s : State) (k : Nat) (v : W32) : (s.setPartW k v).cald = s.cald := by delta State.setPartW; rfl
@[simp] theorem State.setPartW_misc (s : State) (k : Nat) (v : W32) : (s.setPartW k v).misc = s.misc := by delta State.setPartW; rfl
@[simp] theorem State.setPartW_scrubs (s : State) (k : Nat) (v : W32) : (s.setPartW k v).scrubs = s.scrubs := by delta State.setPartW; rfl
@[simp] theorem State.setPartW_heldBar (s : State) (k : Nat) (v : W32) : (s.setPartW k v).heldBar = s.heldBar := by delta State.setPartW; rfl
@[simp] theorem State.setPartW_out (s : State) (k : Nat) (v : W32) : (s.setPartW k v).out = s.out := by delta State.setPartW; rfl
@[simp] theorem State.cluster_setPartW (s : State) (k : Nat) (v : W32) (j : Nat) : (s.setPartW k v).cluster j = s.cluster j := by delta State.setPartW; rfl
@[simp] theorem State.recW_setPartW (s : State) (k : Nat) (v : W32) (j : Nat) : (s.setPartW k v).recW j = s.recW j := by delta State.setPartW; rfl
@[simp] theorem State.task_setPartW (s : State) (k : Nat) (v : W32) (j : Nat) : (s.setPartW k v).task j = s.task j := by delta State.setPartW; rfl
@[simp] theorem State.inSlot_setPartW (s : State) (k : Nat) (v : W32) (j : Nat) : (s.setPartW k v).inSlot j = s.inSlot j := by delta State.setPartW; rfl
@[simp] theorem State.outSlot_setPartW (s : State) (k : Nat) (v : W32) (j : Nat) : (s.setPartW k v).outSlot j = s.outSlot j := by delta State.setPartW; rfl
@[simp] theorem State.intSlot_setPartW (s : State) (k : Nat) (v : W32) (j : Nat) : (s.setPartW k v).intSlot j = s.intSlot j := by delta State.setPartW; rfl
@[simp] theorem State.cls_setPartW (s : State) (k : Nat) (v : W32) (j : Nat) : (s.setPartW k v).cls j = s.cls j := by delta State.setPartW; rfl
@[simp] theorem State.calW_setPartW (s : State) (k : Nat) (v : W32) (j : Nat) : (s.setPartW k v).calW j = s.calW j := by delta State.setPartW; rfl
@[simp] theorem State.calSlot_setPartW (s : State) (k : Nat) (v : W32) (j : Nat) : (s.setPartW k v).calSlot j = s.calSlot j := by delta State.setPartW; rfl
@[simp] theorem State.gen_setPartW (s : State) (k : Nat) (v : W32) (j : Nat) : (s.setPartW k v).gen j = s.gen j := by delta State.setPartW; rfl
@[simp] theorem State.lineW_setPartW (s : State) (k : Nat) (v : W32) (j : Nat) : (s.setPartW k v).lineW j = s.lineW j := by delta State.setPartW; rfl
@[simp] theorem State.lane_setPartW (s : State) (k : Nat) (v : W32) (j : Nat) : (s.setPartW k v).lane j = s.lane j := by delta State.setPartW; rfl
@[simp] theorem State.partner_setPartW (s : State) (k : Nat) (v : W32) (j : Nat) : (s.setPartW k v).partner j = s.partner j := by delta State.setPartW; rfl
@[simp] theorem State.core_setPartW (s : State) (k : Nat) (v : W32) (j : Nat) : (s.setPartW k v).core j = s.core j := by delta State.setPartW; rfl
@[simp] theorem State.sq_setPartW (s : State) (k : Nat) (v : W32) (j : Nat) : (s.setPartW k v).sq j = s.sq j := by delta State.setPartW; rfl
@[simp] theorem State.cq_setPartW (s : State) (k : Nat) (v : W32) (j : Nat) : (s.setPartW k v).cq j = s.cq j := by delta State.setPartW; rfl
@[simp] theorem State.src_setPartW (s : State) (k : Nat) (v : W32) (j : Nat) : (s.setPartW k v).src j = s.src j := by delta State.setPartW; rfl
@[simp] theorem State.stack_setPartW (s : State) (k : Nat) (v : W32) (j : Nat) : (s.setPartW k v).stack j = s.stack j := by delta State.setPartW; rfl
@[simp] theorem State.claimed_setPartW (s : State) (k : Nat) (v : W32) (j : Nat) : (s.setPartW k v).claimed j = s.claimed j := by delta State.setPartW; rfl
@[simp] theorem State.dma_setPartW (s : State) (k : Nat) (v : W32) (j : Nat) : (s.setPartW k v).dma j = s.dma j := by delta State.setPartW; rfl
@[simp] theorem State.latch_setPartW (s : State) (k : Nat) (v : W32) (j : Nat) : (s.setPartW k v).latch j = s.latch j := by delta State.setPartW; rfl
@[simp] theorem State.dom_setPartW (s : State) (k : Nat) (v : W32) (j : Nat) : (s.setPartW k v).dom j = s.dom j := by delta State.setPartW; rfl
@[simp] theorem State.scr_setPartW (s : State) (k : Nat) (v : W32) (j : Nat) : (s.setPartW k v).scr j = s.scr j := by delta State.setPartW; rfl
@[simp] theorem State.reg_setPartW (s : State) (k : Nat) (v : W32) (r : Reg) : (s.setPartW k v).reg r = s.reg r := by delta State.setPartW; rfl
@[simp] theorem State.partW_setPartW (s : State) (k : Nat) (v : W32) (j : Nat) : (s.setPartW k v).partW j = if j = k then v else s.partW j := by
  simp [State.partW, State.setPartW]
@[simp] theorem State.setPartW_setPartW (s : State) (k : Nat) (v : W32) (v' : W32) : (s.setPartW k v).setPartW k v' = s.setPartW k v' := by
  simp [State.setPartW]
@[simp] theorem State.updPartW_eq (s : State) (k : Nat) (g : W32 → W32) : s.updPartW k g = s.setPartW k (g (s.partW k)) := rfl

/-! ### lane -/

@[simp] theorem State.setLane_pending (s : State) (k : Nat) (v : Lane) : (s.setLane k v).pending = s.pending := by delta State.setLane; rfl
@[simp] theorem State.setLane_free (s : State) (k : Nat) (v : Lane) : (s.setLane k v).free = s.free := by delta State.setLane; rfl
@[simp] theorem State.setLane_regs (s : State) (k : Nat) (v : Lane) : (s.setLane k v).regs = s.regs := by delta State.setLane; rfl
@[simp] theorem State.setLane_store (s : State) (k : Nat) (v : Lane) : (s.setLane k v).store = s.store := by delta State.setLane; rfl
@[simp] theorem State.setLane_storeBad (s : State) (k : Nat) (v : Lane) : (s.setLane k v).storeBad = s.storeBad := by delta State.setLane; rfl
@[simp] theorem State.setLane_clusters (s : State) (k : Nat) (v : Lane) : (s.setLane k v).clusters = s.clusters := by delta State.setLane; rfl
@[simp] theorem State.setLane_recs (s : State) (k : Nat) (v : Lane) : (s.setLane k v).recs = s.recs := by delta State.setLane; rfl
@[simp] theorem State.setLane_tasks (s : State) (k : Nat) (v : Lane) : (s.setLane k v).tasks = s.tasks := by delta State.setLane; rfl
@[simp] theorem State.setLane_jobs (s : State) (k : Nat) (v : Lane) : (s.setLane k v).jobs = s.jobs := by delta State.setLane; rfl
@[simp] theorem State.setLane_hostPins (s : State) (k : Nat) (v : Lane) : (s.setLane k v).hostPins = s.hostPins := by delta State.setLane; rfl
@[simp] theorem State.setLane_mapClock (s : State) (k : Nat) (v : Lane) : (s.setLane k v).mapClock = s.mapClock := by delta State.setLane; rfl
@[simp] theorem State.setLane_inSlots (s : State) (k : Nat) (v : Lane) : (s.setLane k v).inSlots = s.inSlots := by delta State.setLane; rfl
@[simp] theorem State.setLane_outSlots (s : State) (k : Nat) (v : Lane) : (s.setLane k v).outSlots = s.outSlots := by delta State.setLane; rfl
@[simp] theorem State.setLane_intSlots (s : State) (k : Nat) (v : Lane) : (s.setLane k v).intSlots = s.intSlots := by delta State.setLane; rfl
@[simp] theorem State.setLane_alloc (s : State) (k : Nat) (v : Lane) : (s.setLane k v).alloc = s.alloc := by delta State.setLane; rfl
@[simp] theorem State.setLane_calRec (s : State) (k : Nat) (v : Lane) : (s.setLane k v).calRec = s.calRec := by delta State.setLane; rfl
@[simp] theorem State.setLane_cal (s : State) (k : Nat) (v : Lane) : (s.setLane k v).cal = s.cal := by delta State.setLane; rfl
@[simp] theorem State.setLane_stoppedD (s : State) (k : Nat) (v : Lane) : (s.setLane k v).stoppedD = s.stoppedD := by delta State.setLane; rfl
@[simp] theorem State.setLane_gens (s : State) (k : Nat) (v : Lane) : (s.setLane k v).gens = s.gens := by delta State.setLane; rfl
@[simp] theorem State.setLane_genNum (s : State) (k : Nat) (v : Lane) : (s.setLane k v).genNum = s.genNum := by delta State.setLane; rfl
@[simp] theorem State.setLane_baseline (s : State) (k : Nat) (v : Lane) : (s.setLane k v).baseline = s.baseline := by delta State.setLane; rfl
@[simp] theorem State.setLane_baseDir (s : State) (k : Nat) (v : Lane) : (s.setLane k v).baseDir = s.baseDir := by delta State.setLane; rfl
@[simp] theorem State.setLane_baseMem (s : State) (k : Nat) (v : Lane) : (s.setLane k v).baseMem = s.baseMem := by delta State.setLane; rfl
@[simp] theorem State.setLane_genOrder (s : State) (k : Nat) (v : Lane) : (s.setLane k v).genOrder = s.genOrder := by delta State.setLane; rfl
@[simp] theorem State.setLane_lineRec (s : State) (k : Nat) (v : Lane) : (s.setLane k v).lineRec = s.lineRec := by delta State.setLane; rfl
@[simp] theorem State.setLane_partRec (s : State) (k : Nat) (v : Lane) : (s.setLane k v).partRec = s.partRec := by delta State.setLane; rfl
@[simp] theorem State.setLane_partners (s : State) (k : Nat) (v : Lane) : (s.setLane k v).partners = s.partners := by delta State.setLane; rfl
@[simp] theorem State.setLane_cores (s : State) (k : Nat) (v : Lane) : (s.setLane k v).cores = s.cores := by delta State.setLane; rfl
@[simp] theorem State.setLane_ridge (s : State) (k : Nat) (v : Lane) : (s.setLane k v).ridge = s.ridge := by delta State.setLane; rfl
@[simp] theorem State.setLane_sqs (s : State) (k : Nat) (v : Lane) : (s.setLane k v).sqs = s.sqs := by delta State.setLane; rfl
@[simp] theorem State.setLane_cqs (s : State) (k : Nat) (v : Lane) : (s.setLane k v).cqs = s.cqs := by delta State.setLane; rfl
@[simp] theorem State.setLane_engine (s : State) (k : Nat) (v : Lane) : (s.setLane k v).engine = s.engine := by delta State.setLane; rfl
@[simp] theorem State.setLane_pcie (s : State) (k : Nat) (v : Lane) : (s.setLane k v).pcie = s.pcie := by delta State.setLane; rfl
@[simp] theorem State.setLane_srcs (s : State) (k : Nat) (v : Lane) : (s.setLane k v).srcs = s.srcs := by delta State.setLane; rfl
@[simp] theorem State.setLane_running (s : State) (k : Nat) (v : Lane) : (s.setLane k v).running = s.running := by delta State.setLane; rfl
@[simp] theorem State.setLane_claims (s : State) (k : Nat) (v : Lane) : (s.setLane k v).claims = s.claims := by delta State.setLane; rfl
@[simp] theorem State.setLane_dmas (s : State) (k : Nat) (v : Lane) : (s.setLane k v).dmas = s.dmas := by delta State.setLane; rfl
@[simp] theorem State.setLane_dmaLast (s : State) (k : Nat) (v : Lane) : (s.setLane k v).dmaLast = s.dmaLast := by delta State.setLane; rfl
@[simp] theorem State.setLane_latches (s : State) (k : Nat) (v : Lane) : (s.setLane k v).latches = s.latches := by delta State.setLane; rfl
@[simp] theorem State.setLane_doms (s : State) (k : Nat) (v : Lane) : (s.setLane k v).doms = s.doms := by delta State.setLane; rfl
@[simp] theorem State.setLane_clk (s : State) (k : Nat) (v : Lane) : (s.setLane k v).clk = s.clk := by delta State.setLane; rfl
@[simp] theorem State.setLane_cald (s : State) (k : Nat) (v : Lane) : (s.setLane k v).cald = s.cald := by delta State.setLane; rfl
@[simp] theorem State.setLane_misc (s : State) (k : Nat) (v : Lane) : (s.setLane k v).misc = s.misc := by delta State.setLane; rfl
@[simp] theorem State.setLane_scrubs (s : State) (k : Nat) (v : Lane) : (s.setLane k v).scrubs = s.scrubs := by delta State.setLane; rfl
@[simp] theorem State.setLane_heldBar (s : State) (k : Nat) (v : Lane) : (s.setLane k v).heldBar = s.heldBar := by delta State.setLane; rfl
@[simp] theorem State.setLane_out (s : State) (k : Nat) (v : Lane) : (s.setLane k v).out = s.out := by delta State.setLane; rfl
@[simp] theorem State.cluster_setLane (s : State) (k : Nat) (v : Lane) (j : Nat) : (s.setLane k v).cluster j = s.cluster j := by delta State.setLane; rfl
@[simp] theorem State.recW_setLane (s : State) (k : Nat) (v : Lane) (j : Nat) : (s.setLane k v).recW j = s.recW j := by delta State.setLane; rfl
@[simp] theorem State.task_setLane (s : State) (k : Nat) (v : Lane) (j : Nat) : (s.setLane k v).task j = s.task j := by delta State.setLane; rfl
@[simp] theorem State.inSlot_setLane (s : State) (k : Nat) (v : Lane) (j : Nat) : (s.setLane k v).inSlot j = s.inSlot j := by delta State.setLane; rfl
@[simp] theorem State.outSlot_setLane (s : State) (k : Nat) (v : Lane) (j : Nat) : (s.setLane k v).outSlot j = s.outSlot j := by delta State.setLane; rfl
@[simp] theorem State.intSlot_setLane (s : State) (k : Nat) (v : Lane) (j : Nat) : (s.setLane k v).intSlot j = s.intSlot j := by delta State.setLane; rfl
@[simp] theorem State.cls_setLane (s : State) (k : Nat) (v : Lane) (j : Nat) : (s.setLane k v).cls j = s.cls j := by delta State.setLane; rfl
@[simp] theorem State.calW_setLane (s : State) (k : Nat) (v : Lane) (j : Nat) : (s.setLane k v).calW j = s.calW j := by delta State.setLane; rfl
@[simp] theorem State.calSlot_setLane (s : State) (k : Nat) (v : Lane) (j : Nat) : (s.setLane k v).calSlot j = s.calSlot j := by delta State.setLane; rfl
@[simp] theorem State.gen_setLane (s : State) (k : Nat) (v : Lane) (j : Nat) : (s.setLane k v).gen j = s.gen j := by delta State.setLane; rfl
@[simp] theorem State.lineW_setLane (s : State) (k : Nat) (v : Lane) (j : Nat) : (s.setLane k v).lineW j = s.lineW j := by delta State.setLane; rfl
@[simp] theorem State.partW_setLane (s : State) (k : Nat) (v : Lane) (j : Nat) : (s.setLane k v).partW j = s.partW j := by delta State.setLane; rfl
@[simp] theorem State.partner_setLane (s : State) (k : Nat) (v : Lane) (j : Nat) : (s.setLane k v).partner j = s.partner j := by delta State.setLane; rfl
@[simp] theorem State.core_setLane (s : State) (k : Nat) (v : Lane) (j : Nat) : (s.setLane k v).core j = s.core j := by delta State.setLane; rfl
@[simp] theorem State.sq_setLane (s : State) (k : Nat) (v : Lane) (j : Nat) : (s.setLane k v).sq j = s.sq j := by delta State.setLane; rfl
@[simp] theorem State.cq_setLane (s : State) (k : Nat) (v : Lane) (j : Nat) : (s.setLane k v).cq j = s.cq j := by delta State.setLane; rfl
@[simp] theorem State.src_setLane (s : State) (k : Nat) (v : Lane) (j : Nat) : (s.setLane k v).src j = s.src j := by delta State.setLane; rfl
@[simp] theorem State.stack_setLane (s : State) (k : Nat) (v : Lane) (j : Nat) : (s.setLane k v).stack j = s.stack j := by delta State.setLane; rfl
@[simp] theorem State.claimed_setLane (s : State) (k : Nat) (v : Lane) (j : Nat) : (s.setLane k v).claimed j = s.claimed j := by delta State.setLane; rfl
@[simp] theorem State.dma_setLane (s : State) (k : Nat) (v : Lane) (j : Nat) : (s.setLane k v).dma j = s.dma j := by delta State.setLane; rfl
@[simp] theorem State.latch_setLane (s : State) (k : Nat) (v : Lane) (j : Nat) : (s.setLane k v).latch j = s.latch j := by delta State.setLane; rfl
@[simp] theorem State.dom_setLane (s : State) (k : Nat) (v : Lane) (j : Nat) : (s.setLane k v).dom j = s.dom j := by delta State.setLane; rfl
@[simp] theorem State.scr_setLane (s : State) (k : Nat) (v : Lane) (j : Nat) : (s.setLane k v).scr j = s.scr j := by delta State.setLane; rfl
@[simp] theorem State.reg_setLane (s : State) (k : Nat) (v : Lane) (r : Reg) : (s.setLane k v).reg r = s.reg r := by delta State.setLane; rfl
@[simp] theorem State.lane_setLane (s : State) (k : Nat) (v : Lane) (j : Nat) : (s.setLane k v).lane j = if j = k then v else s.lane j := by
  simp [State.lane, State.setLane]
@[simp] theorem State.setLane_setLane (s : State) (k : Nat) (v : Lane) (v' : Lane) : (s.setLane k v).setLane k v' = s.setLane k v' := by
  simp [State.setLane]
@[simp] theorem State.updLane_eq (s : State) (k : Nat) (g : Lane → Lane) : s.updLane k g = s.setLane k (g (s.lane k)) := rfl

/-! ### partner -/

@[simp] theorem State.setPartner_pending (s : State) (k : Nat) (v : Partner) : (s.setPartner k v).pending = s.pending := by delta State.setPartner; rfl
@[simp] theorem State.setPartner_free (s : State) (k : Nat) (v : Partner) : (s.setPartner k v).free = s.free := by delta State.setPartner; rfl
@[simp] theorem State.setPartner_regs (s : State) (k : Nat) (v : Partner) : (s.setPartner k v).regs = s.regs := by delta State.setPartner; rfl
@[simp] theorem State.setPartner_store (s : State) (k : Nat) (v : Partner) : (s.setPartner k v).store = s.store := by delta State.setPartner; rfl
@[simp] theorem State.setPartner_storeBad (s : State) (k : Nat) (v : Partner) : (s.setPartner k v).storeBad = s.storeBad := by delta State.setPartner; rfl
@[simp] theorem State.setPartner_clusters (s : State) (k : Nat) (v : Partner) : (s.setPartner k v).clusters = s.clusters := by delta State.setPartner; rfl
@[simp] theorem State.setPartner_recs (s : State) (k : Nat) (v : Partner) : (s.setPartner k v).recs = s.recs := by delta State.setPartner; rfl
@[simp] theorem State.setPartner_tasks (s : State) (k : Nat) (v : Partner) : (s.setPartner k v).tasks = s.tasks := by delta State.setPartner; rfl
@[simp] theorem State.setPartner_jobs (s : State) (k : Nat) (v : Partner) : (s.setPartner k v).jobs = s.jobs := by delta State.setPartner; rfl
@[simp] theorem State.setPartner_hostPins (s : State) (k : Nat) (v : Partner) : (s.setPartner k v).hostPins = s.hostPins := by delta State.setPartner; rfl
@[simp] theorem State.setPartner_mapClock (s : State) (k : Nat) (v : Partner) : (s.setPartner k v).mapClock = s.mapClock := by delta State.setPartner; rfl
@[simp] theorem State.setPartner_inSlots (s : State) (k : Nat) (v : Partner) : (s.setPartner k v).inSlots = s.inSlots := by delta State.setPartner; rfl
@[simp] theorem State.setPartner_outSlots (s : State) (k : Nat) (v : Partner) : (s.setPartner k v).outSlots = s.outSlots := by delta State.setPartner; rfl
@[simp] theorem State.setPartner_intSlots (s : State) (k : Nat) (v : Partner) : (s.setPartner k v).intSlots = s.intSlots := by delta State.setPartner; rfl
@[simp] theorem State.setPartner_alloc (s : State) (k : Nat) (v : Partner) : (s.setPartner k v).alloc = s.alloc := by delta State.setPartner; rfl
@[simp] theorem State.setPartner_calRec (s : State) (k : Nat) (v : Partner) : (s.setPartner k v).calRec = s.calRec := by delta State.setPartner; rfl
@[simp] theorem State.setPartner_cal (s : State) (k : Nat) (v : Partner) : (s.setPartner k v).cal = s.cal := by delta State.setPartner; rfl
@[simp] theorem State.setPartner_stoppedD (s : State) (k : Nat) (v : Partner) : (s.setPartner k v).stoppedD = s.stoppedD := by delta State.setPartner; rfl
@[simp] theorem State.setPartner_gens (s : State) (k : Nat) (v : Partner) : (s.setPartner k v).gens = s.gens := by delta State.setPartner; rfl
@[simp] theorem State.setPartner_genNum (s : State) (k : Nat) (v : Partner) : (s.setPartner k v).genNum = s.genNum := by delta State.setPartner; rfl
@[simp] theorem State.setPartner_baseline (s : State) (k : Nat) (v : Partner) : (s.setPartner k v).baseline = s.baseline := by delta State.setPartner; rfl
@[simp] theorem State.setPartner_baseDir (s : State) (k : Nat) (v : Partner) : (s.setPartner k v).baseDir = s.baseDir := by delta State.setPartner; rfl
@[simp] theorem State.setPartner_baseMem (s : State) (k : Nat) (v : Partner) : (s.setPartner k v).baseMem = s.baseMem := by delta State.setPartner; rfl
@[simp] theorem State.setPartner_genOrder (s : State) (k : Nat) (v : Partner) : (s.setPartner k v).genOrder = s.genOrder := by delta State.setPartner; rfl
@[simp] theorem State.setPartner_lineRec (s : State) (k : Nat) (v : Partner) : (s.setPartner k v).lineRec = s.lineRec := by delta State.setPartner; rfl
@[simp] theorem State.setPartner_partRec (s : State) (k : Nat) (v : Partner) : (s.setPartner k v).partRec = s.partRec := by delta State.setPartner; rfl
@[simp] theorem State.setPartner_lanes (s : State) (k : Nat) (v : Partner) : (s.setPartner k v).lanes = s.lanes := by delta State.setPartner; rfl
@[simp] theorem State.setPartner_cores (s : State) (k : Nat) (v : Partner) : (s.setPartner k v).cores = s.cores := by delta State.setPartner; rfl
@[simp] theorem State.setPartner_ridge (s : State) (k : Nat) (v : Partner) : (s.setPartner k v).ridge = s.ridge := by delta State.setPartner; rfl
@[simp] theorem State.setPartner_sqs (s : State) (k : Nat) (v : Partner) : (s.setPartner k v).sqs = s.sqs := by delta State.setPartner; rfl
@[simp] theorem State.setPartner_cqs (s : State) (k : Nat) (v : Partner) : (s.setPartner k v).cqs = s.cqs := by delta State.setPartner; rfl
@[simp] theorem State.setPartner_engine (s : State) (k : Nat) (v : Partner) : (s.setPartner k v).engine = s.engine := by delta State.setPartner; rfl
@[simp] theorem State.setPartner_pcie (s : State) (k : Nat) (v : Partner) : (s.setPartner k v).pcie = s.pcie := by delta State.setPartner; rfl
@[simp] theorem State.setPartner_srcs (s : State) (k : Nat) (v : Partner) : (s.setPartner k v).srcs = s.srcs := by delta State.setPartner; rfl
@[simp] theorem State.setPartner_running (s : State) (k : Nat) (v : Partner) : (s.setPartner k v).running = s.running := by delta State.setPartner; rfl
@[simp] theorem State.setPartner_claims (s : State) (k : Nat) (v : Partner) : (s.setPartner k v).claims = s.claims := by delta State.setPartner; rfl
@[simp] theorem State.setPartner_dmas (s : State) (k : Nat) (v : Partner) : (s.setPartner k v).dmas = s.dmas := by delta State.setPartner; rfl
@[simp] theorem State.setPartner_dmaLast (s : State) (k : Nat) (v : Partner) : (s.setPartner k v).dmaLast = s.dmaLast := by delta State.setPartner; rfl
@[simp] theorem State.setPartner_latches (s : State) (k : Nat) (v : Partner) : (s.setPartner k v).latches = s.latches := by delta State.setPartner; rfl
@[simp] theorem State.setPartner_doms (s : State) (k : Nat) (v : Partner) : (s.setPartner k v).doms = s.doms := by delta State.setPartner; rfl
@[simp] theorem State.setPartner_clk (s : State) (k : Nat) (v : Partner) : (s.setPartner k v).clk = s.clk := by delta State.setPartner; rfl
@[simp] theorem State.setPartner_cald (s : State) (k : Nat) (v : Partner) : (s.setPartner k v).cald = s.cald := by delta State.setPartner; rfl
@[simp] theorem State.setPartner_misc (s : State) (k : Nat) (v : Partner) : (s.setPartner k v).misc = s.misc := by delta State.setPartner; rfl
@[simp] theorem State.setPartner_scrubs (s : State) (k : Nat) (v : Partner) : (s.setPartner k v).scrubs = s.scrubs := by delta State.setPartner; rfl
@[simp] theorem State.setPartner_heldBar (s : State) (k : Nat) (v : Partner) : (s.setPartner k v).heldBar = s.heldBar := by delta State.setPartner; rfl
@[simp] theorem State.setPartner_out (s : State) (k : Nat) (v : Partner) : (s.setPartner k v).out = s.out := by delta State.setPartner; rfl
@[simp] theorem State.cluster_setPartner (s : State) (k : Nat) (v : Partner) (j : Nat) : (s.setPartner k v).cluster j = s.cluster j := by delta State.setPartner; rfl
@[simp] theorem State.recW_setPartner (s : State) (k : Nat) (v : Partner) (j : Nat) : (s.setPartner k v).recW j = s.recW j := by delta State.setPartner; rfl
@[simp] theorem State.task_setPartner (s : State) (k : Nat) (v : Partner) (j : Nat) : (s.setPartner k v).task j = s.task j := by delta State.setPartner; rfl
@[simp] theorem State.inSlot_setPartner (s : State) (k : Nat) (v : Partner) (j : Nat) : (s.setPartner k v).inSlot j = s.inSlot j := by delta State.setPartner; rfl
@[simp] theorem State.outSlot_setPartner (s : State) (k : Nat) (v : Partner) (j : Nat) : (s.setPartner k v).outSlot j = s.outSlot j := by delta State.setPartner; rfl
@[simp] theorem State.intSlot_setPartner (s : State) (k : Nat) (v : Partner) (j : Nat) : (s.setPartner k v).intSlot j = s.intSlot j := by delta State.setPartner; rfl
@[simp] theorem State.cls_setPartner (s : State) (k : Nat) (v : Partner) (j : Nat) : (s.setPartner k v).cls j = s.cls j := by delta State.setPartner; rfl
@[simp] theorem State.calW_setPartner (s : State) (k : Nat) (v : Partner) (j : Nat) : (s.setPartner k v).calW j = s.calW j := by delta State.setPartner; rfl
@[simp] theorem State.calSlot_setPartner (s : State) (k : Nat) (v : Partner) (j : Nat) : (s.setPartner k v).calSlot j = s.calSlot j := by delta State.setPartner; rfl
@[simp] theorem State.gen_setPartner (s : State) (k : Nat) (v : Partner) (j : Nat) : (s.setPartner k v).gen j = s.gen j := by delta State.setPartner; rfl
@[simp] theorem State.lineW_setPartner (s : State) (k : Nat) (v : Partner) (j : Nat) : (s.setPartner k v).lineW j = s.lineW j := by delta State.setPartner; rfl
@[simp] theorem State.partW_setPartner (s : State) (k : Nat) (v : Partner) (j : Nat) : (s.setPartner k v).partW j = s.partW j := by delta State.setPartner; rfl
@[simp] theorem State.lane_setPartner (s : State) (k : Nat) (v : Partner) (j : Nat) : (s.setPartner k v).lane j = s.lane j := by delta State.setPartner; rfl
@[simp] theorem State.core_setPartner (s : State) (k : Nat) (v : Partner) (j : Nat) : (s.setPartner k v).core j = s.core j := by delta State.setPartner; rfl
@[simp] theorem State.sq_setPartner (s : State) (k : Nat) (v : Partner) (j : Nat) : (s.setPartner k v).sq j = s.sq j := by delta State.setPartner; rfl
@[simp] theorem State.cq_setPartner (s : State) (k : Nat) (v : Partner) (j : Nat) : (s.setPartner k v).cq j = s.cq j := by delta State.setPartner; rfl
@[simp] theorem State.src_setPartner (s : State) (k : Nat) (v : Partner) (j : Nat) : (s.setPartner k v).src j = s.src j := by delta State.setPartner; rfl
@[simp] theorem State.stack_setPartner (s : State) (k : Nat) (v : Partner) (j : Nat) : (s.setPartner k v).stack j = s.stack j := by delta State.setPartner; rfl
@[simp] theorem State.claimed_setPartner (s : State) (k : Nat) (v : Partner) (j : Nat) : (s.setPartner k v).claimed j = s.claimed j := by delta State.setPartner; rfl
@[simp] theorem State.dma_setPartner (s : State) (k : Nat) (v : Partner) (j : Nat) : (s.setPartner k v).dma j = s.dma j := by delta State.setPartner; rfl
@[simp] theorem State.latch_setPartner (s : State) (k : Nat) (v : Partner) (j : Nat) : (s.setPartner k v).latch j = s.latch j := by delta State.setPartner; rfl
@[simp] theorem State.dom_setPartner (s : State) (k : Nat) (v : Partner) (j : Nat) : (s.setPartner k v).dom j = s.dom j := by delta State.setPartner; rfl
@[simp] theorem State.scr_setPartner (s : State) (k : Nat) (v : Partner) (j : Nat) : (s.setPartner k v).scr j = s.scr j := by delta State.setPartner; rfl
@[simp] theorem State.reg_setPartner (s : State) (k : Nat) (v : Partner) (r : Reg) : (s.setPartner k v).reg r = s.reg r := by delta State.setPartner; rfl
@[simp] theorem State.partner_setPartner (s : State) (k : Nat) (v : Partner) (j : Nat) : (s.setPartner k v).partner j = if j = k then v else s.partner j := by
  simp [State.partner, State.setPartner]
@[simp] theorem State.setPartner_setPartner (s : State) (k : Nat) (v : Partner) (v' : Partner) : (s.setPartner k v).setPartner k v' = s.setPartner k v' := by
  simp [State.setPartner]
@[simp] theorem State.updPartner_eq (s : State) (k : Nat) (g : Partner → Partner) : s.updPartner k g = s.setPartner k (g (s.partner k)) := rfl

/-! ### core -/

@[simp] theorem State.setCore_pending (s : State) (k : Nat) (v : Core) : (s.setCore k v).pending = s.pending := by delta State.setCore; rfl
@[simp] theorem State.setCore_free (s : State) (k : Nat) (v : Core) : (s.setCore k v).free = s.free := by delta State.setCore; rfl
@[simp] theorem State.setCore_regs (s : State) (k : Nat) (v : Core) : (s.setCore k v).regs = s.regs := by delta State.setCore; rfl
@[simp] theorem State.setCore_store (s : State) (k : Nat) (v : Core) : (s.setCore k v).store = s.store := by delta State.setCore; rfl
@[simp] theorem State.setCore_storeBad (s : State) (k : Nat) (v : Core) : (s.setCore k v).storeBad = s.storeBad := by delta State.setCore; rfl
@[simp] theorem State.setCore_clusters (s : State) (k : Nat) (v : Core) : (s.setCore k v).clusters = s.clusters := by delta State.setCore; rfl
@[simp] theorem State.setCore_recs (s : State) (k : Nat) (v : Core) : (s.setCore k v).recs = s.recs := by delta State.setCore; rfl
@[simp] theorem State.setCore_tasks (s : State) (k : Nat) (v : Core) : (s.setCore k v).tasks = s.tasks := by delta State.setCore; rfl
@[simp] theorem State.setCore_jobs (s : State) (k : Nat) (v : Core) : (s.setCore k v).jobs = s.jobs := by delta State.setCore; rfl
@[simp] theorem State.setCore_hostPins (s : State) (k : Nat) (v : Core) : (s.setCore k v).hostPins = s.hostPins := by delta State.setCore; rfl
@[simp] theorem State.setCore_mapClock (s : State) (k : Nat) (v : Core) : (s.setCore k v).mapClock = s.mapClock := by delta State.setCore; rfl
@[simp] theorem State.setCore_inSlots (s : State) (k : Nat) (v : Core) : (s.setCore k v).inSlots = s.inSlots := by delta State.setCore; rfl
@[simp] theorem State.setCore_outSlots (s : State) (k : Nat) (v : Core) : (s.setCore k v).outSlots = s.outSlots := by delta State.setCore; rfl
@[simp] theorem State.setCore_intSlots (s : State) (k : Nat) (v : Core) : (s.setCore k v).intSlots = s.intSlots := by delta State.setCore; rfl
@[simp] theorem State.setCore_alloc (s : State) (k : Nat) (v : Core) : (s.setCore k v).alloc = s.alloc := by delta State.setCore; rfl
@[simp] theorem State.setCore_calRec (s : State) (k : Nat) (v : Core) : (s.setCore k v).calRec = s.calRec := by delta State.setCore; rfl
@[simp] theorem State.setCore_cal (s : State) (k : Nat) (v : Core) : (s.setCore k v).cal = s.cal := by delta State.setCore; rfl
@[simp] theorem State.setCore_stoppedD (s : State) (k : Nat) (v : Core) : (s.setCore k v).stoppedD = s.stoppedD := by delta State.setCore; rfl
@[simp] theorem State.setCore_gens (s : State) (k : Nat) (v : Core) : (s.setCore k v).gens = s.gens := by delta State.setCore; rfl
@[simp] theorem State.setCore_genNum (s : State) (k : Nat) (v : Core) : (s.setCore k v).genNum = s.genNum := by delta State.setCore; rfl
@[simp] theorem State.setCore_baseline (s : State) (k : Nat) (v : Core) : (s.setCore k v).baseline = s.baseline := by delta State.setCore; rfl
@[simp] theorem State.setCore_baseDir (s : State) (k : Nat) (v : Core) : (s.setCore k v).baseDir = s.baseDir := by delta State.setCore; rfl
@[simp] theorem State.setCore_baseMem (s : State) (k : Nat) (v : Core) : (s.setCore k v).baseMem = s.baseMem := by delta State.setCore; rfl
@[simp] theorem State.setCore_genOrder (s : State) (k : Nat) (v : Core) : (s.setCore k v).genOrder = s.genOrder := by delta State.setCore; rfl
@[simp] theorem State.setCore_lineRec (s : State) (k : Nat) (v : Core) : (s.setCore k v).lineRec = s.lineRec := by delta State.setCore; rfl
@[simp] theorem State.setCore_partRec (s : State) (k : Nat) (v : Core) : (s.setCore k v).partRec = s.partRec := by delta State.setCore; rfl
@[simp] theorem State.setCore_lanes (s : State) (k : Nat) (v : Core) : (s.setCore k v).lanes = s.lanes := by delta State.setCore; rfl
@[simp] theorem State.setCore_partners (s : State) (k : Nat) (v : Core) : (s.setCore k v).partners = s.partners := by delta State.setCore; rfl
@[simp] theorem State.setCore_ridge (s : State) (k : Nat) (v : Core) : (s.setCore k v).ridge = s.ridge := by delta State.setCore; rfl
@[simp] theorem State.setCore_sqs (s : State) (k : Nat) (v : Core) : (s.setCore k v).sqs = s.sqs := by delta State.setCore; rfl
@[simp] theorem State.setCore_cqs (s : State) (k : Nat) (v : Core) : (s.setCore k v).cqs = s.cqs := by delta State.setCore; rfl
@[simp] theorem State.setCore_engine (s : State) (k : Nat) (v : Core) : (s.setCore k v).engine = s.engine := by delta State.setCore; rfl
@[simp] theorem State.setCore_pcie (s : State) (k : Nat) (v : Core) : (s.setCore k v).pcie = s.pcie := by delta State.setCore; rfl
@[simp] theorem State.setCore_srcs (s : State) (k : Nat) (v : Core) : (s.setCore k v).srcs = s.srcs := by delta State.setCore; rfl
@[simp] theorem State.setCore_running (s : State) (k : Nat) (v : Core) : (s.setCore k v).running = s.running := by delta State.setCore; rfl
@[simp] theorem State.setCore_claims (s : State) (k : Nat) (v : Core) : (s.setCore k v).claims = s.claims := by delta State.setCore; rfl
@[simp] theorem State.setCore_dmas (s : State) (k : Nat) (v : Core) : (s.setCore k v).dmas = s.dmas := by delta State.setCore; rfl
@[simp] theorem State.setCore_dmaLast (s : State) (k : Nat) (v : Core) : (s.setCore k v).dmaLast = s.dmaLast := by delta State.setCore; rfl
@[simp] theorem State.setCore_latches (s : State) (k : Nat) (v : Core) : (s.setCore k v).latches = s.latches := by delta State.setCore; rfl
@[simp] theorem State.setCore_doms (s : State) (k : Nat) (v : Core) : (s.setCore k v).doms = s.doms := by delta State.setCore; rfl
@[simp] theorem State.setCore_clk (s : State) (k : Nat) (v : Core) : (s.setCore k v).clk = s.clk := by delta State.setCore; rfl
@[simp] theorem State.setCore_cald (s : State) (k : Nat) (v : Core) : (s.setCore k v).cald = s.cald := by delta State.setCore; rfl
@[simp] theorem State.setCore_misc (s : State) (k : Nat) (v : Core) : (s.setCore k v).misc = s.misc := by delta State.setCore; rfl
@[simp] theorem State.setCore_scrubs (s : State) (k : Nat) (v : Core) : (s.setCore k v).scrubs = s.scrubs := by delta State.setCore; rfl
@[simp] theorem State.setCore_heldBar (s : State) (k : Nat) (v : Core) : (s.setCore k v).heldBar = s.heldBar := by delta State.setCore; rfl
@[simp] theorem State.setCore_out (s : State) (k : Nat) (v : Core) : (s.setCore k v).out = s.out := by delta State.setCore; rfl
@[simp] theorem State.cluster_setCore (s : State) (k : Nat) (v : Core) (j : Nat) : (s.setCore k v).cluster j = s.cluster j := by delta State.setCore; rfl
@[simp] theorem State.recW_setCore (s : State) (k : Nat) (v : Core) (j : Nat) : (s.setCore k v).recW j = s.recW j := by delta State.setCore; rfl
@[simp] theorem State.task_setCore (s : State) (k : Nat) (v : Core) (j : Nat) : (s.setCore k v).task j = s.task j := by delta State.setCore; rfl
@[simp] theorem State.inSlot_setCore (s : State) (k : Nat) (v : Core) (j : Nat) : (s.setCore k v).inSlot j = s.inSlot j := by delta State.setCore; rfl
@[simp] theorem State.outSlot_setCore (s : State) (k : Nat) (v : Core) (j : Nat) : (s.setCore k v).outSlot j = s.outSlot j := by delta State.setCore; rfl
@[simp] theorem State.intSlot_setCore (s : State) (k : Nat) (v : Core) (j : Nat) : (s.setCore k v).intSlot j = s.intSlot j := by delta State.setCore; rfl
@[simp] theorem State.cls_setCore (s : State) (k : Nat) (v : Core) (j : Nat) : (s.setCore k v).cls j = s.cls j := by delta State.setCore; rfl
@[simp] theorem State.calW_setCore (s : State) (k : Nat) (v : Core) (j : Nat) : (s.setCore k v).calW j = s.calW j := by delta State.setCore; rfl
@[simp] theorem State.calSlot_setCore (s : State) (k : Nat) (v : Core) (j : Nat) : (s.setCore k v).calSlot j = s.calSlot j := by delta State.setCore; rfl
@[simp] theorem State.gen_setCore (s : State) (k : Nat) (v : Core) (j : Nat) : (s.setCore k v).gen j = s.gen j := by delta State.setCore; rfl
@[simp] theorem State.lineW_setCore (s : State) (k : Nat) (v : Core) (j : Nat) : (s.setCore k v).lineW j = s.lineW j := by delta State.setCore; rfl
@[simp] theorem State.partW_setCore (s : State) (k : Nat) (v : Core) (j : Nat) : (s.setCore k v).partW j = s.partW j := by delta State.setCore; rfl
@[simp] theorem State.lane_setCore (s : State) (k : Nat) (v : Core) (j : Nat) : (s.setCore k v).lane j = s.lane j := by delta State.setCore; rfl
@[simp] theorem State.partner_setCore (s : State) (k : Nat) (v : Core) (j : Nat) : (s.setCore k v).partner j = s.partner j := by delta State.setCore; rfl
@[simp] theorem State.sq_setCore (s : State) (k : Nat) (v : Core) (j : Nat) : (s.setCore k v).sq j = s.sq j := by delta State.setCore; rfl
@[simp] theorem State.cq_setCore (s : State) (k : Nat) (v : Core) (j : Nat) : (s.setCore k v).cq j = s.cq j := by delta State.setCore; rfl
@[simp] theorem State.src_setCore (s : State) (k : Nat) (v : Core) (j : Nat) : (s.setCore k v).src j = s.src j := by delta State.setCore; rfl
@[simp] theorem State.stack_setCore (s : State) (k : Nat) (v : Core) (j : Nat) : (s.setCore k v).stack j = s.stack j := by delta State.setCore; rfl
@[simp] theorem State.claimed_setCore (s : State) (k : Nat) (v : Core) (j : Nat) : (s.setCore k v).claimed j = s.claimed j := by delta State.setCore; rfl
@[simp] theorem State.dma_setCore (s : State) (k : Nat) (v : Core) (j : Nat) : (s.setCore k v).dma j = s.dma j := by delta State.setCore; rfl
@[simp] theorem State.latch_setCore (s : State) (k : Nat) (v : Core) (j : Nat) : (s.setCore k v).latch j = s.latch j := by delta State.setCore; rfl
@[simp] theorem State.dom_setCore (s : State) (k : Nat) (v : Core) (j : Nat) : (s.setCore k v).dom j = s.dom j := by delta State.setCore; rfl
@[simp] theorem State.scr_setCore (s : State) (k : Nat) (v : Core) (j : Nat) : (s.setCore k v).scr j = s.scr j := by delta State.setCore; rfl
@[simp] theorem State.reg_setCore (s : State) (k : Nat) (v : Core) (r : Reg) : (s.setCore k v).reg r = s.reg r := by delta State.setCore; rfl
@[simp] theorem State.core_setCore (s : State) (k : Nat) (v : Core) (j : Nat) : (s.setCore k v).core j = if j = k then v else s.core j := by
  simp [State.core, State.setCore]
@[simp] theorem State.setCore_setCore (s : State) (k : Nat) (v : Core) (v' : Core) : (s.setCore k v).setCore k v' = s.setCore k v' := by
  simp [State.setCore]
@[simp] theorem State.updCore_eq (s : State) (k : Nat) (g : Core → Core) : s.updCore k g = s.setCore k (g (s.core k)) := rfl

/-! ### sq -/

@[simp] theorem State.setSq_pending (s : State) (k : Nat) (v : Sq) : (s.setSq k v).pending = s.pending := by delta State.setSq; rfl
@[simp] theorem State.setSq_free (s : State) (k : Nat) (v : Sq) : (s.setSq k v).free = s.free := by delta State.setSq; rfl
@[simp] theorem State.setSq_regs (s : State) (k : Nat) (v : Sq) : (s.setSq k v).regs = s.regs := by delta State.setSq; rfl
@[simp] theorem State.setSq_store (s : State) (k : Nat) (v : Sq) : (s.setSq k v).store = s.store := by delta State.setSq; rfl
@[simp] theorem State.setSq_storeBad (s : State) (k : Nat) (v : Sq) : (s.setSq k v).storeBad = s.storeBad := by delta State.setSq; rfl
@[simp] theorem State.setSq_clusters (s : State) (k : Nat) (v : Sq) : (s.setSq k v).clusters = s.clusters := by delta State.setSq; rfl
@[simp] theorem State.setSq_recs (s : State) (k : Nat) (v : Sq) : (s.setSq k v).recs = s.recs := by delta State.setSq; rfl
@[simp] theorem State.setSq_tasks (s : State) (k : Nat) (v : Sq) : (s.setSq k v).tasks = s.tasks := by delta State.setSq; rfl
@[simp] theorem State.setSq_jobs (s : State) (k : Nat) (v : Sq) : (s.setSq k v).jobs = s.jobs := by delta State.setSq; rfl
@[simp] theorem State.setSq_hostPins (s : State) (k : Nat) (v : Sq) : (s.setSq k v).hostPins = s.hostPins := by delta State.setSq; rfl
@[simp] theorem State.setSq_mapClock (s : State) (k : Nat) (v : Sq) : (s.setSq k v).mapClock = s.mapClock := by delta State.setSq; rfl
@[simp] theorem State.setSq_inSlots (s : State) (k : Nat) (v : Sq) : (s.setSq k v).inSlots = s.inSlots := by delta State.setSq; rfl
@[simp] theorem State.setSq_outSlots (s : State) (k : Nat) (v : Sq) : (s.setSq k v).outSlots = s.outSlots := by delta State.setSq; rfl
@[simp] theorem State.setSq_intSlots (s : State) (k : Nat) (v : Sq) : (s.setSq k v).intSlots = s.intSlots := by delta State.setSq; rfl
@[simp] theorem State.setSq_alloc (s : State) (k : Nat) (v : Sq) : (s.setSq k v).alloc = s.alloc := by delta State.setSq; rfl
@[simp] theorem State.setSq_calRec (s : State) (k : Nat) (v : Sq) : (s.setSq k v).calRec = s.calRec := by delta State.setSq; rfl
@[simp] theorem State.setSq_cal (s : State) (k : Nat) (v : Sq) : (s.setSq k v).cal = s.cal := by delta State.setSq; rfl
@[simp] theorem State.setSq_stoppedD (s : State) (k : Nat) (v : Sq) : (s.setSq k v).stoppedD = s.stoppedD := by delta State.setSq; rfl
@[simp] theorem State.setSq_gens (s : State) (k : Nat) (v : Sq) : (s.setSq k v).gens = s.gens := by delta State.setSq; rfl
@[simp] theorem State.setSq_genNum (s : State) (k : Nat) (v : Sq) : (s.setSq k v).genNum = s.genNum := by delta State.setSq; rfl
@[simp] theorem State.setSq_baseline (s : State) (k : Nat) (v : Sq) : (s.setSq k v).baseline = s.baseline := by delta State.setSq; rfl
@[simp] theorem State.setSq_baseDir (s : State) (k : Nat) (v : Sq) : (s.setSq k v).baseDir = s.baseDir := by delta State.setSq; rfl
@[simp] theorem State.setSq_baseMem (s : State) (k : Nat) (v : Sq) : (s.setSq k v).baseMem = s.baseMem := by delta State.setSq; rfl
@[simp] theorem State.setSq_genOrder (s : State) (k : Nat) (v : Sq) : (s.setSq k v).genOrder = s.genOrder := by delta State.setSq; rfl
@[simp] theorem State.setSq_lineRec (s : State) (k : Nat) (v : Sq) : (s.setSq k v).lineRec = s.lineRec := by delta State.setSq; rfl
@[simp] theorem State.setSq_partRec (s : State) (k : Nat) (v : Sq) : (s.setSq k v).partRec = s.partRec := by delta State.setSq; rfl
@[simp] theorem State.setSq_lanes (s : State) (k : Nat) (v : Sq) : (s.setSq k v).lanes = s.lanes := by delta State.setSq; rfl
@[simp] theorem State.setSq_partners (s : State) (k : Nat) (v : Sq) : (s.setSq k v).partners = s.partners := by delta State.setSq; rfl
@[simp] theorem State.setSq_cores (s : State) (k : Nat) (v : Sq) : (s.setSq k v).cores = s.cores := by delta State.setSq; rfl
@[simp] theorem State.setSq_ridge (s : State) (k : Nat) (v : Sq) : (s.setSq k v).ridge = s.ridge := by delta State.setSq; rfl
@[simp] theorem State.setSq_cqs (s : State) (k : Nat) (v : Sq) : (s.setSq k v).cqs = s.cqs := by delta State.setSq; rfl
@[simp] theorem State.setSq_engine (s : State) (k : Nat) (v : Sq) : (s.setSq k v).engine = s.engine := by delta State.setSq; rfl
@[simp] theorem State.setSq_pcie (s : State) (k : Nat) (v : Sq) : (s.setSq k v).pcie = s.pcie := by delta State.setSq; rfl
@[simp] theorem State.setSq_srcs (s : State) (k : Nat) (v : Sq) : (s.setSq k v).srcs = s.srcs := by delta State.setSq; rfl
@[simp] theorem State.setSq_running (s : State) (k : Nat) (v : Sq) : (s.setSq k v).running = s.running := by delta State.setSq; rfl
@[simp] theorem State.setSq_claims (s : State) (k : Nat) (v : Sq) : (s.setSq k v).claims = s.claims := by delta State.setSq; rfl
@[simp] theorem State.setSq_dmas (s : State) (k : Nat) (v : Sq) : (s.setSq k v).dmas = s.dmas := by delta State.setSq; rfl
@[simp] theorem State.setSq_dmaLast (s : State) (k : Nat) (v : Sq) : (s.setSq k v).dmaLast = s.dmaLast := by delta State.setSq; rfl
@[simp] theorem State.setSq_latches (s : State) (k : Nat) (v : Sq) : (s.setSq k v).latches = s.latches := by delta State.setSq; rfl
@[simp] theorem State.setSq_doms (s : State) (k : Nat) (v : Sq) : (s.setSq k v).doms = s.doms := by delta State.setSq; rfl
@[simp] theorem State.setSq_clk (s : State) (k : Nat) (v : Sq) : (s.setSq k v).clk = s.clk := by delta State.setSq; rfl
@[simp] theorem State.setSq_cald (s : State) (k : Nat) (v : Sq) : (s.setSq k v).cald = s.cald := by delta State.setSq; rfl
@[simp] theorem State.setSq_misc (s : State) (k : Nat) (v : Sq) : (s.setSq k v).misc = s.misc := by delta State.setSq; rfl
@[simp] theorem State.setSq_scrubs (s : State) (k : Nat) (v : Sq) : (s.setSq k v).scrubs = s.scrubs := by delta State.setSq; rfl
@[simp] theorem State.setSq_heldBar (s : State) (k : Nat) (v : Sq) : (s.setSq k v).heldBar = s.heldBar := by delta State.setSq; rfl
@[simp] theorem State.setSq_out (s : State) (k : Nat) (v : Sq) : (s.setSq k v).out = s.out := by delta State.setSq; rfl
@[simp] theorem State.cluster_setSq (s : State) (k : Nat) (v : Sq) (j : Nat) : (s.setSq k v).cluster j = s.cluster j := by delta State.setSq; rfl
@[simp] theorem State.recW_setSq (s : State) (k : Nat) (v : Sq) (j : Nat) : (s.setSq k v).recW j = s.recW j := by delta State.setSq; rfl
@[simp] theorem State.task_setSq (s : State) (k : Nat) (v : Sq) (j : Nat) : (s.setSq k v).task j = s.task j := by delta State.setSq; rfl
@[simp] theorem State.inSlot_setSq (s : State) (k : Nat) (v : Sq) (j : Nat) : (s.setSq k v).inSlot j = s.inSlot j := by delta State.setSq; rfl
@[simp] theorem State.outSlot_setSq (s : State) (k : Nat) (v : Sq) (j : Nat) : (s.setSq k v).outSlot j = s.outSlot j := by delta State.setSq; rfl
@[simp] theorem State.intSlot_setSq (s : State) (k : Nat) (v : Sq) (j : Nat) : (s.setSq k v).intSlot j = s.intSlot j := by delta State.setSq; rfl
@[simp] theorem State.cls_setSq (s : State) (k : Nat) (v : Sq) (j : Nat) : (s.setSq k v).cls j = s.cls j := by delta State.setSq; rfl
@[simp] theorem State.calW_setSq (s : State) (k : Nat) (v : Sq) (j : Nat) : (s.setSq k v).calW j = s.calW j := by delta State.setSq; rfl
@[simp] theorem State.calSlot_setSq (s : State) (k : Nat) (v : Sq) (j : Nat) : (s.setSq k v).calSlot j = s.calSlot j := by delta State.setSq; rfl
@[simp] theorem State.gen_setSq (s : State) (k : Nat) (v : Sq) (j : Nat) : (s.setSq k v).gen j = s.gen j := by delta State.setSq; rfl
@[simp] theorem State.lineW_setSq (s : State) (k : Nat) (v : Sq) (j : Nat) : (s.setSq k v).lineW j = s.lineW j := by delta State.setSq; rfl
@[simp] theorem State.partW_setSq (s : State) (k : Nat) (v : Sq) (j : Nat) : (s.setSq k v).partW j = s.partW j := by delta State.setSq; rfl
@[simp] theorem State.lane_setSq (s : State) (k : Nat) (v : Sq) (j : Nat) : (s.setSq k v).lane j = s.lane j := by delta State.setSq; rfl
@[simp] theorem State.partner_setSq (s : State) (k : Nat) (v : Sq) (j : Nat) : (s.setSq k v).partner j = s.partner j := by delta State.setSq; rfl
@[simp] theorem State.core_setSq (s : State) (k : Nat) (v : Sq) (j : Nat) : (s.setSq k v).core j = s.core j := by delta State.setSq; rfl
@[simp] theorem State.cq_setSq (s : State) (k : Nat) (v : Sq) (j : Nat) : (s.setSq k v).cq j = s.cq j := by delta State.setSq; rfl
@[simp] theorem State.src_setSq (s : State) (k : Nat) (v : Sq) (j : Nat) : (s.setSq k v).src j = s.src j := by delta State.setSq; rfl
@[simp] theorem State.stack_setSq (s : State) (k : Nat) (v : Sq) (j : Nat) : (s.setSq k v).stack j = s.stack j := by delta State.setSq; rfl
@[simp] theorem State.claimed_setSq (s : State) (k : Nat) (v : Sq) (j : Nat) : (s.setSq k v).claimed j = s.claimed j := by delta State.setSq; rfl
@[simp] theorem State.dma_setSq (s : State) (k : Nat) (v : Sq) (j : Nat) : (s.setSq k v).dma j = s.dma j := by delta State.setSq; rfl
@[simp] theorem State.latch_setSq (s : State) (k : Nat) (v : Sq) (j : Nat) : (s.setSq k v).latch j = s.latch j := by delta State.setSq; rfl
@[simp] theorem State.dom_setSq (s : State) (k : Nat) (v : Sq) (j : Nat) : (s.setSq k v).dom j = s.dom j := by delta State.setSq; rfl
@[simp] theorem State.scr_setSq (s : State) (k : Nat) (v : Sq) (j : Nat) : (s.setSq k v).scr j = s.scr j := by delta State.setSq; rfl
@[simp] theorem State.reg_setSq (s : State) (k : Nat) (v : Sq) (r : Reg) : (s.setSq k v).reg r = s.reg r := by delta State.setSq; rfl
@[simp] theorem State.sq_setSq (s : State) (k : Nat) (v : Sq) (j : Nat) : (s.setSq k v).sq j = if j = k then v else s.sq j := by
  simp [State.sq, State.setSq]
@[simp] theorem State.setSq_setSq (s : State) (k : Nat) (v : Sq) (v' : Sq) : (s.setSq k v).setSq k v' = s.setSq k v' := by
  simp [State.setSq]
@[simp] theorem State.updSq_eq (s : State) (k : Nat) (g : Sq → Sq) : s.updSq k g = s.setSq k (g (s.sq k)) := rfl

/-! ### cq -/

@[simp] theorem State.setCq_pending (s : State) (k : Nat) (v : Cq) : (s.setCq k v).pending = s.pending := by delta State.setCq; rfl
@[simp] theorem State.setCq_free (s : State) (k : Nat) (v : Cq) : (s.setCq k v).free = s.free := by delta State.setCq; rfl
@[simp] theorem State.setCq_regs (s : State) (k : Nat) (v : Cq) : (s.setCq k v).regs = s.regs := by delta State.setCq; rfl
@[simp] theorem State.setCq_store (s : State) (k : Nat) (v : Cq) : (s.setCq k v).store = s.store := by delta State.setCq; rfl
@[simp] theorem State.setCq_storeBad (s : State) (k : Nat) (v : Cq) : (s.setCq k v).storeBad = s.storeBad := by delta State.setCq; rfl
@[simp] theorem State.setCq_clusters (s : State) (k : Nat) (v : Cq) : (s.setCq k v).clusters = s.clusters := by delta State.setCq; rfl
@[simp] theorem State.setCq_recs (s : State) (k : Nat) (v : Cq) : (s.setCq k v).recs = s.recs := by delta State.setCq; rfl
@[simp] theorem State.setCq_tasks (s : State) (k : Nat) (v : Cq) : (s.setCq k v).tasks = s.tasks := by delta State.setCq; rfl
@[simp] theorem State.setCq_jobs (s : State) (k : Nat) (v : Cq) : (s.setCq k v).jobs = s.jobs := by delta State.setCq; rfl
@[simp] theorem State.setCq_hostPins (s : State) (k : Nat) (v : Cq) : (s.setCq k v).hostPins = s.hostPins := by delta State.setCq; rfl
@[simp] theorem State.setCq_mapClock (s : State) (k : Nat) (v : Cq) : (s.setCq k v).mapClock = s.mapClock := by delta State.setCq; rfl
@[simp] theorem State.setCq_inSlots (s : State) (k : Nat) (v : Cq) : (s.setCq k v).inSlots = s.inSlots := by delta State.setCq; rfl
@[simp] theorem State.setCq_outSlots (s : State) (k : Nat) (v : Cq) : (s.setCq k v).outSlots = s.outSlots := by delta State.setCq; rfl
@[simp] theorem State.setCq_intSlots (s : State) (k : Nat) (v : Cq) : (s.setCq k v).intSlots = s.intSlots := by delta State.setCq; rfl
@[simp] theorem State.setCq_alloc (s : State) (k : Nat) (v : Cq) : (s.setCq k v).alloc = s.alloc := by delta State.setCq; rfl
@[simp] theorem State.setCq_calRec (s : State) (k : Nat) (v : Cq) : (s.setCq k v).calRec = s.calRec := by delta State.setCq; rfl
@[simp] theorem State.setCq_cal (s : State) (k : Nat) (v : Cq) : (s.setCq k v).cal = s.cal := by delta State.setCq; rfl
@[simp] theorem State.setCq_stoppedD (s : State) (k : Nat) (v : Cq) : (s.setCq k v).stoppedD = s.stoppedD := by delta State.setCq; rfl
@[simp] theorem State.setCq_gens (s : State) (k : Nat) (v : Cq) : (s.setCq k v).gens = s.gens := by delta State.setCq; rfl
@[simp] theorem State.setCq_genNum (s : State) (k : Nat) (v : Cq) : (s.setCq k v).genNum = s.genNum := by delta State.setCq; rfl
@[simp] theorem State.setCq_baseline (s : State) (k : Nat) (v : Cq) : (s.setCq k v).baseline = s.baseline := by delta State.setCq; rfl
@[simp] theorem State.setCq_baseDir (s : State) (k : Nat) (v : Cq) : (s.setCq k v).baseDir = s.baseDir := by delta State.setCq; rfl
@[simp] theorem State.setCq_baseMem (s : State) (k : Nat) (v : Cq) : (s.setCq k v).baseMem = s.baseMem := by delta State.setCq; rfl
@[simp] theorem State.setCq_genOrder (s : State) (k : Nat) (v : Cq) : (s.setCq k v).genOrder = s.genOrder := by delta State.setCq; rfl
@[simp] theorem State.setCq_lineRec (s : State) (k : Nat) (v : Cq) : (s.setCq k v).lineRec = s.lineRec := by delta State.setCq; rfl
@[simp] theorem State.setCq_partRec (s : State) (k : Nat) (v : Cq) : (s.setCq k v).partRec = s.partRec := by delta State.setCq; rfl
@[simp] theorem State.setCq_lanes (s : State) (k : Nat) (v : Cq) : (s.setCq k v).lanes = s.lanes := by delta State.setCq; rfl
@[simp] theorem State.setCq_partners (s : State) (k : Nat) (v : Cq) : (s.setCq k v).partners = s.partners := by delta State.setCq; rfl
@[simp] theorem State.setCq_cores (s : State) (k : Nat) (v : Cq) : (s.setCq k v).cores = s.cores := by delta State.setCq; rfl
@[simp] theorem State.setCq_ridge (s : State) (k : Nat) (v : Cq) : (s.setCq k v).ridge = s.ridge := by delta State.setCq; rfl
@[simp] theorem State.setCq_sqs (s : State) (k : Nat) (v : Cq) : (s.setCq k v).sqs = s.sqs := by delta State.setCq; rfl
@[simp] theorem State.setCq_engine (s : State) (k : Nat) (v : Cq) : (s.setCq k v).engine = s.engine := by delta State.setCq; rfl
@[simp] theorem State.setCq_pcie (s : State) (k : Nat) (v : Cq) : (s.setCq k v).pcie = s.pcie := by delta State.setCq; rfl
@[simp] theorem State.setCq_srcs (s : State) (k : Nat) (v : Cq) : (s.setCq k v).srcs = s.srcs := by delta State.setCq; rfl
@[simp] theorem State.setCq_running (s : State) (k : Nat) (v : Cq) : (s.setCq k v).running = s.running := by delta State.setCq; rfl
@[simp] theorem State.setCq_claims (s : State) (k : Nat) (v : Cq) : (s.setCq k v).claims = s.claims := by delta State.setCq; rfl
@[simp] theorem State.setCq_dmas (s : State) (k : Nat) (v : Cq) : (s.setCq k v).dmas = s.dmas := by delta State.setCq; rfl
@[simp] theorem State.setCq_dmaLast (s : State) (k : Nat) (v : Cq) : (s.setCq k v).dmaLast = s.dmaLast := by delta State.setCq; rfl
@[simp] theorem State.setCq_latches (s : State) (k : Nat) (v : Cq) : (s.setCq k v).latches = s.latches := by delta State.setCq; rfl
@[simp] theorem State.setCq_doms (s : State) (k : Nat) (v : Cq) : (s.setCq k v).doms = s.doms := by delta State.setCq; rfl
@[simp] theorem State.setCq_clk (s : State) (k : Nat) (v : Cq) : (s.setCq k v).clk = s.clk := by delta State.setCq; rfl
@[simp] theorem State.setCq_cald (s : State) (k : Nat) (v : Cq) : (s.setCq k v).cald = s.cald := by delta State.setCq; rfl
@[simp] theorem State.setCq_misc (s : State) (k : Nat) (v : Cq) : (s.setCq k v).misc = s.misc := by delta State.setCq; rfl
@[simp] theorem State.setCq_scrubs (s : State) (k : Nat) (v : Cq) : (s.setCq k v).scrubs = s.scrubs := by delta State.setCq; rfl
@[simp] theorem State.setCq_heldBar (s : State) (k : Nat) (v : Cq) : (s.setCq k v).heldBar = s.heldBar := by delta State.setCq; rfl
@[simp] theorem State.setCq_out (s : State) (k : Nat) (v : Cq) : (s.setCq k v).out = s.out := by delta State.setCq; rfl
@[simp] theorem State.cluster_setCq (s : State) (k : Nat) (v : Cq) (j : Nat) : (s.setCq k v).cluster j = s.cluster j := by delta State.setCq; rfl
@[simp] theorem State.recW_setCq (s : State) (k : Nat) (v : Cq) (j : Nat) : (s.setCq k v).recW j = s.recW j := by delta State.setCq; rfl
@[simp] theorem State.task_setCq (s : State) (k : Nat) (v : Cq) (j : Nat) : (s.setCq k v).task j = s.task j := by delta State.setCq; rfl
@[simp] theorem State.inSlot_setCq (s : State) (k : Nat) (v : Cq) (j : Nat) : (s.setCq k v).inSlot j = s.inSlot j := by delta State.setCq; rfl
@[simp] theorem State.outSlot_setCq (s : State) (k : Nat) (v : Cq) (j : Nat) : (s.setCq k v).outSlot j = s.outSlot j := by delta State.setCq; rfl
@[simp] theorem State.intSlot_setCq (s : State) (k : Nat) (v : Cq) (j : Nat) : (s.setCq k v).intSlot j = s.intSlot j := by delta State.setCq; rfl
@[simp] theorem State.cls_setCq (s : State) (k : Nat) (v : Cq) (j : Nat) : (s.setCq k v).cls j = s.cls j := by delta State.setCq; rfl
@[simp] theorem State.calW_setCq (s : State) (k : Nat) (v : Cq) (j : Nat) : (s.setCq k v).calW j = s.calW j := by delta State.setCq; rfl
@[simp] theorem State.calSlot_setCq (s : State) (k : Nat) (v : Cq) (j : Nat) : (s.setCq k v).calSlot j = s.calSlot j := by delta State.setCq; rfl
@[simp] theorem State.gen_setCq (s : State) (k : Nat) (v : Cq) (j : Nat) : (s.setCq k v).gen j = s.gen j := by delta State.setCq; rfl
@[simp] theorem State.lineW_setCq (s : State) (k : Nat) (v : Cq) (j : Nat) : (s.setCq k v).lineW j = s.lineW j := by delta State.setCq; rfl
@[simp] theorem State.partW_setCq (s : State) (k : Nat) (v : Cq) (j : Nat) : (s.setCq k v).partW j = s.partW j := by delta State.setCq; rfl
@[simp] theorem State.lane_setCq (s : State) (k : Nat) (v : Cq) (j : Nat) : (s.setCq k v).lane j = s.lane j := by delta State.setCq; rfl
@[simp] theorem State.partner_setCq (s : State) (k : Nat) (v : Cq) (j : Nat) : (s.setCq k v).partner j = s.partner j := by delta State.setCq; rfl
@[simp] theorem State.core_setCq (s : State) (k : Nat) (v : Cq) (j : Nat) : (s.setCq k v).core j = s.core j := by delta State.setCq; rfl
@[simp] theorem State.sq_setCq (s : State) (k : Nat) (v : Cq) (j : Nat) : (s.setCq k v).sq j = s.sq j := by delta State.setCq; rfl
@[simp] theorem State.src_setCq (s : State) (k : Nat) (v : Cq) (j : Nat) : (s.setCq k v).src j = s.src j := by delta State.setCq; rfl
@[simp] theorem State.stack_setCq (s : State) (k : Nat) (v : Cq) (j : Nat) : (s.setCq k v).stack j = s.stack j := by delta State.setCq; rfl
@[simp] theorem State.claimed_setCq (s : State) (k : Nat) (v : Cq) (j : Nat) : (s.setCq k v).claimed j = s.claimed j := by delta State.setCq; rfl
@[simp] theorem State.dma_setCq (s : State) (k : Nat) (v : Cq) (j : Nat) : (s.setCq k v).dma j = s.dma j := by delta State.setCq; rfl
@[simp] theorem State.latch_setCq (s : State) (k : Nat) (v : Cq) (j : Nat) : (s.setCq k v).latch j = s.latch j := by delta State.setCq; rfl
@[simp] theorem State.dom_setCq (s : State) (k : Nat) (v : Cq) (j : Nat) : (s.setCq k v).dom j = s.dom j := by delta State.setCq; rfl
@[simp] theorem State.scr_setCq (s : State) (k : Nat) (v : Cq) (j : Nat) : (s.setCq k v).scr j = s.scr j := by delta State.setCq; rfl
@[simp] theorem State.reg_setCq (s : State) (k : Nat) (v : Cq) (r : Reg) : (s.setCq k v).reg r = s.reg r := by delta State.setCq; rfl
@[simp] theorem State.cq_setCq (s : State) (k : Nat) (v : Cq) (j : Nat) : (s.setCq k v).cq j = if j = k then v else s.cq j := by
  simp [State.cq, State.setCq]
@[simp] theorem State.setCq_setCq (s : State) (k : Nat) (v : Cq) (v' : Cq) : (s.setCq k v).setCq k v' = s.setCq k v' := by
  simp [State.setCq]
@[simp] theorem State.updCq_eq (s : State) (k : Nat) (g : Cq → Cq) : s.updCq k g = s.setCq k (g (s.cq k)) := rfl

/-! ### src -/

@[simp] theorem State.setSrc_pending (s : State) (k : Nat) (v : Src) : (s.setSrc k v).pending = s.pending := by delta State.setSrc; rfl
@[simp] theorem State.setSrc_free (s : State) (k : Nat) (v : Src) : (s.setSrc k v).free = s.free := by delta State.setSrc; rfl
@[simp] theorem State.setSrc_regs (s : State) (k : Nat) (v : Src) : (s.setSrc k v).regs = s.regs := by delta State.setSrc; rfl
@[simp] theorem State.setSrc_store (s : State) (k : Nat) (v : Src) : (s.setSrc k v).store = s.store := by delta State.setSrc; rfl
@[simp] theorem State.setSrc_storeBad (s : State) (k : Nat) (v : Src) : (s.setSrc k v).storeBad = s.storeBad := by delta State.setSrc; rfl
@[simp] theorem State.setSrc_clusters (s : State) (k : Nat) (v : Src) : (s.setSrc k v).clusters = s.clusters := by delta State.setSrc; rfl
@[simp] theorem State.setSrc_recs (s : State) (k : Nat) (v : Src) : (s.setSrc k v).recs = s.recs := by delta State.setSrc; rfl
@[simp] theorem State.setSrc_tasks (s : State) (k : Nat) (v : Src) : (s.setSrc k v).tasks = s.tasks := by delta State.setSrc; rfl
@[simp] theorem State.setSrc_jobs (s : State) (k : Nat) (v : Src) : (s.setSrc k v).jobs = s.jobs := by delta State.setSrc; rfl
@[simp] theorem State.setSrc_hostPins (s : State) (k : Nat) (v : Src) : (s.setSrc k v).hostPins = s.hostPins := by delta State.setSrc; rfl
@[simp] theorem State.setSrc_mapClock (s : State) (k : Nat) (v : Src) : (s.setSrc k v).mapClock = s.mapClock := by delta State.setSrc; rfl
@[simp] theorem State.setSrc_inSlots (s : State) (k : Nat) (v : Src) : (s.setSrc k v).inSlots = s.inSlots := by delta State.setSrc; rfl
@[simp] theorem State.setSrc_outSlots (s : State) (k : Nat) (v : Src) : (s.setSrc k v).outSlots = s.outSlots := by delta State.setSrc; rfl
@[simp] theorem State.setSrc_intSlots (s : State) (k : Nat) (v : Src) : (s.setSrc k v).intSlots = s.intSlots := by delta State.setSrc; rfl
@[simp] theorem State.setSrc_alloc (s : State) (k : Nat) (v : Src) : (s.setSrc k v).alloc = s.alloc := by delta State.setSrc; rfl
@[simp] theorem State.setSrc_calRec (s : State) (k : Nat) (v : Src) : (s.setSrc k v).calRec = s.calRec := by delta State.setSrc; rfl
@[simp] theorem State.setSrc_cal (s : State) (k : Nat) (v : Src) : (s.setSrc k v).cal = s.cal := by delta State.setSrc; rfl
@[simp] theorem State.setSrc_stoppedD (s : State) (k : Nat) (v : Src) : (s.setSrc k v).stoppedD = s.stoppedD := by delta State.setSrc; rfl
@[simp] theorem State.setSrc_gens (s : State) (k : Nat) (v : Src) : (s.setSrc k v).gens = s.gens := by delta State.setSrc; rfl
@[simp] theorem State.setSrc_genNum (s : State) (k : Nat) (v : Src) : (s.setSrc k v).genNum = s.genNum := by delta State.setSrc; rfl
@[simp] theorem State.setSrc_baseline (s : State) (k : Nat) (v : Src) : (s.setSrc k v).baseline = s.baseline := by delta State.setSrc; rfl
@[simp] theorem State.setSrc_baseDir (s : State) (k : Nat) (v : Src) : (s.setSrc k v).baseDir = s.baseDir := by delta State.setSrc; rfl
@[simp] theorem State.setSrc_baseMem (s : State) (k : Nat) (v : Src) : (s.setSrc k v).baseMem = s.baseMem := by delta State.setSrc; rfl
@[simp] theorem State.setSrc_genOrder (s : State) (k : Nat) (v : Src) : (s.setSrc k v).genOrder = s.genOrder := by delta State.setSrc; rfl
@[simp] theorem State.setSrc_lineRec (s : State) (k : Nat) (v : Src) : (s.setSrc k v).lineRec = s.lineRec := by delta State.setSrc; rfl
@[simp] theorem State.setSrc_partRec (s : State) (k : Nat) (v : Src) : (s.setSrc k v).partRec = s.partRec := by delta State.setSrc; rfl
@[simp] theorem State.setSrc_lanes (s : State) (k : Nat) (v : Src) : (s.setSrc k v).lanes = s.lanes := by delta State.setSrc; rfl
@[simp] theorem State.setSrc_partners (s : State) (k : Nat) (v : Src) : (s.setSrc k v).partners = s.partners := by delta State.setSrc; rfl
@[simp] theorem State.setSrc_cores (s : State) (k : Nat) (v : Src) : (s.setSrc k v).cores = s.cores := by delta State.setSrc; rfl
@[simp] theorem State.setSrc_ridge (s : State) (k : Nat) (v : Src) : (s.setSrc k v).ridge = s.ridge := by delta State.setSrc; rfl
@[simp] theorem State.setSrc_sqs (s : State) (k : Nat) (v : Src) : (s.setSrc k v).sqs = s.sqs := by delta State.setSrc; rfl
@[simp] theorem State.setSrc_cqs (s : State) (k : Nat) (v : Src) : (s.setSrc k v).cqs = s.cqs := by delta State.setSrc; rfl
@[simp] theorem State.setSrc_engine (s : State) (k : Nat) (v : Src) : (s.setSrc k v).engine = s.engine := by delta State.setSrc; rfl
@[simp] theorem State.setSrc_pcie (s : State) (k : Nat) (v : Src) : (s.setSrc k v).pcie = s.pcie := by delta State.setSrc; rfl
@[simp] theorem State.setSrc_running (s : State) (k : Nat) (v : Src) : (s.setSrc k v).running = s.running := by delta State.setSrc; rfl
@[simp] theorem State.setSrc_claims (s : State) (k : Nat) (v : Src) : (s.setSrc k v).claims = s.claims := by delta State.setSrc; rfl
@[simp] theorem State.setSrc_dmas (s : State) (k : Nat) (v : Src) : (s.setSrc k v).dmas = s.dmas := by delta State.setSrc; rfl
@[simp] theorem State.setSrc_dmaLast (s : State) (k : Nat) (v : Src) : (s.setSrc k v).dmaLast = s.dmaLast := by delta State.setSrc; rfl
@[simp] theorem State.setSrc_latches (s : State) (k : Nat) (v : Src) : (s.setSrc k v).latches = s.latches := by delta State.setSrc; rfl
@[simp] theorem State.setSrc_doms (s : State) (k : Nat) (v : Src) : (s.setSrc k v).doms = s.doms := by delta State.setSrc; rfl
@[simp] theorem State.setSrc_clk (s : State) (k : Nat) (v : Src) : (s.setSrc k v).clk = s.clk := by delta State.setSrc; rfl
@[simp] theorem State.setSrc_cald (s : State) (k : Nat) (v : Src) : (s.setSrc k v).cald = s.cald := by delta State.setSrc; rfl
@[simp] theorem State.setSrc_misc (s : State) (k : Nat) (v : Src) : (s.setSrc k v).misc = s.misc := by delta State.setSrc; rfl
@[simp] theorem State.setSrc_scrubs (s : State) (k : Nat) (v : Src) : (s.setSrc k v).scrubs = s.scrubs := by delta State.setSrc; rfl
@[simp] theorem State.setSrc_heldBar (s : State) (k : Nat) (v : Src) : (s.setSrc k v).heldBar = s.heldBar := by delta State.setSrc; rfl
@[simp] theorem State.setSrc_out (s : State) (k : Nat) (v : Src) : (s.setSrc k v).out = s.out := by delta State.setSrc; rfl
@[simp] theorem State.cluster_setSrc (s : State) (k : Nat) (v : Src) (j : Nat) : (s.setSrc k v).cluster j = s.cluster j := by delta State.setSrc; rfl
@[simp] theorem State.recW_setSrc (s : State) (k : Nat) (v : Src) (j : Nat) : (s.setSrc k v).recW j = s.recW j := by delta State.setSrc; rfl
@[simp] theorem State.task_setSrc (s : State) (k : Nat) (v : Src) (j : Nat) : (s.setSrc k v).task j = s.task j := by delta State.setSrc; rfl
@[simp] theorem State.inSlot_setSrc (s : State) (k : Nat) (v : Src) (j : Nat) : (s.setSrc k v).inSlot j = s.inSlot j := by delta State.setSrc; rfl
@[simp] theorem State.outSlot_setSrc (s : State) (k : Nat) (v : Src) (j : Nat) : (s.setSrc k v).outSlot j = s.outSlot j := by delta State.setSrc; rfl
@[simp] theorem State.intSlot_setSrc (s : State) (k : Nat) (v : Src) (j : Nat) : (s.setSrc k v).intSlot j = s.intSlot j := by delta State.setSrc; rfl
@[simp] theorem State.cls_setSrc (s : State) (k : Nat) (v : Src) (j : Nat) : (s.setSrc k v).cls j = s.cls j := by delta State.setSrc; rfl
@[simp] theorem State.calW_setSrc (s : State) (k : Nat) (v : Src) (j : Nat) : (s.setSrc k v).calW j = s.calW j := by delta State.setSrc; rfl
@[simp] theorem State.calSlot_setSrc (s : State) (k : Nat) (v : Src) (j : Nat) : (s.setSrc k v).calSlot j = s.calSlot j := by delta State.setSrc; rfl
@[simp] theorem State.gen_setSrc (s : State) (k : Nat) (v : Src) (j : Nat) : (s.setSrc k v).gen j = s.gen j := by delta State.setSrc; rfl
@[simp] theorem State.lineW_setSrc (s : State) (k : Nat) (v : Src) (j : Nat) : (s.setSrc k v).lineW j = s.lineW j := by delta State.setSrc; rfl
@[simp] theorem State.partW_setSrc (s : State) (k : Nat) (v : Src) (j : Nat) : (s.setSrc k v).partW j = s.partW j := by delta State.setSrc; rfl
@[simp] theorem State.lane_setSrc (s : State) (k : Nat) (v : Src) (j : Nat) : (s.setSrc k v).lane j = s.lane j := by delta State.setSrc; rfl
@[simp] theorem State.partner_setSrc (s : State) (k : Nat) (v : Src) (j : Nat) : (s.setSrc k v).partner j = s.partner j := by delta State.setSrc; rfl
@[simp] theorem State.core_setSrc (s : State) (k : Nat) (v : Src) (j : Nat) : (s.setSrc k v).core j = s.core j := by delta State.setSrc; rfl
@[simp] theorem State.sq_setSrc (s : State) (k : Nat) (v : Src) (j : Nat) : (s.setSrc k v).sq j = s.sq j := by delta State.setSrc; rfl
@[simp] theorem State.cq_setSrc (s : State) (k : Nat) (v : Src) (j : Nat) : (s.setSrc k v).cq j = s.cq j := by delta State.setSrc; rfl
@[simp] theorem State.stack_setSrc (s : State) (k : Nat) (v : Src) (j : Nat) : (s.setSrc k v).stack j = s.stack j := by delta State.setSrc; rfl
@[simp] theorem State.claimed_setSrc (s : State) (k : Nat) (v : Src) (j : Nat) : (s.setSrc k v).claimed j = s.claimed j := by delta State.setSrc; rfl
@[simp] theorem State.dma_setSrc (s : State) (k : Nat) (v : Src) (j : Nat) : (s.setSrc k v).dma j = s.dma j := by delta State.setSrc; rfl
@[simp] theorem State.latch_setSrc (s : State) (k : Nat) (v : Src) (j : Nat) : (s.setSrc k v).latch j = s.latch j := by delta State.setSrc; rfl
@[simp] theorem State.dom_setSrc (s : State) (k : Nat) (v : Src) (j : Nat) : (s.setSrc k v).dom j = s.dom j := by delta State.setSrc; rfl
@[simp] theorem State.scr_setSrc (s : State) (k : Nat) (v : Src) (j : Nat) : (s.setSrc k v).scr j = s.scr j := by delta State.setSrc; rfl
@[simp] theorem State.reg_setSrc (s : State) (k : Nat) (v : Src) (r : Reg) : (s.setSrc k v).reg r = s.reg r := by delta State.setSrc; rfl
@[simp] theorem State.src_setSrc (s : State) (k : Nat) (v : Src) (j : Nat) : (s.setSrc k v).src j = if j = k then v else s.src j := by
  simp [State.src, State.setSrc]
@[simp] theorem State.setSrc_setSrc (s : State) (k : Nat) (v : Src) (v' : Src) : (s.setSrc k v).setSrc k v' = s.setSrc k v' := by
  simp [State.setSrc]
@[simp] theorem State.updSrc_eq (s : State) (k : Nat) (g : Src → Src) : s.updSrc k g = s.setSrc k (g (s.src k)) := rfl

/-! ### stack -/

@[simp] theorem State.setStack_pending (s : State) (k : Nat) (v : List (Nat × Nat)) : (s.setStack k v).pending = s.pending := by delta State.setStack; rfl
@[simp] theorem State.setStack_free (s : State) (k : Nat) (v : List (Nat × Nat)) : (s.setStack k v).free = s.free := by delta State.setStack; rfl
@[simp] theorem State.setStack_regs (s : State) (k : Nat) (v : List (Nat × Nat)) : (s.setStack k v).regs = s.regs := by delta State.setStack; rfl
@[simp] theorem State.setStack_store (s : State) (k : Nat) (v : List (Nat × Nat)) : (s.setStack k v).store = s.store := by delta State.setStack; rfl
@[simp] theorem State.setStack_storeBad (s : State) (k : Nat) (v : List (Nat × Nat)) : (s.setStack k v).storeBad = s.storeBad := by delta State.setStack; rfl
@[simp] theorem State.setStack_clusters (s : State) (k : Nat) (v : List (Nat × Nat)) : (s.setStack k v).clusters = s.clusters := by delta State.setStack; rfl
@[simp] theorem State.setStack_recs (s : State) (k : Nat) (v : List (Nat × Nat)) : (s.setStack k v).recs = s.recs := by delta State.setStack; rfl
@[simp] theorem State.setStack_tasks (s : State) (k : Nat) (v : List (Nat × Nat)) : (s.setStack k v).tasks = s.tasks := by delta State.setStack; rfl
@[simp] theorem State.setStack_jobs (s : State) (k : Nat) (v : List (Nat × Nat)) : (s.setStack k v).jobs = s.jobs := by delta State.setStack; rfl
@[simp] theorem State.setStack_hostPins (s : State) (k : Nat) (v : List (Nat × Nat)) : (s.setStack k v).hostPins = s.hostPins := by delta State.setStack; rfl
@[simp] theorem State.setStack_mapClock (s : State) (k : Nat) (v : List (Nat × Nat)) : (s.setStack k v).mapClock = s.mapClock := by delta State.setStack; rfl
@[simp] theorem State.setStack_inSlots (s : State) (k : Nat) (v : List (Nat × Nat)) : (s.setStack k v).inSlots = s.inSlots := by delta State.setStack; rfl
@[simp] theorem State.setStack_outSlots (s : State) (k : Nat) (v : List (Nat × Nat)) : (s.setStack k v).outSlots = s.outSlots := by delta State.setStack; rfl
@[simp] theorem State.setStack_intSlots (s : State) (k : Nat) (v : List (Nat × Nat)) : (s.setStack k v).intSlots = s.intSlots := by delta State.setStack; rfl
@[simp] theorem State.setStack_alloc (s : State) (k : Nat) (v : List (Nat × Nat)) : (s.setStack k v).alloc = s.alloc := by delta State.setStack; rfl
@[simp] theorem State.setStack_calRec (s : State) (k : Nat) (v : List (Nat × Nat)) : (s.setStack k v).calRec = s.calRec := by delta State.setStack; rfl
@[simp] theorem State.setStack_cal (s : State) (k : Nat) (v : List (Nat × Nat)) : (s.setStack k v).cal = s.cal := by delta State.setStack; rfl
@[simp] theorem State.setStack_stoppedD (s : State) (k : Nat) (v : List (Nat × Nat)) : (s.setStack k v).stoppedD = s.stoppedD := by delta State.setStack; rfl
@[simp] theorem State.setStack_gens (s : State) (k : Nat) (v : List (Nat × Nat)) : (s.setStack k v).gens = s.gens := by delta State.setStack; rfl
@[simp] theorem State.setStack_genNum (s : State) (k : Nat) (v : List (Nat × Nat)) : (s.setStack k v).genNum = s.genNum := by delta State.setStack; rfl
@[simp] theorem State.setStack_baseline (s : State) (k : Nat) (v : List (Nat × Nat)) : (s.setStack k v).baseline = s.baseline := by delta State.setStack; rfl
@[simp] theorem State.setStack_baseDir (s : State) (k : Nat) (v : List (Nat × Nat)) : (s.setStack k v).baseDir = s.baseDir := by delta State.setStack; rfl
@[simp] theorem State.setStack_baseMem (s : State) (k : Nat) (v : List (Nat × Nat)) : (s.setStack k v).baseMem = s.baseMem := by delta State.setStack; rfl
@[simp] theorem State.setStack_genOrder (s : State) (k : Nat) (v : List (Nat × Nat)) : (s.setStack k v).genOrder = s.genOrder := by delta State.setStack; rfl
@[simp] theorem State.setStack_lineRec (s : State) (k : Nat) (v : List (Nat × Nat)) : (s.setStack k v).lineRec = s.lineRec := by delta State.setStack; rfl
@[simp] theorem State.setStack_partRec (s : State) (k : Nat) (v : List (Nat × Nat)) : (s.setStack k v).partRec = s.partRec := by delta State.setStack; rfl
@[simp] theorem State.setStack_lanes (s : State) (k : Nat) (v : List (Nat × Nat)) : (s.setStack k v).lanes = s.lanes := by delta State.setStack; rfl
@[simp] theorem State.setStack_partners (s : State) (k : Nat) (v : List (Nat × Nat)) : (s.setStack k v).partners = s.partners := by delta State.setStack; rfl
@[simp] theorem State.setStack_cores (s : State) (k : Nat) (v : List (Nat × Nat)) : (s.setStack k v).cores = s.cores := by delta State.setStack; rfl
@[simp] theorem State.setStack_ridge (s : State) (k : Nat) (v : List (Nat × Nat)) : (s.setStack k v).ridge = s.ridge := by delta State.setStack; rfl
@[simp] theorem State.setStack_sqs (s : State) (k : Nat) (v : List (Nat × Nat)) : (s.setStack k v).sqs = s.sqs := by delta State.setStack; rfl
@[simp] theorem State.setStack_cqs (s : State) (k : Nat) (v : List (Nat × Nat)) : (s.setStack k v).cqs = s.cqs := by delta State.setStack; rfl
@[simp] theorem State.setStack_engine (s : State) (k : Nat) (v : List (Nat × Nat)) : (s.setStack k v).engine = s.engine := by delta State.setStack; rfl
@[simp] theorem State.setStack_pcie (s : State) (k : Nat) (v : List (Nat × Nat)) : (s.setStack k v).pcie = s.pcie := by delta State.setStack; rfl
@[simp] theorem State.setStack_srcs (s : State) (k : Nat) (v : List (Nat × Nat)) : (s.setStack k v).srcs = s.srcs := by delta State.setStack; rfl
@[simp] theorem State.setStack_claims (s : State) (k : Nat) (v : List (Nat × Nat)) : (s.setStack k v).claims = s.claims := by delta State.setStack; rfl
@[simp] theorem State.setStack_dmas (s : State) (k : Nat) (v : List (Nat × Nat)) : (s.setStack k v).dmas = s.dmas := by delta State.setStack; rfl
@[simp] theorem State.setStack_dmaLast (s : State) (k : Nat) (v : List (Nat × Nat)) : (s.setStack k v).dmaLast = s.dmaLast := by delta State.setStack; rfl
@[simp] theorem State.setStack_latches (s : State) (k : Nat) (v : List (Nat × Nat)) : (s.setStack k v).latches = s.latches := by delta State.setStack; rfl
@[simp] theorem State.setStack_doms (s : State) (k : Nat) (v : List (Nat × Nat)) : (s.setStack k v).doms = s.doms := by delta State.setStack; rfl
@[simp] theorem State.setStack_clk (s : State) (k : Nat) (v : List (Nat × Nat)) : (s.setStack k v).clk = s.clk := by delta State.setStack; rfl
@[simp] theorem State.setStack_cald (s : State) (k : Nat) (v : List (Nat × Nat)) : (s.setStack k v).cald = s.cald := by delta State.setStack; rfl
@[simp] theorem State.setStack_misc (s : State) (k : Nat) (v : List (Nat × Nat)) : (s.setStack k v).misc = s.misc := by delta State.setStack; rfl
@[simp] theorem State.setStack_scrubs (s : State) (k : Nat) (v : List (Nat × Nat)) : (s.setStack k v).scrubs = s.scrubs := by delta State.setStack; rfl
@[simp] theorem State.setStack_heldBar (s : State) (k : Nat) (v : List (Nat × Nat)) : (s.setStack k v).heldBar = s.heldBar := by delta State.setStack; rfl
@[simp] theorem State.setStack_out (s : State) (k : Nat) (v : List (Nat × Nat)) : (s.setStack k v).out = s.out := by delta State.setStack; rfl
@[simp] theorem State.cluster_setStack (s : State) (k : Nat) (v : List (Nat × Nat)) (j : Nat) : (s.setStack k v).cluster j = s.cluster j := by delta State.setStack; rfl
@[simp] theorem State.recW_setStack (s : State) (k : Nat) (v : List (Nat × Nat)) (j : Nat) : (s.setStack k v).recW j = s.recW j := by delta State.setStack; rfl
@[simp] theorem State.task_setStack (s : State) (k : Nat) (v : List (Nat × Nat)) (j : Nat) : (s.setStack k v).task j = s.task j := by delta State.setStack; rfl
@[simp] theorem State.inSlot_setStack (s : State) (k : Nat) (v : List (Nat × Nat)) (j : Nat) : (s.setStack k v).inSlot j = s.inSlot j := by delta State.setStack; rfl
@[simp] theorem State.outSlot_setStack (s : State) (k : Nat) (v : List (Nat × Nat)) (j : Nat) : (s.setStack k v).outSlot j = s.outSlot j := by delta State.setStack; rfl
@[simp] theorem State.intSlot_setStack (s : State) (k : Nat) (v : List (Nat × Nat)) (j : Nat) : (s.setStack k v).intSlot j = s.intSlot j := by delta State.setStack; rfl
@[simp] theorem State.cls_setStack (s : State) (k : Nat) (v : List (Nat × Nat)) (j : Nat) : (s.setStack k v).cls j = s.cls j := by delta State.setStack; rfl
@[simp] theorem State.calW_setStack (s : State) (k : Nat) (v : List (Nat × Nat)) (j : Nat) : (s.setStack k v).calW j = s.calW j := by delta State.setStack; rfl
@[simp] theorem State.calSlot_setStack (s : State) (k : Nat) (v : List (Nat × Nat)) (j : Nat) : (s.setStack k v).calSlot j = s.calSlot j := by delta State.setStack; rfl
@[simp] theorem State.gen_setStack (s : State) (k : Nat) (v : List (Nat × Nat)) (j : Nat) : (s.setStack k v).gen j = s.gen j := by delta State.setStack; rfl
@[simp] theorem State.lineW_setStack (s : State) (k : Nat) (v : List (Nat × Nat)) (j : Nat) : (s.setStack k v).lineW j = s.lineW j := by delta State.setStack; rfl
@[simp] theorem State.partW_setStack (s : State) (k : Nat) (v : List (Nat × Nat)) (j : Nat) : (s.setStack k v).partW j = s.partW j := by delta State.setStack; rfl
@[simp] theorem State.lane_setStack (s : State) (k : Nat) (v : List (Nat × Nat)) (j : Nat) : (s.setStack k v).lane j = s.lane j := by delta State.setStack; rfl
@[simp] theorem State.partner_setStack (s : State) (k : Nat) (v : List (Nat × Nat)) (j : Nat) : (s.setStack k v).partner j = s.partner j := by delta State.setStack; rfl
@[simp] theorem State.core_setStack (s : State) (k : Nat) (v : List (Nat × Nat)) (j : Nat) : (s.setStack k v).core j = s.core j := by delta State.setStack; rfl
@[simp] theorem State.sq_setStack (s : State) (k : Nat) (v : List (Nat × Nat)) (j : Nat) : (s.setStack k v).sq j = s.sq j := by delta State.setStack; rfl
@[simp] theorem State.cq_setStack (s : State) (k : Nat) (v : List (Nat × Nat)) (j : Nat) : (s.setStack k v).cq j = s.cq j := by delta State.setStack; rfl
@[simp] theorem State.src_setStack (s : State) (k : Nat) (v : List (Nat × Nat)) (j : Nat) : (s.setStack k v).src j = s.src j := by delta State.setStack; rfl
@[simp] theorem State.claimed_setStack (s : State) (k : Nat) (v : List (Nat × Nat)) (j : Nat) : (s.setStack k v).claimed j = s.claimed j := by delta State.setStack; rfl
@[simp] theorem State.dma_setStack (s : State) (k : Nat) (v : List (Nat × Nat)) (j : Nat) : (s.setStack k v).dma j = s.dma j := by delta State.setStack; rfl
@[simp] theorem State.latch_setStack (s : State) (k : Nat) (v : List (Nat × Nat)) (j : Nat) : (s.setStack k v).latch j = s.latch j := by delta State.setStack; rfl
@[simp] theorem State.dom_setStack (s : State) (k : Nat) (v : List (Nat × Nat)) (j : Nat) : (s.setStack k v).dom j = s.dom j := by delta State.setStack; rfl
@[simp] theorem State.scr_setStack (s : State) (k : Nat) (v : List (Nat × Nat)) (j : Nat) : (s.setStack k v).scr j = s.scr j := by delta State.setStack; rfl
@[simp] theorem State.reg_setStack (s : State) (k : Nat) (v : List (Nat × Nat)) (r : Reg) : (s.setStack k v).reg r = s.reg r := by delta State.setStack; rfl
@[simp] theorem State.stack_setStack (s : State) (k : Nat) (v : List (Nat × Nat)) (j : Nat) : (s.setStack k v).stack j = if j = k then v else s.stack j := by
  simp [State.stack, State.setStack]
@[simp] theorem State.setStack_setStack (s : State) (k : Nat) (v : List (Nat × Nat)) (v' : List (Nat × Nat)) : (s.setStack k v).setStack k v' = s.setStack k v' := by
  simp [State.setStack]
@[simp] theorem State.updStack_eq (s : State) (k : Nat) (g : List (Nat × Nat) → List (Nat × Nat)) : s.updStack k g = s.setStack k (g (s.stack k)) := rfl

/-! ### claimed -/

@[simp] theorem State.setClaimed_pending (s : State) (k : Nat) (v : Option Nat) : (s.setClaimed k v).pending = s.pending := by delta State.setClaimed; rfl
@[simp] theorem State.setClaimed_free (s : State) (k : Nat) (v : Option Nat) : (s.setClaimed k v).free = s.free := by delta State.setClaimed; rfl
@[simp] theorem State.setClaimed_regs (s : State) (k : Nat) (v : Option Nat) : (s.setClaimed k v).regs = s.regs := by delta State.setClaimed; rfl
@[simp] theorem State.setClaimed_store (s : State) (k : Nat) (v : Option Nat) : (s.setClaimed k v).store = s.store := by delta State.setClaimed; rfl
@[simp] theorem State.setClaimed_storeBad (s : State) (k : Nat) (v : Option Nat) : (s.setClaimed k v).storeBad = s.storeBad := by delta State.setClaimed; rfl
@[simp] theorem State.setClaimed_clusters (s : State) (k : Nat) (v : Option Nat) : (s.setClaimed k v).clusters = s.clusters := by delta State.setClaimed; rfl
@[simp] theorem State.setClaimed_recs (s : State) (k : Nat) (v : Option Nat) : (s.setClaimed k v).recs = s.recs := by delta State.setClaimed; rfl
@[simp] theorem State.setClaimed_tasks (s : State) (k : Nat) (v : Option Nat) : (s.setClaimed k v).tasks = s.tasks := by delta State.setClaimed; rfl
@[simp] theorem State.setClaimed_jobs (s : State) (k : Nat) (v : Option Nat) : (s.setClaimed k v).jobs = s.jobs := by delta State.setClaimed; rfl
@[simp] theorem State.setClaimed_hostPins (s : State) (k : Nat) (v : Option Nat) : (s.setClaimed k v).hostPins = s.hostPins := by delta State.setClaimed; rfl
@[simp] theorem State.setClaimed_mapClock (s : State) (k : Nat) (v : Option Nat) : (s.setClaimed k v).mapClock = s.mapClock := by delta State.setClaimed; rfl
@[simp] theorem State.setClaimed_inSlots (s : State) (k : Nat) (v : Option Nat) : (s.setClaimed k v).inSlots = s.inSlots := by delta State.setClaimed; rfl
@[simp] theorem State.setClaimed_outSlots (s : State) (k : Nat) (v : Option Nat) : (s.setClaimed k v).outSlots = s.outSlots := by delta State.setClaimed; rfl
@[simp] theorem State.setClaimed_intSlots (s : State) (k : Nat) (v : Option Nat) : (s.setClaimed k v).intSlots = s.intSlots := by delta State.setClaimed; rfl
@[simp] theorem State.setClaimed_alloc (s : State) (k : Nat) (v : Option Nat) : (s.setClaimed k v).alloc = s.alloc := by delta State.setClaimed; rfl
@[simp] theorem State.setClaimed_calRec (s : State) (k : Nat) (v : Option Nat) : (s.setClaimed k v).calRec = s.calRec := by delta State.setClaimed; rfl
@[simp] theorem State.setClaimed_cal (s : State) (k : Nat) (v : Option Nat) : (s.setClaimed k v).cal = s.cal := by delta State.setClaimed; rfl
@[simp] theorem State.setClaimed_stoppedD (s : State) (k : Nat) (v : Option Nat) : (s.setClaimed k v).stoppedD = s.stoppedD := by delta State.setClaimed; rfl
@[simp] theorem State.setClaimed_gens (s : State) (k : Nat) (v : Option Nat) : (s.setClaimed k v).gens = s.gens := by delta State.setClaimed; rfl
@[simp] theorem State.setClaimed_genNum (s : State) (k : Nat) (v : Option Nat) : (s.setClaimed k v).genNum = s.genNum := by delta State.setClaimed; rfl
@[simp] theorem State.setClaimed_baseline (s : State) (k : Nat) (v : Option Nat) : (s.setClaimed k v).baseline = s.baseline := by delta State.setClaimed; rfl
@[simp] theorem State.setClaimed_baseDir (s : State) (k : Nat) (v : Option Nat) : (s.setClaimed k v).baseDir = s.baseDir := by delta State.setClaimed; rfl
@[simp] theorem State.setClaimed_baseMem (s : State) (k : Nat) (v : Option Nat) : (s.setClaimed k v).baseMem = s.baseMem := by delta State.setClaimed; rfl
@[simp] theorem State.setClaimed_genOrder (s : State) (k : Nat) (v : Option Nat) : (s.setClaimed k v).genOrder = s.genOrder := by delta State.setClaimed; rfl
@[simp] theorem State.setClaimed_lineRec (s : State) (k : Nat) (v : Option Nat) : (s.setClaimed k v).lineRec = s.lineRec := by delta State.setClaimed; rfl
@[simp] theorem State.setClaimed_partRec (s : State) (k : Nat) (v : Option Nat) : (s.setClaimed k v).partRec = s.partRec := by delta State.setClaimed; rfl
@[simp] theorem State.setClaimed_lanes (s : State) (k : Nat) (v : Option Nat) : (s.setClaimed k v).lanes = s.lanes := by delta State.setClaimed; rfl
@[simp] theorem State.setClaimed_partners (s : State) (k : Nat) (v : Option Nat) : (s.setClaimed k v).partners = s.partners := by delta State.setClaimed; rfl
@[simp] theorem State.setClaimed_cores (s : State) (k : Nat) (v : Option Nat) : (s.setClaimed k v).cores = s.cores := by delta State.setClaimed; rfl
@[simp] theorem State.setClaimed_ridge (s : State) (k : Nat) (v : Option Nat) : (s.setClaimed k v).ridge = s.ridge := by delta State.setClaimed; rfl
@[simp] theorem State.setClaimed_sqs (s : State) (k : Nat) (v : Option Nat) : (s.setClaimed k v).sqs = s.sqs := by delta State.setClaimed; rfl
@[simp] theorem State.setClaimed_cqs (s : State) (k : Nat) (v : Option Nat) : (s.setClaimed k v).cqs = s.cqs := by delta State.setClaimed; rfl
@[simp] theorem State.setClaimed_engine (s : State) (k : Nat) (v : Option Nat) : (s.setClaimed k v).engine = s.engine := by delta State.setClaimed; rfl
@[simp] theorem State.setClaimed_pcie (s : State) (k : Nat) (v : Option Nat) : (s.setClaimed k v).pcie = s.pcie := by delta State.setClaimed; rfl
@[simp] theorem State.setClaimed_srcs (s : State) (k : Nat) (v : Option Nat) : (s.setClaimed k v).srcs = s.srcs := by delta State.setClaimed; rfl
@[simp] theorem State.setClaimed_running (s : State) (k : Nat) (v : Option Nat) : (s.setClaimed k v).running = s.running := by delta State.setClaimed; rfl
@[simp] theorem State.setClaimed_dmas (s : State) (k : Nat) (v : Option Nat) : (s.setClaimed k v).dmas = s.dmas := by delta State.setClaimed; rfl
@[simp] theorem State.setClaimed_dmaLast (s : State) (k : Nat) (v : Option Nat) : (s.setClaimed k v).dmaLast = s.dmaLast := by delta State.setClaimed; rfl
@[simp] theorem State.setClaimed_latches (s : State) (k : Nat) (v : Option Nat) : (s.setClaimed k v).latches = s.latches := by delta State.setClaimed; rfl
@[simp] theorem State.setClaimed_doms (s : State) (k : Nat) (v : Option Nat) : (s.setClaimed k v).doms = s.doms := by delta State.setClaimed; rfl
@[simp] theorem State.setClaimed_clk (s : State) (k : Nat) (v : Option Nat) : (s.setClaimed k v).clk = s.clk := by delta State.setClaimed; rfl
@[simp] theorem State.setClaimed_cald (s : State) (k : Nat) (v : Option Nat) : (s.setClaimed k v).cald = s.cald := by delta State.setClaimed; rfl
@[simp] theorem State.setClaimed_misc (s : State) (k : Nat) (v : Option Nat) : (s.setClaimed k v).misc = s.misc := by delta State.setClaimed; rfl
@[simp] theorem State.setClaimed_scrubs (s : State) (k : Nat) (v : Option Nat) : (s.setClaimed k v).scrubs = s.scrubs := by delta State.setClaimed; rfl
@[simp] theorem State.setClaimed_heldBar (s : State) (k : Nat) (v : Option Nat) : (s.setClaimed k v).heldBar = s.heldBar := by delta State.setClaimed; rfl
@[simp] theorem State.setClaimed_out (s : State) (k : Nat) (v : Option Nat) : (s.setClaimed k v).out = s.out := by delta State.setClaimed; rfl
@[simp] theorem State.cluster_setClaimed (s : State) (k : Nat) (v : Option Nat) (j : Nat) : (s.setClaimed k v).cluster j = s.cluster j := by delta State.setClaimed; rfl
@[simp] theorem State.recW_setClaimed (s : State) (k : Nat) (v : Option Nat) (j : Nat) : (s.setClaimed k v).recW j = s.recW j := by delta State.setClaimed; rfl
@[simp] theorem State.task_setClaimed (s : State) (k : Nat) (v : Option Nat) (j : Nat) : (s.setClaimed k v).task j = s.task j := by delta State.setClaimed; rfl
@[simp] theorem State.inSlot_setClaimed (s : State) (k : Nat) (v : Option Nat) (j : Nat) : (s.setClaimed k v).inSlot j = s.inSlot j := by delta State.setClaimed; rfl
@[simp] theorem State.outSlot_setClaimed (s : State) (k : Nat) (v : Option Nat) (j : Nat) : (s.setClaimed k v).outSlot j = s.outSlot j := by delta State.setClaimed; rfl
@[simp] theorem State.intSlot_setClaimed (s : State) (k : Nat) (v : Option Nat) (j : Nat) : (s.setClaimed k v).intSlot j = s.intSlot j := by delta State.setClaimed; rfl
@[simp] theorem State.cls_setClaimed (s : State) (k : Nat) (v : Option Nat) (j : Nat) : (s.setClaimed k v).cls j = s.cls j := by delta State.setClaimed; rfl
@[simp] theorem State.calW_setClaimed (s : State) (k : Nat) (v : Option Nat) (j : Nat) : (s.setClaimed k v).calW j = s.calW j := by delta State.setClaimed; rfl
@[simp] theorem State.calSlot_setClaimed (s : State) (k : Nat) (v : Option Nat) (j : Nat) : (s.setClaimed k v).calSlot j = s.calSlot j := by delta State.setClaimed; rfl
@[simp] theorem State.gen_setClaimed (s : State) (k : Nat) (v : Option Nat) (j : Nat) : (s.setClaimed k v).gen j = s.gen j := by delta State.setClaimed; rfl
@[simp] theorem State.lineW_setClaimed (s : State) (k : Nat) (v : Option Nat) (j : Nat) : (s.setClaimed k v).lineW j = s.lineW j := by delta State.setClaimed; rfl
@[simp] theorem State.partW_setClaimed (s : State) (k : Nat) (v : Option Nat) (j : Nat) : (s.setClaimed k v).partW j = s.partW j := by delta State.setClaimed; rfl
@[simp] theorem State.lane_setClaimed (s : State) (k : Nat) (v : Option Nat) (j : Nat) : (s.setClaimed k v).lane j = s.lane j := by delta State.setClaimed; rfl
@[simp] theorem State.partner_setClaimed (s : State) (k : Nat) (v : Option Nat) (j : Nat) : (s.setClaimed k v).partner j = s.partner j := by delta State.setClaimed; rfl
@[simp] theorem State.core_setClaimed (s : State) (k : Nat) (v : Option Nat) (j : Nat) : (s.setClaimed k v).core j = s.core j := by delta State.setClaimed; rfl
@[simp] theorem State.sq_setClaimed (s : State) (k : Nat) (v : Option Nat) (j : Nat) : (s.setClaimed k v).sq j = s.sq j := by delta State.setClaimed; rfl
@[simp] theorem State.cq_setClaimed (s : State) (k : Nat) (v : Option Nat) (j : Nat) : (s.setClaimed k v).cq j = s.cq j := by delta State.setClaimed; rfl
@[simp] theorem State.src_setClaimed (s : State) (k : Nat) (v : Option Nat) (j : Nat) : (s.setClaimed k v).src j = s.src j := by delta State.setClaimed; rfl
@[simp] theorem State.stack_setClaimed (s : State) (k : Nat) (v : Option Nat) (j : Nat) : (s.setClaimed k v).stack j = s.stack j := by delta State.setClaimed; rfl
@[simp] theorem State.dma_setClaimed (s : State) (k : Nat) (v : Option Nat) (j : Nat) : (s.setClaimed k v).dma j = s.dma j := by delta State.setClaimed; rfl
@[simp] theorem State.latch_setClaimed (s : State) (k : Nat) (v : Option Nat) (j : Nat) : (s.setClaimed k v).latch j = s.latch j := by delta State.setClaimed; rfl
@[simp] theorem State.dom_setClaimed (s : State) (k : Nat) (v : Option Nat) (j : Nat) : (s.setClaimed k v).dom j = s.dom j := by delta State.setClaimed; rfl
@[simp] theorem State.scr_setClaimed (s : State) (k : Nat) (v : Option Nat) (j : Nat) : (s.setClaimed k v).scr j = s.scr j := by delta State.setClaimed; rfl
@[simp] theorem State.reg_setClaimed (s : State) (k : Nat) (v : Option Nat) (r : Reg) : (s.setClaimed k v).reg r = s.reg r := by delta State.setClaimed; rfl
@[simp] theorem State.claimed_setClaimed (s : State) (k : Nat) (v : Option Nat) (j : Nat) : (s.setClaimed k v).claimed j = if j = k then v else s.claimed j := by
  simp [State.claimed, State.setClaimed]
@[simp] theorem State.setClaimed_setClaimed (s : State) (k : Nat) (v : Option Nat) (v' : Option Nat) : (s.setClaimed k v).setClaimed k v' = s.setClaimed k v' := by
  simp [State.setClaimed]
@[simp] theorem State.updClaimed_eq (s : State) (k : Nat) (g : Option Nat → Option Nat) : s.updClaimed k g = s.setClaimed k (g (s.claimed k)) := rfl

/-! ### dma -/

@[simp] theorem State.setDma_pending (s : State) (k : Nat) (v : Dma) : (s.setDma k v).pending = s.pending := by delta State.setDma; rfl
@[simp] theorem State.setDma_free (s : State) (k : Nat) (v : Dma) : (s.setDma k v).free = s.free := by delta State.setDma; rfl
@[simp] theorem State.setDma_regs (s : State) (k : Nat) (v : Dma) : (s.setDma k v).regs = s.regs := by delta State.setDma; rfl
@[simp] theorem State.setDma_store (s : State) (k : Nat) (v : Dma) : (s.setDma k v).store = s.store := by delta State.setDma; rfl
@[simp] theorem State.setDma_storeBad (s : State) (k : Nat) (v : Dma) : (s.setDma k v).storeBad = s.storeBad := by delta State.setDma; rfl
@[simp] theorem State.setDma_clusters (s : State) (k : Nat) (v : Dma) : (s.setDma k v).clusters = s.clusters := by delta State.setDma; rfl
@[simp] theorem State.setDma_recs (s : State) (k : Nat) (v : Dma) : (s.setDma k v).recs = s.recs := by delta State.setDma; rfl
@[simp] theorem State.setDma_tasks (s : State) (k : Nat) (v : Dma) : (s.setDma k v).tasks = s.tasks := by delta State.setDma; rfl
@[simp] theorem State.setDma_jobs (s : State) (k : Nat) (v : Dma) : (s.setDma k v).jobs = s.jobs := by delta State.setDma; rfl
@[simp] theorem State.setDma_hostPins (s : State) (k : Nat) (v : Dma) : (s.setDma k v).hostPins = s.hostPins := by delta State.setDma; rfl
@[simp] theorem State.setDma_mapClock (s : State) (k : Nat) (v : Dma) : (s.setDma k v).mapClock = s.mapClock := by delta State.setDma; rfl
@[simp] theorem State.setDma_inSlots (s : State) (k : Nat) (v : Dma) : (s.setDma k v).inSlots = s.inSlots := by delta State.setDma; rfl
@[simp] theorem State.setDma_outSlots (s : State) (k : Nat) (v : Dma) : (s.setDma k v).outSlots = s.outSlots := by delta State.setDma; rfl
@[simp] theorem State.setDma_intSlots (s : State) (k : Nat) (v : Dma) : (s.setDma k v).intSlots = s.intSlots := by delta State.setDma; rfl
@[simp] theorem State.setDma_alloc (s : State) (k : Nat) (v : Dma) : (s.setDma k v).alloc = s.alloc := by delta State.setDma; rfl
@[simp] theorem State.setDma_calRec (s : State) (k : Nat) (v : Dma) : (s.setDma k v).calRec = s.calRec := by delta State.setDma; rfl
@[simp] theorem State.setDma_cal (s : State) (k : Nat) (v : Dma) : (s.setDma k v).cal = s.cal := by delta State.setDma; rfl
@[simp] theorem State.setDma_stoppedD (s : State) (k : Nat) (v : Dma) : (s.setDma k v).stoppedD = s.stoppedD := by delta State.setDma; rfl
@[simp] theorem State.setDma_gens (s : State) (k : Nat) (v : Dma) : (s.setDma k v).gens = s.gens := by delta State.setDma; rfl
@[simp] theorem State.setDma_genNum (s : State) (k : Nat) (v : Dma) : (s.setDma k v).genNum = s.genNum := by delta State.setDma; rfl
@[simp] theorem State.setDma_baseline (s : State) (k : Nat) (v : Dma) : (s.setDma k v).baseline = s.baseline := by delta State.setDma; rfl
@[simp] theorem State.setDma_baseDir (s : State) (k : Nat) (v : Dma) : (s.setDma k v).baseDir = s.baseDir := by delta State.setDma; rfl
@[simp] theorem State.setDma_baseMem (s : State) (k : Nat) (v : Dma) : (s.setDma k v).baseMem = s.baseMem := by delta State.setDma; rfl
@[simp] theorem State.setDma_genOrder (s : State) (k : Nat) (v : Dma) : (s.setDma k v).genOrder = s.genOrder := by delta State.setDma; rfl
@[simp] theorem State.setDma_lineRec (s : State) (k : Nat) (v : Dma) : (s.setDma k v).lineRec = s.lineRec := by delta State.setDma; rfl
@[simp] theorem State.setDma_partRec (s : State) (k : Nat) (v : Dma) : (s.setDma k v).partRec = s.partRec := by delta State.setDma; rfl
@[simp] theorem State.setDma_lanes (s : State) (k : Nat) (v : Dma) : (s.setDma k v).lanes = s.lanes := by delta State.setDma; rfl
@[simp] theorem State.setDma_partners (s : State) (k : Nat) (v : Dma) : (s.setDma k v).partners = s.partners := by delta State.setDma; rfl
@[simp] theorem State.setDma_cores (s : State) (k : Nat) (v : Dma) : (s.setDma k v).cores = s.cores := by delta State.setDma; rfl
@[simp] theorem State.setDma_ridge (s : State) (k : Nat) (v : Dma) : (s.setDma k v).ridge = s.ridge := by delta State.setDma; rfl
@[simp] theorem State.setDma_sqs (s : State) (k : Nat) (v : Dma) : (s.setDma k v).sqs = s.sqs := by delta State.setDma; rfl
@[simp] theorem State.setDma_cqs (s : State) (k : Nat) (v : Dma) : (s.setDma k v).cqs = s.cqs := by delta State.setDma; rfl
@[simp] theorem State.setDma_engine (s : State) (k : Nat) (v : Dma) : (s.setDma k v).engine = s.engine := by delta State.setDma; rfl
@[simp] theorem State.setDma_pcie (s : State) (k : Nat) (v : Dma) : (s.setDma k v).pcie = s.pcie := by delta State.setDma; rfl
@[simp] theorem State.setDma_srcs (s : State) (k : Nat) (v : Dma) : (s.setDma k v).srcs = s.srcs := by delta State.setDma; rfl
@[simp] theorem State.setDma_running (s : State) (k : Nat) (v : Dma) : (s.setDma k v).running = s.running := by delta State.setDma; rfl
@[simp] theorem State.setDma_claims (s : State) (k : Nat) (v : Dma) : (s.setDma k v).claims = s.claims := by delta State.setDma; rfl
@[simp] theorem State.setDma_dmaLast (s : State) (k : Nat) (v : Dma) : (s.setDma k v).dmaLast = s.dmaLast := by delta State.setDma; rfl
@[simp] theorem State.setDma_latches (s : State) (k : Nat) (v : Dma) : (s.setDma k v).latches = s.latches := by delta State.setDma; rfl
@[simp] theorem State.setDma_doms (s : State) (k : Nat) (v : Dma) : (s.setDma k v).doms = s.doms := by delta State.setDma; rfl
@[simp] theorem State.setDma_clk (s : State) (k : Nat) (v : Dma) : (s.setDma k v).clk = s.clk := by delta State.setDma; rfl
@[simp] theorem State.setDma_cald (s : State) (k : Nat) (v : Dma) : (s.setDma k v).cald = s.cald := by delta State.setDma; rfl
@[simp] theorem State.setDma_misc (s : State) (k : Nat) (v : Dma) : (s.setDma k v).misc = s.misc := by delta State.setDma; rfl
@[simp] theorem State.setDma_scrubs (s : State) (k : Nat) (v : Dma) : (s.setDma k v).scrubs = s.scrubs := by delta State.setDma; rfl
@[simp] theorem State.setDma_heldBar (s : State) (k : Nat) (v : Dma) : (s.setDma k v).heldBar = s.heldBar := by delta State.setDma; rfl
@[simp] theorem State.setDma_out (s : State) (k : Nat) (v : Dma) : (s.setDma k v).out = s.out := by delta State.setDma; rfl
@[simp] theorem State.cluster_setDma (s : State) (k : Nat) (v : Dma) (j : Nat) : (s.setDma k v).cluster j = s.cluster j := by delta State.setDma; rfl
@[simp] theorem State.recW_setDma (s : State) (k : Nat) (v : Dma) (j : Nat) : (s.setDma k v).recW j = s.recW j := by delta State.setDma; rfl
@[simp] theorem State.task_setDma (s : State) (k : Nat) (v : Dma) (j : Nat) : (s.setDma k v).task j = s.task j := by delta State.setDma; rfl
@[simp] theorem State.inSlot_setDma (s : State) (k : Nat) (v : Dma) (j : Nat) : (s.setDma k v).inSlot j = s.inSlot j := by delta State.setDma; rfl
@[simp] theorem State.outSlot_setDma (s : State) (k : Nat) (v : Dma) (j : Nat) : (s.setDma k v).outSlot j = s.outSlot j := by delta State.setDma; rfl
@[simp] theorem State.intSlot_setDma (s : State) (k : Nat) (v : Dma) (j : Nat) : (s.setDma k v).intSlot j = s.intSlot j := by delta State.setDma; rfl
@[simp] theorem State.cls_setDma (s : State) (k : Nat) (v : Dma) (j : Nat) : (s.setDma k v).cls j = s.cls j := by delta State.setDma; rfl
@[simp] theorem State.calW_setDma (s : State) (k : Nat) (v : Dma) (j : Nat) : (s.setDma k v).calW j = s.calW j := by delta State.setDma; rfl
@[simp] theorem State.calSlot_setDma (s : State) (k : Nat) (v : Dma) (j : Nat) : (s.setDma k v).calSlot j = s.calSlot j := by delta State.setDma; rfl
@[simp] theorem State.gen_setDma (s : State) (k : Nat) (v : Dma) (j : Nat) : (s.setDma k v).gen j = s.gen j := by delta State.setDma; rfl
@[simp] theorem State.lineW_setDma (s : State) (k : Nat) (v : Dma) (j : Nat) : (s.setDma k v).lineW j = s.lineW j := by delta State.setDma; rfl
@[simp] theorem State.partW_setDma (s : State) (k : Nat) (v : Dma) (j : Nat) : (s.setDma k v).partW j = s.partW j := by delta State.setDma; rfl
@[simp] theorem State.lane_setDma (s : State) (k : Nat) (v : Dma) (j : Nat) : (s.setDma k v).lane j = s.lane j := by delta State.setDma; rfl
@[simp] theorem State.partner_setDma (s : State) (k : Nat) (v : Dma) (j : Nat) : (s.setDma k v).partner j = s.partner j := by delta State.setDma; rfl
@[simp] theorem State.core_setDma (s : State) (k : Nat) (v : Dma) (j : Nat) : (s.setDma k v).core j = s.core j := by delta State.setDma; rfl
@[simp] theorem State.sq_setDma (s : State) (k : Nat) (v : Dma) (j : Nat) : (s.setDma k v).sq j = s.sq j := by delta State.setDma; rfl
@[simp] theorem State.cq_setDma (s : State) (k : Nat) (v : Dma) (j : Nat) : (s.setDma k v).cq j = s.cq j := by delta State.setDma; rfl
@[simp] theorem State.src_setDma (s : State) (k : Nat) (v : Dma) (j : Nat) : (s.setDma k v).src j = s.src j := by delta State.setDma; rfl
@[simp] theorem State.stack_setDma (s : State) (k : Nat) (v : Dma) (j : Nat) : (s.setDma k v).stack j = s.stack j := by delta State.setDma; rfl
@[simp] theorem State.claimed_setDma (s : State) (k : Nat) (v : Dma) (j : Nat) : (s.setDma k v).claimed j = s.claimed j := by delta State.setDma; rfl
@[simp] theorem State.latch_setDma (s : State) (k : Nat) (v : Dma) (j : Nat) : (s.setDma k v).latch j = s.latch j := by delta State.setDma; rfl
@[simp] theorem State.dom_setDma (s : State) (k : Nat) (v : Dma) (j : Nat) : (s.setDma k v).dom j = s.dom j := by delta State.setDma; rfl
@[simp] theorem State.scr_setDma (s : State) (k : Nat) (v : Dma) (j : Nat) : (s.setDma k v).scr j = s.scr j := by delta State.setDma; rfl
@[simp] theorem State.reg_setDma (s : State) (k : Nat) (v : Dma) (r : Reg) : (s.setDma k v).reg r = s.reg r := by delta State.setDma; rfl
@[simp] theorem State.dma_setDma (s : State) (k : Nat) (v : Dma) (j : Nat) : (s.setDma k v).dma j = if j = k then v else s.dma j := by
  simp [State.dma, State.setDma]
@[simp] theorem State.setDma_setDma (s : State) (k : Nat) (v : Dma) (v' : Dma) : (s.setDma k v).setDma k v' = s.setDma k v' := by
  simp [State.setDma]
@[simp] theorem State.updDma_eq (s : State) (k : Nat) (g : Dma → Dma) : s.updDma k g = s.setDma k (g (s.dma k)) := rfl

/-! ### latch -/

@[simp] theorem State.setLatch_pending (s : State) (k : Nat) (v : W64) : (s.setLatch k v).pending = s.pending := by delta State.setLatch; rfl
@[simp] theorem State.setLatch_free (s : State) (k : Nat) (v : W64) : (s.setLatch k v).free = s.free := by delta State.setLatch; rfl
@[simp] theorem State.setLatch_regs (s : State) (k : Nat) (v : W64) : (s.setLatch k v).regs = s.regs := by delta State.setLatch; rfl
@[simp] theorem State.setLatch_store (s : State) (k : Nat) (v : W64) : (s.setLatch k v).store = s.store := by delta State.setLatch; rfl
@[simp] theorem State.setLatch_storeBad (s : State) (k : Nat) (v : W64) : (s.setLatch k v).storeBad = s.storeBad := by delta State.setLatch; rfl
@[simp] theorem State.setLatch_clusters (s : State) (k : Nat) (v : W64) : (s.setLatch k v).clusters = s.clusters := by delta State.setLatch; rfl
@[simp] theorem State.setLatch_recs (s : State) (k : Nat) (v : W64) : (s.setLatch k v).recs = s.recs := by delta State.setLatch; rfl
@[simp] theorem State.setLatch_tasks (s : State) (k : Nat) (v : W64) : (s.setLatch k v).tasks = s.tasks := by delta State.setLatch; rfl
@[simp] theorem State.setLatch_jobs (s : State) (k : Nat) (v : W64) : (s.setLatch k v).jobs = s.jobs := by delta State.setLatch; rfl
@[simp] theorem State.setLatch_hostPins (s : State) (k : Nat) (v : W64) : (s.setLatch k v).hostPins = s.hostPins := by delta State.setLatch; rfl
@[simp] theorem State.setLatch_mapClock (s : State) (k : Nat) (v : W64) : (s.setLatch k v).mapClock = s.mapClock := by delta State.setLatch; rfl
@[simp] theorem State.setLatch_inSlots (s : State) (k : Nat) (v : W64) : (s.setLatch k v).inSlots = s.inSlots := by delta State.setLatch; rfl
@[simp] theorem State.setLatch_outSlots (s : State) (k : Nat) (v : W64) : (s.setLatch k v).outSlots = s.outSlots := by delta State.setLatch; rfl
@[simp] theorem State.setLatch_intSlots (s : State) (k : Nat) (v : W64) : (s.setLatch k v).intSlots = s.intSlots := by delta State.setLatch; rfl
@[simp] theorem State.setLatch_alloc (s : State) (k : Nat) (v : W64) : (s.setLatch k v).alloc = s.alloc := by delta State.setLatch; rfl
@[simp] theorem State.setLatch_calRec (s : State) (k : Nat) (v : W64) : (s.setLatch k v).calRec = s.calRec := by delta State.setLatch; rfl
@[simp] theorem State.setLatch_cal (s : State) (k : Nat) (v : W64) : (s.setLatch k v).cal = s.cal := by delta State.setLatch; rfl
@[simp] theorem State.setLatch_stoppedD (s : State) (k : Nat) (v : W64) : (s.setLatch k v).stoppedD = s.stoppedD := by delta State.setLatch; rfl
@[simp] theorem State.setLatch_gens (s : State) (k : Nat) (v : W64) : (s.setLatch k v).gens = s.gens := by delta State.setLatch; rfl
@[simp] theorem State.setLatch_genNum (s : State) (k : Nat) (v : W64) : (s.setLatch k v).genNum = s.genNum := by delta State.setLatch; rfl
@[simp] theorem State.setLatch_baseline (s : State) (k : Nat) (v : W64) : (s.setLatch k v).baseline = s.baseline := by delta State.setLatch; rfl
@[simp] theorem State.setLatch_baseDir (s : State) (k : Nat) (v : W64) : (s.setLatch k v).baseDir = s.baseDir := by delta State.setLatch; rfl
@[simp] theorem State.setLatch_baseMem (s : State) (k : Nat) (v : W64) : (s.setLatch k v).baseMem = s.baseMem := by delta State.setLatch; rfl
@[simp] theorem State.setLatch_genOrder (s : State) (k : Nat) (v : W64) : (s.setLatch k v).genOrder = s.genOrder := by delta State.setLatch; rfl
@[simp] theorem State.setLatch_lineRec (s : State) (k : Nat) (v : W64) : (s.setLatch k v).lineRec = s.lineRec := by delta State.setLatch; rfl
@[simp] theorem State.setLatch_partRec (s : State) (k : Nat) (v : W64) : (s.setLatch k v).partRec = s.partRec := by delta State.setLatch; rfl
@[simp] theorem State.setLatch_lanes (s : State) (k : Nat) (v : W64) : (s.setLatch k v).lanes = s.lanes := by delta State.setLatch; rfl
@[simp] theorem State.setLatch_partners (s : State) (k : Nat) (v : W64) : (s.setLatch k v).partners = s.partners := by delta State.setLatch; rfl
@[simp] theorem State.setLatch_cores (s : State) (k : Nat) (v : W64) : (s.setLatch k v).cores = s.cores := by delta State.setLatch; rfl
@[simp] theorem State.setLatch_ridge (s : State) (k : Nat) (v : W64) : (s.setLatch k v).ridge = s.ridge := by delta State.setLatch; rfl
@[simp] theorem State.setLatch_sqs (s : State) (k : Nat) (v : W64) : (s.setLatch k v).sqs = s.sqs := by delta State.setLatch; rfl
@[simp] theorem State.setLatch_cqs (s : State) (k : Nat) (v : W64) : (s.setLatch k v).cqs = s.cqs := by delta State.setLatch; rfl
@[simp] theorem State.setLatch_engine (s : State) (k : Nat) (v : W64) : (s.setLatch k v).engine = s.engine := by delta State.setLatch; rfl
@[simp] theorem State.setLatch_pcie (s : State) (k : Nat) (v : W64) : (s.setLatch k v).pcie = s.pcie := by delta State.setLatch; rfl
@[simp] theorem State.setLatch_srcs (s : State) (k : Nat) (v : W64) : (s.setLatch k v).srcs = s.srcs := by delta State.setLatch; rfl
@[simp] theorem State.setLatch_running (s : State) (k : Nat) (v : W64) : (s.setLatch k v).running = s.running := by delta State.setLatch; rfl
@[simp] theorem State.setLatch_claims (s : State) (k : Nat) (v : W64) : (s.setLatch k v).claims = s.claims := by delta State.setLatch; rfl
@[simp] theorem State.setLatch_dmas (s : State) (k : Nat) (v : W64) : (s.setLatch k v).dmas = s.dmas := by delta State.setLatch; rfl
@[simp] theorem State.setLatch_dmaLast (s : State) (k : Nat) (v : W64) : (s.setLatch k v).dmaLast = s.dmaLast := by delta State.setLatch; rfl
@[simp] theorem State.setLatch_doms (s : State) (k : Nat) (v : W64) : (s.setLatch k v).doms = s.doms := by delta State.setLatch; rfl
@[simp] theorem State.setLatch_clk (s : State) (k : Nat) (v : W64) : (s.setLatch k v).clk = s.clk := by delta State.setLatch; rfl
@[simp] theorem State.setLatch_cald (s : State) (k : Nat) (v : W64) : (s.setLatch k v).cald = s.cald := by delta State.setLatch; rfl
@[simp] theorem State.setLatch_misc (s : State) (k : Nat) (v : W64) : (s.setLatch k v).misc = s.misc := by delta State.setLatch; rfl
@[simp] theorem State.setLatch_scrubs (s : State) (k : Nat) (v : W64) : (s.setLatch k v).scrubs = s.scrubs := by delta State.setLatch; rfl
@[simp] theorem State.setLatch_heldBar (s : State) (k : Nat) (v : W64) : (s.setLatch k v).heldBar = s.heldBar := by delta State.setLatch; rfl
@[simp] theorem State.setLatch_out (s : State) (k : Nat) (v : W64) : (s.setLatch k v).out = s.out := by delta State.setLatch; rfl
@[simp] theorem State.cluster_setLatch (s : State) (k : Nat) (v : W64) (j : Nat) : (s.setLatch k v).cluster j = s.cluster j := by delta State.setLatch; rfl
@[simp] theorem State.recW_setLatch (s : State) (k : Nat) (v : W64) (j : Nat) : (s.setLatch k v).recW j = s.recW j := by delta State.setLatch; rfl
@[simp] theorem State.task_setLatch (s : State) (k : Nat) (v : W64) (j : Nat) : (s.setLatch k v).task j = s.task j := by delta State.setLatch; rfl
@[simp] theorem State.inSlot_setLatch (s : State) (k : Nat) (v : W64) (j : Nat) : (s.setLatch k v).inSlot j = s.inSlot j := by delta State.setLatch; rfl
@[simp] theorem State.outSlot_setLatch (s : State) (k : Nat) (v : W64) (j : Nat) : (s.setLatch k v).outSlot j = s.outSlot j := by delta State.setLatch; rfl
@[simp] theorem State.intSlot_setLatch (s : State) (k : Nat) (v : W64) (j : Nat) : (s.setLatch k v).intSlot j = s.intSlot j := by delta State.setLatch; rfl
@[simp] theorem State.cls_setLatch (s : State) (k : Nat) (v : W64) (j : Nat) : (s.setLatch k v).cls j = s.cls j := by delta State.setLatch; rfl
@[simp] theorem State.calW_setLatch (s : State) (k : Nat) (v : W64) (j : Nat) : (s.setLatch k v).calW j = s.calW j := by delta State.setLatch; rfl
@[simp] theorem State.calSlot_setLatch (s : State) (k : Nat) (v : W64) (j : Nat) : (s.setLatch k v).calSlot j = s.calSlot j := by delta State.setLatch; rfl
@[simp] theorem State.gen_setLatch (s : State) (k : Nat) (v : W64) (j : Nat) : (s.setLatch k v).gen j = s.gen j := by delta State.setLatch; rfl
@[simp] theorem State.lineW_setLatch (s : State) (k : Nat) (v : W64) (j : Nat) : (s.setLatch k v).lineW j = s.lineW j := by delta State.setLatch; rfl
@[simp] theorem State.partW_setLatch (s : State) (k : Nat) (v : W64) (j : Nat) : (s.setLatch k v).partW j = s.partW j := by delta State.setLatch; rfl
@[simp] theorem State.lane_setLatch (s : State) (k : Nat) (v : W64) (j : Nat) : (s.setLatch k v).lane j = s.lane j := by delta State.setLatch; rfl
@[simp] theorem State.partner_setLatch (s : State) (k : Nat) (v : W64) (j : Nat) : (s.setLatch k v).partner j = s.partner j := by delta State.setLatch; rfl
@[simp] theorem State.core_setLatch (s : State) (k : Nat) (v : W64) (j : Nat) : (s.setLatch k v).core j = s.core j := by delta State.setLatch; rfl
@[simp] theorem State.sq_setLatch (s : State) (k : Nat) (v : W64) (j : Nat) : (s.setLatch k v).sq j = s.sq j := by delta State.setLatch; rfl
@[simp] theorem State.cq_setLatch (s : State) (k : Nat) (v : W64) (j : Nat) : (s.setLatch k v).cq j = s.cq j := by delta State.setLatch; rfl
@[simp] theorem State.src_setLatch (s : State) (k : Nat) (v : W64) (j : Nat) : (s.setLatch k v).src j = s.src j := by delta State.setLatch; rfl
@[simp] theorem State.stack_setLatch (s : State) (k : Nat) (v : W64) (j : Nat) : (s.setLatch k v).stack j = s.stack j := by delta State.setLatch; rfl
@[simp] theorem State.claimed_setLatch (s : State) (k : Nat) (v : W64) (j : Nat) : (s.setLatch k v).claimed j = s.claimed j := by delta State.setLatch; rfl
@[simp] theorem State.dma_setLatch (s : State) (k : Nat) (v : W64) (j : Nat) : (s.setLatch k v).dma j = s.dma j := by delta State.setLatch; rfl
@[simp] theorem State.dom_setLatch (s : State) (k : Nat) (v : W64) (j : Nat) : (s.setLatch k v).dom j = s.dom j := by delta State.setLatch; rfl
@[simp] theorem State.scr_setLatch (s : State) (k : Nat) (v : W64) (j : Nat) : (s.setLatch k v).scr j = s.scr j := by delta State.setLatch; rfl
@[simp] theorem State.reg_setLatch (s : State) (k : Nat) (v : W64) (r : Reg) : (s.setLatch k v).reg r = s.reg r := by delta State.setLatch; rfl
@[simp] theorem State.latch_setLatch (s : State) (k : Nat) (v : W64) (j : Nat) : (s.setLatch k v).latch j = if j = k then v else s.latch j := by
  simp [State.latch, State.setLatch]
@[simp] theorem State.setLatch_setLatch (s : State) (k : Nat) (v : W64) (v' : W64) : (s.setLatch k v).setLatch k v' = s.setLatch k v' := by
  simp [State.setLatch]
@[simp] theorem State.updLatch_eq (s : State) (k : Nat) (g : W64 → W64) : s.updLatch k g = s.setLatch k (g (s.latch k)) := rfl

/-! ### dom -/

@[simp] theorem State.setDom_pending (s : State) (k : Nat) (v : Dom) : (s.setDom k v).pending = s.pending := by delta State.setDom; rfl
@[simp] theorem State.setDom_free (s : State) (k : Nat) (v : Dom) : (s.setDom k v).free = s.free := by delta State.setDom; rfl
@[simp] theorem State.setDom_regs (s : State) (k : Nat) (v : Dom) : (s.setDom k v).regs = s.regs := by delta State.setDom; rfl
@[simp] theorem State.setDom_store (s : State) (k : Nat) (v : Dom) : (s.setDom k v).store = s.store := by delta State.setDom; rfl
@[simp] theorem State.setDom_storeBad (s : State) (k : Nat) (v : Dom) : (s.setDom k v).storeBad = s.storeBad := by delta State.setDom; rfl
@[simp] theorem State.setDom_clusters (s : State) (k : Nat) (v : Dom) : (s.setDom k v).clusters = s.clusters := by delta State.setDom; rfl
@[simp] theorem State.setDom_recs (s : State) (k : Nat) (v : Dom) : (s.setDom k v).recs = s.recs := by delta State.setDom; rfl
@[simp] theorem State.setDom_tasks (s : State) (k : Nat) (v : Dom) : (s.setDom k v).tasks = s.tasks := by delta State.setDom; rfl
@[simp] theorem State.setDom_jobs (s : State) (k : Nat) (v : Dom) : (s.setDom k v).jobs = s.jobs := by delta State.setDom; rfl
@[simp] theorem State.setDom_hostPins (s : State) (k : Nat) (v : Dom) : (s.setDom k v).hostPins = s.hostPins := by delta State.setDom; rfl
@[simp] theorem State.setDom_mapClock (s : State) (k : Nat) (v : Dom) : (s.setDom k v).mapClock = s.mapClock := by delta State.setDom; rfl
@[simp] theorem State.setDom_inSlots (s : State) (k : Nat) (v : Dom) : (s.setDom k v).inSlots = s.inSlots := by delta State.setDom; rfl
@[simp] theorem State.setDom_outSlots (s : State) (k : Nat) (v : Dom) : (s.setDom k v).outSlots = s.outSlots := by delta State.setDom; rfl
@[simp] theorem State.setDom_intSlots (s : State) (k : Nat) (v : Dom) : (s.setDom k v).intSlots = s.intSlots := by delta State.setDom; rfl
@[simp] theorem State.setDom_alloc (s : State) (k : Nat) (v : Dom) : (s.setDom k v).alloc = s.alloc := by delta State.setDom; rfl
@[simp] theorem State.setDom_calRec (s : State) (k : Nat) (v : Dom) : (s.setDom k v).calRec = s.calRec := by delta State.setDom; rfl
@[simp] theorem State.setDom_cal (s : State) (k : Nat) (v : Dom) : (s.setDom k v).cal = s.cal := by delta State.setDom; rfl
@[simp] theorem State.setDom_stoppedD (s : State) (k : Nat) (v : Dom) : (s.setDom k v).stoppedD = s.stoppedD := by delta State.setDom; rfl
@[simp] theorem State.setDom_gens (s : State) (k : Nat) (v : Dom) : (s.setDom k v).gens = s.gens := by delta State.setDom; rfl
@[simp] theorem State.setDom_genNum (s : State) (k : Nat) (v : Dom) : (s.setDom k v).genNum = s.genNum := by delta State.setDom; rfl
@[simp] theorem State.setDom_baseline (s : State) (k : Nat) (v : Dom) : (s.setDom k v).baseline = s.baseline := by delta State.setDom; rfl
@[simp] theorem State.setDom_baseDir (s : State) (k : Nat) (v : Dom) : (s.setDom k v).baseDir = s.baseDir := by delta State.setDom; rfl
@[simp] theorem State.setDom_baseMem (s : State) (k : Nat) (v : Dom) : (s.setDom k v).baseMem = s.baseMem := by delta State.setDom; rfl
@[simp] theorem State.setDom_genOrder (s : State) (k : Nat) (v : Dom) : (s.setDom k v).genOrder = s.genOrder := by delta State.setDom; rfl
@[simp] theorem State.setDom_lineRec (s : State) (k : Nat) (v : Dom) : (s.setDom k v).lineRec = s.lineRec := by delta State.setDom; rfl
@[simp] theorem State.setDom_partRec (s : State) (k : Nat) (v : Dom) : (s.setDom k v).partRec = s.partRec := by delta State.setDom; rfl
@[simp] theorem State.setDom_lanes (s : State) (k : Nat) (v : Dom) : (s.setDom k v).lanes = s.lanes := by delta State.setDom; rfl
@[simp] theorem State.setDom_partners (s : State) (k : Nat) (v : Dom) : (s.setDom k v).partners = s.partners := by delta State.setDom; rfl
@[simp] theorem State.setDom_cores (s : State) (k : Nat) (v : Dom) : (s.setDom k v).cores = s.cores := by delta State.setDom; rfl
@[simp] theorem State.setDom_ridge (s : State) (k : Nat) (v : Dom) : (s.setDom k v).ridge = s.ridge := by delta State.setDom; rfl
@[simp] theorem State.setDom_sqs (s : State) (k : Nat) (v : Dom) : (s.setDom k v).sqs = s.sqs := by delta State.setDom; rfl
@[simp] theorem State.setDom_cqs (s : State) (k : Nat) (v : Dom) : (s.setDom k v).cqs = s.cqs := by delta State.setDom; rfl
@[simp] theorem State.setDom_engine (s : State) (k : Nat) (v : Dom) : (s.setDom k v).engine = s.engine := by delta State.setDom; rfl
@[simp] theorem State.setDom_pcie (s : State) (k : Nat) (v : Dom) : (s.setDom k v).pcie = s.pcie := by delta State.setDom; rfl
@[simp] theorem State.setDom_srcs (s : State) (k : Nat) (v : Dom) : (s.setDom k v).srcs = s.srcs := by delta State.setDom; rfl
@[simp] theorem State.setDom_running (s : State) (k : Nat) (v : Dom) : (s.setDom k v).running = s.running := by delta State.setDom; rfl
@[simp] theorem State.setDom_claims (s : State) (k : Nat) (v : Dom) : (s.setDom k v).claims = s.claims := by delta State.setDom; rfl
@[simp] theorem State.setDom_dmas (s : State) (k : Nat) (v : Dom) : (s.setDom k v).dmas = s.dmas := by delta State.setDom; rfl
@[simp] theorem State.setDom_dmaLast (s : State) (k : Nat) (v : Dom) : (s.setDom k v).dmaLast = s.dmaLast := by delta State.setDom; rfl
@[simp] theorem State.setDom_latches (s : State) (k : Nat) (v : Dom) : (s.setDom k v).latches = s.latches := by delta State.setDom; rfl
@[simp] theorem State.setDom_clk (s : State) (k : Nat) (v : Dom) : (s.setDom k v).clk = s.clk := by delta State.setDom; rfl
@[simp] theorem State.setDom_cald (s : State) (k : Nat) (v : Dom) : (s.setDom k v).cald = s.cald := by delta State.setDom; rfl
@[simp] theorem State.setDom_misc (s : State) (k : Nat) (v : Dom) : (s.setDom k v).misc = s.misc := by delta State.setDom; rfl
@[simp] theorem State.setDom_scrubs (s : State) (k : Nat) (v : Dom) : (s.setDom k v).scrubs = s.scrubs := by delta State.setDom; rfl
@[simp] theorem State.setDom_heldBar (s : State) (k : Nat) (v : Dom) : (s.setDom k v).heldBar = s.heldBar := by delta State.setDom; rfl
@[simp] theorem State.setDom_out (s : State) (k : Nat) (v : Dom) : (s.setDom k v).out = s.out := by delta State.setDom; rfl
@[simp] theorem State.cluster_setDom (s : State) (k : Nat) (v : Dom) (j : Nat) : (s.setDom k v).cluster j = s.cluster j := by delta State.setDom; rfl
@[simp] theorem State.recW_setDom (s : State) (k : Nat) (v : Dom) (j : Nat) : (s.setDom k v).recW j = s.recW j := by delta State.setDom; rfl
@[simp] theorem State.task_setDom (s : State) (k : Nat) (v : Dom) (j : Nat) : (s.setDom k v).task j = s.task j := by delta State.setDom; rfl
@[simp] theorem State.inSlot_setDom (s : State) (k : Nat) (v : Dom) (j : Nat) : (s.setDom k v).inSlot j = s.inSlot j := by delta State.setDom; rfl
@[simp] theorem State.outSlot_setDom (s : State) (k : Nat) (v : Dom) (j : Nat) : (s.setDom k v).outSlot j = s.outSlot j := by delta State.setDom; rfl
@[simp] theorem State.intSlot_setDom (s : State) (k : Nat) (v : Dom) (j : Nat) : (s.setDom k v).intSlot j = s.intSlot j := by delta State.setDom; rfl
@[simp] theorem State.cls_setDom (s : State) (k : Nat) (v : Dom) (j : Nat) : (s.setDom k v).cls j = s.cls j := by delta State.setDom; rfl
@[simp] theorem State.calW_setDom (s : State) (k : Nat) (v : Dom) (j : Nat) : (s.setDom k v).calW j = s.calW j := by delta State.setDom; rfl
@[simp] theorem State.calSlot_setDom (s : State) (k : Nat) (v : Dom) (j : Nat) : (s.setDom k v).calSlot j = s.calSlot j := by delta State.setDom; rfl
@[simp] theorem State.gen_setDom (s : State) (k : Nat) (v : Dom) (j : Nat) : (s.setDom k v).gen j = s.gen j := by delta State.setDom; rfl
@[simp] theorem State.lineW_setDom (s : State) (k : Nat) (v : Dom) (j : Nat) : (s.setDom k v).lineW j = s.lineW j := by delta State.setDom; rfl
@[simp] theorem State.partW_setDom (s : State) (k : Nat) (v : Dom) (j : Nat) : (s.setDom k v).partW j = s.partW j := by delta State.setDom; rfl
@[simp] theorem State.lane_setDom (s : State) (k : Nat) (v : Dom) (j : Nat) : (s.setDom k v).lane j = s.lane j := by delta State.setDom; rfl
@[simp] theorem State.partner_setDom (s : State) (k : Nat) (v : Dom) (j : Nat) : (s.setDom k v).partner j = s.partner j := by delta State.setDom; rfl
@[simp] theorem State.core_setDom (s : State) (k : Nat) (v : Dom) (j : Nat) : (s.setDom k v).core j = s.core j := by delta State.setDom; rfl
@[simp] theorem State.sq_setDom (s : State) (k : Nat) (v : Dom) (j : Nat) : (s.setDom k v).sq j = s.sq j := by delta State.setDom; rfl
@[simp] theorem State.cq_setDom (s : State) (k : Nat) (v : Dom) (j : Nat) : (s.setDom k v).cq j = s.cq j := by delta State.setDom; rfl
@[simp] theorem State.src_setDom (s : State) (k : Nat) (v : Dom) (j : Nat) : (s.setDom k v).src j = s.src j := by delta State.setDom; rfl
@[simp] theorem State.stack_setDom (s : State) (k : Nat) (v : Dom) (j : Nat) : (s.setDom k v).stack j = s.stack j := by delta State.setDom; rfl
@[simp] theorem State.claimed_setDom (s : State) (k : Nat) (v : Dom) (j : Nat) : (s.setDom k v).claimed j = s.claimed j := by delta State.setDom; rfl
@[simp] theorem State.dma_setDom (s : State) (k : Nat) (v : Dom) (j : Nat) : (s.setDom k v).dma j = s.dma j := by delta State.setDom; rfl
@[simp] theorem State.latch_setDom (s : State) (k : Nat) (v : Dom) (j : Nat) : (s.setDom k v).latch j = s.latch j := by delta State.setDom; rfl
@[simp] theorem State.scr_setDom (s : State) (k : Nat) (v : Dom) (j : Nat) : (s.setDom k v).scr j = s.scr j := by delta State.setDom; rfl
@[simp] theorem State.reg_setDom (s : State) (k : Nat) (v : Dom) (r : Reg) : (s.setDom k v).reg r = s.reg r := by delta State.setDom; rfl
@[simp] theorem State.dom_setDom (s : State) (k : Nat) (v : Dom) (j : Nat) : (s.setDom k v).dom j = if j = k then v else s.dom j := by
  simp [State.dom, State.setDom]
@[simp] theorem State.setDom_setDom (s : State) (k : Nat) (v : Dom) (v' : Dom) : (s.setDom k v).setDom k v' = s.setDom k v' := by
  simp [State.setDom]
@[simp] theorem State.updDom_eq (s : State) (k : Nat) (g : Dom → Dom) : s.updDom k g = s.setDom k (g (s.dom k)) := rfl

/-! ### scr -/

@[simp] theorem State.setScr_pending (s : State) (k : Nat) (v : Scrub) : (s.setScr k v).pending = s.pending := by delta State.setScr; rfl
@[simp] theorem State.setScr_free (s : State) (k : Nat) (v : Scrub) : (s.setScr k v).free = s.free := by delta State.setScr; rfl
@[simp] theorem State.setScr_regs (s : State) (k : Nat) (v : Scrub) : (s.setScr k v).regs = s.regs := by delta State.setScr; rfl
@[simp] theorem State.setScr_store (s : State) (k : Nat) (v : Scrub) : (s.setScr k v).store = s.store := by delta State.setScr; rfl
@[simp] theorem State.setScr_storeBad (s : State) (k : Nat) (v : Scrub) : (s.setScr k v).storeBad = s.storeBad := by delta State.setScr; rfl
@[simp] theorem State.setScr_clusters (s : State) (k : Nat) (v : Scrub) : (s.setScr k v).clusters = s.clusters := by delta State.setScr; rfl
@[simp] theorem State.setScr_recs (s : State) (k : Nat) (v : Scrub) : (s.setScr k v).recs = s.recs := by delta State.setScr; rfl
@[simp] theorem State.setScr_tasks (s : State) (k : Nat) (v : Scrub) : (s.setScr k v).tasks = s.tasks := by delta State.setScr; rfl
@[simp] theorem State.setScr_jobs (s : State) (k : Nat) (v : Scrub) : (s.setScr k v).jobs = s.jobs := by delta State.setScr; rfl
@[simp] theorem State.setScr_hostPins (s : State) (k : Nat) (v : Scrub) : (s.setScr k v).hostPins = s.hostPins := by delta State.setScr; rfl
@[simp] theorem State.setScr_mapClock (s : State) (k : Nat) (v : Scrub) : (s.setScr k v).mapClock = s.mapClock := by delta State.setScr; rfl
@[simp] theorem State.setScr_inSlots (s : State) (k : Nat) (v : Scrub) : (s.setScr k v).inSlots = s.inSlots := by delta State.setScr; rfl
@[simp] theorem State.setScr_outSlots (s : State) (k : Nat) (v : Scrub) : (s.setScr k v).outSlots = s.outSlots := by delta State.setScr; rfl
@[simp] theorem State.setScr_intSlots (s : State) (k : Nat) (v : Scrub) : (s.setScr k v).intSlots = s.intSlots := by delta State.setScr; rfl
@[simp] theorem State.setScr_alloc (s : State) (k : Nat) (v : Scrub) : (s.setScr k v).alloc = s.alloc := by delta State.setScr; rfl
@[simp] theorem State.setScr_calRec (s : State) (k : Nat) (v : Scrub) : (s.setScr k v).calRec = s.calRec := by delta State.setScr; rfl
@[simp] theorem State.setScr_cal (s : State) (k : Nat) (v : Scrub) : (s.setScr k v).cal = s.cal := by delta State.setScr; rfl
@[simp] theorem State.setScr_stoppedD (s : State) (k : Nat) (v : Scrub) : (s.setScr k v).stoppedD = s.stoppedD := by delta State.setScr; rfl
@[simp] theorem State.setScr_gens (s : State) (k : Nat) (v : Scrub) : (s.setScr k v).gens = s.gens := by delta State.setScr; rfl
@[simp] theorem State.setScr_genNum (s : State) (k : Nat) (v : Scrub) : (s.setScr k v).genNum = s.genNum := by delta State.setScr; rfl
@[simp] theorem State.setScr_baseline (s : State) (k : Nat) (v : Scrub) : (s.setScr k v).baseline = s.baseline := by delta State.setScr; rfl
@[simp] theorem State.setScr_baseDir (s : State) (k : Nat) (v : Scrub) : (s.setScr k v).baseDir = s.baseDir := by delta State.setScr; rfl
@[simp] theorem State.setScr_baseMem (s : State) (k : Nat) (v : Scrub) : (s.setScr k v).baseMem = s.baseMem := by delta State.setScr; rfl
@[simp] theorem State.setScr_genOrder (s : State) (k : Nat) (v : Scrub) : (s.setScr k v).genOrder = s.genOrder := by delta State.setScr; rfl
@[simp] theorem State.setScr_lineRec (s : State) (k : Nat) (v : Scrub) : (s.setScr k v).lineRec = s.lineRec := by delta State.setScr; rfl
@[simp] theorem State.setScr_partRec (s : State) (k : Nat) (v : Scrub) : (s.setScr k v).partRec = s.partRec := by delta State.setScr; rfl
@[simp] theorem State.setScr_lanes (s : State) (k : Nat) (v : Scrub) : (s.setScr k v).lanes = s.lanes := by delta State.setScr; rfl
@[simp] theorem State.setScr_partners (s : State) (k : Nat) (v : Scrub) : (s.setScr k v).partners = s.partners := by delta State.setScr; rfl
@[simp] theorem State.setScr_cores (s : State) (k : Nat) (v : Scrub) : (s.setScr k v).cores = s.cores := by delta State.setScr; rfl
@[simp] theorem State.setScr_ridge (s : State) (k : Nat) (v : Scrub) : (s.setScr k v).ridge = s.ridge := by delta State.setScr; rfl
@[simp] theorem State.setScr_sqs (s : State) (k : Nat) (v : Scrub) : (s.setScr k v).sqs = s.sqs := by delta State.setScr; rfl
@[simp] theorem State.setScr_cqs (s : State) (k : Nat) (v : Scrub) : (s.setScr k v).cqs = s.cqs := by delta State.setScr; rfl
@[simp] theorem State.setScr_engine (s : State) (k : Nat) (v : Scrub) : (s.setScr k v).engine = s.engine := by delta State.setScr; rfl
@[simp] theorem State.setScr_pcie (s : State) (k : Nat) (v : Scrub) : (s.setScr k v).pcie = s.pcie := by delta State.setScr; rfl
@[simp] theorem State.setScr_srcs (s : State) (k : Nat) (v : Scrub) : (s.setScr k v).srcs = s.srcs := by delta State.setScr; rfl
@[simp] theorem State.setScr_running (s : State) (k : Nat) (v : Scrub) : (s.setScr k v).running = s.running := by delta State.setScr; rfl
@[simp] theorem State.setScr_claims (s : State) (k : Nat) (v : Scrub) : (s.setScr k v).claims = s.claims := by delta State.setScr; rfl
@[simp] theorem State.setScr_dmas (s : State) (k : Nat) (v : Scrub) : (s.setScr k v).dmas = s.dmas := by delta State.setScr; rfl
@[simp] theorem State.setScr_dmaLast (s : State) (k : Nat) (v : Scrub) : (s.setScr k v).dmaLast = s.dmaLast := by delta State.setScr; rfl
@[simp] theorem State.setScr_latches (s : State) (k : Nat) (v : Scrub) : (s.setScr k v).latches = s.latches := by delta State.setScr; rfl
@[simp] theorem State.setScr_doms (s : State) (k : Nat) (v : Scrub) : (s.setScr k v).doms = s.doms := by delta State.setScr; rfl
@[simp] theorem State.setScr_clk (s : State) (k : Nat) (v : Scrub) : (s.setScr k v).clk = s.clk := by delta State.setScr; rfl
@[simp] theorem State.setScr_cald (s : State) (k : Nat) (v : Scrub) : (s.setScr k v).cald = s.cald := by delta State.setScr; rfl
@[simp] theorem State.setScr_misc (s : State) (k : Nat) (v : Scrub) : (s.setScr k v).misc = s.misc := by delta State.setScr; rfl
@[simp] theorem State.setScr_heldBar (s : State) (k : Nat) (v : Scrub) : (s.setScr k v).heldBar = s.heldBar := by delta State.setScr; rfl
@[simp] theorem State.setScr_out (s : State) (k : Nat) (v : Scrub) : (s.setScr k v).out = s.out := by delta State.setScr; rfl
@[simp] theorem State.cluster_setScr (s : State) (k : Nat) (v : Scrub) (j : Nat) : (s.setScr k v).cluster j = s.cluster j := by delta State.setScr; rfl
@[simp] theorem State.recW_setScr (s : State) (k : Nat) (v : Scrub) (j : Nat) : (s.setScr k v).recW j = s.recW j := by delta State.setScr; rfl
@[simp] theorem State.task_setScr (s : State) (k : Nat) (v : Scrub) (j : Nat) : (s.setScr k v).task j = s.task j := by delta State.setScr; rfl
@[simp] theorem State.inSlot_setScr (s : State) (k : Nat) (v : Scrub) (j : Nat) : (s.setScr k v).inSlot j = s.inSlot j := by delta State.setScr; rfl
@[simp] theorem State.outSlot_setScr (s : State) (k : Nat) (v : Scrub) (j : Nat) : (s.setScr k v).outSlot j = s.outSlot j := by delta State.setScr; rfl
@[simp] theorem State.intSlot_setScr (s : State) (k : Nat) (v : Scrub) (j : Nat) : (s.setScr k v).intSlot j = s.intSlot j := by delta State.setScr; rfl
@[simp] theorem State.cls_setScr (s : State) (k : Nat) (v : Scrub) (j : Nat) : (s.setScr k v).cls j = s.cls j := by delta State.setScr; rfl
@[simp] theorem State.calW_setScr (s : State) (k : Nat) (v : Scrub) (j : Nat) : (s.setScr k v).calW j = s.calW j := by delta State.setScr; rfl
@[simp] theorem State.calSlot_setScr (s : State) (k : Nat) (v : Scrub) (j : Nat) : (s.setScr k v).calSlot j = s.calSlot j := by delta State.setScr; rfl
@[simp] theorem State.gen_setScr (s : State) (k : Nat) (v : Scrub) (j : Nat) : (s.setScr k v).gen j = s.gen j := by delta State.setScr; rfl
@[simp] theorem State.lineW_setScr (s : State) (k : Nat) (v : Scrub) (j : Nat) : (s.setScr k v).lineW j = s.lineW j := by delta State.setScr; rfl
@[simp] theorem State.partW_setScr (s : State) (k : Nat) (v : Scrub) (j : Nat) : (s.setScr k v).partW j = s.partW j := by delta State.setScr; rfl
@[simp] theorem State.lane_setScr (s : State) (k : Nat) (v : Scrub) (j : Nat) : (s.setScr k v).lane j = s.lane j := by delta State.setScr; rfl
@[simp] theorem State.partner_setScr (s : State) (k : Nat) (v : Scrub) (j : Nat) : (s.setScr k v).partner j = s.partner j := by delta State.setScr; rfl
@[simp] theorem State.core_setScr (s : State) (k : Nat) (v : Scrub) (j : Nat) : (s.setScr k v).core j = s.core j := by delta State.setScr; rfl
@[simp] theorem State.sq_setScr (s : State) (k : Nat) (v : Scrub) (j : Nat) : (s.setScr k v).sq j = s.sq j := by delta State.setScr; rfl
@[simp] theorem State.cq_setScr (s : State) (k : Nat) (v : Scrub) (j : Nat) : (s.setScr k v).cq j = s.cq j := by delta State.setScr; rfl
@[simp] theorem State.src_setScr (s : State) (k : Nat) (v : Scrub) (j : Nat) : (s.setScr k v).src j = s.src j := by delta State.setScr; rfl
@[simp] theorem State.stack_setScr (s : State) (k : Nat) (v : Scrub) (j : Nat) : (s.setScr k v).stack j = s.stack j := by delta State.setScr; rfl
@[simp] theorem State.claimed_setScr (s : State) (k : Nat) (v : Scrub) (j : Nat) : (s.setScr k v).claimed j = s.claimed j := by delta State.setScr; rfl
@[simp] theorem State.dma_setScr (s : State) (k : Nat) (v : Scrub) (j : Nat) : (s.setScr k v).dma j = s.dma j := by delta State.setScr; rfl
@[simp] theorem State.latch_setScr (s : State) (k : Nat) (v : Scrub) (j : Nat) : (s.setScr k v).latch j = s.latch j := by delta State.setScr; rfl
@[simp] theorem State.dom_setScr (s : State) (k : Nat) (v : Scrub) (j : Nat) : (s.setScr k v).dom j = s.dom j := by delta State.setScr; rfl
@[simp] theorem State.reg_setScr (s : State) (k : Nat) (v : Scrub) (r : Reg) : (s.setScr k v).reg r = s.reg r := by delta State.setScr; rfl
@[simp] theorem State.scr_setScr (s : State) (k : Nat) (v : Scrub) (j : Nat) : (s.setScr k v).scr j = if j = k then v else s.scr j := by
  simp [State.scr, State.setScr]
@[simp] theorem State.setScr_setScr (s : State) (k : Nat) (v : Scrub) (v' : Scrub) : (s.setScr k v).setScr k v' = s.setScr k v' := by
  simp [State.setScr]
@[simp] theorem State.updScr_eq (s : State) (k : Nat) (g : Scrub → Scrub) : s.updScr k g = s.setScr k (g (s.scr k)) := rfl

/-! ### setReg -/

@[simp] theorem State.setReg_pending (s : State) (r : Reg) (v : W32) : (s.setReg r v).pending = s.pending := by delta State.setReg; rfl
@[simp] theorem State.setReg_free (s : State) (r : Reg) (v : W32) : (s.setReg r v).free = s.free := by delta State.setReg; rfl
@[simp] theorem State.setReg_store (s : State) (r : Reg) (v : W32) : (s.setReg r v).store = s.store := by delta State.setReg; rfl
@[simp] theorem State.setReg_storeBad (s : State) (r : Reg) (v : W32) : (s.setReg r v).storeBad = s.storeBad := by delta State.setReg; rfl
@[simp] theorem State.setReg_clusters (s : State) (r : Reg) (v : W32) : (s.setReg r v).clusters = s.clusters := by delta State.setReg; rfl
@[simp] theorem State.setReg_recs (s : State) (r : Reg) (v : W32) : (s.setReg r v).recs = s.recs := by delta State.setReg; rfl
@[simp] theorem State.setReg_tasks (s : State) (r : Reg) (v : W32) : (s.setReg r v).tasks = s.tasks := by delta State.setReg; rfl
@[simp] theorem State.setReg_jobs (s : State) (r : Reg) (v : W32) : (s.setReg r v).jobs = s.jobs := by delta State.setReg; rfl
@[simp] theorem State.setReg_hostPins (s : State) (r : Reg) (v : W32) : (s.setReg r v).hostPins = s.hostPins := by delta State.setReg; rfl
@[simp] theorem State.setReg_mapClock (s : State) (r : Reg) (v : W32) : (s.setReg r v).mapClock = s.mapClock := by delta State.setReg; rfl
@[simp] theorem State.setReg_inSlots (s : State) (r : Reg) (v : W32) : (s.setReg r v).inSlots = s.inSlots := by delta State.setReg; rfl
@[simp] theorem State.setReg_outSlots (s : State) (r : Reg) (v : W32) : (s.setReg r v).outSlots = s.outSlots := by delta State.setReg; rfl
@[simp] theorem State.setReg_intSlots (s : State) (r : Reg) (v : W32) : (s.setReg r v).intSlots = s.intSlots := by delta State.setReg; rfl
@[simp] theorem State.setReg_alloc (s : State) (r : Reg) (v : W32) : (s.setReg r v).alloc = s.alloc := by delta State.setReg; rfl
@[simp] theorem State.setReg_calRec (s : State) (r : Reg) (v : W32) : (s.setReg r v).calRec = s.calRec := by delta State.setReg; rfl
@[simp] theorem State.setReg_cal (s : State) (r : Reg) (v : W32) : (s.setReg r v).cal = s.cal := by delta State.setReg; rfl
@[simp] theorem State.setReg_stoppedD (s : State) (r : Reg) (v : W32) : (s.setReg r v).stoppedD = s.stoppedD := by delta State.setReg; rfl
@[simp] theorem State.setReg_gens (s : State) (r : Reg) (v : W32) : (s.setReg r v).gens = s.gens := by delta State.setReg; rfl
@[simp] theorem State.setReg_genNum (s : State) (r : Reg) (v : W32) : (s.setReg r v).genNum = s.genNum := by delta State.setReg; rfl
@[simp] theorem State.setReg_baseline (s : State) (r : Reg) (v : W32) : (s.setReg r v).baseline = s.baseline := by delta State.setReg; rfl
@[simp] theorem State.setReg_baseDir (s : State) (r : Reg) (v : W32) : (s.setReg r v).baseDir = s.baseDir := by delta State.setReg; rfl
@[simp] theorem State.setReg_baseMem (s : State) (r : Reg) (v : W32) : (s.setReg r v).baseMem = s.baseMem := by delta State.setReg; rfl
@[simp] theorem State.setReg_genOrder (s : State) (r : Reg) (v : W32) : (s.setReg r v).genOrder = s.genOrder := by delta State.setReg; rfl
@[simp] theorem State.setReg_lineRec (s : State) (r : Reg) (v : W32) : (s.setReg r v).lineRec = s.lineRec := by delta State.setReg; rfl
@[simp] theorem State.setReg_partRec (s : State) (r : Reg) (v : W32) : (s.setReg r v).partRec = s.partRec := by delta State.setReg; rfl
@[simp] theorem State.setReg_lanes (s : State) (r : Reg) (v : W32) : (s.setReg r v).lanes = s.lanes := by delta State.setReg; rfl
@[simp] theorem State.setReg_partners (s : State) (r : Reg) (v : W32) : (s.setReg r v).partners = s.partners := by delta State.setReg; rfl
@[simp] theorem State.setReg_cores (s : State) (r : Reg) (v : W32) : (s.setReg r v).cores = s.cores := by delta State.setReg; rfl
@[simp] theorem State.setReg_ridge (s : State) (r : Reg) (v : W32) : (s.setReg r v).ridge = s.ridge := by delta State.setReg; rfl
@[simp] theorem State.setReg_sqs (s : State) (r : Reg) (v : W32) : (s.setReg r v).sqs = s.sqs := by delta State.setReg; rfl
@[simp] theorem State.setReg_cqs (s : State) (r : Reg) (v : W32) : (s.setReg r v).cqs = s.cqs := by delta State.setReg; rfl
@[simp] theorem State.setReg_engine (s : State) (r : Reg) (v : W32) : (s.setReg r v).engine = s.engine := by delta State.setReg; rfl
@[simp] theorem State.setReg_pcie (s : State) (r : Reg) (v : W32) : (s.setReg r v).pcie = s.pcie := by delta State.setReg; rfl
@[simp] theorem State.setReg_srcs (s : State) (r : Reg) (v : W32) : (s.setReg r v).srcs = s.srcs := by delta State.setReg; rfl
@[simp] theorem State.setReg_running (s : State) (r : Reg) (v : W32) : (s.setReg r v).running = s.running := by delta State.setReg; rfl
@[simp] theorem State.setReg_claims (s : State) (r : Reg) (v : W32) : (s.setReg r v).claims = s.claims := by delta State.setReg; rfl
@[simp] theorem State.setReg_dmas (s : State) (r : Reg) (v : W32) : (s.setReg r v).dmas = s.dmas := by delta State.setReg; rfl
@[simp] theorem State.setReg_dmaLast (s : State) (r : Reg) (v : W32) : (s.setReg r v).dmaLast = s.dmaLast := by delta State.setReg; rfl
@[simp] theorem State.setReg_latches (s : State) (r : Reg) (v : W32) : (s.setReg r v).latches = s.latches := by delta State.setReg; rfl
@[simp] theorem State.setReg_doms (s : State) (r : Reg) (v : W32) : (s.setReg r v).doms = s.doms := by delta State.setReg; rfl
@[simp] theorem State.setReg_clk (s : State) (r : Reg) (v : W32) : (s.setReg r v).clk = s.clk := by delta State.setReg; rfl
@[simp] theorem State.setReg_cald (s : State) (r : Reg) (v : W32) : (s.setReg r v).cald = s.cald := by delta State.setReg; rfl
@[simp] theorem State.setReg_misc (s : State) (r : Reg) (v : W32) : (s.setReg r v).misc = s.misc := by delta State.setReg; rfl
@[simp] theorem State.setReg_scrubs (s : State) (r : Reg) (v : W32) : (s.setReg r v).scrubs = s.scrubs := by delta State.setReg; rfl
@[simp] theorem State.setReg_heldBar (s : State) (r : Reg) (v : W32) : (s.setReg r v).heldBar = s.heldBar := by delta State.setReg; rfl
@[simp] theorem State.setReg_out (s : State) (r : Reg) (v : W32) : (s.setReg r v).out = s.out := by delta State.setReg; rfl
@[simp] theorem State.cluster_setReg (s : State) (r : Reg) (v : W32) (j : Nat) : (s.setReg r v).cluster j = s.cluster j := by delta State.setReg; rfl
@[simp] theorem State.recW_setReg (s : State) (r : Reg) (v : W32) (j : Nat) : (s.setReg r v).recW j = s.recW j := by delta State.setReg; rfl
@[simp] theorem State.task_setReg (s : State) (r : Reg) (v : W32) (j : Nat) : (s.setReg r v).task j = s.task j := by delta State.setReg; rfl
@[simp] theorem State.inSlot_setReg (s : State) (r : Reg) (v : W32) (j : Nat) : (s.setReg r v).inSlot j = s.inSlot j := by delta State.setReg; rfl
@[simp] theorem State.outSlot_setReg (s : State) (r : Reg) (v : W32) (j : Nat) : (s.setReg r v).outSlot j = s.outSlot j := by delta State.setReg; rfl
@[simp] theorem State.intSlot_setReg (s : State) (r : Reg) (v : W32) (j : Nat) : (s.setReg r v).intSlot j = s.intSlot j := by delta State.setReg; rfl
@[simp] theorem State.cls_setReg (s : State) (r : Reg) (v : W32) (j : Nat) : (s.setReg r v).cls j = s.cls j := by delta State.setReg; rfl
@[simp] theorem State.calW_setReg (s : State) (r : Reg) (v : W32) (j : Nat) : (s.setReg r v).calW j = s.calW j := by delta State.setReg; rfl
@[simp] theorem State.calSlot_setReg (s : State) (r : Reg) (v : W32) (j : Nat) : (s.setReg r v).calSlot j = s.calSlot j := by delta State.setReg; rfl
@[simp] theorem State.gen_setReg (s : State) (r : Reg) (v : W32) (j : Nat) : (s.setReg r v).gen j = s.gen j := by delta State.setReg; rfl
@[simp] theorem State.lineW_setReg (s : State) (r : Reg) (v : W32) (j : Nat) : (s.setReg r v).lineW j = s.lineW j := by delta State.setReg; rfl
@[simp] theorem State.partW_setReg (s : State) (r : Reg) (v : W32) (j : Nat) : (s.setReg r v).partW j = s.partW j := by delta State.setReg; rfl
@[simp] theorem State.lane_setReg (s : State) (r : Reg) (v : W32) (j : Nat) : (s.setReg r v).lane j = s.lane j := by delta State.setReg; rfl
@[simp] theorem State.partner_setReg (s : State) (r : Reg) (v : W32) (j : Nat) : (s.setReg r v).partner j = s.partner j := by delta State.setReg; rfl
@[simp] theorem State.core_setReg (s : State) (r : Reg) (v : W32) (j : Nat) : (s.setReg r v).core j = s.core j := by delta State.setReg; rfl
@[simp] theorem State.sq_setReg (s : State) (r : Reg) (v : W32) (j : Nat) : (s.setReg r v).sq j = s.sq j := by delta State.setReg; rfl
@[simp] theorem State.cq_setReg (s : State) (r : Reg) (v : W32) (j : Nat) : (s.setReg r v).cq j = s.cq j := by delta State.setReg; rfl
@[simp] theorem State.src_setReg (s : State) (r : Reg) (v : W32) (j : Nat) : (s.setReg r v).src j = s.src j := by delta State.setReg; rfl
@[simp] theorem State.stack_setReg (s : State) (r : Reg) (v : W32) (j : Nat) : (s.setReg r v).stack j = s.stack j := by delta State.setReg; rfl
@[simp] theorem State.claimed_setReg (s : State) (r : Reg) (v : W32) (j : Nat) : (s.setReg r v).claimed j = s.claimed j := by delta State.setReg; rfl
@[simp] theorem State.dma_setReg (s : State) (r : Reg) (v : W32) (j : Nat) : (s.setReg r v).dma j = s.dma j := by delta State.setReg; rfl
@[simp] theorem State.latch_setReg (s : State) (r : Reg) (v : W32) (j : Nat) : (s.setReg r v).latch j = s.latch j := by delta State.setReg; rfl
@[simp] theorem State.dom_setReg (s : State) (r : Reg) (v : W32) (j : Nat) : (s.setReg r v).dom j = s.dom j := by delta State.setReg; rfl
@[simp] theorem State.scr_setReg (s : State) (r : Reg) (v : W32) (j : Nat) : (s.setReg r v).scr j = s.scr j := by delta State.setReg; rfl
@[simp] theorem State.reg_setReg (s : State) (r : Reg) (v : W32) (q : Reg) :
    (s.setReg r v).reg q = if q.off = r.off then v else s.reg q := by
  simp [State.reg, State.setReg]
@[simp] theorem State.updReg_eq (s : State) (r : Reg) (g : W32 → W32) : s.updReg r g = s.setReg r (g (s.reg r)) := rfl
@[simp] theorem State.bump_eq (s : State) (r : Reg) : s.bump r = s.setReg r (s.reg r + 1) := rfl
@[simp] theorem State.bumpBy_eq (s : State) (r : Reg) (n : Nat) :
    s.bumpBy r n = s.setReg r (s.reg r + BitVec.ofNat 32 n) := rfl

/-! ### emit -/

@[simp] theorem State.emit_pending (s : State) (e : Emit) : (s.emit e).pending = s.pending := by delta State.emit; rfl
@[simp] theorem State.emit_free (s : State) (e : Emit) : (s.emit e).free = s.free := by delta State.emit; rfl
@[simp] theorem State.emit_regs (s : State) (e : Emit) : (s.emit e).regs = s.regs := by delta State.emit; rfl
@[simp] theorem State.emit_store (s : State) (e : Emit) : (s.emit e).store = s.store := by delta State.emit; rfl
@[simp] theorem State.emit_storeBad (s : State) (e : Emit) : (s.emit e).storeBad = s.storeBad := by delta State.emit; rfl
@[simp] theorem State.emit_clusters (s : State) (e : Emit) : (s.emit e).clusters = s.clusters := by delta State.emit; rfl
@[simp] theorem State.emit_recs (s : State) (e : Emit) : (s.emit e).recs = s.recs := by delta State.emit; rfl
@[simp] theorem State.emit_tasks (s : State) (e : Emit) : (s.emit e).tasks = s.tasks := by delta State.emit; rfl
@[simp] theorem State.emit_jobs (s : State) (e : Emit) : (s.emit e).jobs = s.jobs := by delta State.emit; rfl
@[simp] theorem State.emit_hostPins (s : State) (e : Emit) : (s.emit e).hostPins = s.hostPins := by delta State.emit; rfl
@[simp] theorem State.emit_mapClock (s : State) (e : Emit) : (s.emit e).mapClock = s.mapClock := by delta State.emit; rfl
@[simp] theorem State.emit_inSlots (s : State) (e : Emit) : (s.emit e).inSlots = s.inSlots := by delta State.emit; rfl
@[simp] theorem State.emit_outSlots (s : State) (e : Emit) : (s.emit e).outSlots = s.outSlots := by delta State.emit; rfl
@[simp] theorem State.emit_intSlots (s : State) (e : Emit) : (s.emit e).intSlots = s.intSlots := by delta State.emit; rfl
@[simp] theorem State.emit_alloc (s : State) (e : Emit) : (s.emit e).alloc = s.alloc := by delta State.emit; rfl
@[simp] theorem State.emit_calRec (s : State) (e : Emit) : (s.emit e).calRec = s.calRec := by delta State.emit; rfl
@[simp] theorem State.emit_cal (s : State) (e : Emit) : (s.emit e).cal = s.cal := by delta State.emit; rfl
@[simp] theorem State.emit_stoppedD (s : State) (e : Emit) : (s.emit e).stoppedD = s.stoppedD := by delta State.emit; rfl
@[simp] theorem State.emit_gens (s : State) (e : Emit) : (s.emit e).gens = s.gens := by delta State.emit; rfl
@[simp] theorem State.emit_genNum (s : State) (e : Emit) : (s.emit e).genNum = s.genNum := by delta State.emit; rfl
@[simp] theorem State.emit_baseline (s : State) (e : Emit) : (s.emit e).baseline = s.baseline := by delta State.emit; rfl
@[simp] theorem State.emit_baseDir (s : State) (e : Emit) : (s.emit e).baseDir = s.baseDir := by delta State.emit; rfl
@[simp] theorem State.emit_baseMem (s : State) (e : Emit) : (s.emit e).baseMem = s.baseMem := by delta State.emit; rfl
@[simp] theorem State.emit_genOrder (s : State) (e : Emit) : (s.emit e).genOrder = s.genOrder := by delta State.emit; rfl
@[simp] theorem State.emit_lineRec (s : State) (e : Emit) : (s.emit e).lineRec = s.lineRec := by delta State.emit; rfl
@[simp] theorem State.emit_partRec (s : State) (e : Emit) : (s.emit e).partRec = s.partRec := by delta State.emit; rfl
@[simp] theorem State.emit_lanes (s : State) (e : Emit) : (s.emit e).lanes = s.lanes := by delta State.emit; rfl
@[simp] theorem State.emit_partners (s : State) (e : Emit) : (s.emit e).partners = s.partners := by delta State.emit; rfl
@[simp] theorem State.emit_cores (s : State) (e : Emit) : (s.emit e).cores = s.cores := by delta State.emit; rfl
@[simp] theorem State.emit_ridge (s : State) (e : Emit) : (s.emit e).ridge = s.ridge := by delta State.emit; rfl
@[simp] theorem State.emit_sqs (s : State) (e : Emit) : (s.emit e).sqs = s.sqs := by delta State.emit; rfl
@[simp] theorem State.emit_cqs (s : State) (e : Emit) : (s.emit e).cqs = s.cqs := by delta State.emit; rfl
@[simp] theorem State.emit_engine (s : State) (e : Emit) : (s.emit e).engine = s.engine := by delta State.emit; rfl
@[simp] theorem State.emit_pcie (s : State) (e : Emit) : (s.emit e).pcie = s.pcie := by delta State.emit; rfl
@[simp] theorem State.emit_srcs (s : State) (e : Emit) : (s.emit e).srcs = s.srcs := by delta State.emit; rfl
@[simp] theorem State.emit_running (s : State) (e : Emit) : (s.emit e).running = s.running := by delta State.emit; rfl
@[simp] theorem State.emit_claims (s : State) (e : Emit) : (s.emit e).claims = s.claims := by delta State.emit; rfl
@[simp] theorem State.emit_dmas (s : State) (e : Emit) : (s.emit e).dmas = s.dmas := by delta State.emit; rfl
@[simp] theorem State.emit_dmaLast (s : State) (e : Emit) : (s.emit e).dmaLast = s.dmaLast := by delta State.emit; rfl
@[simp] theorem State.emit_latches (s : State) (e : Emit) : (s.emit e).latches = s.latches := by delta State.emit; rfl
@[simp] theorem State.emit_doms (s : State) (e : Emit) : (s.emit e).doms = s.doms := by delta State.emit; rfl
@[simp] theorem State.emit_clk (s : State) (e : Emit) : (s.emit e).clk = s.clk := by delta State.emit; rfl
@[simp] theorem State.emit_cald (s : State) (e : Emit) : (s.emit e).cald = s.cald := by delta State.emit; rfl
@[simp] theorem State.emit_misc (s : State) (e : Emit) : (s.emit e).misc = s.misc := by delta State.emit; rfl
@[simp] theorem State.emit_scrubs (s : State) (e : Emit) : (s.emit e).scrubs = s.scrubs := by delta State.emit; rfl
@[simp] theorem State.emit_heldBar (s : State) (e : Emit) : (s.emit e).heldBar = s.heldBar := by delta State.emit; rfl
@[simp] theorem State.cluster_emit (s : State) (e : Emit) (j : Nat) : (s.emit e).cluster j = s.cluster j := by delta State.emit; rfl
@[simp] theorem State.recW_emit (s : State) (e : Emit) (j : Nat) : (s.emit e).recW j = s.recW j := by delta State.emit; rfl
@[simp] theorem State.task_emit (s : State) (e : Emit) (j : Nat) : (s.emit e).task j = s.task j := by delta State.emit; rfl
@[simp] theorem State.inSlot_emit (s : State) (e : Emit) (j : Nat) : (s.emit e).inSlot j = s.inSlot j := by delta State.emit; rfl
@[simp] theorem State.outSlot_emit (s : State) (e : Emit) (j : Nat) : (s.emit e).outSlot j = s.outSlot j := by delta State.emit; rfl
@[simp] theorem State.intSlot_emit (s : State) (e : Emit) (j : Nat) : (s.emit e).intSlot j = s.intSlot j := by delta State.emit; rfl
@[simp] theorem State.cls_emit (s : State) (e : Emit) (j : Nat) : (s.emit e).cls j = s.cls j := by delta State.emit; rfl
@[simp] theorem State.calW_emit (s : State) (e : Emit) (j : Nat) : (s.emit e).calW j = s.calW j := by delta State.emit; rfl
@[simp] theorem State.calSlot_emit (s : State) (e : Emit) (j : Nat) : (s.emit e).calSlot j = s.calSlot j := by delta State.emit; rfl
@[simp] theorem State.gen_emit (s : State) (e : Emit) (j : Nat) : (s.emit e).gen j = s.gen j := by delta State.emit; rfl
@[simp] theorem State.lineW_emit (s : State) (e : Emit) (j : Nat) : (s.emit e).lineW j = s.lineW j := by delta State.emit; rfl
@[simp] theorem State.partW_emit (s : State) (e : Emit) (j : Nat) : (s.emit e).partW j = s.partW j := by delta State.emit; rfl
@[simp] theorem State.lane_emit (s : State) (e : Emit) (j : Nat) : (s.emit e).lane j = s.lane j := by delta State.emit; rfl
@[simp] theorem State.partner_emit (s : State) (e : Emit) (j : Nat) : (s.emit e).partner j = s.partner j := by delta State.emit; rfl
@[simp] theorem State.core_emit (s : State) (e : Emit) (j : Nat) : (s.emit e).core j = s.core j := by delta State.emit; rfl
@[simp] theorem State.sq_emit (s : State) (e : Emit) (j : Nat) : (s.emit e).sq j = s.sq j := by delta State.emit; rfl
@[simp] theorem State.cq_emit (s : State) (e : Emit) (j : Nat) : (s.emit e).cq j = s.cq j := by delta State.emit; rfl
@[simp] theorem State.src_emit (s : State) (e : Emit) (j : Nat) : (s.emit e).src j = s.src j := by delta State.emit; rfl
@[simp] theorem State.stack_emit (s : State) (e : Emit) (j : Nat) : (s.emit e).stack j = s.stack j := by delta State.emit; rfl
@[simp] theorem State.claimed_emit (s : State) (e : Emit) (j : Nat) : (s.emit e).claimed j = s.claimed j := by delta State.emit; rfl
@[simp] theorem State.dma_emit (s : State) (e : Emit) (j : Nat) : (s.emit e).dma j = s.dma j := by delta State.emit; rfl
@[simp] theorem State.latch_emit (s : State) (e : Emit) (j : Nat) : (s.emit e).latch j = s.latch j := by delta State.emit; rfl
@[simp] theorem State.dom_emit (s : State) (e : Emit) (j : Nat) : (s.emit e).dom j = s.dom j := by delta State.emit; rfl
@[simp] theorem State.scr_emit (s : State) (e : Emit) (j : Nat) : (s.emit e).scr j = s.scr j := by delta State.emit; rfl
@[simp] theorem State.reg_emit (s : State) (e : Emit) (r : Reg) : (s.emit e).reg r = s.reg r := by delta State.emit; rfl
@[simp] theorem State.emit_out (s : State) (e : Emit) : (s.emit e).out = e :: s.out := rfl

end Sys2Proof.Machine
end

