-- ==== Sys2Proof/Laws/Ops.lean ====
section
/-!
SUPPORT. Laws/Ops.lean: what the shared operations on events, fault bits and error records leave alone: they write the
register bank and the event sources, and nothing else.
-/

namespace Sys2Proof.Machine

@[simp] theorem State.clrBits_eq (s : State) (r : Reg) (m : W32) : s.clrBits r m = s.setReg r (s.reg r &&& ~~~m) := rfl

/-! ### edge -/

@[simp] theorem State.edge_pending (s : State) (i : Nat) : (s.edge i).pending = s.pending := by unfold State.edge; split <;> simp
@[simp] theorem State.edge_free (s : State) (i : Nat) : (s.edge i).free = s.free := by unfold State.edge; split <;> simp
@[simp] theorem State.edge_store (s : State) (i : Nat) : (s.edge i).store = s.store := by unfold State.edge; split <;> simp
@[simp] theorem State.edge_storeBad (s : State) (i : Nat) : (s.edge i).storeBad = s.storeBad := by unfold State.edge; split <;> simp
@[simp] theorem State.edge_clusters (s : State) (i : Nat) : (s.edge i).clusters = s.clusters := by unfold State.edge; split <;> simp
@[simp] theorem State.edge_recs (s : State) (i : Nat) : (s.edge i).recs = s.recs := by unfold State.edge; split <;> simp
@[simp] theorem State.edge_tasks (s : State) (i : Nat) : (s.edge i).tasks = s.tasks := by unfold State.edge; split <;> simp
@[simp] theorem State.edge_jobs (s : State) (i : Nat) : (s.edge i).jobs = s.jobs := by unfold State.edge; split <;> simp
@[simp] theorem State.edge_hostPins (s : State) (i : Nat) : (s.edge i).hostPins = s.hostPins := by unfold State.edge; split <;> simp
@[simp] theorem State.edge_mapClock (s : State) (i : Nat) : (s.edge i).mapClock = s.mapClock := by unfold State.edge; split <;> simp
@[simp] theorem State.edge_inSlots (s : State) (i : Nat) : (s.edge i).inSlots = s.inSlots := by unfold State.edge; split <;> simp
@[simp] theorem State.edge_outSlots (s : State) (i : Nat) : (s.edge i).outSlots = s.outSlots := by unfold State.edge; split <;> simp
@[simp] theorem State.edge_intSlots (s : State) (i : Nat) : (s.edge i).intSlots = s.intSlots := by unfold State.edge; split <;> simp
@[simp] theorem State.edge_alloc (s : State) (i : Nat) : (s.edge i).alloc = s.alloc := by unfold State.edge; split <;> simp
@[simp] theorem State.edge_calRec (s : State) (i : Nat) : (s.edge i).calRec = s.calRec := by unfold State.edge; split <;> simp
@[simp] theorem State.edge_cal (s : State) (i : Nat) : (s.edge i).cal = s.cal := by unfold State.edge; split <;> simp
@[simp] theorem State.edge_stoppedD (s : State) (i : Nat) : (s.edge i).stoppedD = s.stoppedD := by unfold State.edge; split <;> simp
@[simp] theorem State.edge_gens (s : State) (i : Nat) : (s.edge i).gens = s.gens := by unfold State.edge; split <;> simp
@[simp] theorem State.edge_genNum (s : State) (i : Nat) : (s.edge i).genNum = s.genNum := by unfold State.edge; split <;> simp
@[simp] theorem State.edge_baseline (s : State) (i : Nat) : (s.edge i).baseline = s.baseline := by unfold State.edge; split <;> simp
@[simp] theorem State.edge_baseDir (s : State) (i : Nat) : (s.edge i).baseDir = s.baseDir := by unfold State.edge; split <;> simp
@[simp] theorem State.edge_baseMem (s : State) (i : Nat) : (s.edge i).baseMem = s.baseMem := by unfold State.edge; split <;> simp
@[simp] theorem State.edge_genOrder (s : State) (i : Nat) : (s.edge i).genOrder = s.genOrder := by unfold State.edge; split <;> simp
@[simp] theorem State.edge_lineRec (s : State) (i : Nat) : (s.edge i).lineRec = s.lineRec := by unfold State.edge; split <;> simp
@[simp] theorem State.edge_partRec (s : State) (i : Nat) : (s.edge i).partRec = s.partRec := by unfold State.edge; split <;> simp
@[simp] theorem State.edge_lanes (s : State) (i : Nat) : (s.edge i).lanes = s.lanes := by unfold State.edge; split <;> simp
@[simp] theorem State.edge_partners (s : State) (i : Nat) : (s.edge i).partners = s.partners := by unfold State.edge; split <;> simp
@[simp] theorem State.edge_cores (s : State) (i : Nat) : (s.edge i).cores = s.cores := by unfold State.edge; split <;> simp
@[simp] theorem State.edge_ridge (s : State) (i : Nat) : (s.edge i).ridge = s.ridge := by unfold State.edge; split <;> simp
@[simp] theorem State.edge_sqs (s : State) (i : Nat) : (s.edge i).sqs = s.sqs := by unfold State.edge; split <;> simp
@[simp] theorem State.edge_cqs (s : State) (i : Nat) : (s.edge i).cqs = s.cqs := by unfold State.edge; split <;> simp
@[simp] theorem State.edge_engine (s : State) (i : Nat) : (s.edge i).engine = s.engine := by unfold State.edge; split <;> simp
@[simp] theorem State.edge_pcie (s : State) (i : Nat) : (s.edge i).pcie = s.pcie := by unfold State.edge; split <;> simp
@[simp] theorem State.edge_running (s : State) (i : Nat) : (s.edge i).running = s.running := by unfold State.edge; split <;> simp
@[simp] theorem State.edge_claims (s : State) (i : Nat) : (s.edge i).claims = s.claims := by unfold State.edge; split <;> simp
@[simp] theorem State.edge_dmas (s : State) (i : Nat) : (s.edge i).dmas = s.dmas := by unfold State.edge; split <;> simp
@[simp] theorem State.edge_dmaLast (s : State) (i : Nat) : (s.edge i).dmaLast = s.dmaLast := by unfold State.edge; split <;> simp
@[simp] theorem State.edge_latches (s : State) (i : Nat) : (s.edge i).latches = s.latches := by unfold State.edge; split <;> simp
@[simp] theorem State.edge_doms (s : State) (i : Nat) : (s.edge i).doms = s.doms := by unfold State.edge; split <;> simp
@[simp] theorem State.edge_clk (s : State) (i : Nat) : (s.edge i).clk = s.clk := by unfold State.edge; split <;> simp
@[simp] theorem State.edge_cald (s : State) (i : Nat) : (s.edge i).cald = s.cald := by unfold State.edge; split <;> simp
@[simp] theorem State.edge_misc (s : State) (i : Nat) : (s.edge i).misc = s.misc := by unfold State.edge; split <;> simp
@[simp] theorem State.edge_scrubs (s : State) (i : Nat) : (s.edge i).scrubs = s.scrubs := by unfold State.edge; split <;> simp
@[simp] theorem State.edge_heldBar (s : State) (i : Nat) : (s.edge i).heldBar = s.heldBar := by unfold State.edge; split <;> simp
@[simp] theorem State.edge_out (s : State) (i : Nat) : (s.edge i).out = s.out := by unfold State.edge; split <;> simp
@[simp] theorem State.cluster_edge (s : State) (i : Nat) (j : Nat) : (s.edge i).cluster j = s.cluster j := by simp [State.cluster]
@[simp] theorem State.recW_edge (s : State) (i : Nat) (j : Nat) : (s.edge i).recW j = s.recW j := by simp [State.recW]
@[simp] theorem State.task_edge (s : State) (i : Nat) (j : Nat) : (s.edge i).task j = s.task j := by simp [State.task]
@[simp] theorem State.inSlot_edge (s : State) (i : Nat) (j : Nat) : (s.edge i).inSlot j = s.inSlot j := by simp [State.inSlot]
@[simp] theorem State.outSlot_edge (s : State) (i : Nat) (j : Nat) : (s.edge i).outSlot j = s.outSlot j := by simp [State.outSlot]
@[simp] theorem State.intSlot_edge (s : State) (i : Nat) (j : Nat) : (s.edge i).intSlot j = s.intSlot j := by simp [State.intSlot]
@[simp] theorem State.cls_edge (s : State) (i : Nat) (j : Nat) : (s.edge i).cls j = s.cls j := by simp [State.cls]
@[simp] theorem State.calW_edge (s : State) (i : Nat) (j : Nat) : (s.edge i).calW j = s.calW j := by simp [State.calW]
@[simp] theorem State.calSlot_edge (s : State) (i : Nat) (j : Nat) : (s.edge i).calSlot j = s.calSlot j := by simp [State.calSlot]
@[simp] theorem State.gen_edge (s : State) (i : Nat) (j : Nat) : (s.edge i).gen j = s.gen j := by simp [State.gen]
@[simp] theorem State.lineW_edge (s : State) (i : Nat) (j : Nat) : (s.edge i).lineW j = s.lineW j := by simp [State.lineW]
@[simp] theorem State.partW_edge (s : State) (i : Nat) (j : Nat) : (s.edge i).partW j = s.partW j := by simp [State.partW]
@[simp] theorem State.lane_edge (s : State) (i : Nat) (j : Nat) : (s.edge i).lane j = s.lane j := by simp [State.lane]
@[simp] theorem State.partner_edge (s : State) (i : Nat) (j : Nat) : (s.edge i).partner j = s.partner j := by simp [State.partner]
@[simp] theorem State.core_edge (s : State) (i : Nat) (j : Nat) : (s.edge i).core j = s.core j := by simp [State.core]
@[simp] theorem State.sq_edge (s : State) (i : Nat) (j : Nat) : (s.edge i).sq j = s.sq j := by simp [State.sq]
@[simp] theorem State.cq_edge (s : State) (i : Nat) (j : Nat) : (s.edge i).cq j = s.cq j := by simp [State.cq]
@[simp] theorem State.stack_edge (s : State) (i : Nat) (j : Nat) : (s.edge i).stack j = s.stack j := by simp [State.stack]
@[simp] theorem State.claimed_edge (s : State) (i : Nat) (j : Nat) : (s.edge i).claimed j = s.claimed j := by simp [State.claimed]
@[simp] theorem State.dma_edge (s : State) (i : Nat) (j : Nat) : (s.edge i).dma j = s.dma j := by simp [State.dma]
@[simp] theorem State.latch_edge (s : State) (i : Nat) (j : Nat) : (s.edge i).latch j = s.latch j := by simp [State.latch]
@[simp] theorem State.dom_edge (s : State) (i : Nat) (j : Nat) : (s.edge i).dom j = s.dom j := by simp [State.dom]
@[simp] theorem State.scr_edge (s : State) (i : Nat) (j : Nat) : (s.edge i).scr j = s.scr j := by simp [State.scr]

/-! ### undeliverable -/

@[simp] theorem State.undeliverable_pending (s : State) (i : Nat) : (s.undeliverable i).pending = s.pending := by unfold State.undeliverable; dsimp only; split <;> simp
@[simp] theorem State.undeliverable_free (s : State) (i : Nat) : (s.undeliverable i).free = s.free := by unfold State.undeliverable; dsimp only; split <;> simp
@[simp] theorem State.undeliverable_store (s : State) (i : Nat) : (s.undeliverable i).store = s.store := by unfold State.undeliverable; dsimp only; split <;> simp
@[simp] theorem State.undeliverable_storeBad (s : State) (i : Nat) : (s.undeliverable i).storeBad = s.storeBad := by unfold State.undeliverable; dsimp only; split <;> simp
@[simp] theorem State.undeliverable_clusters (s : State) (i : Nat) : (s.undeliverable i).clusters = s.clusters := by unfold State.undeliverable; dsimp only; split <;> simp
@[simp] theorem State.undeliverable_recs (s : State) (i : Nat) : (s.undeliverable i).recs = s.recs := by unfold State.undeliverable; dsimp only; split <;> simp
@[simp] theorem State.undeliverable_tasks (s : State) (i : Nat) : (s.undeliverable i).tasks = s.tasks := by unfold State.undeliverable; dsimp only; split <;> simp
@[simp] theorem State.undeliverable_jobs (s : State) (i : Nat) : (s.undeliverable i).jobs = s.jobs := by unfold State.undeliverable; dsimp only; split <;> simp
@[simp] theorem State.undeliverable_hostPins (s : State) (i : Nat) : (s.undeliverable i).hostPins = s.hostPins := by unfold State.undeliverable; dsimp only; split <;> simp
@[simp] theorem State.undeliverable_mapClock (s : State) (i : Nat) : (s.undeliverable i).mapClock = s.mapClock := by unfold State.undeliverable; dsimp only; split <;> simp
@[simp] theorem State.undeliverable_inSlots (s : State) (i : Nat) : (s.undeliverable i).inSlots = s.inSlots := by unfold State.undeliverable; dsimp only; split <;> simp
@[simp] theorem State.undeliverable_outSlots (s : State) (i : Nat) : (s.undeliverable i).outSlots = s.outSlots := by unfold State.undeliverable; dsimp only; split <;> simp
@[simp] theorem State.undeliverable_intSlots (s : State) (i : Nat) : (s.undeliverable i).intSlots = s.intSlots := by unfold State.undeliverable; dsimp only; split <;> simp
@[simp] theorem State.undeliverable_alloc (s : State) (i : Nat) : (s.undeliverable i).alloc = s.alloc := by unfold State.undeliverable; dsimp only; split <;> simp
@[simp] theorem State.undeliverable_calRec (s : State) (i : Nat) : (s.undeliverable i).calRec = s.calRec := by unfold State.undeliverable; dsimp only; split <;> simp
@[simp] theorem State.undeliverable_cal (s : State) (i : Nat) : (s.undeliverable i).cal = s.cal := by unfold State.undeliverable; dsimp only; split <;> simp
@[simp] theorem State.undeliverable_stoppedD (s : State) (i : Nat) : (s.undeliverable i).stoppedD = s.stoppedD := by unfold State.undeliverable; dsimp only; split <;> simp
@[simp] theorem State.undeliverable_gens (s : State) (i : Nat) : (s.undeliverable i).gens = s.gens := by unfold State.undeliverable; dsimp only; split <;> simp
@[simp] theorem State.undeliverable_genNum (s : State) (i : Nat) : (s.undeliverable i).genNum = s.genNum := by unfold State.undeliverable; dsimp only; split <;> simp
@[simp] theorem State.undeliverable_baseline (s : State) (i : Nat) : (s.undeliverable i).baseline = s.baseline := by unfold State.undeliverable; dsimp only; split <;> simp
@[simp] theorem State.undeliverable_baseDir (s : State) (i : Nat) : (s.undeliverable i).baseDir = s.baseDir := by unfold State.undeliverable; dsimp only; split <;> simp
@[simp] theorem State.undeliverable_baseMem (s : State) (i : Nat) : (s.undeliverable i).baseMem = s.baseMem := by unfold State.undeliverable; dsimp only; split <;> simp
@[simp] theorem State.undeliverable_genOrder (s : State) (i : Nat) : (s.undeliverable i).genOrder = s.genOrder := by unfold State.undeliverable; dsimp only; split <;> simp
@[simp] theorem State.undeliverable_lineRec (s : State) (i : Nat) : (s.undeliverable i).lineRec = s.lineRec := by unfold State.undeliverable; dsimp only; split <;> simp
@[simp] theorem State.undeliverable_partRec (s : State) (i : Nat) : (s.undeliverable i).partRec = s.partRec := by unfold State.undeliverable; dsimp only; split <;> simp
@[simp] theorem State.undeliverable_lanes (s : State) (i : Nat) : (s.undeliverable i).lanes = s.lanes := by unfold State.undeliverable; dsimp only; split <;> simp
@[simp] theorem State.undeliverable_partners (s : State) (i : Nat) : (s.undeliverable i).partners = s.partners := by unfold State.undeliverable; dsimp only; split <;> simp
@[simp] theorem State.undeliverable_cores (s : State) (i : Nat) : (s.undeliverable i).cores = s.cores := by unfold State.undeliverable; dsimp only; split <;> simp
@[simp] theorem State.undeliverable_ridge (s : State) (i : Nat) : (s.undeliverable i).ridge = s.ridge := by unfold State.undeliverable; dsimp only; split <;> simp
@[simp] theorem State.undeliverable_sqs (s : State) (i : Nat) : (s.undeliverable i).sqs = s.sqs := by unfold State.undeliverable; dsimp only; split <;> simp
@[simp] theorem State.undeliverable_cqs (s : State) (i : Nat) : (s.undeliverable i).cqs = s.cqs := by unfold State.undeliverable; dsimp only; split <;> simp
@[simp] theorem State.undeliverable_engine (s : State) (i : Nat) : (s.undeliverable i).engine = s.engine := by unfold State.undeliverable; dsimp only; split <;> simp
@[simp] theorem State.undeliverable_pcie (s : State) (i : Nat) : (s.undeliverable i).pcie = s.pcie := by unfold State.undeliverable; dsimp only; split <;> simp
@[simp] theorem State.undeliverable_running (s : State) (i : Nat) : (s.undeliverable i).running = s.running := by unfold State.undeliverable; dsimp only; split <;> simp
@[simp] theorem State.undeliverable_claims (s : State) (i : Nat) : (s.undeliverable i).claims = s.claims := by unfold State.undeliverable; dsimp only; split <;> simp
@[simp] theorem State.undeliverable_dmas (s : State) (i : Nat) : (s.undeliverable i).dmas = s.dmas := by unfold State.undeliverable; dsimp only; split <;> simp
@[simp] theorem State.undeliverable_dmaLast (s : State) (i : Nat) : (s.undeliverable i).dmaLast = s.dmaLast := by unfold State.undeliverable; dsimp only; split <;> simp
@[simp] theorem State.undeliverable_latches (s : State) (i : Nat) : (s.undeliverable i).latches = s.latches := by unfold State.undeliverable; dsimp only; split <;> simp
@[simp] theorem State.undeliverable_doms (s : State) (i : Nat) : (s.undeliverable i).doms = s.doms := by unfold State.undeliverable; dsimp only; split <;> simp
@[simp] theorem State.undeliverable_clk (s : State) (i : Nat) : (s.undeliverable i).clk = s.clk := by unfold State.undeliverable; dsimp only; split <;> simp
@[simp] theorem State.undeliverable_cald (s : State) (i : Nat) : (s.undeliverable i).cald = s.cald := by unfold State.undeliverable; dsimp only; split <;> simp
@[simp] theorem State.undeliverable_misc (s : State) (i : Nat) : (s.undeliverable i).misc = s.misc := by unfold State.undeliverable; dsimp only; split <;> simp
@[simp] theorem State.undeliverable_scrubs (s : State) (i : Nat) : (s.undeliverable i).scrubs = s.scrubs := by unfold State.undeliverable; dsimp only; split <;> simp
@[simp] theorem State.undeliverable_heldBar (s : State) (i : Nat) : (s.undeliverable i).heldBar = s.heldBar := by unfold State.undeliverable; dsimp only; split <;> simp
@[simp] theorem State.undeliverable_out (s : State) (i : Nat) : (s.undeliverable i).out = s.out := by unfold State.undeliverable; dsimp only; split <;> simp
@[simp] theorem State.cluster_undeliverable (s : State) (i : Nat) (j : Nat) : (s.undeliverable i).cluster j = s.cluster j := by simp [State.cluster]
@[simp] theorem State.recW_undeliverable (s : State) (i : Nat) (j : Nat) : (s.undeliverable i).recW j = s.recW j := by simp [State.recW]
@[simp] theorem State.task_undeliverable (s : State) (i : Nat) (j : Nat) : (s.undeliverable i).task j = s.task j := by simp [State.task]
@[simp] theorem State.inSlot_undeliverable (s : State) (i : Nat) (j : Nat) : (s.undeliverable i).inSlot j = s.inSlot j := by simp [State.inSlot]
@[simp] theorem State.outSlot_undeliverable (s : State) (i : Nat) (j : Nat) : (s.undeliverable i).outSlot j = s.outSlot j := by simp [State.outSlot]
@[simp] theorem State.intSlot_undeliverable (s : State) (i : Nat) (j : Nat) : (s.undeliverable i).intSlot j = s.intSlot j := by simp [State.intSlot]
@[simp] theorem State.cls_undeliverable (s : State) (i : Nat) (j : Nat) : (s.undeliverable i).cls j = s.cls j := by simp [State.cls]
@[simp] theorem State.calW_undeliverable (s : State) (i : Nat) (j : Nat) : (s.undeliverable i).calW j = s.calW j := by simp [State.calW]
@[simp] theorem State.calSlot_undeliverable (s : State) (i : Nat) (j : Nat) : (s.undeliverable i).calSlot j = s.calSlot j := by simp [State.calSlot]
@[simp] theorem State.gen_undeliverable (s : State) (i : Nat) (j : Nat) : (s.undeliverable i).gen j = s.gen j := by simp [State.gen]
@[simp] theorem State.lineW_undeliverable (s : State) (i : Nat) (j : Nat) : (s.undeliverable i).lineW j = s.lineW j := by simp [State.lineW]
@[simp] theorem State.partW_undeliverable (s : State) (i : Nat) (j : Nat) : (s.undeliverable i).partW j = s.partW j := by simp [State.partW]
@[simp] theorem State.lane_undeliverable (s : State) (i : Nat) (j : Nat) : (s.undeliverable i).lane j = s.lane j := by simp [State.lane]
@[simp] theorem State.partner_undeliverable (s : State) (i : Nat) (j : Nat) : (s.undeliverable i).partner j = s.partner j := by simp [State.partner]
@[simp] theorem State.core_undeliverable (s : State) (i : Nat) (j : Nat) : (s.undeliverable i).core j = s.core j := by simp [State.core]
@[simp] theorem State.sq_undeliverable (s : State) (i : Nat) (j : Nat) : (s.undeliverable i).sq j = s.sq j := by simp [State.sq]
@[simp] theorem State.cq_undeliverable (s : State) (i : Nat) (j : Nat) : (s.undeliverable i).cq j = s.cq j := by simp [State.cq]
@[simp] theorem State.stack_undeliverable (s : State) (i : Nat) (j : Nat) : (s.undeliverable i).stack j = s.stack j := by simp [State.stack]
@[simp] theorem State.claimed_undeliverable (s : State) (i : Nat) (j : Nat) : (s.undeliverable i).claimed j = s.claimed j := by simp [State.claimed]
@[simp] theorem State.dma_undeliverable (s : State) (i : Nat) (j : Nat) : (s.undeliverable i).dma j = s.dma j := by simp [State.dma]
@[simp] theorem State.latch_undeliverable (s : State) (i : Nat) (j : Nat) : (s.undeliverable i).latch j = s.latch j := by simp [State.latch]
@[simp] theorem State.dom_undeliverable (s : State) (i : Nat) (j : Nat) : (s.undeliverable i).dom j = s.dom j := by simp [State.dom]
@[simp] theorem State.scr_undeliverable (s : State) (i : Nat) (j : Nat) : (s.undeliverable i).scr j = s.scr j := by simp [State.scr]

/-! ### raise -/

@[simp] theorem State.raise_pending (s : State) (i : Nat) : (s.raise i).pending = s.pending := by unfold State.raise; split <;> simp
@[simp] theorem State.raise_free (s : State) (i : Nat) : (s.raise i).free = s.free := by unfold State.raise; split <;> simp
@[simp] theorem State.raise_store (s : State) (i : Nat) : (s.raise i).store = s.store := by unfold State.raise; split <;> simp
@[simp] theorem State.raise_storeBad (s : State) (i : Nat) : (s.raise i).storeBad = s.storeBad := by unfold State.raise; split <;> simp
@[simp] theorem State.raise_clusters (s : State) (i : Nat) : (s.raise i).clusters = s.clusters := by unfold State.raise; split <;> simp
@[simp] theorem State.raise_recs (s : State) (i : Nat) : (s.raise i).recs = s.recs := by unfold State.raise; split <;> simp
@[simp] theorem State.raise_tasks (s : State) (i : Nat) : (s.raise i).tasks = s.tasks := by unfold State.raise; split <;> simp
@[simp] theorem State.raise_jobs (s : State) (i : Nat) : (s.raise i).jobs = s.jobs := by unfold State.raise; split <;> simp
@[simp] theorem State.raise_hostPins (s : State) (i : Nat) : (s.raise i).hostPins = s.hostPins := by unfold State.raise; split <;> simp
@[simp] theorem State.raise_mapClock (s : State) (i : Nat) : (s.raise i).mapClock = s.mapClock := by unfold State.raise; split <;> simp
@[simp] theorem State.raise_inSlots (s : State) (i : Nat) : (s.raise i).inSlots = s.inSlots := by unfold State.raise; split <;> simp
@[simp] theorem State.raise_outSlots (s : State) (i : Nat) : (s.raise i).outSlots = s.outSlots := by unfold State.raise; split <;> simp
@[simp] theorem State.raise_intSlots (s : State) (i : Nat) : (s.raise i).intSlots = s.intSlots := by unfold State.raise; split <;> simp
@[simp] theorem State.raise_alloc (s : State) (i : Nat) : (s.raise i).alloc = s.alloc := by unfold State.raise; split <;> simp
@[simp] theorem State.raise_calRec (s : State) (i : Nat) : (s.raise i).calRec = s.calRec := by unfold State.raise; split <;> simp
@[simp] theorem State.raise_cal (s : State) (i : Nat) : (s.raise i).cal = s.cal := by unfold State.raise; split <;> simp
@[simp] theorem State.raise_stoppedD (s : State) (i : Nat) : (s.raise i).stoppedD = s.stoppedD := by unfold State.raise; split <;> simp
@[simp] theorem State.raise_gens (s : State) (i : Nat) : (s.raise i).gens = s.gens := by unfold State.raise; split <;> simp
@[simp] theorem State.raise_genNum (s : State) (i : Nat) : (s.raise i).genNum = s.genNum := by unfold State.raise; split <;> simp
@[simp] theorem State.raise_baseline (s : State) (i : Nat) : (s.raise i).baseline = s.baseline := by unfold State.raise; split <;> simp
@[simp] theorem State.raise_baseDir (s : State) (i : Nat) : (s.raise i).baseDir = s.baseDir := by unfold State.raise; split <;> simp
@[simp] theorem State.raise_baseMem (s : State) (i : Nat) : (s.raise i).baseMem = s.baseMem := by unfold State.raise; split <;> simp
@[simp] theorem State.raise_genOrder (s : State) (i : Nat) : (s.raise i).genOrder = s.genOrder := by unfold State.raise; split <;> simp
@[simp] theorem State.raise_lineRec (s : State) (i : Nat) : (s.raise i).lineRec = s.lineRec := by unfold State.raise; split <;> simp
@[simp] theorem State.raise_partRec (s : State) (i : Nat) : (s.raise i).partRec = s.partRec := by unfold State.raise; split <;> simp
@[simp] theorem State.raise_lanes (s : State) (i : Nat) : (s.raise i).lanes = s.lanes := by unfold State.raise; split <;> simp
@[simp] theorem State.raise_partners (s : State) (i : Nat) : (s.raise i).partners = s.partners := by unfold State.raise; split <;> simp
@[simp] theorem State.raise_cores (s : State) (i : Nat) : (s.raise i).cores = s.cores := by unfold State.raise; split <;> simp
@[simp] theorem State.raise_ridge (s : State) (i : Nat) : (s.raise i).ridge = s.ridge := by unfold State.raise; split <;> simp
@[simp] theorem State.raise_sqs (s : State) (i : Nat) : (s.raise i).sqs = s.sqs := by unfold State.raise; split <;> simp
@[simp] theorem State.raise_cqs (s : State) (i : Nat) : (s.raise i).cqs = s.cqs := by unfold State.raise; split <;> simp
@[simp] theorem State.raise_engine (s : State) (i : Nat) : (s.raise i).engine = s.engine := by unfold State.raise; split <;> simp
@[simp] theorem State.raise_pcie (s : State) (i : Nat) : (s.raise i).pcie = s.pcie := by unfold State.raise; split <;> simp
@[simp] theorem State.raise_running (s : State) (i : Nat) : (s.raise i).running = s.running := by unfold State.raise; split <;> simp
@[simp] theorem State.raise_claims (s : State) (i : Nat) : (s.raise i).claims = s.claims := by unfold State.raise; split <;> simp
@[simp] theorem State.raise_dmas (s : State) (i : Nat) : (s.raise i).dmas = s.dmas := by unfold State.raise; split <;> simp
@[simp] theorem State.raise_dmaLast (s : State) (i : Nat) : (s.raise i).dmaLast = s.dmaLast := by unfold State.raise; split <;> simp
@[simp] theorem State.raise_latches (s : State) (i : Nat) : (s.raise i).latches = s.latches := by unfold State.raise; split <;> simp
@[simp] theorem State.raise_doms (s : State) (i : Nat) : (s.raise i).doms = s.doms := by unfold State.raise; split <;> simp
@[simp] theorem State.raise_clk (s : State) (i : Nat) : (s.raise i).clk = s.clk := by unfold State.raise; split <;> simp
@[simp] theorem State.raise_cald (s : State) (i : Nat) : (s.raise i).cald = s.cald := by unfold State.raise; split <;> simp
@[simp] theorem State.raise_misc (s : State) (i : Nat) : (s.raise i).misc = s.misc := by unfold State.raise; split <;> simp
@[simp] theorem State.raise_scrubs (s : State) (i : Nat) : (s.raise i).scrubs = s.scrubs := by unfold State.raise; split <;> simp
@[simp] theorem State.raise_heldBar (s : State) (i : Nat) : (s.raise i).heldBar = s.heldBar := by unfold State.raise; split <;> simp
@[simp] theorem State.raise_out (s : State) (i : Nat) : (s.raise i).out = s.out := by unfold State.raise; split <;> simp
@[simp] theorem State.cluster_raise (s : State) (i : Nat) (j : Nat) : (s.raise i).cluster j = s.cluster j := by simp [State.cluster]
@[simp] theorem State.recW_raise (s : State) (i : Nat) (j : Nat) : (s.raise i).recW j = s.recW j := by simp [State.recW]
@[simp] theorem State.task_raise (s : State) (i : Nat) (j : Nat) : (s.raise i).task j = s.task j := by simp [State.task]
@[simp] theorem State.inSlot_raise (s : State) (i : Nat) (j : Nat) : (s.raise i).inSlot j = s.inSlot j := by simp [State.inSlot]
@[simp] theorem State.outSlot_raise (s : State) (i : Nat) (j : Nat) : (s.raise i).outSlot j = s.outSlot j := by simp [State.outSlot]
@[simp] theorem State.intSlot_raise (s : State) (i : Nat) (j : Nat) : (s.raise i).intSlot j = s.intSlot j := by simp [State.intSlot]
@[simp] theorem State.cls_raise (s : State) (i : Nat) (j : Nat) : (s.raise i).cls j = s.cls j := by simp [State.cls]
@[simp] theorem State.calW_raise (s : State) (i : Nat) (j : Nat) : (s.raise i).calW j = s.calW j := by simp [State.calW]
@[simp] theorem State.calSlot_raise (s : State) (i : Nat) (j : Nat) : (s.raise i).calSlot j = s.calSlot j := by simp [State.calSlot]
@[simp] theorem State.gen_raise (s : State) (i : Nat) (j : Nat) : (s.raise i).gen j = s.gen j := by simp [State.gen]
@[simp] theorem State.lineW_raise (s : State) (i : Nat) (j : Nat) : (s.raise i).lineW j = s.lineW j := by simp [State.lineW]
@[simp] theorem State.partW_raise (s : State) (i : Nat) (j : Nat) : (s.raise i).partW j = s.partW j := by simp [State.partW]
@[simp] theorem State.lane_raise (s : State) (i : Nat) (j : Nat) : (s.raise i).lane j = s.lane j := by simp [State.lane]
@[simp] theorem State.partner_raise (s : State) (i : Nat) (j : Nat) : (s.raise i).partner j = s.partner j := by simp [State.partner]
@[simp] theorem State.core_raise (s : State) (i : Nat) (j : Nat) : (s.raise i).core j = s.core j := by simp [State.core]
@[simp] theorem State.sq_raise (s : State) (i : Nat) (j : Nat) : (s.raise i).sq j = s.sq j := by simp [State.sq]
@[simp] theorem State.cq_raise (s : State) (i : Nat) (j : Nat) : (s.raise i).cq j = s.cq j := by simp [State.cq]
@[simp] theorem State.stack_raise (s : State) (i : Nat) (j : Nat) : (s.raise i).stack j = s.stack j := by simp [State.stack]
@[simp] theorem State.claimed_raise (s : State) (i : Nat) (j : Nat) : (s.raise i).claimed j = s.claimed j := by simp [State.claimed]
@[simp] theorem State.dma_raise (s : State) (i : Nat) (j : Nat) : (s.raise i).dma j = s.dma j := by simp [State.dma]
@[simp] theorem State.latch_raise (s : State) (i : Nat) (j : Nat) : (s.raise i).latch j = s.latch j := by simp [State.latch]
@[simp] theorem State.dom_raise (s : State) (i : Nat) (j : Nat) : (s.raise i).dom j = s.dom j := by simp [State.dom]
@[simp] theorem State.scr_raise (s : State) (i : Nat) (j : Nat) : (s.raise i).scr j = s.scr j := by simp [State.scr]

/-! ### raiseIf -/

@[simp] theorem State.raiseIf_pending (s : State) (b : Bool) (i : Nat) : (s.raiseIf b i).pending = s.pending := by unfold State.raiseIf; split <;> simp
@[simp] theorem State.raiseIf_free (s : State) (b : Bool) (i : Nat) : (s.raiseIf b i).free = s.free := by unfold State.raiseIf; split <;> simp
@[simp] theorem State.raiseIf_store (s : State) (b : Bool) (i : Nat) : (s.raiseIf b i).store = s.store := by unfold State.raiseIf; split <;> simp
@[simp] theorem State.raiseIf_storeBad (s : State) (b : Bool) (i : Nat) : (s.raiseIf b i).storeBad = s.storeBad := by unfold State.raiseIf; split <;> simp
@[simp] theorem State.raiseIf_clusters (s : State) (b : Bool) (i : Nat) : (s.raiseIf b i).clusters = s.clusters := by unfold State.raiseIf; split <;> simp
@[simp] theorem State.raiseIf_recs (s : State) (b : Bool) (i : Nat) : (s.raiseIf b i).recs = s.recs := by unfold State.raiseIf; split <;> simp
@[simp] theorem State.raiseIf_tasks (s : State) (b : Bool) (i : Nat) : (s.raiseIf b i).tasks = s.tasks := by unfold State.raiseIf; split <;> simp
@[simp] theorem State.raiseIf_jobs (s : State) (b : Bool) (i : Nat) : (s.raiseIf b i).jobs = s.jobs := by unfold State.raiseIf; split <;> simp
@[simp] theorem State.raiseIf_hostPins (s : State) (b : Bool) (i : Nat) : (s.raiseIf b i).hostPins = s.hostPins := by unfold State.raiseIf; split <;> simp
@[simp] theorem State.raiseIf_mapClock (s : State) (b : Bool) (i : Nat) : (s.raiseIf b i).mapClock = s.mapClock := by unfold State.raiseIf; split <;> simp
@[simp] theorem State.raiseIf_inSlots (s : State) (b : Bool) (i : Nat) : (s.raiseIf b i).inSlots = s.inSlots := by unfold State.raiseIf; split <;> simp
@[simp] theorem State.raiseIf_outSlots (s : State) (b : Bool) (i : Nat) : (s.raiseIf b i).outSlots = s.outSlots := by unfold State.raiseIf; split <;> simp
@[simp] theorem State.raiseIf_intSlots (s : State) (b : Bool) (i : Nat) : (s.raiseIf b i).intSlots = s.intSlots := by unfold State.raiseIf; split <;> simp
@[simp] theorem State.raiseIf_alloc (s : State) (b : Bool) (i : Nat) : (s.raiseIf b i).alloc = s.alloc := by unfold State.raiseIf; split <;> simp
@[simp] theorem State.raiseIf_calRec (s : State) (b : Bool) (i : Nat) : (s.raiseIf b i).calRec = s.calRec := by unfold State.raiseIf; split <;> simp
@[simp] theorem State.raiseIf_cal (s : State) (b : Bool) (i : Nat) : (s.raiseIf b i).cal = s.cal := by unfold State.raiseIf; split <;> simp
@[simp] theorem State.raiseIf_stoppedD (s : State) (b : Bool) (i : Nat) : (s.raiseIf b i).stoppedD = s.stoppedD := by unfold State.raiseIf; split <;> simp
@[simp] theorem State.raiseIf_gens (s : State) (b : Bool) (i : Nat) : (s.raiseIf b i).gens = s.gens := by unfold State.raiseIf; split <;> simp
@[simp] theorem State.raiseIf_genNum (s : State) (b : Bool) (i : Nat) : (s.raiseIf b i).genNum = s.genNum := by unfold State.raiseIf; split <;> simp
@[simp] theorem State.raiseIf_baseline (s : State) (b : Bool) (i : Nat) : (s.raiseIf b i).baseline = s.baseline := by unfold State.raiseIf; split <;> simp
@[simp] theorem State.raiseIf_baseDir (s : State) (b : Bool) (i : Nat) : (s.raiseIf b i).baseDir = s.baseDir := by unfold State.raiseIf; split <;> simp
@[simp] theorem State.raiseIf_baseMem (s : State) (b : Bool) (i : Nat) : (s.raiseIf b i).baseMem = s.baseMem := by unfold State.raiseIf; split <;> simp
@[simp] theorem State.raiseIf_genOrder (s : State) (b : Bool) (i : Nat) : (s.raiseIf b i).genOrder = s.genOrder := by unfold State.raiseIf; split <;> simp
@[simp] theorem State.raiseIf_lineRec (s : State) (b : Bool) (i : Nat) : (s.raiseIf b i).lineRec = s.lineRec := by unfold State.raiseIf; split <;> simp
@[simp] theorem State.raiseIf_partRec (s : State) (b : Bool) (i : Nat) : (s.raiseIf b i).partRec = s.partRec := by unfold State.raiseIf; split <;> simp
@[simp] theorem State.raiseIf_lanes (s : State) (b : Bool) (i : Nat) : (s.raiseIf b i).lanes = s.lanes := by unfold State.raiseIf; split <;> simp
@[simp] theorem State.raiseIf_partners (s : State) (b : Bool) (i : Nat) : (s.raiseIf b i).partners = s.partners := by unfold State.raiseIf; split <;> simp
@[simp] theorem State.raiseIf_cores (s : State) (b : Bool) (i : Nat) : (s.raiseIf b i).cores = s.cores := by unfold State.raiseIf; split <;> simp
@[simp] theorem State.raiseIf_ridge (s : State) (b : Bool) (i : Nat) : (s.raiseIf b i).ridge = s.ridge := by unfold State.raiseIf; split <;> simp
@[simp] theorem State.raiseIf_sqs (s : State) (b : Bool) (i : Nat) : (s.raiseIf b i).sqs = s.sqs := by unfold State.raiseIf; split <;> simp
@[simp] theorem State.raiseIf_cqs (s : State) (b : Bool) (i : Nat) : (s.raiseIf b i).cqs = s.cqs := by unfold State.raiseIf; split <;> simp
@[simp] theorem State.raiseIf_engine (s : State) (b : Bool) (i : Nat) : (s.raiseIf b i).engine = s.engine := by unfold State.raiseIf; split <;> simp
@[simp] theorem State.raiseIf_pcie (s : State) (b : Bool) (i : Nat) : (s.raiseIf b i).pcie = s.pcie := by unfold State.raiseIf; split <;> simp
@[simp] theorem State.raiseIf_running (s : State) (b : Bool) (i : Nat) : (s.raiseIf b i).running = s.running := by unfold State.raiseIf; split <;> simp
@[simp] theorem State.raiseIf_claims (s : State) (b : Bool) (i : Nat) : (s.raiseIf b i).claims = s.claims := by unfold State.raiseIf; split <;> simp
@[simp] theorem State.raiseIf_dmas (s : State) (b : Bool) (i : Nat) : (s.raiseIf b i).dmas = s.dmas := by unfold State.raiseIf; split <;> simp
@[simp] theorem State.raiseIf_dmaLast (s : State) (b : Bool) (i : Nat) : (s.raiseIf b i).dmaLast = s.dmaLast := by unfold State.raiseIf; split <;> simp
@[simp] theorem State.raiseIf_latches (s : State) (b : Bool) (i : Nat) : (s.raiseIf b i).latches = s.latches := by unfold State.raiseIf; split <;> simp
@[simp] theorem State.raiseIf_doms (s : State) (b : Bool) (i : Nat) : (s.raiseIf b i).doms = s.doms := by unfold State.raiseIf; split <;> simp
@[simp] theorem State.raiseIf_clk (s : State) (b : Bool) (i : Nat) : (s.raiseIf b i).clk = s.clk := by unfold State.raiseIf; split <;> simp
@[simp] theorem State.raiseIf_cald (s : State) (b : Bool) (i : Nat) : (s.raiseIf b i).cald = s.cald := by unfold State.raiseIf; split <;> simp
@[simp] theorem State.raiseIf_misc (s : State) (b : Bool) (i : Nat) : (s.raiseIf b i).misc = s.misc := by unfold State.raiseIf; split <;> simp
@[simp] theorem State.raiseIf_scrubs (s : State) (b : Bool) (i : Nat) : (s.raiseIf b i).scrubs = s.scrubs := by unfold State.raiseIf; split <;> simp
@[simp] theorem State.raiseIf_heldBar (s : State) (b : Bool) (i : Nat) : (s.raiseIf b i).heldBar = s.heldBar := by unfold State.raiseIf; split <;> simp
@[simp] theorem State.raiseIf_out (s : State) (b : Bool) (i : Nat) : (s.raiseIf b i).out = s.out := by unfold State.raiseIf; split <;> simp
@[simp] theorem State.cluster_raiseIf (s : State) (b : Bool) (i : Nat) (j : Nat) : (s.raiseIf b i).cluster j = s.cluster j := by simp [State.cluster]
@[simp] theorem State.recW_raiseIf (s : State) (b : Bool) (i : Nat) (j : Nat) : (s.raiseIf b i).recW j = s.recW j := by simp [State.recW]
@[simp] theorem State.task_raiseIf (s : State) (b : Bool) (i : Nat) (j : Nat) : (s.raiseIf b i).task j = s.task j := by simp [State.task]
@[simp] theorem State.inSlot_raiseIf (s : State) (b : Bool) (i : Nat) (j : Nat) : (s.raiseIf b i).inSlot j = s.inSlot j := by simp [State.inSlot]
@[simp] theorem State.outSlot_raiseIf (s : State) (b : Bool) (i : Nat) (j : Nat) : (s.raiseIf b i).outSlot j = s.outSlot j := by simp [State.outSlot]
@[simp] theorem State.intSlot_raiseIf (s : State) (b : Bool) (i : Nat) (j : Nat) : (s.raiseIf b i).intSlot j = s.intSlot j := by simp [State.intSlot]
@[simp] theorem State.cls_raiseIf (s : State) (b : Bool) (i : Nat) (j : Nat) : (s.raiseIf b i).cls j = s.cls j := by simp [State.cls]
@[simp] theorem State.calW_raiseIf (s : State) (b : Bool) (i : Nat) (j : Nat) : (s.raiseIf b i).calW j = s.calW j := by simp [State.calW]
@[simp] theorem State.calSlot_raiseIf (s : State) (b : Bool) (i : Nat) (j : Nat) : (s.raiseIf b i).calSlot j = s.calSlot j := by simp [State.calSlot]
@[simp] theorem State.gen_raiseIf (s : State) (b : Bool) (i : Nat) (j : Nat) : (s.raiseIf b i).gen j = s.gen j := by simp [State.gen]
@[simp] theorem State.lineW_raiseIf (s : State) (b : Bool) (i : Nat) (j : Nat) : (s.raiseIf b i).lineW j = s.lineW j := by simp [State.lineW]
@[simp] theorem State.partW_raiseIf (s : State) (b : Bool) (i : Nat) (j : Nat) : (s.raiseIf b i).partW j = s.partW j := by simp [State.partW]
@[simp] theorem State.lane_raiseIf (s : State) (b : Bool) (i : Nat) (j : Nat) : (s.raiseIf b i).lane j = s.lane j := by simp [State.lane]
@[simp] theorem State.partner_raiseIf (s : State) (b : Bool) (i : Nat) (j : Nat) : (s.raiseIf b i).partner j = s.partner j := by simp [State.partner]
@[simp] theorem State.core_raiseIf (s : State) (b : Bool) (i : Nat) (j : Nat) : (s.raiseIf b i).core j = s.core j := by simp [State.core]
@[simp] theorem State.sq_raiseIf (s : State) (b : Bool) (i : Nat) (j : Nat) : (s.raiseIf b i).sq j = s.sq j := by simp [State.sq]
@[simp] theorem State.cq_raiseIf (s : State) (b : Bool) (i : Nat) (j : Nat) : (s.raiseIf b i).cq j = s.cq j := by simp [State.cq]
@[simp] theorem State.stack_raiseIf (s : State) (b : Bool) (i : Nat) (j : Nat) : (s.raiseIf b i).stack j = s.stack j := by simp [State.stack]
@[simp] theorem State.claimed_raiseIf (s : State) (b : Bool) (i : Nat) (j : Nat) : (s.raiseIf b i).claimed j = s.claimed j := by simp [State.claimed]
@[simp] theorem State.dma_raiseIf (s : State) (b : Bool) (i : Nat) (j : Nat) : (s.raiseIf b i).dma j = s.dma j := by simp [State.dma]
@[simp] theorem State.latch_raiseIf (s : State) (b : Bool) (i : Nat) (j : Nat) : (s.raiseIf b i).latch j = s.latch j := by simp [State.latch]
@[simp] theorem State.dom_raiseIf (s : State) (b : Bool) (i : Nat) (j : Nat) : (s.raiseIf b i).dom j = s.dom j := by simp [State.dom]
@[simp] theorem State.scr_raiseIf (s : State) (b : Bool) (i : Nat) (j : Nat) : (s.raiseIf b i).scr j = s.scr j := by simp [State.scr]

/-! ### setFault -/

@[simp] theorem State.setFault_pending (s : State) (n : Nat) : (s.setFault n).pending = s.pending := by simp [State.setFault, State.faultEdge]
@[simp] theorem State.setFault_free (s : State) (n : Nat) : (s.setFault n).free = s.free := by simp [State.setFault, State.faultEdge]
@[simp] theorem State.setFault_store (s : State) (n : Nat) : (s.setFault n).store = s.store := by simp [State.setFault, State.faultEdge]
@[simp] theorem State.setFault_storeBad (s : State) (n : Nat) : (s.setFault n).storeBad = s.storeBad := by simp [State.setFault, State.faultEdge]
@[simp] theorem State.setFault_clusters (s : State) (n : Nat) : (s.setFault n).clusters = s.clusters := by simp [State.setFault, State.faultEdge]
@[simp] theorem State.setFault_recs (s : State) (n : Nat) : (s.setFault n).recs = s.recs := by simp [State.setFault, State.faultEdge]
@[simp] theorem State.setFault_tasks (s : State) (n : Nat) : (s.setFault n).tasks = s.tasks := by simp [State.setFault, State.faultEdge]
@[simp] theorem State.setFault_jobs (s : State) (n : Nat) : (s.setFault n).jobs = s.jobs := by simp [State.setFault, State.faultEdge]
@[simp] theorem State.setFault_hostPins (s : State) (n : Nat) : (s.setFault n).hostPins = s.hostPins := by simp [State.setFault, State.faultEdge]
@[simp] theorem State.setFault_mapClock (s : State) (n : Nat) : (s.setFault n).mapClock = s.mapClock := by simp [State.setFault, State.faultEdge]
@[simp] theorem State.setFault_inSlots (s : State) (n : Nat) : (s.setFault n).inSlots = s.inSlots := by simp [State.setFault, State.faultEdge]
@[simp] theorem State.setFault_outSlots (s : State) (n : Nat) : (s.setFault n).outSlots = s.outSlots := by simp [State.setFault, State.faultEdge]
@[simp] theorem State.setFault_intSlots (s : State) (n : Nat) : (s.setFault n).intSlots = s.intSlots := by simp [State.setFault, State.faultEdge]
@[simp] theorem State.setFault_alloc (s : State) (n : Nat) : (s.setFault n).alloc = s.alloc := by simp [State.setFault, State.faultEdge]
@[simp] theorem State.setFault_calRec (s : State) (n : Nat) : (s.setFault n).calRec = s.calRec := by simp [State.setFault, State.faultEdge]
@[simp] theorem State.setFault_cal (s : State) (n : Nat) : (s.setFault n).cal = s.cal := by simp [State.setFault, State.faultEdge]
@[simp] theorem State.setFault_stoppedD (s : State) (n : Nat) : (s.setFault n).stoppedD = s.stoppedD := by simp [State.setFault, State.faultEdge]
@[simp] theorem State.setFault_gens (s : State) (n : Nat) : (s.setFault n).gens = s.gens := by simp [State.setFault, State.faultEdge]
@[simp] theorem State.setFault_genNum (s : State) (n : Nat) : (s.setFault n).genNum = s.genNum := by simp [State.setFault, State.faultEdge]
@[simp] theorem State.setFault_baseline (s : State) (n : Nat) : (s.setFault n).baseline = s.baseline := by simp [State.setFault, State.faultEdge]
@[simp] theorem State.setFault_baseDir (s : State) (n : Nat) : (s.setFault n).baseDir = s.baseDir := by simp [State.setFault, State.faultEdge]
@[simp] theorem State.setFault_baseMem (s : State) (n : Nat) : (s.setFault n).baseMem = s.baseMem := by simp [State.setFault, State.faultEdge]
@[simp] theorem State.setFault_genOrder (s : State) (n : Nat) : (s.setFault n).genOrder = s.genOrder := by simp [State.setFault, State.faultEdge]
@[simp] theorem State.setFault_lineRec (s : State) (n : Nat) : (s.setFault n).lineRec = s.lineRec := by simp [State.setFault, State.faultEdge]
@[simp] theorem State.setFault_partRec (s : State) (n : Nat) : (s.setFault n).partRec = s.partRec := by simp [State.setFault, State.faultEdge]
@[simp] theorem State.setFault_lanes (s : State) (n : Nat) : (s.setFault n).lanes = s.lanes := by simp [State.setFault, State.faultEdge]
@[simp] theorem State.setFault_partners (s : State) (n : Nat) : (s.setFault n).partners = s.partners := by simp [State.setFault, State.faultEdge]
@[simp] theorem State.setFault_cores (s : State) (n : Nat) : (s.setFault n).cores = s.cores := by simp [State.setFault, State.faultEdge]
@[simp] theorem State.setFault_ridge (s : State) (n : Nat) : (s.setFault n).ridge = s.ridge := by simp [State.setFault, State.faultEdge]
@[simp] theorem State.setFault_sqs (s : State) (n : Nat) : (s.setFault n).sqs = s.sqs := by simp [State.setFault, State.faultEdge]
@[simp] theorem State.setFault_cqs (s : State) (n : Nat) : (s.setFault n).cqs = s.cqs := by simp [State.setFault, State.faultEdge]
@[simp] theorem State.setFault_engine (s : State) (n : Nat) : (s.setFault n).engine = s.engine := by simp [State.setFault, State.faultEdge]
@[simp] theorem State.setFault_pcie (s : State) (n : Nat) : (s.setFault n).pcie = s.pcie := by simp [State.setFault, State.faultEdge]
@[simp] theorem State.setFault_running (s : State) (n : Nat) : (s.setFault n).running = s.running := by simp [State.setFault, State.faultEdge]
@[simp] theorem State.setFault_claims (s : State) (n : Nat) : (s.setFault n).claims = s.claims := by simp [State.setFault, State.faultEdge]
@[simp] theorem State.setFault_dmas (s : State) (n : Nat) : (s.setFault n).dmas = s.dmas := by simp [State.setFault, State.faultEdge]
@[simp] theorem State.setFault_dmaLast (s : State) (n : Nat) : (s.setFault n).dmaLast = s.dmaLast := by simp [State.setFault, State.faultEdge]
@[simp] theorem State.setFault_latches (s : State) (n : Nat) : (s.setFault n).latches = s.latches := by simp [State.setFault, State.faultEdge]
@[simp] theorem State.setFault_doms (s : State) (n : Nat) : (s.setFault n).doms = s.doms := by simp [State.setFault, State.faultEdge]
@[simp] theorem State.setFault_clk (s : State) (n : Nat) : (s.setFault n).clk = s.clk := by simp [State.setFault, State.faultEdge]
@[simp] theorem State.setFault_cald (s : State) (n : Nat) : (s.setFault n).cald = s.cald := by simp [State.setFault, State.faultEdge]
@[simp] theorem State.setFault_misc (s : State) (n : Nat) : (s.setFault n).misc = s.misc := by simp [State.setFault, State.faultEdge]
@[simp] theorem State.setFault_scrubs (s : State) (n : Nat) : (s.setFault n).scrubs = s.scrubs := by simp [State.setFault, State.faultEdge]
@[simp] theorem State.setFault_heldBar (s : State) (n : Nat) : (s.setFault n).heldBar = s.heldBar := by simp [State.setFault, State.faultEdge]
@[simp] theorem State.setFault_out (s : State) (n : Nat) : (s.setFault n).out = s.out := by simp [State.setFault, State.faultEdge]
@[simp] theorem State.cluster_setFault (s : State) (n : Nat) (j : Nat) : (s.setFault n).cluster j = s.cluster j := by simp [State.cluster]
@[simp] theorem State.recW_setFault (s : State) (n : Nat) (j : Nat) : (s.setFault n).recW j = s.recW j := by simp [State.recW]
@[simp] theorem State.task_setFault (s : State) (n : Nat) (j : Nat) : (s.setFault n).task j = s.task j := by simp [State.task]
@[simp] theorem State.inSlot_setFault (s : State) (n : Nat) (j : Nat) : (s.setFault n).inSlot j = s.inSlot j := by simp [State.inSlot]
@[simp] theorem State.outSlot_setFault (s : State) (n : Nat) (j : Nat) : (s.setFault n).outSlot j = s.outSlot j := by simp [State.outSlot]
@[simp] theorem State.intSlot_setFault (s : State) (n : Nat) (j : Nat) : (s.setFault n).intSlot j = s.intSlot j := by simp [State.intSlot]
@[simp] theorem State.cls_setFault (s : State) (n : Nat) (j : Nat) : (s.setFault n).cls j = s.cls j := by simp [State.cls]
@[simp] theorem State.calW_setFault (s : State) (n : Nat) (j : Nat) : (s.setFault n).calW j = s.calW j := by simp [State.calW]
@[simp] theorem State.calSlot_setFault (s : State) (n : Nat) (j : Nat) : (s.setFault n).calSlot j = s.calSlot j := by simp [State.calSlot]
@[simp] theorem State.gen_setFault (s : State) (n : Nat) (j : Nat) : (s.setFault n).gen j = s.gen j := by simp [State.gen]
@[simp] theorem State.lineW_setFault (s : State) (n : Nat) (j : Nat) : (s.setFault n).lineW j = s.lineW j := by simp [State.lineW]
@[simp] theorem State.partW_setFault (s : State) (n : Nat) (j : Nat) : (s.setFault n).partW j = s.partW j := by simp [State.partW]
@[simp] theorem State.lane_setFault (s : State) (n : Nat) (j : Nat) : (s.setFault n).lane j = s.lane j := by simp [State.lane]
@[simp] theorem State.partner_setFault (s : State) (n : Nat) (j : Nat) : (s.setFault n).partner j = s.partner j := by simp [State.partner]
@[simp] theorem State.core_setFault (s : State) (n : Nat) (j : Nat) : (s.setFault n).core j = s.core j := by simp [State.core]
@[simp] theorem State.sq_setFault (s : State) (n : Nat) (j : Nat) : (s.setFault n).sq j = s.sq j := by simp [State.sq]
@[simp] theorem State.cq_setFault (s : State) (n : Nat) (j : Nat) : (s.setFault n).cq j = s.cq j := by simp [State.cq]
@[simp] theorem State.stack_setFault (s : State) (n : Nat) (j : Nat) : (s.setFault n).stack j = s.stack j := by simp [State.stack]
@[simp] theorem State.claimed_setFault (s : State) (n : Nat) (j : Nat) : (s.setFault n).claimed j = s.claimed j := by simp [State.claimed]
@[simp] theorem State.dma_setFault (s : State) (n : Nat) (j : Nat) : (s.setFault n).dma j = s.dma j := by simp [State.dma]
@[simp] theorem State.latch_setFault (s : State) (n : Nat) (j : Nat) : (s.setFault n).latch j = s.latch j := by simp [State.latch]
@[simp] theorem State.dom_setFault (s : State) (n : Nat) (j : Nat) : (s.setFault n).dom j = s.dom j := by simp [State.dom]
@[simp] theorem State.scr_setFault (s : State) (n : Nat) (j : Nat) : (s.setFault n).scr j = s.scr j := by simp [State.scr]

/-! ### uncorrectable -/

@[simp] theorem State.uncorrectable_pending (s : State)  : (s.uncorrectable).pending = s.pending := by simp [State.uncorrectable]
@[simp] theorem State.uncorrectable_free (s : State)  : (s.uncorrectable).free = s.free := by simp [State.uncorrectable]
@[simp] theorem State.uncorrectable_store (s : State)  : (s.uncorrectable).store = s.store := by simp [State.uncorrectable]
@[simp] theorem State.uncorrectable_storeBad (s : State)  : (s.uncorrectable).storeBad = s.storeBad := by simp [State.uncorrectable]
@[simp] theorem State.uncorrectable_clusters (s : State)  : (s.uncorrectable).clusters = s.clusters := by simp [State.uncorrectable]
@[simp] theorem State.uncorrectable_recs (s : State)  : (s.uncorrectable).recs = s.recs := by simp [State.uncorrectable]
@[simp] theorem State.uncorrectable_tasks (s : State)  : (s.uncorrectable).tasks = s.tasks := by simp [State.uncorrectable]
@[simp] theorem State.uncorrectable_jobs (s : State)  : (s.uncorrectable).jobs = s.jobs := by simp [State.uncorrectable]
@[simp] theorem State.uncorrectable_hostPins (s : State)  : (s.uncorrectable).hostPins = s.hostPins := by simp [State.uncorrectable]
@[simp] theorem State.uncorrectable_mapClock (s : State)  : (s.uncorrectable).mapClock = s.mapClock := by simp [State.uncorrectable]
@[simp] theorem State.uncorrectable_inSlots (s : State)  : (s.uncorrectable).inSlots = s.inSlots := by simp [State.uncorrectable]
@[simp] theorem State.uncorrectable_outSlots (s : State)  : (s.uncorrectable).outSlots = s.outSlots := by simp [State.uncorrectable]
@[simp] theorem State.uncorrectable_intSlots (s : State)  : (s.uncorrectable).intSlots = s.intSlots := by simp [State.uncorrectable]
@[simp] theorem State.uncorrectable_alloc (s : State)  : (s.uncorrectable).alloc = s.alloc := by simp [State.uncorrectable]
@[simp] theorem State.uncorrectable_calRec (s : State)  : (s.uncorrectable).calRec = s.calRec := by simp [State.uncorrectable]
@[simp] theorem State.uncorrectable_cal (s : State)  : (s.uncorrectable).cal = s.cal := by simp [State.uncorrectable]
@[simp] theorem State.uncorrectable_stoppedD (s : State)  : (s.uncorrectable).stoppedD = s.stoppedD := by simp [State.uncorrectable]
@[simp] theorem State.uncorrectable_gens (s : State)  : (s.uncorrectable).gens = s.gens := by simp [State.uncorrectable]
@[simp] theorem State.uncorrectable_genNum (s : State)  : (s.uncorrectable).genNum = s.genNum := by simp [State.uncorrectable]
@[simp] theorem State.uncorrectable_baseline (s : State)  : (s.uncorrectable).baseline = s.baseline := by simp [State.uncorrectable]
@[simp] theorem State.uncorrectable_baseDir (s : State)  : (s.uncorrectable).baseDir = s.baseDir := by simp [State.uncorrectable]
@[simp] theorem State.uncorrectable_baseMem (s : State)  : (s.uncorrectable).baseMem = s.baseMem := by simp [State.uncorrectable]
@[simp] theorem State.uncorrectable_genOrder (s : State)  : (s.uncorrectable).genOrder = s.genOrder := by simp [State.uncorrectable]
@[simp] theorem State.uncorrectable_lineRec (s : State)  : (s.uncorrectable).lineRec = s.lineRec := by simp [State.uncorrectable]
@[simp] theorem State.uncorrectable_partRec (s : State)  : (s.uncorrectable).partRec = s.partRec := by simp [State.uncorrectable]
@[simp] theorem State.uncorrectable_lanes (s : State)  : (s.uncorrectable).lanes = s.lanes := by simp [State.uncorrectable]
@[simp] theorem State.uncorrectable_partners (s : State)  : (s.uncorrectable).partners = s.partners := by simp [State.uncorrectable]
@[simp] theorem State.uncorrectable_cores (s : State)  : (s.uncorrectable).cores = s.cores := by simp [State.uncorrectable]
@[simp] theorem State.uncorrectable_ridge (s : State)  : (s.uncorrectable).ridge = s.ridge := by simp [State.uncorrectable]
@[simp] theorem State.uncorrectable_sqs (s : State)  : (s.uncorrectable).sqs = s.sqs := by simp [State.uncorrectable]
@[simp] theorem State.uncorrectable_cqs (s : State)  : (s.uncorrectable).cqs = s.cqs := by simp [State.uncorrectable]
@[simp] theorem State.uncorrectable_engine (s : State)  : (s.uncorrectable).engine = s.engine := by simp [State.uncorrectable]
@[simp] theorem State.uncorrectable_pcie (s : State)  : (s.uncorrectable).pcie = s.pcie := by simp [State.uncorrectable]
@[simp] theorem State.uncorrectable_running (s : State)  : (s.uncorrectable).running = s.running := by simp [State.uncorrectable]
@[simp] theorem State.uncorrectable_claims (s : State)  : (s.uncorrectable).claims = s.claims := by simp [State.uncorrectable]
@[simp] theorem State.uncorrectable_dmas (s : State)  : (s.uncorrectable).dmas = s.dmas := by simp [State.uncorrectable]
@[simp] theorem State.uncorrectable_dmaLast (s : State)  : (s.uncorrectable).dmaLast = s.dmaLast := by simp [State.uncorrectable]
@[simp] theorem State.uncorrectable_latches (s : State)  : (s.uncorrectable).latches = s.latches := by simp [State.uncorrectable]
@[simp] theorem State.uncorrectable_doms (s : State)  : (s.uncorrectable).doms = s.doms := by simp [State.uncorrectable]
@[simp] theorem State.uncorrectable_clk (s : State)  : (s.uncorrectable).clk = s.clk := by simp [State.uncorrectable]
@[simp] theorem State.uncorrectable_cald (s : State)  : (s.uncorrectable).cald = s.cald := by simp [State.uncorrectable]
@[simp] theorem State.uncorrectable_misc (s : State)  : (s.uncorrectable).misc = s.misc := by simp [State.uncorrectable]
@[simp] theorem State.uncorrectable_scrubs (s : State)  : (s.uncorrectable).scrubs = s.scrubs := by simp [State.uncorrectable]
@[simp] theorem State.uncorrectable_heldBar (s : State)  : (s.uncorrectable).heldBar = s.heldBar := by simp [State.uncorrectable]
@[simp] theorem State.uncorrectable_out (s : State)  : (s.uncorrectable).out = s.out := by simp [State.uncorrectable]
@[simp] theorem State.cluster_uncorrectable (s : State)  (j : Nat) : (s.uncorrectable).cluster j = s.cluster j := by simp [State.cluster]
@[simp] theorem State.recW_uncorrectable (s : State)  (j : Nat) : (s.uncorrectable).recW j = s.recW j := by simp [State.recW]
@[simp] theorem State.task_uncorrectable (s : State)  (j : Nat) : (s.uncorrectable).task j = s.task j := by simp [State.task]
@[simp] theorem State.inSlot_uncorrectable (s : State)  (j : Nat) : (s.uncorrectable).inSlot j = s.inSlot j := by simp [State.inSlot]
@[simp] theorem State.outSlot_uncorrectable (s : State)  (j : Nat) : (s.uncorrectable).outSlot j = s.outSlot j := by simp [State.outSlot]
@[simp] theorem State.intSlot_uncorrectable (s : State)  (j : Nat) : (s.uncorrectable).intSlot j = s.intSlot j := by simp [State.intSlot]
@[simp] theorem State.cls_uncorrectable (s : State)  (j : Nat) : (s.uncorrectable).cls j = s.cls j := by simp [State.cls]
@[simp] theorem State.calW_uncorrectable (s : State)  (j : Nat) : (s.uncorrectable).calW j = s.calW j := by simp [State.calW]
@[simp] theorem State.calSlot_uncorrectable (s : State)  (j : Nat) : (s.uncorrectable).calSlot j = s.calSlot j := by simp [State.calSlot]
@[simp] theorem State.gen_uncorrectable (s : State)  (j : Nat) : (s.uncorrectable).gen j = s.gen j := by simp [State.gen]
@[simp] theorem State.lineW_uncorrectable (s : State)  (j : Nat) : (s.uncorrectable).lineW j = s.lineW j := by simp [State.lineW]
@[simp] theorem State.partW_uncorrectable (s : State)  (j : Nat) : (s.uncorrectable).partW j = s.partW j := by simp [State.partW]
@[simp] theorem State.lane_uncorrectable (s : State)  (j : Nat) : (s.uncorrectable).lane j = s.lane j := by simp [State.lane]
@[simp] theorem State.partner_uncorrectable (s : State)  (j : Nat) : (s.uncorrectable).partner j = s.partner j := by simp [State.partner]
@[simp] theorem State.core_uncorrectable (s : State)  (j : Nat) : (s.uncorrectable).core j = s.core j := by simp [State.core]
@[simp] theorem State.sq_uncorrectable (s : State)  (j : Nat) : (s.uncorrectable).sq j = s.sq j := by simp [State.sq]
@[simp] theorem State.cq_uncorrectable (s : State)  (j : Nat) : (s.uncorrectable).cq j = s.cq j := by simp [State.cq]
@[simp] theorem State.stack_uncorrectable (s : State)  (j : Nat) : (s.uncorrectable).stack j = s.stack j := by simp [State.stack]
@[simp] theorem State.claimed_uncorrectable (s : State)  (j : Nat) : (s.uncorrectable).claimed j = s.claimed j := by simp [State.claimed]
@[simp] theorem State.dma_uncorrectable (s : State)  (j : Nat) : (s.uncorrectable).dma j = s.dma j := by simp [State.dma]
@[simp] theorem State.latch_uncorrectable (s : State)  (j : Nat) : (s.uncorrectable).latch j = s.latch j := by simp [State.latch]
@[simp] theorem State.dom_uncorrectable (s : State)  (j : Nat) : (s.uncorrectable).dom j = s.dom j := by simp [State.dom]
@[simp] theorem State.scr_uncorrectable (s : State)  (j : Nat) : (s.uncorrectable).scr j = s.scr j := by simp [State.scr]

/-! ### corrected -/

@[simp] theorem State.corrected_pending (s : State) (k : Nat) : (s.corrected k).pending = s.pending := by simp [State.corrected]
@[simp] theorem State.corrected_free (s : State) (k : Nat) : (s.corrected k).free = s.free := by simp [State.corrected]
@[simp] theorem State.corrected_store (s : State) (k : Nat) : (s.corrected k).store = s.store := by simp [State.corrected]
@[simp] theorem State.corrected_storeBad (s : State) (k : Nat) : (s.corrected k).storeBad = s.storeBad := by simp [State.corrected]
@[simp] theorem State.corrected_clusters (s : State) (k : Nat) : (s.corrected k).clusters = s.clusters := by simp [State.corrected]
@[simp] theorem State.corrected_recs (s : State) (k : Nat) : (s.corrected k).recs = s.recs := by simp [State.corrected]
@[simp] theorem State.corrected_tasks (s : State) (k : Nat) : (s.corrected k).tasks = s.tasks := by simp [State.corrected]
@[simp] theorem State.corrected_jobs (s : State) (k : Nat) : (s.corrected k).jobs = s.jobs := by simp [State.corrected]
@[simp] theorem State.corrected_hostPins (s : State) (k : Nat) : (s.corrected k).hostPins = s.hostPins := by simp [State.corrected]
@[simp] theorem State.corrected_mapClock (s : State) (k : Nat) : (s.corrected k).mapClock = s.mapClock := by simp [State.corrected]
@[simp] theorem State.corrected_inSlots (s : State) (k : Nat) : (s.corrected k).inSlots = s.inSlots := by simp [State.corrected]
@[simp] theorem State.corrected_outSlots (s : State) (k : Nat) : (s.corrected k).outSlots = s.outSlots := by simp [State.corrected]
@[simp] theorem State.corrected_intSlots (s : State) (k : Nat) : (s.corrected k).intSlots = s.intSlots := by simp [State.corrected]
@[simp] theorem State.corrected_alloc (s : State) (k : Nat) : (s.corrected k).alloc = s.alloc := by simp [State.corrected]
@[simp] theorem State.corrected_calRec (s : State) (k : Nat) : (s.corrected k).calRec = s.calRec := by simp [State.corrected]
@[simp] theorem State.corrected_cal (s : State) (k : Nat) : (s.corrected k).cal = s.cal := by simp [State.corrected]
@[simp] theorem State.corrected_stoppedD (s : State) (k : Nat) : (s.corrected k).stoppedD = s.stoppedD := by simp [State.corrected]
@[simp] theorem State.corrected_gens (s : State) (k : Nat) : (s.corrected k).gens = s.gens := by simp [State.corrected]
@[simp] theorem State.corrected_genNum (s : State) (k : Nat) : (s.corrected k).genNum = s.genNum := by simp [State.corrected]
@[simp] theorem State.corrected_baseline (s : State) (k : Nat) : (s.corrected k).baseline = s.baseline := by simp [State.corrected]
@[simp] theorem State.corrected_baseDir (s : State) (k : Nat) : (s.corrected k).baseDir = s.baseDir := by simp [State.corrected]
@[simp] theorem State.corrected_baseMem (s : State) (k : Nat) : (s.corrected k).baseMem = s.baseMem := by simp [State.corrected]
@[simp] theorem State.corrected_genOrder (s : State) (k : Nat) : (s.corrected k).genOrder = s.genOrder := by simp [State.corrected]
@[simp] theorem State.corrected_lineRec (s : State) (k : Nat) : (s.corrected k).lineRec = s.lineRec := by simp [State.corrected]
@[simp] theorem State.corrected_partRec (s : State) (k : Nat) : (s.corrected k).partRec = s.partRec := by simp [State.corrected]
@[simp] theorem State.corrected_lanes (s : State) (k : Nat) : (s.corrected k).lanes = s.lanes := by simp [State.corrected]
@[simp] theorem State.corrected_partners (s : State) (k : Nat) : (s.corrected k).partners = s.partners := by simp [State.corrected]
@[simp] theorem State.corrected_cores (s : State) (k : Nat) : (s.corrected k).cores = s.cores := by simp [State.corrected]
@[simp] theorem State.corrected_ridge (s : State) (k : Nat) : (s.corrected k).ridge = s.ridge := by simp [State.corrected]
@[simp] theorem State.corrected_sqs (s : State) (k : Nat) : (s.corrected k).sqs = s.sqs := by simp [State.corrected]
@[simp] theorem State.corrected_cqs (s : State) (k : Nat) : (s.corrected k).cqs = s.cqs := by simp [State.corrected]
@[simp] theorem State.corrected_engine (s : State) (k : Nat) : (s.corrected k).engine = s.engine := by simp [State.corrected]
@[simp] theorem State.corrected_pcie (s : State) (k : Nat) : (s.corrected k).pcie = s.pcie := by simp [State.corrected]
@[simp] theorem State.corrected_running (s : State) (k : Nat) : (s.corrected k).running = s.running := by simp [State.corrected]
@[simp] theorem State.corrected_claims (s : State) (k : Nat) : (s.corrected k).claims = s.claims := by simp [State.corrected]
@[simp] theorem State.corrected_dmas (s : State) (k : Nat) : (s.corrected k).dmas = s.dmas := by simp [State.corrected]
@[simp] theorem State.corrected_dmaLast (s : State) (k : Nat) : (s.corrected k).dmaLast = s.dmaLast := by simp [State.corrected]
@[simp] theorem State.corrected_latches (s : State) (k : Nat) : (s.corrected k).latches = s.latches := by simp [State.corrected]
@[simp] theorem State.corrected_doms (s : State) (k : Nat) : (s.corrected k).doms = s.doms := by simp [State.corrected]
@[simp] theorem State.corrected_clk (s : State) (k : Nat) : (s.corrected k).clk = s.clk := by simp [State.corrected]
@[simp] theorem State.corrected_cald (s : State) (k : Nat) : (s.corrected k).cald = s.cald := by simp [State.corrected]
@[simp] theorem State.corrected_misc (s : State) (k : Nat) : (s.corrected k).misc = s.misc := by simp [State.corrected]
@[simp] theorem State.corrected_scrubs (s : State) (k : Nat) : (s.corrected k).scrubs = s.scrubs := by simp [State.corrected]
@[simp] theorem State.corrected_heldBar (s : State) (k : Nat) : (s.corrected k).heldBar = s.heldBar := by simp [State.corrected]
@[simp] theorem State.corrected_out (s : State) (k : Nat) : (s.corrected k).out = s.out := by simp [State.corrected]
@[simp] theorem State.cluster_corrected (s : State) (k : Nat) (j : Nat) : (s.corrected k).cluster j = s.cluster j := by simp [State.cluster]
@[simp] theorem State.recW_corrected (s : State) (k : Nat) (j : Nat) : (s.corrected k).recW j = s.recW j := by simp [State.recW]
@[simp] theorem State.task_corrected (s : State) (k : Nat) (j : Nat) : (s.corrected k).task j = s.task j := by simp [State.task]
@[simp] theorem State.inSlot_corrected (s : State) (k : Nat) (j : Nat) : (s.corrected k).inSlot j = s.inSlot j := by simp [State.inSlot]
@[simp] theorem State.outSlot_corrected (s : State) (k : Nat) (j : Nat) : (s.corrected k).outSlot j = s.outSlot j := by simp [State.outSlot]
@[simp] theorem State.intSlot_corrected (s : State) (k : Nat) (j : Nat) : (s.corrected k).intSlot j = s.intSlot j := by simp [State.intSlot]
@[simp] theorem State.cls_corrected (s : State) (k : Nat) (j : Nat) : (s.corrected k).cls j = s.cls j := by simp [State.cls]
@[simp] theorem State.calW_corrected (s : State) (k : Nat) (j : Nat) : (s.corrected k).calW j = s.calW j := by simp [State.calW]
@[simp] theorem State.calSlot_corrected (s : State) (k : Nat) (j : Nat) : (s.corrected k).calSlot j = s.calSlot j := by simp [State.calSlot]
@[simp] theorem State.gen_corrected (s : State) (k : Nat) (j : Nat) : (s.corrected k).gen j = s.gen j := by simp [State.gen]
@[simp] theorem State.lineW_corrected (s : State) (k : Nat) (j : Nat) : (s.corrected k).lineW j = s.lineW j := by simp [State.lineW]
@[simp] theorem State.partW_corrected (s : State) (k : Nat) (j : Nat) : (s.corrected k).partW j = s.partW j := by simp [State.partW]
@[simp] theorem State.lane_corrected (s : State) (k : Nat) (j : Nat) : (s.corrected k).lane j = s.lane j := by simp [State.lane]
@[simp] theorem State.partner_corrected (s : State) (k : Nat) (j : Nat) : (s.corrected k).partner j = s.partner j := by simp [State.partner]
@[simp] theorem State.core_corrected (s : State) (k : Nat) (j : Nat) : (s.corrected k).core j = s.core j := by simp [State.core]
@[simp] theorem State.sq_corrected (s : State) (k : Nat) (j : Nat) : (s.corrected k).sq j = s.sq j := by simp [State.sq]
@[simp] theorem State.cq_corrected (s : State) (k : Nat) (j : Nat) : (s.corrected k).cq j = s.cq j := by simp [State.cq]
@[simp] theorem State.stack_corrected (s : State) (k : Nat) (j : Nat) : (s.corrected k).stack j = s.stack j := by simp [State.stack]
@[simp] theorem State.claimed_corrected (s : State) (k : Nat) (j : Nat) : (s.corrected k).claimed j = s.claimed j := by simp [State.claimed]
@[simp] theorem State.dma_corrected (s : State) (k : Nat) (j : Nat) : (s.corrected k).dma j = s.dma j := by simp [State.dma]
@[simp] theorem State.latch_corrected (s : State) (k : Nat) (j : Nat) : (s.corrected k).latch j = s.latch j := by simp [State.latch]
@[simp] theorem State.dom_corrected (s : State) (k : Nat) (j : Nat) : (s.corrected k).dom j = s.dom j := by simp [State.dom]
@[simp] theorem State.scr_corrected (s : State) (k : Nat) (j : Nat) : (s.corrected k).scr j = s.scr j := by simp [State.scr]

/-! ### decodeError -/

@[simp] theorem State.decodeError_pending (s : State) (a m : Nat) (wr : Bool) : (s.decodeError a m wr).pending = s.pending := by simp [State.decodeError]
@[simp] theorem State.decodeError_free (s : State) (a m : Nat) (wr : Bool) : (s.decodeError a m wr).free = s.free := by simp [State.decodeError]
@[simp] theorem State.decodeError_store (s : State) (a m : Nat) (wr : Bool) : (s.decodeError a m wr).store = s.store := by simp [State.decodeError]
@[simp] theorem State.decodeError_storeBad (s : State) (a m : Nat) (wr : Bool) : (s.decodeError a m wr).storeBad = s.storeBad := by simp [State.decodeError]
@[simp] theorem State.decodeError_clusters (s : State) (a m : Nat) (wr : Bool) : (s.decodeError a m wr).clusters = s.clusters := by simp [State.decodeError]
@[simp] theorem State.decodeError_recs (s : State) (a m : Nat) (wr : Bool) : (s.decodeError a m wr).recs = s.recs := by simp [State.decodeError]
@[simp] theorem State.decodeError_tasks (s : State) (a m : Nat) (wr : Bool) : (s.decodeError a m wr).tasks = s.tasks := by simp [State.decodeError]
@[simp] theorem State.decodeError_jobs (s : State) (a m : Nat) (wr : Bool) : (s.decodeError a m wr).jobs = s.jobs := by simp [State.decodeError]
@[simp] theorem State.decodeError_hostPins (s : State) (a m : Nat) (wr : Bool) : (s.decodeError a m wr).hostPins = s.hostPins := by simp [State.decodeError]
@[simp] theorem State.decodeError_mapClock (s : State) (a m : Nat) (wr : Bool) : (s.decodeError a m wr).mapClock = s.mapClock := by simp [State.decodeError]
@[simp] theorem State.decodeError_inSlots (s : State) (a m : Nat) (wr : Bool) : (s.decodeError a m wr).inSlots = s.inSlots := by simp [State.decodeError]
@[simp] theorem State.decodeError_outSlots (s : State) (a m : Nat) (wr : Bool) : (s.decodeError a m wr).outSlots = s.outSlots := by simp [State.decodeError]
@[simp] theorem State.decodeError_intSlots (s : State) (a m : Nat) (wr : Bool) : (s.decodeError a m wr).intSlots = s.intSlots := by simp [State.decodeError]
@[simp] theorem State.decodeError_alloc (s : State) (a m : Nat) (wr : Bool) : (s.decodeError a m wr).alloc = s.alloc := by simp [State.decodeError]
@[simp] theorem State.decodeError_calRec (s : State) (a m : Nat) (wr : Bool) : (s.decodeError a m wr).calRec = s.calRec := by simp [State.decodeError]
@[simp] theorem State.decodeError_cal (s : State) (a m : Nat) (wr : Bool) : (s.decodeError a m wr).cal = s.cal := by simp [State.decodeError]
@[simp] theorem State.decodeError_stoppedD (s : State) (a m : Nat) (wr : Bool) : (s.decodeError a m wr).stoppedD = s.stoppedD := by simp [State.decodeError]
@[simp] theorem State.decodeError_gens (s : State) (a m : Nat) (wr : Bool) : (s.decodeError a m wr).gens = s.gens := by simp [State.decodeError]
@[simp] theorem State.decodeError_genNum (s : State) (a m : Nat) (wr : Bool) : (s.decodeError a m wr).genNum = s.genNum := by simp [State.decodeError]
@[simp] theorem State.decodeError_baseline (s : State) (a m : Nat) (wr : Bool) : (s.decodeError a m wr).baseline = s.baseline := by simp [State.decodeError]
@[simp] theorem State.decodeError_baseDir (s : State) (a m : Nat) (wr : Bool) : (s.decodeError a m wr).baseDir = s.baseDir := by simp [State.decodeError]
@[simp] theorem State.decodeError_baseMem (s : State) (a m : Nat) (wr : Bool) : (s.decodeError a m wr).baseMem = s.baseMem := by simp [State.decodeError]
@[simp] theorem State.decodeError_genOrder (s : State) (a m : Nat) (wr : Bool) : (s.decodeError a m wr).genOrder = s.genOrder := by simp [State.decodeError]
@[simp] theorem State.decodeError_lineRec (s : State) (a m : Nat) (wr : Bool) : (s.decodeError a m wr).lineRec = s.lineRec := by simp [State.decodeError]
@[simp] theorem State.decodeError_partRec (s : State) (a m : Nat) (wr : Bool) : (s.decodeError a m wr).partRec = s.partRec := by simp [State.decodeError]
@[simp] theorem State.decodeError_lanes (s : State) (a m : Nat) (wr : Bool) : (s.decodeError a m wr).lanes = s.lanes := by simp [State.decodeError]
@[simp] theorem State.decodeError_partners (s : State) (a m : Nat) (wr : Bool) : (s.decodeError a m wr).partners = s.partners := by simp [State.decodeError]
@[simp] theorem State.decodeError_cores (s : State) (a m : Nat) (wr : Bool) : (s.decodeError a m wr).cores = s.cores := by simp [State.decodeError]
@[simp] theorem State.decodeError_ridge (s : State) (a m : Nat) (wr : Bool) : (s.decodeError a m wr).ridge = s.ridge := by simp [State.decodeError]
@[simp] theorem State.decodeError_sqs (s : State) (a m : Nat) (wr : Bool) : (s.decodeError a m wr).sqs = s.sqs := by simp [State.decodeError]
@[simp] theorem State.decodeError_cqs (s : State) (a m : Nat) (wr : Bool) : (s.decodeError a m wr).cqs = s.cqs := by simp [State.decodeError]
@[simp] theorem State.decodeError_engine (s : State) (a m : Nat) (wr : Bool) : (s.decodeError a m wr).engine = s.engine := by simp [State.decodeError]
@[simp] theorem State.decodeError_pcie (s : State) (a m : Nat) (wr : Bool) : (s.decodeError a m wr).pcie = s.pcie := by simp [State.decodeError]
@[simp] theorem State.decodeError_running (s : State) (a m : Nat) (wr : Bool) : (s.decodeError a m wr).running = s.running := by simp [State.decodeError]
@[simp] theorem State.decodeError_claims (s : State) (a m : Nat) (wr : Bool) : (s.decodeError a m wr).claims = s.claims := by simp [State.decodeError]
@[simp] theorem State.decodeError_dmas (s : State) (a m : Nat) (wr : Bool) : (s.decodeError a m wr).dmas = s.dmas := by simp [State.decodeError]
@[simp] theorem State.decodeError_dmaLast (s : State) (a m : Nat) (wr : Bool) : (s.decodeError a m wr).dmaLast = s.dmaLast := by simp [State.decodeError]
@[simp] theorem State.decodeError_latches (s : State) (a m : Nat) (wr : Bool) : (s.decodeError a m wr).latches = s.latches := by simp [State.decodeError]
@[simp] theorem State.decodeError_doms (s : State) (a m : Nat) (wr : Bool) : (s.decodeError a m wr).doms = s.doms := by simp [State.decodeError]
@[simp] theorem State.decodeError_clk (s : State) (a m : Nat) (wr : Bool) : (s.decodeError a m wr).clk = s.clk := by simp [State.decodeError]
@[simp] theorem State.decodeError_cald (s : State) (a m : Nat) (wr : Bool) : (s.decodeError a m wr).cald = s.cald := by simp [State.decodeError]
@[simp] theorem State.decodeError_misc (s : State) (a m : Nat) (wr : Bool) : (s.decodeError a m wr).misc = s.misc := by simp [State.decodeError]
@[simp] theorem State.decodeError_scrubs (s : State) (a m : Nat) (wr : Bool) : (s.decodeError a m wr).scrubs = s.scrubs := by simp [State.decodeError]
@[simp] theorem State.decodeError_heldBar (s : State) (a m : Nat) (wr : Bool) : (s.decodeError a m wr).heldBar = s.heldBar := by simp [State.decodeError]
@[simp] theorem State.decodeError_out (s : State) (a m : Nat) (wr : Bool) : (s.decodeError a m wr).out = s.out := by simp [State.decodeError]
@[simp] theorem State.cluster_decodeError (s : State) (a m : Nat) (wr : Bool) (j : Nat) : (s.decodeError a m wr).cluster j = s.cluster j := by simp [State.cluster]
@[simp] theorem State.recW_decodeError (s : State) (a m : Nat) (wr : Bool) (j : Nat) : (s.decodeError a m wr).recW j = s.recW j := by simp [State.recW]
@[simp] theorem State.task_decodeError (s : State) (a m : Nat) (wr : Bool) (j : Nat) : (s.decodeError a m wr).task j = s.task j := by simp [State.task]
@[simp] theorem State.inSlot_decodeError (s : State) (a m : Nat) (wr : Bool) (j : Nat) : (s.decodeError a m wr).inSlot j = s.inSlot j := by simp [State.inSlot]
@[simp] theorem State.outSlot_decodeError (s : State) (a m : Nat) (wr : Bool) (j : Nat) : (s.decodeError a m wr).outSlot j = s.outSlot j := by simp [State.outSlot]
@[simp] theorem State.intSlot_decodeError (s : State) (a m : Nat) (wr : Bool) (j : Nat) : (s.decodeError a m wr).intSlot j = s.intSlot j := by simp [State.intSlot]
@[simp] theorem State.cls_decodeError (s : State) (a m : Nat) (wr : Bool) (j : Nat) : (s.decodeError a m wr).cls j = s.cls j := by simp [State.cls]
@[simp] theorem State.calW_decodeError (s : State) (a m : Nat) (wr : Bool) (j : Nat) : (s.decodeError a m wr).calW j = s.calW j := by simp [State.calW]
@[simp] theorem State.calSlot_decodeError (s : State) (a m : Nat) (wr : Bool) (j : Nat) : (s.decodeError a m wr).calSlot j = s.calSlot j := by simp [State.calSlot]
@[simp] theorem State.gen_decodeError (s : State) (a m : Nat) (wr : Bool) (j : Nat) : (s.decodeError a m wr).gen j = s.gen j := by simp [State.gen]
@[simp] theorem State.lineW_decodeError (s : State) (a m : Nat) (wr : Bool) (j : Nat) : (s.decodeError a m wr).lineW j = s.lineW j := by simp [State.lineW]
@[simp] theorem State.partW_decodeError (s : State) (a m : Nat) (wr : Bool) (j : Nat) : (s.decodeError a m wr).partW j = s.partW j := by simp [State.partW]
@[simp] theorem State.lane_decodeError (s : State) (a m : Nat) (wr : Bool) (j : Nat) : (s.decodeError a m wr).lane j = s.lane j := by simp [State.lane]
@[simp] theorem State.partner_decodeError (s : State) (a m : Nat) (wr : Bool) (j : Nat) : (s.decodeError a m wr).partner j = s.partner j := by simp [State.partner]
@[simp] theorem State.core_decodeError (s : State) (a m : Nat) (wr : Bool) (j : Nat) : (s.decodeError a m wr).core j = s.core j := by simp [State.core]
@[simp] theorem State.sq_decodeError (s : State) (a m : Nat) (wr : Bool) (j : Nat) : (s.decodeError a m wr).sq j = s.sq j := by simp [State.sq]
@[simp] theorem State.cq_decodeError (s : State) (a m : Nat) (wr : Bool) (j : Nat) : (s.decodeError a m wr).cq j = s.cq j := by simp [State.cq]
@[simp] theorem State.stack_decodeError (s : State) (a m : Nat) (wr : Bool) (j : Nat) : (s.decodeError a m wr).stack j = s.stack j := by simp [State.stack]
@[simp] theorem State.claimed_decodeError (s : State) (a m : Nat) (wr : Bool) (j : Nat) : (s.decodeError a m wr).claimed j = s.claimed j := by simp [State.claimed]
@[simp] theorem State.dma_decodeError (s : State) (a m : Nat) (wr : Bool) (j : Nat) : (s.decodeError a m wr).dma j = s.dma j := by simp [State.dma]
@[simp] theorem State.latch_decodeError (s : State) (a m : Nat) (wr : Bool) (j : Nat) : (s.decodeError a m wr).latch j = s.latch j := by simp [State.latch]
@[simp] theorem State.dom_decodeError (s : State) (a m : Nat) (wr : Bool) (j : Nat) : (s.decodeError a m wr).dom j = s.dom j := by simp [State.dom]
@[simp] theorem State.scr_decodeError (s : State) (a m : Nat) (wr : Bool) (j : Nat) : (s.decodeError a m wr).scr j = s.scr j := by simp [State.scr]

/-! ### storeError -/

@[simp] theorem State.storeError_pending (s : State) (a : Nat) : (s.storeError a).pending = s.pending := by simp [State.storeError]
@[simp] theorem State.storeError_free (s : State) (a : Nat) : (s.storeError a).free = s.free := by simp [State.storeError]
@[simp] theorem State.storeError_store (s : State) (a : Nat) : (s.storeError a).store = s.store := by simp [State.storeError]
@[simp] theorem State.storeError_storeBad (s : State) (a : Nat) : (s.storeError a).storeBad = s.storeBad := by simp [State.storeError]
@[simp] theorem State.storeError_clusters (s : State) (a : Nat) : (s.storeError a).clusters = s.clusters := by simp [State.storeError]
@[simp] theorem State.storeError_recs (s : State) (a : Nat) : (s.storeError a).recs = s.recs := by simp [State.storeError]
@[simp] theorem State.storeError_tasks (s : State) (a : Nat) : (s.storeError a).tasks = s.tasks := by simp [State.storeError]
@[simp] theorem State.storeError_jobs (s : State) (a : Nat) : (s.storeError a).jobs = s.jobs := by simp [State.storeError]
@[simp] theorem State.storeError_hostPins (s : State) (a : Nat) : (s.storeError a).hostPins = s.hostPins := by simp [State.storeError]
@[simp] theorem State.storeError_mapClock (s : State) (a : Nat) : (s.storeError a).mapClock = s.mapClock := by simp [State.storeError]
@[simp] theorem State.storeError_inSlots (s : State) (a : Nat) : (s.storeError a).inSlots = s.inSlots := by simp [State.storeError]
@[simp] theorem State.storeError_outSlots (s : State) (a : Nat) : (s.storeError a).outSlots = s.outSlots := by simp [State.storeError]
@[simp] theorem State.storeError_intSlots (s : State) (a : Nat) : (s.storeError a).intSlots = s.intSlots := by simp [State.storeError]
@[simp] theorem State.storeError_alloc (s : State) (a : Nat) : (s.storeError a).alloc = s.alloc := by simp [State.storeError]
@[simp] theorem State.storeError_calRec (s : State) (a : Nat) : (s.storeError a).calRec = s.calRec := by simp [State.storeError]
@[simp] theorem State.storeError_cal (s : State) (a : Nat) : (s.storeError a).cal = s.cal := by simp [State.storeError]
@[simp] theorem State.storeError_stoppedD (s : State) (a : Nat) : (s.storeError a).stoppedD = s.stoppedD := by simp [State.storeError]
@[simp] theorem State.storeError_gens (s : State) (a : Nat) : (s.storeError a).gens = s.gens := by simp [State.storeError]
@[simp] theorem State.storeError_genNum (s : State) (a : Nat) : (s.storeError a).genNum = s.genNum := by simp [State.storeError]
@[simp] theorem State.storeError_baseline (s : State) (a : Nat) : (s.storeError a).baseline = s.baseline := by simp [State.storeError]
@[simp] theorem State.storeError_baseDir (s : State) (a : Nat) : (s.storeError a).baseDir = s.baseDir := by simp [State.storeError]
@[simp] theorem State.storeError_baseMem (s : State) (a : Nat) : (s.storeError a).baseMem = s.baseMem := by simp [State.storeError]
@[simp] theorem State.storeError_genOrder (s : State) (a : Nat) : (s.storeError a).genOrder = s.genOrder := by simp [State.storeError]
@[simp] theorem State.storeError_lineRec (s : State) (a : Nat) : (s.storeError a).lineRec = s.lineRec := by simp [State.storeError]
@[simp] theorem State.storeError_partRec (s : State) (a : Nat) : (s.storeError a).partRec = s.partRec := by simp [State.storeError]
@[simp] theorem State.storeError_lanes (s : State) (a : Nat) : (s.storeError a).lanes = s.lanes := by simp [State.storeError]
@[simp] theorem State.storeError_partners (s : State) (a : Nat) : (s.storeError a).partners = s.partners := by simp [State.storeError]
@[simp] theorem State.storeError_cores (s : State) (a : Nat) : (s.storeError a).cores = s.cores := by simp [State.storeError]
@[simp] theorem State.storeError_ridge (s : State) (a : Nat) : (s.storeError a).ridge = s.ridge := by simp [State.storeError]
@[simp] theorem State.storeError_sqs (s : State) (a : Nat) : (s.storeError a).sqs = s.sqs := by simp [State.storeError]
@[simp] theorem State.storeError_cqs (s : State) (a : Nat) : (s.storeError a).cqs = s.cqs := by simp [State.storeError]
@[simp] theorem State.storeError_engine (s : State) (a : Nat) : (s.storeError a).engine = s.engine := by simp [State.storeError]
@[simp] theorem State.storeError_pcie (s : State) (a : Nat) : (s.storeError a).pcie = s.pcie := by simp [State.storeError]
@[simp] theorem State.storeError_running (s : State) (a : Nat) : (s.storeError a).running = s.running := by simp [State.storeError]
@[simp] theorem State.storeError_claims (s : State) (a : Nat) : (s.storeError a).claims = s.claims := by simp [State.storeError]
@[simp] theorem State.storeError_dmas (s : State) (a : Nat) : (s.storeError a).dmas = s.dmas := by simp [State.storeError]
@[simp] theorem State.storeError_dmaLast (s : State) (a : Nat) : (s.storeError a).dmaLast = s.dmaLast := by simp [State.storeError]
@[simp] theorem State.storeError_latches (s : State) (a : Nat) : (s.storeError a).latches = s.latches := by simp [State.storeError]
@[simp] theorem State.storeError_doms (s : State) (a : Nat) : (s.storeError a).doms = s.doms := by simp [State.storeError]
@[simp] theorem State.storeError_clk (s : State) (a : Nat) : (s.storeError a).clk = s.clk := by simp [State.storeError]
@[simp] theorem State.storeError_cald (s : State) (a : Nat) : (s.storeError a).cald = s.cald := by simp [State.storeError]
@[simp] theorem State.storeError_misc (s : State) (a : Nat) : (s.storeError a).misc = s.misc := by simp [State.storeError]
@[simp] theorem State.storeError_scrubs (s : State) (a : Nat) : (s.storeError a).scrubs = s.scrubs := by simp [State.storeError]
@[simp] theorem State.storeError_heldBar (s : State) (a : Nat) : (s.storeError a).heldBar = s.heldBar := by simp [State.storeError]
@[simp] theorem State.storeError_out (s : State) (a : Nat) : (s.storeError a).out = s.out := by simp [State.storeError]
@[simp] theorem State.cluster_storeError (s : State) (a : Nat) (j : Nat) : (s.storeError a).cluster j = s.cluster j := by simp [State.cluster]
@[simp] theorem State.recW_storeError (s : State) (a : Nat) (j : Nat) : (s.storeError a).recW j = s.recW j := by simp [State.recW]
@[simp] theorem State.task_storeError (s : State) (a : Nat) (j : Nat) : (s.storeError a).task j = s.task j := by simp [State.task]
@[simp] theorem State.inSlot_storeError (s : State) (a : Nat) (j : Nat) : (s.storeError a).inSlot j = s.inSlot j := by simp [State.inSlot]
@[simp] theorem State.outSlot_storeError (s : State) (a : Nat) (j : Nat) : (s.storeError a).outSlot j = s.outSlot j := by simp [State.outSlot]
@[simp] theorem State.intSlot_storeError (s : State) (a : Nat) (j : Nat) : (s.storeError a).intSlot j = s.intSlot j := by simp [State.intSlot]
@[simp] theorem State.cls_storeError (s : State) (a : Nat) (j : Nat) : (s.storeError a).cls j = s.cls j := by simp [State.cls]
@[simp] theorem State.calW_storeError (s : State) (a : Nat) (j : Nat) : (s.storeError a).calW j = s.calW j := by simp [State.calW]
@[simp] theorem State.calSlot_storeError (s : State) (a : Nat) (j : Nat) : (s.storeError a).calSlot j = s.calSlot j := by simp [State.calSlot]
@[simp] theorem State.gen_storeError (s : State) (a : Nat) (j : Nat) : (s.storeError a).gen j = s.gen j := by simp [State.gen]
@[simp] theorem State.lineW_storeError (s : State) (a : Nat) (j : Nat) : (s.storeError a).lineW j = s.lineW j := by simp [State.lineW]
@[simp] theorem State.partW_storeError (s : State) (a : Nat) (j : Nat) : (s.storeError a).partW j = s.partW j := by simp [State.partW]
@[simp] theorem State.lane_storeError (s : State) (a : Nat) (j : Nat) : (s.storeError a).lane j = s.lane j := by simp [State.lane]
@[simp] theorem State.partner_storeError (s : State) (a : Nat) (j : Nat) : (s.storeError a).partner j = s.partner j := by simp [State.partner]
@[simp] theorem State.core_storeError (s : State) (a : Nat) (j : Nat) : (s.storeError a).core j = s.core j := by simp [State.core]
@[simp] theorem State.sq_storeError (s : State) (a : Nat) (j : Nat) : (s.storeError a).sq j = s.sq j := by simp [State.sq]
@[simp] theorem State.cq_storeError (s : State) (a : Nat) (j : Nat) : (s.storeError a).cq j = s.cq j := by simp [State.cq]
@[simp] theorem State.stack_storeError (s : State) (a : Nat) (j : Nat) : (s.storeError a).stack j = s.stack j := by simp [State.stack]
@[simp] theorem State.claimed_storeError (s : State) (a : Nat) (j : Nat) : (s.storeError a).claimed j = s.claimed j := by simp [State.claimed]
@[simp] theorem State.dma_storeError (s : State) (a : Nat) (j : Nat) : (s.storeError a).dma j = s.dma j := by simp [State.dma]
@[simp] theorem State.latch_storeError (s : State) (a : Nat) (j : Nat) : (s.storeError a).latch j = s.latch j := by simp [State.latch]
@[simp] theorem State.dom_storeError (s : State) (a : Nat) (j : Nat) : (s.storeError a).dom j = s.dom j := by simp [State.dom]
@[simp] theorem State.scr_storeError (s : State) (a : Nat) (j : Nat) : (s.storeError a).scr j = s.scr j := by simp [State.scr]

/-! ### storeChecked -/

@[simp] theorem State.storeChecked_pending (s : State) (a n : Nat) : (s.storeChecked a n).pending = s.pending := by unfold State.storeChecked; split <;> simp
@[simp] theorem State.storeChecked_free (s : State) (a n : Nat) : (s.storeChecked a n).free = s.free := by unfold State.storeChecked; split <;> simp
@[simp] theorem State.storeChecked_store (s : State) (a n : Nat) : (s.storeChecked a n).store = s.store := by unfold State.storeChecked; split <;> simp
@[simp] theorem State.storeChecked_storeBad (s : State) (a n : Nat) : (s.storeChecked a n).storeBad = s.storeBad := by unfold State.storeChecked; split <;> simp
@[simp] theorem State.storeChecked_clusters (s : State) (a n : Nat) : (s.storeChecked a n).clusters = s.clusters := by unfold State.storeChecked; split <;> simp
@[simp] theorem State.storeChecked_recs (s : State) (a n : Nat) : (s.storeChecked a n).recs = s.recs := by unfold State.storeChecked; split <;> simp
@[simp] theorem State.storeChecked_tasks (s : State) (a n : Nat) : (s.storeChecked a n).tasks = s.tasks := by unfold State.storeChecked; split <;> simp
@[simp] theorem State.storeChecked_jobs (s : State) (a n : Nat) : (s.storeChecked a n).jobs = s.jobs := by unfold State.storeChecked; split <;> simp
@[simp] theorem State.storeChecked_hostPins (s : State) (a n : Nat) : (s.storeChecked a n).hostPins = s.hostPins := by unfold State.storeChecked; split <;> simp
@[simp] theorem State.storeChecked_mapClock (s : State) (a n : Nat) : (s.storeChecked a n).mapClock = s.mapClock := by unfold State.storeChecked; split <;> simp
@[simp] theorem State.storeChecked_inSlots (s : State) (a n : Nat) : (s.storeChecked a n).inSlots = s.inSlots := by unfold State.storeChecked; split <;> simp
@[simp] theorem State.storeChecked_outSlots (s : State) (a n : Nat) : (s.storeChecked a n).outSlots = s.outSlots := by unfold State.storeChecked; split <;> simp
@[simp] theorem State.storeChecked_intSlots (s : State) (a n : Nat) : (s.storeChecked a n).intSlots = s.intSlots := by unfold State.storeChecked; split <;> simp
@[simp] theorem State.storeChecked_alloc (s : State) (a n : Nat) : (s.storeChecked a n).alloc = s.alloc := by unfold State.storeChecked; split <;> simp
@[simp] theorem State.storeChecked_calRec (s : State) (a n : Nat) : (s.storeChecked a n).calRec = s.calRec := by unfold State.storeChecked; split <;> simp
@[simp] theorem State.storeChecked_cal (s : State) (a n : Nat) : (s.storeChecked a n).cal = s.cal := by unfold State.storeChecked; split <;> simp
@[simp] theorem State.storeChecked_stoppedD (s : State) (a n : Nat) : (s.storeChecked a n).stoppedD = s.stoppedD := by unfold State.storeChecked; split <;> simp
@[simp] theorem State.storeChecked_gens (s : State) (a n : Nat) : (s.storeChecked a n).gens = s.gens := by unfold State.storeChecked; split <;> simp
@[simp] theorem State.storeChecked_genNum (s : State) (a n : Nat) : (s.storeChecked a n).genNum = s.genNum := by unfold State.storeChecked; split <;> simp
@[simp] theorem State.storeChecked_baseline (s : State) (a n : Nat) : (s.storeChecked a n).baseline = s.baseline := by unfold State.storeChecked; split <;> simp
@[simp] theorem State.storeChecked_baseDir (s : State) (a n : Nat) : (s.storeChecked a n).baseDir = s.baseDir := by unfold State.storeChecked; split <;> simp
@[simp] theorem State.storeChecked_baseMem (s : State) (a n : Nat) : (s.storeChecked a n).baseMem = s.baseMem := by unfold State.storeChecked; split <;> simp
@[simp] theorem State.storeChecked_genOrder (s : State) (a n : Nat) : (s.storeChecked a n).genOrder = s.genOrder := by unfold State.storeChecked; split <;> simp
@[simp] theorem State.storeChecked_lineRec (s : State) (a n : Nat) : (s.storeChecked a n).lineRec = s.lineRec := by unfold State.storeChecked; split <;> simp
@[simp] theorem State.storeChecked_partRec (s : State) (a n : Nat) : (s.storeChecked a n).partRec = s.partRec := by unfold State.storeChecked; split <;> simp
@[simp] theorem State.storeChecked_lanes (s : State) (a n : Nat) : (s.storeChecked a n).lanes = s.lanes := by unfold State.storeChecked; split <;> simp
@[simp] theorem State.storeChecked_partners (s : State) (a n : Nat) : (s.storeChecked a n).partners = s.partners := by unfold State.storeChecked; split <;> simp
@[simp] theorem State.storeChecked_cores (s : State) (a n : Nat) : (s.storeChecked a n).cores = s.cores := by unfold State.storeChecked; split <;> simp
@[simp] theorem State.storeChecked_ridge (s : State) (a n : Nat) : (s.storeChecked a n).ridge = s.ridge := by unfold State.storeChecked; split <;> simp
@[simp] theorem State.storeChecked_sqs (s : State) (a n : Nat) : (s.storeChecked a n).sqs = s.sqs := by unfold State.storeChecked; split <;> simp
@[simp] theorem State.storeChecked_cqs (s : State) (a n : Nat) : (s.storeChecked a n).cqs = s.cqs := by unfold State.storeChecked; split <;> simp
@[simp] theorem State.storeChecked_engine (s : State) (a n : Nat) : (s.storeChecked a n).engine = s.engine := by unfold State.storeChecked; split <;> simp
@[simp] theorem State.storeChecked_pcie (s : State) (a n : Nat) : (s.storeChecked a n).pcie = s.pcie := by unfold State.storeChecked; split <;> simp
@[simp] theorem State.storeChecked_running (s : State) (a n : Nat) : (s.storeChecked a n).running = s.running := by unfold State.storeChecked; split <;> simp
@[simp] theorem State.storeChecked_claims (s : State) (a n : Nat) : (s.storeChecked a n).claims = s.claims := by unfold State.storeChecked; split <;> simp
@[simp] theorem State.storeChecked_dmas (s : State) (a n : Nat) : (s.storeChecked a n).dmas = s.dmas := by unfold State.storeChecked; split <;> simp
@[simp] theorem State.storeChecked_dmaLast (s : State) (a n : Nat) : (s.storeChecked a n).dmaLast = s.dmaLast := by unfold State.storeChecked; split <;> simp
@[simp] theorem State.storeChecked_latches (s : State) (a n : Nat) : (s.storeChecked a n).latches = s.latches := by unfold State.storeChecked; split <;> simp
@[simp] theorem State.storeChecked_doms (s : State) (a n : Nat) : (s.storeChecked a n).doms = s.doms := by unfold State.storeChecked; split <;> simp
@[simp] theorem State.storeChecked_clk (s : State) (a n : Nat) : (s.storeChecked a n).clk = s.clk := by unfold State.storeChecked; split <;> simp
@[simp] theorem State.storeChecked_cald (s : State) (a n : Nat) : (s.storeChecked a n).cald = s.cald := by unfold State.storeChecked; split <;> simp
@[simp] theorem State.storeChecked_misc (s : State) (a n : Nat) : (s.storeChecked a n).misc = s.misc := by unfold State.storeChecked; split <;> simp
@[simp] theorem State.storeChecked_scrubs (s : State) (a n : Nat) : (s.storeChecked a n).scrubs = s.scrubs := by unfold State.storeChecked; split <;> simp
@[simp] theorem State.storeChecked_heldBar (s : State) (a n : Nat) : (s.storeChecked a n).heldBar = s.heldBar := by unfold State.storeChecked; split <;> simp
@[simp] theorem State.storeChecked_out (s : State) (a n : Nat) : (s.storeChecked a n).out = s.out := by unfold State.storeChecked; split <;> simp
@[simp] theorem State.cluster_storeChecked (s : State) (a n : Nat) (j : Nat) : (s.storeChecked a n).cluster j = s.cluster j := by simp [State.cluster]
@[simp] theorem State.recW_storeChecked (s : State) (a n : Nat) (j : Nat) : (s.storeChecked a n).recW j = s.recW j := by simp [State.recW]
@[simp] theorem State.task_storeChecked (s : State) (a n : Nat) (j : Nat) : (s.storeChecked a n).task j = s.task j := by simp [State.task]
@[simp] theorem State.inSlot_storeChecked (s : State) (a n : Nat) (j : Nat) : (s.storeChecked a n).inSlot j = s.inSlot j := by simp [State.inSlot]
@[simp] theorem State.outSlot_storeChecked (s : State) (a n : Nat) (j : Nat) : (s.storeChecked a n).outSlot j = s.outSlot j := by simp [State.outSlot]
@[simp] theorem State.intSlot_storeChecked (s : State) (a n : Nat) (j : Nat) : (s.storeChecked a n).intSlot j = s.intSlot j := by simp [State.intSlot]
@[simp] theorem State.cls_storeChecked (s : State) (a n : Nat) (j : Nat) : (s.storeChecked a n).cls j = s.cls j := by simp [State.cls]
@[simp] theorem State.calW_storeChecked (s : State) (a n : Nat) (j : Nat) : (s.storeChecked a n).calW j = s.calW j := by simp [State.calW]
@[simp] theorem State.calSlot_storeChecked (s : State) (a n : Nat) (j : Nat) : (s.storeChecked a n).calSlot j = s.calSlot j := by simp [State.calSlot]
@[simp] theorem State.gen_storeChecked (s : State) (a n : Nat) (j : Nat) : (s.storeChecked a n).gen j = s.gen j := by simp [State.gen]
@[simp] theorem State.lineW_storeChecked (s : State) (a n : Nat) (j : Nat) : (s.storeChecked a n).lineW j = s.lineW j := by simp [State.lineW]
@[simp] theorem State.partW_storeChecked (s : State) (a n : Nat) (j : Nat) : (s.storeChecked a n).partW j = s.partW j := by simp [State.partW]
@[simp] theorem State.lane_storeChecked (s : State) (a n : Nat) (j : Nat) : (s.storeChecked a n).lane j = s.lane j := by simp [State.lane]
@[simp] theorem State.partner_storeChecked (s : State) (a n : Nat) (j : Nat) : (s.storeChecked a n).partner j = s.partner j := by simp [State.partner]
@[simp] theorem State.core_storeChecked (s : State) (a n : Nat) (j : Nat) : (s.storeChecked a n).core j = s.core j := by simp [State.core]
@[simp] theorem State.sq_storeChecked (s : State) (a n : Nat) (j : Nat) : (s.storeChecked a n).sq j = s.sq j := by simp [State.sq]
@[simp] theorem State.cq_storeChecked (s : State) (a n : Nat) (j : Nat) : (s.storeChecked a n).cq j = s.cq j := by simp [State.cq]
@[simp] theorem State.stack_storeChecked (s : State) (a n : Nat) (j : Nat) : (s.storeChecked a n).stack j = s.stack j := by simp [State.stack]
@[simp] theorem State.claimed_storeChecked (s : State) (a n : Nat) (j : Nat) : (s.storeChecked a n).claimed j = s.claimed j := by simp [State.claimed]
@[simp] theorem State.dma_storeChecked (s : State) (a n : Nat) (j : Nat) : (s.storeChecked a n).dma j = s.dma j := by simp [State.dma]
@[simp] theorem State.latch_storeChecked (s : State) (a n : Nat) (j : Nat) : (s.storeChecked a n).latch j = s.latch j := by simp [State.latch]
@[simp] theorem State.dom_storeChecked (s : State) (a n : Nat) (j : Nat) : (s.storeChecked a n).dom j = s.dom j := by simp [State.dom]
@[simp] theorem State.scr_storeChecked (s : State) (a n : Nat) (j : Nat) : (s.storeChecked a n).scr j = s.scr j := by simp [State.scr]

/-! ### allocMiss -/

@[simp] theorem State.allocMiss_pending (s : State) (k : Nat) : (s.allocMiss k).pending = s.pending := by simp [State.allocMiss]
@[simp] theorem State.allocMiss_free (s : State) (k : Nat) : (s.allocMiss k).free = s.free := by simp [State.allocMiss]
@[simp] theorem State.allocMiss_store (s : State) (k : Nat) : (s.allocMiss k).store = s.store := by simp [State.allocMiss]
@[simp] theorem State.allocMiss_storeBad (s : State) (k : Nat) : (s.allocMiss k).storeBad = s.storeBad := by simp [State.allocMiss]
@[simp] theorem State.allocMiss_clusters (s : State) (k : Nat) : (s.allocMiss k).clusters = s.clusters := by simp [State.allocMiss]
@[simp] theorem State.allocMiss_recs (s : State) (k : Nat) : (s.allocMiss k).recs = s.recs := by simp [State.allocMiss]
@[simp] theorem State.allocMiss_tasks (s : State) (k : Nat) : (s.allocMiss k).tasks = s.tasks := by simp [State.allocMiss]
@[simp] theorem State.allocMiss_jobs (s : State) (k : Nat) : (s.allocMiss k).jobs = s.jobs := by simp [State.allocMiss]
@[simp] theorem State.allocMiss_hostPins (s : State) (k : Nat) : (s.allocMiss k).hostPins = s.hostPins := by simp [State.allocMiss]
@[simp] theorem State.allocMiss_mapClock (s : State) (k : Nat) : (s.allocMiss k).mapClock = s.mapClock := by simp [State.allocMiss]
@[simp] theorem State.allocMiss_inSlots (s : State) (k : Nat) : (s.allocMiss k).inSlots = s.inSlots := by simp [State.allocMiss]
@[simp] theorem State.allocMiss_outSlots (s : State) (k : Nat) : (s.allocMiss k).outSlots = s.outSlots := by simp [State.allocMiss]
@[simp] theorem State.allocMiss_intSlots (s : State) (k : Nat) : (s.allocMiss k).intSlots = s.intSlots := by simp [State.allocMiss]
@[simp] theorem State.allocMiss_alloc (s : State) (k : Nat) : (s.allocMiss k).alloc = s.alloc := by simp [State.allocMiss]
@[simp] theorem State.allocMiss_calRec (s : State) (k : Nat) : (s.allocMiss k).calRec = s.calRec := by simp [State.allocMiss]
@[simp] theorem State.allocMiss_cal (s : State) (k : Nat) : (s.allocMiss k).cal = s.cal := by simp [State.allocMiss]
@[simp] theorem State.allocMiss_stoppedD (s : State) (k : Nat) : (s.allocMiss k).stoppedD = s.stoppedD := by simp [State.allocMiss]
@[simp] theorem State.allocMiss_gens (s : State) (k : Nat) : (s.allocMiss k).gens = s.gens := by simp [State.allocMiss]
@[simp] theorem State.allocMiss_genNum (s : State) (k : Nat) : (s.allocMiss k).genNum = s.genNum := by simp [State.allocMiss]
@[simp] theorem State.allocMiss_baseline (s : State) (k : Nat) : (s.allocMiss k).baseline = s.baseline := by simp [State.allocMiss]
@[simp] theorem State.allocMiss_baseDir (s : State) (k : Nat) : (s.allocMiss k).baseDir = s.baseDir := by simp [State.allocMiss]
@[simp] theorem State.allocMiss_baseMem (s : State) (k : Nat) : (s.allocMiss k).baseMem = s.baseMem := by simp [State.allocMiss]
@[simp] theorem State.allocMiss_genOrder (s : State) (k : Nat) : (s.allocMiss k).genOrder = s.genOrder := by simp [State.allocMiss]
@[simp] theorem State.allocMiss_lineRec (s : State) (k : Nat) : (s.allocMiss k).lineRec = s.lineRec := by simp [State.allocMiss]
@[simp] theorem State.allocMiss_partRec (s : State) (k : Nat) : (s.allocMiss k).partRec = s.partRec := by simp [State.allocMiss]
@[simp] theorem State.allocMiss_lanes (s : State) (k : Nat) : (s.allocMiss k).lanes = s.lanes := by simp [State.allocMiss]
@[simp] theorem State.allocMiss_partners (s : State) (k : Nat) : (s.allocMiss k).partners = s.partners := by simp [State.allocMiss]
@[simp] theorem State.allocMiss_cores (s : State) (k : Nat) : (s.allocMiss k).cores = s.cores := by simp [State.allocMiss]
@[simp] theorem State.allocMiss_ridge (s : State) (k : Nat) : (s.allocMiss k).ridge = s.ridge := by simp [State.allocMiss]
@[simp] theorem State.allocMiss_sqs (s : State) (k : Nat) : (s.allocMiss k).sqs = s.sqs := by simp [State.allocMiss]
@[simp] theorem State.allocMiss_cqs (s : State) (k : Nat) : (s.allocMiss k).cqs = s.cqs := by simp [State.allocMiss]
@[simp] theorem State.allocMiss_engine (s : State) (k : Nat) : (s.allocMiss k).engine = s.engine := by simp [State.allocMiss]
@[simp] theorem State.allocMiss_pcie (s : State) (k : Nat) : (s.allocMiss k).pcie = s.pcie := by simp [State.allocMiss]
@[simp] theorem State.allocMiss_running (s : State) (k : Nat) : (s.allocMiss k).running = s.running := by simp [State.allocMiss]
@[simp] theorem State.allocMiss_claims (s : State) (k : Nat) : (s.allocMiss k).claims = s.claims := by simp [State.allocMiss]
@[simp] theorem State.allocMiss_dmas (s : State) (k : Nat) : (s.allocMiss k).dmas = s.dmas := by simp [State.allocMiss]
@[simp] theorem State.allocMiss_dmaLast (s : State) (k : Nat) : (s.allocMiss k).dmaLast = s.dmaLast := by simp [State.allocMiss]
@[simp] theorem State.allocMiss_latches (s : State) (k : Nat) : (s.allocMiss k).latches = s.latches := by simp [State.allocMiss]
@[simp] theorem State.allocMiss_doms (s : State) (k : Nat) : (s.allocMiss k).doms = s.doms := by simp [State.allocMiss]
@[simp] theorem State.allocMiss_clk (s : State) (k : Nat) : (s.allocMiss k).clk = s.clk := by simp [State.allocMiss]
@[simp] theorem State.allocMiss_cald (s : State) (k : Nat) : (s.allocMiss k).cald = s.cald := by simp [State.allocMiss]
@[simp] theorem State.allocMiss_misc (s : State) (k : Nat) : (s.allocMiss k).misc = s.misc := by simp [State.allocMiss]
@[simp] theorem State.allocMiss_scrubs (s : State) (k : Nat) : (s.allocMiss k).scrubs = s.scrubs := by simp [State.allocMiss]
@[simp] theorem State.allocMiss_heldBar (s : State) (k : Nat) : (s.allocMiss k).heldBar = s.heldBar := by simp [State.allocMiss]
@[simp] theorem State.allocMiss_out (s : State) (k : Nat) : (s.allocMiss k).out = s.out := by simp [State.allocMiss]
@[simp] theorem State.cluster_allocMiss (s : State) (k : Nat) (j : Nat) : (s.allocMiss k).cluster j = s.cluster j := by simp [State.cluster]
@[simp] theorem State.recW_allocMiss (s : State) (k : Nat) (j : Nat) : (s.allocMiss k).recW j = s.recW j := by simp [State.recW]
@[simp] theorem State.task_allocMiss (s : State) (k : Nat) (j : Nat) : (s.allocMiss k).task j = s.task j := by simp [State.task]
@[simp] theorem State.inSlot_allocMiss (s : State) (k : Nat) (j : Nat) : (s.allocMiss k).inSlot j = s.inSlot j := by simp [State.inSlot]
@[simp] theorem State.outSlot_allocMiss (s : State) (k : Nat) (j : Nat) : (s.allocMiss k).outSlot j = s.outSlot j := by simp [State.outSlot]
@[simp] theorem State.intSlot_allocMiss (s : State) (k : Nat) (j : Nat) : (s.allocMiss k).intSlot j = s.intSlot j := by simp [State.intSlot]
@[simp] theorem State.cls_allocMiss (s : State) (k : Nat) (j : Nat) : (s.allocMiss k).cls j = s.cls j := by simp [State.cls]
@[simp] theorem State.calW_allocMiss (s : State) (k : Nat) (j : Nat) : (s.allocMiss k).calW j = s.calW j := by simp [State.calW]
@[simp] theorem State.calSlot_allocMiss (s : State) (k : Nat) (j : Nat) : (s.allocMiss k).calSlot j = s.calSlot j := by simp [State.calSlot]
@[simp] theorem State.gen_allocMiss (s : State) (k : Nat) (j : Nat) : (s.allocMiss k).gen j = s.gen j := by simp [State.gen]
@[simp] theorem State.lineW_allocMiss (s : State) (k : Nat) (j : Nat) : (s.allocMiss k).lineW j = s.lineW j := by simp [State.lineW]
@[simp] theorem State.partW_allocMiss (s : State) (k : Nat) (j : Nat) : (s.allocMiss k).partW j = s.partW j := by simp [State.partW]
@[simp] theorem State.lane_allocMiss (s : State) (k : Nat) (j : Nat) : (s.allocMiss k).lane j = s.lane j := by simp [State.lane]
@[simp] theorem State.partner_allocMiss (s : State) (k : Nat) (j : Nat) : (s.allocMiss k).partner j = s.partner j := by simp [State.partner]
@[simp] theorem State.core_allocMiss (s : State) (k : Nat) (j : Nat) : (s.allocMiss k).core j = s.core j := by simp [State.core]
@[simp] theorem State.sq_allocMiss (s : State) (k : Nat) (j : Nat) : (s.allocMiss k).sq j = s.sq j := by simp [State.sq]
@[simp] theorem State.cq_allocMiss (s : State) (k : Nat) (j : Nat) : (s.allocMiss k).cq j = s.cq j := by simp [State.cq]
@[simp] theorem State.stack_allocMiss (s : State) (k : Nat) (j : Nat) : (s.allocMiss k).stack j = s.stack j := by simp [State.stack]
@[simp] theorem State.claimed_allocMiss (s : State) (k : Nat) (j : Nat) : (s.allocMiss k).claimed j = s.claimed j := by simp [State.claimed]
@[simp] theorem State.dma_allocMiss (s : State) (k : Nat) (j : Nat) : (s.allocMiss k).dma j = s.dma j := by simp [State.dma]
@[simp] theorem State.latch_allocMiss (s : State) (k : Nat) (j : Nat) : (s.allocMiss k).latch j = s.latch j := by simp [State.latch]
@[simp] theorem State.dom_allocMiss (s : State) (k : Nat) (j : Nat) : (s.allocMiss k).dom j = s.dom j := by simp [State.dom]
@[simp] theorem State.scr_allocMiss (s : State) (k : Nat) (j : Nat) : (s.allocMiss k).scr j = s.scr j := by simp [State.scr]

end Sys2Proof.Machine
end

