-- ==== Sys2Proof/Laws/Issue.lean ====
section
/-!
SUPPORT. Laws/Issue.lean: what the issue of an operation without a trap, a fault or a parity error does to its cluster.
-/
namespace Sys2Proof.Machine

theorem Fail.meet_none (i : Option Fail) : Fail.meet i none = i := by cases i <;> rfl

theorem Fail.foldl_meet_none (l : List (Option Fail)) (h : ∀ o ∈ l, o = none) (i : Option Fail) :
    l.foldl Fail.meet i = i := by
  induction l generalizing i with
  | nil => rfl
  | cons a t ih =>
    rw [List.foldl_cons, h a (by simp), Fail.meet_none]
    exact ih (fun o ho => h o (by simp [ho])) i

/-- The conditions that an operation's own form, its place and its memory words add to State.Takes. -/
structure Cluster.Free (x : Cluster) (o : Op) : Prop where
  /-- No reserved form. -/
  traps : o.traps = []
  /-- Its address generator is not named twice. -/
  ag : ∀ g, o.ag = some g → ∀ p ∈ x.iss.ags, p.1 ≠ g
  /-- A transfer does not stand in the LE bundle of an active loop. -/
  le : o.transfer = true → x.atLe = false
  /-- No fault of order 4. -/
  fault : o.fault = none
  /-- The words it reads are good. -/
  reads : ∀ p ∈ o.reads, x.isBad p.1 p.2 = false

theorem State.opFails_none {s : State} {c : Nat} {o : Op} (ht : s.Takes c o.unit o.len o.flagW)
    (hf : (s.cluster c).Free o) :
    ∀ r ∈ (s.cluster c).opFails o ((s.cluster c).place o.unit), r = none := by
  have h1 : (if o.flagW then (s.cluster c).iss.flagAt.bind
      (fun syl => some (Fail.mk 3 tFlags syl none)) else none) = (none : Option Fail) := by
    split
    · rename_i h; rw [ht.flag h]; rfl
    · rfl
  have h2 : (o.ag.bind (fun g => ((s.cluster c).iss.ags.find? (fun p => decide (p.1 = g))).bind
      (fun p => some (Fail.mk 3 tAgen p.2 none)))) = (none : Option Fail) := by
    cases ha : o.ag with
    | none => rfl
    | some g =>
      have hn : (s.cluster c).iss.ags.find? (fun p => decide (p.1 = g)) = none := by
        rw [List.find?_eq_none]; intro p hp; simpa using hf.ag g ha p hp
      simp [hn]
  have h3 : (if o.transfer && (s.cluster c).atLe then some (Fail.mk 3 tLeBundle
      ((s.cluster c).place o.unit) none) else none) = (none : Option Fail) := by
    cases ht' : o.transfer with
    | false => rfl
    | true => rw [hf.le ht']; rfl
  have h4 : (o.reads.find? (fun p => (s.cluster c).isBad p.1 p.2)) = none := by
    rw [List.find?_eq_none]; intro p hp; simp [hf.reads p hp]
  unfold Cluster.opFails
  simp only [hf.traps, hf.fault, ht.fetch, h1, h2, h3, h4]
  cases hu : (s.cluster c).iss.units with
  | nil => simp
  | cons a t =>
    have := ht.order a (by simp [hu])
    have hn : ¬o.unit ≤ a := by omega
    simp [hn]

/-- An operation that brings no cause joins the bundle, and nothing else changes. -/
theorem State.issue_joins {s : State} {c : Nat} {g : Cluster → Op} {o : Op} (ho : g (s.cluster c) = o)
    (ht : s.Takes c o.unit o.len o.flagW) (hf : (s.cluster c).Free o) :
    s.issue c g = s.joined c o.unit o.len o.flagW o.ag o.ctl o.ents := by
  have hs : (s.cluster c).iss.skip.contains o.unit = false := by simpa using ht.go
  have hx : (s.cluster c).issueOp o = (s.cluster c).joined o.unit o.len o.flagW o.ag o.ctl o.ents := by
    have h1 := Fail.foldl_meet_none _ (State.opFails_none ht hf) (s.cluster c).iss.fail
    have h2 : (if o.flagW && (s.cluster c).iss.flagAt.isNone then some ((s.cluster c).place o.unit)
        else (s.cluster c).iss.flagAt) =
        (if o.flagW then some ((s.cluster c).place o.unit) else (s.cluster c).iss.flagAt) := by
      by_cases hw : o.flagW = true
      · simp [hw, ht.flag hw]
      · simp [hw]
    cases ha : o.ag with
    | none =>
      unfold Cluster.issueOp Cluster.joined
      simp only [hs, h1, h2, ha, Bool.false_eq_true, if_false, List.append_nil]
    | some g =>
      have hn : (s.cluster c).iss.ags.any (fun p => decide (p.1 = g)) = false := by
        simp only [List.any_eq_false, decide_eq_true_eq]; exact hf.ag g ha
      unfold Cluster.issueOp Cluster.joined
      simp only [hs, h1, h2, ha, hn, Bool.false_eq_true, if_false]
  simp only [State.issue, ht.can, if_true, State.updCluster, ho, State.joined, hx]

end Sys2Proof.Machine
end

