-- ==== Sys2Proof/Laws/Kept.lean ====
section
/-!
SUPPORT. Laws/Kept.lean: every shared operation keeps a well-kept state (Safety.lean): one lemma per operation.
-/
namespace Sys2Proof.Machine

@[simp] theorem ok_mk a0 a1 a2 a3 a4 a5 a6 a7 a8 a9 a10 a11 a12 a13 a14 a15 a16 a17 a18 a19 a20 a21 a22 a23 a24 a25 a26 a27 a28 a29 a30 a31 a32 a33 a34 a35 a36 a37 a38 a39 a40 a41 a42 a43 a44 a45 a46 : State.Ok (State.mk a0 a1 a2 a3 a4 a5 a6 a7 a8 a9 a10 a11 a12 a13 a14 a15 a16 a17 a18 a19 a20 a21 a22 a23 a24 a25 a26 a27 a28 a29 a30 a31 a32 a33 a34 a35 a36 a37 a38 a39 a40 a41 a42 a43 a44 a45 a46) ↔ (Memory.wf a3 = true ∧ Tab.wf regReset a2 = true ∧ a41.dt < 2 ^ 64 ∧ a41.frac < 2 ^ 32 ∧ a42.sec < 2 ^ 33 ∧ a42.sub < 2 ^ 15) :=
  ⟨fun h => ⟨h.1, h.2, h.3, h.4, h.5, h.6⟩, fun h => ⟨h.1, h.2.1, h.2.2.1, h.2.2.2.1, h.2.2.2.2.1, h.2.2.2.2.2⟩⟩

@[simp] theorem ok_store {s : State} (h : s.Ok) : Memory.wf s.store = true := h.store
@[simp] theorem ok_regs {s : State} (h : s.Ok) : Tab.wf regReset s.regs = true := h.regs
@[simp] theorem ok_dt {s : State} (h : s.Ok) : s.clk.dt < 18446744073709551616 := h.dt
@[simp] theorem ok_frac {s : State} (h : s.Ok) : s.clk.frac < 4294967296 := h.frac
@[simp] theorem ok_sec {s : State} (h : s.Ok) : s.cald.sec < 8589934592 := h.sec
@[simp] theorem ok_sub {s : State} (h : s.Ok) : s.cald.sub < 32768 := h.sub
@[simp] theorem ok_ite {c : Prop} [Decidable c] {a b : State} (ha : a.Ok) (hb : b.Ok) : State.Ok (if c then a else b) := by split <;> assumption
theorem ok_foldl {α} (l : List α) (g : State → α → State) (hg : ∀ s x, s.Ok → (g s x).Ok) : ∀ s : State, s.Ok → (l.foldl g s).Ok := by
  induction l with
  | nil => intro s h; exact h
  | cons a t ih => intro s h; exact ih _ (hg _ _ h)
@[simp] theorem ok_forEach {α} {s : State} {l : List α} {g : State → α → State} (h : s.Ok) (hg : ∀ s x, s.Ok → (g s x).Ok) : (s.forEach l g).Ok := ok_foldl l g hg s h
@[simp] theorem wf_filter_reg {t : Tab W32} (p : Nat × W32 → Bool) (h : Tab.wf regReset t = true) : Tab.wf regReset (t.filter p) = true := Tab.filter_wf _ _ _ _ h
@[simp] theorem wf_filter_store {t : Memory} (p : Nat × Byte → Bool) (h : Memory.wf t = true) : Memory.wf (t.filter p) = true := Tab.filter_wf _ _ _ _ h
@[simp] theorem wf_writeList {t : Memory} (a bs) (h : Memory.wf t = true) : Memory.wf (t.writeList a bs) = true := Memory.writeList_wf _ _ _ h
@[simp] theorem ok_fold1 {α} {s : State} (l : List α) (g : State → α → State) (h : s.Ok) (hg : ∀ s x, s.Ok → (g s x).Ok) : (l.foldl g s).Ok := ok_foldl l g hg s h
theorem ok_pair {β} {x : State × β} {s1 : State} {b : β} (h : x = (s1, b)) (hx : x.1.Ok) : s1.Ok := by rw [h] at hx; exact hx
theorem ok_foldp' {α β} (l : List α) (g : State × β → α → State × β) (hg : ∀ s b x, s.Ok → (g (s, b) x).1.Ok) : ∀ x : State × β, x.1.Ok → (l.foldl g x).1.Ok := by
  induction l with
  | nil => intro s h; exact h
  | cons a t ih => intro s h; exact ih _ (hg _ _ _ h)
@[simp] theorem ok_foldp {α β} (l : List α) (g : State × β → α → State × β) (x : State × β) (h : x.1.Ok) (hg : ∀ s b x, s.Ok → (g (s, b) x).1.Ok) : (l.foldl g x).1.Ok := ok_foldp' l g hg x h
@[simp] theorem ok_setReg {s : State} {r v} (h : s.Ok) : (s.setReg r v).Ok := ⟨h.store, Tab.set_wf _ _ _ _ h.regs, h.dt, h.frac, h.sec, h.sub⟩

@[simp] theorem State.setCluster_ok (s : State) (k : Nat) (v : Cluster) (h_s : s.Ok) : State.Ok (State.setCluster s k v) := by
  unfold State.setCluster; simp +contextual (maxDischargeDepth := 40) [*]

@[simp] theorem State.updCluster_ok (s : State) (k : Nat) (g : Cluster → Cluster) (h_s : s.Ok) : State.Ok (State.updCluster s k g) := by
  unfold State.updCluster; simp +contextual (maxDischargeDepth := 40) [*]

@[simp] theorem State.setRecW_ok (s : State) (k : Nat) (v : W32) (h_s : s.Ok) : State.Ok (State.setRecW s k v) := by
  unfold State.setRecW; simp +contextual (maxDischargeDepth := 40) [*]

@[simp] theorem State.updRecW_ok (s : State) (k : Nat) (g : W32 → W32) (h_s : s.Ok) : State.Ok (State.updRecW s k g) := by
  unfold State.updRecW; simp +contextual (maxDischargeDepth := 40) [*]

@[simp] theorem State.setTask_ok (s : State) (k : Nat) (v : Task) (h_s : s.Ok) : State.Ok (State.setTask s k v) := by
  unfold State.setTask; simp +contextual (maxDischargeDepth := 40) [*]

@[simp] theorem State.updTask_ok (s : State) (k : Nat) (g : Task → Task) (h_s : s.Ok) : State.Ok (State.updTask s k g) := by
  unfold State.updTask; simp +contextual (maxDischargeDepth := 40) [*]

@[simp] theorem State.setInSlot_ok (s : State) (k : Nat) (v : Slot) (h_s : s.Ok) : State.Ok (State.setInSlot s k v) := by
  unfold State.setInSlot; simp +contextual (maxDischargeDepth := 40) [*]

@[simp] theorem State.updInSlot_ok (s : State) (k : Nat) (g : Slot → Slot) (h_s : s.Ok) : State.Ok (State.updInSlot s k g) := by
  unfold State.updInSlot; simp +contextual (maxDischargeDepth := 40) [*]

@[simp] theorem State.setOutSlot_ok (s : State) (k : Nat) (v : Slot) (h_s : s.Ok) : State.Ok (State.setOutSlot s k v) := by
  unfold State.setOutSlot; simp +contextual (maxDischargeDepth := 40) [*]

@[simp] theorem State.updOutSlot_ok (s : State) (k : Nat) (g : Slot → Slot) (h_s : s.Ok) : State.Ok (State.updOutSlot s k g) := by
  unfold State.updOutSlot; simp +contextual (maxDischargeDepth := 40) [*]

@[simp] theorem State.setIntSlot_ok (s : State) (k : Nat) (v : Slot) (h_s : s.Ok) : State.Ok (State.setIntSlot s k v) := by
  unfold State.setIntSlot; simp +contextual (maxDischargeDepth := 40) [*]

@[simp] theorem State.updIntSlot_ok (s : State) (k : Nat) (g : Slot → Slot) (h_s : s.Ok) : State.Ok (State.updIntSlot s k g) := by
  unfold State.updIntSlot; simp +contextual (maxDischargeDepth := 40) [*]

@[simp] theorem State.setCls_ok (s : State) (k : Nat) (v : AllocClass) (h_s : s.Ok) : State.Ok (State.setCls s k v) := by
  unfold State.setCls; simp +contextual (maxDischargeDepth := 40) [*]

@[simp] theorem State.updCls_ok (s : State) (k : Nat) (g : AllocClass → AllocClass) (h_s : s.Ok) : State.Ok (State.updCls s k g) := by
  unfold State.updCls; simp +contextual (maxDischargeDepth := 40) [*]

@[simp] theorem State.setCalW_ok (s : State) (k : Nat) (v : W32) (h_s : s.Ok) : State.Ok (State.setCalW s k v) := by
  unfold State.setCalW; simp +contextual (maxDischargeDepth := 40) [*]

@[simp] theorem State.updCalW_ok (s : State) (k : Nat) (g : W32 → W32) (h_s : s.Ok) : State.Ok (State.updCalW s k g) := by
  unfold State.updCalW; simp +contextual (maxDischargeDepth := 40) [*]

@[simp] theorem State.setCalSlot_ok (s : State) (k : Nat) (v : CalSlot) (h_s : s.Ok) : State.Ok (State.setCalSlot s k v) := by
  unfold State.setCalSlot; simp +contextual (maxDischargeDepth := 40) [*]

@[simp] theorem State.updCalSlot_ok (s : State) (k : Nat) (g : CalSlot → CalSlot) (h_s : s.Ok) : State.Ok (State.updCalSlot s k g) := by
  unfold State.updCalSlot; simp +contextual (maxDischargeDepth := 40) [*]

@[simp] theorem State.setGen_ok (s : State) (k : Nat) (v : Gen) (h_s : s.Ok) : State.Ok (State.setGen s k v) := by
  unfold State.setGen; simp +contextual (maxDischargeDepth := 40) [*]

@[simp] theorem State.updGen_ok (s : State) (k : Nat) (g : Gen → Gen) (h_s : s.Ok) : State.Ok (State.updGen s k g) := by
  unfold State.updGen; simp +contextual (maxDischargeDepth := 40) [*]

@[simp] theorem State.setLineW_ok (s : State) (k : Nat) (v : W32) (h_s : s.Ok) : State.Ok (State.setLineW s k v) := by
  unfold State.setLineW; simp +contextual (maxDischargeDepth := 40) [*]

@[simp] theorem State.updLineW_ok (s : State) (k : Nat) (g : W32 → W32) (h_s : s.Ok) : State.Ok (State.updLineW s k g) := by
  unfold State.updLineW; simp +contextual (maxDischargeDepth := 40) [*]

@[simp] theorem State.setPartW_ok (s : State) (k : Nat) (v : W32) (h_s : s.Ok) : State.Ok (State.setPartW s k v) := by
  unfold State.setPartW; simp +contextual (maxDischargeDepth := 40) [*]

@[simp] theorem State.updPartW_ok (s : State) (k : Nat) (g : W32 → W32) (h_s : s.Ok) : State.Ok (State.updPartW s k g) := by
  unfold State.updPartW; simp +contextual (maxDischargeDepth := 40) [*]

@[simp] theorem State.setLane_ok (s : State) (k : Nat) (v : Lane) (h_s : s.Ok) : State.Ok (State.setLane s k v) := by
  unfold State.setLane; simp +contextual (maxDischargeDepth := 40) [*]

@[simp] theorem State.updLane_ok (s : State) (k : Nat) (g : Lane → Lane) (h_s : s.Ok) : State.Ok (State.updLane s k g) := by
  unfold State.updLane; simp +contextual (maxDischargeDepth := 40) [*]

@[simp] theorem State.setPartner_ok (s : State) (k : Nat) (v : Partner) (h_s : s.Ok) : State.Ok (State.setPartner s k v) := by
  unfold State.setPartner; simp +contextual (maxDischargeDepth := 40) [*]

@[simp] theorem State.updPartner_ok (s : State) (k : Nat) (g : Partner → Partner) (h_s : s.Ok) : State.Ok (State.updPartner s k g) := by
  unfold State.updPartner; simp +contextual (maxDischargeDepth := 40) [*]

@[simp] theorem State.setCore_ok (s : State) (k : Nat) (v : Core) (h_s : s.Ok) : State.Ok (State.setCore s k v) := by
  unfold State.setCore; simp +contextual (maxDischargeDepth := 40) [*]

@[simp] theorem State.updCore_ok (s : State) (k : Nat) (g : Core → Core) (h_s : s.Ok) : State.Ok (State.updCore s k g) := by
  unfold State.updCore; simp +contextual (maxDischargeDepth := 40) [*]

@[simp] theorem State.setSq_ok (s : State) (k : Nat) (v : Sq) (h_s : s.Ok) : State.Ok (State.setSq s k v) := by
  unfold State.setSq; simp +contextual (maxDischargeDepth := 40) [*]

@[simp] theorem State.updSq_ok (s : State) (k : Nat) (g : Sq → Sq) (h_s : s.Ok) : State.Ok (State.updSq s k g) := by
  unfold State.updSq; simp +contextual (maxDischargeDepth := 40) [*]

@[simp] theorem State.setCq_ok (s : State) (k : Nat) (v : Cq) (h_s : s.Ok) : State.Ok (State.setCq s k v) := by
  unfold State.setCq; simp +contextual (maxDischargeDepth := 40) [*]

@[simp] theorem State.updCq_ok (s : State) (k : Nat) (g : Cq → Cq) (h_s : s.Ok) : State.Ok (State.updCq s k g) := by
  unfold State.updCq; simp +contextual (maxDischargeDepth := 40) [*]

@[simp] theorem State.setSrc_ok (s : State) (k : Nat) (v : Src) (h_s : s.Ok) : State.Ok (State.setSrc s k v) := by
  unfold State.setSrc; simp +contextual (maxDischargeDepth := 40) [*]

@[simp] theorem State.updSrc_ok (s : State) (k : Nat) (g : Src → Src) (h_s : s.Ok) : State.Ok (State.updSrc s k g) := by
  unfold State.updSrc; simp +contextual (maxDischargeDepth := 40) [*]

@[simp] theorem State.setStack_ok (s : State) (k : Nat) (v : List (Nat × Nat)) (h_s : s.Ok) : State.Ok (State.setStack s k v) := by
  unfold State.setStack; simp +contextual (maxDischargeDepth := 40) [*]

@[simp] theorem State.updStack_ok (s : State) (k : Nat) (g : List (Nat × Nat) → List (Nat × Nat)) (h_s : s.Ok) : State.Ok (State.updStack s k g) := by
  unfold State.updStack; simp +contextual (maxDischargeDepth := 40) [*]

@[simp] theorem State.setClaimed_ok (s : State) (k : Nat) (v : Option Nat) (h_s : s.Ok) : State.Ok (State.setClaimed s k v) := by
  unfold State.setClaimed; simp +contextual (maxDischargeDepth := 40) [*]

@[simp] theorem State.updClaimed_ok (s : State) (k : Nat) (g : Option Nat → Option Nat) (h_s : s.Ok) : State.Ok (State.updClaimed s k g) := by
  unfold State.updClaimed; simp +contextual (maxDischargeDepth := 40) [*]

@[simp] theorem State.setDma_ok (s : State) (k : Nat) (v : Dma) (h_s : s.Ok) : State.Ok (State.setDma s k v) := by
  unfold State.setDma; simp +contextual (maxDischargeDepth := 40) [*]

@[simp] theorem State.updDma_ok (s : State) (k : Nat) (g : Dma → Dma) (h_s : s.Ok) : State.Ok (State.updDma s k g) := by
  unfold State.updDma; simp +contextual (maxDischargeDepth := 40) [*]

@[simp] theorem State.setLatch_ok (s : State) (k : Nat) (v : W64) (h_s : s.Ok) : State.Ok (State.setLatch s k v) := by
  unfold State.setLatch; simp +contextual (maxDischargeDepth := 40) [*]

@[simp] theorem State.updLatch_ok (s : State) (k : Nat) (g : W64 → W64) (h_s : s.Ok) : State.Ok (State.updLatch s k g) := by
  unfold State.updLatch; simp +contextual (maxDischargeDepth := 40) [*]

@[simp] theorem State.setDom_ok (s : State) (k : Nat) (v : Dom) (h_s : s.Ok) : State.Ok (State.setDom s k v) := by
  unfold State.setDom; simp +contextual (maxDischargeDepth := 40) [*]

@[simp] theorem State.updDom_ok (s : State) (k : Nat) (g : Dom → Dom) (h_s : s.Ok) : State.Ok (State.updDom s k g) := by
  unfold State.updDom; simp +contextual (maxDischargeDepth := 40) [*]

@[simp] theorem State.setScr_ok (s : State) (k : Nat) (v : Scrub) (h_s : s.Ok) : State.Ok (State.setScr s k v) := by
  unfold State.setScr; simp +contextual (maxDischargeDepth := 40) [*]

@[simp] theorem State.updScr_ok (s : State) (k : Nat) (g : Scrub → Scrub) (h_s : s.Ok) : State.Ok (State.updScr s k g) := by
  unfold State.updScr; simp +contextual (maxDischargeDepth := 40) [*]

@[simp] theorem State.emit_ok (s : State) (e : Emit) (h_s : s.Ok) : State.Ok (State.emit s e) := by
  unfold State.emit; simp +contextual (maxDischargeDepth := 40) [*]

@[simp] theorem State.setClearing_ok (s : State) (d : Nat) (b : Bool) (h_s : s.Ok) : State.Ok (State.setClearing s d b) := by
  unfold State.setClearing; simp +contextual (maxDischargeDepth := 40) [*]

@[simp] theorem State.edge_ok (s : State) (i : Nat) (h_s : s.Ok) : State.Ok (State.edge s i) := by
  unfold State.edge; simp +contextual (maxDischargeDepth := 40) [*]

@[simp] theorem State.undeliverable_ok (s : State) (i : Nat) (h_s : s.Ok) : State.Ok (State.undeliverable s i) := by
  unfold State.undeliverable; simp +contextual (maxDischargeDepth := 40) [*]

@[simp] theorem State.raise_ok (s : State) (i : Nat) (h_s : s.Ok) : State.Ok (State.raise s i) := by
  unfold State.raise; simp +contextual (maxDischargeDepth := 40) [*]

@[simp] theorem State.raiseIf_ok (s : State) (b : Bool) (i : Nat) (h_s : s.Ok) : State.Ok (State.raiseIf s b i) := by
  unfold State.raiseIf; simp +contextual (maxDischargeDepth := 40) [*]

@[simp] theorem State.faultEdge_ok (old s : State) (h_old : old.Ok) (h_s : s.Ok) : State.Ok (State.faultEdge old s) := by
  unfold State.faultEdge; simp +contextual (maxDischargeDepth := 40) [*]

@[simp] theorem State.ridgeDown_ok (s : State) (h_s : s.Ok) : State.Ok (State.ridgeDown s) := by
  unfold State.ridgeDown; simp +contextual (maxDischargeDepth := 40) [*]

@[simp] theorem State.setFault_ok (s : State) (n : Nat) (h_s : s.Ok) : State.Ok (State.setFault s n) := by
  unfold State.setFault; simp +contextual (maxDischargeDepth := 40) [*]

@[simp] theorem State.uncorrectable_ok (s : State) (h_s : s.Ok) : State.Ok (State.uncorrectable s) := by
  unfold State.uncorrectable; simp +contextual (maxDischargeDepth := 40) [*]

@[simp] theorem State.corrected_ok (s : State) (k : Nat) (h_s : s.Ok) : State.Ok (State.corrected s k) := by
  unfold State.corrected; simp +contextual (maxDischargeDepth := 40) [*]

@[simp] theorem State.decodeError_ok (s : State) (addr master : Nat) (wr : Bool) (h_s : s.Ok) : State.Ok (State.decodeError s addr master wr) := by
  unfold State.decodeError; simp +contextual (maxDischargeDepth := 40) [*]

@[simp] theorem State.usedHost_ok (s : State) (h_s : s.Ok) : State.Ok (State.usedHost s) := by
  unfold State.usedHost; simp +contextual (maxDischargeDepth := 40) [*]

@[simp] theorem State.hostWrite_ok (s : State) (a : Nat) (bs : List Byte) (h_s : s.Ok) : State.Ok (State.hostWrite s a bs) := by
  unfold State.hostWrite; simp +contextual (maxDischargeDepth := 40) [*]

@[simp] theorem State.storeWrite_ok (s : State) (off : Nat) (bs : List Byte) (h_s : s.Ok) : State.Ok (State.storeWrite s off bs) := by
  unfold State.storeWrite; simp +contextual (maxDischargeDepth := 40) [*]

@[simp] theorem State.storeError_ok (s : State) (a : Nat) (h_s : s.Ok) : State.Ok (State.storeError s a) := by
  unfold State.storeError; simp +contextual (maxDischargeDepth := 40) [*]

@[simp] theorem State.storeChecked_ok (s : State) (off n : Nat) (h_s : s.Ok) : State.Ok (State.storeChecked s off n) := by
  unfold State.storeChecked; (try dsimp only); repeat' split <;> simp +contextual (maxDischargeDepth := 40) [*]

@[simp] theorem State.busWrite_ok (s : State) (master off : Nat) (bs : List Byte) (h_s : s.Ok) : State.Ok (State.busWrite s master off bs).1 := by
  unfold State.busWrite; (try dsimp only); repeat' split <;> simp +contextual (maxDischargeDepth := 40) [*]

@[simp] theorem State.freeNext_ok (s : State) (h_s : s.Ok) : State.Ok (State.freeNext s).1 := by
  unfold State.freeNext; simp +contextual (maxDischargeDepth := 40) [*]

@[simp] theorem State.setCls_low_ok (s : State) (k : Nat) (a : AllocClass) (h_s : s.Ok) : State.Ok (State.setCls_low s k a) := by
  unfold State.setCls_low; simp +contextual (maxDischargeDepth := 40) [*]

@[simp] theorem State.allocMiss_ok (s : State) (k : Nat) (h_s : s.Ok) : State.Ok (State.allocMiss s k) := by
  unfold State.allocMiss; simp +contextual (maxDischargeDepth := 40) [*]

@[simp] theorem State.allocTake_ok (s : State) (k : Nat) (h : Holder) (h_s : s.Ok) : State.Ok (State.allocTake s k h) := by
  unfold State.allocTake; (try dsimp only); repeat' split <;> simp +contextual (maxDischargeDepth := 40) [*]

@[simp] theorem State.allocFree_ok (s : State) (k b : Nat) (h_s : s.Ok) : State.Ok (State.allocFree s k b) := by
  unfold State.allocFree; simp +contextual (maxDischargeDepth := 40) [*]

@[simp] theorem State.reclaim_ok (s : State) (b : Nat) (h_s : s.Ok) : State.Ok (State.reclaim s b) := by
  unfold State.reclaim; (try dsimp only); repeat' split <;> simp +contextual (maxDischargeDepth := 40) [*]

@[simp] theorem State.reclaimAll_ok (s : State) (bs : List (Option Nat)) (h_s : s.Ok) : State.Ok (State.reclaimAll s bs) := by
  unfold State.reclaimAll; repeat' (first | assumption | (simp +contextual (maxDischargeDepth := 40) [*]; done) | (first | exact State.pageFail_ok _ _ _ ‹_› _ ‹_› | exact State.inputFail_ok _ _ ‹_› _ ‹_› | exact State.stateFail_ok _ _ ‹_› _ ‹_› | exact State.readParity_ok _ _ _ ‹_› _ ‹_› | exact State.pinFails_ok _ _ _ _ _ ‹_› _ ‹_›) | (refine ok_pair (by assumption) ?_) | intro _ | split | (apply ok_forEach) | (apply ok_foldp) | (apply ok_fold1) | dsimp only)

@[simp] theorem State.reserve_ok (s : State) (k : Nat) (h : Holder) (n : Nat) (h_s : s.Ok) : State.Ok (State.reserve s k h n) := by
  unfold State.reserve; simp +contextual (maxDischargeDepth := 40) [*]

@[simp] theorem State.unreserve_ok (s : State) (k : Nat) (h : Holder) (n : Nat) (h_s : s.Ok) : State.Ok (State.unreserve s k h n) := by
  unfold State.unreserve; simp +contextual (maxDischargeDepth := 40) [*]

@[simp] theorem State.resetRegs_ok (s : State) (p : Nat → Bool) (h_s : s.Ok) : State.Ok (State.resetRegs s p) := by
  unfold State.resetRegs; simp +contextual (maxDischargeDepth := 40) [*]

@[simp] theorem State.aer_ok (s : State) (b : Nat) (h_s : s.Ok) : State.Ok (State.aer s b) := by
  unfold State.aer; simp +contextual (maxDischargeDepth := 40) [*]

@[simp] theorem State.sendMsix_ok (s : State) (v : Nat) (h_s : s.Ok) : State.Ok (State.sendMsix s v) := by
  unfold State.sendMsix; simp +contextual (maxDischargeDepth := 40) [*]

@[simp] theorem State.setPba_ok (s : State) (v : Nat) (h_s : s.Ok) : State.Ok (State.setPba s v) := by
  unfold State.setPba; simp +contextual (maxDischargeDepth := 40) [*]

@[simp] theorem State.signal_ok (s : State) (v : Nat) (h_s : s.Ok) : State.Ok (State.signal s v) := by
  unfold State.signal; simp +contextual (maxDischargeDepth := 40) [*]

@[simp] theorem State.flushPba_ok (s : State) (h_s : s.Ok) : State.Ok (State.flushPba s) := by
  unfold State.flushPba; simp +contextual (maxDischargeDepth := 40) [*]

@[simp] theorem State.ringWrite_ok (s : State) (k : Nat) (e : List Byte) (h_s : s.Ok) : State.Ok (State.ringWrite s k e) := by
  unfold State.ringWrite; simp +contextual (maxDischargeDepth := 40) [*]

@[simp] theorem State.cqSignal_ok (s : State) (k : Nat) (h_s : s.Ok) : State.Ok (State.cqSignal s k) := by
  unfold State.cqSignal; simp +contextual (maxDischargeDepth := 40) [*]

@[simp] theorem State.moderate_ok (s : State) (k : Nat) (h_s : s.Ok) : State.Ok (State.moderate s k) := by
  unfold State.moderate; simp +contextual (maxDischargeDepth := 40) [*]

@[simp] theorem State.moderateIf_ok (s : State) (now : Bool) (k : Nat) (h_s : s.Ok) : State.Ok (State.moderateIf s now k) := by
  unfold State.moderateIf; simp +contextual (maxDischargeDepth := 40) [*]

@[simp] theorem State.cqPut_ok (s : State) (now : Bool) (k : Nat) (e : List Byte) (h_s : s.Ok) : State.Ok (State.cqPut s now k e) := by
  unfold State.cqPut; simp +contextual (maxDischargeDepth := 40) [*]

@[simp] theorem State.postCompletion_ok (s : State) (k : Nat) (e : List Byte) (h_s : s.Ok) : State.Ok (State.postCompletion s k e) := by
  unfold State.postCompletion; simp +contextual (maxDischargeDepth := 40) [*]

@[simp] theorem State.cqDrain_ok (now : Bool) (k n : Nat) : ∀ s : State, s.Ok → (s.cqDrain now k n).Ok := by
  induction n with
  | zero => intro s h; exact h
  | succ n ih => intro s h; unfold State.cqDrain; dsimp only; split <;> (try split) <;> simp +contextual (maxDischargeDepth := 40) [*]

@[simp] theorem State.evSignal_ok (s : State) (v) (h_s : s.Ok) : (s.evSignal v).Ok := by
  unfold State.evSignal; (first | (simp +contextual (maxDischargeDepth := 40) [*]; done) | (repeat' (first | assumption | (simp +contextual (maxDischargeDepth := 40) [*]; done) | (first | exact State.pageFail_ok _ _ _ ‹_› _ ‹_› | exact State.inputFail_ok _ _ ‹_› _ ‹_› | exact State.stateFail_ok _ _ ‹_› _ ‹_› | exact State.readParity_ok _ _ _ ‹_› _ ‹_› | exact State.pinFails_ok _ _ _ _ _ ‹_› _ ‹_›) | (refine ok_pair (by assumption) ?_) | (with_reducible apply State.signal_ok) | (with_reducible apply ok_forEach) | (with_reducible apply ok_fold1) | (with_reducible apply ok_foldp) | (with_reducible apply ok_setReg) | intro _ | split | (dsimp only; done) | dsimp only)))

@[simp] theorem State.evDrop_ok (s : State) (e : EvEntry) (h_s : s.Ok) : State.Ok (State.evDrop s e) := by
  unfold State.evDrop; (try dsimp only); repeat' split <;> simp +contextual (maxDischargeDepth := 40) [*]

@[simp] theorem State.evWrite_ok (s : State) (e : EvEntry) (h_s : s.Ok) : State.Ok (State.evWrite s e) := by
  unfold State.evWrite; simp +contextual (maxDischargeDepth := 40) [*]

@[simp] theorem State.evPut_ok (s : State) (e : EvEntry) (h_s : s.Ok) : State.Ok (State.evPut s e) := by
  unfold State.evPut; simp +contextual (maxDischargeDepth := 40) [*]

@[simp] theorem State.postEvent_ok (s : State) (e : EvEntry) (h_s : s.Ok) : State.Ok (State.postEvent s e) := by
  unfold State.postEvent; simp +contextual (maxDischargeDepth := 40) [*]

@[simp] theorem State.cqRoom_ok (s : State) (now : Bool) (k : Nat) (h_s : s.Ok) : State.Ok (State.cqRoom s now k) := by
  unfold State.cqRoom; (try dsimp only); (first | (simp +contextual (maxDischargeDepth := 40) [*]; done) | (repeat' (first | assumption | (simp +contextual (maxDischargeDepth := 40) [*]; done) | (first | exact State.pageFail_ok _ _ _ ‹_› _ ‹_› | exact State.inputFail_ok _ _ ‹_› _ ‹_› | exact State.stateFail_ok _ _ ‹_› _ ‹_› | exact State.readParity_ok _ _ _ ‹_› _ ‹_› | exact State.pinFails_ok _ _ _ _ _ ‹_› _ ‹_›) | (refine ok_pair (by assumption) ?_) | (with_reducible apply State.cqRoom_ok) | (with_reducible apply State.cqDrain_ok) | (with_reducible apply ok_forEach) | (with_reducible apply ok_fold1) | (with_reducible apply ok_foldp) | (with_reducible apply ok_setReg) | intro _ | split | (dsimp only; done) | dsimp only)))

@[simp] theorem State.moderateN_ok (s : State) (k n : Nat) (h_s : s.Ok) : State.Ok (State.moderateN s k n) := by
  unfold State.moderateN; simp +contextual (maxDischargeDepth := 40) [*]

@[simp] theorem State.releaseHeld_ok (s : State) (h_s : s.Ok) : State.Ok (State.releaseHeld s) := by
  unfold State.releaseHeld; simp +contextual (maxDischargeDepth := 40) [*]

@[simp] theorem State.countEnd_ok (s : State) (st : Status) (h_s : s.Ok) : State.Ok (State.countEnd s st) := by
  unfold State.countEnd; (try dsimp only); repeat' split <;> simp +contextual (maxDischargeDepth := 40) [*]

@[simp] theorem State.stopQueue_ok (s : State) (q why : Nat) (h_s : s.Ok) : State.Ok (State.stopQueue s q why) := by
  unfold State.stopQueue; simp +contextual (maxDischargeDepth := 40) [*]

@[simp] theorem State.endSegment_ok (s : State) (q at_ cid index : Nat) (st : Status) (result : Nat) (h_s : s.Ok) : State.Ok (State.endSegment s q at_ cid index st result) := by
  unfold State.endSegment; (try dsimp only); repeat' split <;> simp +contextual (maxDischargeDepth := 40) [*]

@[simp] theorem State.finish_ok (s : State) (q : Nat) (st : Status) (result : Nat) (h_s : s.Ok) : State.Ok (State.finish s q st result) := by
  unfold State.finish; (try dsimp only); repeat' split <;> simp +contextual (maxDischargeDepth := 40) [*]

@[simp] theorem State.wait_ok (s : State) (q : Nat) (h_s : s.Ok) : State.Ok (State.wait s q) := by
  unfold State.wait; simp +contextual (maxDischargeDepth := 40) [*]

@[simp] theorem State.finishWaiting_ok (s : State) (q op : Nat) (st : Status) (result : Nat) (h_s : s.Ok) : State.Ok (State.finishWaiting s q op st result) := by
  unfold State.finishWaiting; simp +contextual (maxDischargeDepth := 40) [*]

@[simp] theorem State.setRecOf_ok (s : State) (t w : Nat) (v : W32) (h_s : s.Ok) : State.Ok (State.setRecOf s t w v) := by
  unfold State.setRecOf; simp +contextual (maxDischargeDepth := 40) [*]

@[simp] theorem State.setSlotOf_ok (s : State) (h : Holder) (v : Slot) (h_s : s.Ok) : State.Ok (State.setSlotOf s h v) := by
  unfold State.setSlotOf; (try dsimp only); repeat' split <;> simp +contextual (maxDischargeDepth := 40) [*]

@[simp] theorem State.addResv_ok (s : State) (l : List (Nat × Holder × Nat)) (h_s : s.Ok) : State.Ok (State.addResv s l) := by
  unfold State.addResv; simp +contextual (maxDischargeDepth := 40) [*]

@[simp] theorem State.dropResv_ok (s : State) (l : List (Nat × Holder × Nat)) (h_s : s.Ok) : State.Ok (State.dropResv s l) := by
  unfold State.dropResv; repeat' (first | assumption | (simp +contextual (maxDischargeDepth := 40) [*]; done) | (first | exact State.pageFail_ok _ _ _ ‹_› _ ‹_› | exact State.inputFail_ok _ _ ‹_› _ ‹_› | exact State.stateFail_ok _ _ ‹_› _ ‹_› | exact State.readParity_ok _ _ _ ‹_› _ ‹_› | exact State.pinFails_ok _ _ _ _ _ ‹_› _ ‹_›) | (refine ok_pair (by assumption) ?_) | intro _ | split | (apply ok_forEach) | (apply ok_foldp) | (apply ok_fold1) | dsimp only)

@[simp] theorem State.dropPages_ok (s : State) (c : Nat) (g : PageId → Bool) (h_s : s.Ok) : State.Ok (State.dropPages s c g) := by
  unfold State.dropPages; simp +contextual (maxDischargeDepth := 40) [*]

@[simp] theorem State.freeGen_ok (s : State) (i : Nat) (h_s : s.Ok) : State.Ok (State.freeGen s i) := by
  unfold State.freeGen; simp +contextual (maxDischargeDepth := 40) [*]

@[simp] theorem State.promoteGen_ok (s : State) (h_s : s.Ok) : State.Ok (State.promoteGen s) := by
  unfold State.promoteGen; (try dsimp only); repeat' split <;> simp +contextual (maxDischargeDepth := 40) [*]

@[simp] theorem State.retireGen_ok (s : State) (h_s : s.Ok) : State.Ok (State.retireGen s) := by
  unfold State.retireGen; (try dsimp only); repeat' split <;> simp +contextual (maxDischargeDepth := 40) [*]

@[simp] theorem State.bindGen_ok (s : State) (n : Nat) (h_s : s.Ok) : State.Ok (State.bindGen s n) := by
  unfold State.bindGen; (try dsimp only); repeat' split <;> simp +contextual (maxDischargeDepth := 40) [*]

@[simp] theorem State.unbindGen_ok (s : State) (n : Nat) (h_s : s.Ok) : State.Ok (State.unbindGen s n) := by
  unfold State.unbindGen; (try dsimp only); repeat' split <;> simp +contextual (maxDischargeDepth := 40) [*]

@[simp] theorem State.giveFrame_ok (s : State) (c sp f : Nat) (p : Option PageId) (ok : Bool) (h_s : s.Ok) : State.Ok (State.giveFrame s c sp f p ok) := by
  unfold State.giveFrame; simp +contextual (maxDischargeDepth := 40) [*]

@[simp] theorem State.dropCopies_ok (s : State) (c sp f : Nat) (p : PageId) (h_s : s.Ok) : State.Ok (State.dropCopies s c sp f p) := by
  unfold State.dropCopies; simp +contextual (maxDischargeDepth := 40) [*]

@[simp] theorem State.fillFrame_ok (s : State) (c sp f : Nat) (ws : List W16) (h_s : s.Ok) : State.Ok (State.fillFrame s c sp f ws) := by
  unfold State.fillFrame; simp +contextual (maxDischargeDepth := 40) [*]

@[simp] theorem State.pageRead_ok (s : State) (v) (h_s : s.Ok) : (s.pageRead v).Ok := by
  unfold State.pageRead; (first | (simp +contextual (maxDischargeDepth := 40) [*]; done) | (repeat' (first | assumption | (simp +contextual (maxDischargeDepth := 40) [*]; done) | (first | exact State.pageFail_ok _ _ _ ‹_› _ ‹_› | exact State.inputFail_ok _ _ ‹_› _ ‹_› | exact State.stateFail_ok _ _ ‹_› _ ‹_› | exact State.readParity_ok _ _ _ ‹_› _ ‹_› | exact State.pinFails_ok _ _ _ _ _ ‹_› _ ‹_›) | (refine ok_pair (by assumption) ?_) | (with_reducible apply State.pageRead_ok) | (with_reducible apply State.usedHost_ok) | (with_reducible apply ok_forEach) | (with_reducible apply ok_fold1) | (with_reducible apply ok_foldp) | (with_reducible apply ok_setReg) | intro _ | split | (dsimp only; done) | dsimp only)))

theorem State.pageFail_ok (s : State) (p : PageId) (hostOk : Bool) (h_s : s.Ok) : ∀ t, (State.pageFail s p hostOk) = some t → t.Ok := by
  intro t ht; unfold State.pageFail at ht; (repeat' split at ht) <;> (first | (cases ht; done) | (injection ht with ht; subst ht; simp [h_s]))

@[simp] theorem State.loadInto_ok (s : State) (cs : List Nat) (sp : Nat) (p : PageId) (f : Nat) (h_s : s.Ok) : State.Ok (State.loadInto s cs sp p f) := by
  unfold State.loadInto; repeat' (first | assumption | (simp +contextual (maxDischargeDepth := 40) [*]; done) | (first | exact State.pageFail_ok _ _ _ ‹_› _ ‹_› | exact State.inputFail_ok _ _ ‹_› _ ‹_› | exact State.stateFail_ok _ _ ‹_› _ ‹_› | exact State.readParity_ok _ _ _ ‹_› _ ‹_› | exact State.pinFails_ok _ _ _ _ _ ‹_› _ ‹_›) | (refine ok_pair (by assumption) ?_) | intro _ | split | (apply ok_forEach) | (apply ok_foldp) | (apply ok_fold1) | dsimp only)

@[simp] theorem State.loadPage_ok (s : State) (cs : List Nat) (sp : Nat) (p : PageId) (h_s : s.Ok) : State.Ok (State.loadPage s cs sp p) := by
  unfold State.loadPage; repeat' (first | assumption | (simp +contextual (maxDischargeDepth := 40) [*]; done) | (first | exact State.pageFail_ok _ _ _ ‹_› _ ‹_› | exact State.inputFail_ok _ _ ‹_› _ ‹_› | exact State.stateFail_ok _ _ ‹_› _ ‹_› | exact State.readParity_ok _ _ _ ‹_› _ ‹_› | exact State.pinFails_ok _ _ _ _ _ ‹_› _ ‹_›) | (refine ok_pair (by assumption) ?_) | intro _ | split | (apply ok_forEach) | (apply ok_foldp) | (apply ok_fold1) | dsimp only)

@[simp] theorem State.spoilPages_ok (s : State) (c : Nat) (g : PageId → Bool) (h_s : s.Ok) : State.Ok (State.spoilPages s c g) := by
  unfold State.spoilPages; simp +contextual (maxDischargeDepth := 40) [*]

@[simp] theorem State.spoilState_ok (s : State) (t : Nat) (keep : List Nat) (h_s : s.Ok) : State.Ok (State.spoilState s t keep) := by
  unfold State.spoilState; simp +contextual (maxDischargeDepth := 40) [*]

@[simp] theorem State.pinAll_ok (s : State) (t : Nat) (h_s : s.Ok) : State.Ok (State.pinAll s t) := by
  unfold State.pinAll; repeat' (first | assumption | (simp +contextual (maxDischargeDepth := 40) [*]; done) | (first | exact State.pageFail_ok _ _ _ ‹_› _ ‹_› | exact State.inputFail_ok _ _ ‹_› _ ‹_› | exact State.stateFail_ok _ _ ‹_› _ ‹_› | exact State.readParity_ok _ _ _ ‹_› _ ‹_› | exact State.pinFails_ok _ _ _ _ _ ‹_› _ ‹_›) | (refine ok_pair (by assumption) ?_) | intro _ | split | (apply ok_forEach) | (apply ok_foldp) | (apply ok_fold1) | dsimp only)

@[simp] theorem State.setHome_ok (s : State) (t c : Nat) (h_s : s.Ok) : State.Ok (State.setHome s t c) := by
  unfold State.setHome; simp +contextual (maxDischargeDepth := 40) [*]

@[simp] theorem State.tryHome_ok (s : State) (t since : Nat) (h_s : s.Ok) : State.Ok (State.tryHome s t since) := by
  unfold State.tryHome; (try dsimp only); repeat' split <;> simp +contextual (maxDischargeDepth := 40) [*]

@[simp] theorem State.retryHomes_ok (s : State) (h_s : s.Ok) : State.Ok (State.retryHomes s) := by
  unfold State.retryHomes; simp +contextual (maxDischargeDepth := 40) [*]

@[simp] theorem State.checkRemoval_ok (s : State) (t : Nat) (h_s : s.Ok) : State.Ok (State.checkRemoval s t) := by
  unfold State.checkRemoval; simp +contextual (maxDischargeDepth := 40) [*]

@[simp] theorem State.checkStops_ok (s : State) (h_s : s.Ok) : State.Ok (State.checkStops s) := by
  unfold State.checkStops; simp +contextual (maxDischargeDepth := 40) [*]

@[simp] theorem State.endJob_ok (s : State) (j : Job) (h_s : s.Ok) : State.Ok (State.endJob s j) := by
  unfold State.endJob; simp +contextual (maxDischargeDepth := 40) [*]

@[simp] theorem State.stopClusters_ok (s : State) (cs : List Nat) (h_s : s.Ok) : State.Ok (State.stopClusters s cs) := by
  unfold State.stopClusters; simp +contextual (maxDischargeDepth := 40) [*]

theorem State.eachJob_ok (s : State) (l : List Job) (g : State → Job → State) (h_s : s.Ok) (hg : ∀ s j, s.Ok → (g s j).Ok) :
    State.Ok (State.eachJob s l g) := by
  unfold State.eachJob
  apply ok_forEach h_s
  intro s k h
  split
  · exact hg _ _ h
  · exact h

@[simp] theorem State.putJob_ok (s : State) (old new : Job) (h_s : s.Ok) : State.Ok (State.putJob s old new) := by
  unfold State.putJob; simp +contextual (maxDischargeDepth := 40) [*]

@[simp] theorem State.abandon_ok (s : State) (j : Job) (h_s : s.Ok) : State.Ok (State.abandon s j) := by
  unfold State.abandon
  apply State.endJob_ok
  apply State.spoilState_ok
  apply ok_forEach
  · simp [h_s]
  · intro s b h
    split
    · exact State.allocFree_ok _ _ _ h
    · exact h

@[simp] theorem State.dropJob_ok (s : State) (j : Job) (h_s : s.Ok) : State.Ok (State.dropJob s j) := by
  unfold State.dropJob; simp +contextual (maxDischargeDepth := 40) [*]

@[simp] theorem State.release_ok (s : State) (t n : Nat) (h_s : s.Ok) : State.Ok (State.release s t n) := by
  have key : ∀ (g : Nat) (j : Job) (x : State), x.Ok → (({ x with jobs := x.jobs ++ [j] } : State).bindGen g).Ok := by
    intro g j x h; apply State.bindGen_ok; simp [h]
  unfold State.release
  split
  · exact h_s
  extract_lets r a k mine nominal seq slots hdr gen deferred s1 s2 s3 s4 home j s5
  have h2 : s2.Ok := by simp (maxDischargeDepth := 20) [s2, s1, h_s]
  have h3 : s3.Ok := by simp only [s3]; split <;> simp (maxDischargeDepth := 20) [h2]
  have h4 : s4.Ok := by simp only [s4]; split <;> simp (maxDischargeDepth := 20) [h3]
  have h5 : s5.Ok := key _ _ _ h4
  refine ok_ite (by simp (maxDischargeDepth := 20) [h_s]) ?_
  clear_value s5 j home
  cases home
  · exact State.dropJob_ok _ _ h5
  · exact h5

@[simp] theorem State.dataRelease_ok (s : State) (h : Holder) (h_s : s.Ok) : State.Ok (State.dataRelease s h) := by
  unfold State.dataRelease; repeat' (first | assumption | (simp +contextual (maxDischargeDepth := 40) [*]; done) | (first | exact State.pageFail_ok _ _ _ ‹_› _ ‹_› | exact State.inputFail_ok _ _ ‹_› _ ‹_› | exact State.stateFail_ok _ _ ‹_› _ ‹_› | exact State.readParity_ok _ _ _ ‹_› _ ‹_› | exact State.pinFails_ok _ _ _ _ _ ‹_› _ ‹_›) | (refine ok_pair (by assumption) ?_) | intro _ | split | (apply ok_forEach) | (apply ok_foldp) | (apply ok_fold1) | dsimp only)

@[simp] theorem State.chargeFault_ok (s : State) (c : Nat) (h_s : s.Ok) : State.Ok (State.chargeFault s c) := by
  unfold State.chargeFault; simp +contextual (maxDischargeDepth := 40) [*]

@[simp] theorem State.reportFault_ok (s : State) (j : Job) (c cause : Nat) (h_s : s.Ok) : State.Ok (State.reportFault s j c cause) := by
  unfold State.reportFault; simp +contextual (maxDischargeDepth := 40) [*]

@[simp] theorem State.startReplay_ok (s : State) (j : Job) (c : Nat) (h_s : s.Ok) : State.Ok (State.startReplay s j c) := by
  unfold State.startReplay; simp +contextual (maxDischargeDepth := 40) [*]

@[simp] theorem State.abandonFault_ok (s : State) (j : Job) (h_s : s.Ok) : State.Ok (State.abandonFault s j) := by
  unfold State.abandonFault; simp +contextual (maxDischargeDepth := 40) [*]

@[simp] theorem State.recover_ok (s : State) (j : Job) (h_s : s.Ok) : State.Ok (State.recover s j) := by
  unfold State.recover
  split
  · exact State.abandonFault_ok _ _ h_s
  · split
    · exact State.startReplay_ok _ _ _ h_s
    · apply State.abandonFault_ok; simp [h_s]

@[simp] theorem State.rehomeOne_ok (s : State) (t : Nat) (h_s : s.Ok) : State.Ok (State.rehomeOne s t) := by
  have h1 := State.tryHome_ok s t (s.task t).since h_s
  unfold State.rehomeOne
  dsimp only
  split
  · exact State.eachJob_ok _ _ _ (State.raise_ok _ _ h1) (fun _ _ h => State.abandon_ok _ _ h)
  · exact State.eachJob_ok _ _ _ h1 (fun _ _ h => State.putJob_ok _ _ _ h)

@[simp] theorem State.replace_ok (s : State) (c : Nat) (j : Job) (h_s : s.Ok) : State.Ok (State.replace s c j) := by
  unfold State.replace; (try dsimp only); repeat' split <;> simp +contextual (maxDischargeDepth := 40) [*]

@[simp] theorem State.rehome_ok (s : State) (c : Nat) (h_s : s.Ok) : State.Ok (State.rehome s c) := by
  unfold State.rehome
  dsimp only
  apply State.eachJob_ok
  · apply ok_forEach
    · apply ok_forEach h_s
      intro s t h; exact State.updTask_ok _ _ _ h
    · intro s t h; exact State.rehomeOne_ok _ _ h
  · intro s j h; exact State.replace_ok _ _ _ h

@[simp] theorem State.fence_ok (s : State) (c : Nat) (h_s : s.Ok) : State.Ok (State.fence s c) := by
  unfold State.fence; simp +contextual (maxDischargeDepth := 40) [*]

@[simp] theorem State.fenceCharged_ok (s : State) (cs : List Nat) (policy fenceAt : Nat) (h_s : s.Ok) : State.Ok (State.fenceCharged s cs policy fenceAt) := by
  unfold State.fenceCharged; simp +contextual (maxDischargeDepth := 40) [*]

@[simp] theorem State.faultJob_ok (s : State) (j : Job) (c cause : Nat) (h_s : s.Ok) : State.Ok (State.faultJob s j c cause) := by
  unfold State.faultJob; (try dsimp only); (first | (simp +contextual (maxDischargeDepth := 40) [*]; done) | (repeat' (first | assumption | (simp +contextual (maxDischargeDepth := 40) [*]; done) | (first | exact State.pageFail_ok _ _ _ ‹_› _ ‹_› | exact State.inputFail_ok _ _ ‹_› _ ‹_› | exact State.stateFail_ok _ _ ‹_› _ ‹_› | exact State.readParity_ok _ _ _ ‹_› _ ‹_› | exact State.pinFails_ok _ _ _ _ _ ‹_› _ ‹_›) | (refine ok_pair (by assumption) ?_) | (with_reducible apply State.faultJob_ok) | (with_reducible apply State.reportFault_ok) | (with_reducible apply State.forEach_ok) | (with_reducible apply State.updCluster_ok) | (with_reducible apply State.spoilPages_ok) | (with_reducible apply State.allocFree_ok) | (with_reducible apply State.putJob_ok) | (with_reducible apply State.recover_ok) | (with_reducible apply State.fenceCharged_ok) | (with_reducible apply ok_forEach) | (with_reducible apply ok_fold1) | (with_reducible apply ok_foldp) | (with_reducible apply ok_setReg) | intro _ | split | (dsimp only; done) | dsimp only)))

@[simp] theorem State.instFault_ok (s : State) (c cause : Nat) (h_s : s.Ok) : State.Ok (State.instFault s c cause) := by
  unfold State.instFault; (try dsimp only); repeat' split <;> simp +contextual (maxDischargeDepth := 40) [*]

@[simp] theorem State.fromMate_ok (s : State) (c sp a : Nat) (h_s : s.Ok) : State.Ok (State.fromMate s c sp a) := by
  unfold State.fromMate; simp +contextual (maxDischargeDepth := 40) [*]

@[simp] theorem State.clusterParity_ok (s : State) (c sp a : Nat) (h_s : s.Ok) : State.Ok (State.clusterParity s c sp a) := by
  have h1 := State.fromMate_ok s c sp a h_s
  have h2 := State.uncorrectable_ok s h_s
  have h3 := fun g => State.updCluster_ok s c g h_s
  unfold State.clusterParity
  extract_lets x f invalid
  have h4 : invalid.Ok := h3 _
  have h5 := State.uncorrectable_ok _ h4
  have h6 := fun ws => State.fillFrame_ok s c sp f ws h_s
  clear_value x f invalid
  repeat' split
  all_goals first | with_reducible assumption | with_reducible exact h6 _

@[simp] theorem State.accessParity_ok (s : State) (c sp a : Nat) (h_s : s.Ok) : State.Ok (State.accessParity s c sp a) := by
  unfold State.accessParity; simp +contextual (maxDischargeDepth := 40) [*]

@[simp] theorem State.issue_ok (s : State) (c : Nat) (g : Cluster → Op) (h_s : s.Ok) : State.Ok (State.issue s c g) := by
  unfold State.issue; simp +contextual (maxDischargeDepth := 40) [*]

@[simp] theorem State.diverge_ok (s : State) (c : Nat) (h_s : s.Ok) : State.Ok (State.diverge s c) := by
  unfold State.diverge; simp +contextual (maxDischargeDepth := 40) [*]

@[simp] theorem State.judge_ok (s : State) (c n : Nat) (h_s : s.Ok) : State.Ok (State.judge s c n) := by
  unfold State.judge; simp +contextual (maxDischargeDepth := 40) [*]

@[simp] theorem State.hold_ok (s : State) (c : Nat) (h_s : s.Ok) : State.Ok (State.hold s c) := by
  unfold State.hold; simp +contextual (maxDischargeDepth := 40) [*]

@[simp] theorem State.trapAt_ok (s : State) (c cause syl : Nat) (h_s : s.Ok) : State.Ok (State.trapAt s c cause syl) := by
  unfold State.trapAt; (try dsimp only); repeat' split <;> simp +contextual (maxDischargeDepth := 40) [*]

@[simp] theorem State.failAt_ok (s : State) (c : Nat) (f : Fail) (h_s : s.Ok) : State.Ok (State.failAt s c f) := by
  unfold State.failAt; (try dsimp only); repeat' split <;> simp +contextual (maxDischargeDepth := 40) [*]

@[simp] theorem State.killedCycle_ok (s : State) (c : Nat) (h_s : s.Ok) : State.Ok (State.killedCycle s c) := by
  unfold State.killedCycle
  apply State.judge_ok
  split
  · split
    · apply State.failAt_ok; exact State.setCluster_ok _ _ _ h_s
    · apply State.updCluster_ok; exact State.setCluster_ok _ _ _ h_s
  · exact State.setCluster_ok _ _ _ h_s

@[simp] theorem State.endCycle_ok (s : State) (c : Nat) (h_s : s.Ok) : State.Ok (State.endCycle s c) := by
  unfold State.endCycle; simp +contextual (maxDischargeDepth := 40) [*]

@[simp] theorem State.issuedCycle_ok (s : State) (c : Nat) (h_s : s.Ok) : State.Ok (State.issuedCycle s c) := by
  unfold State.issuedCycle; simp +contextual (maxDischargeDepth := 40) [*]

@[simp] theorem State.drainCycle_ok (s : State) (c : Nat) (h_s : s.Ok) : State.Ok (State.drainCycle s c) := by
  unfold State.drainCycle; simp +contextual (maxDischargeDepth := 40) [*]

@[simp] theorem State.tick_ok (s : State) (c : Nat) (h_s : s.Ok) : State.Ok (State.tick s c) := by
  unfold State.tick; repeat' (first | assumption | (simp +contextual (maxDischargeDepth := 40) [*]; done) | (first | exact State.pageFail_ok _ _ _ ‹_› _ ‹_› | exact State.inputFail_ok _ _ ‹_› _ ‹_› | exact State.stateFail_ok _ _ ‹_› _ ‹_› | exact State.readParity_ok _ _ _ ‹_› _ ‹_› | exact State.pinFails_ok _ _ _ _ _ ‹_› _ ‹_›) | (refine ok_pair (by assumption) ?_) | intro _ | split | (apply ok_forEach) | (apply ok_foldp) | (apply ok_fold1) | dsimp only)

@[simp] theorem State.reissue_ok (s : State) (c : Nat) (r : Resume) (h_s : s.Ok) : State.Ok (State.reissue s c r) := by
  unfold State.reissue; simp +contextual (maxDischargeDepth := 40) [*]

@[simp] theorem State.resumeGo_ok (s : State) (c : Nat) (r : Resume) (h_s : s.Ok) : State.Ok (State.resumeGo s c r) := by
  unfold State.resumeGo; repeat' (first | assumption | (simp +contextual (maxDischargeDepth := 40) [*]; done) | (first | exact State.pageFail_ok _ _ _ ‹_› _ ‹_› | exact State.inputFail_ok _ _ ‹_› _ ‹_› | exact State.stateFail_ok _ _ ‹_› _ ‹_› | exact State.readParity_ok _ _ _ ‹_› _ ‹_› | exact State.pinFails_ok _ _ _ _ _ ‹_› _ ‹_›) | (refine ok_pair (by assumption) ?_) | intro _ | split | (apply ok_forEach) | (apply ok_foldp) | (apply ok_fold1) | dsimp only)

@[simp] theorem State.resumeFail_ok (s : State) (c : Nat) (h_s : s.Ok) : State.Ok (State.resumeFail s c) := by
  unfold State.resumeFail; simp +contextual (maxDischargeDepth := 40) [*]

@[simp] theorem State.writeResume_ok (s : State) (c v : Nat) (h_s : s.Ok) : State.Ok (State.writeResume s c v) := by
  unfold State.writeResume; simp +contextual (maxDischargeDepth := 40) [*]

@[simp] theorem State.genStatus_ok (s : State) (result num reason : Nat) (h_s : s.Ok) : State.Ok (State.genStatus s result num reason) := by
  unfold State.genStatus; simp +contextual (maxDischargeDepth := 40) [*]

@[simp] theorem State.openGen_ok (s : State) (h_s : s.Ok) : State.Ok (State.openGen s) := by
  unfold State.openGen; (try dsimp only); repeat' split <;> simp +contextual (maxDischargeDepth := 40) [*]

@[simp] theorem State.abandonGen_ok (s : State) (h_s : s.Ok) : State.Ok (State.abandonGen s) := by
  unfold State.abandonGen; (try dsimp only); repeat' split <;> simp +contextual (maxDischargeDepth := 40) [*]

@[simp] theorem State.requestGenBuf_ok (s : State) (h_s : s.Ok) : State.Ok (State.requestGenBuf s) := by
  unfold State.requestGenBuf; (try dsimp only); repeat' split <;> simp +contextual (maxDischargeDepth := 40) [*]

@[simp] theorem State.submitGen_ok (s : State) (h_s : s.Ok) : State.Ok (State.submitGen s) := by
  unfold State.submitGen; (try dsimp only); repeat' split <;> simp +contextual (maxDischargeDepth := 40) [*]

@[simp] theorem State.adopt_ok (s : State) (i : Nat) (byHost : Bool) (h_s : s.Ok) : State.Ok (State.adopt s i byHost) := by
  unfold State.adopt; simp +contextual (maxDischargeDepth := 40) [*]

@[simp] theorem State.autoAdopt_ok (s : State) (i : Nat) (h_s : s.Ok) : State.Ok (State.autoAdopt s i) := by
  unfold State.autoAdopt; simp +contextual (maxDischargeDepth := 40) [*]

@[simp] theorem State.rejectGen_ok (s : State) (i reason : Nat) (h_s : s.Ok) : State.Ok (State.rejectGen s i reason) := by
  unfold State.rejectGen; simp +contextual (maxDischargeDepth := 40) [*]

@[simp] theorem State.verifyReads_ok (s : State) (i : Nat) (es cur : List DirEnt) (h_s : s.Ok) : State.Ok (State.verifyReads s i es cur) := by
  unfold State.verifyReads; repeat' (first | assumption | (simp +contextual (maxDischargeDepth := 40) [*]; done) | (first | exact State.pageFail_ok _ _ _ ‹_› _ ‹_› | exact State.inputFail_ok _ _ ‹_› _ ‹_› | exact State.stateFail_ok _ _ ‹_› _ ‹_› | exact State.readParity_ok _ _ _ ‹_› _ ‹_› | exact State.pinFails_ok _ _ _ _ _ ‹_› _ ‹_›) | (refine ok_pair (by assumption) ?_) | intro _ | split | (apply ok_forEach) | (apply ok_foldp) | (apply ok_fold1) | dsimp only)

@[simp] theorem State.verified_ok (s : State) (i : Nat) (h_s : s.Ok) : State.Ok (State.verified s i) := by
  unfold State.verified; repeat' (first | assumption | (simp +contextual (maxDischargeDepth := 40) [*]; done) | (first | exact State.pageFail_ok _ _ _ ‹_› _ ‹_› | exact State.inputFail_ok _ _ ‹_› _ ‹_› | exact State.stateFail_ok _ _ ‹_› _ ‹_› | exact State.readParity_ok _ _ _ ‹_› _ ‹_› | exact State.pinFails_ok _ _ _ _ _ ‹_› _ ‹_›) | (refine ok_pair (by assumption) ?_) | intro _ | split | (apply ok_forEach) | (apply ok_foldp) | (apply ok_fold1) | dsimp only)

@[simp] theorem State.adopted_ok (s : State) (i : Nat) (h_s : s.Ok) : State.Ok (State.adopted s i) := by
  unfold State.adopted; (try dsimp only); repeat' split <;> simp +contextual (maxDischargeDepth := 40) [*]

@[simp] theorem State.loadGen_ok (s : State) (h_s : s.Ok) : State.Ok (State.loadGen s) := by
  unfold State.loadGen; split
  · exact h_s
  · extract_lets l
    split
    · rename_i h; obtain ⟨e, -, he⟩ := List.exists_of_findSome?_eq_some h
      apply State.rejectGen_ok; exact State.pageFail_ok _ _ _ h_s _ he
    · have h1 : (s.forEach l (fun s p => s.loadPage p.1 3 p.2)).Ok :=
        ok_forEach h_s (fun s p h => State.loadPage_ok _ _ _ _ h)
      exact ok_ite (State.adopted_ok _ _ (State.raise_ok _ _ h1)) h1

@[simp] theorem State.take_ok (s : State) (t i : Nat) (h_s : s.Ok) : State.Ok (State.take s t i) := by
  unfold State.take; simp +contextual (maxDischargeDepth := 40) [*]

@[simp] theorem State.coreClaim_ok (s : State) (t : Nat) (h_s : s.Ok) : State.Ok (State.coreClaim s t).1 := by
  unfold State.coreClaim; (try dsimp only); repeat' split <;> simp +contextual (maxDischargeDepth := 40) [*]

@[simp] theorem State.hostClaim_ok (s : State) (v : Nat) (h_s : s.Ok) : State.Ok (State.hostClaim s v) := by
  unfold State.hostClaim; (try dsimp only); repeat' split <;> simp +contextual (maxDischargeDepth := 40) [*]

@[simp] theorem State.endInt_ok (s : State) (t i : Nat) (h_s : s.Ok) : State.Ok (State.endInt s t i) := by
  unfold State.endInt; simp +contextual (maxDischargeDepth := 40) [*]

@[simp] theorem State.emptyStack_ok (s : State) (t : Nat) (h_s : s.Ok) : State.Ok (State.emptyStack s t) := by
  unfold State.emptyStack; simp +contextual (maxDischargeDepth := 40) [*]

@[simp] theorem State.srcConfig_ok (s : State) (i : Nat) (v : W32) (h_s : s.Ok) : State.Ok (State.srcConfig s i v) := by
  unfold State.srcConfig; simp +contextual (maxDischargeDepth := 40) [*]

@[simp] theorem State.pendClear_ok (s : State) (i : Nat) (h_s : s.Ok) : State.Ok (State.pendClear s i) := by
  unfold State.pendClear; simp +contextual (maxDischargeDepth := 40) [*]

@[simp] theorem State.ridgeStore_ok (s : State) (a : Nat) (bs : List Byte) (h_s : s.Ok) : State.Ok (State.ridgeStore s a bs) := by
  unfold State.ridgeStore; simp +contextual (maxDischargeDepth := 40) [*]

@[simp] theorem State.logAdd_ok (s : State) (origin code data : Nat) (h_s : s.Ok) : State.Ok (State.logAdd s origin code data) := by
  unfold State.logAdd; simp +contextual (maxDischargeDepth := 40) [*]

@[simp] theorem State.kernelTakes_ok (s : State) (k i : Nat) (h_s : s.Ok) : State.Ok (State.kernelTakes s k i) := by
  unfold State.kernelTakes; simp +contextual (maxDischargeDepth := 40) [*]

@[simp] theorem State.claimPort_ok (s : State) (k : Nat) (h_s : s.Ok) : State.Ok (State.claimPort s k).1 := by
  unfold State.claimPort; (try dsimp only); repeat' split <;> simp +contextual (maxDischargeDepth := 40) [*]

@[simp] theorem State.eoiPort_ok (s : State) (k : Nat) (hi : Byte) (h_s : s.Ok) : State.Ok (State.eoiPort s k hi) := by
  unfold State.eoiPort; simp +contextual (maxDischargeDepth := 40) [*]

@[simp] theorem State.postMsg_ok (s : State) (p mtype : Nat) (body : List Byte) (by_ : MsgFrom) (h_s : s.Ok) : State.Ok (State.postMsg s p mtype body by_) := by
  unfold State.postMsg; simp +contextual (maxDischargeDepth := 40) [*]

@[simp] theorem State.dropMsgs_ok (s : State) (p : Nat) (gone : Msg → Bool) (h_s : s.Ok) : State.Ok (State.dropMsgs s p gone) := by
  unfold State.dropMsgs; simp +contextual (maxDischargeDepth := 40) [*]

@[simp] theorem State.armDither_ok (s : State) (k : Nat) (h_s : s.Ok) : State.Ok (State.armDither s k) := by
  unfold State.armDither; simp +contextual (maxDischargeDepth := 40) [*]

@[simp] theorem State.postStop_ok (s : State) (p ch amp : Nat) (h_s : s.Ok) : State.Ok (State.postStop s p ch amp) := by
  unfold State.postStop; simp +contextual (maxDischargeDepth := 40) [*]

@[simp] theorem State.disableSlot_ok (s : State) (k : Nat) (h_s : s.Ok) : State.Ok (State.disableSlot s k) := by
  unfold State.disableSlot; simp +contextual (maxDischargeDepth := 40) [*]

@[simp] theorem State.enableSlot_ok (s : State) (k : Nat) (h_s : s.Ok) : State.Ok (State.enableSlot s k) := by
  unfold State.enableSlot; simp +contextual (maxDischargeDepth := 40) [*]

@[simp] theorem State.ditherSync_ok (s : State) (k : Nat) (h_s : s.Ok) : State.Ok (State.ditherSync s k) := by
  unfold State.ditherSync; simp +contextual (maxDischargeDepth := 40) [*]

@[simp] theorem State.drift_ok (s : State) (k : Nat) (e : Estimate) (h_s : s.Ok) : State.Ok (State.drift s k e) := by
  unfold State.drift; simp +contextual (maxDischargeDepth := 40) [*]

@[simp] theorem State.putResult_ok (s : State) (bytes : List Byte) (h_s : s.Ok) : State.Ok (State.putResult s bytes) := by
  unfold State.putResult; simp +contextual (maxDischargeDepth := 40) [*]

@[simp] theorem State.windowEnd_ok (s : State) (k q : Nat) (h_s : s.Ok) : State.Ok (State.windowEnd s k q) := by
  unfold State.windowEnd; simp +contextual (maxDischargeDepth := 40) [*]

@[simp] theorem State.sample_ok (s : State) (k q : Nat) (plus : Bool) (x : Int) (h_s : s.Ok) : State.Ok (State.sample s k q plus x) := by
  unfold State.sample; simp +contextual (maxDischargeDepth := 40) [*]

@[simp] theorem State.readBlock_ok (s : State) (k q : Nat) (payload : List Byte) (h_s : s.Ok) : State.Ok (State.readBlock s k q payload) := by
  unfold State.readBlock; simp +contextual (maxDischargeDepth := 40) [*]

@[simp] theorem State.correlate_ok (s : State) (k n mask chips : Nat) (placed : Bool) (payload : List Byte) (h_s : s.Ok) : State.Ok (State.correlate s k n mask chips placed payload) := by
  unfold State.correlate; simp +contextual (maxDischargeDepth := 40) [*]

@[simp] theorem State.missBlocks_ok (s : State) (p n : Nat) (h_s : s.Ok) : State.Ok (State.missBlocks s p n) := by
  unfold State.missBlocks; simp +contextual (maxDischargeDepth := 40) [*]

@[simp] theorem State.restartWindows_ok (s : State) (h_s : s.Ok) : State.Ok (State.restartWindows s) := by
  unfold State.restartWindows; simp +contextual (maxDischargeDepth := 40) [*]

@[simp] theorem State.pageLate_ok (s : State) (c : Nat) (h_s : s.Ok) : State.Ok (State.pageLate s c) := by
  unfold State.pageLate; (try dsimp only); repeat' split <;> simp +contextual (maxDischargeDepth := 40) [*]

@[simp] theorem State.startOn_ok (s : State) (c : Nat) (h_s : s.Ok) : State.Ok (State.startOn s c) := by
  unfold State.startOn; (try dsimp only); repeat' split <;> simp +contextual (maxDischargeDepth := 40) [*]

@[simp] theorem State.stageIn_ok (s : State) (c : Nat) (h_s : s.Ok) : State.Ok (State.stageIn s c) := by
  unfold State.stageIn; simp +contextual (maxDischargeDepth := 40) [*]

theorem State.inputFail_ok (s : State) (j : Job) (h_s : s.Ok) : ∀ t, (State.inputFail s j) = some t → t.Ok := by
  intro t ht; unfold State.inputFail at ht; dsimp only at ht
  obtain ⟨e, -, he⟩ := List.exists_of_findSome?_eq_some ht
  (repeat' split at he) <;> (first | (cases he; done) | (injection he with he; subst he; simp [h_s]))

theorem State.stateFail_ok (s : State) (j : Job) (h_s : s.Ok) : ∀ t, (State.stateFail s j) = some t → t.Ok := by
  intro t ht; unfold State.stateFail at ht
  obtain ⟨e, -, he⟩ := List.exists_of_findSome?_eq_some ht
  (repeat' split at he) <;> (first | (cases he; done) | (injection he with he; subst he; simp [h_s]))

@[simp] theorem State.copyState_ok (s : State) (j : Job) (h_s : s.Ok) : State.Ok (State.copyState s j) := by
  unfold State.copyState; repeat' (first | assumption | (simp +contextual (maxDischargeDepth := 40) [*]; done) | (first | exact State.pageFail_ok _ _ _ ‹_› _ ‹_› | exact State.inputFail_ok _ _ ‹_› _ ‹_› | exact State.stateFail_ok _ _ ‹_› _ ‹_› | exact State.readParity_ok _ _ _ ‹_› _ ‹_› | exact State.pinFails_ok _ _ _ _ _ ‹_› _ ‹_›) | (refine ok_pair (by assumption) ?_) | intro _ | split | (apply ok_forEach) | (apply ok_foldp) | (apply ok_fold1) | dsimp only)

@[simp] theorem State.zeroTail_ok (s : State) (j : Job) (h_s : s.Ok) : State.Ok (State.zeroTail s j) := by
  unfold State.zeroTail; repeat' (first | assumption | (simp +contextual (maxDischargeDepth := 40) [*]; done) | (first | exact State.pageFail_ok _ _ _ ‹_› _ ‹_› | exact State.inputFail_ok _ _ ‹_› _ ‹_› | exact State.stateFail_ok _ _ ‹_› _ ‹_› | exact State.readParity_ok _ _ _ ‹_› _ ‹_› | exact State.pinFails_ok _ _ _ _ _ ‹_› _ ‹_›) | (refine ok_pair (by assumption) ?_) | intro _ | split | (apply ok_forEach) | (apply ok_foldp) | (apply ok_fold1) | dsimp only)

@[simp] theorem State.noteMapped_ok (s : State) (c : Nat) (maps : List (Nat × W16)) (clock : Nat) (h_s : s.Ok) : State.Ok (State.noteMapped s c maps clock) := by
  unfold State.noteMapped; simp +contextual (maxDischargeDepth := 40) [*]

@[simp] theorem State.stageJob_ok (s : State) (j : Job) (h_s : s.Ok) : State.Ok (State.stageJob s j) := by
  unfold State.stageJob; (try dsimp only); (first | (simp +contextual (maxDischargeDepth := 40) [*]; done) | (repeat' (first | assumption | (simp +contextual (maxDischargeDepth := 40) [*]; done) | (first | exact State.pageFail_ok _ _ _ ‹_› _ ‹_› | exact State.inputFail_ok _ _ ‹_› _ ‹_› | exact State.stateFail_ok _ _ ‹_› _ ‹_› | exact State.readParity_ok _ _ _ ‹_› _ ‹_› | exact State.pinFails_ok _ _ _ _ _ ‹_› _ ‹_›) | (refine ok_pair (by assumption) ?_) | (with_reducible apply State.stageJob_ok) | (with_reducible apply State.putJob_ok) | (with_reducible apply State.raise_ok) | (with_reducible apply State.bump_ok) | (with_reducible apply State.faultJob_ok) | (with_reducible apply State.forEach_ok) | (with_reducible apply State.giveFrame_ok) | (with_reducible apply State.fillFrame_ok) | (with_reducible apply State.copyState_ok) | (with_reducible apply State.zeroTail_ok) | (with_reducible apply State.updCluster_ok) | (with_reducible apply State.noteMapped_ok) | (with_reducible apply ok_forEach) | (with_reducible apply ok_fold1) | (with_reducible apply ok_foldp) | (with_reducible apply ok_setReg) | intro _ | split | (dsimp only; done) | dsimp only)))

@[simp] theorem State.stageDone_ok (s : State) (c : Nat) (h_s : s.Ok) : State.Ok (State.stageDone s c) := by
  unfold State.stageDone; (try dsimp only); repeat' split <;> simp +contextual (maxDischargeDepth := 40) [*]

@[simp] theorem State.startFetch_ok (s : State) (c : Nat) (h_s : s.Ok) : State.Ok (State.startFetch s c) := by
  unfold State.startFetch; repeat' (first | assumption | (simp +contextual (maxDischargeDepth := 40) [*]; done) | (first | exact State.pageFail_ok _ _ _ ‹_› _ ‹_› | exact State.inputFail_ok _ _ ‹_› _ ‹_› | exact State.stateFail_ok _ _ ‹_› _ ‹_› | exact State.readParity_ok _ _ _ ‹_› _ ‹_› | exact State.pinFails_ok _ _ _ _ _ ‹_› _ ‹_›) | (refine ok_pair (by assumption) ?_) | intro _ | split | (apply ok_forEach) | (apply ok_foldp) | (apply ok_fold1) | dsimp only)

@[simp] theorem State.fillFetched_ok (s : State) (c : Nat) (p : PageId) (ws : List W16) (h_s : s.Ok) : State.Ok (State.fillFetched s c p ws) := by
  unfold State.fillFetched; (try dsimp only); repeat' split <;> simp +contextual (maxDischargeDepth := 40) [*]

@[simp] theorem State.dropFetched_ok (s : State) (c : Nat) (p : PageId) (h_s : s.Ok) : State.Ok (State.dropFetched s c p) := by
  unfold State.dropFetched; (try dsimp only); repeat' split <;> simp +contextual (maxDischargeDepth := 40) [*]

@[simp] theorem State.abandonStage_ok (s : State) (j : Job) (c : Nat) (h_s : s.Ok) : State.Ok (State.abandonStage s j c) := by
  unfold State.abandonStage; simp +contextual (maxDischargeDepth := 40) [*]

@[simp] theorem State.fetchFailed_ok (s : State) (c : Nat) (p : PageId) (h_s : s.Ok) : State.Ok (State.fetchFailed s c p) := by
  unfold State.fetchFailed; repeat' (first | assumption | (simp +contextual (maxDischargeDepth := 40) [*]; done) | (first | exact State.pageFail_ok _ _ _ ‹_› _ ‹_› | exact State.inputFail_ok _ _ ‹_› _ ‹_› | exact State.stateFail_ok _ _ ‹_› _ ‹_› | exact State.readParity_ok _ _ _ ‹_› _ ‹_› | exact State.pinFails_ok _ _ _ _ _ ‹_› _ ‹_›) | (refine ok_pair (by assumption) ?_) | intro _ | split | (apply ok_forEach) | (apply ok_foldp) | (apply ok_fold1) | dsimp only)

@[simp] theorem State.endFetch_ok (s : State) (c : Nat) (hostOk : Bool) (h_s : s.Ok) : State.Ok (State.endFetch s c hostOk) := by
  unfold State.endFetch; (try dsimp only); (first | (simp +contextual (maxDischargeDepth := 40) [*]; done) | (repeat' (first | assumption | (simp +contextual (maxDischargeDepth := 40) [*]; done) | (first | exact State.pageFail_ok _ _ _ ‹_› _ ‹_› | exact State.inputFail_ok _ _ ‹_› _ ‹_› | exact State.stateFail_ok _ _ ‹_› _ ‹_› | exact State.readParity_ok _ _ _ ‹_› _ ‹_› | exact State.pinFails_ok _ _ _ _ _ ‹_› _ ‹_›) | (refine ok_pair (by assumption) ?_) | (with_reducible apply State.endFetch_ok) | (with_reducible apply State.forEach_ok) | (with_reducible apply State.updCluster_ok) | (with_reducible apply State.fetchFailed_ok) | (with_reducible apply State.fillFetched_ok) | (with_reducible apply State.pageRead_ok) | (with_reducible apply ok_forEach) | (with_reducible apply ok_fold1) | (with_reducible apply ok_foldp) | (with_reducible apply ok_setReg) | intro _ | split | (dsimp only; done) | dsimp only)))

@[simp] theorem State.readOut_ok (j : Job) (l) : ∀ (s : State) acc, s.Ok → (s.readOut j l acc).1.Ok := by
  induction l with
  | nil => intro s acc h; exact h
  | cons a l ih => intro s acc h; unfold State.readOut; dsimp only; split <;> (try split) <;> simp +contextual (maxDischargeDepth := 40) [*]

@[simp] theorem State.commitWrite_ok (s : State) (off : Nat) (bs : List Byte) (h_s : s.Ok) : State.Ok (State.commitWrite s off bs).1 := by
  unfold State.commitWrite; simp +contextual (maxDischargeDepth := 40) [*]

@[simp] theorem State.commitOutput_ok (s : State) (j : Job) (i : Nat) (taken : List Nat) (h_s : s.Ok) : State.Ok (State.commitOutput s j i taken).1 := by
  unfold State.commitOutput; (try dsimp only); (first | (simp +contextual (maxDischargeDepth := 40) [*]; done) | (repeat' (first | assumption | (simp +contextual (maxDischargeDepth := 40) [*]; done) | (first | exact State.pageFail_ok _ _ _ ‹_› _ ‹_› | exact State.inputFail_ok _ _ ‹_› _ ‹_› | exact State.stateFail_ok _ _ ‹_› _ ‹_› | exact State.readParity_ok _ _ _ ‹_› _ ‹_› | exact State.pinFails_ok _ _ _ _ _ ‹_› _ ‹_›) | (refine ok_pair (by assumption) ?_) | (with_reducible apply State.commitOutput_ok) | (with_reducible apply State.allocTake_ok) | (with_reducible apply State.readOut_ok) | (with_reducible apply State.take_ok) | (with_reducible apply State.commitWrite_ok) | (with_reducible apply ok_forEach) | (with_reducible apply ok_fold1) | (with_reducible apply ok_foldp) | (with_reducible apply ok_setReg) | intro _ | split | (dsimp only; done) | dsimp only)))

@[simp] theorem State.commitOutputs_ok (j : Job) (l) : ∀ (s : State) acc, s.Ok → (s.commitOutputs j l acc).1.Ok := by
  induction l with
  | nil => intro s acc h; exact h
  | cons a l ih => intro s acc h; unfold State.commitOutputs; split <;> (first | apply ih | skip) <;> refine ok_pair (by assumption) ?_ <;> simp [h]

@[simp] theorem State.commitState_ok (s : State) (j : Job) (h_s : s.Ok) : State.Ok (State.commitState s j).1 := by
  unfold State.commitState; (try dsimp only); (first | (simp +contextual (maxDischargeDepth := 40) [*]; done) | (repeat' (first | assumption | (simp +contextual (maxDischargeDepth := 40) [*]; done) | (first | exact State.pageFail_ok _ _ _ ‹_› _ ‹_› | exact State.inputFail_ok _ _ ‹_› _ ‹_› | exact State.stateFail_ok _ _ ‹_› _ ‹_› | exact State.readParity_ok _ _ _ ‹_› _ ‹_› | exact State.pinFails_ok _ _ _ _ _ ‹_› _ ‹_›) | (refine ok_pair (by assumption) ?_) | (with_reducible apply State.commitState_ok) | (with_reducible apply State.readOut_ok) | (with_reducible apply State.commitWrite_ok) | (with_reducible apply ok_forEach) | (with_reducible apply ok_fold1) | (with_reducible apply ok_foldp) | (with_reducible apply ok_setReg) | intro _ | split | (dsimp only; done) | dsimp only)))

@[simp] theorem State.commitJob_ok (s : State) (j : Job) (h_s : s.Ok) : State.Ok (State.commitJob s j) := by
  unfold State.commitJob; repeat' (first | assumption | (simp +contextual (maxDischargeDepth := 40) [*]; done) | (first | exact State.pageFail_ok _ _ _ ‹_› _ ‹_› | exact State.inputFail_ok _ _ ‹_› _ ‹_› | exact State.stateFail_ok _ _ ‹_› _ ‹_› | exact State.readParity_ok _ _ _ ‹_› _ ‹_› | exact State.pinFails_ok _ _ _ _ _ ‹_› _ ‹_›) | (refine ok_pair (by assumption) ?_) | intro _ | split | (apply ok_forEach) | (apply ok_foldp) | (apply ok_fold1) | dsimp only)

@[simp] theorem State.commit_ok (s : State) (c : Nat) (h_s : s.Ok) : State.Ok (State.commit s c) := by
  unfold State.commit; (try dsimp only); repeat' split <;> simp +contextual (maxDischargeDepth := 40) [*]

@[simp] theorem State.noteLate_ok (s : State) (h : Holder) (j : Job) (h_s : s.Ok) : State.Ok (State.noteLate s h j) := by
  unfold State.noteLate; (try dsimp only); repeat' split <;> simp +contextual (maxDischargeDepth := 40) [*]

@[simp] theorem State.publishOutput_ok (s : State) (j : Job) (i : Nat) (h_s : s.Ok) : State.Ok (State.publishOutput s j i) := by
  unfold State.publishOutput; simp +contextual (maxDischargeDepth := 40) [*]

@[simp] theorem State.publishRecord_ok (s : State) (j : Job) (h_s : s.Ok) : State.Ok (State.publishRecord s j) := by
  unfold State.publishRecord; simp +contextual (maxDischargeDepth := 40) [*]

@[simp] theorem State.publishResident_ok (s : State) (j : Job) (h_s : s.Ok) : State.Ok (State.publishResident s j) := by
  unfold State.publishResident; simp +contextual (maxDischargeDepth := 40) [*]

@[simp] theorem State.publish_ok (s : State) (j : Job) (h_s : s.Ok) : State.Ok (State.publish s j) := by
  unfold State.publish; simp +contextual (maxDischargeDepth := 40) [*]

@[simp] theorem State.publication_ok (s : State) (c : Nat) (h_s : s.Ok) : State.Ok (State.publication s c) := by
  unfold State.publication; (try dsimp only); repeat' split <;> simp +contextual (maxDischargeDepth := 40) [*]

@[simp] theorem State.allocInit_ok (s : State) (k : Nat) (h_s : s.Ok) : State.Ok (State.allocInit s k) := by
  unfold State.allocInit; simp +contextual (maxDischargeDepth := 40) [*]

@[simp] theorem State.allocBuilt_ok (s : State) (k : Nat) (h_s : s.Ok) : State.Ok (State.allocBuilt s k) := by
  unfold State.allocBuilt; simp +contextual (maxDischargeDepth := 40) [*]

@[simp] theorem State.scrubStore_ok (s : State) (a : Nat) (h_s : s.Ok) : State.Ok (State.scrubStore s a) := by
  unfold State.scrubStore; simp +contextual (maxDischargeDepth := 40) [*]

@[simp] theorem State.ridgeFixed_ok (s : State) (data : Bool) (a : Nat) (h_s : s.Ok) : State.Ok (State.ridgeFixed s data a) := by
  unfold State.ridgeFixed; simp +contextual (maxDischargeDepth := 40) [*]

@[simp] theorem State.ridgeRead_ok (s : State) (data : Bool) (a : Nat) (h_s : s.Ok) : State.Ok (State.ridgeRead s data a).1 := by
  unfold State.ridgeRead; (try dsimp only); repeat' split <;> simp +contextual (maxDischargeDepth := 40) [*]

@[simp] theorem State.scrubWord_ok (s : State) (k m w : Nat) (h_s : s.Ok) : State.Ok (State.scrubWord s k m w) := by
  unfold State.scrubWord; simp +contextual (maxDischargeDepth := 40) [*]

@[simp] theorem State.scrubLap_ok (s : State) (k : Nat) (h_s : s.Ok) : State.Ok (State.scrubLap s k) := by
  unfold State.scrubLap; simp +contextual (maxDischargeDepth := 40) [*]

@[simp] theorem State.scrubSlow_ok (s : State) (k : Nat) (h_s : s.Ok) : State.Ok (State.scrubSlow s k) := by
  unfold State.scrubSlow; simp +contextual (maxDischargeDepth := 40) [*]

@[simp] theorem State.scrubStep_ok (s : State) (k : Nat) (h_s : s.Ok) : State.Ok (State.scrubStep s k) := by
  unfold State.scrubStep; repeat' (first | assumption | (simp +contextual (maxDischargeDepth := 40) [*]; done) | (first | exact State.pageFail_ok _ _ _ ‹_› _ ‹_› | exact State.inputFail_ok _ _ ‹_› _ ‹_› | exact State.stateFail_ok _ _ ‹_› _ ‹_› | exact State.readParity_ok _ _ _ ‹_› _ ‹_› | exact State.pinFails_ok _ _ _ _ _ ‹_› _ ‹_›) | (refine ok_pair (by assumption) ?_) | intro _ | split | (apply ok_forEach) | (apply ok_foldp) | (apply ok_fold1) | dsimp only)

@[simp] theorem State.linkEvent_ok (old : State) (l : Nat) (s : State) (h_old : old.Ok) (h_s : s.Ok) : State.Ok (State.linkEvent old l s) := by
  unfold State.linkEvent; simp +contextual (maxDischargeDepth := 40) [*]

@[simp] theorem State.readOutRec_ok (s : State) (a p : Nat) (stale : Bool) (h_s : s.Ok) : State.Ok (State.readOutRec s a p stale).1 := by
  unfold State.readOutRec; repeat' (first | assumption | (simp +contextual (maxDischargeDepth := 40) [*]; done) | (first | exact State.pageFail_ok _ _ _ ‹_› _ ‹_› | exact State.inputFail_ok _ _ ‹_› _ ‹_› | exact State.stateFail_ok _ _ ‹_› _ ‹_› | exact State.readParity_ok _ _ _ ‹_› _ ‹_› | exact State.pinFails_ok _ _ _ _ _ ‹_› _ ‹_›) | (refine ok_pair (by assumption) ?_) | intro _ | split | (apply ok_forEach) | (apply ok_foldp) | (apply ok_fold1) | dsimp only)

@[simp] theorem State.readOutRecs_ok (a f) (l) : ∀ (s : State), s.Ok → (s.readOutRecs a f l).1.Ok := by
  induction l with
  | nil => intro s h; exact h
  | cons p l ih => intro s h; unfold State.readOutRecs; exact ih _ (State.readOutRec_ok _ _ _ _ h)

@[simp] theorem State.putFrame_ok (s : State) (l : Nat) (f : TxFrame) (h_s : s.Ok) : State.Ok (State.putFrame s l f) := by
  unfold State.putFrame; simp +contextual (maxDischargeDepth := 40) [*]

@[simp] theorem State.markDelayed_ok (s : State) (l : Nat) (h_s : s.Ok) : State.Ok (State.markDelayed s l) := by
  unfold State.markDelayed; simp +contextual (maxDischargeDepth := 40) [*]

@[simp] theorem State.sendFrames_ok (l fs) : ∀ (t) (s : State), s.Ok → (s.sendFrames l t fs).1.Ok := by
  induction fs with
  | nil => intro t s h; exact h
  | cons p fs ih =>
    intro t s h; unfold State.sendFrames; dsimp only; split
    · exact ih _ _ (State.putFrame_ok _ _ _ h)
    · split
      · exact h
      · simp [h]

@[simp] theorem State.postConfigs_ok (s : State) (a : Nat) (h_s : s.Ok) : State.Ok (State.postConfigs s a) := by
  unfold State.postConfigs; simp +contextual (maxDischargeDepth := 40) [*]

@[simp] theorem State.serveLine_ok (s : State) (a : Nat) (h_s : s.Ok) : State.Ok (State.serveLine s a) := by
  unfold State.serveLine; simp +contextual (maxDischargeDepth := 40) [*]

@[simp] theorem State.tOf_ok (s : State) (l : Nat) (h_s : s.Ok) : State.Ok (State.tOf s l) := by
  unfold State.tOf; simp +contextual (maxDischargeDepth := 40) [*]

@[simp] theorem State.startDone_ok (s : State) (l : Nat) (h_s : s.Ok) : State.Ok (State.startDone s l) := by
  unfold State.startDone; (try dsimp only); repeat' split <;> simp +contextual (maxDischargeDepth := 40) [*]

@[simp] theorem State.portCycle_ok (s : State) (p t : Nat) (fs : List TxFrame) (h_s : s.Ok) : State.Ok (State.portCycle s p t fs) := by
  unfold State.portCycle; simp +contextual (maxDischargeDepth := 40) [*]

@[simp] theorem State.renewSpares_ok (s : State) (l : Nat) (h_s : s.Ok) : State.Ok (State.renewSpares s l) := by
  unfold State.renewSpares; simp +contextual (maxDischargeDepth := 40) [*]

@[simp] theorem State.t0Run_ok (s : State) (l : Nat) (h_s : s.Ok) : State.Ok (State.t0Run s l) := by
  unfold State.t0Run; simp +contextual (maxDischargeDepth := 40) [*]

@[simp] theorem State.t0Last_ok (s : State) (l : Nat) (h_s : s.Ok) : State.Ok (State.t0Last s l) := by
  unfold State.t0Last; simp +contextual (maxDischargeDepth := 40) [*]

@[simp] theorem State.t0_ok (s : State) (l : Nat) (h_s : s.Ok) : State.Ok (State.t0 s l) := by
  unfold State.t0; simp +contextual (maxDischargeDepth := 40) [*]

@[simp] theorem State.applyTime_ok (s : State) (l : Nat) (h_s : s.Ok) : State.Ok (State.applyTime s l) := by
  unfold State.applyTime; simp +contextual (maxDischargeDepth := 40) [*]

@[simp] theorem State.recallFrames_ok (s : State) (l n : Nat) (r : Option (List Byte)) (h_s : s.Ok) : State.Ok (State.recallFrames s l n r) := by
  unfold State.recallFrames; simp +contextual (maxDischargeDepth := 40) [*]

@[simp] theorem State.cutFrames_ok (s : State) (l now : Nat) (h_s : s.Ok) : State.Ok (State.cutFrames s l now).1 := by
  unfold State.cutFrames; repeat' (first | assumption | (simp +contextual (maxDischargeDepth := 40) [*]; done) | (first | exact State.pageFail_ok _ _ _ ‹_› _ ‹_› | exact State.inputFail_ok _ _ ‹_› _ ‹_› | exact State.stateFail_ok _ _ ‹_› _ ‹_› | exact State.readParity_ok _ _ _ ‹_› _ ‹_› | exact State.pinFails_ok _ _ _ _ _ ‹_› _ ‹_›) | (refine ok_pair (by assumption) ?_) | intro _ | split | (apply ok_forEach) | (apply ok_foldp) | (apply ok_fold1) | dsimp only)

@[simp] theorem State.startLate_ok (s : State) (l : Nat) (h_s : s.Ok) : State.Ok (State.startLate s l) := by
  unfold State.startLate; (try dsimp only); repeat' split <;> simp +contextual (maxDischargeDepth := 40) [*]

@[simp] theorem State.lateSet_ok (s : State) (l : Nat) (h_s : s.Ok) : State.Ok (State.lateSet s l) := by
  unfold State.lateSet; simp +contextual (maxDischargeDepth := 40) [*]

@[simp] theorem State.contFrame_ok (s : State) (l : Nat) (h_s : s.Ok) : State.Ok (State.contFrame s l) := by
  unfold State.contFrame; (try dsimp only); repeat' split <;> simp +contextual (maxDischargeDepth := 40) [*]

@[simp] theorem State.failMsg_ok (s : State) (m : Msg) (h_s : s.Ok) : State.Ok (State.failMsg s m) := by
  unfold State.failMsg; (try dsimp only); repeat' split <;> simp +contextual (maxDischargeDepth := 40) [*]

@[simp] theorem State.retryMsg_ok (s : State) (l p mseq : Nat) (h_s : s.Ok) : State.Ok (State.retryMsg s l p mseq) := by
  unfold State.retryMsg; (try dsimp only); repeat' split <;> simp +contextual (maxDischargeDepth := 40) [*]

@[simp] theorem State.retryStop_ok (s : State) (p ch : Nat) (h_s : s.Ok) : State.Ok (State.retryStop s p ch) := by
  unfold State.retryStop; (try dsimp only); repeat' split <;> simp +contextual (maxDischargeDepth := 40) [*]

@[simp] theorem State.returned_ok (s : State) (l : Nat) (firstOut : Bool) (delay : Nat) (h_s : s.Ok) : State.Ok (State.returned s l firstOut delay) := by
  unfold State.returned
  extract_lets a s1
  have h1 : s1.Ok := by simp [s1, h_s]
  refine ok_ite h_s (ok_ite h1 ?_)
  apply State.updLane_ok; rw [State.updReg_eq]; exact ok_setReg h1

@[simp] theorem State.returnLimit_ok (s : State) (l : Nat) (h_s : s.Ok) : State.Ok (State.returnLimit s l) := by
  unfold State.returnLimit; simp +contextual (maxDischargeDepth := 40) [*]

@[simp] theorem State.sendPtp_ok (s : State) (l kind time : Nat) (h_s : s.Ok) : State.Ok (State.sendPtp s l kind time) := by
  unfold State.sendPtp; simp +contextual (maxDischargeDepth := 40) [*]

@[simp] theorem State.updPtp_ok (s : State) (l : Nat) (g : PtpTimes → PtpTimes) (h_s : s.Ok) : State.Ok (State.updPtp s l g) := by
  unfold State.updPtp; simp +contextual (maxDischargeDepth := 40) [*]

@[simp] theorem State.ptpEvent_ok (s : State) (l : Nat) (h_s : s.Ok) : State.Ok (State.ptpEvent s l) := by
  unfold State.ptpEvent; simp +contextual (maxDischargeDepth := 40) [*]

@[simp] theorem State.peerDelay_ok (s : State) (l delay : Nat) (h_s : s.Ok) : State.Ok (State.peerDelay s l delay) := by
  unfold State.peerDelay; (try dsimp only); repeat' split <;> simp +contextual (maxDischargeDepth := 40) [*]

@[simp] theorem State.askDelay_ok (s : State) (l : Nat) (h_s : s.Ok) : State.Ok (State.askDelay s l) := by
  unfold State.askDelay; simp +contextual (maxDischargeDepth := 40) [*]

@[simp] theorem State.delayAnswer_ok (s : State) (l now turn : Nat) (h_s : s.Ok) : State.Ok (State.delayAnswer s l now turn) := by
  unfold State.delayAnswer; (try dsimp only); repeat' split <;> simp +contextual (maxDischargeDepth := 40) [*]

@[simp] theorem State.ptpIn_ok (s : State) (l : Nat) (m : PtpMsg) (h_s : s.Ok) : State.Ok (State.ptpIn s l m) := by
  unfold State.ptpIn; (try dsimp only); repeat' split <;> simp +contextual (maxDischargeDepth := 40) [*]

@[simp] theorem State.sync_ok (s : State) (l : Nat) (h_s : s.Ok) : State.Ok (State.sync s l) := by
  unfold State.sync; simp +contextual (maxDischargeDepth := 40) [*]

@[simp] theorem State.frameErr_ok (s : State) (l : Nat) (h_s : s.Ok) : State.Ok (State.frameErr s l) := by
  unfold State.frameErr; simp +contextual (maxDischargeDepth := 40) [*]

@[simp] theorem State.frameIn_ok (s : State) (l : Nat) (b : List Byte) (fcsOk : Bool) (first last : Nat) (h_s : s.Ok) : State.Ok (State.frameIn s l b fcsOk first last) := by
  unfold State.frameIn; repeat' (first | assumption | (simp +contextual (maxDischargeDepth := 40) [*]; done) | (first | exact State.pageFail_ok _ _ _ ‹_› _ ‹_› | exact State.inputFail_ok _ _ ‹_› _ ‹_› | exact State.stateFail_ok _ _ ‹_› _ ‹_› | exact State.readParity_ok _ _ _ ‹_› _ ‹_› | exact State.pinFails_ok _ _ _ _ _ ‹_› _ ‹_›) | (refine ok_pair (by assumption) ?_) | intro _ | split | (apply ok_forEach) | (apply ok_foldp) | (apply ok_fold1) | dsimp only)

@[simp] theorem State.ackIn_ok (s : State) (a p n seq result : Nat) (h_s : s.Ok) : State.Ok (State.ackIn s a p n seq result) := by
  unfold State.ackIn; repeat' (first | assumption | (simp +contextual (maxDischargeDepth := 40) [*]; done) | (first | exact State.pageFail_ok _ _ _ ‹_› _ ‹_› | exact State.inputFail_ok _ _ ‹_› _ ‹_› | exact State.stateFail_ok _ _ ‹_› _ ‹_› | exact State.readParity_ok _ _ _ ‹_› _ ‹_› | exact State.pinFails_ok _ _ _ _ _ ‹_› _ ‹_›) | (refine ok_pair (by assumption) ?_) | intro _ | split | (apply ok_forEach) | (apply ok_foldp) | (apply ok_fold1) | dsimp only)

@[simp] theorem State.hostMsgIn_ok (s : State) (p mtype mseq : Nat) (body : List Byte) (h_s : s.Ok) : State.Ok (State.hostMsgIn s p mtype mseq body) := by
  unfold State.hostMsgIn; (try dsimp only); repeat' split <;> simp +contextual (maxDischargeDepth := 40) [*]

@[simp] theorem State.msgIn_ok (s : State) (l p n : Nat) (b : List Byte) (h_s : s.Ok) : State.Ok (State.msgIn s l p n b) := by
  unfold State.msgIn; simp +contextual (maxDischargeDepth := 40) [*]

@[simp] theorem State.partnerHeard_ok (s : State) (l p : Nat) (b : List Byte) (h_s : s.Ok) : State.Ok (State.partnerHeard s l p b) := by
  unfold State.partnerHeard; simp +contextual (maxDischargeDepth := 40) [*]

@[simp] theorem State.placeIt_ok (s : State) (l p n : Nat) (b pay : List Byte) (h_s : s.Ok) : State.Ok (State.placeIt s l p n b pay).1 := by
  unfold State.placeIt; (try dsimp only); repeat' split <;> simp +contextual (maxDischargeDepth := 40) [*]

@[simp] theorem State.icRelease_ok (s : State) (a : Nat) (h_s : s.Ok) : State.Ok (State.icRelease s a) := by
  unfold State.icRelease; (try dsimp only); repeat' split <;> simp +contextual (maxDischargeDepth := 40) [*]

@[simp] theorem State.firstCopy_ok (s : State) (l p n : Nat) (b pay : List Byte) (h_s : s.Ok) : State.Ok (State.firstCopy s l p n b pay) := by
  unfold State.firstCopy; simp +contextual (maxDischargeDepth := 40) [*]

@[simp] theorem State.placement_ok (s : State) (l : Nat) (h_s : s.Ok) : State.Ok (State.placement s l) := by
  unfold State.placement; (try dsimp only); repeat' split <;> simp +contextual (maxDischargeDepth := 40) [*]

@[simp] theorem State.judgePartner_ok (s : State) (a p : Nat) (missed : Bool) (h_s : s.Ok) : State.Ok (State.judgePartner s a p missed) := by
  unfold State.judgePartner; simp +contextual (maxDischargeDepth := 40) [*]

@[simp] theorem State.judgeMisses_ok (s : State) (a n : Nat) (h_s : s.Ok) : State.Ok (State.judgeMisses s a n) := by
  unfold State.judgeMisses; simp +contextual (maxDischargeDepth := 40) [*]

@[simp] theorem State.ringStatus_ok (s : State) (a : Nat) (h_s : s.Ok) : State.Ok (State.ringStatus s a) := by
  unfold State.ringStatus; simp +contextual (maxDischargeDepth := 40) [*]

@[simp] theorem State.tIc_ok (s : State) (l : Nat) (h_s : s.Ok) : State.Ok (State.tIc s l) := by
  unfold State.tIc; (try dsimp only); repeat' split <;> simp +contextual (maxDischargeDepth := 40) [*]

@[simp] theorem State.readEffect_ok (s : State) (v) (h_s : s.Ok) : (s.readEffect v).Ok := by
  unfold State.readEffect; (first | (simp +contextual (maxDischargeDepth := 40) [*]; done) | (repeat' (first | assumption | (simp +contextual (maxDischargeDepth := 40) [*]; done) | (first | exact State.pageFail_ok _ _ _ ‹_› _ ‹_› | exact State.inputFail_ok _ _ ‹_› _ ‹_› | exact State.stateFail_ok _ _ ‹_› _ ‹_› | exact State.readParity_ok _ _ _ ‹_› _ ‹_› | exact State.pinFails_ok _ _ _ _ _ ‹_› _ ‹_›) | (refine ok_pair (by assumption) ?_) | (with_reducible apply State.readEffect_ok) | (with_reducible apply ok_forEach) | (with_reducible apply ok_fold1) | (with_reducible apply ok_foldp) | (with_reducible apply ok_setReg) | intro _ | split | (dsimp only; done) | dsimp only)))

@[simp] theorem State.readWord_ok (s : State) (off : Nat) (h_s : s.Ok) : State.Ok (State.readWord s off).1 := by
  unfold State.readWord; split <;> simp [h_s]

@[simp] theorem State.accessDenied_ok (s : State) (n : Nat) (h_s : s.Ok) : State.Ok (State.accessDenied s n) := by
  unfold State.accessDenied; simp +contextual (maxDischargeDepth := 40) [*]

theorem State.readParity_ok (s : State) (a n : Nat) (h_s : s.Ok) : ∀ t, (State.readParity s a n) = some t → t.Ok := by
  intro t ht; unfold State.readParity at ht; dsimp only at ht; (repeat' split at ht) <;> (first | (cases ht; done) | (injection ht with ht; subst ht; simp [h_s]; done) | (obtain ⟨e, -, he⟩ := Option.map_eq_some_iff.mp ht; subst he; simp [h_s]))

@[simp] theorem State.atomic_ok (s : State) (m o : Nat) (swap : Bool) (h_s : s.Ok) : State.Ok (State.atomic s m o swap) := by
  unfold State.atomic; simp +contextual (maxDischargeDepth := 40) [*]

@[simp] theorem State.ridgeTouch_ok (s : State) (o n : Nat) (h_s : s.Ok) : State.Ok (State.ridgeTouch s o n) := by
  unfold State.ridgeTouch; repeat' (first | assumption | (simp +contextual (maxDischargeDepth := 40) [*]; done) | (first | exact State.pageFail_ok _ _ _ ‹_› _ ‹_› | exact State.inputFail_ok _ _ ‹_› _ ‹_› | exact State.stateFail_ok _ _ ‹_› _ ‹_› | exact State.readParity_ok _ _ _ ‹_› _ ‹_› | exact State.pinFails_ok _ _ _ _ _ ‹_› _ ‹_›) | (refine ok_pair (by assumption) ?_) | intro _ | split | (apply ok_forEach) | (apply ok_foldp) | (apply ok_fold1) | dsimp only)

@[simp] theorem State.touch_ok (s : State) (m a n : Nat) (h_s : s.Ok) : State.Ok (State.touch s m a n) := by
  unfold State.touch; (try dsimp only); repeat' split <;> simp +contextual (maxDischargeDepth := 40) [*]

@[simp] theorem State.hostReadBad_ok (s : State) (h_s : s.Ok) : State.Ok (State.hostReadBad s) := by
  unfold State.hostReadBad; simp +contextual (maxDischargeDepth := 40) [*]

@[simp] theorem State.busRead_ok (s : State) (m a n : Nat) (dma : Bool) (h_s : s.Ok) : State.Ok (State.busRead s m a n dma).1 := by
  unfold State.busRead; repeat' (first | assumption | (simp +contextual (maxDischargeDepth := 40) [*]; done) | (first | exact State.pageFail_ok _ _ _ ‹_› _ ‹_› | exact State.inputFail_ok _ _ ‹_› _ ‹_› | exact State.stateFail_ok _ _ ‹_› _ ‹_› | exact State.readParity_ok _ _ _ ‹_› _ ‹_› | exact State.pinFails_ok _ _ _ _ _ ‹_› _ ‹_›) | (refine ok_pair (by assumption) ?_) | intro _ | split | (apply ok_forEach) | (apply ok_foldp) | (apply ok_fold1) | dsimp only)

@[simp] theorem State.spend_ok (s : State) (k n : Nat) (h_s : s.Ok) : State.Ok (State.spend s k n) := by
  unfold State.spend; simp +contextual (maxDischargeDepth := 40) [*]

@[simp] theorem State.localRead_ok (s : State) (k a : Nat) (h_s : s.Ok) : State.Ok (State.localRead s k a).1 := by
  unfold State.localRead; (try dsimp only); repeat' split <;> simp +contextual (maxDischargeDepth := 40) [*]

@[simp] theorem State.readData_ok (s : State) (k a : Nat) (h_s : s.Ok) : State.Ok (State.readData s k a).1 := by
  unfold State.readData; (try dsimp only); (first | (simp +contextual (maxDischargeDepth := 40) [*]; done) | (repeat' (first | assumption | (simp +contextual (maxDischargeDepth := 40) [*]; done) | (first | exact State.pageFail_ok _ _ _ ‹_› _ ‹_› | exact State.inputFail_ok _ _ ‹_› _ ‹_› | exact State.stateFail_ok _ _ ‹_› _ ‹_› | exact State.readParity_ok _ _ _ ‹_› _ ‹_› | exact State.pinFails_ok _ _ _ _ _ ‹_› _ ‹_›) | (refine ok_pair (by assumption) ?_) | (with_reducible apply State.readData_ok) | (with_reducible apply State.localRead_ok) | (with_reducible apply State.busRead_ok) | (with_reducible apply ok_forEach) | (with_reducible apply ok_fold1) | (with_reducible apply ok_foldp) | (with_reducible apply ok_setReg) | intro _ | split | (dsimp only; done) | dsimp only)))

theorem State.windowCheck_ok (s : State) (k a wr) (h_s : s.Ok) : ∀ e, s.windowCheck k a wr = some e → e.1.Ok := by
  intro e he; unfold State.windowCheck at he; dsimp only at he; (repeat' split at he) <;> (first | (cases he; done) | (injection he with he; subst he; simp [h_s]))
theorem ok_window2 (s : State) (k a b wr) (c : Bool) (h_s : s.Ok) : ∀ e, (if c then (s.windowCheck k a wr).orElse (fun _ => s.windowCheck k b wr) else none) = some e → e.1.Ok := by
  intro e he; split at he
  · cases h : s.windowCheck k a wr with
    | none => rw [h] at he; exact State.windowCheck_ok _ _ _ _ h_s _ he
    | some x => rw [h] at he; exact State.windowCheck_ok _ k a wr h_s _ (h.trans he)
  · cases he

@[simp] theorem State.readData2_ok (s : State) (k a : Nat) (h_s : s.Ok) : State.Ok (State.readData2 s k a).1 := by
  unfold State.readData2; dsimp only; split
  · exact ok_window2 _ _ _ _ _ _ h_s _ (by assumption)
  · (first | (simp +contextual (maxDischargeDepth := 40) [*]; done) | (repeat' (first | assumption | (simp +contextual (maxDischargeDepth := 40) [*]; done) | (first | exact State.pageFail_ok _ _ _ ‹_› _ ‹_› | exact State.inputFail_ok _ _ ‹_› _ ‹_› | exact State.stateFail_ok _ _ ‹_› _ ‹_› | exact State.readParity_ok _ _ _ ‹_› _ ‹_› | exact State.pinFails_ok _ _ _ _ _ ‹_› _ ‹_›) | (refine ok_pair (by assumption) ?_) | (with_reducible apply State.readData2_ok) | (with_reducible apply State.readData_ok) | (with_reducible apply State.busRead_ok) | (with_reducible apply ok_forEach) | (with_reducible apply ok_fold1) | (with_reducible apply ok_foldp) | (with_reducible apply ok_setReg) | intro _ | split | (dsimp only; done) | dsimp only)))

@[simp] theorem State.lockCore_ok (s : State) (k : Nat) (h_s : s.Ok) : State.Ok (State.lockCore s k) := by
  unfold State.lockCore; simp +contextual (maxDischargeDepth := 40) [*]

@[simp] theorem State.enter_ok (s : State) (k v saved : Nat) (h_s : s.Ok) : State.Ok (State.enter s k v saved).1 := by
  unfold State.enter; (try dsimp only); (first | (simp +contextual (maxDischargeDepth := 40) [*]; done) | (repeat' (first | assumption | (simp +contextual (maxDischargeDepth := 40) [*]; done) | (first | exact State.pageFail_ok _ _ _ ‹_› _ ‹_› | exact State.inputFail_ok _ _ ‹_› _ ‹_› | exact State.stateFail_ok _ _ ‹_› _ ‹_› | exact State.readParity_ok _ _ _ ‹_› _ ‹_› | exact State.pinFails_ok _ _ _ _ _ ‹_› _ ‹_›) | (refine ok_pair (by assumption) ?_) | (with_reducible apply State.enter_ok) | (with_reducible apply State.updCore_ok) | (with_reducible apply State.spend_ok) | (with_reducible apply State.readData2_ok) | (with_reducible apply State.lockCore_ok) | (with_reducible apply ok_forEach) | (with_reducible apply ok_fold1) | (with_reducible apply ok_foldp) | (with_reducible apply ok_setReg) | intro _ | split | (dsimp only; done) | dsimp only)))

@[simp] theorem State.except_ok (s : State) (k v saved detail addr : Nat) (h_s : s.Ok) : State.Ok (State.except s k v saved detail addr).1 := by
  unfold State.except; (try dsimp only); repeat' split <;> simp +contextual (maxDischargeDepth := 40) [*]

@[simp] theorem State.callError_ok (s : State) (k status : Nat) (h_s : s.Ok) : State.Ok (State.callError s k status) := by
  unfold State.callError; simp +contextual (maxDischargeDepth := 40) [*]

@[simp] theorem State.dropCalls_ok (s : State) (h_s : s.Ok) : State.Ok (State.dropCalls s) := by
  unfold State.dropCalls; simp +contextual (maxDischargeDepth := 40) [*]

@[simp] theorem State.ridgeStop_ok (s : State) (h_s : s.Ok) : State.Ok (State.ridgeStop s) := by
  unfold State.ridgeStop; simp +contextual (maxDischargeDepth := 40) [*]

@[simp] theorem State.afterStop_ok (s old : State) (h_s : s.Ok) (h_old : old.Ok) : State.Ok (State.afterStop s old) := by
  unfold State.afterStop; simp +contextual (maxDischargeDepth := 40) [*]

@[simp] theorem State.takeException_ok (s : State) (k v saved detail addr : Nat) (h_s : s.Ok) : State.Ok (State.takeException s k v saved detail addr) := by
  unfold State.takeException; simp +contextual (maxDischargeDepth := 40) [*]

@[simp] theorem State.takeInterrupt_ok (s : State) (k p saved : Nat) (h_s : s.Ok) : State.Ok (State.takeInterrupt s k p saved) := by
  unfold State.takeInterrupt; simp +contextual (maxDischargeDepth := 40) [*]

@[simp] theorem State.wdBoundary_ok (s : State) (k : Nat) (h_s : s.Ok) : State.Ok (State.wdBoundary s k) := by
  unfold State.wdBoundary; simp +contextual (maxDischargeDepth := 40) [*]

@[simp] theorem State.endWaitd_ok (s : State) (k : Nat) (z : Bool) (h_s : s.Ok) : State.Ok (State.endWaitd s k z) := by
  unfold State.endWaitd; simp +contextual (maxDischargeDepth := 40) [*]

@[simp] theorem State.doneEdge_ok (s : State) (n : Nat) (h_s : s.Ok) : State.Ok (State.doneEdge s n) := by
  unfold State.doneEdge; simp +contextual (maxDischargeDepth := 40) [*]

@[simp] theorem State.breakWaitd_ok (s : State) (k : Nat) (h_s : s.Ok) : State.Ok (State.breakWaitd s k) := by
  unfold State.breakWaitd; simp +contextual (maxDischargeDepth := 40) [*]

@[simp] theorem State.leaveReset_ok (s : State) (k : Nat) (h_s : s.Ok) : State.Ok (State.leaveReset s k) := by
  unfold State.leaveReset; (try dsimp only); (first | (simp +contextual (maxDischargeDepth := 40) [*]; done) | (repeat' (first | assumption | (simp +contextual (maxDischargeDepth := 40) [*]; done) | (first | exact State.pageFail_ok _ _ _ ‹_› _ ‹_› | exact State.inputFail_ok _ _ ‹_› _ ‹_› | exact State.stateFail_ok _ _ ‹_› _ ‹_› | exact State.readParity_ok _ _ _ ‹_› _ ‹_› | exact State.pinFails_ok _ _ _ _ _ ‹_› _ ‹_›) | (refine ok_pair (by assumption) ?_) | (with_reducible apply State.leaveReset_ok) | (with_reducible apply State.updCore_ok) | (with_reducible apply State.emptyStack_ok) | (with_reducible apply State.readData2_ok) | (with_reducible apply State.lockCore_ok) | (with_reducible apply State.ridgeDown_ok) | (with_reducible apply State.afterStop_ok) | (with_reducible apply ok_forEach) | (with_reducible apply ok_fold1) | (with_reducible apply ok_foldp) | (with_reducible apply ok_setReg) | intro _ | split | (dsimp only; done) | dsimp only)))

@[simp] theorem State.holdCore_ok (s : State) (k : Nat) (h_s : s.Ok) : State.Ok (State.holdCore s k) := by
  unfold State.holdCore; simp +contextual (maxDischargeDepth := 40) [*]

@[simp] theorem State.writeShgRun_ok (s : State) (w : Nat) (v : W32) (h_s : s.Ok) : State.Ok (State.writeShgRun s w v) := by
  unfold State.writeShgRun; simp +contextual (maxDischargeDepth := 40) [*]

@[simp] theorem State.clearMemory_ok (s : State) (d : Nat) (h_s : s.Ok) : State.Ok (State.clearMemory s d) := by
  unfold State.clearMemory; simp +contextual (maxDischargeDepth := 40) [*]

@[simp] theorem State.barAbort_ok (s : State) (h_s : s.Ok) : State.Ok (State.barAbort s) := by
  unfold State.barAbort; simp +contextual (maxDischargeDepth := 40) [*]

@[simp] theorem State.barWrite_ok (s : State) (off : Nat) (bs : List Byte) (h_s : s.Ok) : State.Ok (State.barWrite s off bs) := by
  unfold State.barWrite; simp +contextual (maxDischargeDepth := 40) [*]

@[simp] theorem State.barRead_ok (s : State) (off len : Nat) (h_s : s.Ok) : State.Ok (State.barRead s off len) := by
  unfold State.barRead; repeat' (first | assumption | (simp +contextual (maxDischargeDepth := 40) [*]; done) | (first | exact State.pageFail_ok _ _ _ ‹_› _ ‹_› | exact State.inputFail_ok _ _ ‹_› _ ‹_› | exact State.stateFail_ok _ _ ‹_› _ ‹_› | exact State.readParity_ok _ _ _ ‹_› _ ‹_› | exact State.pinFails_ok _ _ _ _ _ ‹_› _ ‹_›) | (refine ok_pair (by assumption) ?_) | intro _ | split | (apply ok_forEach) | (apply ok_foldp) | (apply ok_fold1) | dsimp only)

@[simp] theorem State.barAccess_ok (s : State) (off len : Nat) (data : Option (List Byte)) (h_s : s.Ok) : State.Ok (State.barAccess s off len data) := by
  unfold State.barAccess; repeat' (first | assumption | (simp +contextual (maxDischargeDepth := 40) [*]; done) | (first | exact State.pageFail_ok _ _ _ ‹_› _ ‹_› | exact State.inputFail_ok _ _ ‹_› _ ‹_› | exact State.stateFail_ok _ _ ‹_› _ ‹_› | exact State.readParity_ok _ _ _ ‹_› _ ‹_› | exact State.pinFails_ok _ _ _ _ _ ‹_› _ ‹_›) | (refine ok_pair (by assumption) ?_) | intro _ | split | (apply ok_forEach) | (apply ok_foldp) | (apply ok_fold1) | dsimp only)

@[simp] theorem State.releaseBar_ok (s : State) (h_s : s.Ok) : State.Ok (State.releaseBar s) := by
  unfold State.releaseBar; simp +contextual (maxDischargeDepth := 40) [*]

@[simp] theorem State.setDomSt_ok (s : State) (d : Nat) (st : DomSt) (h_s : s.Ok) : State.Ok (State.setDomSt s d st) := by
  unfold State.setDomSt; simp +contextual (maxDischargeDepth := 40) [*]

@[simp] theorem State.powerUp_ok (s : State) (d : Nat) (h_s : s.Ok) : State.Ok (State.powerUp s d) := by
  unfold State.powerUp; simp +contextual (maxDischargeDepth := 40) [*]

@[simp] theorem State.lanesDown_ok (s : State) (k : Nat) (h_s : s.Ok) : State.Ok (State.lanesDown s k) := by
  unfold State.lanesDown; simp +contextual (maxDischargeDepth := 40) [*]

@[simp] theorem State.powerDown_ok (s : State) (d : Nat) (h_s : s.Ok) : State.Ok (State.powerDown s d) := by
  unfold State.powerDown; simp +contextual (maxDischargeDepth := 40) [*]

@[simp] theorem State.settle_ok (d n) : ∀ s : State, s.Ok → (s.settle d n).Ok := by
  induction n with
  | zero => intro s h; exact h
  | succ n ih => intro s h; unfold State.settle; (repeat' split) <;> simp +contextual (maxDischargeDepth := 40) [*]

@[simp] theorem State.settled_ok (s : State) (d : Nat) (h_s : s.Ok) : State.Ok (State.settled s d) := by
  unfold State.settled; simp +contextual (maxDischargeDepth := 40) [*]

@[simp] theorem State.bootState_ok (s : State) (v : Nat) (h_s : s.Ok) : State.Ok (State.bootState s v) := by
  unfold State.bootState; simp +contextual (maxDischargeDepth := 40) [*]

@[simp] theorem State.tryReady_ok (s : State) (h_s : s.Ok) : State.Ok (State.tryReady s) := by
  unfold State.tryReady; simp +contextual (maxDischargeDepth := 40) [*]

@[simp] theorem State.tryHostWait_ok (s : State) (h_s : s.Ok) : State.Ok (State.tryHostWait s) := by
  unfold State.tryHostWait; simp +contextual (maxDischargeDepth := 40) [*]

@[simp] theorem State.ridgeClear_ok (s : State) (h_s : s.Ok) : State.Ok (State.ridgeClear s) := by
  unfold State.ridgeClear; simp +contextual (maxDischargeDepth := 40) [*]

@[simp] theorem State.bootError_ok (s : State) (code : Nat) (h_s : s.Ok) : State.Ok (State.bootError s code) := by
  unfold State.bootError; simp +contextual (maxDischargeDepth := 40) [*]

@[simp] theorem State.kernelRuns_ok (s : State) (entry : Nat) (ws : List Nat) (host : Bool) (h_s : s.Ok) : State.Ok (State.kernelRuns s entry ws host) := by
  unfold State.kernelRuns; simp +contextual (maxDischargeDepth := 40) [*]

theorem State.loadKernel_ok (s : State) (read : State → Nat → Nat → State × Option (List Byte)) (e : Nat) (host : Bool) (h_s : s.Ok)
    (hr : ∀ s o n, s.Ok → (read s o n).1.Ok) : State.Ok (State.loadKernel s read e host) := by
  unfold State.loadKernel; split
  · exact State.bootError_ok _ _ (ok_pair (by assumption) (hr _ _ _ h_s))
  · have h1 := ok_pair (by assumption) (hr s 0 32 h_s)
    split
    · exact State.bootError_ok _ _ h1
    · dsimp only; split
      · exact State.bootError_ok _ _ (ok_pair (by assumption) (hr _ _ _ h1))
      · have h2 := ok_pair (by assumption) (hr _ _ _ h1)
        split
        · exact State.kernelRuns_ok _ _ _ _ h2
        · exact State.bootError_ok _ _ h2

@[simp] theorem State.romStore_ok (s : State) (off n : Nat) (h_s : s.Ok) : State.Ok (State.romStore s off n).1 := by
  unfold State.romStore; repeat' (first | assumption | (simp +contextual (maxDischargeDepth := 40) [*]; done) | (first | exact State.pageFail_ok _ _ _ ‹_› _ ‹_› | exact State.inputFail_ok _ _ ‹_› _ ‹_› | exact State.stateFail_ok _ _ ‹_› _ ‹_› | exact State.readParity_ok _ _ _ ‹_› _ ‹_› | exact State.pinFails_ok _ _ _ _ _ ‹_› _ ‹_›) | (refine ok_pair (by assumption) ?_) | intro _ | split | (apply ok_forEach) | (apply ok_foldp) | (apply ok_fold1) | dsimp only)

@[simp] theorem State.kernelLoaded_ok (s : State) (flash : List Byte) (h_s : s.Ok) : State.Ok (State.kernelLoaded s flash) := by
  unfold State.kernelLoaded; (try dsimp only); (first | (simp +contextual (maxDischargeDepth := 40) [*]; done) | (repeat' (first | assumption | (simp +contextual (maxDischargeDepth := 40) [*]; done) | (first | exact State.pageFail_ok _ _ _ ‹_› _ ‹_› | exact State.inputFail_ok _ _ ‹_› _ ‹_› | exact State.stateFail_ok _ _ ‹_› _ ‹_› | exact State.readParity_ok _ _ _ ‹_› _ ‹_› | exact State.pinFails_ok _ _ _ _ _ ‹_› _ ‹_›) | (refine ok_pair (by assumption) ?_) | (with_reducible apply State.kernelLoaded_ok) | (with_reducible apply State.loadKernel_ok) | (with_reducible apply State.romStore_ok) | (with_reducible apply ok_forEach) | (with_reducible apply ok_fold1) | (with_reducible apply ok_foldp) | (with_reducible apply ok_setReg) | intro _ | split | (dsimp only; done) | dsimp only)))

@[simp] theorem State.bootGo_ok (s : State) (h_s : s.Ok) : State.Ok (State.bootGo s) := by
  unfold State.bootGo; simp +contextual (maxDischargeDepth := 40) [*]

@[simp] theorem State.bootBatch_ok (s : State) (h_s : s.Ok) : State.Ok (State.bootBatch s) := by
  unfold State.bootBatch; simp +contextual (maxDischargeDepth := 40) [*]

@[simp] theorem State.bootTick_ok (s : State) (h_s : s.Ok) : State.Ok (State.bootTick s) := by
  unfold State.bootTick; simp +contextual (maxDischargeDepth := 40) [*]

@[simp] theorem State.rampDone_ok (s : State) (d : Nat) (h_s : s.Ok) : State.Ok (State.rampDone s d) := by
  unfold State.rampDone; simp +contextual (maxDischargeDepth := 40) [*]

@[simp] theorem State.startGroup_ok (s : State) (g : Nat) (h_s : s.Ok) : State.Ok (State.startGroup s g) := by
  unfold State.startGroup; simp +contextual (maxDischargeDepth := 40) [*]

@[simp] theorem State.clearDone_ok (s : State) (d : Nat) (h_s : s.Ok) : State.Ok (State.clearDone s d) := by
  unfold State.clearDone; simp +contextual (maxDischargeDepth := 40) [*]

@[simp] theorem State.drainDone_ok (s : State) (d : Nat) (h_s : s.Ok) : State.Ok (State.drainDone s d) := by
  unfold State.drainDone; simp +contextual (maxDischargeDepth := 40) [*]

@[simp] theorem State.lastSetOf_ok (s : State) (a : Nat) (h_s : s.Ok) : State.Ok (State.lastSetOf s a) := by
  unfold State.lastSetOf; simp +contextual (maxDischargeDepth := 40) [*]

@[simp] theorem State.flr_ok (s : State) (h_s : s.Ok) : State.Ok (State.flr s) := by
  unfold State.flr; simp +contextual (maxDischargeDepth := 40) [*]

@[simp] theorem State.pcieReset_ok (s : State) (up : Bool) (h_s : s.Ok) : State.Ok (State.pcieReset s up) := by
  unfold State.pcieReset; simp +contextual (maxDischargeDepth := 40) [*]

@[simp] theorem State.heldReset_ok (s : State) (h_s : s.Ok) : State.Ok (State.heldReset s) := by
  unfold State.heldReset
  dsimp only
  apply ok_forEach
  · simp only [ok_mk]
    refine ⟨rfl, wf_filter_reg _ h_s.regs, ?_, ?_, h_s.sec, h_s.sub⟩ <;> simp [State.reset]
  · intro s x h; exact State.updLane_ok _ _ _ h

theorem State.seedTime_lt (s : State) : s.seedTime < 18446744073709551616 := by unfold State.seedTime; omega
@[simp] theorem State.powerOn_ok (s : State) (mode : Nat) (h_s : s.Ok) : State.Ok (State.powerOn s mode) := by
  have h1 := State.heldReset_ok s h_s
  have hd := s.seedTime_lt
  unfold State.powerOn
  generalize s.heldReset = x at h1 ⊢
  dsimp only
  split
  · apply State.bootState_ok; rw [ok_mk]; exact ⟨h1.store, h1.regs, hd, h1.frac, h1.sec, h1.sub⟩
  · rw [ok_mk]; exact ⟨h1.store, h1.regs, hd, h1.frac, h1.sec, h1.sub⟩

@[simp] theorem State.softRidge_ok (s : State) (h_s : s.Ok) : State.Ok (State.softRidge s) := by
  unfold State.softRidge; simp +contextual (maxDischargeDepth := 40) [*]

@[simp] theorem State.softShingle_ok (s : State) (g : Nat) (h_s : s.Ok) : State.Ok (State.softShingle s g) := by
  unfold State.softShingle; simp +contextual (maxDischargeDepth := 40) [*]

@[simp] theorem State.softField_ok (s : State) (k : Nat) (h_s : s.Ok) : State.Ok (State.softField s k) := by
  unfold State.softField; simp +contextual (maxDischargeDepth := 40) [*]

@[simp] theorem State.checkClocks_ok (s : State) (h_s : s.Ok) : State.Ok (State.checkClocks s) := by
  unfold State.checkClocks
  apply ok_forEach h_s
  intro s q h
  split
  · split
    · apply State.retryHomes_ok; exact State.finish_ok _ _ _ _ h
    · exact h
  · exact h

@[simp] theorem State.thermSample_ok (s : State) (t : BitVec 12) (h_s : s.Ok) : State.Ok (State.thermSample s t) := by
  unfold State.thermSample; simp +contextual (maxDischargeDepth := 40) [*]

@[simp] theorem State.calMoved_ok (s : State) (h_s : s.Ok) : (s.calMoved).Ok := by
  unfold State.calMoved; (first | (simp +contextual (maxDischargeDepth := 40) [*]; done) | (repeat' (first | assumption | (simp +contextual (maxDischargeDepth := 40) [*]; done) | (first | exact State.pageFail_ok _ _ _ ‹_› _ ‹_› | exact State.inputFail_ok _ _ ‹_› _ ‹_› | exact State.stateFail_ok _ _ ‹_› _ ‹_› | exact State.readParity_ok _ _ _ ‹_› _ ‹_› | exact State.pinFails_ok _ _ _ _ _ ‹_› _ ‹_›) | (refine ok_pair (by assumption) ?_) | (with_reducible apply State.calMoved_ok) | (with_reducible apply State.updReg_ok) | (with_reducible apply State.raise_ok) | (with_reducible apply ok_forEach) | (with_reducible apply ok_fold1) | (with_reducible apply ok_foldp) | (with_reducible apply ok_setReg) | intro _ | split | (dsimp only; done) | dsimp only)))

@[simp] theorem State.calCommit_ok (s : State) (v : W32) (h_s : s.Ok) : State.Ok (State.calCommit s v) := by
  unfold State.calCommit; apply State.calMoved_ok; simp [h_s]; have := s.cald.lo.isLt; omega

@[simp] theorem State.ppsServo_ok (s : State) (cap : Nat) (h_s : s.Ok) : State.Ok (State.ppsServo s cap) := by
  unfold State.ppsServo; (try dsimp only); repeat' split <;> simp +contextual (maxDischargeDepth := 40) [*]

@[simp] theorem State.aonOff_ok (s : State) (h_s : s.Ok) : State.Ok (State.aonOff s) := by
  unfold State.aonOff; simp +contextual (maxDischargeDepth := 40) [*]

@[simp] theorem State.jtagSelect_ok (s : State) (i : Byte) (h_s : s.Ok) : State.Ok (State.jtagSelect s i) := by
  unfold State.jtagSelect; simp +contextual (maxDischargeDepth := 40) [*]

@[simp] theorem State.writeCqCfg_ok (s : State) (k : Nat) (nv : W32) (h_s : s.Ok) : State.Ok (State.writeCqCfg s k nv) := by
  unfold State.writeCqCfg; simp +contextual (maxDischargeDepth := 40) [*]

@[simp] theorem State.writeSpare_ok (s : State) (nv : W32) (h_s : s.Ok) : State.Ok (State.writeSpare s nv) := by
  unfold State.writeSpare; simp +contextual (maxDischargeDepth := 40) [*]

@[simp] theorem State.writeFence_ok (s : State) (ones : W32) (h_s : s.Ok) : State.Ok (State.writeFence s ones) := by
  unfold State.writeFence; simp +contextual (maxDischargeDepth := 40) [*]

@[simp] theorem State.writeAdm_ok (s : State) (nv : W32) (h_s : s.Ok) : State.Ok (State.writeAdm s nv) := by
  unfold State.writeAdm; simp +contextual (maxDischargeDepth := 40) [*]

@[simp] theorem State.dmaStart_ok (s : State) (n m : Nat) (h_s : s.Ok) : State.Ok (State.dmaStart s n m) := by
  unfold State.dmaStart; simp +contextual (maxDischargeDepth := 40) [*]

@[simp] theorem State.dmaAbort_ok (s : State) (n : Nat) (h_s : s.Ok) : State.Ok (State.dmaAbort s n) := by
  unfold State.dmaAbort; simp +contextual (maxDischargeDepth := 40) [*]

@[simp] theorem State.holdRx_ok (s : State) (l : Nat) (h_s : s.Ok) : State.Ok (State.holdRx s l) := by
  unfold State.holdRx; simp +contextual (maxDischargeDepth := 40) [*]

@[simp] theorem State.writeFldCtl_ok (s : State) (l : Nat) (nv : W32) (h_s : s.Ok) : State.Ok (State.writeFldCtl s l nv) := by
  unfold State.writeFldCtl; simp +contextual (maxDischargeDepth := 40) [*]

@[simp] theorem State.writeFldRxeq_ok (s : State) (l : Nat) (nv : W32) (h_s : s.Ok) : State.Ok (State.writeFldRxeq s l nv) := by
  unfold State.writeFldRxeq; simp +contextual (maxDischargeDepth := 40) [*]

@[simp] theorem State.writeDtCtl_ok (s : State) (nv : W32) (h_s : s.Ok) : State.Ok (State.writeDtCtl s nv) := by
  unfold State.writeDtCtl; simp +contextual (maxDischargeDepth := 40) [*]

@[simp] theorem State.writeMrdCtl_ok (s : State) (nv : W32) (h_s : s.Ok) : State.Ok (State.writeMrdCtl s nv) := by
  unfold State.writeMrdCtl; simp +contextual (maxDischargeDepth := 40) [*]

@[simp] theorem State.writeReg_ok (s : State) (master : Nat) (r : Reg) (v m : W32) (h_s : s.Ok) : State.Ok (State.writeReg s master r v m) := by
  unfold State.writeReg; (try dsimp only); repeat' split <;> simp +contextual (maxDischargeDepth := 40) [*]

@[simp] theorem State.writeOff_ok (s : State) (master off : Nat) (v m : W32) (h_s : s.Ok) : State.Ok (State.writeOff s master off v m) := by
  unfold State.writeOff; (try dsimp only); repeat' split <;> simp +contextual (maxDischargeDepth := 40) [*]

@[simp] theorem State.fromHost_ok (s : State) (g : State → State) (h_s : s.Ok) (hg : ∀ s, s.Ok → (g s).Ok) : (s.fromHost g).Ok := by
  unfold State.fromHost; repeat' split
  · exact h_s
  · exact State.aer_ok _ _ (State.emit_ok _ _ h_s)
  · exact hg _ h_s

@[simp] theorem State.doorbellError_ok (s : State) (h_s : s.Ok) : State.Ok (State.doorbellError s) := by
  unfold State.doorbellError; simp +contextual (maxDischargeDepth := 40) [*]

@[simp] theorem State.doorbell_ok (s : State) (g : State → State) (h_s : s.Ok) (hg : ∀ s, s.Ok → (g s).Ok) : State.Ok (State.doorbell s g) := by
  unfold State.doorbell; apply State.fromHost_ok _ _ h_s; intro s h; split <;> simp [*]

@[simp] theorem State.headDoorbell_ok (s : State) (k : Nat) (v : W32) (h_s : s.Ok) : State.Ok (State.headDoorbell s k v) := by
  unfold State.headDoorbell; simp +contextual (maxDischargeDepth := 40) [*]

@[simp] theorem State.request_ok (s : State) (q : Nat) (r : Rd) (a n : Nat) (h_s : s.Ok) : State.Ok (State.request s q r a n) := by
  unfold State.request; simp +contextual (maxDischargeDepth := 40) [*]

@[simp] theorem State.sqAct_ok (s : State) (q : Nat) (h_s : s.Ok) : State.Ok (State.sqAct s q) := by
  unfold State.sqAct; repeat' (first | assumption | (simp +contextual (maxDischargeDepth := 40) [*]; done) | (first | exact State.pageFail_ok _ _ _ ‹_› _ ‹_› | exact State.inputFail_ok _ _ ‹_› _ ‹_› | exact State.stateFail_ok _ _ ‹_› _ ‹_› | exact State.readParity_ok _ _ _ ‹_› _ ‹_› | exact State.pinFails_ok _ _ _ _ _ ‹_› _ ‹_›) | (refine ok_pair (by assumption) ?_) | intro _ | split | (apply ok_forEach) | (apply ok_foldp) | (apply ok_fold1) | dsimp only)

@[simp] theorem State.gotDesc_ok (s : State) (q : Nat) (d : Desc) (first : Bool) (h_s : s.Ok) : State.Ok (State.gotDesc s q d first) := by
  unfold State.gotDesc; simp +contextual (maxDischargeDepth := 40) [*]

@[simp] theorem State.readStops_ok (s : State) (q cid index : Nat) (resumed : Bool) (h_s : s.Ok) : State.Ok (State.readStops s q cid index resumed) := by
  unfold State.readStops; simp +contextual (maxDischargeDepth := 40) [*]

@[simp] theorem State.readFailed_ok (s : State) (q : Nat) (r : Rd) (h_s : s.Ok) : State.Ok (State.readFailed s q r) := by
  unfold State.readFailed; (try dsimp only); repeat' split <;> simp +contextual (maxDischargeDepth := 40) [*]

@[simp] theorem State.fetchArgs_ok (s : State) (q : Nat) (c : Cmd) (h_s : s.Ok) : State.Ok (State.fetchArgs s q c) := by
  unfold State.fetchArgs; simp +contextual (maxDischargeDepth := 40) [*]

@[simp] theorem State.readDone_ok (s : State) (q : Nat) (r : Rd) (bs : List Byte) (h_s : s.Ok) : State.Ok (State.readDone s q r bs) := by
  unfold State.readDone; (try dsimp only); repeat' split <;> simp +contextual (maxDischargeDepth := 40) [*]

@[simp] theorem State.command_ok (s : State) (q : Nat) (p : Desc → Bool) (check : State → Desc → Option Status)
    (act : State → Desc → List Byte → State) (h_s : s.Ok) (hg : ∀ s d b, s.Ok → (act s d b).Ok) : (s.command q p check act).Ok := by
  unfold State.command; (first | (simp +contextual (maxDischargeDepth := 40) [*]; done) | (repeat' (first | assumption | (simp +contextual (maxDischargeDepth := 40) [*]; done) | (first | exact State.pageFail_ok _ _ _ ‹_› _ ‹_› | exact State.inputFail_ok _ _ ‹_› _ ‹_› | exact State.stateFail_ok _ _ ‹_› _ ‹_› | exact State.readParity_ok _ _ _ ‹_› _ ‹_› | exact State.pinFails_ok _ _ _ _ _ ‹_› _ ‹_›) | (refine ok_pair (by assumption) ?_) | (with_reducible apply State.command_ok) | (with_reducible apply State.finish_ok) | (with_reducible apply State.fetchArgs_ok) | (with_reducible apply ok_forEach) | (with_reducible apply ok_fold1) | (with_reducible apply ok_foldp) | (with_reducible apply ok_setReg) | intro _ | split | (dsimp only; done) | dsimp only)))

theorem State.pinFails_ok (s : State) (cs : List Nat) (k : Nat) (r : Rec) (hostOk : Bool) (h_s : s.Ok) : ∀ t, (State.pinFails s cs k r hostOk) = some t → t.Ok := by
  intro t ht; unfold State.pinFails at ht
  obtain ⟨e, -, he⟩ := List.exists_of_findSome?_eq_some ht
  split at he
  · cases he
  · exact State.pageFail_ok _ _ _ h_s _ he

@[simp] theorem State.putRec_ok (s : State) (t n : Nat) (r : Rec) (h_s : s.Ok) : State.Ok (State.putRec s t n r) := by
  unfold State.putRec; simp +contextual (maxDischargeDepth := 40) [*]

@[simp] theorem State.admitTo_ok (s : State) (t c : Nat) (r : Rec) (h_s : s.Ok) : State.Ok (State.admitTo s t c r) := by
  unfold State.admitTo; simp +contextual (maxDischargeDepth := 40) [*]

@[simp] theorem State.define_ok (s : State) (q t : Nat) (r : Rec) (hostOk : Bool) (h_s : s.Ok) : State.Ok (State.define s q t r hostOk) := by
  unfold State.define; split
  · exact State.finish_ok _ _ _ _ h_s
  · extract_lets s1
    have h1 : s1.Ok := State.admitTo_ok _ _ _ _ h_s
    refine ok_ite (State.finish_ok _ _ _ _ h1) ?_
    split
    · rename_i h; exact State.finish_ok _ _ _ _ (State.pinFails_ok _ _ _ _ _ h_s _ h)
    · exact ok_ite (State.finish_ok _ _ _ _ h1) h_s

@[simp] theorem State.putImage_ok (s : State) (t : Nat) (n : Rec) (h_s : s.Ok) : State.Ok (State.putImage s t n) := by
  unfold State.putImage; simp +contextual (maxDischargeDepth := 40) [*]

@[simp] theorem State.rebind_ok (s : State) (q t : Nat) (n : Rec) (hostOk : Bool) (h_s : s.Ok) : State.Ok (State.rebind s q t n hostOk) := by
  unfold State.rebind; (try dsimp only); (first | (simp +contextual (maxDischargeDepth := 40) [*]; done) | (repeat' (first | assumption | (simp +contextual (maxDischargeDepth := 40) [*]; done) | (first | exact State.pageFail_ok _ _ _ ‹_› _ ‹_› | exact State.inputFail_ok _ _ ‹_› _ ‹_› | exact State.stateFail_ok _ _ ‹_› _ ‹_› | exact State.readParity_ok _ _ _ ‹_› _ ‹_› | exact State.pinFails_ok _ _ _ _ _ ‹_› _ ‹_›) | (refine ok_pair (by assumption) ?_) | (with_reducible apply State.rebind_ok) | (with_reducible apply State.finish_ok) | (with_reducible apply State.putImage_ok) | (with_reducible apply State.pinAll_ok) | (with_reducible apply ok_forEach) | (with_reducible apply ok_fold1) | (with_reducible apply ok_foldp) | (with_reducible apply ok_setReg) | intro _ | split | (dsimp only; done) | dsimp only)))

@[simp] theorem State.dropQueued_ok (s : State) (t : Nat) (h_s : s.Ok) : State.Ok (State.dropQueued s t) := by
  unfold State.dropQueued
  apply ok_forEach h_s
  intro s q h
  split
  · exact State.endJob_ok _ _ h
  · exact h

@[simp] theorem State.remove_ok (s : State) (q t : Nat) (h_s : s.Ok) : State.Ok (State.remove s q t) := by
  unfold State.remove; simp +contextual (maxDischargeDepth := 40) [*]

@[simp] theorem State.hostPin_ok (s : State) (q c a : Nat) (hostOk : Bool) (h_s : s.Ok) : State.Ok (State.hostPin s q c a hostOk) := by
  unfold State.hostPin; (try dsimp only); (first | (simp +contextual (maxDischargeDepth := 40) [*]; done) | (repeat' (first | assumption | (simp +contextual (maxDischargeDepth := 40) [*]; done) | (first | exact State.pageFail_ok _ _ _ ‹_› _ ‹_› | exact State.inputFail_ok _ _ ‹_› _ ‹_› | exact State.stateFail_ok _ _ ‹_› _ ‹_› | exact State.readParity_ok _ _ _ ‹_› _ ‹_› | exact State.pinFails_ok _ _ _ _ _ ‹_› _ ‹_›) | (refine ok_pair (by assumption) ?_) | (with_reducible apply State.hostPin_ok) | (with_reducible apply State.finish_ok) | (with_reducible apply State.loadPage_ok) | (with_reducible apply ok_forEach) | (with_reducible apply ok_fold1) | (with_reducible apply ok_foldp) | (with_reducible apply ok_setReg) | intro _ | split | (dsimp only; done) | dsimp only)))

@[simp] theorem State.startLine_ok (s : State) (q t0 l : Nat) (h_s : s.Ok) : State.Ok (State.startLine s q t0 l) := by
  unfold State.startLine; simp +contextual (maxDischargeDepth := 40) [*]

@[simp] theorem State.slotLoad_ok (s : State) (q a slot : Nat) (bs : List Byte) (h_s : s.Ok) : State.Ok (State.slotLoad s q a slot bs) := by
  unfold State.slotLoad; (try dsimp only); repeat' split <;> simp +contextual (maxDischargeDepth := 40) [*]

@[simp] theorem State.lineSet_ok (s : State) (q l : Nat) (lr : Nat → W32) (h_s : s.Ok) : State.Ok (State.lineSet s q l lr) := by
  unfold State.lineSet; simp +contextual (maxDischargeDepth := 40) [*]

@[simp] theorem State.partnerSet_ok (s : State) (q p : Nat) (r : Nat → W32) (h_s : s.Ok) : State.Ok (State.partnerSet s q p r) := by
  unfold State.partnerSet; simp +contextual (maxDischargeDepth := 40) [*]

@[simp] theorem State.calSet_ok (s : State) (q k : Nat) (r : Nat → W32) (h_s : s.Ok) : State.Ok (State.calSet s q k r) := by
  unfold State.calSet; simp +contextual (maxDischargeDepth := 40) [*]

@[simp] theorem State.storeCopyIn_ok (s : State) (off : Nat) (bs : List Byte) (h_s : s.Ok) : State.Ok (State.storeCopyIn s off bs) := by
  unfold State.storeCopyIn; simp +contextual (maxDischargeDepth := 40) [*]

@[simp] theorem State.storeCopyOut_ok (s : State) (off n : Nat) (h_s : s.Ok) : State.Ok (State.storeCopyOut s off n).1 := by
  unfold State.storeCopyOut; (try dsimp only); repeat' split <;> simp +contextual (maxDischargeDepth := 40) [*]

@[simp] theorem State.stepTime_ok (s : State) (dt frac : Nat) (h_s : s.Ok) (hf : frac < 4294967296) : State.Ok (State.stepTime s dt frac) := by
  unfold State.stepTime
  apply State.raise_ok
  apply ok_forEach
  · exact ⟨h_s.store, h_s.regs, Nat.mod_lt _ (by decide), hf, h_s.sec, h_s.sub⟩
  · intro s k h; exact State.updScr_ok _ _ _ h

@[simp] theorem State.askStep_ok (s : State) (st c : Nat) (h_s : s.Ok) : State.Ok (State.askStep s st c) := by
  unfold State.askStep; simp +contextual (maxDischargeDepth := 40) [*]

@[simp] theorem State.clockSet_ok (s : State) (q st m : Nat) (h_s : s.Ok) : State.Ok (State.clockSet s q st m) := by
  have h1 : (s.forEach (clustersOf m) (fun s c => s.askStep st c)).Ok := by
    apply ok_forEach h_s; intro s c h; exact State.askStep_ok _ _ _ h
  unfold State.clockSet
  extract_lets s1
  split
  · exact State.finish_ok _ _ _ _ h_s
  · apply State.checkClocks_ok; exact State.wait_ok _ _ h1

@[simp] theorem State.powerAccept_ok (s : State) (q d : Nat) (on : Bool) (h_s : s.Ok) : State.Ok (State.powerAccept s q d on) := by
  unfold State.powerAccept; simp +contextual (maxDischargeDepth := 40) [*]

@[simp] theorem State.kernelRead_ok (n) : ∀ (a) (s : State), s.Ok → (s.kernelRead a n).1.Ok := by
  induction n with
  | zero => intro a s h; exact h
  | succ n ih =>
    intro a s h; unfold State.kernelRead; split
    · refine ok_pair (by assumption) ?_; simp [h]
    · have h1 := ok_pair (by assumption) (State.busRead_ok s 2 a 1 true h)
      split <;> exact ok_pair (by assumption) (ih _ _ h1)

@[simp] theorem State.copyImage_ok (s : State) (ts : List Nat) (im : List Byte) (h_s : s.Ok) : State.Ok (State.copyImage s ts im) := by
  unfold State.copyImage; simp +contextual (maxDischargeDepth := 40) [*]

@[simp] theorem State.setRuns_ok (s : State) (ts : List Nat) (b : Bool) (h_s : s.Ok) : State.Ok (State.setRuns s ts b) := by
  unfold State.setRuns; simp +contextual (maxDischargeDepth := 40) [*]

@[simp] theorem State.loadFails_ok (s : State) (q : Nat) (n : Fin 4) (h_s : s.Ok) : State.Ok (State.loadFails s q n) := by
  unfold State.loadFails; simp +contextual (maxDischargeDepth := 40) [*]

@[simp] theorem State.loadEnds_ok (s : State) (q : Nat) (bs im : List Byte) (h_s : s.Ok) : State.Ok (State.loadEnds s q bs im) := by
  unfold State.loadEnds; simp +contextual (maxDischargeDepth := 40) [*]

@[simp] theorem State.shingleLoad_ok (s : State) (q : Nat) (bs : List Byte) (h_s : s.Ok) : State.Ok (State.shingleLoad s q bs) := by
  unfold State.shingleLoad; (try dsimp only); (first | (simp +contextual (maxDischargeDepth := 40) [*]; done) | (repeat' (first | assumption | (simp +contextual (maxDischargeDepth := 40) [*]; done) | (first | exact State.pageFail_ok _ _ _ ‹_› _ ‹_› | exact State.inputFail_ok _ _ ‹_› _ ‹_› | exact State.stateFail_ok _ _ ‹_› _ ‹_› | exact State.readParity_ok _ _ _ ‹_› _ ‹_› | exact State.pinFails_ok _ _ _ _ _ ‹_› _ ‹_›) | (refine ok_pair (by assumption) ?_) | (with_reducible apply State.shingleLoad_ok) | (with_reducible apply State.finish_ok) | (with_reducible apply State.setRuns_ok) | (with_reducible apply State.loadFails_ok) | (with_reducible apply State.kernelRead_ok) | (with_reducible apply State.ridgeDown_ok) | (with_reducible apply State.afterStop_ok) | (with_reducible apply State.copyImage_ok) | (with_reducible apply State.loadEnds_ok) | (with_reducible apply ok_forEach) | (with_reducible apply ok_fold1) | (with_reducible apply ok_foldp) | (with_reducible apply ok_setReg) | intro _ | split | (dsimp only; done) | dsimp only)))

@[simp] theorem State.eachByte_ok (s : State) (o : Nat) (bs : List Byte) (g : State → Nat → Byte → State) (h_s : s.Ok) (hg : ∀ s a b, s.Ok → (g s a b).Ok) : (s.eachByte o bs g).Ok := by
  unfold State.eachByte; simp +contextual [*]

@[simp] theorem State.ridgeProg_ok (s : State) (a : Nat) (w : W12) (h_s : s.Ok) : State.Ok (State.ridgeProg s a w) := by
  unfold State.ridgeProg; simp +contextual (maxDischargeDepth := 40) [*]

@[simp] theorem State.ridgePoke_ok (s : State) (o : Nat) (b : Byte) (h_s : s.Ok) : State.Ok (State.ridgePoke s o b) := by
  unfold State.ridgePoke; (try dsimp only); repeat' split <;> simp +contextual (maxDischargeDepth := 40) [*]

@[simp] theorem State.framePoke_ok (s : State) (c o : Nat) (b : Byte) (h_s : s.Ok) : State.Ok (State.framePoke s c o b) := by
  unfold State.framePoke; simp +contextual (maxDischargeDepth := 40) [*]

@[simp] theorem State.clusterPoke_ok (s : State) (c o : Nat) (v m : W32) (h_s : s.Ok) : State.Ok (State.clusterPoke s c o v m) := by
  unfold State.clusterPoke; simp +contextual (maxDischargeDepth := 40) [*]

@[simp] theorem State.mailPoke_ok (s : State) (k i : Nat) (b : Byte) (h_s : s.Ok) : State.Ok (State.mailPoke s k i b) := by
  unfold State.mailPoke; simp +contextual (maxDischargeDepth := 40) [*]

@[simp] theorem State.shinglePoke_ok (s : State) (k o : Nat) (b : Byte) (h_s : s.Ok) : State.Ok (State.shinglePoke s k o b) := by
  unfold State.shinglePoke; simp +contextual (maxDischargeDepth := 40) [*]

@[simp] theorem State.latchPoke_ok (s : State) (m o : Nat) (b : Byte) (h_s : s.Ok) : State.Ok (State.latchPoke s m o b) := by
  unfold State.latchPoke; simp +contextual (maxDischargeDepth := 40) [*]

@[simp] theorem State.poke_ok (s : State) (m a : Nat) (bs : List Byte) (h_s : s.Ok) : State.Ok (State.poke s m a bs) := by
  unfold State.poke; (try dsimp only); repeat' split <;> simp +contextual (maxDischargeDepth := 40) [*]

@[simp] theorem State.sysWrite_ok (s : State) (m a : Nat) (bs : List Byte) (dma : Bool) (h_s : s.Ok) : State.Ok (State.sysWrite s m a bs dma).1 := by
  unfold State.sysWrite; repeat' (first | assumption | (simp +contextual (maxDischargeDepth := 40) [*]; done) | (first | exact State.pageFail_ok _ _ _ ‹_› _ ‹_› | exact State.inputFail_ok _ _ ‹_› _ ‹_› | exact State.stateFail_ok _ _ ‹_› _ ‹_› | exact State.readParity_ok _ _ _ ‹_› _ ‹_› | exact State.pinFails_ok _ _ _ _ _ ‹_› _ ‹_›) | (refine ok_pair (by assumption) ?_) | intro _ | split | (apply ok_forEach) | (apply ok_foldp) | (apply ok_fold1) | dsimp only)

@[simp] theorem State.localWrite_ok (s : State) (k a : Nat) (b : Byte) (h_s : s.Ok) : State.Ok (State.localWrite s k a b) := by
  unfold State.localWrite; simp +contextual (maxDischargeDepth := 40) [*]

@[simp] theorem State.writeData_ok (s : State) (k a : Nat) (b : Byte) (h_s : s.Ok) : State.Ok (State.writeData s k a b).1 := by
  unfold State.writeData; (try dsimp only); repeat' split <;> simp +contextual (maxDischargeDepth := 40) [*]

@[simp] theorem State.writeData2_ok (s : State) (k a : Nat) (lo hi : Byte) (h_s : s.Ok) : State.Ok (State.writeData2 s k a lo hi).1 := by
  unfold State.writeData2; dsimp only; split
  · exact ok_window2 _ _ _ _ _ _ h_s _ (by assumption)
  · (first | (simp +contextual (maxDischargeDepth := 40) [*]; done) | (repeat' (first | assumption | (simp +contextual (maxDischargeDepth := 40) [*]; done) | (first | exact State.pageFail_ok _ _ _ ‹_› _ ‹_› | exact State.inputFail_ok _ _ ‹_› _ ‹_› | exact State.stateFail_ok _ _ ‹_› _ ‹_› | exact State.readParity_ok _ _ _ ‹_› _ ‹_› | exact State.pinFails_ok _ _ _ _ _ ‹_› _ ‹_›) | (refine ok_pair (by assumption) ?_) | (with_reducible apply State.writeData2_ok) | (with_reducible apply State.writeData_ok) | (with_reducible apply State.localWrite_ok) | (with_reducible apply State.sysWrite_ok) | (with_reducible apply ok_forEach) | (with_reducible apply ok_fold1) | (with_reducible apply ok_foldp) | (with_reducible apply ok_setReg) | intro _ | split | (dsimp only; done) | dsimp only)))

@[simp] theorem State.aliasRead_ok (s : State) (m a len : Nat) (h_s : s.Ok) : State.Ok (State.aliasRead s m a len) := by
  unfold State.aliasRead; (try dsimp only); (first | (simp +contextual (maxDischargeDepth := 40) [*]; done) | (repeat' (first | assumption | (simp +contextual (maxDischargeDepth := 40) [*]; done) | (first | exact State.pageFail_ok _ _ _ ‹_› _ ‹_› | exact State.inputFail_ok _ _ ‹_› _ ‹_› | exact State.stateFail_ok _ _ ‹_› _ ‹_› | exact State.readParity_ok _ _ _ ‹_› _ ‹_› | exact State.pinFails_ok _ _ _ _ _ ‹_› _ ‹_›) | (refine ok_pair (by assumption) ?_) | (with_reducible apply State.aliasRead_ok) | (with_reducible apply State.busRead_ok) | (with_reducible apply State.emit_ok) | (with_reducible apply State.readData_ok) | (with_reducible apply ok_forEach) | (with_reducible apply ok_fold1) | (with_reducible apply ok_foldp) | (with_reducible apply ok_setReg) | intro _ | split | (dsimp only; done) | dsimp only)))

@[simp] theorem State.dmaPut_ok (n fuel) : ∀ (bs) (s : State), s.Ok → (s.dmaPut n fuel bs).1.Ok := by
  induction fuel with
  | zero => intro a s h; exact h
  | succ k ih =>
    intro a s h; unfold State.dmaPut; split
    · exact h
    · dsimp only; split
      · exact ok_pair (by assumption) (State.sysWrite_ok _ _ _ _ _ h)
      · exact ih _ _ (by simp [ok_pair (by assumption) (State.sysWrite_ok _ _ _ _ _ h)])

@[simp] theorem State.dmaTurn_ok (s : State) (n rem : Nat) (h_s : s.Ok) : (s.dmaTurn n rem).1.Ok := by
  have h1 : ({ s with dmaLast := n } : State).Ok := ⟨h_s.store, h_s.regs, h_s.dt, h_s.frac, h_s.sec, h_s.sub⟩
  unfold State.dmaTurn
  dsimp only
  split
  · exact ok_pair (by assumption) (State.busRead_ok _ _ _ _ _ h1)
  · exact State.dmaPut_ok _ _ _ _ (ok_pair (by assumption) (State.busRead_ok _ _ _ _ _ h1))

@[simp] theorem State.dmaTurns_ok (n fuel) : ∀ (rem) (s : State), s.Ok → (s.dmaTurns n fuel rem).1.Ok := by
  induction fuel with
  | zero => intro a s h; exact h
  | succ k ih =>
    intro a s h; unfold State.dmaTurns; split
    · exact h
    · split
      · exact h
      · extract_lets r x
        split
        · exact ih _ _ ⟨h.store, h.regs, h.dt, h.frac, h.sec, h.sub⟩
        · split
          · exact ok_pair (by assumption) (State.dmaTurn_ok _ _ _ h)
          · exact ih _ _ (ok_pair (by assumption) (State.dmaTurn_ok _ _ _ h))

@[simp] theorem State.dmaHalt_ok (s : State) (k : Nat) (f : DmaFail) (h_s : s.Ok) : State.Ok (State.dmaHalt s k f) := by
  unfold State.dmaHalt; (try dsimp only); repeat' split <;> simp +contextual (maxDischargeDepth := 40) [*]

@[simp] theorem State.dmaRun_ok (s : State) (n rem : Nat) (h_s : s.Ok) : (s.dmaRun n rem).1.Ok := by
  unfold State.dmaRun; split
  · exact State.afterStop_ok _ _ (State.dmaHalt_ok _ _ _ (ok_pair (by assumption) (State.dmaTurns_ok _ _ _ _ h_s))) h_s
  · exact State.afterStop_ok _ _ (ok_pair (by assumption) (State.dmaTurns_ok _ _ _ _ h_s)) h_s

@[simp] theorem State.raiseExc_ok (s : State) (k saved : Nat) (e : Exc) (h_s : s.Ok) : State.Ok (State.raiseExc s k saved e) := by
  unfold State.raiseExc; simp +contextual (maxDischargeDepth := 40) [*]

@[simp] theorem State.portExc_ok (s : State) (detail : Nat) (h_s : s.Ok) : State.Ok (State.portExc s detail).1 := by
  unfold State.portExc; simp +contextual (maxDischargeDepth := 40) [*]

@[simp] theorem State.fetchWord_ok (s : State) (k a : Nat) (h_s : s.Ok) : State.Ok (State.fetchWord s k a).1 := by
  unfold State.fetchWord; repeat' (first | assumption | (simp +contextual (maxDischargeDepth := 40) [*]; done) | (first | exact State.pageFail_ok _ _ _ ‹_› _ ‹_› | exact State.inputFail_ok _ _ ‹_› _ ‹_› | exact State.stateFail_ok _ _ ‹_› _ ‹_› | exact State.readParity_ok _ _ _ ‹_› _ ‹_› | exact State.pinFails_ok _ _ _ _ _ ‹_› _ ‹_›) | (refine ok_pair (by assumption) ?_) | intro _ | split | (apply ok_forEach) | (apply ok_foldp) | (apply ok_fold1) | dsimp only)

theorem State.shgRun_ok (s : State) (k words cyc : Nat) (res : Bool) (body : State → State × Option Exc) (h_s : s.Ok)
    (hg : ∀ s, s.Ok → (body s).1.Ok) : State.Ok (State.shgRun s k words cyc res body) := by
  unfold State.shgRun; dsimp only; split
  · have h1 := ok_pair (by assumption) (State.fetchWord_ok s _ _ h_s); simp [h1]
  · have h1 := ok_pair (by assumption) (State.fetchWord_ok s _ _ h_s)
    split
    · simp [h1]
    · split
      · have h2 := ok_pair (by assumption) (show (if words = 2 then State.fetchWord _ k _ else (_, none)).1.Ok by split <;> simp [h1]); simp [h2]
      · have h2 := ok_pair (by assumption) (show (if words = 2 then State.fetchWord _ k _ else (_, none)).1.Ok by split <;> simp [h1])
        split
        · exact State.updCore_ok _ _ _ (ok_pair (by assumption) (hg _ (by simp [h2])))
        · have h3 := ok_pair (by assumption) (hg _ (by simp [h2])); simp [h3]

@[simp] theorem State.shg_ok (s : State) (k words cyc : Nat) (res : Bool) (body : State → State × Option Exc) (h_s : s.Ok) (hg : ∀ s, s.Ok → (body s).1.Ok) : (s.shg k words cyc res body).Ok := by
  unfold State.shg
  exact ok_ite h_s (State.afterStop_ok _ _ (State.shgRun_ok _ _ _ _ _ _ h_s hg) h_s)

@[simp] theorem State.shgPlain_ok (s : State) (k words cyc : Nat) (res : Bool) (g : Core → Core) (h_s : s.Ok) : State.Ok (State.shgPlain s k words cyc res g) := by
  unfold State.shgPlain; simp +contextual (maxDischargeDepth := 40) [*]

theorem State.blockRun_ok (s : State) (k cyc : Nat) (res : Bool) (stop : Core → Bool) (body : State → State × Option Exc) (h_s : s.Ok)
    (hg : ∀ s, s.Ok → (body s).1.Ok) : State.Ok (State.blockRun s k cyc res stop body) := by
  unfold State.blockRun; dsimp only; split
  · have h1 := ok_pair (by assumption) (State.fetchWord_ok s _ _ h_s); simp [h1]
  · have h1 := ok_pair (by assumption) (State.fetchWord_ok s _ _ h_s)
    split
    · simp [h1]
    · split
      · simp [h1]
      · split
        · exact State.updCore_ok _ _ _ (ok_pair (by assumption) (hg _ (by simp [h1])))
        · have h2 := ok_pair (by assumption) (hg _ (by simp [h1])); simp [h2]

@[simp] theorem State.shgBlock_ok (s : State) (k cyc : Nat) (res : Bool) (stop : Core → Bool) (body : State → State × Option Exc) (h_s : s.Ok) (hg : ∀ s, s.Ok → (body s).1.Ok) : (s.shgBlock k cyc res stop body).Ok := by
  unfold State.shgBlock
  exact ok_ite h_s (State.afterStop_ok _ _ (State.wdBoundary_ok _ _ (State.blockRun_ok _ _ _ _ _ _ h_s hg)) h_s)

@[simp] theorem State.kcPop_ok (s : State) (h_s : s.Ok) : State.Ok (State.kcPop s).1 := by
  unfold State.kcPop; (try dsimp only); repeat' split <;> simp +contextual (maxDischargeDepth := 40) [*]

@[simp] theorem State.kcAnswer_ok (s : State) (k status : Nat) (h_s : s.Ok) : State.Ok (State.kcAnswer s k status) := by
  unfold State.kcAnswer; simp +contextual (maxDischargeDepth := 40) [*]

@[simp] theorem State.saRead_ok (s : State) (h_s : s.Ok) : State.Ok (State.saRead s).1 := by
  unfold State.saRead; split
  · (refine ok_pair (by assumption) ?_); simp [h_s]
  · have h := ok_pair (by assumption) (State.busRead_ok s (s.coreMaster 64) s.ridge.sa 1 false h_s); simp [h]

@[simp] theorem State.saWrite_ok (s : State) (b : Byte) (h_s : s.Ok) : State.Ok (State.saWrite s b).1 := by
  unfold State.saWrite; split
  · (refine ok_pair (by assumption) ?_); simp [h_s]
  · have h := ok_pair (by assumption) (State.sysWrite_ok s (s.coreMaster 64) s.ridge.sa [b] false h_s); simp [h]

@[simp] theorem State.kernelPortRead_ok (s : State) (p : Nat) (h_s : s.Ok) : State.Ok (State.kernelPortRead s p).1 := by
  unfold State.kernelPortRead; repeat' (first | assumption | (simp +contextual (maxDischargeDepth := 40) [*]; done) | (first | exact State.pageFail_ok _ _ _ ‹_› _ ‹_› | exact State.inputFail_ok _ _ ‹_› _ ‹_› | exact State.stateFail_ok _ _ ‹_› _ ‹_› | exact State.readParity_ok _ _ _ ‹_› _ ‹_› | exact State.pinFails_ok _ _ _ _ _ ‹_› _ ‹_›) | (refine ok_pair (by assumption) ?_) | intro _ | split | (apply ok_forEach) | (apply ok_foldp) | (apply ok_fold1) | dsimp only)

@[simp] theorem State.kernelPortWrite_ok (s : State) (p : Nat) (b : Byte) (h_s : s.Ok) : State.Ok (State.kernelPortWrite s p b).1 := by
  unfold State.kernelPortWrite
  repeat' split
  · simp [h_s]
  · simp [h_s]
  · simp [h_s]
  · exact State.saWrite_ok _ _ h_s
  · exact h_s

@[simp] theorem State.portRead_ok (s : State) (k p : Nat) (h_s : s.Ok) : State.Ok (State.portRead s k p).1 := by
  unfold State.portRead; repeat' (first | assumption | (simp +contextual (maxDischargeDepth := 40) [*]; done) | (first | exact State.pageFail_ok _ _ _ ‹_› _ ‹_› | exact State.inputFail_ok _ _ ‹_› _ ‹_› | exact State.stateFail_ok _ _ ‹_› _ ‹_› | exact State.readParity_ok _ _ _ ‹_› _ ‹_› | exact State.pinFails_ok _ _ _ _ _ ‹_› _ ‹_›) | (refine ok_pair (by assumption) ?_) | intro _ | split | (apply ok_forEach) | (apply ok_foldp) | (apply ok_fold1) | dsimp only)

@[simp] theorem State.kick_ok (s : State) (k : Nat) (h_s : s.Ok) : State.Ok (State.kick s k) := by
  unfold State.kick; simp +contextual (maxDischargeDepth := 40) [*]

@[simp] theorem State.portWrite_ok (s : State) (k p : Nat) (b : Byte) (h_s : s.Ok) : State.Ok (State.portWrite s k p b).1 := by
  unfold State.portWrite; repeat' (first | assumption | (simp +contextual (maxDischargeDepth := 40) [*]; done) | (first | exact State.pageFail_ok _ _ _ ‹_› _ ‹_› | exact State.inputFail_ok _ _ ‹_› _ ‹_› | exact State.stateFail_ok _ _ ‹_› _ ‹_› | exact State.readParity_ok _ _ _ ‹_› _ ‹_› | exact State.pinFails_ok _ _ _ _ _ ‹_› _ ‹_›) | (refine ok_pair (by assumption) ?_) | intro _ | split | (apply ok_forEach) | (apply ok_foldp) | (apply ok_fold1) | dsimp only)

@[simp] theorem State.pushWord_ok (s : State) (k : Nat) (v : W16) (h_s : s.Ok) : State.Ok (State.pushWord s k v).1 := by
  unfold State.pushWord; (try dsimp only); (first | (simp +contextual (maxDischargeDepth := 40) [*]; done) | (repeat' (first | assumption | (simp +contextual (maxDischargeDepth := 40) [*]; done) | (first | exact State.pageFail_ok _ _ _ ‹_› _ ‹_› | exact State.inputFail_ok _ _ ‹_› _ ‹_› | exact State.stateFail_ok _ _ ‹_› _ ‹_› | exact State.readParity_ok _ _ _ ‹_› _ ‹_› | exact State.pinFails_ok _ _ _ _ _ ‹_› _ ‹_›) | (refine ok_pair (by assumption) ?_) | (with_reducible apply State.pushWord_ok) | (with_reducible apply State.writeData2_ok) | (with_reducible apply State.updCore_ok) | (with_reducible apply ok_forEach) | (with_reducible apply ok_fold1) | (with_reducible apply ok_foldp) | (with_reducible apply ok_setReg) | intro _ | split | (dsimp only; done) | dsimp only)))

@[simp] theorem State.popWord_ok (s : State) (k : Nat) (h_s : s.Ok) : State.Ok (State.popWord s k).1 := by
  unfold State.popWord; (try dsimp only); (first | (simp +contextual (maxDischargeDepth := 40) [*]; done) | (repeat' (first | assumption | (simp +contextual (maxDischargeDepth := 40) [*]; done) | (first | exact State.pageFail_ok _ _ _ ‹_› _ ‹_› | exact State.inputFail_ok _ _ ‹_› _ ‹_› | exact State.stateFail_ok _ _ ‹_› _ ‹_› | exact State.readParity_ok _ _ _ ‹_› _ ‹_› | exact State.pinFails_ok _ _ _ _ _ ‹_› _ ‹_›) | (refine ok_pair (by assumption) ?_) | (with_reducible apply State.popWord_ok) | (with_reducible apply State.readData2_ok) | (with_reducible apply State.updCore_ok) | (with_reducible apply ok_forEach) | (with_reducible apply ok_fold1) | (with_reducible apply ok_foldp) | (with_reducible apply ok_setReg) | intro _ | split | (dsimp only; done) | dsimp only)))

@[simp] theorem State.callTo_ok (s : State) (k : Nat) (a : W16) (h_s : s.Ok) : State.Ok (State.callTo s k a).1 := by
  unfold State.callTo; (try dsimp only); (first | (simp +contextual (maxDischargeDepth := 40) [*]; done) | (repeat' (first | assumption | (simp +contextual (maxDischargeDepth := 40) [*]; done) | (first | exact State.pageFail_ok _ _ _ ‹_› _ ‹_› | exact State.inputFail_ok _ _ ‹_› _ ‹_› | exact State.stateFail_ok _ _ ‹_› _ ‹_› | exact State.readParity_ok _ _ _ ‹_› _ ‹_› | exact State.pinFails_ok _ _ _ _ _ ‹_› _ ‹_›) | (refine ok_pair (by assumption) ?_) | (with_reducible apply State.callTo_ok) | (with_reducible apply State.pushWord_ok) | (with_reducible apply State.updCore_ok) | (with_reducible apply ok_forEach) | (with_reducible apply ok_fold1) | (with_reducible apply ok_foldp) | (with_reducible apply ok_setReg) | intro _ | split | (dsimp only; done) | dsimp only)))

@[simp] theorem State.loadV_ok (s : State) (k r a : Nat) (h_s : s.Ok) : State.Ok (State.loadV s k r a).1 := by
  unfold State.loadV; (try dsimp only); (first | (simp +contextual (maxDischargeDepth := 40) [*]; done) | (repeat' (first | assumption | (simp +contextual (maxDischargeDepth := 40) [*]; done) | (first | exact State.pageFail_ok _ _ _ ‹_› _ ‹_› | exact State.inputFail_ok _ _ ‹_› _ ‹_› | exact State.stateFail_ok _ _ ‹_› _ ‹_› | exact State.readParity_ok _ _ _ ‹_› _ ‹_› | exact State.pinFails_ok _ _ _ _ _ ‹_› _ ‹_›) | (refine ok_pair (by assumption) ?_) | (with_reducible apply State.loadV_ok) | (with_reducible apply State.readData_ok) | (with_reducible apply State.updCore_ok) | (with_reducible apply ok_forEach) | (with_reducible apply ok_fold1) | (with_reducible apply ok_foldp) | (with_reducible apply ok_setReg) | intro _ | split | (dsimp only; done) | dsimp only)))

@[simp] theorem State.storeV_ok (s : State) (k a : Nat) (b : Byte) (h_s : s.Ok) : State.Ok (State.storeV s k a b).1 := by
  unfold State.storeV; (try dsimp only); (first | (simp +contextual (maxDischargeDepth := 40) [*]; done) | (repeat' (first | assumption | (simp +contextual (maxDischargeDepth := 40) [*]; done) | (first | exact State.pageFail_ok _ _ _ ‹_› _ ‹_› | exact State.inputFail_ok _ _ ‹_› _ ‹_› | exact State.stateFail_ok _ _ ‹_› _ ‹_› | exact State.readParity_ok _ _ _ ‹_› _ ‹_› | exact State.pinFails_ok _ _ _ _ _ ‹_› _ ‹_›) | (refine ok_pair (by assumption) ?_) | (with_reducible apply State.storeV_ok) | (with_reducible apply State.writeData_ok) | (with_reducible apply ok_forEach) | (with_reducible apply ok_fold1) | (with_reducible apply ok_foldp) | (with_reducible apply ok_setReg) | intro _ | split | (dsimp only; done) | dsimp only)))

@[simp] theorem andCore_ok (k : Nat) (x : State × Option Exc) (g : Core → Core) (h : x.1.Ok) : (andCore k x g).1.Ok := by
  unfold andCore; split <;> simp_all

@[simp] theorem State.storeOrUndo_ok (s s1 : State) (k a : Nat) (b : Byte) (g : Core → Core) (h_s : s.Ok) (h1 : s1.Ok) : (State.storeOrUndo s s1 k a b g).1.Ok := by
  unfold State.storeOrUndo; split
  · have h2 := ok_pair (by assumption) (State.storeV_ok s1 k a b h1); simp [h2]
  · simp [h_s]

@[simp] theorem State.inPort_ok (s : State) (k r p : Nat) (h_s : s.Ok) : State.Ok (State.inPort s k r p).1 := by
  unfold State.inPort; (try dsimp only); (first | (simp +contextual (maxDischargeDepth := 40) [*]; done) | (repeat' (first | assumption | (simp +contextual (maxDischargeDepth := 40) [*]; done) | (first | exact State.pageFail_ok _ _ _ ‹_› _ ‹_› | exact State.inputFail_ok _ _ ‹_› _ ‹_› | exact State.stateFail_ok _ _ ‹_› _ ‹_› | exact State.readParity_ok _ _ _ ‹_› _ ‹_› | exact State.pinFails_ok _ _ _ _ _ ‹_› _ ‹_›) | (refine ok_pair (by assumption) ?_) | (with_reducible apply State.inPort_ok) | (with_reducible apply State.portRead_ok) | (with_reducible apply State.portExc_ok) | (with_reducible apply State.updCore_ok) | (with_reducible apply ok_forEach) | (with_reducible apply ok_fold1) | (with_reducible apply ok_foldp) | (with_reducible apply ok_setReg) | intro _ | split | (dsimp only; done) | dsimp only)))

@[simp] theorem State.outPort_ok (s : State) (k r p : Nat) (h_s : s.Ok) : State.Ok (State.outPort s k r p).1 := by
  unfold State.outPort; (try dsimp only); (first | (simp +contextual (maxDischargeDepth := 40) [*]; done) | (repeat' (first | assumption | (simp +contextual (maxDischargeDepth := 40) [*]; done) | (first | exact State.pageFail_ok _ _ _ ‹_› _ ‹_› | exact State.inputFail_ok _ _ ‹_› _ ‹_› | exact State.stateFail_ok _ _ ‹_› _ ‹_› | exact State.readParity_ok _ _ _ ‹_› _ ‹_› | exact State.pinFails_ok _ _ _ _ _ ‹_› _ ‹_›) | (refine ok_pair (by assumption) ?_) | (with_reducible apply State.outPort_ok) | (with_reducible apply State.portWrite_ok) | (with_reducible apply State.portExc_ok) | (with_reducible apply ok_forEach) | (with_reducible apply ok_fold1) | (with_reducible apply ok_foldp) | (with_reducible apply ok_setReg) | intro _ | split | (dsimp only; done) | dsimp only)))

@[simp] theorem State.putArgs_ok (s : State) (k : Nat) (bs : List Byte) (h_s : s.Ok) : State.Ok (State.putArgs s k bs) := by
  unfold State.putArgs; simp +contextual (maxDischargeDepth := 40) [*]

@[simp] theorem State.serve_ok (s : State) (k n : Nat) (denied : Bool) (g : State → State × Nat) (h_s : s.Ok) (hg : ∀ s, s.Ok → (g s).1.Ok) : (s.serve k n denied g).Ok := by
  unfold State.serve; split
  · dsimp only; split
    · simp [h_s]
    · apply State.kcAnswer_ok; apply hg; simp [h_s]
  · exact h_s

@[simp] theorem State.noService_ok (s : State) (h_s : s.Ok) : State.Ok (State.noService s) := by
  unfold State.noService; (try dsimp only); repeat' split <;> simp +contextual (maxDischargeDepth := 40) [*]

@[simp] theorem State.secondWord_ok (s : State) (k w : Nat) (h_s : s.Ok) : State.Ok (State.secondWord s k w) := by
  unfold State.secondWord; (try dsimp only); (first | (simp +contextual (maxDischargeDepth := 40) [*]; done) | (repeat' (first | assumption | (simp +contextual (maxDischargeDepth := 40) [*]; done) | (first | exact State.pageFail_ok _ _ _ ‹_› _ ‹_› | exact State.inputFail_ok _ _ ‹_› _ ‹_› | exact State.stateFail_ok _ _ ‹_› _ ‹_› | exact State.readParity_ok _ _ _ ‹_› _ ‹_› | exact State.pinFails_ok _ _ _ _ _ ‹_› _ ‹_›) | (refine ok_pair (by assumption) ?_) | (with_reducible apply State.secondWord_ok) | (with_reducible apply State.fetchWord_ok) | (with_reducible apply State.raiseExc_ok) | (with_reducible apply State.takeException_ok) | (with_reducible apply ok_forEach) | (with_reducible apply ok_fold1) | (with_reducible apply ok_foldp) | (with_reducible apply ok_setReg) | intro _ | split | (dsimp only; done) | dsimp only)))

@[simp] theorem State.fetchBoundary_ok (s : State) (k : Nat) (h_s : s.Ok) : State.Ok (State.fetchBoundary s k) := by
  unfold State.fetchBoundary; (try dsimp only); (first | (simp +contextual (maxDischargeDepth := 40) [*]; done) | (repeat' (first | assumption | (simp +contextual (maxDischargeDepth := 40) [*]; done) | (first | exact State.pageFail_ok _ _ _ ‹_› _ ‹_› | exact State.inputFail_ok _ _ ‹_› _ ‹_› | exact State.stateFail_ok _ _ ‹_› _ ‹_› | exact State.readParity_ok _ _ _ ‹_› _ ‹_› | exact State.pinFails_ok _ _ _ _ _ ‹_› _ ‹_›) | (refine ok_pair (by assumption) ?_) | (with_reducible apply State.fetchBoundary_ok) | (with_reducible apply State.fetchWord_ok) | (with_reducible apply State.raiseExc_ok) | (with_reducible apply State.takeException_ok) | (with_reducible apply State.secondWord_ok) | (with_reducible apply ok_forEach) | (with_reducible apply ok_fold1) | (with_reducible apply ok_foldp) | (with_reducible apply ok_setReg) | intro _ | split | (dsimp only; done) | dsimp only)))

@[simp] theorem State.boundary_ok (s : State) (k : Nat) (h_s : s.Ok) : State.Ok (State.boundary s k) := by
  unfold State.boundary; repeat' (first | assumption | (simp +contextual (maxDischargeDepth := 40) [*]; done) | (first | exact State.pageFail_ok _ _ _ ‹_› _ ‹_› | exact State.inputFail_ok _ _ ‹_› _ ‹_› | exact State.stateFail_ok _ _ ‹_› _ ‹_› | exact State.readParity_ok _ _ _ ‹_› _ ‹_› | exact State.pinFails_ok _ _ _ _ _ ‹_› _ ‹_›) | (refine ok_pair (by assumption) ?_) | intro _ | split | (apply ok_forEach) | (apply ok_foldp) | (apply ok_fold1) | dsimp only)

@[simp] theorem State.ridgePort_ok (s : State) (body : State → State × Option Exc) (h_s : s.Ok) (hg : ∀ s, s.Ok → (body s).1.Ok) : (s.ridgePort body).Ok := by
  have h2 : (if s.kept then body s else s.portExc 0).1.Ok := by split <;> simp [*]
  unfold State.ridgePort; split
  · exact h_s
  · split
    · exact State.afterStop_ok _ _ (ok_pair (by assumption) h2) h_s
    · exact State.afterStop_ok _ _ (State.raiseExc_ok _ _ _ _ (ok_pair (by assumption) h2)) h_s

@[simp] theorem State.timeTick_ok (s : State) (h_s : s.Ok) : State.Ok (State.timeTick s) := by
  unfold State.timeTick; split
  · apply State.bootTick_ok
    exact ⟨h_s.store, h_s.regs, Nat.mod_lt _ (by decide), Nat.mod_lt _ (by decide), h_s.sec, h_s.sub⟩
  · exact h_s

@[simp] theorem State.idleCycle_ok (s : State) (h_s : s.Ok) : (s.idleCycle).Ok :=
  State.noService_ok _ (State.tryReady_ok _ (State.timeTick_ok _ h_s))

theorem State.withFetchWord_ok (s : State) (n w : Nat) (h_s : s.Ok) : State.Ok (s.withFetchWord n w) := by
  simp [State.withFetchWord, decodeTableWord, h_s]
end Sys2Proof.Machine
end

