-- ==== Sys2Proof/Laws/Shingle.lean ====
section
/-!
SUPPORT. Laws/Shingle.lean: what the shared way of a Shingle or Ridge instruction does, when no fetch fails, no run prefix is in
force and the encoding is assigned.
-/
namespace Sys2Proof.Machine

/-- A state in which the Ridge is as it was brings no stop of it. -/
theorem State.afterStop_same {t s : State} (h : t.ridge.stopped = s.ridge.stopped) : t.afterStop s = t := by
  simp [State.afterStop, h]

/-- The core before the body of an instruction acts: cycles spent, PC after the instruction. -/
theorem State.spend_pc (s : State) (k w cyc : Nat) :
    (s.spend k cyc).updCore k (fun x => { x with pc := x.pc + BitVec.ofNat 16 w }) = s.entered k w cyc := by
  simp [State.spend, State.entered, State.updCore]

/-- What a plain change of the core leaves. -/
theorem State.entered_ran (s : State) (k w cyc : Nat) (g : Core → Core) :
    ((s.entered k w cyc).updCore k g).updCore k
      (fun x => x.prefetch (s.snapshot k (((s.core k).pc.toNat + w) % 65536))) = s.ran k w cyc g := by
  simp [State.ran, State.entered, State.updCore]

/-- An instruction that can be fetched runs its body with PC after it, and the word after it is prefetched; a failure of the body puts
PC back. -/
theorem State.shg_runs {s : State} {k w cyc : Nat} {body : State → State × Option Exc} (h : s.Runs k w)
    (hw : w = 1 ∨ w = 2) :
    s.shg k w cyc false body = (match body (s.entered k w cyc) with
      | (t, none) => t.updCore k (fun x => x.prefetch (s.snapshot k (((s.core k).pc.toNat + w) % 65536)))
      | (t, some e) => (t.updCore k (fun x => { x with pc := (s.core k).pc })).raiseExc k (s.core k).pc.toNat e).afterStop s := by
  have hp : (s.core k).fetchAddr = (s.core k).pc.toNat := by
    simp [Core.fetchAddr, h.plain, b2n] <;> omega
  unfold State.shg State.shgRun
  rcases hw with rfl | rfl
  · simp only [hp, h.fetch, h.ready, h.plain, Bool.not_true, Bool.false_eq_true, if_false, Bool.false_or, State.spend_pc,
      Nat.reduceEqDiff]
    all_goals rcases body (s.entered k 1 cyc) with ⟨t, _ | e⟩ <;> rfl
  · simp only [hp, h.fetch, h.ready, h.plain, Bool.not_true, Bool.false_eq_true, if_false, if_true, Bool.false_or,
      State.spend_pc, h.next rfl]
    all_goals rcases body (s.entered k 2 cyc) with ⟨t, _ | e⟩ <;> rfl

/-- An instruction that cannot fail once it executes. -/
theorem State.shgPlain_runs {s : State} {k w cyc : Nat} {g : Core → Core} (h : s.Runs k w) (hw : w = 1 ∨ w = 2) :
    s.shgPlain k w cyc false g = s.ran k w cyc g := by
  rw [State.shgPlain, State.shg_runs h hw]
  dsimp only
  rw [State.entered_ran]
  exact State.afterStop_same (by simp [State.ran])

/-- A block instruction, or LD or ST, without RPT. -/
theorem State.shgBlock_runs {s : State} {k cyc : Nat} {stop : Core → Bool} {body : State → State × Option Exc}
    (h : s.Runs k 1) :
    s.shgBlock k cyc false stop body = ((match body (s.spend k cyc) with
      | (t, none) => t.updCore k (fun x =>
          let y : Core := { x with pc := x.pc + 1 }
          if y.rpt then { y with pre := some { s.seen k (s.core k).pc.toNat with bad := false } }
          else y.prefetch (s.snapshot k (((s.core k).pc.toNat + 1) % 65536)))
      | (t, some e) => t.raiseExc k (s.core k).pc.toNat e).wdBoundary k).afterStop s := by
  have hp : (s.core k).fetchAddr = (s.core k).pc.toNat := by
    simp [Core.fetchAddr, h.plain, b2n] <;> omega
  unfold State.shgBlock State.blockRun
  simp only [hp, h.fetch, h.ready, h.plain, Bool.not_true, Bool.false_eq_true, if_false, decide_false, Bool.false_and]
  all_goals rcases body (s.spend k cyc) with ⟨t, _ | e⟩ <;> rfl

/-- A byte of the core's own data RAM without a parity error. -/
theorem State.readData_readable {s : State} {k a : Nat} (h : s.readable k a) :
    s.readData k a = (s, .inr (Memory.read (s.core k).data a)) := by
  by_cases hk : k = 64
  · subst hk; simp [State.readData, State.localRead, State.ridgeRead, State.ridgeLost, State.ridgeBad, h.1, h.2.1, h.2.2]
  · simp [State.readData, State.localRead, h.1, h.2.1, hk]

/-- A word of it. -/
theorem State.readData2_readable {s : State} {k a : Nat} (h : s.readable k a) (h1 : s.readable k ((a + 1) % 65536)) :
    s.readData2 k a = (s, .inr (Memory.read (s.core k).data ((a + 1) % 65536) ++ Memory.read (s.core k).data a)) := by
  simp [State.readData2, State.windowCheck, State.readData_readable h, State.readData_readable h1, h.1, h1.1]

/-- A byte stored there. -/
theorem State.writeData_local {s : State} {k a : Nat} {b : Byte} (h : localData k a = true) :
    s.writeData k a b = (s.updCore k (fun c => c.stored a b), none) := by
  simp [State.writeData, State.localWrite, h, Core.stored, Core.dataPoke]

/-- A word stored there. -/
theorem State.writeData2_local {s : State} {k a : Nat} {lo hi : Byte} (h : localData k a = true)
    (h1 : localData k ((a + 1) % 65536) = true) :
    s.writeData2 k a lo hi = (s.updCore k (fun c => (c.stored a lo).stored ((a + 1) % 65536) hi), none) := by
  have hn : (if splitAt a then (s.windowCheck k a true).orElse (fun _ => s.windowCheck k ((a + 1) % 65536) true)
      else none) = none := by simp [State.windowCheck, h, h1]
  simp only [State.writeData2, hn, State.writeData_local h, h, if_true]
  by_cases hb : a % 32 = 31
  · simp only [hb, if_true, State.writeData_local h1]
    simp
  · simp only [hb, if_false]
    simp [State.localWrite, Core.stored, Core.dataPoke]

end Sys2Proof.Machine
end

