-- ==== Sys2Proof/Machine/Pins.lean ====
section
/-!
DEFINITION. Machine/Pins.lean: what the device drives on its signal balls (R335); the inputs are commands.  FAULT_N and LOCKUP_N are
in Machine/Ops.lean, WAKE_N in Machine/Complete.lean, THERMTRIP_N in Machine/Power.lean, PPS_OUT is a field of the clock, and the
field lanes' drivers follow `State.laneOut`.
-/
namespace Sys2Proof.Machine

/-- What an output or a bidirectional ball shows. -/
inductive Pin where
  /-- Driven low. -/
  | low
  /-- Driven high. -/
  | high
  /-- An open-drain output that is released. -/
  | released
  /-- Not driven: an input, or high impedance. -/
  | input
  /-- Driven with the data or the clock of a transfer. -/
  | active
  /-- A SerDes driver that is off, or in electrical idle. -/
  | idle
deriving DecidableEq, Repr

/-- The outputs are in their reset states: PORST_N is low, or has not risen since VDD_AON came (R335, R341). -/
def State.pinsReset (s : State) : Bool := !s.isOn 48

/-- An open-drain output that is low while a condition on its level says so. -/
def openDrain (level : Bool) : Pin := if level then .released else .low

/-- FLD_TXP, FLD_TXN of lane l: off until FLD_CTL.ENABLE = 1. -/
def State.pinFldTx (s : State) (l : Nat) : Pin := if s.laneOut l = .off then .idle else .active

/-- PCIE_TXP, PCIE_TXN: electrical idle, but as PERST_N and the link require once PORST_N has risen. -/
def State.pinPcieTx (s : State) : Pin := if s.pinsReset || !s.pcie.up then .idle else .active

/-- The PCIe receivers detect: off only while the outputs are in their reset states. -/
def State.pcieDetect (s : State) : Bool := !s.pinsReset

/-- WAKE_N. -/
def State.pinWake (s : State) : Pin := openDrain (s.pinsReset || s.wakeN)

/-- CLKREQ_N: driven low from the rise of PORST_N, and never released. -/
def State.pinClkreq (s : State) : Pin := openDrain s.pinsReset

/-- The ROM reads flash: QSPI boot is loading (R326, R327). -/
def State.romReads (s : State) : Bool := !s.pinsReset && decide (s.misc.boot = .load) && !s.hostMode

/-- QSPI_SCK: low but for the ROM's clock. -/
def State.pinQspiSck (s : State) : Pin := if s.romReads then .active else .low

/-- QSPI_CS_N: high but while the ROM selects the flash. -/
def State.pinQspiCs (s : State) : Pin := if s.romReads then .low else .high

/-- QSPI_IO[3:0]: inputs with weak pull-ups but for the ROM's data. -/
def State.pinQspiIo (s : State) : Pin := if s.romReads then .active else .input

/-- MOD_SCL and MOD_SDA of both buses: no register of the spec drives them (R192). -/
def State.pinMod (_ : State) : Pin := .released

/-- TDO outside the Shift states. -/
def State.pinTdo (_ : State) : Pin := .input

/-- LOCKUP_N. -/
def State.pinLockup (s : State) : Pin := openDrain (s.pinsReset || s.lockupN)

/-- FAULT_N. -/
def State.pinFault (s : State) : Pin := openDrain (s.pinsReset || s.faultN)

/-- THERMTRIP_N: low while latched. -/
def State.pinThermtrip (s : State) : Pin := openDrain s.thermtripN

/-- PPS_OUT. -/
def State.pinPps (s : State) : Pin := if s.clk.ppsOut then .high else .low

end Sys2Proof.Machine
end

