-- ==== Sys2Proof/Tests/Slice0.lean ====
section
/-!
SUPPORT. Tests/Slice0.lean: a term that each check of WellFormed refuses, a few commands whose results follow from the rules by
hand, and for the premises of each statement, clause by clause, a state and operands that meet them together.
-/

open Sys2Proof Sys2Proof.Machine

section

set_option Elab.async false
set_option linter.unusedVariables false

/-- Domains in the state ON. -/
def domsOn (l : List Nat) : List (Nat × Dom) := l.map fun d => (d, ⟨.on, 0, []⟩)

/-- A job of nothing. -/
def job0 : Job :=
  { t := 0, seq := 0, cyc := 0, nominal := 0, deadline := 0, pins := [], hdr := [], gen := 0, host := false, img := 0, cl := 0,
    checked := false, guaranteed := false, deferred := false, active := false, late := false, noFrame := false,
    replay := false, newBufs := [] }

/-- The next state of an answer. -/
def after (o : Answer) : State := match o with | .next t => t | _ => State.reset

/-- Words written from the table of R229, each with the instruction it stands for: ADD V1, V2; MUL V2, V3; MOVI V5, #0x7F; LDIP CNT,
#0x1234; Jcc HS; BR AL, -1; LD V4, word [PY]+; PUSHP SP; INCP CNT; STA; IN V7, #0x22; KCALL #5. -/
theorem test_shg_words :
    shgDecode 3 0x10A 0 = some (.shgAdd 3 1 2) ∧ shgDecode 3 0x453 0 = some (.shgMul 3 2 3) ∧
    shgDecode 3 0x374 0x07F = some (.shgMovi 3 5 0x7F) ∧ shgDecode 3 0x0F1 0x234 = some (.shgLdip 3 3 0x1234) ∧
    shgDecode 3 0x72A 0xBCD = some (.shgJcc 3 2 0xABCD) ∧ shgDecode 3 0xF7F 0 = some (.shgBr 3 14 0x7F) ∧
    shgDecode 3 0x53C 0 = some (.shgLd 3 1 3 4) ∧ shgDecode 3 0x0B3 0 = some (.shgPushp 3 3) ∧
    shgDecode 3 0x0A4 0 = some (.shgIncp 3 4) ∧ shgDecode 3 0x6FF 0xEEE = some (.shgSta 3 7 0xFEEE) ∧
    shgDecode 3 0x037 0x022 = some (.shgIn 3 7 0x22) ∧ shgDecode 3 0x015 0 = some (.shgKcall 3 5) := by decide

/-- Encodings that R232 reserves: 0x000, u = 7, odd registers of MUL, LDP and data mode 3, pointer codes, an immediate's bits [1:0]
and its second word's bits [11:8], and KCALL on the Ridge. -/
theorem test_shg_reserved :
    [0x000, 0x4B8, 0x4F8, 0x448, 0x091, 0x519, 0x0A5, 0x0BD, 0x058, 0x07C, 0x301].all (fun w => (shgDecode 3 w 0).isNone) = true ∧
    shgDecode 3 0x300 0x100 = none ∧ shgDecode 64 0x010 0 = none ∧ shgDecode 3 0x054 0 = some (.shgMovp 3 5 0) := by decide

/-- Shingle core 0 running at 0 with V0 = a and V1 = b. -/
def runs (a b : Byte) : State :=
  { State.reset with cores := [(0, { Core.fresh false with state := .run, v := [(0, a), (1, b)] })], doms := domsOn [40] }

/-- Cluster 0 running at 0 with D0 = a and D1 = b. -/
def issues (a b : W16) : State :=
  { State.reset with clusters := [(0, { Cluster.reset with phase := .run, maps := [(0, 0x8000)], d := [(0, a), (1, b)] })] }

/-! ### What cannot be sent -/

/-- BAR0 is 256 KiB of 32-bit registers (R263, R299). -/
theorem test_wf_registers : (Instr.registerWrite 0x40000 0 0xF).wf = false ∧ (Instr.registerWrite 2 0 0xF).wf = false ∧
    (Instr.registerWrite 0x3FFFC 0 0xF).wf = true := by decide

/-- BAR4: no empty access, none above 4,096 bytes or outside the 32 MiB, and the data have the length (R263). -/
theorem test_wf_bar4 : (Instr.bar4Access 0 0 none).wf = false ∧ (Instr.bar4Access 0 4097 none).wf = false ∧
    (Instr.bar4Access 0x1FFFFFF 2 none).wf = false ∧ (Instr.bar4Access 0 2 (some [0])).wf = false ∧
    (Instr.bar4Access 0x1FFFFFE 2 (some [0, 1])).wf = true := by decide

/-- An atomic access stays within an aligned 8-byte word (R303). -/
theorem test_wf_alias : (Instr.fetchAdd 0 1 8).wf = false ∧ (Instr.fetchAdd 0 0x1FFFFFF 2).wf = false ∧
    (Instr.compareSwap 0 8 0).wf = false ∧ (Instr.compareSwap 0 8 8).wf = true := by decide

/-- A frame has at most 9,600 bytes and ends no earlier than it begins. -/
theorem test_wf_frame : (Instr.inFrameArrival 0 [] true 2 1).wf = false ∧
    (Instr.inFrameArrival 0 (List.replicate 9601 0) true 1 2).wf = false ∧ (Instr.inFrameArrival 0 [] true 1 2).wf = true := by
  decide +kernel

/-- A transfer is at most its LEN bytes; a host answer at most 4,096. -/
theorem test_wf_lengths : (Instr.dmaAbort 0 (2 ^ 25)).wf = false ∧ (Instr.readCompletion 0 (List.replicate 4097 0) true).wf = false := by
  decide +kernel

/-- A peer delay has 32 bits (R213). -/
theorem test_wf_delays : (Instr.returnedFrame 0 true (2 ^ 32)).wf = false ∧ (Instr.peerDelayGeneration 0 ⟨2 ^ 32, 0⟩).wf = false ∧
    (Instr.ptpMessage 0 (.delayResp (2 ^ 32))).wf = false := by decide

/-- The neighbour holds a request no longer than its answer takes; an errored-block count has 32 bits (R214, R219). -/
theorem test_wf_link : (Instr.peerDelayGeneration 0 ⟨4, 5⟩).wf = false ∧ (Instr.peerDelayGeneration 0 ⟨5, 5⟩).wf = true ∧
    (Instr.link 0 true true false ⟨false, false⟩ (2 ^ 32)).wf = false := by decide

/-- No hardware raises sources 493 to 511 (R286, R305), and no master has ID 0xFF (R300). -/
theorem test_wf_sources : (Instr.sourceEdge 493).wf = false ∧ (Instr.sourceEdge 511).wf = false ∧ (Instr.sourceEdge 492).wf = true ∧
    (Instr.dmaStart 0 0xFF).wf = false ∧ (Instr.fetchAdd 0xFF 0 1).wf = false ∧ (Instr.compareSwap 0xFF 0 1).wf = false := by
  decide

/-- No word spells a command: the table gives no row bits. -/
theorem test_no_words : decodeTableWord 32 0 = none ∧ State.reset.withFetchWord 32 0 = State.reset := by decide

/-! ### Single commands -/

/-- An idle cycle of SYSCLK is 10 ns (R319). -/
theorem test_idle : (after (step State.reset)).clk.dt = 10 := by decide +kernel

/-- A step takes the front of the queue. -/
theorem test_front : (after (step { State.reset with pending := [.thermtrip, .thermtrip] })).pending = [.thermtrip] := by
  decide +kernel

/-- 0x7FFF + 1 with MODE.SAT = 1, its reset value, saturates to 0x7FFF with V (R28, R60, R61). -/
theorem test_add_saturates :
    ((after (exec (.add 0 0 true 2 0 1) (issues 0x7FFF 1))).cluster 0).pend.map (fun e => (e.val, e.flags)) =
      [(0x7FFF, some ⟨false, false, false, true, true⟩)] := by decide +kernel

/-- D2 shows its old value until the result lands (R29). -/
theorem test_add_waits : ((after (exec (.add 0 0 true 2 0 1) (issues 0x7FFF 1))).cluster 0).dr 2 = 0 := by decide +kernel

/-- 0 - 1 borrows: 0xFFFF, N, no carry out of 0 + ~1 + 1 (R60). -/
theorem test_sub_borrow :
    ((after (exec (.sub 0 1 true 2 0 1) (issues 0 1))).cluster 0).pend.map (fun e => (e.val, e.flags)) =
      [(0xFFFF, some ⟨false, true, false, false, false⟩)] := by decide +kernel

/-- ADD of 0x7F and 1 on a Shingle: 0x80 with N and V, and PC at the next word (R220, R227). -/
theorem test_shgAdd :
    let c := (after (exec (.shgAdd 0 0 1) (runs 0x7F 1))).core 0
    c.vr 0 = 0x80 ∧ c.st.extractLsb' 0 4 = 0b1010 ∧ c.pc = 1 :=
  ⟨by decide +kernel, by decide +kernel, by decide +kernel⟩

/-- NOP passes its word and its cycle. -/
theorem test_shgNop : ((after (exec (.shgNop 0) (runs 0 0))).core 0).pc = 1 := by decide +kernel

/-- 8 MHz of silence: a reserved bit of a register stays 0 and a byte without its enable keeps its value (R299). -/
theorem test_byteEnables :
    (after (exec (.registerWrite (Reg.calScratch 1).off 0x11223344 0b0101) State.reset)).reg (.calScratch 1) = 0x220044 := by
  decide +kernel

/-! ### Premises that can be met -/

/-- The premises of StepKeepsOk. -/
theorem witness_StepKeepsOk : ∃ s t : State, s.Ok ∧ step s = .next t :=
  ⟨State.reset, _, ⟨by decide +kernel, by decide +kernel, by decide, by decide, by decide, by decide⟩, rfl⟩

/-- The premises of KeptNeverRises. -/
theorem witness_KeptNeverRises : ∃ (k : Fin 65) (s t : State), (s.ridge.clearing = true → (s.core 64).kept = true) ∧
    exec .softRstRidge s = .next t ∧ (s.core k).kept = false ∧ (t.core k).kept = true :=
  ⟨64, { State.reset with cores := [(64, { Core.fresh true with st := 0 })], ridge := { State.reset.ridge with clearing := false } },
   _, by decide +kernel, rfl, by decide +kernel, by decide +kernel⟩

/-- The premises of IdleStep, clause by clause. -/
theorem witness_IdleStep :
    (∃ (s : State),
    s.pending = [] ∧
    let c := s.clk
    let runs := c.sysclk = true ∧ s.isOn 48 = true
    let served := s.misc.boot ≠ .done ∨ bit (s.reg .qeStatus) 0 = true
    let noCall := ∀ n : Nat, n < 64 → (s.core n).state = .calling → (s.core n).call < 6
    served ∧
    noCall ∧
    ¬ runs) ∧
    (∃ (s : State),
    s.pending = [] ∧
    let c := s.clk
    let per := (10 * 2 ^ 32 * (10 ^ 9 + c.rate + c.slew) / 10 ^ 9).toNat
    let later : Clock := { c with dt := (c.dt + (c.frac + per) / 2 ^ 32) % 2 ^ 64, frac := (c.frac + per) % 2 ^ 32 }
    let runs := c.sysclk = true ∧ s.isOn 48 = true
    let served := s.misc.boot ≠ .done ∨ bit (s.reg .qeStatus) 0 = true
    let noCall := ∀ n : Nat, n < 64 → (s.core n).state = .calling → (s.core n).call < 6
    let booted := s.misc.toBoot = []
    served ∧
    noCall ∧
    runs ∧
    (booted ∨ later.dt < s.misc.bootAt)) ∧
    (∃ (s : State),
    s.pending = [] ∧
    let c := s.clk
    c.rate + c.slew = 0 ∧
    c.frac < 2 ^ 32) ∧
    (∃ (s : State),
    s.pending = [] ∧
    let c := s.clk
    let per := (10 * 2 ^ 32 * (10 ^ 9 + c.rate + c.slew) / 10 ^ 9).toNat
    let later : Clock := { c with dt := (c.dt + (c.frac + per) / 2 ^ 32) % 2 ^ 64, frac := (c.frac + per) % 2 ^ 32 }
    let runs := c.sysclk = true ∧ s.isOn 48 = true
    let served := s.misc.boot ≠ .done ∨ bit (s.reg .qeStatus) 0 = true
    let noCall := ∀ n : Nat, n < 64 → (s.core n).state = .calling → (s.core n).call < 6
    served ∧
    noCall ∧
    runs ∧
    s.isOn 47 = true ∧
    s.misc.toBoot ≠ [] ∧
    s.misc.bootAt ≤ later.dt) ∧
    (∃ (s : State),
    s.pending = [] ∧
    let noCall := ∀ n : Nat, n < 64 → (s.core n).state = .calling → (s.core n).call < 6
    let booted := s.misc.toBoot = []
    s.misc.boot = .done ∧
    bit (s.reg .qeStatus) 0 = false ∧
    s.storeClearing = false ∧
    s.isOn 47 = true ∧
    s.ridge.stopped = false ∧
    s.ridge.clearing = false ∧
    noCall ∧
    booted) ∧
    (∃ (k : Fin 64) (s : State),
    s.pending = [] ∧
    let served := s.misc.boot ≠ .done ∨ bit (s.reg .qeStatus) 0 = true
    let booted := s.misc.toBoot = []
    served ∧
    booted ∧
    6 ≤ (s.core k).call ∧
    s.serves k (s.core k).call = true ∧
    (s.core k).gm = false ∧
    (∀ n : Nat, n < 64 → (s.core n).state = .calling → 6 ≤ (s.core n).call → n = k)) :=
  ⟨⟨{ State.reset with clk := { State.reset.clk with sysclk := false } },
      by decide +kernel⟩,
   ⟨{ State.reset with misc := { State.reset.misc with bootAt := 11 } },
      by decide +kernel⟩,
   ⟨(State.reset),
      by decide +kernel⟩,
   ⟨{ State.reset with doms := domsOn [47] },
      by decide +kernel⟩,
   ⟨{ State.reset with
        ridge := { State.reset.ridge with clearing := false }, doms := domsOn [47],
        misc := { State.reset.misc with boot := BootPh.done, clearing := [], toBoot := [] } },
      by decide +kernel⟩,
   ⟨1, { State.reset with
        regs := [(4096, 0x1)], cores := [(1, { Core.fresh false with st := 0x0, state := CoreSt.calling, call := 6 })],
        ridge := { State.reset.ridge with clearing := false },
        misc := { State.reset.misc with boot := BootPh.done, toBoot := [] } },
      by decide +kernel⟩⟩

/-- The premises of AddSubResults. -/
theorem witness_AddSubResults : ∃ (c : Fin 32) (u : Fin 2) (f : Bool) (s : State),
  s.Takes c u 2 f :=
  ⟨0, 0, false, { State.reset with clusters := [(0, { Cluster.reset with phase := Phase.run, maps := [(0, 0x8000)] })] },
    ⟨by decide +kernel, by decide +kernel, by decide +kernel, by decide +kernel, by decide +kernel⟩⟩

/-- The premises of LogicResults. -/
theorem witness_LogicResults : ∃ (c : Fin 32) (u : Fin 2) (f : Bool) (s : State),
  s.Takes c u 2 f :=
  ⟨0, 0, false, { State.reset with clusters := [(0, { Cluster.reset with phase := Phase.run, maps := [(0, 0x8000)] })] },
    ⟨by decide +kernel, by decide +kernel, by decide +kernel, by decide +kernel, by decide +kernel⟩⟩

/-- The premises of ShiftResults. -/
theorem witness_ShiftResults : ∃ (c : Fin 32) (u : Fin 2) (f : Bool) (n : Fin 32) (s : State),
  s.Takes c u 2 f ∧
  n.val < 16 :=
  ⟨0, 0, false, 0, { State.reset with clusters := [(0, { Cluster.reset with phase := Phase.run, maps := [(0, 0x8000)] })] },
    ⟨by decide +kernel, by decide +kernel, by decide +kernel, by decide +kernel, by decide +kernel⟩, by decide +kernel⟩

/-- The premises of PairResults. -/
theorem witness_PairResults : ∃ (c : Fin 32) (u : Fin 2) (f : Bool) (dst : Fin 32) (sa : Fin 32) (sb : Fin 32) (s : State),
  s.Takes c u 2 f ∧
  dst.val % 2 = 0 ∧
  sa.val % 2 = 0 ∧
  sb.val % 2 = 0 :=
  ⟨0, 0, false, 0, 0, 0, { State.reset with clusters := [(0, { Cluster.reset with phase := Phase.run, maps := [(0, 0x8000)] })] },
    ⟨by decide +kernel, by decide +kernel, by decide +kernel, by decide +kernel, by decide +kernel⟩, by decide +kernel⟩

/-- The premises of CompareResults. -/
theorem witness_CompareResults : ∃ (c : Fin 32) (u : Fin 2) (sa : Fin 32) (sb : Fin 32) (s : State),
  s.Takes c u 2 true ∧
  sa.val % 2 = 0 ∧
  sb.val % 2 = 0 :=
  ⟨0, 0, 0, 0, { State.reset with clusters := [(0, { Cluster.reset with phase := Phase.run, maps := [(0, 0x8000)] })] },
    ⟨by decide +kernel, by decide +kernel, by decide +kernel, by decide +kernel, by decide +kernel⟩, by decide +kernel⟩

/-- The premises of FloatResults. -/
theorem witness_FloatResults : ∃ (c : Fin 32) (u : Fin 2) (f : Bool) (dst : Fin 32) (sa : Fin 32) (sb : Fin 32) (s : State),
  s.Takes c u 2 f ∧
  dst.val % 2 = 0 ∧
  sa.val % 2 = 0 ∧
  sb.val % 2 = 0 :=
  ⟨0, 0, false, 0, 0, 0, { State.reset with clusters := [(0, { Cluster.reset with phase := Phase.run, maps := [(0, 0x8000)] })] },
    ⟨by decide +kernel, by decide +kernel, by decide +kernel, by decide +kernel, by decide +kernel⟩, by decide +kernel⟩

/-- The premises of DivideResults. -/
theorem witness_DivideResults : ∃ (c : Fin 32) (f : Bool) (dst : Fin 32) (sa : Fin 32) (sb : Fin 32) (s : State),
  s.Takes c 1 2 f ∧
  sa.val % 2 = 0 ∧
  dst.val % 2 = 0 ∧
  sb.val % 2 = 0 :=
  ⟨0, false, 0, 0, 0, { State.reset with clusters := [(0, { Cluster.reset with phase := Phase.run, maps := [(0, 0x8000)] })] },
    ⟨by decide +kernel, by decide +kernel, by decide +kernel, by decide +kernel, by decide +kernel⟩, by decide +kernel⟩

/-- The premises of MoveResults, clause by clause. -/
theorem witness_MoveResults :
    (∃ (c : Fin 32) (u : Fin 2) (k : Fin 52) (s : State),
    s.Takes c u 2 (decide (k.val = 44))) ∧
    (∃ (c : Fin 32) (u : Fin 2) (s : State),
    s.Takes c u 2 false) ∧
    (∃ (c : Fin 32) (u : Fin 2) (l : Fin 32) (s : State),
    s.Takes c u 2 (decide (l.val = 12)) ∧
    l.val < 20) :=
  ⟨⟨0, 0, 0, { State.reset with clusters := [(0, { Cluster.reset with phase := Phase.run, maps := [(0, 0x8000)] })] },
      ⟨by decide +kernel, by decide +kernel, by decide +kernel, by decide +kernel, by decide +kernel⟩⟩,
   ⟨0, 0, { State.reset with clusters := [(0, { Cluster.reset with phase := Phase.run, maps := [(0, 0x8000)] })] },
      ⟨by decide +kernel, by decide +kernel, by decide +kernel, by decide +kernel, by decide +kernel⟩⟩,
   ⟨0, 0, 0, { State.reset with clusters := [(0, { Cluster.reset with phase := Phase.run, maps := [(0, 0x8000)] })] },
      ⟨by decide +kernel, by decide +kernel, by decide +kernel, by decide +kernel, by decide +kernel⟩, by decide +kernel⟩⟩

/-- The premises of MacResults, clause by clause. -/
theorem witness_MacResults :
    (∃ (c : Fin 32) (u : Fin 2) (f : Bool) (da : Fin 32) (s : State),
    s.Takes c (2 + u) 2 f ∧
    da.val < 31) ∧
    (∃ (c : Fin 32) (u : Fin 2) (f : Bool) (k : Fin 8) (da : Fin 32) (db : Fin 32) (s : State),
    s.Takes c (2 + u) 2 f ∧
    k.val % 2 = 0 ∧
    db.val % 2 = 0 ∧
    da.val % 2 = 0) :=
  ⟨⟨0, 0, false, 0, { State.reset with clusters := [(0, { Cluster.reset with phase := Phase.run, maps := [(0, 0x8000)] })] },
      ⟨by decide +kernel, by decide +kernel, by decide +kernel, by decide +kernel, by decide +kernel⟩, by decide +kernel⟩,
   ⟨0, 0, false, 0, 0, 0, { State.reset with clusters := [(0, { Cluster.reset with phase := Phase.run, maps := [(0, 0x8000)] })] },
      ⟨by decide +kernel, by decide +kernel, by decide +kernel, by decide +kernel, by decide +kernel⟩, by decide +kernel⟩⟩

/-- The premises of AccumulatorLoads, clause by clause. -/
theorem witness_AccumulatorLoads :
    (∃ (c : Fin 32) (u : Fin 2) (k : Fin 8) (s : State),
    let unit := 2 + u.val
    s.Takes c unit 1 false ∧
    k.val % 2 = 0) ∧
    (∃ (c : Fin 32) (u : Fin 2) (da : Fin 32) (s : State),
    let unit := 2 + u.val
    s.Takes c unit 2 false ∧
    da.val % 2 = 0) :=
  ⟨⟨0, 0, 0, { State.reset with clusters := [(0, { Cluster.reset with phase := Phase.run, maps := [(0, 0x8000)] })] },
      ⟨by decide +kernel, by decide +kernel, by decide +kernel, by decide +kernel, by decide +kernel⟩, by decide +kernel⟩,
   ⟨0, 0, 0, { State.reset with clusters := [(0, { Cluster.reset with phase := Phase.run, maps := [(0, 0x8000)] })] },
      ⟨by decide +kernel, by decide +kernel, by decide +kernel, by decide +kernel, by decide +kernel⟩, by decide +kernel⟩⟩

/-- The premises of ExtractResults. -/
theorem witness_ExtractResults : ∃ (c : Fin 32) (u : Fin 2) (f : Bool) (db : Fin 32) (s : State),
  s.Takes c (2 + u) 2 f ∧
  db.val % 2 = 0 :=
  ⟨0, 0, false, 0, { State.reset with clusters := [(0, { Cluster.reset with phase := Phase.run, maps := [(0, 0x8000)] })] },
    ⟨by decide +kernel, by decide +kernel, by decide +kernel, by decide +kernel, by decide +kernel⟩, by decide +kernel⟩

/-- The premises of LoadResults, clause by clause. -/
theorem witness_LoadResults :
    (∃ (c : Fin 32) (u : Fin 2) (ag : Fin 8) (r : Fin 32) (q : Nat) (s : State),
    let x := s.cluster c
    let sp := 1 + u.val
    let unit := 4 + u.val
    s.Takes c unit 2 false ∧
    s.AgFree c ag ∧
    x.phys sp (x.ea ag).toNat = some q ∧
    x.isBad sp q = false ∧
    x.isBad sp (q + 1) = false ∧
    (x.ea ag).toNat % 2 = 0 ∧
    r.val % 2 = 0) ∧
    (∃ (c : Fin 32) (tb : Fin 4) (q : Nat) (s : State) (dx : Fin 32),
    let x := s.cluster c
    s.Takes c 6 2 false ∧
    x.phys 3 (((x.tb tb).toNat + (x.dr dx).toNat) % 65536) = some q ∧
    x.isBad 3 q = false) ∧
    (∃ (c : Fin 32) (tb : Fin 4) (off : Fin 512) (q : Nat) (s : State),
    let x := s.cluster c
    s.Takes c 6 2 false ∧
    x.phys 3 (((x.tb tb).toNat + off) % 65536) = some q ∧
    x.isBad 3 q = false) ∧
    (∃ (c : Fin 32) (tb : Fin 4) (k : Fin 8) (sg : Bool) (q : Nat) (q1 : Nat) (s : State) (dx : Fin 32),
    let x := s.cluster c
    s.Takes c 6 2 false ∧
    let v := if sg then x.dr dx ^^^ 0x8000 else x.dr dx
    let sh := 12 - k.val
    let base := (x.tb tb).toNat + v.toNat / 2 ^ sh
    k.val < 7 ∧
    x.phys 3 (base % 65536) = some q ∧
    x.phys 3 ((base + 1) % 65536) = some q1 ∧
    x.isBad 3 q = false ∧
    x.isBad 3 q1 = false) :=
  ⟨⟨0, 0, 0, 0, 0, { State.reset with
        clusters := [(0, { Cluster.reset with phase := Phase.run, maps := [(0, 0x8000), (16, 0xc000)] })] },
      ⟨by decide +kernel, by decide +kernel, by decide +kernel, by decide +kernel, by decide +kernel⟩, by unfold State.AgFree; decide +kernel, by decide +kernel⟩,
   ⟨0, 0, 0, { State.reset with
        clusters := [(0, { Cluster.reset with phase := Phase.run, maps := [(0, 0x8000), (48, 0xc000)] })] }, 0,
      ⟨by decide +kernel, by decide +kernel, by decide +kernel, by decide +kernel, by decide +kernel⟩, by decide +kernel⟩,
   ⟨0, 0, 0, 0, { State.reset with
        clusters := [(0, { Cluster.reset with phase := Phase.run, maps := [(0, 0x8000), (48, 0x8000)] })] },
      ⟨by decide +kernel, by decide +kernel, by decide +kernel, by decide +kernel, by decide +kernel⟩, by decide +kernel⟩,
   ⟨0, 0, 0, false, 0, 1, { State.reset with
        clusters := [(0, { Cluster.reset with phase := Phase.run, maps := [(0, 0x8000), (48, 0xc000)] })] }, 0,
      ⟨by decide +kernel, by decide +kernel, by decide +kernel, by decide +kernel, by decide +kernel⟩, by decide +kernel⟩⟩

/-- The premises of StoreResults, clause by clause. -/
theorem witness_StoreResults :
    (∃ (c : Fin 32) (u : Fin 2) (ag : Fin 8) (r : Fin 32) (q : Nat) (s : State),
    let x := s.cluster c
    let unit := 4 + u.val
    let a := (x.ea ag).toNat
    s.AgFree c ag ∧
    x.physW (1 + u) a = some q ∧
    s.Takes c unit 2 false ∧
    a % 2 = 0 ∧
    r.val % 2 = 0) ∧
    (∃ (c : Fin 32) (u : Fin 2) (f : Bool) (ag : Fin 8) (k : Fin 8) (q : Nat) (s : State),
    let x := s.cluster c
    let unit := 4 + u.val
    let a := (x.ea ag).toNat
    s.AgFree c ag ∧
    x.physW (1 + u) a = some q ∧
    s.Takes c unit 2 f ∧
    a % 2 = 0 ∧
    k.val % 2 = 0) :=
  ⟨⟨0, 0, 0, 0, 0, { State.reset with
        clusters := [(0, { Cluster.reset with phase := Phase.run, maps := [(0, 0x8000), (16, 0xc000)] })] },
      by unfold State.AgFree; decide +kernel, by decide +kernel, ⟨by decide +kernel, by decide +kernel, by decide +kernel, by decide +kernel, by decide +kernel⟩, by decide +kernel⟩,
   ⟨1, 0, false, 0, 0, 0, { State.reset with
        clusters := [(1, { Cluster.reset with phase := Phase.run, maps := [(0, 0x8000), (16, 0xc000)] })] },
      by unfold State.AgFree; decide +kernel, by decide +kernel, ⟨by decide +kernel, by decide +kernel, by decide +kernel, by decide +kernel, by decide +kernel⟩, by decide +kernel⟩⟩

/-- The premises of ControlResults, clause by clause. -/
theorem witness_ControlResults :
    (∃ (c : Fin 32) (s : State),
    let x := s.cluster c
    s.Takes c 7 1 false ∧
    x.atLe = false ∧
    0 < x.depth) ∧
    (∃ (c : Fin 32) (s : State),
    let x := s.cluster c
    s.Takes c 7 2 false ∧
    x.atLe = false ∧
    x.depth < 8) ∧
    (∃ (c : Fin 32) (last : Syl) (s : State),
    let x := s.cluster c
    s.Takes c 7 2 false ∧
    x.atLe = false ∧
    x.loops < 4 ∧
    x.badEnd last.toNat = false) ∧
    (∃ (c : Fin 32) (off : BitVec 10) (s : State),
    let x := s.cluster c
    s.Takes c 7 2 false ∧
    x.atLe = false ∧
    x.loops < 4 ∧
    x.badEnd (x.pc + off.toNat) = false) :=
  ⟨⟨0, { State.reset with
        clusters := [(0, { Cluster.reset with depth := 1, phase := Phase.run, maps := [(0, 0x8000)] })] },
      ⟨by decide +kernel, by decide +kernel, by decide +kernel, by decide +kernel, by decide +kernel⟩, by decide +kernel⟩,
   ⟨0, { State.reset with clusters := [(0, { Cluster.reset with phase := Phase.run, maps := [(0, 0x8000)] })] },
      ⟨by decide +kernel, by decide +kernel, by decide +kernel, by decide +kernel, by decide +kernel⟩, by decide +kernel⟩,
   ⟨0, 0x1, { State.reset with clusters := [(0, { Cluster.reset with phase := Phase.run, maps := [(0, 0x8000)] })] },
      ⟨by decide +kernel, by decide +kernel, by decide +kernel, by decide +kernel, by decide +kernel⟩, by decide +kernel⟩,
   ⟨0, 0x1, { State.reset with clusters := [(0, { Cluster.reset with phase := Phase.run, maps := [(0, 0x8000)] })] },
      ⟨by decide +kernel, by decide +kernel, by decide +kernel, by decide +kernel, by decide +kernel⟩, by decide +kernel⟩⟩

/-- The premises of IssueTraps, clause by clause. -/
theorem witness_IssueTraps :
    (∃ (c : Fin 32) (u : Fin 2) (f : Bool) (dst : Fin 32) (sa : Fin 32) (s : State),
    let x := s.cluster c
    x.iss.fail = none ∧
    s.Takes c u 2 f ∧
    (dst.val % 2 = 1 ∨ sa.val % 2 = 1)) ∧
    (∃ (c : Fin 32) (f : Bool) (s : State),
    let x := s.cluster c
    x.iss.fail = none ∧
    s.Takes c 0 2 f) ∧
    (∃ (c : Fin 32) (u : Fin 2) (f : Bool) (n : Fin 32) (s : State),
    let x := s.cluster c
    x.iss.fail = none ∧
    s.Takes c u 2 f ∧
    16 ≤ n.val) ∧
    (∃ (c : Fin 32) (u : Fin 2) (dir : Fin 4) (s : State),
    let x := s.cluster c
    x.iss.fail = none ∧
    s.Takes c u 2 false ∧
    2 ≤ dir.val) ∧
    (∃ (c : Fin 32) (u : Fin 2) (a0 : Nat) (s : State),
    let x := s.cluster c
    x.iss.fail = none ∧
    s.Takes c u 2 false ∧
    x.iss.flagAt = some a0) ∧
    (∃ (c : Fin 32) (ag : Fin 8) (a0 : Nat) (q : Nat) (s : State),
    let x := s.cluster c
    x.iss.fail = none ∧
    s.Takes c 5 2 false ∧
    x.iss.ags = [(ag.val, a0)] ∧
    x.phys 2 (x.ea ag).toNat = some q ∧
    x.isBad 2 q = false) ∧
    (∃ (c : Fin 32) (s : State),
    let x := s.cluster c
    let p := x.place 7
    x.iss.fail = none ∧
    s.canIssue c = true ∧
    x.iss.units = [7] ∧
    7 ∉ x.iss.skip ∧
    x.fetchFail p 1 = none) ∧
    (∃ (c : Fin 32) (s : State),
    let x := s.cluster c
    x.iss.fail = none ∧
    s.Takes c 7 2 false ∧
    x.atLe = true) ∧
    (∃ (c : Fin 32) (target : Syl) (s : State),
    let x := s.cluster c
    x.iss.fail = none ∧
    s.Takes c 7 2 false ∧
    x.atLe = false ∧
    x.badEnd target.toNat = true) ∧
    (∃ (c : Fin 32) (target : Syl) (s : State),
    let x := s.cluster c
    x.iss.fail = none ∧
    s.Takes c 7 2 false ∧
    x.atLe = false ∧
    x.badEnd target.toNat = false ∧
    4 ≤ x.loops) :=
  ⟨⟨0, 0, false, 1, 0, { State.reset with clusters := [(0, { Cluster.reset with phase := Phase.run, maps := [(0, 0x8000)] })] },
      by decide +kernel, ⟨by decide +kernel, by decide +kernel, by decide +kernel, by decide +kernel, by decide +kernel⟩, by decide +kernel⟩,
   ⟨0, false, { State.reset with clusters := [(0, { Cluster.reset with phase := Phase.run, maps := [(0, 0x8000)] })] },
      by decide +kernel, ⟨by decide +kernel, by decide +kernel, by decide +kernel, by decide +kernel, by decide +kernel⟩⟩,
   ⟨0, 0, false, 16, { State.reset with clusters := [(0, { Cluster.reset with phase := Phase.run, maps := [(0, 0x8000)] })] },
      by decide +kernel, ⟨by decide +kernel, by decide +kernel, by decide +kernel, by decide +kernel, by decide +kernel⟩, by decide +kernel⟩,
   ⟨0, 0, 2, { State.reset with clusters := [(0, { Cluster.reset with phase := Phase.run, maps := [(0, 0x8000)] })] },
      by decide +kernel, ⟨by decide +kernel, by decide +kernel, by decide +kernel, by decide +kernel, by decide +kernel⟩, by decide +kernel⟩,
   ⟨0, 0, 2, { State.reset with
        clusters := [(0, { Cluster.reset with iss := { Issue.empty with flagAt := (some 2) }, phase := Phase.run, maps := [(0, 0x8000)] })] },
      by decide +kernel, ⟨by decide +kernel, by decide +kernel, by decide +kernel, by decide +kernel, by decide +kernel⟩, by decide +kernel⟩,
   ⟨0, 2, 2, 0, { State.reset with
        clusters := [(0, { Cluster.reset with iss := { Issue.empty with ags := [(2, 2)] }, phase := Phase.run, maps := [(0, 0x8000), (32, 0xc000)] })] },
      by decide +kernel, ⟨by decide +kernel, by decide +kernel, by decide +kernel, by decide +kernel, by decide +kernel⟩, by decide +kernel⟩,
   ⟨2, { State.reset with
        clusters := [(2, { Cluster.reset with iss := { Issue.empty with units := [7] }, phase := Phase.run, maps := [(0, 0x8000)] })] },
      by decide +kernel⟩,
   ⟨0, { State.reset with
        clusters := [(0, { Cluster.reset with loops := 1, phase := Phase.run, maps := [(0, 0x8000)] })] },
      by decide +kernel, ⟨by decide +kernel, by decide +kernel, by decide +kernel, by decide +kernel, by decide +kernel⟩, by decide +kernel⟩,
   ⟨0, 0x0, { State.reset with clusters := [(0, { Cluster.reset with phase := Phase.run, maps := [(0, 0x8000)] })] },
      by decide +kernel, ⟨by decide +kernel, by decide +kernel, by decide +kernel, by decide +kernel, by decide +kernel⟩, by decide +kernel⟩,
   ⟨0, 0x10, { State.reset with
        clusters := [(0, { Cluster.reset with pc := 4, loops := 4, crUse := [(39, 0x20)], phase := Phase.run, maps := [(0, 0x8000)] })] },
      by decide +kernel, ⟨by decide +kernel, by decide +kernel, by decide +kernel, by decide +kernel, by decide +kernel⟩, by decide +kernel⟩⟩

/-- The premises of PairAlignment, clause by clause. -/
theorem witness_PairAlignment :
    (∃ (c : Fin 32) (u : Fin 2) (ag : Fin 8) (r : Fin 32) (q : Nat) (s : State),
    let x := s.cluster c
    let a := (x.ea ag).toNat
    s.Takes c (4 + u) 2 false ∧
    s.AgFree c ag ∧
    x.iss.fail = none ∧
    r.val % 2 = 0 ∧
    a % 2 = 0 ∧
    x.phys (1 + u) a = some q ∧
    x.isBad (1 + u) q = false ∧
    x.isBad (1 + u) (q + 1) = false) ∧
    (∃ (c : Fin 32) (u : Fin 2) (ag : Fin 8) (r : Fin 32) (q : Nat) (s : State),
    let x := s.cluster c
    let a := (x.ea ag).toNat
    s.Takes c (4 + u) 2 false ∧
    s.AgFree c ag ∧
    x.iss.fail = none ∧
    r.val % 2 = 0 ∧
    a % 2 = 0 ∧
    x.physW (1 + u) a = some q) ∧
    (∃ (c : Fin 32) (u : Fin 2) (ag : Fin 8) (r : Fin 32) (q : Nat) (s : State),
    let x := s.cluster c
    let a := (x.ea ag).toNat
    s.Takes c (4 + u) 2 false ∧
    s.AgFree c ag ∧
    x.iss.fail = none ∧
    r.val % 2 = 0 ∧
    a % 2 = 1 ∧
    x.phys (1 + u) a = some q ∧
    x.isBad (1 + u) q = false ∧
    x.isBad (1 + u) (q + 1) = false) ∧
    (∃ (c : Fin 32) (u : Fin 2) (ag : Fin 8) (r : Fin 32) (q : Nat) (s : State),
    let x := s.cluster c
    let a := (x.ea ag).toNat
    s.Takes c (4 + u) 2 false ∧
    s.AgFree c ag ∧
    x.iss.fail = none ∧
    r.val % 2 = 0 ∧
    a % 2 = 1 ∧
    x.physW (1 + u) a = some q) :=
  ⟨⟨0, 0, 0, 0, 2, { State.reset with
        clusters := [(0, { Cluster.reset with crUse := [(0, 0x2)], phase := Phase.run, maps := [(0, 0x8000), (16, 0xc000)] })] },
      ⟨by decide +kernel, by decide +kernel, by decide +kernel, by decide +kernel, by decide +kernel⟩, by unfold State.AgFree; decide +kernel, by decide +kernel⟩,
   ⟨0, 0, 0, 0, 2, { State.reset with
        clusters := [(0, { Cluster.reset with crUse := [(0, 0x2)], phase := Phase.run, maps := [(0, 0x8000), (16, 0xc000)] })] },
      ⟨by decide +kernel, by decide +kernel, by decide +kernel, by decide +kernel, by decide +kernel⟩, by unfold State.AgFree; decide +kernel, by decide +kernel⟩,
   ⟨0, 0, 0, 0, 1, { State.reset with
        clusters := [(0, { Cluster.reset with crUse := [(0, 0x1)], phase := Phase.run, maps := [(0, 0x8000), (16, 0xc000)] })] },
      ⟨by decide +kernel, by decide +kernel, by decide +kernel, by decide +kernel, by decide +kernel⟩, by unfold State.AgFree; decide +kernel, by decide +kernel⟩,
   ⟨0, 0, 0, 0, 1, { State.reset with
        clusters := [(0, { Cluster.reset with crUse := [(0, 0x1)], phase := Phase.run, maps := [(0, 0x8000), (16, 0xc000)] })] },
      ⟨by decide +kernel, by decide +kernel, by decide +kernel, by decide +kernel, by decide +kernel⟩, by unfold State.AgFree; decide +kernel, by decide +kernel⟩⟩

/-- The premises of SameGeneratorTraps. -/
theorem witness_SameGeneratorTraps : ∃ (c : Fin 32) (ag : Fin 8) (q1 : Nat) (q2 : Nat) (s : State),
  let x := s.cluster c
  s.Takes c 4 2 false ∧
  x.iss = Issue.empty ∧
  x.fetchFail (x.pc + 2) 2 = none ∧
  x.phys 1 (x.ea ag).toNat = some q1 ∧
  x.physW 1 (x.ea ag).toNat = some q1 ∧
  x.isBad 1 q1 = false ∧
  x.phys 2 (x.ea ag).toNat = some q2 ∧
  x.physW 2 (x.ea ag).toNat = some q2 ∧
  x.isBad 2 q2 = false :=
  ⟨1, 0, 0, 0, { State.reset with
      clusters := [(1, { Cluster.reset with phase := Phase.run, maps := [(0, 0x8000), (16, 0xc000), (32, 0xc000)] })] },
    ⟨by decide +kernel, by decide +kernel, by decide +kernel, by decide +kernel, by decide +kernel⟩, by decide +kernel⟩

/-- The premises of ReturnStack, clause by clause. -/
theorem witness_ReturnStack :
    (∃ (c : Fin 32) (s : State),
    let x := s.cluster c
    s.checkedOn c = false ∧
    x.iss = Issue.empty ∧
    x.atLe = false ∧
    s.Takes c 7 2 false ∧
    x.depth < 8) ∧
    (∃ (c : Fin 32) (s : State),
    let x := s.cluster c
    s.checkedOn c = false ∧
    x.iss = Issue.empty ∧
    x.atLe = false ∧
    s.Takes c 7 2 false ∧
    8 ≤ x.depth) ∧
    (∃ (c : Fin 32) (s : State),
    let x := s.cluster c
    s.checkedOn c = false ∧
    x.iss = Issue.empty ∧
    x.atLe = false ∧
    s.Takes c 7 1 false ∧
    0 < x.depth) ∧
    (∃ (c : Fin 32) (s : State),
    let x := s.cluster c
    s.checkedOn c = false ∧
    x.iss = Issue.empty ∧
    x.atLe = false ∧
    s.Takes c 7 1 false ∧
    x.depth = 0) :=
  ⟨⟨5, { State.reset with clusters := [(5, { Cluster.reset with phase := Phase.run, maps := [(0, 0x8000)] })] },
      by decide +kernel, by decide +kernel, by decide +kernel, ⟨by decide +kernel, by decide +kernel, by decide +kernel, by decide +kernel, by decide +kernel⟩, by decide +kernel⟩,
   ⟨0, { State.reset with
        clusters := [(0, { Cluster.reset with depth := 8, phase := Phase.run, maps := [(0, 0x8000)] })] },
      by decide +kernel, by decide +kernel, by decide +kernel, ⟨by decide +kernel, by decide +kernel, by decide +kernel, by decide +kernel, by decide +kernel⟩, by decide +kernel⟩,
   ⟨5, { State.reset with
        clusters := [(5, { Cluster.reset with depth := 1, phase := Phase.run, maps := [(0, 0x8000)] })] },
      by decide +kernel, by decide +kernel, by decide +kernel, ⟨by decide +kernel, by decide +kernel, by decide +kernel, by decide +kernel, by decide +kernel⟩, by decide +kernel⟩,
   ⟨0, { State.reset with clusters := [(0, { Cluster.reset with phase := Phase.run, maps := [(0, 0x8000)] })] },
      by decide +kernel, by decide +kernel, by decide +kernel, ⟨by decide +kernel, by decide +kernel, by decide +kernel, by decide +kernel, by decide +kernel⟩, by decide +kernel⟩⟩

/-- The premises of Overrun, clause by clause. -/
theorem witness_Overrun :
    (∃ (c : Fin 32) (s : State),
    let x := s.cluster c
    x.phase = .run ∧
    x.cycle = s.declared c + 1) ∧
    (∃ (c : Fin 32) (s : State),
    let x := s.cluster c
    x.phase = .run ∧
    x.cycle = s.declared c ∧
    s.Takes c 7 1 false ∧
    x.iss = Issue.empty ∧
    x.kill = 0 ∧
    s.checkedOn c = false) :=
  ⟨⟨2, { State.reset with
        clusters := [(2, { Cluster.reset with cycle := 5, phase := Phase.run, job := (some ⟨2, 7, false⟩) })],
        recs := [(131, 0x40000)], jobs := [{ job0 with t := 2, seq := 7 }] },
      by decide +kernel⟩,
   ⟨5, { State.reset with
        clusters := [(5, { Cluster.reset with cycle := 5, phase := Phase.run, job := (some ⟨5, 7, false⟩), maps := [(0, 0x8000)] })],
        recs := [(323, 0x50000)], jobs := [{ job0 with t := 5, seq := 7 }] },
      by decide +kernel, by decide +kernel, ⟨by decide +kernel, by decide +kernel, by decide +kernel, by decide +kernel, by decide +kernel⟩, by decide +kernel⟩⟩

/-- The premises of CycleEnds. -/
theorem witness_CycleEnds : ∃ (c : Fin 32) (s : State),
  let x := s.cluster c
  x.phase = .run ∧
  x.cycle ≤ s.declared c ∧
  x.kill = 0 ∧
  x.iss.fail = none ∧
  x.iss.units ≠ [] ∧
  x.iss.ctl = .none ∧
  x.loops = 0 ∧
  s.checkedOn c = false :=
  ⟨0, { State.reset with
      clusters := [(0, { Cluster.reset with iss := { Issue.empty with units := [0] }, phase := Phase.run })] },
    by decide +kernel⟩

/-- The premises of TakenBranch. -/
theorem witness_TakenBranch : ∃ (c : Fin 32) (target : Nat) (s : State),
  let x := s.cluster c
  x.phase = .run ∧
  x.cycle + 2 ≤ s.declared c ∧
  x.kill = 0 ∧
  x.iss.fail = none ∧
  x.iss.units ≠ [] ∧
  x.iss.ctl = .jump target ∧
  s.checkedOn c = false ∧
  target < 0x4000 :=
  ⟨0, 16, { State.reset with
      jobs := [{ job0 with seq := 7 }], recs := [(3, 0x30000)],
      clusters := [(0, { Cluster.reset with phase := Phase.run, job := some ⟨0, 7, false⟩, iss := { Issue.empty with units := [7], ctl := .jump 16 } })] },
    by decide +kernel⟩

/-- The premises of LoopEnd. -/
theorem witness_LoopEnd : ∃ (c : Fin 32) (s : State),
  let x := s.cluster c
  let top := x.loops - 1
  x.phase = .run ∧
  x.cycle ≤ s.declared c ∧
  x.kill = 0 ∧
  x.iss.fail = none ∧
  x.iss.units ≠ [] ∧
  x.iss.ctl = .none ∧
  0 < x.loops ∧
  x.loops ≤ 4 ∧
  (x.ctlUse (36 + top)).toNat = x.pc ∧
  s.checkedOn c = false ∧
  x.pend = [] :=
  ⟨2, { State.reset with
      clusters := [(2, { Cluster.reset with crUse := [(38, 0x4)], loops := 3, pc := 4, iss := { Issue.empty with units := [0] }, phase := Phase.run })] },
    by decide +kernel⟩

/-- The premises of TrapTaken, clause by clause. -/
theorem witness_TrapTaken :
    (∃ (c : Fin 32) (code : Nat) (syl : Nat) (s : State),
    let x := s.cluster c
    let held := bit (s.reg .emuCtl) 0 && decide ((s.src (4 * c + 1)).tgt ≤ 64) &&
      !(decide ((s.src (4 * c + 1)).tgt = 0) && s.ridge.stopped)
    s.canIssue c = true ∧
    x.iss.fail = some ⟨3, code, syl, none⟩ ∧
    x.iss.units ≠ [] ∧
    s.checkedOn c = false ∧
    held = true) ∧
    (∃ (c : Fin 32) (code : Nat) (syl : Nat) (s : State),
    let x := s.cluster c
    let held := bit (s.reg .emuCtl) 0 && decide ((s.src (4 * c + 1)).tgt ≤ 64) &&
      !(decide ((s.src (4 * c + 1)).tgt = 0) && s.ridge.stopped)
    s.canIssue c = true ∧
    x.iss.fail = some ⟨3, code, syl, none⟩ ∧
    x.iss.units ≠ [] ∧
    s.checkedOn c = false ∧
    held = false) :=
  ⟨⟨0, 0, 1, { State.reset with
        regs := [(44800, 0x1)],
        clusters := [(0, { Cluster.reset with iss := { Issue.empty with units := [0], fail := (some ⟨3, 0, 1, none⟩) }, phase := Phase.run })] },
      by decide +kernel⟩,
   ⟨3, 1, 0, { State.reset with
        clusters := [(3, { Cluster.reset with iss := { Issue.empty with units := [0], fail := (some ⟨3, 1, 0, none⟩) }, phase := Phase.run })] },
      by decide +kernel⟩⟩

/-- The premises of HoldEnds, clause by clause. -/
theorem witness_HoldEnds :
    (∃ (c : Fin 32) (s : State),
    let x := s.cluster c
    x.phase ≠ .held) ∧
    (∃ (c : Fin 32) (s : State),
    let x := s.cluster c
    x.phase = .held ∧
    s.checkedOn c = false) :=
  ⟨⟨0, (State.reset),
      by decide +kernel⟩,
   ⟨0, { State.reset with clusters := [(0, { Cluster.reset with phase := Phase.held })] },
      by decide +kernel⟩⟩

/-- The premises of FaultReport. -/
theorem witness_FaultReport : ∃ (c : Fin 32) (j : Job) (s : State),
  s.jobOn c = some j ∧
  s.jobs = [j] ∧
  j.clusters = [c.val] ∧
  j.active = true ∧
  s.policyOf j.t = 0 ∧
  j.pins = [] ∧
  j.newBufs = [] ∧
  (s.task j.t).removing = [] ∧
  s.genNamed j.gen = none ∧
  (∀ q : Nat, s.waits q 8 = false) ∧
  (s.cluster c).phase = .held :=
  ⟨2, { job0 with t := 2, seq := 7, cyc := 1, nominal := 5, deadline := 100, cl := 2, active := true, replay := true }, { State.reset with
      clusters := [(2, { Cluster.reset with phase := Phase.held, job := (some ⟨2, 7, true⟩) })],
      jobs := [{ job0 with t := 2, seq := 7, cyc := 1, nominal := 5, deadline := 100, cl := 2, active := true, replay := true }] },
    by decide +kernel, by decide +kernel, by decide +kernel, by decide +kernel, by decide +kernel, by decide +kernel, by decide +kernel, by decide +kernel, by decide +kernel, fun _ => rfl, by decide +kernel⟩

/-- The premises of DataFaults, clause by clause. -/
theorem witness_DataFaults :
    (∃ (c : Fin 32) (u : Fin 2) (ag : Fin 8) (s : State),
    let x := s.cluster c
    let a := (x.ea ag).toNat
    x.iss.fail = none ∧
    s.Takes c (4 + u) 2 false ∧
    s.AgFree c ag ∧
    x.phys (1 + u) a = none) ∧
    (∃ (c : Fin 32) (u : Fin 2) (ag : Fin 8) (s : State),
    let x := s.cluster c
    let a := (x.ea ag).toNat
    x.iss.fail = none ∧
    s.Takes c (4 + u) 2 false ∧
    s.AgFree c ag ∧
    x.physW (1 + u) a = none) ∧
    (∃ (c : Fin 32) (u : Fin 2) (ag : Fin 8) (q : Nat) (s : State),
    let x := s.cluster c
    let a := (x.ea ag).toNat
    x.iss.fail = none ∧
    s.Takes c (4 + u) 2 false ∧
    s.AgFree c ag ∧
    x.phys (1 + u) a = some q ∧
    x.isBad (1 + u) q = true) ∧
    (∃ (c : Fin 32) (tb : Fin 4) (off : Fin 512) (s : State),
    let x := s.cluster c
    let b := ((x.tb tb).toNat + off) % 65536
    x.iss.fail = none ∧
    s.Takes c 6 2 false ∧
    x.phys 3 b = none) ∧
    (∃ (c : Fin 32) (tb : Fin 4) (off : Fin 512) (q : Nat) (s : State),
    let x := s.cluster c
    let b := ((x.tb tb).toNat + off) % 65536
    x.iss.fail = none ∧
    s.Takes c 6 2 false ∧
    x.phys 3 b = some q ∧
    x.isBad 3 q = true) :=
  ⟨⟨0, 0, 0, { State.reset with clusters := [(0, { Cluster.reset with phase := Phase.run, maps := [(0, 0x8000)] })] },
      by decide +kernel, ⟨by decide +kernel, by decide +kernel, by decide +kernel, by decide +kernel, by decide +kernel⟩, by unfold State.AgFree; decide +kernel, by decide +kernel⟩,
   ⟨0, 0, 0, { State.reset with clusters := [(0, { Cluster.reset with phase := Phase.run, maps := [(0, 0x8000)] })] },
      by decide +kernel, ⟨by decide +kernel, by decide +kernel, by decide +kernel, by decide +kernel, by decide +kernel⟩, by unfold State.AgFree; decide +kernel, by decide +kernel⟩,
   ⟨0, 0, 0, 0, { State.reset with
        clusters := [(0, { Cluster.reset with phase := Phase.run, maps := [(0, 0x8000), (16, 0x8000)], bad := [65536] })] },
      by decide +kernel, ⟨by decide +kernel, by decide +kernel, by decide +kernel, by decide +kernel, by decide +kernel⟩, by unfold State.AgFree; decide +kernel, by decide +kernel⟩,
   ⟨0, 0, 0, { State.reset with clusters := [(0, { Cluster.reset with phase := Phase.run, maps := [(0, 0x8000)] })] },
      by decide +kernel, ⟨by decide +kernel, by decide +kernel, by decide +kernel, by decide +kernel, by decide +kernel⟩, by decide +kernel⟩,
   ⟨0, 0, 0, 0, { State.reset with
        clusters := [(0, { Cluster.reset with phase := Phase.run, maps := [(0, 0x8000), (48, 0x8000)], bad := [196608] })] },
      by decide +kernel, ⟨by decide +kernel, by decide +kernel, by decide +kernel, by decide +kernel, by decide +kernel⟩, by decide +kernel⟩⟩

/-- The premises of ShingleTwoOperand, clause by clause. -/
theorem witness_ShingleTwoOperand :
    (∃ (k : Fin 65) (d : Fin 8) (s : State),
    s.Runs k 1 ∧
    d.val % 2 = 0) ∧
    (∃ (k : Fin 65) (s : State),
    s.Runs k 2) :=
  ⟨⟨0, 0, { State.reset with cores := [(0, { Core.fresh false with state := CoreSt.run })], doms := domsOn [40] },
      ⟨rfl, rfl, by rfl, by intros; rfl⟩, by decide +kernel⟩,
   ⟨0, { State.reset with cores := [(0, { Core.fresh false with state := CoreSt.run })], doms := domsOn [40] },
      ⟨rfl, rfl, by rfl, by intros; rfl⟩⟩⟩

/-- The premises of ShingleOneOperand. -/
theorem witness_ShingleOneOperand : ∃ (k : Fin 65) (s : State),
  s.Runs k 1 :=
  ⟨0, { State.reset with cores := [(0, { Core.fresh false with state := CoreSt.run })], doms := domsOn [40] },
    ⟨rfl, rfl, by rfl, by intros; rfl⟩⟩

/-- The premises of ShinglePointers, clause by clause. -/
theorem witness_ShinglePointers :
    (∃ (k : Fin 65) (p : Fin 8) (s : State),
    s.Runs k 1 ∧
    p.val < 5) ∧
    (∃ (k : Fin 65) (s : State),
    s.Runs k 2) :=
  ⟨⟨0, 0, { State.reset with cores := [(0, { Core.fresh false with state := CoreSt.run })], doms := domsOn [40] },
      ⟨rfl, rfl, by rfl, by intros; rfl⟩, by decide +kernel⟩,
   ⟨0, { State.reset with cores := [(0, { Core.fresh false with state := CoreSt.run })], doms := domsOn [40] },
      ⟨rfl, rfl, by rfl, by intros; rfl⟩⟩⟩

/-- The premises of ShingleJumps, clause by clause. -/
theorem witness_ShingleJumps :
    (∃ (k : Fin 65) (s : State),
    s.Runs k 1) ∧
    (∃ (k : Fin 65) (s : State),
    s.Runs k 2) :=
  ⟨⟨0, { State.reset with cores := [(0, { Core.fresh false with state := CoreSt.run })], doms := domsOn [40] },
      ⟨rfl, rfl, by rfl, by intros; rfl⟩⟩,
   ⟨0, { State.reset with cores := [(0, { Core.fresh false with state := CoreSt.run })], doms := domsOn [40] },
      ⟨rfl, rfl, by rfl, by intros; rfl⟩⟩⟩

/-- The premises of ShingleStack, clause by clause. -/
theorem witness_ShingleStack :
    (∃ (k : Fin 65) (p : Fin 8) (s : State),
    let c := s.core k
    s.Runs k 1 ∧
    localData k (c.sp - 2).toNat = true ∧
    localData k (c.sp - 1).toNat = true ∧
    p.val < 5) ∧
    (∃ (k : Fin 65) (s : State),
    let c := s.core k
    s.Runs k 2 ∧
    localData k (c.sp - 2).toNat = true ∧
    localData k (c.sp - 1).toNat = true) ∧
    (∃ (k : Fin 65) (p : Fin 8) (s : State),
    let c := s.core k
    s.Runs k 1 ∧
    s.readable k c.sp.toNat ∧
    s.readable k (c.sp + 1).toNat ∧
    p.val < 5) ∧
    (∃ (k : Fin 65) (a : W16) (s : State),
    s.Runs k 2 ∧
    s.readable k a.toNat) ∧
    (∃ (k : Fin 65) (a : W16) (s : State),
    s.Runs k 2 ∧
    localData k a.toNat = true) :=
  ⟨⟨1, 0, { State.reset with cores := [(1, { Core.fresh false with state := CoreSt.run })], doms := domsOn [40] },
      ⟨rfl, rfl, by rfl, by intros; rfl⟩, by decide +kernel⟩,
   ⟨1, { State.reset with cores := [(1, { Core.fresh false with state := CoreSt.run })], doms := domsOn [40] },
      ⟨rfl, rfl, by rfl, by intros; rfl⟩, by decide +kernel⟩,
   ⟨0, 0, { State.reset with
        cores := [(0, { Core.fresh false with sp := 0x0, state := CoreSt.run })], doms := domsOn [40] },
      ⟨rfl, rfl, by rfl, by intros; rfl⟩, ⟨by decide +kernel, by decide +kernel⟩, ⟨by decide +kernel, by decide +kernel⟩, by decide +kernel⟩,
   ⟨0, 0x0, { State.reset with cores := [(0, { Core.fresh false with state := CoreSt.run })], doms := domsOn [40] },
      ⟨rfl, rfl, by rfl, by intros; rfl⟩, ⟨by decide +kernel, by decide +kernel⟩⟩,
   ⟨0, 0x0, { State.reset with cores := [(0, { Core.fresh false with state := CoreSt.run })], doms := domsOn [40] },
      ⟨rfl, rfl, by rfl, by intros; rfl⟩, by decide +kernel⟩⟩

/-- The premises of ShingleDataModes, clause by clause. -/
theorem witness_ShingleDataModes :
    (∃ (k : Fin 65) (p : Fin 4) (r : Fin 8) (s : State),
    s.Runs k 1 ∧
    (s.core k).wdPend = false ∧
    let c := s.core k
    let a := c.ptr p
    r.val % 2 = 0 ∧
    s.readable k a.toNat ∧
    s.readable k (a + 1).toNat) ∧
    (∃ (k : Fin 65) (p : Fin 4) (r : Fin 8) (s : State),
    s.Runs k 1 ∧
    (s.core k).wdPend = false ∧
    let c := s.core k
    let a := c.ptr p
    r.val % 2 = 0 ∧
    localData k a.toNat = true ∧
    localData k (a + 1).toNat = true) :=
  ⟨⟨1, 0, 0, { State.reset with cores := [(1, { Core.fresh false with state := CoreSt.run })], doms := domsOn [40] },
      ⟨rfl, rfl, by rfl, by intros; rfl⟩, by decide +kernel, by decide +kernel, ⟨by decide +kernel, by decide +kernel⟩, ⟨by decide +kernel, by decide +kernel⟩⟩,
   ⟨1, 0, 0, { State.reset with cores := [(1, { Core.fresh false with state := CoreSt.run })], doms := domsOn [40] },
      ⟨rfl, rfl, by rfl, by intros; rfl⟩, by decide +kernel⟩⟩

/-- The premises of ShingleBlocks, clause by clause. -/
theorem witness_ShingleBlocks :
    (∃ (k : Fin 65) (s : State),
    s.Runs k 1 ∧
    (s.core k).wdPend = false ∧
    let c := s.core k
    s.readable k c.px.toNat ∧
    localData k c.py.toNat = true) ∧
    (∃ (k : Fin 65) (s : State),
    s.Runs k 1 ∧
    (s.core k).wdPend = false ∧
    let c := s.core k
    s.readable k c.px.toNat ∧
    s.readable k c.py.toNat) ∧
    (∃ (k : Fin 65) (s : State),
    s.Runs k 1 ∧
    (s.core k).wdPend = false ∧
    let c := s.core k
    let port := fld c.pzr 7 0
    plainPort k port ∧
    localData k c.py.toNat = true) ∧
    (∃ (k : Fin 65) (s : State),
    s.Runs k 1 ∧
    (s.core k).wdPend = false ∧
    let c := s.core k
    let port := fld c.pzr 7 0
    plainPort k port ∧
    s.readable k c.px.toNat) :=
  ⟨⟨0, { State.reset with cores := [(0, { Core.fresh false with state := CoreSt.run })], doms := domsOn [40] },
      ⟨rfl, rfl, by rfl, by intros; rfl⟩, by decide +kernel, ⟨by decide +kernel, by decide +kernel⟩, by decide +kernel⟩,
   ⟨0, { State.reset with cores := [(0, { Core.fresh false with state := CoreSt.run })], doms := domsOn [40] },
      ⟨rfl, rfl, by rfl, by intros; rfl⟩, by decide +kernel, ⟨by decide +kernel, by decide +kernel⟩, ⟨by decide +kernel, by decide +kernel⟩⟩,
   ⟨0, { State.reset with
        cores := [(0, { Core.fresh false with pz := 0x1, state := CoreSt.run })], doms := domsOn [40] },
      ⟨rfl, rfl, by rfl, by intros; rfl⟩, by decide +kernel, ⟨by decide +kernel, by decide +kernel, by decide +kernel, by decide +kernel⟩, by decide +kernel⟩,
   ⟨0, { State.reset with
        cores := [(0, { Core.fresh false with pz := 0x1, state := CoreSt.run })], doms := domsOn [40] },
      ⟨rfl, rfl, by rfl, by intros; rfl⟩, by decide +kernel, ⟨by decide +kernel, by decide +kernel, by decide +kernel, by decide +kernel⟩, ⟨by decide +kernel, by decide +kernel⟩⟩⟩

/-- The premises of ShingleRepeat, clause by clause. -/
theorem witness_ShingleRepeat :
    (∃ (k : Fin 65) (s : State),
    let c := s.core k
    let a := (c.pc.toNat + 1) % 65536
    s.shgReady k = true ∧
    c.rpt = true ∧
    s.fetchWord k a = (s, none) ∧
    c.wdPend = false ∧
    c.cnt = 0) ∧
    (∃ (k : Fin 65) (s : State),
    let c := s.core k
    let a := (c.pc.toNat + 1) % 65536
    s.shgReady k = true ∧
    c.rpt = true ∧
    s.fetchWord k a = (s, none) ∧
    c.wdPend = false ∧
    c.cnt ≠ 0 ∧
    localData k c.py.toNat = true) :=
  ⟨⟨64, { State.reset with
        cores := [(64, { Core.fresh false with state := CoreSt.run, rpt := true })],
        ridge := { State.reset.ridge with clearing := false } },
      by decide +kernel⟩,
   ⟨0, { State.reset with
        cores := [(0, { Core.fresh false with cnt := 0x1, state := CoreSt.run, rpt := true })], doms := domsOn [40] },
      by decide +kernel⟩⟩

/-- The premises of ShinglePorts, clause by clause. -/
theorem witness_ShinglePorts :
    (∃ (k : Fin 65) (port : Byte) (s : State),
    s.Runs k 2 ∧
    plainPort k port.toNat) ∧
    (∃ (k : Fin 65) (s : State),
    let c := s.core k
    let z := fld c.pzr 7 0
    s.Runs k 1 ∧
    plainPort k z) :=
  ⟨⟨0, 0x1, { State.reset with cores := [(0, { Core.fresh false with state := CoreSt.run })], doms := domsOn [40] },
      ⟨rfl, rfl, by rfl, by intros; rfl⟩, ⟨by decide +kernel, by decide +kernel, by decide +kernel, by decide +kernel⟩⟩,
   ⟨0, { State.reset with
        cores := [(0, { Core.fresh false with pz := 0x1, state := CoreSt.run })], doms := domsOn [40] },
      ⟨rfl, rfl, by rfl, by intros; rfl⟩, ⟨by decide +kernel, by decide +kernel, by decide +kernel, by decide +kernel⟩⟩⟩

/-- The premises of ShingleProgramWords, clause by clause. -/
theorem witness_ShingleProgramWords :
    (∃ (k : Fin 65) (r : Fin 8) (s : State),
    s.Runs k 1 ∧
    r.val % 2 = 0 ∧
    let c := s.core k
    let a := c.pzr.toNat
    a < progSize k ∧
    a ∉ c.progBad ∧
    a ∉ c.progLost) ∧
    (∃ (k : Fin 65) (r : Fin 8) (s : State),
    s.Runs k 1 ∧
    r.val % 2 = 0 ∧
    let c := s.core k
    let a := c.pzr.toNat
    a < progSize k ∧
    s.stpOk k a = true) :=
  ⟨⟨0, 0, { State.reset with cores := [(0, { Core.fresh false with state := CoreSt.run })], doms := domsOn [40] },
      ⟨rfl, rfl, by rfl, by intros; rfl⟩, by decide +kernel⟩,
   ⟨0, 0, { State.reset with
        regs := [(33796, 0x1)], cores := [(0, { Core.fresh false with state := CoreSt.run })], doms := domsOn [40] },
      ⟨rfl, rfl, by rfl, by intros; rfl⟩, by decide +kernel⟩⟩

/-- The premises of ShingleWaits, clause by clause. -/
theorem witness_ShingleWaits :
    (∃ (k : Fin 65) (s : State),
    s.Runs k 1) ∧
    (∃ (k : Fin 65) (s : State),
    let c := s.core k
    s.coreRuns k = true ∧
    c.waitd = true ∧
    c.wdPend = false) :=
  ⟨⟨0, { State.reset with cores := [(0, { Core.fresh false with state := CoreSt.run })], doms := domsOn [40] },
      ⟨rfl, rfl, by rfl, by intros; rfl⟩⟩,
   ⟨0, { State.reset with
        cores := [(0, { Core.fresh false with state := CoreSt.run, waitd := true })], doms := domsOn [40] },
      by decide +kernel⟩⟩

/-- The premises of ShingleKernelCall, clause by clause. -/
theorem witness_ShingleKernelCall :
    (∃ (k : Fin 64) (s : State),
    s.Runs k 1 ∧
    s.ridge.stopped = false) ∧
    (∃ (k : Fin 64) (s : State),
    s.Runs k 1 ∧
    s.ridge.stopped = true) :=
  ⟨⟨0, { State.reset with cores := [(0, { Core.fresh false with state := CoreSt.run })], doms := domsOn [40] },
      ⟨rfl, rfl, by rfl, by intros; rfl⟩, by decide +kernel⟩,
   ⟨0, { State.reset with
        cores := [(0, { Core.fresh false with state := CoreSt.run })], ridge := { State.reset.ridge with stopped := true },
        doms := domsOn [40] },
      ⟨rfl, rfl, by rfl, by intros; rfl⟩, by decide +kernel⟩⟩

/-- The premises of ReturnFromException. -/
theorem witness_ReturnFromException : ∃ (k : Fin 65) (s : State),
  s.Runs k 1 ∧
  (s.core k).shadow = true :=
  ⟨1, { State.reset with
      cores := [(1, { Core.fresh false with shadow := true, state := CoreSt.run })], doms := domsOn [40] },
    ⟨rfl, rfl, by rfl, by intros; rfl⟩, by decide +kernel⟩

/-- The premises of InterruptEntry. -/
theorem witness_InterruptEntry : ∃ (k : Fin 65) (i : Nat) (s : State),
  let c := s.core k
  let e : W16 := c.vb + BitVec.ofNat 16 (2 * (16 + (s.src i).prio))
  (c.state = .run ∨ c.state = .wait) ∧
  (if k = 64 then s.ridge.stopped = false ∧ s.ridge.clearing = false else s.shingleOn k = true) ∧
  s.best (if k = 64 then 0 else k + 1) = some i ∧
  c.gm = false ∧
  c.wdPend = false ∧
  s.readable k e.toNat ∧
  s.readable k (e + 1).toNat :=
  ⟨64, 8, { State.reset with
      cores := [(64, { Core.fresh false with st := 0x0, state := CoreSt.run })],
      ridge := { State.reset.ridge with clearing := false }, srcs := [(8, { Src.reset with pend := true, prio := 1 })] },
    by decide +kernel, by decide +kernel, by decide +kernel, by decide +kernel, by decide +kernel, ⟨by decide +kernel, by decide +kernel⟩, ⟨by decide +kernel, by decide +kernel⟩⟩

/-- The premises of WatchdogExpiry, clause by clause. -/
theorem witness_WatchdogExpiry :
    (∃ (k : Fin 65) (s : State),
    let c := s.core k
    s.coreRuns k = true ∧
    s.wdogCounts k = true ∧
    (c.rpt = true ∨ c.waitd = true)) ∧
    (∃ (k : Fin 65) (s : State),
    let c := s.core k
    let e : W16 := c.vb + 10
    s.coreRuns k = true ∧
    s.wdogCounts k = true ∧
    c.rpt = false ∧
    c.waitd = false ∧
    c.gm = false ∧
    s.readable k e.toNat ∧
    s.readable k (e + 1).toNat) ∧
    (∃ (k : Fin 65) (s : State),
    let c := s.core k
    s.coreRuns k = true ∧
    s.wdogCounts k = true ∧
    c.rpt = false ∧
    c.waitd = false ∧
    c.gm = true ∧
    k.val < 64) :=
  ⟨⟨0, { State.reset with
        regs := [(34320, 0x1), (34324, 0x1)], cores := [(0, { Core.fresh false with state := CoreSt.run, rpt := true })],
        doms := domsOn [40] },
      by decide +kernel⟩,
   ⟨0, { State.reset with
        regs := [(34320, 0x1), (34324, 0x1)], cores := [(0, { Core.fresh false with st := 0x0, state := CoreSt.run })],
        doms := domsOn [40] },
      by decide +kernel, by decide +kernel, by decide +kernel, by decide +kernel, by decide +kernel, ⟨by decide +kernel, by decide +kernel⟩, ⟨by decide +kernel, by decide +kernel⟩⟩,
   ⟨0, { State.reset with
        regs := [(34320, 0x1), (34324, 0x1)], cores := [(0, { Core.fresh false with state := CoreSt.run })],
        doms := domsOn [40] },
      by decide +kernel⟩⟩

/-- The premises of ReservedEncoding, clause by clause. -/
theorem witness_ReservedEncoding :
    (∃ (k : Fin 65) (d : Fin 8) (s : State),
    s.Runs k 1 ∧
    let c := s.core k
    let e : W16 := c.vb + 4
    c.gm = false ∧
    c.wdPend = false ∧
    s.readable k e.toNat ∧
    s.readable k (e + 1).toNat ∧
    d.val % 2 = 1) ∧
    (∃ (k : Fin 65) (r : Fin 8) (s : State),
    s.Runs k 1 ∧
    let c := s.core k
    let e : W16 := c.vb + 4
    c.gm = false ∧
    c.wdPend = false ∧
    s.readable k e.toNat ∧
    s.readable k (e + 1).toNat ∧
    r.val % 2 = 1) ∧
    (∃ (k : Fin 65) (p : Fin 8) (s : State),
    s.Runs k 1 ∧
    let c := s.core k
    let e : W16 := c.vb + 4
    c.gm = false ∧
    c.wdPend = false ∧
    s.readable k e.toNat ∧
    s.readable k (e + 1).toNat ∧
    5 ≤ p.val) ∧
    (∃ (k : Fin 65) (p : Fin 8) (s : State),
    s.Runs k 1 ∧
    let c := s.core k
    let e : W16 := c.vb + 4
    c.gm = false ∧
    c.wdPend = false ∧
    s.readable k e.toNat ∧
    s.readable k (e + 1).toNat ∧
    6 ≤ p.val) ∧
    (∃ (k : Fin 65) (s : State),
    s.Runs k 1 ∧
    let c := s.core k
    let e : W16 := c.vb + 4
    c.gm = false ∧
    c.wdPend = false ∧
    s.readable k e.toNat ∧
    s.readable k (e + 1).toNat ∧
    c.shadow = false) ∧
    (∃ (k : Fin 65) (s : State),
    s.Runs k 1 ∧
    let c := s.core k
    let e : W16 := c.vb + 4
    c.gm = false ∧
    c.wdPend = false ∧
    s.readable k e.toNat ∧
    s.readable k (e + 1).toNat ∧
    k = 64) :=
  ⟨⟨0, 1, { State.reset with
        cores := [(0, { Core.fresh false with st := 0x0, state := CoreSt.run })], doms := domsOn [40] },
      ⟨rfl, rfl, by rfl, by intros; rfl⟩, by decide +kernel, by decide +kernel, ⟨by decide +kernel, by decide +kernel⟩, ⟨by decide +kernel, by decide +kernel⟩, by decide +kernel⟩,
   ⟨0, 1, { State.reset with
        cores := [(0, { Core.fresh false with st := 0x0, state := CoreSt.run })], doms := domsOn [40] },
      ⟨rfl, rfl, by rfl, by intros; rfl⟩, by decide +kernel, by decide +kernel, ⟨by decide +kernel, by decide +kernel⟩, ⟨by decide +kernel, by decide +kernel⟩, by decide +kernel⟩,
   ⟨0, 5, { State.reset with
        cores := [(0, { Core.fresh false with st := 0x0, state := CoreSt.run })], doms := domsOn [40] },
      ⟨rfl, rfl, by rfl, by intros; rfl⟩, by decide +kernel, by decide +kernel, ⟨by decide +kernel, by decide +kernel⟩, ⟨by decide +kernel, by decide +kernel⟩, by decide +kernel⟩,
   ⟨0, 6, { State.reset with
        cores := [(0, { Core.fresh false with st := 0x0, state := CoreSt.run })], doms := domsOn [40] },
      ⟨rfl, rfl, by rfl, by intros; rfl⟩, by decide +kernel, by decide +kernel, ⟨by decide +kernel, by decide +kernel⟩, ⟨by decide +kernel, by decide +kernel⟩, by decide +kernel⟩,
   ⟨0, { State.reset with
        cores := [(0, { Core.fresh false with st := 0x0, state := CoreSt.run })], doms := domsOn [40] },
      ⟨rfl, rfl, by rfl, by intros; rfl⟩, by decide +kernel, by decide +kernel, ⟨by decide +kernel, by decide +kernel⟩, ⟨by decide +kernel, by decide +kernel⟩, by decide +kernel⟩,
   ⟨64, { State.reset with
        cores := [(64, { Core.fresh false with st := 0x0, state := CoreSt.run })],
        ridge := { State.reset.ridge with clearing := false } },
      ⟨rfl, rfl, by rfl, by intros; rfl⟩, by decide +kernel, by decide +kernel, ⟨by decide +kernel, by decide +kernel⟩, ⟨by decide +kernel, by decide +kernel⟩, by decide +kernel⟩⟩

/-- The premises of KernelServices, clause by clause. -/
theorem witness_KernelServices :
    (∃ (k : Fin 64) (s : State),
    s.serves k 0 = true) ∧
    (∃ (k : Fin 64) (s : State),
    s.serves k 1 = true) ∧
    (∃ (k : Fin 64) (s : State),
    s.serves k 2 = true) ∧
    (∃ (k : Fin 64) (s : State),
    let c := s.core k
    let v (n : Nat) : Nat := (c.vAt c.shadow n).toNat
    let target := v 0
    s.serves k 3 = true ∧
    target < 64 ∧
    c.px.toNat + 8 ≤ 0x4000 ∧
    s.shingleOn target = true) ∧
    (∃ (k : Fin 64) (s : State),
    let c := s.core k
    let v (n : Nat) : Nat := (c.vAt c.shadow n).toNat
    let target := v 0
    s.serves k 3 = true ∧
    target < 64 ∧
    0x4000 < c.px.toNat + 8) ∧
    (∃ (k : Fin 64) (s : State),
    let c := s.core k
    let v (n : Nat) : Nat := (c.vAt c.shadow n).toNat
    let target := v 0
    s.serves k 3 = true ∧
    64 ≤ target) ∧
    (∃ (k : Fin 64) (s : State),
    let c := s.core k
    let v (n : Nat) : Nat := (c.vAt c.shadow n).toNat
    s.serves k 4 = true ∧
    let i := v 0 + 256 * v 1
    496 ≤ i ∧
    i < 512) ∧
    (∃ (k : Fin 64) (s : State),
    let c := s.core k
    let v (n : Nat) : Nat := (c.vAt c.shadow n).toNat
    s.serves k 4 = true ∧
    let i := v 0 + 256 * v 1
    (i < 496 ∨ 512 ≤ i)) ∧
    (∃ (k : Fin 64) (s : State),
    let c := s.core k
    s.serves k 5 = true ∧
    c.px.toNat + 12 ≤ 0x4000) ∧
    (∃ (k : Fin 64) (s : State),
    let c := s.core k
    s.serves k 5 = true ∧
    0x4000 < c.px.toNat + 12) :=
  ⟨⟨0, { State.reset with
        cores := [(0, { Core.fresh false with state := CoreSt.calling })],
        ridge := { State.reset.ridge with clearing := false }, misc := { State.reset.misc with boot := BootPh.done } },
      by decide +kernel⟩,
   ⟨1, { State.reset with
        cores := [(1, { Core.fresh false with state := CoreSt.calling, call := 1 })],
        ridge := { State.reset.ridge with clearing := false }, misc := { State.reset.misc with boot := BootPh.done } },
      by decide +kernel⟩,
   ⟨0, { State.reset with
        cores := [(0, { Core.fresh false with state := CoreSt.calling, call := 2 })],
        ridge := { State.reset.ridge with clearing := false }, misc := { State.reset.misc with boot := BootPh.done } },
      by decide +kernel⟩,
   ⟨1, { State.reset with
        cores := [(1, { Core.fresh false with state := CoreSt.calling, call := 3 })],
        ridge := { State.reset.ridge with clearing := false }, doms := domsOn [40],
        misc := { State.reset.misc with boot := BootPh.done } },
      by decide +kernel⟩,
   ⟨0, { State.reset with
        cores := [(0, { Core.fresh false with px := 0x3ff9, state := CoreSt.calling, call := 3 })],
        ridge := { State.reset.ridge with clearing := false }, misc := { State.reset.misc with boot := BootPh.done } },
      by decide +kernel⟩,
   ⟨3, { State.reset with
        cores := [(3, { Core.fresh false with sv := [(0, 0x40)], shadow := true, state := CoreSt.calling, call := 3 })],
        ridge := { State.reset.ridge with clearing := false }, misc := { State.reset.misc with boot := BootPh.done } },
      by decide +kernel⟩,
   ⟨2, { State.reset with
        cores := [(2, { Core.fresh false with v := [(0, 0xf0), (1, 0x1)], state := CoreSt.calling, call := 4 })],
        ridge := { State.reset.ridge with clearing := false }, misc := { State.reset.misc with boot := BootPh.done } },
      by decide +kernel⟩,
   ⟨0, { State.reset with
        cores := [(0, { Core.fresh false with state := CoreSt.calling, call := 4 })],
        ridge := { State.reset.ridge with clearing := false }, misc := { State.reset.misc with boot := BootPh.done } },
      by decide +kernel⟩,
   ⟨2, { State.reset with
        cores := [(2, { Core.fresh false with state := CoreSt.calling, call := 5 })],
        ridge := { State.reset.ridge with clearing := false }, misc := { State.reset.misc with boot := BootPh.done } },
      by decide +kernel⟩,
   ⟨0, { State.reset with
        cores := [(0, { Core.fresh false with px := 0x3ff5, state := CoreSt.calling, call := 5 })],
        ridge := { State.reset.ridge with clearing := false }, misc := { State.reset.misc with boot := BootPh.done } },
      by decide +kernel⟩⟩

/-- The premises of KernelDenies, clause by clause. -/
theorem witness_KernelDenies :
    (∃ (k : Fin 64) (s : State),
    (s.core k).state ≠ .calling) ∧
    (∃ (k : Fin 64) (s : State),
    ∃ p ∈ [(0, Instr.svcVersion k true), (1, .svcWallclock k true), (2, .svcLog k true), (3, .svcMailbox k true),
             (4, .svcRaise k true), (5, .svcHostNote k true)],
    s.serves k p.1 = true ∧
    (s.core k).gm = false) ∧
    (∃ (k : Fin 64) (s : State),
    ∃ p ∈ [(0, Instr.svcVersion k true), (1, .svcWallclock k true), (2, .svcLog k true), (3, .svcMailbox k true),
             (4, .svcRaise k true), (5, .svcHostNote k true)],
    s.serves k p.1 = true ∧
    (s.core k).gm = true) :=
  ⟨⟨0, (State.reset),
      by decide +kernel⟩,
   ⟨1, { State.reset with
        cores := [(1, { Core.fresh false with st := 0x0, state := CoreSt.calling })],
        ridge := { State.reset.ridge with clearing := false }, misc := { State.reset.misc with boot := BootPh.done } },
      _, .head _, by decide +kernel⟩,
   ⟨2, { State.reset with
        cores := [(2, { Core.fresh false with state := CoreSt.calling })],
        ridge := { State.reset.ridge with clearing := false }, misc := { State.reset.misc with boot := BootPh.done } },
      _, .head _, by decide +kernel⟩⟩

/-- The premises of CorePorts, clause by clause. -/
theorem witness_CorePorts :
    (∃ (k : Fin 65) (i : Nat) (s : State),
    let g := if k = 64 then 0 else k.val + 1
    s.coreRuns k = true ∧
    s.best g = some i ∧
    i < 512) ∧
    (∃ (k : Fin 65) (s : State),
    let g := if k = 64 then 0 else k.val + 1
    s.coreRuns k = true ∧
    s.best g = none) ∧
    (∃ (k : Fin 65) (hi : Byte) (s : State),
    let c := s.core k
    let g := if k = 64 then 0 else k.val + 1
    let e := 256 * (hi.toNat % 2) + c.eoiLo.toNat
    s.coreRuns k = true ∧
    (s.src e).act = some g) ∧
    (∃ (k : Fin 65) (hi : Byte) (s : State),
    let c := s.core k
    let g := if k = 64 then 0 else k.val + 1
    let e := 256 * (hi.toNat % 2) + c.eoiLo.toNat
    s.coreRuns k = true ∧
    (s.src e).act ≠ some g) ∧
    (∃ (s : State),
    s.coreRuns 64 = true ∧
    s.kept = true ∧
    s.ridge.kcq ≠ []) ∧
    (∃ (s : State),
    s.coreRuns 64 = true ∧
    s.kept = true ∧
    s.ridge.kcq = []) ∧
    (∃ (off : Nat) (s : State),
    s.coreRuns 64 = true ∧
    s.kept = true ∧
    s.ridge.sa = 0x100000000 + off ∧
    off < 0x2000000 ∧
    s.storeOn off 1 = true ∧
    off ∉ s.storeBad ∧
    s.storeClearing = false) ∧
    (∃ (s : State),
    s.coreRuns 64 = true ∧
    s.kept = false ∧
    (s.core 64).gm = false) ∧
    (∃ (n : Fin 64) (s : State),
    bit (s.reg (.shgRun (n / 32))) (n % 32) = true) ∧
    (∃ (n : Fin 64) (s : State),
    bit (s.reg (.shgRun (n / 32))) (n % 32) = false ∧
    s.shingleOn n = true ∧
    s.clearing (40 + n / 16) = false ∧
    s.readable n 0 ∧
    s.readable n 1) ∧
    (∃ (s : State),
    s.ridge.stopped = false ∧
    (∀ j : Nat, j < 64 → (s.core j).state = .calling → s.readable j ((s.core j).vb + 12).toNat ∧ s.readable j ((s.core j).vb + 13).toNat)) ∧
    (∃ (s : State),
    s.ridge.stopped = true) :=
  ⟨⟨0, 129, { State.reset with
        cores := [(0, { Core.fresh false with state := CoreSt.run })],
        srcs := [(129, { Src.reset with pend := true, prio := 1, tgt := 1 })], doms := domsOn [40] },
      by decide +kernel⟩,
   ⟨1, { State.reset with cores := [(1, { Core.fresh false with state := CoreSt.run })], doms := domsOn [40] },
      by decide +kernel⟩,
   ⟨64, 0x0, { State.reset with
        cores := [(64, { Core.fresh false with state := CoreSt.run })],
        ridge := { State.reset.ridge with clearing := false }, srcs := [(0, { Src.reset with act := (some 0) })] },
      by decide +kernel⟩,
   ⟨1, 0x0, { State.reset with cores := [(1, { Core.fresh false with state := CoreSt.run })], doms := domsOn [40] },
      by decide +kernel⟩,
   ⟨{ State.reset with
        cores := [(64, { Core.fresh false with st := 0x40, state := CoreSt.run })],
        ridge := { State.reset.ridge with clearing := false, kcq := [0] } },
      by decide +kernel⟩,
   ⟨{ State.reset with
        cores := [(64, { Core.fresh false with st := 0x40, state := CoreSt.run })],
        ridge := { State.reset.ridge with clearing := false } },
      by decide +kernel⟩,
   ⟨3, { State.reset with
        cores := [(64, { Core.fresh false with st := 0x40, state := CoreSt.run })],
        ridge := { State.reset.ridge with clearing := false, sa := 4294967299 }, doms := domsOn [32],
        misc := { State.reset.misc with clearing := [] } },
      by decide +kernel⟩,
   ⟨{ State.reset with
        cores := [(64, { Core.fresh false with st := 0x0, state := CoreSt.run })],
        ridge := { State.reset.ridge with clearing := false } },
      by decide +kernel⟩,
   ⟨0, { State.reset with regs := [(34304, 0x1)] },
      by decide +kernel⟩,
   ⟨0, { State.reset with doms := domsOn [40] },
      by decide +kernel, by decide +kernel, by decide +kernel, ⟨by decide +kernel, by decide +kernel⟩, ⟨by decide +kernel, by decide +kernel⟩⟩,
   ⟨(State.reset),
      by decide +kernel, fun j hj h => absurd h ((by decide +kernel : ∀ j : Nat, j < 64 → (State.reset.core j).state ≠ .calling) j hj)⟩,
   ⟨{ State.reset with ridge := { State.reset.ridge with stopped := true } },
      by decide +kernel⟩⟩

/-- The premises of EventSources, clause by clause. -/
theorem witness_EventSources :
    (∃ (i : Fin 512),
    edgeSource i = false) ∧
    (∃ (i : Fin 512) (s : State),
    let x := s.src i
    edgeSource i = true ∧
    (s.targetOff x.tgt = false ∨ x.undel = true ∨ x.pend = true)) ∧
    (∃ (i : Fin 512) (s : State),
    let x := s.src i
    edgeSource i = true ∧
    s.targetOff x.tgt = true ∧
    x.undel = false ∧
    x.pend = false ∧
    i ≠ 491) ∧
    (∃ (i : Fin 512) (w : W32) (s : State),
    let x := s.src i
    i ≠ 491 ∧
    (x.pend = false ∨ x.tgt = fld w 7 0 ∨ s.targetOff (fld w 7 0) = false)) ∧
    (∃ (i : Fin 512) (w : W32) (s : State),
    let x := s.src i
    i ≠ 491 ∧
    x.pend = true ∧
    x.tgt ≠ fld w 7 0 ∧
    s.targetOff (fld w 7 0) = true) ∧
    (∃ (i : Fin 512) (s : State),
    let x := s.src i
    i = 491 ∧
    x.tgt = 0) ∧
    (∃ (i : Fin 512) (v : Fin 64) (s : State),
    s.best (65 + v) = some i.val) ∧
    (∃ (v : Fin 64) (s : State),
    s.best (65 + v) = none) ∧
    (∃ (i : Fin 512) (v : Fin 64) (s : State),
    let x := s.src i
    s.hostHears = true ∧
    s.pcie.d3 = false ∧
    x.act = some (65 + v.val)) ∧
    (∃ (i : Fin 512) (v : Fin 64) (s : State),
    let x := s.src i
    s.hostHears = true ∧
    s.pcie.d3 = false ∧
    x.act ≠ some (65 + v.val)) :=
  ⟨⟨360,
      by decide +kernel⟩,
   ⟨0, (State.reset),
      by decide +kernel⟩,
   ⟨3, { State.reset with srcs := [(3, { Src.reset with tgt := 1 })] },
      by decide +kernel⟩,
   ⟨0, 0x0, (State.reset),
      by decide +kernel⟩,
   ⟨0, 0x1, { State.reset with srcs := [(0, { Src.reset with pend := true })] },
      by decide +kernel⟩,
   ⟨491, (State.reset),
      by decide +kernel⟩,
   ⟨360, 2, { State.reset with
        srcs := [(360, { Src.reset with pend := true, prio := 1, tgt := 67 })], doms := domsOn [47] },
      by decide +kernel⟩,
   ⟨0, (State.reset),
      by decide +kernel⟩,
   ⟨360, 2, { State.reset with srcs := [(360, { Src.reset with act := (some 67) })] },
      by decide +kernel⟩,
   ⟨0, 0, (State.reset),
      by decide +kernel⟩⟩

/-- The premises of BestSource, clause by clause. -/
theorem witness_BestSource :
    (∃ (g : Nat) (i : Nat) (j : Nat) (s : State),
    g ≤ 128 ∧
    let on (t : Nat) : Bool := if t = 0 then s.isOn 48 else if t ≤ 64 then s.isOn (40 + (t - 1) / 16) else s.isOn 47
    let deliverable (t n : Nat) : Bool := (s.src n).pend && (s.src n).act.isNone && decide ((s.src n).tgt = t) &&
      decide (((s.stack t).headD (0, 0)).1 < (s.src n).prio) && on t
    s.best g = some i ∧
    deliverable g j = true) ∧
    (∃ (g : Nat) (s : State),
    g ≤ 128 ∧
    s.best g = none) ∧
    (∃ (g : Nat) (i : Nat) (s : State),
    g ≤ 128 ∧
    ((s.src i).prio = 0 ∨ 129 ≤ (s.src i).tgt)) :=
  ⟨⟨1, 1, 1, { State.reset with srcs := [(1, { Src.reset with pend := true, prio := 1, tgt := 1 })], doms := domsOn [40] },
      by decide +kernel⟩,
   ⟨0, (State.reset),
      by decide +kernel⟩,
   ⟨0, 0, (State.reset),
      by decide +kernel⟩⟩

/-- The premises of DmaChannels, clause by clause. -/
theorem witness_DmaChannels :
    (∃ (n : Fin 16) (m : Byte) (s : State),
    let d := s.dma n
    (masterId m.toNat = false ∨ d.busy = true ∨ bit (s.reg .dmaErrInfo) 31 = true)) ∧
    (∃ (n : Fin 16) (m : Byte) (s : State),
    let d := s.dma n
    masterId m.toNat = true ∧
    d.busy = false ∧
    bit (s.reg .dmaErrInfo) 31 = false ∧
    d.cnt ≠ 0) ∧
    (∃ (n : Fin 16) (m : Byte) (s : State),
    let d := s.dma n
    masterId m.toNat = true ∧
    d.busy = false ∧
    bit (s.reg .dmaErrInfo) 31 = false ∧
    d.cnt = 0) ∧
    (∃ (n : Fin 16) (s : State),
    let d := s.dma n
    d.busy = true) ∧
    (∃ (n : Fin 16) (s : State),
    let d := s.dma n
    let a := d.src - 0x100000000
    let b := d.dst - 0x100000000
    let ready := d.busy = true ∧ d.srcFix = false ∧ d.dstFix = false ∧ 0x100000000 ≤ d.src ∧ 0x100000000 ≤ d.dst ∧
      0 < d.cnt ∧ a % 512 + d.cnt ≤ 512 ∧ b % 512 + d.cnt ≤ 512 ∧ a + d.cnt ≤ 0x2000000 ∧ b + d.cnt ≤ 0x2000000 ∧
      s.regionOk d.master d.src d.cnt false = true ∧ s.regionOk d.master d.dst d.cnt true = true ∧
      (∀ g : Nat, g < 8 → s.isOn (32 + g) = true) ∧ (∀ i : Nat, i < 16 → i ≠ n → (s.dma i).busy = false)
    ready ∧
    (∀ i : Nat, i < d.cnt → a + i ∉ s.storeBad)) ∧
    (∃ (n : Fin 16) (s : State),
    let d := s.dma n
    let a := d.src - 0x100000000
    let b := d.dst - 0x100000000
    let e := s.storeBad.headD 0
    let ready := d.busy = true ∧ d.srcFix = false ∧ d.dstFix = false ∧ 0x100000000 ≤ d.src ∧ 0x100000000 ≤ d.dst ∧
      0 < d.cnt ∧ a % 512 + d.cnt ≤ 512 ∧ b % 512 + d.cnt ≤ 512 ∧ a + d.cnt ≤ 0x2000000 ∧ b + d.cnt ≤ 0x2000000 ∧
      s.regionOk d.master d.src d.cnt false = true ∧ s.regionOk d.master d.dst d.cnt true = true ∧
      (∀ g : Nat, g < 8 → s.isOn (32 + g) = true) ∧ (∀ i : Nat, i < 16 → i ≠ n → (s.dma i).busy = false)
    ready ∧
    s.storeBad = [e] ∧
    a ≤ e ∧
    e < a + d.cnt) :=
  ⟨⟨0, 0x0, { State.reset with dmas := [(0, { Dma.reset with busy := true })] },
      by decide +kernel⟩,
   ⟨0, 0x0, { State.reset with dmas := [(0, { Dma.reset with cnt := 1 })] },
      by decide +kernel⟩,
   ⟨0, 0x0, (State.reset),
      by decide +kernel⟩,
   ⟨0, { State.reset with dmas := [(0, { Dma.reset with busy := true })] },
      by decide +kernel⟩,
   ⟨1, { State.reset with
        dmas := [(1, { Dma.reset with src := 4294967296, dst := 4294967296, cnt := 1, busy := true })],
        doms := domsOn [32, 33, 34, 35, 36, 37, 38, 39] },
      by decide +kernel⟩,
   ⟨1, { State.reset with
        storeBad := [0], dmas := [(1, { Dma.reset with src := 4294967296, dst := 4294967296, cnt := 1, busy := true })],
        doms := domsOn [32, 33, 34, 35, 36, 37, 38, 39] },
      by decide +kernel⟩⟩

/-- The premises of StoreWindows, clause by clause. -/
theorem witness_StoreWindows :
    (∃ (m : Byte),
    masterId m.toNat = false) ∧
    (∃ (m : Byte) (off : Nat) (len : Nat) (s : State),
    m.toNat ≤ 8 ∧
    1 ≤ len ∧
    off % 8 + len ≤ 8 ∧
    off < 0x2000000 ∧
    s.isOn (32 + off / 4096 % 8) = true ∧
    s.storeBad = []) ∧
    (∃ (m : Byte) (off : Nat) (len : Nat) (s : State),
    let w := off / 8 * 8
    m.toNat ≤ 8 ∧
    1 ≤ len ∧
    off % 8 + len ≤ 8 ∧
    off < 0x2000000 ∧
    s.isOn (32 + off / 4096 % 8) = true ∧
    s.storeBad = [w]) ∧
    (∃ (off : Nat) (len : Nat),
    (len = 0 ∨ 4096 < len ∨ 0x2000000 < off + len)) ∧
    (∃ (off : Nat) (len : Nat) (s : State),
    1 ≤ len ∧
    len ≤ 4096 ∧
    off + len ≤ 0x2000000 ∧
    s.hostHears = true ∧
    s.pcie.d3 = true) ∧
    (∃ (off : Nat) (len : Nat) (s : State),
    1 ≤ len ∧
    len ≤ 4096 ∧
    off + len ≤ 0x2000000 ∧
    s.hostHears = true ∧
    s.pcie.d3 = false ∧
    s.misc.mode ≠ 3 ∧
    s.storeClearing = true) ∧
    (∃ (off : Nat) (len : Nat) (s : State),
    1 ≤ len ∧
    len ≤ 4096 ∧
    off + len ≤ 0x2000000 ∧
    s.hostHears = true ∧
    s.pcie.d3 = false ∧
    s.misc.mode ≠ 3 ∧
    s.storeClearing = false ∧
    (∀ g : Nat, g < 8 → s.isOn (32 + g) = true) ∧
    s.storeBad = []) ∧
    (∃ (off : Nat) (len : Nat) (s : State),
    let e := s.storeBad.headD 0
    1 ≤ len ∧
    len ≤ 4096 ∧
    off + len ≤ 0x2000000 ∧
    s.hostHears = true ∧
    s.pcie.d3 = false ∧
    s.misc.mode ≠ 3 ∧
    s.storeClearing = false ∧
    (∀ g : Nat, g < 8 → s.isOn (32 + g) = true) ∧
    s.storeBad = [e] ∧
    off ≤ e ∧
    e < off + len) ∧
    (∃ (off : Nat) (len : Nat) (b : List Byte) (s : State),
    1 ≤ len ∧
    len ≤ 4096 ∧
    off + len ≤ 0x2000000 ∧
    s.hostHears = true ∧
    s.pcie.d3 = false ∧
    s.misc.mode ≠ 3 ∧
    s.storeClearing = false ∧
    (∀ g : Nat, g < 8 → s.isOn (32 + g) = true) ∧
    b.length = len) ∧
    (∃ (off : Nat) (len : Nat) (s : State),
    1 ≤ len ∧
    len ≤ 4096 ∧
    off + len ≤ 0x2000000 ∧
    s.hostHears = true ∧
    s.pcie.d3 = false ∧
    s.misc.mode ≠ 3 ∧
    s.storeClearing = false ∧
    s.powered (32 + off / 4096 % 8) = false) :=
  ⟨⟨0x80,
      by decide +kernel⟩,
   ⟨0x0, 0, 1, { State.reset with doms := domsOn [32] },
      by decide +kernel⟩,
   ⟨0x0, 8, 1, { State.reset with storeBad := [8], doms := domsOn [32] },
      by decide +kernel⟩,
   ⟨0, 0,
      by decide +kernel⟩,
   ⟨0, 1, { State.reset with pcie := { State.reset.pcie with d3 := true } },
      by decide +kernel⟩,
   ⟨0, 1, (State.reset),
      by decide +kernel⟩,
   ⟨0, 1, { State.reset with
        doms := domsOn [32, 33, 34, 35, 36, 37, 38, 39], misc := { State.reset.misc with clearing := [] } },
      by decide +kernel⟩,
   ⟨0, 1, { State.reset with
        storeBad := [0], doms := domsOn [32, 33, 34, 35, 36, 37, 38, 39], misc := { State.reset.misc with clearing := [] } },
      by decide +kernel⟩,
   ⟨0, 5, [0x0, 0x0, 0x0, 0x0, 0x0], { State.reset with
        doms := domsOn [32, 33, 34, 35, 36, 37, 38, 39], misc := { State.reset.misc with clearing := [] } },
      by decide +kernel⟩,
   ⟨0, 1, { State.reset with misc := { State.reset.misc with clearing := [] } },
      by decide +kernel⟩⟩

/-- The premises of RegisterWrites, clause by clause. -/
theorem witness_RegisterWrites :
    (∃ (off : Nat) (s : State),
    let live := s.hostHears = true ∧ s.pcie.d3 = false
    live ∧
    decodeReg (off / 4 * 4) = none) ∧
    (∃ (off : Nat) (n : Fin 5) (m : Fin 4) (q : Fin 64) (s : State),
    let live := s.hostHears = true ∧ s.pcie.d3 = false
    live ∧
    ∃ r ∈ [Reg.calScratch n, .xlatHi q, .xlatLo q, .shgNx q, .allocLow m],
    r.off = off) ∧
    (∃ (off : Nat) (q : Fin 64) (be : BitVec 4) (s : State),
    let live := s.hostHears = true ∧ s.pcie.d3 = false
    live ∧
    off = Reg.off (.hostEoi q) ∧
    be.extractLsb' 0 2 = 0) ∧
    (∃ (s : State),
    s.hostHears = false) ∧
    (∃ (s : State),
    s.hostHears = true ∧
    s.pcie.d3 = true) ∧
    (∃ (q : Fin 64) (s : State),
    let x := s.sq q
    let live := s.hostHears = true ∧ s.pcie.d3 = false
    live ∧
    (x.run = true ∨ x.seg.isSome = true)) ∧
    (∃ (q : Fin 64) (s : State),
    let x := s.sq q
    let live := s.hostHears = true ∧ s.pcie.d3 = false
    live ∧
    x.run = false ∧
    x.seg = none) ∧
    (∃ (q : Fin 64) (v : W32) (s : State),
    let c (k : Nat) := s.cq k
    let live := s.hostHears = true ∧ s.pcie.d3 = false
    live ∧
    ∃ p ∈ [(Instr.cqCfg (some q) v, q.val), (.cqCfg none v, 64)],
    (c p.2).held = []) ∧
    (∃ (s : State),
    let noneLost := s.tasks.all (fun e => !e.2.homeLost)
    let live := s.hostHears = true ∧ s.pcie.d3 = false
    live ∧
    noneLost = true ∧
    (∀ d : Nat, d < 32 → s.homedOn d = [])) :=
  ⟨⟨12, (State.reset),
      by decide +kernel⟩,
   ⟨(Reg.calScratch 0).off, 0, 0, 0, State.reset,
      by decide +kernel, _, .head _, by decide +kernel⟩,
   ⟨8196, 0, 0x0, (State.reset),
      by decide +kernel⟩,
   ⟨{ State.reset with misc := { State.reset.misc with jtag := 0x0 } },
      by decide +kernel⟩,
   ⟨{ State.reset with pcie := { State.reset.pcie with d3 := true } },
      by decide +kernel⟩,
   ⟨0, { State.reset with sqs := [(0, { Sq.reset with run := true })] },
      by decide +kernel⟩,
   ⟨0, (State.reset),
      by decide +kernel⟩,
   ⟨0, 0x0, (State.reset),
      by decide +kernel, _, .head _, by decide +kernel⟩,
   ⟨(State.reset),
      by decide +kernel⟩⟩

/-- The premises of DoorbellsAndLinkStates, clause by clause. -/
theorem witness_DoorbellsAndLinkStates :
    (∃ (s : State),
    s.hostHears = true ∧
    s.pcie.d3 = false ∧
    bit (s.reg .qeStatus) 0 = false) ∧
    (∃ (q : Fin 64) (v : W32) (s : State),
    let n := fld v 11 0
    let size (k : Nat) := Nat.min k 4096
    let x := s.sq q
    let live := s.hostHears = true ∧ s.pcie.d3 = false ∧ bit (s.reg .qeStatus) 0 = true
    live ∧
    n < size x.size) ∧
    (∃ (q : Fin 64) (v : W32) (s : State),
    let n := fld v 11 0
    let size (k : Nat) := Nat.min k 4096
    let x := s.sq q
    let live := s.hostHears = true ∧ s.pcie.d3 = false ∧ bit (s.reg .qeStatus) 0 = true
    live ∧
    size x.size ≤ n) ∧
    (∃ (q : Fin 64) (v : W32) (s : State),
    let n := fld v 11 0
    let size (k : Nat) := Nat.min k 4096
    let live := s.hostHears = true ∧ s.pcie.d3 = false ∧ bit (s.reg .qeStatus) 0 = true
    let inRange (c : Cq) : Bool :=
      let z := size c.size
      decide (n < z) && decide ((n + z - c.head % z) % z ≤ (c.tail + z - c.head % z) % z)
    live ∧
    (s.cq q).held = [] ∧
    inRange (s.cq q) = true) ∧
    (∃ (q : Fin 64) (v : W32) (s : State),
    let n := fld v 11 0
    let size (k : Nat) := Nat.min k 4096
    let live := s.hostHears = true ∧ s.pcie.d3 = false ∧ bit (s.reg .qeStatus) 0 = true
    let inRange (c : Cq) : Bool :=
      let z := size c.size
      decide (n < z) && decide ((n + z - c.head % z) % z ≤ (c.tail + z - c.head % z) % z)
    live ∧
    inRange (s.cq q) = false) ∧
    (∃ (v : W32) (s : State),
    let n := fld v 11 0
    let size (k : Nat) := Nat.min k 4096
    let live := s.hostHears = true ∧ s.pcie.d3 = false ∧ bit (s.reg .qeStatus) 0 = true
    let inRange (c : Cq) : Bool :=
      let z := size c.size
      decide (n < z) && decide ((n + z - c.head % z) % z ≤ (c.tail + z - c.head % z) % z)
    live ∧
    (s.cq 64).held = [] ∧
    inRange (s.cq 64) = true) ∧
    (∃ (v : W32) (s : State),
    let n := fld v 11 0
    let size (k : Nat) := Nat.min k 4096
    let live := s.hostHears = true ∧ s.pcie.d3 = false ∧ bit (s.reg .qeStatus) 0 = true
    let inRange (c : Cq) : Bool :=
      let z := size c.size
      decide (n < z) && decide ((n + z - c.head % z) % z ≤ (c.tail + z - c.head % z) % z)
    live ∧
    inRange (s.cq 64) = false) ∧
    (∃ (s : State),
    s.pcie.pba = []) ∧
    (∃ (s : State),
    let quiet := s.engine.heldC = [] ∧ s.engine.heldE = [] ∧ s.pcie.pba = [] ∧ (∀ k : Nat, k < 65 → (s.cq k).held = [])
    quiet) ∧
    (∃ (s : State),
    s.hostHears = false) ∧
    (∃ (q : Fin 64) (s : State),
    let c := s.cq q
    c.timerOn = false) ∧
    (∃ (q : Fin 64) (s : State),
    let c := s.cq q
    c.timerOn = true ∧
    c.ien = false) ∧
    (∃ (q : Fin 64) (vec : Option (Fin 64)) (s : State),
    let c := s.cq q
    c.timerOn = true ∧
    c.ien = true ∧
    s.pcie.msix = true ∧
    s.qeHeld = false ∧
    s.pcie.fmask = false ∧
    s.vecMasked c.vec = false ∧
    c.vec ∉ s.pcie.pba) :=
  ⟨⟨(State.reset),
      by decide +kernel⟩,
   ⟨0, 0x0, { State.reset with regs := [(4096, 0x1)], sqs := [(0, { Sq.reset with size := 1 })] },
      by decide +kernel⟩,
   ⟨0, 0x0, { State.reset with regs := [(4096, 0x1)] },
      by decide +kernel⟩,
   ⟨0, 0x0, { State.reset with regs := [(4096, 0x1)], cqs := [(0, { Cq.reset with size := 1 })] },
      by decide +kernel⟩,
   ⟨0, 0x0, { State.reset with regs := [(4096, 0x1)] },
      by decide +kernel⟩,
   ⟨0x0, { State.reset with regs := [(4096, 0x1)], cqs := [(64, { Cq.reset with size := 1 })] },
      by decide +kernel⟩,
   ⟨0x0, { State.reset with regs := [(4096, 0x1)] },
      by decide +kernel⟩,
   ⟨(State.reset),
      by decide +kernel⟩,
   ⟨(State.reset),
      by decide +kernel⟩,
   ⟨{ State.reset with misc := { State.reset.misc with jtag := 0x0 } },
      by decide +kernel⟩,
   ⟨0, (State.reset),
      by decide +kernel⟩,
   ⟨0, { State.reset with cqs := [(0, { Cq.reset with timerOn := true })] },
      by decide +kernel⟩,
   ⟨0, none, { State.reset with
        regs := [(65548, 0x0)], cqs := [(0, { Cq.reset with ien := true, timerOn := true })],
        pcie := { State.reset.pcie with bme := true, up := true, msix := true } },
      by decide +kernel⟩⟩

/-- The premises of QueueEngine, clause by clause. -/
theorem witness_QueueEngine :
    (∃ (s : State),
    (bit (s.reg .qeStatus) 0 = false ∨ s.qeHeld = true)) ∧
    (∃ (q : Fin 64) (s : State),
    let x := s.sq q
    let c := s.cq x.cq
    let active := bit (s.reg .qeStatus) 0 = true ∧ s.qeHeld = false ∧ (∀ k : Nat, k < 64 → k ≠ q → s.sqReady k = false)
    active ∧
    x.rd = none ∧
    x.cmd = none ∧
    c.en = true ∧
    0 < c.room ∧
    c.held = [] ∧
    x.seg = none ∧
    x.run = true ∧
    x.resume = false ∧
    x.head ≠ x.tail) ∧
    (∃ (q : Fin 64) (link : Nat) (s : State),
    let x := s.sq q
    let c := s.cq x.cq
    let active := bit (s.reg .qeStatus) 0 = true ∧ s.qeHeld = false ∧ (∀ k : Nat, k < 64 → k ≠ q → s.sqReady k = false)
    active ∧
    x.rd = none ∧
    x.cmd = none ∧
    c.en = true ∧
    0 < c.room ∧
    c.held = [] ∧
    x.seg.isSome = true ∧
    x.nextAt = some link) ∧
    (∃ (q : Fin 64) (link : Nat) (cid : Nat) (s : State),
    let x := s.sq q
    let c := s.cq x.cq
    let active := bit (s.reg .qeStatus) 0 = true ∧ s.qeHeld = false ∧ (∀ k : Nat, k < 64 → k ≠ q → s.sqReady k = false)
    active ∧
    x.rd = none ∧
    x.cmd = none ∧
    c.en = true ∧
    0 < c.room ∧
    c.held = [] ∧
    x.seg = none ∧
    x.run = true ∧
    x.resume = true ∧
    x.point = some (link, cid)) ∧
    (∃ (q : Fin 64) (bs : List Byte) (s : State),
    let x := s.sq q
    let d := Desc.parse (x.base.toNat + 32 * x.head) bs
    x.rd = some .ring ∧
    x.seg = some ⟨true, false, 0xFFFF, 0⟩ ∧
    x.cmd = none ∧
    bs.length = 32 ∧
    0 < d.op ∧
    d.op < 0x1D ∧
    d.fieldsOk = true) ∧
    (∃ (q : Fin 64) (bs : List Byte) (s : State),
    let x := s.sq q
    let c := s.cq x.cq
    let d := Desc.parse (x.base.toNat + 32 * x.head) bs
    let room := c.en = true ∧ 0 < c.room ∧ c.held = [] ∧ c.ien = false ∧ s.qeHeld = false
    x.rd = some .ring ∧
    x.seg = some ⟨true, false, 0xFFFF, 0⟩ ∧
    x.cmd = none ∧
    bs.length = 32 ∧
    (d.op = 0 ∨ 0x1D ≤ d.op ∨ d.fieldsOk = false) ∧
    room) ∧
    (∃ (q : Fin 64) (bs : List Byte) (s : State),
    let x := s.sq q
    let d := Desc.parse (x.base.toNat + 32 * x.head) bs
    let m := x.cmd.getD ⟨d, [], .ready⟩
    x.rd = some .args ∧
    x.cmd.isSome = true ∧
    bs.length = Nat.min s.readMax (s.argLen m.d - m.args.length) ∧
    s.argLen m.d ≤ m.args.length + bs.length) ∧
    (∃ (q : Fin 64) (bs : List Byte) (s : State),
    let x := s.sq q
    let d := Desc.parse (x.base.toNat + 32 * x.head) bs
    let m := x.cmd.getD ⟨d, [], .ready⟩
    x.rd = some .args ∧
    x.cmd.isSome = true ∧
    bs.length = Nat.min s.readMax (s.argLen m.d - m.args.length) ∧
    m.args.length + bs.length < s.argLen m.d ∧
    s.qeHeld = false) ∧
    (∃ (q : Fin 64) (bs : List Byte) (link : Nat) (s : State),
    let x := s.sq q
    x.rd = some .link ∧
    bs.length = 8) :=
  ⟨⟨(State.reset),
      by decide +kernel⟩,
   ⟨0, { State.reset with
        regs := [(4096, 0x1)], sqs := [(0, { Sq.reset with run := true, cq := 1, tail := 1 })],
        cqs := [(1, { Cq.reset with en := true, size := 2 })], pcie := { State.reset.pcie with bme := true, up := true } },
      by decide +kernel⟩,
   ⟨0, 64, { State.reset with
        regs := [(4096, 0x1)], sqs := [(0, { Sq.reset with seg := (some ⟨false, false, 0, 0⟩), nextAt := (some 64) })],
        cqs := [(0, { Cq.reset with en := true, size := 2 })], pcie := { State.reset.pcie with bme := true, up := true } },
      by decide +kernel⟩,
   ⟨0, 0, 5, { State.reset with
        regs := [(4096, 0x1)], sqs := [(0, { Sq.reset with run := true, resume := true, point := (some (0, 5)) })],
        cqs := [(0, { Cq.reset with en := true, size := 2 })], pcie := { State.reset.pcie with bme := true, up := true } },
      by decide +kernel⟩,
   ⟨1, ([0x1] ++ List.replicate 31 0x0), { State.reset with
        sqs := [(1, { Sq.reset with seg := (some ⟨true, false, 65535, 0⟩), rd := (some Rd.ring) })] },
      by decide +kernel⟩,
   ⟨0, (List.replicate 32 0x0), { State.reset with
        sqs := [(0, { Sq.reset with cq := 1, seg := (some ⟨true, false, 65535, 0⟩), rd := (some Rd.ring) })],
        cqs := [(1, { Cq.reset with en := true, size := 2 })], pcie := { State.reset.pcie with bme := true, up := true } },
      by decide +kernel⟩,
   ⟨1, (List.replicate 28 0x0), { State.reset with
        sqs := [(1, { Sq.reset with rd := (some Rd.args), cmd := (some ⟨{ Desc.parse 0 [] with op := 10 }, [0x0, 0x0, 0x0, 0x0], CmdSt.ready⟩) })] },
      by decide +kernel⟩,
   ⟨0, (List.replicate 128 0x0), { State.reset with
        sqs := [(0, { Sq.reset with rd := (some Rd.args), cmd := (some ⟨{ Desc.parse 0 [] with op := 2 }, [], CmdSt.ready⟩) })],
        pcie := { State.reset.pcie with bme := true, up := true, mrrs := 0 } },
      by decide +kernel⟩,
   ⟨1, [0x0, 0x0, 0x0, 0x0, 0x0, 0x0, 0x0, 0x0], 0, { State.reset with sqs := [(1, { Sq.reset with rd := (some Rd.link) })] },
      by decide +kernel⟩⟩

/-- The premises of FirstBundle. -/
theorem witness_FirstBundle : ∃ (c : Fin 32) (j : Job) (tr : List (Nat × Nat)) (s : State),
  s.jobOn c = some j ∧
  j.cl = c ∧
  j.checked = false ∧
  (s.cluster c).phase = .staging ∧
  s.pagesReady j = true ∧
  s.takeFrames [c.val] (s.recOf j.t).transients [] = some tr ∧
  s.inputFail j = none ∧
  s.stateFail j = none :=
  ⟨0, { job0 with seq := 7, cyc := 1, nominal := 500000, deadline := 1000, pins := [(some 0), none, (some 300)], hdr := [0x5, 0x6, 0x1234], gen := 3, img := 4294967296, guaranteed := true, active := true }, [], { State.reset with
      clusters := [(0, { Cluster.reset with phase := Phase.staging, job := (some ⟨0, 7, false⟩) })],
      jobs := [{ job0 with seq := 7, cyc := 1, nominal := 500000, deadline := 1000, pins := [(some 0), none, (some 300)], hdr := [0x5, 0x6, 0x1234], gen := 3, img := 4294967296, guaranteed := true, active := true }] },
    by decide +kernel⟩

/-- The premises of StagingAndPaging, clause by clause. -/
theorem witness_StagingAndPaging :
    (∃ (c : Fin 32) (s : State),
    (s.freeCluster c = false ∨ s.servedBy c = [])) ∧
    (∃ (c : Fin 32) (j : Job) (s : State),
    let one := s.servedBy c = [j] ∧ j.deferred = false ∧ j.checked = false ∧ j.cl = c
    s.freeCluster c = true ∧
    one ∧
    s.pagesReady j = true) ∧
    (∃ (c : Fin 32) (j : Job) (s : State),
    let one := s.servedBy c = [j] ∧ j.deferred = false ∧ j.checked = false ∧ j.cl = c
    s.freeCluster c = true ∧
    one ∧
    s.pagesReady j = false ∧
    j.late = true) ∧
    (∃ (c : Fin 32) (j : Job) (s : State),
    let one := s.servedBy c = [j] ∧ j.deferred = false ∧ j.checked = false ∧ j.cl = c
    s.freeCluster c = true ∧
    one ∧
    s.pagesReady j = false ∧
    j.late = false) ∧
    (∃ (c : Fin 32) (s : State),
    s.nextFetch c = none) ∧
    (∃ (c : Fin 32) (g : Fetch) (s : State),
    let x := s.cluster c
    s.nextFetch c = some g ∧
    g.cs = [c.val] ∧
    x.fetch.isSome = true) ∧
    (∃ (c : Fin 32) (f : Nat) (g : Fetch) (s : State),
    let x := s.cluster c
    s.nextFetch c = some g ∧
    g.cs = [c.val] ∧
    x.fetch = none ∧
    s.holds c g.sp g.page = none ∧
    s.awaiting c g.page = none ∧
    s.pickFrame [c.val] g.sp [] = some f) ∧
    (∃ (c : Fin 32) (g : Fetch) (s : State),
    let x := s.cluster c
    s.nextFetch c = some g ∧
    g.cs = [c.val] ∧
    x.fetch = none ∧
    s.holds c g.sp g.page = none ∧
    s.awaiting c g.page = none ∧
    s.pickFrame [c.val] g.sp [] = none ∧
    g.job.isSome = true ∧
    g.job.all (fun i => !i.noFrame) = true) ∧
    (∃ (c : Fin 32) (a : Nat) (f : Nat) (s : State),
    let x := s.cluster c
    x.fetch = some (.image false (0x100000000 + a)) ∧
    (s.cluster (mate c)).fetch = none ∧
    a % 2048 = 0 ∧
    a < 0x2000000 ∧
    s.storeOn a 2048 = true ∧
    s.storeBad = [] ∧
    s.awaiting c (.image false (0x100000000 + a)) = some (0, f) ∧
    x.badIn 0 f = 0) ∧
    (∃ (c : Fin 32) (a : Nat) (f : Nat) (s : State),
    let x := s.cluster c
    x.fetch = some (.state a f) ∧
    (s.cluster (mate c)).fetch ≠ x.fetch ∧
    (s.pageFail (.state a f) true).isSome = true) ∧
    (∃ (c : Fin 32) (a : Nat) (s : State),
    let x := s.cluster c
    x.fetch = some (.image true a) ∧
    bit (s.reg (.xlatLo (a / 2 ^ 30 % 64))) 0 = true ∧
    x.again = false ∧
    s.fetchedFor c (.image true a) = [] ∧
    (s.cluster (mate c)).fetch ≠ x.fetch ∧
    s.awaiting c (.image true a) = none) :=
  ⟨⟨0, (State.reset),
      by decide +kernel⟩,
   ⟨0, { job0 with seq := 7, cyc := 1, nominal := 500000, deadline := 1000, img := 4294967296, guaranteed := true }, { State.reset with
        jobs := [{ job0 with seq := 7, cyc := 1, nominal := 500000, deadline := 1000, img := 4294967296, guaranteed := true }],
        doms := domsOn [0] },
      by decide +kernel⟩,
   ⟨1, { job0 with seq := 7, cyc := 1, nominal := 500000, deadline := 1000, img := 4294967296, cl := 1, guaranteed := true, late := true }, { State.reset with
        recs := [(24, 0x2000)],
        jobs := [{ job0 with seq := 7, cyc := 1, nominal := 500000, deadline := 1000, img := 4294967296, cl := 1, guaranteed := true, late := true }],
        doms := domsOn [1] },
      by decide +kernel⟩,
   ⟨0, { job0 with seq := 7, cyc := 1, nominal := 500000, deadline := 1000, img := 4294967296 }, { State.reset with
        recs := [(24, 0x2000)],
        jobs := [{ job0 with seq := 7, cyc := 1, nominal := 500000, deadline := 1000, img := 4294967296 }],
        doms := domsOn [0] },
      by decide +kernel⟩,
   ⟨0, (State.reset),
      by decide +kernel⟩,
   ⟨0, ⟨[0], 0, PageId.image false 4294967296, none⟩, { State.reset with
        clusters := [(0, { Cluster.reset with frames := [(0, ⟨(some (PageId.image false 4294967296)), false, false, 0⟩)], fetch := (some (PageId.image true 4294967296)) })] },
      by decide +kernel⟩,
   ⟨0, 0, ⟨[0], 0, PageId.image false 4294967296, (some { job0 with seq := 7, cyc := 1, nominal := 500000, deadline := 1000, img := 4294967296, guaranteed := true })⟩, { State.reset with
        recs := [(24, 0x2000)],
        jobs := [{ job0 with seq := 7, cyc := 1, nominal := 500000, deadline := 1000, img := 4294967296, guaranteed := true }] },
      by decide +kernel⟩,
   ⟨0, ⟨[0], 0, PageId.image false 4294967296, (some { job0 with seq := 7, cyc := 1, nominal := 500000, deadline := 1000, img := 4294967296, guaranteed := true })⟩, { State.reset with
        clusters := [(0, { Cluster.reset with frames := (List.range 64).map fun i => (i, ⟨some (.image false (4296015872 + 2048 * i)), true, false, 0⟩) })],
        recs := [(24, 0x2000)],
        jobs := [{ job0 with seq := 7, cyc := 1, nominal := 500000, deadline := 1000, img := 4294967296, guaranteed := true }],
        hostPins := [(0, 4296015872), (0, 4296017920), (0, 4296019968), (0, 4296022016), (0, 4296024064), (0, 4296026112), (0, 4296028160), (0, 4296030208), (0, 4296032256), (0, 4296034304), (0, 4296036352), (0, 4296038400), (0, 4296040448), (0, 4296042496), (0, 4296044544), (0, 4296046592), (0, 4296048640), (0, 4296050688), (0, 4296052736), (0, 4296054784), (0, 4296056832), (0, 4296058880), (0, 4296060928), (0, 4296062976), (0, 4296065024), (0, 4296067072), (0, 4296069120), (0, 4296071168), (0, 4296073216), (0, 4296075264), (0, 4296077312), (0, 4296079360), (0, 4296081408), (0, 4296083456), (0, 4296085504), (0, 4296087552), (0, 4296089600), (0, 4296091648), (0, 4296093696), (0, 4296095744), (0, 4296097792), (0, 4296099840), (0, 4296101888), (0, 4296103936), (0, 4296105984), (0, 4296108032), (0, 4296110080), (0, 4296112128), (0, 4296114176), (0, 4296116224), (0, 4296118272), (0, 4296120320), (0, 4296122368), (0, 4296124416), (0, 4296126464), (0, 4296128512), (0, 4296130560), (0, 4296132608), (0, 4296134656), (0, 4296136704), (0, 4296138752), (0, 4296140800), (0, 4296142848), (0, 4296144896)] },
      by decide +kernel⟩,
   ⟨1, 2048, 2, { State.reset with
        clusters := [(1, { Cluster.reset with frames := [(2, ⟨(some (PageId.image false 4294969344)), false, false, 0⟩)], fetch := (some (PageId.image false 4294969344)) })],
        doms := domsOn [32] },
      by decide +kernel⟩,
   ⟨0, 0, 0, { State.reset with
        clusters := [(0, { Cluster.reset with fetch := (some (PageId.state 0 0)) })], recs := [(4, 0x10000)] },
      by decide +kernel⟩,
   ⟨0, 2048, { State.reset with
        regs := [(53504, 0x1)], clusters := [(0, { Cluster.reset with fetch := (some (PageId.image true 2048)) })] },
      by decide +kernel⟩⟩

/-- The premises of InstanceLife, clause by clause. -/
theorem witness_InstanceLife :
    (∃ (tk : Fin 4096) (s : State),
    s.timeCycle tk = none) ∧
    (∃ (tk : Fin 4096) (n : Nat) (s : State),
    let r := s.recOf tk
    let mine := s.jobs.filter (fun i => decide (i.t = tk.val))
    s.timeRuns = true ∧
    s.timeCycle tk = some n ∧
    r.nIn = 0 ∧
    r.bestEffort = false ∧
    s.genNamed s.currentGen = none ∧
    mine = []) ∧
    (∃ (tk : Fin 4096) (n : Nat) (s : State),
    let r := s.recOf tk
    let mine := s.jobs.filter (fun i => decide (i.t = tk.val))
    s.timeRuns = true ∧
    s.timeCycle tk = some n ∧
    r.nIn = 0 ∧
    r.bestEffort = false ∧
    s.genNamed s.currentGen = none ∧
    mine.any (·.deferred) = true) ∧
    (∃ (tk : Fin 4096) (n : Nat) (s : State),
    let r := s.recOf tk
    let mine := s.jobs.filter (fun i => decide (i.t = tk.val))
    s.timeRuns = true ∧
    s.timeCycle tk = some n ∧
    r.nIn = 0 ∧
    r.bestEffort = false ∧
    s.genNamed s.currentGen = none ∧
    mine ≠ [] ∧
    mine.any (·.deferred) = false) ∧
    (∃ (tk : Fin 4096) (s : State),
    s.jobs.all (fun i => decide (i.t ≠ tk) || i.guaranteed || i.active) = true) ∧
    (∃ (tk : Fin 4096) (j : Job) (s : State),
    let quiet := s.jobs = [j] ∧ j.pins = [] ∧ j.newBufs = [] ∧ s.genNamed j.gen = none ∧ (s.task j.t).removing = [] ∧
      (∀ k : Nat, k < 64 → s.waits k 8 = false)
    quiet ∧
    j.t = tk ∧
    j.guaranteed = false ∧
    j.active = false) ∧
    (∃ (c : Fin 32) (j : Job) (s : State),
    let x := s.cluster c
    x.phase ≠ .ended ∧
    s.jobOn c = some j ∧
    j.checked = false ∧
    j.cl = c) ∧
    (∃ (c : Fin 32) (j : Job) (s : State),
    let q := s.recOf j.t
    let x := s.cluster c
    let quiet := s.jobs = [j] ∧ j.pins = [] ∧ j.newBufs = [] ∧ s.genNamed j.gen = none ∧ (s.task j.t).removing = [] ∧
      (∀ k : Nat, k < 64 → s.waits k 8 = false)
    quiet ∧
    s.jobOn c = some j ∧
    j.checked = false ∧
    j.cl = c ∧
    x.phase = .ended ∧
    q.nOut = 0 ∧
    q.stateWords = 0) ∧
    (∃ (c : Fin 32) (j : Job) (s : State),
    let q := s.recOf j.t
    let x := s.cluster c
    let quiet := s.jobs = [j] ∧ j.pins = [] ∧ j.newBufs = [] ∧ s.genNamed j.gen = none ∧ (s.task j.t).removing = [] ∧
      (∀ k : Nat, k < 64 → s.waits k 8 = false)
    quiet ∧
    s.jobOn c = some j ∧
    j.checked = false ∧
    j.cl = c ∧
    x.phase = .ended ∧
    q.nOut = 0 ∧
    0 < q.stateWords ∧
    x.bad = [] ∧
    let off := q.ckptAddr + (if q.ckpt then 0 else classSize q.ckptClass / 2)
    s.storeOn off (2 * (s.stateWordsAt j).length) = true) ∧
    (∃ (c : Fin 32) (j : Job) (s : State),
    let q := s.recOf j.t
    let x := s.cluster c
    let quiet := s.jobs = [j] ∧ j.pins = [] ∧ j.newBufs = [] ∧ s.genNamed j.gen = none ∧ (s.task j.t).removing = [] ∧
      (∀ k : Nat, k < 64 → s.waits k 8 = false)
    quiet ∧
    s.jobOn c = some j ∧
    j.checked = false ∧
    j.cl = c ∧
    x.phase = .committing ∧
    q.nOut = 0 ∧
    j.replay = false) ∧
    (∃ (c : Fin 32) (s : State),
    let x := s.cluster c
    x.phase ≠ .committing) :=
  ⟨⟨0, (State.reset),
      by decide +kernel⟩,
   ⟨1, 2, { State.reset with
        recs := [(64, 0x1000000), (120, 0x81a2efff)],
        lanes := [(0, { Lane.reset with hasRec := true, run := true, dt0 := 1000, cyc := (some 2) }), (1, { Lane.reset with hasRec := true, run := true, dt0 := 1000, cyc := (some 2) })] },
      by decide +kernel⟩,
   ⟨1, 2, { State.reset with
        recs := [(64, 0x1000000), (120, 0x80a2e000)],
        jobs := [{ job0 with t := 1, seq := 7, cyc := 1, nominal := 500000, deadline := 1000, img := 4294967296, guaranteed := true, deferred := true }],
        lanes := [(0, { Lane.reset with hasRec := true, run := true, dt0 := 1000, cyc := (some 2) }), (1, { Lane.reset with hasRec := true, run := true, dt0 := 1000, cyc := (some 1) })] },
      by decide +kernel⟩,
   ⟨0, 0, { State.reset with
        recs := [(0, 0x1000000), (56, 0x80000000)], jobs := [(job0)],
        lanes := [(0, { Lane.reset with run := true, dt0 := 1, cyc := (some 0) })] },
      by decide +kernel⟩,
   ⟨0, (State.reset),
      by decide +kernel⟩,
   ⟨0, { job0 with seq := 7, cyc := 1, nominal := 500000, deadline := 1000, img := 4294967296 }, { State.reset with
        jobs := [{ job0 with seq := 7, cyc := 1, nominal := 500000, deadline := 1000, img := 4294967296 }] },
      by decide +kernel⟩,
   ⟨0, { job0 with t := 1, seq := 7, cyc := 1, nominal := 500000, deadline := 1000, img := 4294967296, guaranteed := true, deferred := true }, { State.reset with
        clusters := [(0, { Cluster.reset with job := (some ⟨1, 7, false⟩) })],
        jobs := [{ job0 with t := 1, seq := 7, cyc := 1, nominal := 500000, deadline := 1000, img := 4294967296, guaranteed := true, deferred := true }] },
      by decide +kernel⟩,
   ⟨0, { job0 with seq := 7, cyc := 1, nominal := 500000, deadline := 1000, img := 4294967296, guaranteed := true }, { State.reset with
        clusters := [(0, { Cluster.reset with phase := Phase.ended, job := (some ⟨0, 7, false⟩) })],
        jobs := [{ job0 with seq := 7, cyc := 1, nominal := 500000, deadline := 1000, img := 4294967296, guaranteed := true }] },
      by decide +kernel⟩,
   ⟨0, { job0 with t := 1, seq := 7, cyc := 1, nominal := 500000, deadline := 1000, img := 4294967296, guaranteed := true, deferred := true }, { State.reset with
        clusters := [(0, { Cluster.reset with phase := Phase.ended, job := (some ⟨1, 7, false⟩) })],
        recs := [(68, 0x10000)],
        jobs := [{ job0 with t := 1, seq := 7, cyc := 1, nominal := 500000, deadline := 1000, img := 4294967296, guaranteed := true, deferred := true }],
        doms := domsOn [32] },
      by decide +kernel⟩,
   ⟨0, { job0 with seq := 7, cyc := 1, nominal := 500000, deadline := 1000, img := 4294967296, guaranteed := true, active := true }, { State.reset with
        clusters := [(0, { Cluster.reset with phase := Phase.committing, job := (some ⟨0, 7, false⟩) })],
        jobs := [{ job0 with seq := 7, cyc := 1, nominal := 500000, deadline := 1000, img := 4294967296, guaranteed := true, active := true }] },
      by decide +kernel⟩,
   ⟨0, (State.reset),
      by decide +kernel⟩⟩

/-- The premises of CheckedDisagrees. -/
theorem witness_CheckedDisagrees : ∃ (c : Fin 32) (j : Job) (s : State),
  let x := s.cluster c
  let y := s.cluster (c + 1)
  s.jobOn c = some j ∧
  s.jobs = [j] ∧
  j.checked = true ∧
  j.active = true ∧
  j.cl = c ∧
  c.val % 2 = 0 ∧
  x.phase = .ended ∧
  y.phase = .ended ∧
  s.policyOf j.t = 0 ∧
  j.pins = [] ∧
  j.newBufs = [] ∧
  s.genNamed j.gen = none ∧
  (s.task j.t).removing = [] ∧
  (∀ k : Nat, k < 64 → s.waits k 8 = false) ∧
  (x.cycle ≠ y.cycle ∨ x.sig ≠ y.sig) :=
  ⟨0, { job0 with seq := 7, cyc := 1, nominal := 500000, deadline := 1000, img := 4294967296, checked := true, guaranteed := true, active := true }, { State.reset with
      clusters := [(0, { Cluster.reset with phase := Phase.ended, job := (some ⟨0, 7, false⟩) }), (1, { Cluster.reset with phase := Phase.ended, sig := 0x0 })],
      jobs := [{ job0 with seq := 7, cyc := 1, nominal := 500000, deadline := 1000, img := 4294967296, checked := true, guaranteed := true, active := true }] },
    by decide +kernel⟩

/-- The premises of AllocatorAndScrubbers, clause by clause. -/
theorem witness_AllocatorAndScrubbers :
    (∃ (k : Fin 4) (s : State),
    let a := s.cls k
    let locked := s.anyRuns = true ∨ a.used ≠ []
    locked) ∧
    (∃ (k : Fin 4) (s : State),
    let a := s.cls k
    let locked := s.anyRuns = true ∨ a.used ≠ []
    ¬ locked) ∧
    (∃ (k : Fin 4) (s : State),
    let a := s.cls k
    a.building = false) ∧
    (∃ (k : Fin 4) (s : State),
    let a := s.cls k
    a.building = true ∧
    s.reg (.allocLow k) = 0 ∧
    s.poolBad k = false) ∧
    (∃ (k : Fin 4) (i : Fin 4) (s : State),
    let a := s.cls k
    let base := (s.reg (.allocBase k)).toNat
    let count := (s.reg (.allocCount k)).toNat
    let size := 256 * 4 ^ k.val
    a.building = true ∧
    s.reg (.allocLow k) = 0 ∧
    (0x2000000 < base + count * size ∨ (i ≠ k ∧ 0 < count ∧ 0 < (s.reg (.allocCount i)).toNat ∧ base < (s.reg (.allocBase i)).toNat + (s.reg (.allocCount i)).toNat * 256 * 4 ^ i.val ∧ (s.reg (.allocBase i)).toNat < base + count * size))) ∧
    (∃ (n : Fin 8) (s : State),
    let on := bit (s.reg (.scrubCtl n)) 31 = true
    ¬ on) ∧
    (∃ (s : State),
    bit (s.reg (.scrubCtl 4)) 31 = true ∧
    fld (s.reg (.scrubCtl 4)) 19 0 = 0 ∧
    let y := s.scr 4
    let at_ (b : Nat) : Nat := y.pos / 128 * 32768 + b * 4096 + y.pos % 128 * 32
    y.pos + 1 < 131072 ∧
    (∀ b : Nat, b < 8 → ∀ e ∈ s.storeBad, e < at_ b ∨ at_ b + 32 ≤ e)) ∧
    (∃ (s : State),
    bit (s.reg (.scrubCtl 4)) 31 = true ∧
    fld (s.reg (.scrubCtl 4)) 19 0 = 0 ∧
    let y := s.scr 4
    let at_ (b : Nat) : Nat := y.pos / 128 * 32768 + b * 4096 + y.pos % 128 * 32
    y.pos + 1 < 131072 ∧
    (∀ b : Nat, b < 8 → s.isOn (32 + b) = true) ∧
    let e := s.storeBad.headD 0
    s.storeBad = [e] ∧
    (∃ b ∈ List.range 8, at_ b ≤ e ∧ e < at_ b + 32)) ∧
    (∃ (s : State),
    bit (s.reg (.scrubCtl 7)) 31 = true ∧
    fld (s.reg (.scrubCtl 7)) 19 0 = 0 ∧
    let y := s.scr 7
    y.pos = 65535 ∧
    y.todo = [] ∧
    (s.core 64).progBad = [] ∧
    (s.core 64).dataBad = [] ∧
    (s.core 64).progLost = [] ∧
    (s.core 64).dataLost = []) ∧
    (∃ (n : Fin 8) (s : State),
    let z := s.scr n
    let on := bit (s.reg (.scrubCtl n)) 31 = true
    let lap : Int := (s.clk.dt : Int) - z.since
    on ∧
    z.slow = false ∧
    0 < fld (s.reg (.scrubCtl n)) 19 0 ∧
    (1000 * fld (s.reg (.scrubCtl n)) 19 0 : Int) < lap) :=
  ⟨⟨0, { State.reset with lanes := [(0, { Lane.reset with run := true })] },
      by decide +kernel⟩,
   ⟨0, (State.reset),
      by decide +kernel⟩,
   ⟨0, (State.reset),
      by decide +kernel⟩,
   ⟨0, { State.reset with alloc := [(0, { AllocClass.reset with building := true })] },
      by decide +kernel⟩,
   ⟨1, 0, { State.reset with
        regs := [(42016, 0x1fff401), (42020, 0x3)], alloc := [(1, { AllocClass.reset with building := true })] },
      by decide +kernel⟩,
   ⟨7, { State.reset with regs := [(33504, 0x0)] },
      by decide +kernel⟩,
   ⟨(State.reset),
      by decide +kernel⟩,
   ⟨{ State.reset with
        storeBad := [32], doms := domsOn [32, 33, 34, 35, 36, 37, 38, 39], scrubs := [(4, ⟨1, [], 0, false⟩)] },
      by decide +kernel⟩,
   ⟨{ State.reset with scrubs := [(7, ⟨65535, [], 0, false⟩)] },
      by decide +kernel⟩,
   ⟨7, { State.reset with regs := [(33504, 0x80000001)], clk := { State.reset.clk with dt := 1001 } },
      by decide +kernel⟩⟩

/-- The premises of GenerationBuilding, clause by clause. -/
theorem witness_GenerationBuilding :
    (∃ (s : State),
    let none_ (n : Nat) : Prop := ∀ d : Nat, d < 8 → (s.gen d).st ≠ n
    ¬ (none_ 1 ∧ none_ 2)) ∧
    (∃ (i : Fin 8) (s : State),
    let g := s.gen i
    let none_ (n : Nat) : Prop := ∀ d : Nat, d < 8 → (s.gen d).st ≠ n
    let first (n : Nat) : Prop := g.st = n ∧ ∀ d : Nat, d < i → (s.gen d).st ≠ n
    none_ 1 ∧
    none_ 2 ∧
    first 0) ∧
    (∃ (s : State),
    let none_ (n : Nat) : Prop := ∀ d : Nat, d < 8 → (s.gen d).st ≠ n
    none_ 0 ∧
    none_ 1 ∧
    none_ 2) ∧
    (∃ (i : Fin 8) (b : Nat) (s : State),
    let g := s.gen i
    let first (n : Nat) : Prop := g.st = n ∧ ∀ d : Nat, d < i → (s.gen d).st ≠ n
    first 1 ∧
    g.bufs = [b] ∧
    g.dir = [] ∧
    b ∉ s.otherBufs i) ∧
    (∃ (i : Fin 8) (s : State),
    let g := s.gen i
    let a := s.cls 3
    let first (n : Nat) : Prop := g.st = n ∧ ∀ d : Nat, d < i → (s.gen d).st ≠ n
    first 1 ∧
    a.resv = [] ∧
    a.freeL ≠ []) ∧
    (∃ (i : Fin 8) (s : State),
    let g := s.gen i
    let a := s.cls 3
    let first (n : Nat) : Prop := g.st = n ∧ ∀ d : Nat, d < i → (s.gen d).st ≠ n
    first 1 ∧
    a.resv = [] ∧
    a.freeL = []) ∧
    (∃ (v : W32),
    bit v 0 = true) ∧
    (∃ (v : W32),
    bit v 0 = false) :=
  ⟨⟨{ State.reset with gens := [(0, { Gen.reset with st := 1 })] },
      by decide +kernel⟩,
   ⟨0, (State.reset),
      by decide +kernel⟩,
   ⟨{ State.reset with
        gens := [(0, { Gen.reset with st := 3 }), (1, { Gen.reset with st := 3 }), (2, { Gen.reset with st := 3 }), (3, { Gen.reset with st := 3 }), (4, { Gen.reset with st := 3 }), (5, { Gen.reset with st := 3 }), (6, { Gen.reset with st := 3 }), (7, { Gen.reset with st := 3 })] },
      by decide +kernel⟩,
   ⟨1, 16384, { State.reset with gens := [(1, { Gen.reset with st := 1, bufs := [16384] })] },
      by decide +kernel⟩,
   ⟨0, { State.reset with
        alloc := [(3, { AllocClass.reset with freeL := [0] })], gens := [(0, { Gen.reset with st := 1 })] },
      by decide +kernel⟩,
   ⟨2, { State.reset with gens := [(2, { Gen.reset with st := 1 })] },
      by decide +kernel⟩,
   ⟨0x1,
      by decide +kernel⟩,
   ⟨0x0,
      by decide +kernel⟩⟩

/-- The premises of GenerationAdoption, clause by clause. -/
theorem witness_GenerationAdoption :
    (∃ (s : State),
    let none_ (n : Nat) : Prop := ∀ d : Nat, d < 8 → (s.gen d).st ≠ n
    none_ 2) ∧
    (∃ (s : State),
    let none_ (n : Nat) : Prop := ∀ d : Nat, d < 8 → (s.gen d).st ≠ n
    none_ 5) ∧
    (∃ (i : Fin 8) (s : State),
    let first (n : Nat) (e : Fin 8) : Prop := (s.gen e).st = n ∧ ∀ d : Nat, d < e → (s.gen d).st ≠ n
    first 2 i ∧
    fld (s.reg .genSubmit) 10 0 = 0) ∧
    (∃ (i : Fin 8) (s : State),
    let first (n : Nat) (e : Fin 8) : Prop := (s.gen e).st = n ∧ ∀ d : Nat, d < e → (s.gen d).st ≠ n
    first 2 i ∧
    s.verifyReason i = 0) ∧
    (∃ (i : Fin 8) (s : State),
    let g := s.gen i
    let first (n : Nat) (e : Fin 8) : Prop := (s.gen e).st = n ∧ ∀ d : Nat, d < e → (s.gen d).st ≠ n
    first 5 i ∧
    s.loadList g.num = [] ∧
    (∀ d : Nat, d < 8 → (s.gen d).retry = false)) :=
  ⟨⟨(State.reset),
      by decide +kernel⟩,
   ⟨(State.reset),
      by decide +kernel⟩,
   ⟨1, { State.reset with gens := [(1, { Gen.reset with st := 2 })] },
      by decide +kernel⟩,
   ⟨1, { State.reset with
        regs := [(45092, 0x1), (45096, 0x4000)], store := [(16385, 0x10), (16389, 0x40)],
        alloc := [(3, { AllocClass.reset with used := [(16384, Holder.gen 1)] })],
        gens := [(1, { Gen.reset with st := 2, bufs := [16384] })] },
      by decide +kernel⟩,
   ⟨2, { State.reset with gens := [(2, { Gen.reset with st := 5 })] },
      by decide +kernel⟩⟩

/-- The premises of FieldSends, clause by clause. -/
theorem witness_FieldSends :
    (∃ (s : State),
    s.timeRuns = false) ∧
    (∃ (l : Fin 16) (s : State),
    let d := s.lane l
    (d.run = false ∨ d.ofDone = true ∨ d.stopping = true)) ∧
    (∃ (l : Fin 16) (p : Fin 4096) (s : State),
    let d := s.lane l
    let solo := s.portA l = l ∧ s.isRing l = false
    let slot := s.pSlot p
    let len := s.pOutLen p
    solo ∧
    s.timeRuns = true ∧
    d.run = true ∧
    d.ofDone = false ∧
    d.stopping = false ∧
    s.bySlot l = [p.val] ∧
    0 < len ∧
    (s.partner p).st = 1 ∧
    (s.outSlot (512 * l + slot)).buf = none) ∧
    (∃ (l : Fin 16) (p : Fin 4096) (b : Nat) (s : State),
    let d := s.lane l
    let solo := s.portA l = l ∧ s.isRing l = false
    let slot := s.pSlot p
    let len := s.pOutLen p
    solo ∧
    s.timeRuns = true ∧
    d.run = true ∧
    d.ofDone = false ∧
    d.stopping = false ∧
    s.bySlot l = [p.val] ∧
    0 < len ∧
    (s.partner p).st = 1 ∧
    (s.outSlot (512 * l + slot)).buf = some b ∧
    s.storeOn b len = true ∧
    s.storeBad = []) ∧
    (∃ (l : Fin 16) (s : State),
    let d := s.lane l
    d.run = false ∧
    d.lastSet = false) ∧
    (∃ (l : Fin 16) (s : State),
    let d := s.lane l
    let solo := s.portA l = l ∧ s.isRing l = false
    solo ∧
    s.timeRuns = true ∧
    d.run = true ∧
    d.lastSet = false ∧
    d.ofDone = true ∧
    d.msgs = [] ∧
    d.starter = none ∧
    (∀ k : Nat, k < 64 → s.waits k 8 = false) ∧
    s.laneTx l = true ∧
    (d.outSet = [] ∨ 4 + ((d.outSet.map (·.body)).flatten).length ≤ s.frameMax l - 34 ∧ d.outSet.length = 1)) ∧
    (∃ (l : Fin 16) (s : State),
    let d := s.lane l
    (s.laneTx l = false ∨ (d.lateq = [] ∧ d.latePub = []))) ∧
    (∃ (l : Fin 16) (p : Fin 4096) (b : Nat) (q : Nat) (s : State),
    let d := s.lane l
    let solo := s.portA l = l ∧ s.isRing l = false
    let slot := s.pSlot p
    let len := s.pOutLen p
    solo ∧
    s.laneTx l = true ∧
    d.run = true ∧
    d.ofDone = false ∧
    d.cyc = some q ∧
    d.lateq = [] ∧
    d.latePub = [(slot, true)] ∧
    d.tx = [] ∧
    s.partnerAt l slot = some p.val ∧
    slot < 512 ∧
    len + 38 ≤ s.frameMax l ∧
    (s.outSlot (512 * l + slot)).buf = some b ∧
    s.storeOn b len = true ∧
    s.storeBad = []) ∧
    (∃ (l : Fin 16) (s : State),
    let d := s.lane l
    (d.cut = [] ∨ s.laneTx l = false)) ∧
    (∃ (l : Fin 16) (f : TxFrame) (s : State),
    let d := s.lane l
    let solo := s.portA l = l ∧ s.isRing l = false
    solo ∧
    s.laneTx l = true ∧
    d.lateq = [] ∧
    d.cut = [f]) ∧
    (∃ (l : Fin 16) (s : State),
    let solo := s.portA l = l ∧ s.isRing l = false
    solo ∧
    s.lineServed l = false) ∧
    (∃ (l : Fin 16) (p : Fin 4096) (mseq : Byte) (m : Msg) (s : State),
    let d := s.lane l
    let solo := s.portA l = l ∧ s.isRing l = false
    solo ∧
    s.lineServed l = true ∧
    d.msgs = [m] ∧
    m.p = p ∧
    m.mseq = mseq.toNat ∧
    m.due = false ∧
    m.sends < 3) ∧
    (∃ (l : Fin 16) (p : Fin 4096) (mseq : Byte) (m : Msg) (s : State),
    let d := s.lane l
    let solo := s.portA l = l ∧ s.isRing l = false
    solo ∧
    s.lineServed l = true ∧
    d.msgs = [m] ∧
    m.p = p ∧
    m.mseq = mseq.toNat ∧
    m.due = false ∧
    3 ≤ m.sends ∧
    m.by_ = .config) ∧
    (∃ (l : Fin 16) (p : Fin 4096) (ch : Fin 64) (mseq : Byte) (b : Nat) (m : Msg) (s : State),
    let d := s.lane l
    let solo := s.portA l = l ∧ s.isRing l = false
    solo ∧
    s.lineServed l = true ∧
    d.msgs = [m] ∧
    m.p = p ∧
    m.mseq = mseq.toNat ∧
    m.due = false ∧
    3 ≤ m.sends ∧
    m.by_ = .dstop ch.val ∧
    s.stoppedD = [⟨p, ch, b, false, m.mseq⟩]) ∧
    (∃ (l : Fin 16) (p : Fin 4096) (mseq : Byte) (q : Nat) (m : Msg) (s : State),
    let d := s.lane l
    let solo := s.portA l = l ∧ s.isRing l = false
    solo ∧
    s.lineServed l = true ∧
    d.msgs = [m] ∧
    m.p = p ∧
    m.mseq = mseq.toNat ∧
    m.due = false ∧
    3 ≤ m.sends ∧
    m.by_ = .host q ∧
    s.waits q 0x0D = true) ∧
    (∃ (p : Fin 4096) (ch : Fin 64) (b : Nat) (q : Nat) (s : State),
    (s.stoppedD = [] ∨ s.stoppedD = [⟨p, ch, b, false, q⟩])) ∧
    (∃ (p : Fin 4096) (ch : Fin 64) (b : Nat) (q : Nat) (s : State),
    s.stoppedD = [⟨p, ch, b, true, q⟩]) ∧
    (∃ (l : Fin 16) (s : State),
    let solo := s.portA l = l ∧ s.isRing l = false
    s.isRing l = false ∧
    solo) ∧
    (∃ (l : Fin 16) (s : State),
    s.isRing l = true ∧
    s.portA l = l ∧
    s.laneRx l = true ∧
    l.val < 15) ∧
    (∃ (l : Fin 16) (s : State),
    let d := s.lane l
    s.isRing l = true ∧
    s.timeRuns = true ∧
    l.val < 15 ∧
    d.run = true ∧
    d.cyc.isSome = true ∧
    d.stopped = false) :=
  ⟨⟨{ State.reset with clk := { State.reset.clk with sysclk := false } },
      by decide +kernel⟩,
   ⟨0, (State.reset),
      by decide +kernel⟩,
   ⟨0, 0, { State.reset with
        partRec := [(0, 0x80000000), (7, 0x1)], lanes := [(0, { Lane.reset with run := true })],
        partners := [(0, { Partner.reset with st := 1 })] },
      by decide +kernel⟩,
   ⟨0, 0, 1, { State.reset with
        outSlots := [(0, ⟨(some 1), 0, none⟩)], partRec := [(0, 0x80000000), (7, 0x1)],
        lanes := [(0, { Lane.reset with run := true })], partners := [(0, { Partner.reset with st := 1 })],
        doms := domsOn [32] },
      by decide +kernel⟩,
   ⟨0, (State.reset),
      by decide +kernel⟩,
   ⟨0, { State.reset with
        regs := [(36864, 0x3)], lanes := [(0, { Lane.reset with run := true, ofDone := true })], doms := domsOn [44] },
      by decide +kernel⟩,
   ⟨0, (State.reset),
      by decide +kernel⟩,
   ⟨0, 0, 1, 1, { State.reset with
        regs := [(36864, 0x3)], outSlots := [(0, ⟨(some 1), 0, none⟩)], lineRec := [(3, 0x26)],
        partRec := [(0, 0x80000000)],
        lanes := [(0, { Lane.reset with run := true, cyc := (some 1), latePub := [(0, true)] })], doms := domsOn [32, 44] },
      by decide +kernel⟩,
   ⟨0, (State.reset),
      by decide +kernel⟩,
   ⟨0, ⟨0, 10, 3, true, true, 1, [⟨0, true, false, [0x1, 0x2, 0x3]⟩], [], false⟩, { State.reset with
        regs := [(36864, 0x3)],
        lanes := [(0, { Lane.reset with cut := [⟨0, 10, 3, true, true, 1, [⟨0, true, false, [0x1, 0x2, 0x3]⟩], [], false⟩] })],
        doms := domsOn [44] },
      by decide +kernel⟩,
   ⟨0, (State.reset),
      by decide +kernel⟩,
   ⟨0, 0, 0x0, ⟨0, 0, 3, 0, [], 1, false, MsgFrom.config⟩, { State.reset with
        lanes := [(0, { Lane.reset with msgs := [⟨0, 0, 3, 0, [], 1, false, MsgFrom.config⟩] })],
        cores := [(1, { Core.fresh false with state := CoreSt.run })], doms := domsOn [40] },
      by decide +kernel⟩,
   ⟨0, 0, 0x1, ⟨0, 0, 3, 1, [], 3, false, MsgFrom.config⟩, { State.reset with
        lanes := [(0, { Lane.reset with msgs := [⟨0, 0, 3, 1, [], 3, false, MsgFrom.config⟩] })],
        cores := [(1, { Core.fresh false with state := CoreSt.run })], doms := domsOn [40] },
      by decide +kernel⟩,
   ⟨0, 0, 0, 0x1, 1, ⟨0, 0, 3, 1, [], 3, false, MsgFrom.dstop 0⟩, { State.reset with
        stoppedD := [⟨0, 0, 1, false, 1⟩],
        lanes := [(0, { Lane.reset with msgs := [⟨0, 0, 3, 1, [], 3, false, MsgFrom.dstop 0⟩] })],
        cores := [(1, { Core.fresh false with state := CoreSt.run })], doms := domsOn [40] },
      by decide +kernel⟩,
   ⟨0, 0, 0x0, 0, ⟨0, 0, 3, 0, [], 3, false, MsgFrom.host 0⟩, { State.reset with
        lanes := [(0, { Lane.reset with msgs := [⟨0, 0, 3, 0, [], 3, false, MsgFrom.host 0⟩] })],
        cores := [(1, { Core.fresh false with state := CoreSt.run })],
        sqs := [(0, { Sq.reset with cmd := (some ⟨{ Desc.parse 0 [] with op := 13 }, [], CmdSt.waiting⟩) })],
        doms := domsOn [40] },
      by decide +kernel⟩,
   ⟨0, 0, 0, 0, (State.reset),
      by decide +kernel⟩,
   ⟨0, 0, 1, 1, { State.reset with stoppedD := [⟨0, 0, 1, true, 1⟩] },
      by decide +kernel⟩,
   ⟨0, (State.reset),
      by decide +kernel⟩,
   ⟨0, { State.reset with
        regs := [(36864, 0x1)], lineRec := [(0, 0x1010000)], lanes := [(0, { Lane.reset with hasRec := true })],
        doms := domsOn [44] },
      by decide +kernel⟩,
   ⟨0, { State.reset with
        lineRec := [(0, 0x2010000)], lanes := [(0, { Lane.reset with hasRec := true, run := true, cyc := (some 0) })] },
      by decide +kernel⟩⟩

/-- The premises of FieldReceives, clause by clause. -/
theorem witness_FieldReceives :
    (∃ (l : Fin 16) (s : State),
    s.laneRx l = false) ∧
    (∃ (l : Fin 16) (fr_ : List Byte) (s : State),
    s.laneRx l = true ∧
    64 ≤ fr_.length ∧
    fr_.length ≤ 9216 ∧
    frType fr_ = 0x88F7) ∧
    (∃ (l : Fin 16) (fr_ : List Byte) (s : State),
    s.laneRx l = true ∧
    64 ≤ fr_.length ∧
    fr_.length ≤ 9216 ∧
    frType fr_ ≠ 0x88F7 ∧
    (frType fr_ ≠ s.etype l ∨ frDest fr_ ≠ s.laneMac l)) ∧
    (∃ (l : Fin 16) (fr_ : List Byte) (s : State),
    let isField := frType fr_ = s.etype l ∧ frDest fr_ = s.laneMac l ∧ frType fr_ ≠ 0x88F7 ∧ 64 ≤ fr_.length ∧ fr_.length ≤ 9216
    s.laneRx l = true ∧
    isField ∧
    s.headerOk l fr_ = none) ∧
    (∃ (l : Fin 16) (p : Fin 4096) (fr_ : List Byte) (s : State),
    let d := s.lane l
    let solo := s.portA l = l ∧ s.isRing l = false
    let isField := frType fr_ = s.etype l ∧ frDest fr_ = s.laneMac l ∧ frType fr_ ≠ 0x88F7 ∧ 64 ≤ fr_.length ∧ fr_.length ≤ 9216
    solo ∧
    s.laneRx l = true ∧
    isField ∧
    s.headerOk l fr_ = some p.val ∧
    d.icDone = true) ∧
    (∃ (l : Fin 16) (p : Fin 4096) (fr_ : List Byte) (s : State),
    let d := s.lane l
    let solo := s.portA l = l ∧ s.isRing l = false
    let isField := frType fr_ = s.etype l ∧ frDest fr_ = s.laneMac l ∧ frType fr_ ≠ 0x88F7 ∧ 64 ≤ fr_.length ∧ fr_.length ≤ 9216
    solo ∧
    s.laneRx l = true ∧
    isField ∧
    s.headerOk l fr_ = some p.val ∧
    d.icDone = false ∧
    (p.val, 0) ∈ d.arr) ∧
    (∃ (l : Fin 16) (p : Fin 4096) (fr_ : List Byte) (s : State),
    let d := s.lane l
    let solo := s.portA l = l ∧ s.isRing l = false
    let isField := frType fr_ = s.etype l ∧ frDest fr_ = s.laneMac l ∧ frType fr_ ≠ 0x88F7 ∧ 64 ≤ fr_.length ∧ fr_.length ≤ 9216
    solo ∧
    s.laneRx l = true ∧
    isField ∧
    s.headerOk l fr_ = some p.val ∧
    d.icDone = false ∧
    (p.val, 0) ∉ d.arr) ∧
    (∃ (l : Fin 16) (s : State),
    let d := s.lane l
    let solo := s.portA l = l ∧ s.isRing l = false
    solo ∧
    d.accq = []) ∧
    (∃ (l : Fin 16) (p : Fin 4096) (fr_ : List Byte) (e : Fin 2) (n : Nat) (s : State),
    let d := s.lane l
    s.portA l = l ∧
    (e = 0 ∨ s.isRing l = true) ∧
    d.accq = [⟨p, e, n, fr_⟩] ∧
    d.placed.map (·.1) = [p.val]) ∧
    (∃ (l : Fin 16) (p : Fin 4096) (fr_ : List Byte) (buf : Nat) (n : Nat) (s : State),
    let d := s.lane l
    let solo := s.portA l = l ∧ s.isRing l = false
    solo ∧
    d.accq = [⟨p, 0, n, fr_⟩] ∧
    d.placed = [] ∧
    (s.partner p).st = 1 ∧
    frM fr_ = false ∧
    frRestarted fr_ = false ∧
    d.icDone = false ∧
    s.calSlotsOf p = [] ∧
    s.admitted = [] ∧
    s.inSlot (512 * l + s.pSlot p) = Slot.reset ∧
    fr_.length = frPay fr_ + s.pInLen p ∧
    let k := classFor (64 + s.pInLen p)
    (s.cls k).freeL.head? = some buf ∧
    0 < (s.cls k).resvOf (.inSlot (512 * l + s.pSlot p)) ∧
    s.storeOn buf (64 + s.pInLen p) = true) ∧
    (∃ (l : Fin 16) (s : State),
    let d := s.lane l
    let solo := s.portA l = l ∧ s.isRing l = false
    solo ∧
    (s.timeRuns = false ∨ d.run = false ∨ d.icDone = true ∨ d.ofDone = true ∨ d.cyc = none)) ∧
    (∃ (l : Fin 16) (p : Fin 4096) (n : Nat) (s : State),
    let d := s.lane l
    let solo := s.portA l = l ∧ s.isRing l = false
    solo ∧
    s.timeRuns = true ∧
    d.run = true ∧
    d.icDone = false ∧
    d.ofDone = false ∧
    d.cyc = some n ∧
    s.bySlot l = [p.val] ∧
    s.admitted = [] ∧
    s.calSlotsOf p = [] ∧
    (d.arr = [(p.val, 0)] ∨ d.arr = [(p.val, 1)])) ∧
    (∃ (l : Fin 16) (p : Fin 4096) (n : Nat) (s : State),
    let d := s.lane l
    let solo := s.portA l = l ∧ s.isRing l = false
    solo ∧
    s.timeRuns = true ∧
    d.run = true ∧
    d.icDone = false ∧
    d.ofDone = false ∧
    d.cyc = some n ∧
    s.bySlot l = [p.val] ∧
    s.admitted = [] ∧
    s.calSlotsOf p = [] ∧
    d.arr = []) ∧
    (∃ (l : Fin 16) (s : State),
    s.laneTx l = false) ∧
    (∃ (l : Fin 16) (s : State),
    let d := s.lane l
    s.laneRx l = true ∧
    d.ptp.reqTx = none) ∧
    (∃ (l : Fin 16) (n : Nat) (s : State),
    let d := s.lane l
    s.laneRx l = true ∧
    d.ptp.reqTx = some n) ∧
    (∃ (l : Fin 16) (s : State),
    let d := s.lane l
    let solo := s.portA l = l ∧ s.isRing l = false
    solo ∧
    d.run = true ∧
    s.laneTx l = true ∧
    s.timeRuns = true ∧
    fld (s.lineRecW l 4) 10 0 ≤ d.syncN) ∧
    (∃ (l : Fin 16) (s : State),
    let d := s.lane l
    let solo := s.portA l = l ∧ s.isRing l = false
    solo ∧
    d.run = true ∧
    s.laneTx l = true ∧
    s.timeRuns = true ∧
    d.syncN < fld (s.lineRecW l 4) 10 0) ∧
    (∃ (l : Fin 16) (s : State),
    s.laneOn l = true) ∧
    (∃ (l : Fin 16) (s : State),
    s.laneOn l = false) :=
  ⟨⟨0, (State.reset),
      by decide +kernel⟩,
   ⟨0, (List.replicate 12 0x0 ++ [0x88, 0xf7] ++ List.replicate 50 0x0), { State.reset with regs := [(36864, 0x1)], doms := domsOn [44] },
      by decide +kernel⟩,
   ⟨0, (List.replicate 64 0x0), { State.reset with regs := [(36864, 0x1)], doms := domsOn [44] },
      by decide +kernel⟩,
   ⟨0, (List.replicate 12 0x0 ++ [0x88, 0xb5] ++ List.replicate 50 0x0), { State.reset with regs := [(36864, 0x1)], doms := domsOn [44] },
      by decide +kernel⟩,
   ⟨0, 0, (List.replicate 12 0x0 ++ [0x88, 0xb5, 0x12, 0x1, 0x0, 0x0, 0x1, 0x0, 0x0, 0x0, 0x0, 0x0, 0x0, 0x0, 0x10] ++ List.replicate 9 0x0 ++ [0x6] ++ List.replicate 27 0x0), { State.reset with
        regs := [(36864, 0x1)], partRec := [(0, 0x80000000), (6, 0x400006)],
        lanes := [(0, { Lane.reset with cyc := (some 1), icDone := true })], doms := domsOn [44] },
      by decide +kernel⟩,
   ⟨0, 0, (List.replicate 12 0x0 ++ [0x88, 0xb5, 0x12, 0x1, 0x0, 0x0, 0x1, 0x0, 0x0, 0x0, 0x0, 0x0, 0x0, 0x0, 0x10] ++ List.replicate 9 0x0 ++ [0x6] ++ List.replicate 27 0x0), { State.reset with
        regs := [(36864, 0x1)], partRec := [(0, 0x80000000), (6, 0x400006)],
        lanes := [(0, { Lane.reset with cyc := (some 1), arr := [(0, 0)] })], doms := domsOn [44] },
      by decide +kernel⟩,
   ⟨0, 0, (List.replicate 12 0x0 ++ [0x88, 0xb5, 0x12, 0x1, 0x0, 0x0, 0x1, 0x0, 0x0, 0x0, 0x0, 0x0, 0x0, 0x0, 0x10] ++ List.replicate 9 0x0 ++ [0x6] ++ List.replicate 27 0x0), { State.reset with
        regs := [(36864, 0x1)], partRec := [(0, 0x80000000), (6, 0x400006)],
        lanes := [(0, { Lane.reset with cyc := (some 1) })], doms := domsOn [44] },
      by decide +kernel⟩,
   ⟨0, (State.reset),
      by decide +kernel⟩,
   ⟨0, 0, [0x0, 0x0, 0x0, 0x0, 0x0, 0x0, 0x7, 0x7, 0x7, 0x7, 0x7, 0x7, 0x88, 0xb5, 0x12, 0x1, 0x0, 0x0, 0x1, 0x0, 0x0, 0x0, 0x0, 0x0, 0x0, 0x0, 0x10, 0x0, 0x0, 0x0, 0x0, 0x0, 0x5, 0x0, 0x0, 0x0, 0x6, 0x0, 0x0, 0x0, 0x1, 0x2, 0x3, 0x4, 0x5, 0x6], 0, 1, { State.reset with
        lanes := [(0, { Lane.reset with accq := [⟨0, 0, 1, [0x0, 0x0, 0x0, 0x0, 0x0, 0x0, 0x7, 0x7, 0x7, 0x7, 0x7, 0x7, 0x88, 0xb5, 0x12, 0x1, 0x0, 0x0, 0x1, 0x0, 0x0, 0x0, 0x0, 0x0, 0x0, 0x0, 0x10, 0x0, 0x0, 0x0, 0x0, 0x0, 0x5, 0x0, 0x0, 0x0, 0x6, 0x0, 0x0, 0x0, 0x1, 0x2, 0x3, 0x4, 0x5, 0x6]⟩], placed := [(0, [])] })] },
      by decide +kernel⟩,
   ⟨0, 0, [0x0, 0x0, 0x0, 0x0, 0x0, 0x0, 0x7, 0x7, 0x7, 0x7, 0x7, 0x7, 0x88, 0xb5, 0x12, 0x1, 0x0, 0x0, 0x1, 0x0, 0x0, 0x0, 0x0, 0x0, 0x0, 0x0, 0x10, 0x0, 0x0, 0x0, 0x0, 0x0, 0x5, 0x0, 0x0, 0x0, 0x6, 0x0, 0x0, 0x0, 0x1, 0x2, 0x3, 0x4, 0x5, 0x6], 1, 0, { State.reset with
        alloc := [(0, { AllocClass.reset with freeL := [1], resv := [(Holder.inSlot 0, 1)] })], partRec := [(6, 0x400006)],
        lanes := [(0, { Lane.reset with accq := [⟨0, 0, 0, [0x0, 0x0, 0x0, 0x0, 0x0, 0x0, 0x7, 0x7, 0x7, 0x7, 0x7, 0x7, 0x88, 0xb5, 0x12, 0x1, 0x0, 0x0, 0x1, 0x0, 0x0, 0x0, 0x0, 0x0, 0x0, 0x0, 0x10, 0x0, 0x0, 0x0, 0x0, 0x0, 0x5, 0x0, 0x0, 0x0, 0x6, 0x0, 0x0, 0x0, 0x1, 0x2, 0x3, 0x4, 0x5, 0x6]⟩] })],
        partners := [(0, { Partner.reset with st := 1 })], doms := domsOn [32] },
      by decide +kernel⟩,
   ⟨0, (State.reset),
      by decide +kernel⟩,
   ⟨0, 0, 0, { State.reset with
        partRec := [(0, 0x80000000)], lanes := [(0, { Lane.reset with run := true, cyc := (some 0), arr := [(0, 0)] })] },
      by decide +kernel⟩,
   ⟨0, 0, 0, { State.reset with
        partRec := [(0, 0x80000000)], lanes := [(0, { Lane.reset with run := true, cyc := (some 0) })] },
      by decide +kernel⟩,
   ⟨0, (State.reset),
      by decide +kernel⟩,
   ⟨0, { State.reset with regs := [(36864, 0x1)], doms := domsOn [44] },
      by decide +kernel⟩,
   ⟨0, 1, { State.reset with
        regs := [(36864, 0x1)], lanes := [(0, { Lane.reset with ptp := ⟨none, (some 1), none, none, none⟩ })],
        doms := domsOn [44] },
      by decide +kernel⟩,
   ⟨0, { State.reset with
        regs := [(36864, 0x3)], lanes := [(0, { Lane.reset with run := true })], doms := domsOn [44] },
      by decide +kernel⟩,
   ⟨0, { State.reset with
        regs := [(36864, 0x3)], lineRec := [(4, 0x1)], lanes := [(0, { Lane.reset with run := true })],
        doms := domsOn [44] },
      by decide +kernel⟩,
   ⟨0, { State.reset with regs := [(36864, 0x1)], doms := domsOn [44] },
      by decide +kernel⟩,
   ⟨0, (State.reset),
      by decide +kernel⟩⟩

/-- The premises of PowerSteps, clause by clause. -/
theorem witness_PowerSteps :
    (∃ (d : Fin 50) (s : State),
    let x := s.dom d
    x.st ≠ .ramp) ∧
    (∃ (d : Fin 50) (s : State),
    let x := s.dom d
    x.st ≠ .drain) ∧
    (∃ (d : Fin 50) (s : State),
    let x := s.dom d
    x.st ≠ .clear ∧
    (d.val < 40 ∨ 44 ≤ d.val) ∧
    d.val ≠ 48) ∧
    (∃ (d : Fin 50) (s : State),
    let x := s.dom d
    let memories : Bool := decide (d.val < 44) || decide (d.val = 48)
    x.st = .ramp ∧
    memories = true) ∧
    (∃ (d : Fin 50) (s : State),
    let x := s.dom d
    let memories : Bool := decide (d.val < 44) || decide (d.val = 48)
    let alone : Bool := x.cmds.isEmpty && s.tasks.all (fun e => !e.2.homeLost)
    x.st = .ramp ∧
    memories = false ∧
    alone = true ∧
    d.val ≠ 47) ∧
    (∃ (d : Fin 50) (s : State),
    let x := s.dom d
    let alone : Bool := x.cmds.isEmpty && s.tasks.all (fun e => !e.2.homeLost)
    x.st = .ramp ∧
    d.val = 47 ∧
    alone = true) ∧
    (∃ (d : Fin 50) (s : State),
    let x := s.dom d
    let alone : Bool := x.cmds.isEmpty && s.tasks.all (fun e => !e.2.homeLost)
    x.st = .clear ∧
    alone = true ∧
    d.val < 40 ∧
    s.heldBar = [] ∧
    s.misc.boot = .ridgeClear) ∧
    (∃ (d : Fin 50) (s : State),
    let x := s.dom d
    x.st = .drain ∧
    d.val < 32 ∧
    s.clusterBusy d = true) ∧
    (∃ (d : Fin 50) (s : State),
    let x := s.dom d
    let alone : Bool := x.cmds.isEmpty && s.tasks.all (fun e => !e.2.homeLost)
    x.st = .drain ∧
    alone = true ∧
    (d.val < 32 → s.clusterBusy d = false)) :=
  ⟨⟨0, (State.reset),
      by decide +kernel⟩,
   ⟨0, (State.reset),
      by decide +kernel⟩,
   ⟨0, (State.reset),
      by decide +kernel⟩,
   ⟨29, { State.reset with doms := [(29, ⟨DomSt.ramp, 0, []⟩)] },
      by decide +kernel⟩,
   ⟨44, { State.reset with doms := [(44, ⟨DomSt.ramp, 0, []⟩)] },
      by decide +kernel⟩,
   ⟨47, { State.reset with doms := [(47, ⟨DomSt.ramp, 0, []⟩)] },
      by decide +kernel⟩,
   ⟨0, { State.reset with doms := [(0, ⟨DomSt.clear, 0, []⟩)] },
      by decide +kernel⟩,
   ⟨0, { State.reset with
        clusters := [(0, { Cluster.reset with phase := Phase.run })], doms := [(0, ⟨DomSt.drain, 0, []⟩)] },
      by decide +kernel⟩,
   ⟨1, { State.reset with doms := [(1, ⟨DomSt.drain, 0, []⟩)] },
      by decide +kernel⟩⟩

/-- The premises of BootSteps, clause by clause. -/
theorem witness_BootSteps :
    (∃ (s : State),
    let st := fld (s.reg .bootStatus) 7 0
    s.hostHears = true ∧
    s.pcie.d3 = false ∧
    st ≠ 2) ∧
    (∃ (s : State),
    let st := fld (s.reg .bootStatus) 7 0
    s.hostHears = true ∧
    s.pcie.d3 = false ∧
    st = 2) ∧
    (∃ (s : State),
    s.misc.boot ≠ .load) ∧
    (∃ (h : List Byte) (body : List Byte) (s : State),
    let n := leNat ((h.drop 16).take 4)
    let good := h.length = 32 ∧ bootHeaderOk false h = true ∧ leNat ((h.drop 12).take 4) = 32 ∧ body.length = 2 * n
    let flashBoot := s.misc.boot = .load ∧ (s.misc.mode = 1 ∨ s.misc.mode = 2) ∧ s.misc.fellBack = false
    flashBoot ∧
    good ∧
    kernelOk n (leNat ((h.drop 20).take 4)) body = true) ∧
    (∃ (h : List Byte) (body : List Byte) (s : State),
    let n := leNat ((h.drop 16).take 4)
    let good := h.length = 32 ∧ bootHeaderOk false h = true ∧ leNat ((h.drop 12).take 4) = 32 ∧ body.length = 2 * n
    let flashBoot := s.misc.boot = .load ∧ (s.misc.mode = 1 ∨ s.misc.mode = 2) ∧ s.misc.fellBack = false
    flashBoot ∧
    ((bootHeaderOk false h = false ∧ h.length = 32) ∨ (good ∧ kernelOk n (leNat ((h.drop 20).take 4)) body = false))) ∧
    (∃ (s : State),
    let st := fld (s.reg .bootStatus) 7 0
    s.misc.boot = .load ∧
    (s.misc.mode = 0 ∨ s.misc.fellBack = true) ∧
    st ≠ 3) ∧
    (∃ (s : State),
    let st := fld (s.reg .bootStatus) 7 0
    let base := fld (s.reg .bootCtl) 24 12 * 4096
    s.misc.boot = .load ∧
    (s.misc.mode = 0 ∨ s.misc.fellBack = true) ∧
    st = 3 ∧
    s.storeOn base 32 = true ∧
    s.storeBad = [] ∧
    bootHeaderOk true ((List.range 32).map (fun b => Memory.read s.store (base + b))) = false) ∧
    (∃ (s : State),
    s.misc.mode = 3) ∧
    (∃ (s : State),
    let called := ∀ c : Nat, c < 64 → (s.core c).state = .calling →
      s.readable c ((s.core c).vb + 12).toNat ∧ s.readable c ((s.core c).vb + 13).toNat
    s.misc.mode ≠ 3 ∧
    called) ∧
    (∃ (k : Fin 2) (s : State),
    s.groupRuns k = true) ∧
    (∃ (k : Fin 2) (s : State),
    s.groupRuns k = false) :=
  ⟨⟨(State.reset),
      by decide +kernel⟩,
   ⟨{ State.reset with regs := [(4, 0xa02)] },
      by decide +kernel⟩,
   ⟨(State.reset),
      by decide +kernel⟩,
   ⟨[0x31, 0x4b, 0x46, 0x54, 0x1, 0x0, 0x2, 0x0, 0x0, 0x0, 0x2, 0x20, 0x20, 0x0, 0x0, 0x0, 0x3, 0x0, 0x0, 0x0, 0x8f, 0x98, 0x5, 0xa7, 0x0, 0x0, 0x0, 0x0, 0x7d, 0x84, 0x24, 0x45], [0x34, 0x2, 0xff, 0xf, 0x1, 0x0], { State.reset with misc := { State.reset.misc with mode := 1, boot := BootPh.load } },
      by decide +kernel⟩,
   ⟨(List.replicate 32 0x0), [], { State.reset with misc := { State.reset.misc with mode := 1, boot := BootPh.load } },
      by decide +kernel⟩,
   ⟨{ State.reset with misc := { State.reset.misc with boot := BootPh.load } },
      by decide +kernel⟩,
   ⟨{ State.reset with
        regs := [(4, 0xa03)], doms := [(32, ⟨DomSt.drain, 0, []⟩)], misc := { State.reset.misc with boot := BootPh.load } },
      by decide +kernel⟩,
   ⟨{ State.reset with misc := { State.reset.misc with mode := 3 } },
      by decide +kernel⟩,
   ⟨(State.reset),
      by decide +kernel, fun j hj h => absurd h ((by decide +kernel : ∀ j : Nat, j < 64 → (State.reset.core j).state ≠ .calling) j hj)⟩,
   ⟨0, { State.reset with lanes := [(1, { Lane.reset with run := true })] },
      by decide +kernel⟩,
   ⟨0, (State.reset),
      by decide +kernel⟩⟩

/-- The premises of Resets, clause by clause. -/
theorem witness_Resets :
    (∃ (s : State),
    s.hostHears = false) ∧
    (∃ (s : State),
    let hears := s.hostHears = true
    hears) ∧
    (∃ (s : State),
    s.ballsOff = true) ∧
    (∃ (s : State),
    s.ballsOff = false) :=
  ⟨⟨{ State.reset with misc := { State.reset.misc with jtag := 0x0 } },
      by decide +kernel⟩,
   ⟨(State.reset),
      by decide +kernel⟩,
   ⟨{ State.reset with misc := { State.reset.misc with jtag := 0x0 } },
      by decide +kernel⟩,
   ⟨(State.reset),
      by decide +kernel⟩⟩

/-- The premises of ClocksAndTemperature, clause by clause. -/
theorem witness_ClocksAndTemperature :
    (∃ (c : Fin 32) (s : State),
    let x := s.cluster c
    x.newStep = none) ∧
    (∃ (c : Fin 32) (s : State),
    let x := s.cluster c
    x.phase ≠ .idle) ∧
    (∃ (c : Fin 32) (st : Nat) (s : State),
    let x := s.cluster c
    let quiet : Bool := (List.range 64).all (fun q => (s.sq q).cmd.isNone)
    x.newStep = some st ∧
    x.phase = .idle ∧
    s.jobs = [] ∧
    quiet = true) ∧
    (∃ (s : State),
    s.isOn 48 = false) ∧
    (∃ (s : State),
    s.isOn 48 = true) ∧
    (∃ (code : Byte) (s : State),
    (s.pcie.up = false ∨ code ∉ [0, 3, 4, 5, 6])) ∧
    (∃ (code : Byte) (s : State),
    s.pcie.up = true ∧
    code ∈ [0, 3, 4, 5, 6]) :=
  ⟨⟨0, (State.reset),
      by decide +kernel⟩,
   ⟨2, { State.reset with clusters := [(2, { Cluster.reset with phase := Phase.run })] },
      by decide +kernel⟩,
   ⟨2, 0, { State.reset with clusters := [(2, { Cluster.reset with newStep := (some 0) })] },
      by decide +kernel⟩,
   ⟨{ State.reset with doms := [(48, ⟨DomSt.off, 0, []⟩)] },
      by decide +kernel⟩,
   ⟨(State.reset),
      by decide +kernel⟩,
   ⟨0x0, (State.reset),
      by decide +kernel⟩,
   ⟨0x0, { State.reset with pcie := { State.reset.pcie with up := true } },
      by decide +kernel⟩⟩

/-- The premises of CalendarAndTime, clause by clause. -/
theorem witness_CalendarAndTime :
    (∃ (s : State),
    let c := s.cald
    6311433600 ≤ c.sec) ∧
    (∃ (s : State),
    let c := s.cald
    let trim : Int := max (-10000) (min 10000 ((s.reg .calTrim).extractLsb' 0 16).toInt)
    let plain := c.trimAcc + trim < 20000000 ∧ -20000000 < c.trimAcc + trim
    c.sec < 6311433600 ∧
    plain ∧
    c.sub + 1 < 32768) ∧
    (∃ (s : State),
    let c := s.cald
    let trim : Int := max (-10000) (min 10000 ((s.reg .calTrim).extractLsb' 0 16).toInt)
    c.sec < 6311433600 ∧
    20000000 ≤ c.trimAcc + trim ∧
    c.sub + 2 < 32768) ∧
    (∃ (s : State),
    let c := s.cald
    let trim : Int := max (-10000) (min 10000 ((s.reg .calTrim).extractLsb' 0 16).toInt)
    c.sec < 6311433600 ∧
    c.trimAcc + trim ≤ -20000000 ∧
    c.sub < 32768) ∧
    (∃ (s : State),
    let c := s.cald
    let trim : Int := max (-10000) (min 10000 ((s.reg .calTrim).extractLsb' 0 16).toInt)
    let plain := c.trimAcc + trim < 20000000 ∧ -20000000 < c.trimAcc + trim
    c.sec < 6311433600 ∧
    plain ∧
    c.sub = 32767) ∧
    (∃ (s : State),
    bit (s.reg .dtCtl) 31 = false) ∧
    (∃ (s : State),
    let k := s.clk
    let cap := k.dt
    let accepted : Bool := match k.edge with
      | none => true
      | some p => decide (999000000 + p ≤ cap ∧ cap ≤ 1001000000 + p)
    bit (s.reg .dtCtl) 31 = true ∧
    s.ballsOff = false ∧
    s.isOn 48 = true ∧
    accepted = false) ∧
    (∃ (s : State),
    let k := s.clk
    let cap := k.dt
    let accepted : Bool := match k.edge with
      | none => true
      | some p => decide (999000000 + p ≤ cap ∧ cap ≤ 1001000000 + p)
    bit (s.reg .dtCtl) 31 = true ∧
    s.ballsOff = false ∧
    s.isOn 48 = true ∧
    accepted = true) ∧
    (∃ (s : State),
    s.timeRuns = false) ∧
    (∃ (s : State),
    (s.ballsOff = true ∨ s.isOn 48 = false)) ∧
    (∃ (s : State),
    bit (s.reg .dtCtl) 31 = true ∧
    s.timeRuns = true) :=
  ⟨⟨{ State.reset with cald := { State.reset.cald with sec := 6311433600 } },
      by decide +kernel⟩,
   ⟨(State.reset),
      by decide +kernel⟩,
   ⟨{ State.reset with regs := [(28724, 0x2710)], cald := { State.reset.cald with trimAcc := 19990000 } },
      by decide +kernel⟩,
   ⟨{ State.reset with regs := [(28724, 0x8000)], cald := { State.reset.cald with trimAcc := (-19990000) } },
      by decide +kernel⟩,
   ⟨{ State.reset with cald := { State.reset.cald with sub := 32767 } },
      by decide +kernel⟩,
   ⟨(State.reset),
      by decide +kernel⟩,
   ⟨{ State.reset with regs := [(28684, 0x80000000)], clk := { State.reset.clk with edge := (some 0) } },
      by decide +kernel⟩,
   ⟨{ State.reset with regs := [(28684, 0x80000000)] },
      by decide +kernel⟩,
   ⟨{ State.reset with clk := { State.reset.clk with sysclk := false } },
      by decide +kernel⟩,
   ⟨{ State.reset with misc := { State.reset.misc with jtag := 0x0 } },
      by decide +kernel⟩,
   ⟨{ State.reset with regs := [(28684, 0x80000000)] },
      by decide +kernel⟩⟩

/-- The premises of ImmediateCommands, clause by clause. -/
theorem witness_ImmediateCommands :
    (∃ (q : Fin 64) (s : State),
    let d := (s.sq q).desc
    s.Lone q ∧
    d.op = 0x01) ∧
    (∃ (q : Fin 64) (s : State),
    let d := (s.sq q).desc
    s.Lone q ∧
    d.op = 0x05) ∧
    (∃ (q : Fin 64) (s : State),
    let d := (s.sq q).desc
    let p := s.partner (d.p0 % 4096)
    s.Lone q ∧
    d.op = 0x0C ∧
    p.hdr.length = 10 ∧
    p.caps.length = 10) ∧
    (∃ (q : Fin 64) (s : State),
    let d := (s.sq q).desc
    s.Lone q ∧
    d.op = 0x10) ∧
    (∃ (q : Fin 64) (s : State),
    let d := (s.sq q).desc
    s.Lone q ∧
    d.op = 0x15 ∧
    s.ridge.stopped = true) ∧
    (∃ (q : Fin 64) (s : State),
    let d := (s.sq q).desc
    s.Lone q ∧
    d.op = 0x15 ∧
    s.ridge.stopped = false ∧
    s.ridge.clearing = false ∧
    s.misc.boot = .done) ∧
    (∃ (q : Fin 64) (s : State),
    let d := (s.sq q).desc
    s.Lone q ∧
    d.op = 0x19 ∧
    d.p0 = 5) ∧
    (∃ (q : Fin 64) (s : State),
    let d := (s.sq q).desc
    s.Lone q ∧
    d.op = 0x19 ∧
    d.p0 = 1) ∧
    (∃ (q : Fin 64) (s : State),
    let d := (s.sq q).desc
    s.Lone q ∧
    d.op = 0x14) ∧
    (∃ (q : Fin 64) (w : Fin 64) (s : State),
    let d := (s.sq q).desc
    s.Lone q ∧
    d.op = 0x1A ∧
    d.p0 = (Reg.shgNx w).off) ∧
    (∃ (q : Fin 64) (s : State),
    let d := (s.sq q).desc
    let allOn := ∀ g : Nat, g < 8 → s.isOn (32 + g) = true
    s.Lone q ∧
    d.op = 0x1B ∧
    (s.sq q).args.length = d.p1 ∧
    d.p0 + d.p1 ≤ 0x2000000 ∧
    allOn) ∧
    (∃ (q : Fin 64) (s : State),
    let d := (s.sq q).desc
    let allOn := ∀ g : Nat, g < 8 → s.isOn (32 + g) = true
    s.Lone q ∧
    d.op = 0x1C ∧
    d.p0 + d.p1 ≤ 0x2000000 ∧
    allOn ∧
    s.storeBad = []) ∧
    (∃ (q : Fin 64) (s : State),
    let d := (s.sq q).desc
    let allOn := ∀ g : Nat, g < 8 → s.isOn (32 + g) = true
    s.Lone q ∧
    d.op = 0x1C ∧
    d.p0 + d.p1 ≤ 0x2000000 ∧
    allOn ∧
    s.storeBad = [d.p0] ∧
    0 < d.p1) ∧
    (∃ (q : Fin 64) (s : State),
    let d := (s.sq q).desc
    s.Lone q ∧
    d.op = 0x18 ∧
    d.p0 = 0 ∧
    s.anyRuns = true) ∧
    (∃ (q : Fin 64) (s : State),
    let d := (s.sq q).desc
    s.Lone q ∧
    d.op = 0x18 ∧
    d.p0 = 1 ∧
    s.anyRuns = true) ∧
    (∃ (q : Fin 64) (s : State),
    let d := (s.sq q).desc
    s.Lone q ∧
    d.op = 0x18 ∧
    d.p0 = 0 ∧
    s.anyRuns = false ∧
    d.addr < 2 ^ 64) ∧
    (∃ (q : Fin 64) (s : State),
    let d := (s.sq q).desc
    s.Lone q ∧
    d.op = 0x18 ∧
    d.p0 = 1 ∧
    s.anyRuns = false) ∧
    (∃ (q : Fin 64) (s : State),
    let d := (s.sq q).desc
    s.Lone q ∧
    d.op = 0x18 ∧
    d.p0 = 2) :=
  ⟨⟨0, { State.reset with
        sqs := [(0, { Sq.reset with seg := (some ⟨false, false, 0, 0⟩), cmd := (some ⟨{ Desc.parse 0 [] with op := 1, fin := true }, [], CmdSt.ready⟩) })],
        cqs := [(0, { Cq.reset with en := true, size := 2 })], pcie := { State.reset.pcie with bme := true, up := true } },
      ⟨rfl, rfl, rfl, rfl, by decide +kernel, rfl, rfl, rfl, rfl⟩, by decide +kernel⟩,
   ⟨0, { State.reset with
        sqs := [(0, { Sq.reset with seg := (some ⟨false, false, 0, 0⟩), cmd := (some ⟨{ Desc.parse 0 [] with op := 5, fin := true }, [], CmdSt.ready⟩) })],
        cqs := [(0, { Cq.reset with en := true, size := 2 })], pcie := { State.reset.pcie with bme := true, up := true } },
      ⟨rfl, rfl, rfl, rfl, by decide +kernel, rfl, rfl, rfl, rfl⟩, by decide +kernel⟩,
   ⟨0, { State.reset with
        partners := [(1, { Partner.reset with hdr := [0x0, 0x0, 0x0, 0x0, 0x0, 0x0, 0x0, 0x0, 0x0, 0x0], caps := [0x0, 0x0, 0x0, 0x0, 0x0, 0x0, 0x0, 0x0, 0x0, 0x0] })],
        sqs := [(0, { Sq.reset with seg := (some ⟨false, false, 0, 0⟩), cmd := (some ⟨{ Desc.parse 0 [] with op := 12, p0 := 1, fin := true }, [], CmdSt.ready⟩) })],
        cqs := [(0, { Cq.reset with en := true, size := 2 })], pcie := { State.reset.pcie with bme := true, up := true } },
      ⟨rfl, rfl, rfl, rfl, by decide +kernel, rfl, rfl, rfl, rfl⟩, by decide +kernel⟩,
   ⟨0, { State.reset with
        sqs := [(0, { Sq.reset with seg := (some ⟨false, false, 0, 0⟩), cmd := (some ⟨{ Desc.parse 0 [] with op := 16, fin := true }, [], CmdSt.ready⟩) })],
        cqs := [(0, { Cq.reset with en := true, size := 2 })], pcie := { State.reset.pcie with bme := true, up := true } },
      ⟨rfl, rfl, rfl, rfl, by decide +kernel, rfl, rfl, rfl, rfl⟩, by decide +kernel⟩,
   ⟨0, { State.reset with
        ridge := { State.reset.ridge with stopped := true },
        sqs := [(0, { Sq.reset with seg := (some ⟨false, false, 0, 0⟩), cmd := (some ⟨{ Desc.parse 0 [] with op := 21, fin := true }, [], CmdSt.ready⟩) })],
        cqs := [(0, { Cq.reset with en := true, size := 2 })], pcie := { State.reset.pcie with bme := true, up := true } },
      ⟨rfl, rfl, rfl, rfl, by decide +kernel, rfl, rfl, rfl, rfl⟩, by decide +kernel⟩,
   ⟨0, { State.reset with
        ridge := { State.reset.ridge with clearing := false },
        sqs := [(0, { Sq.reset with seg := (some ⟨false, false, 0, 0⟩), cmd := (some ⟨{ Desc.parse 0 [] with op := 21, fin := true }, [], CmdSt.ready⟩) })],
        cqs := [(0, { Cq.reset with en := true, size := 2 })], pcie := { State.reset.pcie with bme := true, up := true },
        misc := { State.reset.misc with boot := BootPh.done } },
      ⟨rfl, rfl, rfl, rfl, by decide +kernel, rfl, rfl, rfl, rfl⟩, by decide +kernel⟩,
   ⟨1, { State.reset with
        sqs := [(1, { Sq.reset with seg := (some ⟨false, false, 0, 0⟩), cmd := (some ⟨{ Desc.parse 0 [] with op := 25, p0 := 5, fin := true }, [], CmdSt.ready⟩) })],
        cqs := [(0, { Cq.reset with en := true, size := 2 })], pcie := { State.reset.pcie with bme := true, up := true } },
      ⟨rfl, rfl, rfl, rfl, by decide +kernel, rfl, rfl, rfl, rfl⟩, by decide +kernel⟩,
   ⟨0, { State.reset with
        sqs := [(0, { Sq.reset with seg := (some ⟨false, false, 0, 0⟩), cmd := (some ⟨{ Desc.parse 0 [] with op := 25, p0 := 1, fin := true }, [], CmdSt.ready⟩) })],
        cqs := [(0, { Cq.reset with en := true, size := 2 })], pcie := { State.reset.pcie with bme := true, up := true } },
      ⟨rfl, rfl, rfl, rfl, by decide +kernel, rfl, rfl, rfl, rfl⟩, by decide +kernel⟩,
   ⟨0, { State.reset with
        sqs := [(0, { Sq.reset with cq := 1, seg := (some ⟨false, false, 0, 0⟩), cmd := (some ⟨{ Desc.parse 0 [] with op := 20, fin := true }, [], CmdSt.ready⟩) })],
        cqs := [(1, { Cq.reset with en := true, size := 2 })], pcie := { State.reset.pcie with bme := true, up := true } },
      ⟨rfl, rfl, rfl, rfl, by decide +kernel, rfl, rfl, rfl, rfl⟩, by decide +kernel⟩,
   ⟨0, 0, { State.reset with
        sqs := [(0, { Sq.reset with seg := (some ⟨false, false, 0, 0⟩), cmd := (some ⟨{ Desc.parse 0 [] with op := 26, p0 := 33792, fin := true }, [], CmdSt.ready⟩) })],
        cqs := [(0, { Cq.reset with en := true, size := 2 })], pcie := { State.reset.pcie with bme := true, up := true } },
      ⟨rfl, rfl, rfl, rfl, by decide +kernel, rfl, rfl, rfl, rfl⟩, by decide +kernel⟩,
   ⟨0, { State.reset with
        sqs := [(0, { Sq.reset with seg := (some ⟨false, false, 0, 0⟩), cmd := (some ⟨{ Desc.parse 0 [] with op := 27, p1 := 16, fin := true }, (List.replicate 16 0x0), CmdSt.ready⟩) })],
        cqs := [(0, { Cq.reset with en := true, size := 2 })], pcie := { State.reset.pcie with bme := true, up := true },
        doms := domsOn [32, 33, 34, 35, 36, 37, 38, 39] },
      ⟨rfl, rfl, rfl, rfl, by decide +kernel, rfl, rfl, rfl, rfl⟩, by decide +kernel⟩,
   ⟨0, { State.reset with
        sqs := [(0, { Sq.reset with seg := (some ⟨false, false, 0, 0⟩), cmd := (some ⟨{ Desc.parse 0 [] with op := 28, fin := true }, [], CmdSt.ready⟩) })],
        cqs := [(0, { Cq.reset with en := true, size := 2 })], pcie := { State.reset.pcie with bme := true, up := true },
        doms := domsOn [32, 33, 34, 35, 36, 37, 38, 39] },
      ⟨rfl, rfl, rfl, rfl, by decide +kernel, rfl, rfl, rfl, rfl⟩, by decide +kernel⟩,
   ⟨0, { State.reset with
        storeBad := [4096],
        sqs := [(0, { Sq.reset with seg := (some ⟨false, false, 0, 0⟩), cmd := (some ⟨{ Desc.parse 0 [] with op := 28, p0 := 4096, p1 := 1, fin := true }, [], CmdSt.ready⟩) })],
        cqs := [(0, { Cq.reset with en := true, size := 2 })], pcie := { State.reset.pcie with bme := true, up := true },
        doms := domsOn [32, 33, 34, 35, 36, 37, 38, 39] },
      ⟨rfl, rfl, rfl, rfl, by decide +kernel, rfl, rfl, rfl, rfl⟩, by decide +kernel⟩,
   ⟨1, { State.reset with
        lanes := [(3, { Lane.reset with run := true })],
        sqs := [(1, { Sq.reset with seg := (some ⟨false, false, 0, 0⟩), cmd := (some ⟨{ Desc.parse 0 [] with op := 24, fin := true }, [], CmdSt.ready⟩) })],
        cqs := [(0, { Cq.reset with en := true, size := 2 })], pcie := { State.reset.pcie with bme := true, up := true } },
      ⟨rfl, rfl, rfl, rfl, by decide +kernel, rfl, rfl, rfl, rfl⟩, by decide +kernel⟩,
   ⟨0, { State.reset with
        lanes := [(3, { Lane.reset with run := true })],
        sqs := [(0, { Sq.reset with seg := (some ⟨false, false, 0, 0⟩), cmd := (some ⟨{ Desc.parse 0 [] with op := 24, p0 := 1, fin := true }, [], CmdSt.ready⟩) })],
        cqs := [(0, { Cq.reset with en := true, size := 2 })], pcie := { State.reset.pcie with bme := true, up := true } },
      ⟨rfl, rfl, rfl, rfl, by decide +kernel, rfl, rfl, rfl, rfl⟩, by decide +kernel⟩,
   ⟨0, { State.reset with
        sqs := [(0, { Sq.reset with cq := 1, seg := (some ⟨false, false, 0, 0⟩), cmd := (some ⟨{ Desc.parse 0 [] with op := 24, fin := true }, [], CmdSt.ready⟩) })],
        cqs := [(1, { Cq.reset with en := true, size := 2 })], pcie := { State.reset.pcie with bme := true, up := true } },
      ⟨rfl, rfl, rfl, rfl, by decide +kernel, rfl, rfl, rfl, rfl⟩, by decide +kernel⟩,
   ⟨0, { State.reset with
        sqs := [(0, { Sq.reset with cq := 1, seg := (some ⟨false, false, 0, 0⟩), cmd := (some ⟨{ Desc.parse 0 [] with op := 24, p0 := 1, fin := true }, [], CmdSt.ready⟩) })],
        cqs := [(1, { Cq.reset with en := true, size := 2 })], pcie := { State.reset.pcie with bme := true, up := true } },
      ⟨rfl, rfl, rfl, rfl, by decide +kernel, rfl, rfl, rfl, rfl⟩, by decide +kernel⟩,
   ⟨0, { State.reset with
        sqs := [(0, { Sq.reset with seg := (some ⟨false, false, 0, 0⟩), cmd := (some ⟨{ Desc.parse 0 [] with op := 24, p0 := 2, fin := true }, [], CmdSt.ready⟩) })],
        cqs := [(0, { Cq.reset with en := true, size := 2 })], pcie := { State.reset.pcie with bme := true, up := true } },
      ⟨rfl, rfl, rfl, rfl, by decide +kernel, rfl, rfl, rfl, rfl⟩, by decide +kernel⟩⟩

/-- The premises of FieldCommands, clause by clause. -/
theorem witness_FieldCommands :
    (∃ (q : Fin 64) (l : Fin 16) (s : State),
    let d := (s.sq q).desc
    let alone := s.portA l = l.val ∧ s.isRing l = false
    let here : Bool := decide (d.p0 = 2 ^ l.val)
    s.Lone q ∧
    d.op = 0x07 ∧
    here = true ∧
    alone ∧
    d.addr < s.clk.dt + 100000) ∧
    (∃ (q : Fin 64) (l : Fin 16) (s : State),
    let d := (s.sq q).desc
    let n := s.lane l
    let alone := s.portA l = l.val ∧ s.isRing l = false
    let here : Bool := decide (d.p0 = 2 ^ l.val)
    s.Lone q ∧
    d.op = 0x07 ∧
    here = true ∧
    alone ∧
    s.clk.dt + 100000 ≤ d.addr ∧
    (n.run = true ∨ n.hasRec = false)) ∧
    (∃ (q : Fin 64) (l : Fin 16) (s : State),
    let d := (s.sq q).desc
    let n := s.lane l
    let alone := s.portA l = l.val ∧ s.isRing l = false
    let here : Bool := decide (d.p0 = 2 ^ l.val)
    s.Lone q ∧
    d.op = 0x07 ∧
    here = true ∧
    alone ∧
    s.clk.dt + 100000 ≤ d.addr ∧
    n.run = false ∧
    n.hasRec = true) ∧
    (∃ (q : Fin 64) (l : Fin 16) (s : State),
    let d := (s.sq q).desc
    let n := s.lane l
    let alone := s.portA l = l.val ∧ s.isRing l = false
    let here : Bool := decide (d.p0 = 2 ^ l.val)
    s.Lone q ∧
    d.op = 0x08 ∧
    here = true ∧
    alone ∧
    n.run = false) ∧
    (∃ (q : Fin 64) (l : Fin 16) (s : State),
    let d := (s.sq q).desc
    let n := s.lane l
    let alone := s.portA l = l.val ∧ s.isRing l = false
    let here : Bool := decide (d.p0 = 2 ^ l.val)
    s.Lone q ∧
    d.op = 0x08 ∧
    here = true ∧
    alone ∧
    n.run = true ∧
    n.cyc = none ∧
    n.stopped = false ∧
    (∀ i : Nat, i < 64 → s.waits i 8 = false)) ∧
    (∃ (q : Fin 64) (l : Fin 16) (s : State),
    let d := (s.sq q).desc
    let n := s.lane l
    let alone := s.portA l = l.val ∧ s.isRing l = false
    s.Lone q ∧
    d.op = 0x09 ∧
    d.p0 % 16 = l ∧
    alone ∧
    n.run = true) ∧
    (∃ (q : Fin 64) (l : Fin 16) (s : State),
    let d := (s.sq q).desc
    let args := (s.sq q).args
    let n := s.lane l
    let alone := s.portA l = l.val ∧ s.isRing l = false
    let slot := 512 * l.val + d.p0 / 65536 % 512
    let k := classFor args.length
    s.Lone q ∧
    d.op = 0x09 ∧
    d.p0 % 16 = l ∧
    alone ∧
    n.run = false ∧
    0 < s.loadLen d ∧
    args.length = s.loadLen d ∧
    args.length ≤ 4096 ∧
    s.storeBad = [] ∧
    (∀ g : Nat, g < 8 → s.isOn (32 + g) = true) ∧
    (s.cls k).resv = [] ∧
    (s.outSlot slot).buf = none ∧
    (s.cls k).freeL = []) ∧
    (∃ (q : Fin 64) (l : Fin 16) (s : State),
    let d := (s.sq q).desc
    let args := (s.sq q).args
    let n := s.lane l
    let alone := s.portA l = l.val ∧ s.isRing l = false
    let slot := 512 * l.val + d.p0 / 65536 % 512
    let k := classFor args.length
    s.Lone q ∧
    d.op = 0x09 ∧
    d.p0 % 16 = l ∧
    alone ∧
    n.run = false ∧
    0 < s.loadLen d ∧
    args.length = s.loadLen d ∧
    args.length ≤ 4096 ∧
    s.storeBad = [] ∧
    (∀ g : Nat, g < 8 → s.isOn (32 + g) = true) ∧
    (s.cls k).resv = [] ∧
    (s.outSlot slot).buf = none ∧
    let b := (s.cls k).freeL.headD 0
    s.cls k = { s.cls k with freeL := b :: (s.cls k).freeL.tail } ∧
    b + args.length ≤ 0x2000000) ∧
    (∃ (q : Fin 64) (l : Fin 16) (s : State),
    let d := (s.sq q).desc
    let args := (s.sq q).args
    let n := s.lane l
    let alone := s.portA l = l.val ∧ s.isRing l = false
    s.Lone q ∧
    d.op = 0x0A ∧
    d.p0 = l ∧
    args.length = 32 ∧
    alone ∧
    n.run = true) ∧
    (∃ (q : Fin 64) (l : Fin 16) (s : State),
    let d := (s.sq q).desc
    let args := (s.sq q).args
    let word (i : Nat) : W32 := BitVec.ofNat 32 (leNat ((args.drop (4 * i)).take 4))
    let n := s.lane l
    let alone := s.portA l = l.val ∧ s.isRing l = false
    s.Lone q ∧
    d.op = 0x0A ∧
    d.p0 = l ∧
    args.length = 32 ∧
    alone ∧
    n.run = false ∧
    (word 0).toNat % 2 ^ 14 < 25) ∧
    (∃ (q : Fin 64) (l : Fin 16) (s : State),
    let d := (s.sq q).desc
    let args := (s.sq q).args
    let word (i : Nat) : W32 := BitVec.ofNat 32 (leNat ((args.drop (4 * i)).take 4))
    let n := s.lane l
    let alone := s.portA l = l.val ∧ s.isRing l = false
    s.Lone q ∧
    d.op = 0x0A ∧
    d.p0 = l ∧
    args.length = 32 ∧
    alone ∧
    n.run = false ∧
    s.partnersOf l = [] ∧
    bit (word 0) 16 = false ∧
    lineOk l word = true) ∧
    (∃ (q : Fin 64) (s : State),
    let d := (s.sq q).desc
    let args := (s.sq q).args
    let word (i : Nat) : W32 := BitVec.ofNat 32 (leNat ((args.drop (4 * i)).take 4))
    s.Lone q ∧
    d.op = 0x0B ∧
    d.p0 < 4096 ∧
    args.length = 32 ∧
    s.pValid d.p0 = false ∧
    partReserved word = false) ∧
    (∃ (q : Fin 64) (s : State),
    let d := (s.sq q).desc
    let args := (s.sq q).args
    let word (i : Nat) : W32 := BitVec.ofNat 32 (leNat ((args.drop (4 * i)).take 4))
    s.Lone q ∧
    d.op = 0x0B ∧
    d.p0 < 4096 ∧
    args.length = 32 ∧
    s.pValid d.p0 = false ∧
    partReserved word = true ∧
    bit (word 0) 31 = false) ∧
    (∃ (q : Fin 64) (l : Fin 16) (s : State),
    let d := (s.sq q).desc
    let args := (s.sq q).args
    let word (i : Nat) : W32 := BitVec.ofNat 32 (leNat ((args.drop (4 * i)).take 4))
    let n := s.lane l
    let alone := s.portA l = l.val ∧ s.isRing l = false
    s.Lone q ∧
    d.op = 0x0B ∧
    d.p0 < 4096 ∧
    args.length = 32 ∧
    s.pValid d.p0 = false ∧
    partReserved word = true ∧
    bit (word 0) 31 = true ∧
    (word 0).toNat / 65536 % 16 = l ∧
    alone ∧
    n.run = false ∧
    n.hasRec = false ∧
    s.partnersOf l = [] ∧
    partSelfOk word = true) ∧
    (∃ (q : Fin 64) (s : State),
    let d := (s.sq q).desc
    let args := (s.sq q).args
    let p := d.p0 % 4096
    s.Lone q ∧
    d.op = 0x0D ∧
    args.length = d.p1 ∧
    s.pValid p = false) ∧
    (∃ (q : Fin 64) (l : Fin 16) (s : State),
    let d := (s.sq q).desc
    let args := (s.sq q).args
    let n := s.lane l
    let alone := s.portA l = l.val ∧ s.isRing l = false
    let p := d.p0 % 4096
    s.Lone q ∧
    d.op = 0x0D ∧
    args.length = d.p1 ∧
    s.pValid p = true ∧
    s.pLine p = l ∧
    alone ∧
    n.run = true) ∧
    (∃ (q : Fin 64) (s : State),
    let d := (s.sq q).desc
    s.Lone q ∧
    d.op = 0x0E ∧
    (d.p0, Holder.msg) ∉ (s.cls 1).used) ∧
    (∃ (q : Fin 64) (s : State),
    let d := (s.sq q).desc
    s.Lone q ∧
    d.op = 0x0E ∧
    (d.p0, Holder.msg) ∈ (s.cls 1).used) :=
  ⟨⟨0, 1, { State.reset with
        sqs := [(0, { Sq.reset with seg := (some ⟨false, false, 0, 0⟩), cmd := (some ⟨{ Desc.parse 0 [] with op := 7, p0 := 2, fin := true }, [], CmdSt.ready⟩) })],
        cqs := [(0, { Cq.reset with en := true, size := 2 })], pcie := { State.reset.pcie with bme := true, up := true } },
      ⟨rfl, rfl, rfl, rfl, by decide +kernel, rfl, rfl, rfl, rfl⟩, by decide +kernel⟩,
   ⟨1, 1, { State.reset with
        sqs := [(1, { Sq.reset with cq := 1, seg := (some ⟨false, false, 0, 0⟩), cmd := (some ⟨{ Desc.parse 0 [] with op := 7, p0 := 2, addr := 100000, fin := true }, [], CmdSt.ready⟩) })],
        cqs := [(1, { Cq.reset with en := true, size := 2 })], pcie := { State.reset.pcie with bme := true, up := true } },
      ⟨rfl, rfl, rfl, rfl, by decide +kernel, rfl, rfl, rfl, rfl⟩, by decide +kernel⟩,
   ⟨0, 1, { State.reset with
        lanes := [(1, { Lane.reset with hasRec := true })],
        sqs := [(0, { Sq.reset with seg := (some ⟨false, false, 0, 0⟩), cmd := (some ⟨{ Desc.parse 0 [] with op := 7, p0 := 2, addr := 100000, fin := true }, [], CmdSt.ready⟩) })],
        cqs := [(0, { Cq.reset with en := true, size := 2 })], pcie := { State.reset.pcie with bme := true, up := true } },
      ⟨rfl, rfl, rfl, rfl, by decide +kernel, rfl, rfl, rfl, rfl⟩, by decide +kernel⟩,
   ⟨0, 1, { State.reset with
        sqs := [(0, { Sq.reset with cq := 1, seg := (some ⟨false, false, 0, 0⟩), cmd := (some ⟨{ Desc.parse 0 [] with op := 8, p0 := 2, fin := true }, [], CmdSt.ready⟩) })],
        cqs := [(1, { Cq.reset with en := true, size := 2 })], pcie := { State.reset.pcie with bme := true, up := true } },
      ⟨rfl, rfl, rfl, rfl, by decide +kernel, rfl, rfl, rfl, rfl⟩, by decide +kernel⟩,
   ⟨0, 0, { State.reset with
        lanes := [(0, { Lane.reset with run := true })],
        sqs := [(0, { Sq.reset with seg := (some ⟨false, false, 0, 0⟩), cmd := (some ⟨{ Desc.parse 0 [] with op := 8, p0 := 1, fin := true }, [], CmdSt.ready⟩) })],
        cqs := [(0, { Cq.reset with en := true, size := 2 })], pcie := { State.reset.pcie with bme := true, up := true } },
      ⟨rfl, rfl, rfl, rfl, by decide +kernel, rfl, rfl, rfl, rfl⟩, by decide +kernel⟩,
   ⟨0, 2, { State.reset with
        lanes := [(2, { Lane.reset with run := true })],
        sqs := [(0, { Sq.reset with seg := (some ⟨false, false, 0, 0⟩), cmd := (some ⟨{ Desc.parse 0 [] with op := 9, p0 := 196610, fin := true }, [], CmdSt.ready⟩) })],
        cqs := [(0, { Cq.reset with en := true, size := 2 })], pcie := { State.reset.pcie with bme := true, up := true } },
      ⟨rfl, rfl, rfl, rfl, by decide +kernel, rfl, rfl, rfl, rfl⟩, by decide +kernel⟩,
   ⟨0, 2, { State.reset with
        partRec := [(0, 0x80020003), (7, 0x20)],
        sqs := [(0, { Sq.reset with cq := 1, seg := (some ⟨false, false, 0, 0⟩), cmd := (some ⟨{ Desc.parse 0 [] with op := 9, p0 := 196610, fin := true }, (List.replicate 32 0x0), CmdSt.ready⟩) })],
        cqs := [(1, { Cq.reset with en := true, size := 2 })], pcie := { State.reset.pcie with bme := true, up := true },
        doms := domsOn [32, 33, 34, 35, 36, 37, 38, 39] },
      ⟨rfl, rfl, rfl, rfl, by decide +kernel, rfl, rfl, rfl, rfl⟩, by decide +kernel⟩,
   ⟨0, 2, { State.reset with
        alloc := [(0, { AllocClass.reset with freeL := [0] })], partRec := [(0, 0x80020003), (7, 0x20)],
        sqs := [(0, { Sq.reset with seg := (some ⟨false, false, 0, 0⟩), cmd := (some ⟨{ Desc.parse 0 [] with op := 9, p0 := 196610, fin := true }, (List.replicate 32 0x0), CmdSt.ready⟩) })],
        cqs := [(0, { Cq.reset with en := true, size := 2 })], pcie := { State.reset.pcie with bme := true, up := true },
        doms := domsOn [32, 33, 34, 35, 36, 37, 38, 39] },
      ⟨rfl, rfl, rfl, rfl, by decide +kernel, rfl, rfl, rfl, rfl⟩, by decide +kernel⟩,
   ⟨0, 3, { State.reset with
        lanes := [(3, { Lane.reset with run := true })],
        sqs := [(0, { Sq.reset with seg := (some ⟨false, false, 0, 0⟩), cmd := (some ⟨{ Desc.parse 0 [] with op := 10, p0 := 3, fin := true }, (List.replicate 32 0x0), CmdSt.ready⟩) })],
        cqs := [(0, { Cq.reset with en := true, size := 2 })], pcie := { State.reset.pcie with bme := true, up := true } },
      ⟨rfl, rfl, rfl, rfl, by decide +kernel, rfl, rfl, rfl, rfl⟩, by decide +kernel⟩,
   ⟨0, 3, { State.reset with
        sqs := [(0, { Sq.reset with seg := (some ⟨false, false, 0, 0⟩), cmd := (some ⟨{ Desc.parse 0 [] with op := 10, p0 := 3, fin := true }, (List.replicate 32 0x0), CmdSt.ready⟩) })],
        cqs := [(0, { Cq.reset with en := true, size := 2 })], pcie := { State.reset.pcie with bme := true, up := true } },
      ⟨rfl, rfl, rfl, rfl, by decide +kernel, rfl, rfl, rfl, rfl⟩, by decide +kernel⟩,
   ⟨0, 1, { State.reset with
        sqs := [(0, { Sq.reset with seg := (some ⟨false, false, 0, 0⟩), cmd := (some ⟨{ Desc.parse 0 [] with op := 10, p0 := 1, fin := true }, ([0x19, 0x0, 0x0, 0x1, 0x0, 0x4, 0x0, 0x0, 0x0, 0x5, 0x0, 0x0, 0x0, 0x1, 0x0, 0x0, 0x1] ++ List.replicate 15 0x0), CmdSt.ready⟩) })],
        cqs := [(0, { Cq.reset with en := true, size := 2 })], pcie := { State.reset.pcie with bme := true, up := true } },
      ⟨rfl, rfl, rfl, rfl, by decide +kernel, rfl, rfl, rfl, rfl⟩, by decide +kernel⟩,
   ⟨0, { State.reset with
        sqs := [(0, { Sq.reset with seg := (some ⟨false, false, 0, 0⟩), cmd := (some ⟨{ Desc.parse 0 [] with op := 11, fin := true }, ([0x0, 0x0, 0x0, 0x1] ++ List.replicate 28 0x0), CmdSt.ready⟩) })],
        cqs := [(0, { Cq.reset with en := true, size := 2 })], pcie := { State.reset.pcie with bme := true, up := true } },
      ⟨rfl, rfl, rfl, rfl, by decide +kernel, rfl, rfl, rfl, rfl⟩, by decide +kernel⟩,
   ⟨0, { State.reset with
        sqs := [(0, { Sq.reset with seg := (some ⟨false, false, 0, 0⟩), cmd := (some ⟨{ Desc.parse 0 [] with op := 11, fin := true }, (List.replicate 32 0x0), CmdSt.ready⟩) })],
        cqs := [(0, { Cq.reset with en := true, size := 2 })], pcie := { State.reset.pcie with bme := true, up := true } },
      ⟨rfl, rfl, rfl, rfl, by decide +kernel, rfl, rfl, rfl, rfl⟩, by decide +kernel⟩,
   ⟨0, 2, { State.reset with
        sqs := [(0, { Sq.reset with cq := 1, seg := (some ⟨false, false, 0, 0⟩), cmd := (some ⟨{ Desc.parse 0 [] with op := 11, fin := true }, ([0x0, 0x0, 0x2, 0x80, 0x1] ++ List.replicate 19 0x0 ++ [0x2, 0x0, 0x0, 0x1, 0x0, 0x0, 0x0, 0x0]), CmdSt.ready⟩) })],
        cqs := [(1, { Cq.reset with en := true, size := 2 })], pcie := { State.reset.pcie with bme := true, up := true } },
      ⟨rfl, rfl, rfl, rfl, by decide +kernel, rfl, rfl, rfl, rfl⟩, by decide +kernel⟩,
   ⟨0, { State.reset with
        sqs := [(0, { Sq.reset with seg := (some ⟨false, false, 0, 0⟩), cmd := (some ⟨{ Desc.parse 0 [] with op := 13, p1 := 16, fin := true }, (List.replicate 16 0x0), CmdSt.ready⟩) })],
        cqs := [(0, { Cq.reset with en := true, size := 2 })], pcie := { State.reset.pcie with bme := true, up := true } },
      ⟨rfl, rfl, rfl, rfl, by decide +kernel, rfl, rfl, rfl, rfl⟩, by decide +kernel⟩,
   ⟨0, 1, { State.reset with
        partRec := [(0, 0x80010000)], lanes := [(1, { Lane.reset with run := true })],
        sqs := [(0, { Sq.reset with cq := 1, seg := (some ⟨false, false, 0, 0⟩), cmd := (some ⟨{ Desc.parse 0 [] with op := 13, p1 := 16, fin := true }, (List.replicate 16 0x0), CmdSt.ready⟩) })],
        cqs := [(1, { Cq.reset with en := true, size := 2 })], pcie := { State.reset.pcie with bme := true, up := true } },
      ⟨rfl, rfl, rfl, rfl, by decide +kernel, rfl, rfl, rfl, rfl⟩, by decide +kernel⟩,
   ⟨0, { State.reset with
        sqs := [(0, { Sq.reset with seg := (some ⟨false, false, 0, 0⟩), cmd := (some ⟨{ Desc.parse 0 [] with op := 14, fin := true }, [], CmdSt.ready⟩) })],
        cqs := [(0, { Cq.reset with en := true, size := 2 })], pcie := { State.reset.pcie with bme := true, up := true } },
      ⟨rfl, rfl, rfl, rfl, by decide +kernel, rfl, rfl, rfl, rfl⟩, by decide +kernel⟩,
   ⟨0, { State.reset with
        alloc := [(1, { AllocClass.reset with used := [(256, Holder.msg)] })],
        sqs := [(0, { Sq.reset with seg := (some ⟨false, false, 0, 0⟩), cmd := (some ⟨{ Desc.parse 0 [] with op := 14, p0 := 256, fin := true }, [], CmdSt.ready⟩) })],
        cqs := [(0, { Cq.reset with en := true, size := 2 })], pcie := { State.reset.pcie with bme := true, up := true } },
      ⟨rfl, rfl, rfl, rfl, by decide +kernel, rfl, rfl, rfl, rfl⟩, by decide +kernel⟩⟩

/-- The premises of TaskletCommands, clause by clause. -/
theorem witness_TaskletCommands :
    (∃ (q : Fin 64) (s : State),
    let d := (s.sq q).desc
    let r := s.recOf d.p0
    s.Lone q ∧
    d.op = 0x02 ∧
    r.admitted = true) ∧
    (∃ (q : Fin 64) (s : State),
    let d := (s.sq q).desc
    let args := (s.sq q).args
    let r := s.recOf d.p0
    s.Lone q ∧
    d.op = 0x02 ∧
    r.admitted = false ∧
    args = []) ∧
    (∃ (q : Fin 64) (c : Nat) (s : State),
    let d := (s.sq q).desc
    let args := (s.sq q).args
    let r := s.recOf d.p0
    s.Lone q ∧
    d.op = 0x02 ∧
    r.admitted = false ∧
    args.length = 256 ∧
    s.admission d.p0 (defineRec args) = .inr c ∧
    c < 256) ∧
    (∃ (q : Fin 64) (c : Nat) (s : State),
    let d := (s.sq q).desc
    let args := (s.sq q).args
    let word (i : Nat) : W32 := BitVec.ofNat 32 (leNat ((args.drop (4 * i)).take 4))
    let r := s.recOf d.p0
    s.Lone q ∧
    d.op = 0x02 ∧
    r.admitted = false ∧
    args.length = 256 ∧
    s.admission d.p0 (defineRec args) = .inl c ∧
    c < 32 ∧
    bit (word 0) 28 = true) ∧
    (∃ (q : Fin 64) (c : Nat) (s : State),
    let d := (s.sq q).desc
    let args := (s.sq q).args
    let word (i : Nat) : W32 := BitVec.ofNat 32 (leNat ((args.drop (4 * i)).take 4))
    let r := s.recOf d.p0
    let n : Rec := defineRec args
    let here (n : Rec) (cs : List Nat) (but : Nat → Bool) : Prop := ∀ k : Nat, k < 64 → but k = false →
      (n.kind k = 1 → s.residentOn cs (k / 16) (.image n.hostImg (n.imgAddr + 2048 * n.index k)) = true) ∧
      (n.kind k = 2 → s.residentOn cs (k / 16) (.state d.p0 (n.index k)) = true) ∧
      (n.kind k = 5 → s.residentOn cs (k / 16) (.table n.tset s.currentGen (n.index k)) = true)
    s.Lone q ∧
    d.op = 0x02 ∧
    r.admitted = false ∧
    args.length = 256 ∧
    s.admission d.p0 n = .inl c ∧
    bit (word 0) 28 = false ∧
    here n (n.homesAt c) (fun _ => false)) ∧
    (∃ (q : Fin 64) (c : Nat) (e : Nat) (s : State),
    let d := (s.sq q).desc
    let args := (s.sq q).args
    let word (i : Nat) : W32 := BitVec.ofNat 32 (leNat ((args.drop (4 * i)).take 4))
    let r := s.recOf d.p0
    let n : Rec := defineRec args
    let here (n : Rec) (cs : List Nat) (but : Nat → Bool) : Prop := ∀ k : Nat, k < 64 → but k = false →
      (n.kind k = 1 → s.residentOn cs (k / 16) (.image n.hostImg (n.imgAddr + 2048 * n.index k)) = true) ∧
      (n.kind k = 2 → s.residentOn cs (k / 16) (.state d.p0 (n.index k)) = true) ∧
      (n.kind k = 5 → s.residentOn cs (k / 16) (.table n.tset s.currentGen (n.index k)) = true)
    s.Lone q ∧
    d.op = 0x02 ∧
    r.admitted = false ∧
    args.length = 256 ∧
    s.admission d.p0 n = .inl c ∧
    bit (word 0) 28 = false ∧
    n.checked = false ∧
    s.storeBad = [] ∧
    (∀ g : Nat, g < 8 → s.isOn (32 + g) = true) ∧
    (s.cluster c).phase = .idle ∧
    (∀ f : Nat, f < 64 → ((s.cluster c).frame (e / 16) f).page = none) ∧
    e < 64 ∧
    n.kind e = 1 ∧
    n.hostImg = false ∧
    0x100000000 ≤ n.imgAddr ∧
    here n [c] (fun k => k = e)) ∧
    (∃ (q : Fin 64) (s : State),
    let d := (s.sq q).desc
    let r := s.recOf d.p0
    s.Lone q ∧
    d.op = 0x03 ∧
    r.admitted = false) ∧
    (∃ (q : Fin 64) (s : State),
    let d := (s.sq q).desc
    let args := (s.sq q).args
    let word (i : Nat) : W32 := BitVec.ofNat 32 (leNat ((args.drop (4 * i)).take 4))
    let r := s.recOf d.p0
    s.Lone q ∧
    d.op = 0x03 ∧
    r.admitted = true ∧
    args.length = 256 ∧
    word 1 ≠ r 1) ∧
    (∃ (q : Fin 64) (s : State),
    let d := (s.sq q).desc
    let args := (s.sq q).args
    let word (i : Nat) : W32 := BitVec.ofNat 32 (leNat ((args.drop (4 * i)).take 4))
    let r := s.recOf d.p0
    s.Lone q ∧
    d.op = 0x03 ∧
    r.admitted = true ∧
    args.length = 256 ∧
    r.sameButImage word = true ∧
    Rec.imageInRange word = true ∧
    s.imageOk word = true ∧
    (s.task d.p0).homeLost = true) ∧
    (∃ (q : Fin 64) (s : State),
    let d := (s.sq q).desc
    let args := (s.sq q).args
    let word (i : Nat) : W32 := BitVec.ofNat 32 (leNat ((args.drop (4 * i)).take 4))
    let r := s.recOf d.p0
    s.Lone q ∧
    d.op = 0x03 ∧
    r.admitted = true ∧
    args.length = 256 ∧
    r.sameButImage word = true ∧
    Rec.imageInRange word = true ∧
    s.imageOk word = false) ∧
    (∃ (q : Fin 64) (c : Nat) (s : State),
    let d := (s.sq q).desc
    let args := (s.sq q).args
    let word (i : Nat) : W32 := BitVec.ofNat 32 (leNat ((args.drop (4 * i)).take 4))
    let r := s.recOf d.p0
    s.Lone q ∧
    d.op = 0x03 ∧
    r.admitted = true ∧
    args.length = 256 ∧
    r.sameButImage word = true ∧
    Rec.imageInRange word = true ∧
    s.imageOk word = true ∧
    r.bestEffort = false ∧
    (s.task d.p0).homeLost = false ∧
    r.homes.all (fun c => framesOk (s.homedWith c d.p0 word)) = false) ∧
    (∃ (q : Fin 64) (c : Nat) (s : State),
    let d := (s.sq q).desc
    let args := (s.sq q).args
    let word (i : Nat) : W32 := BitVec.ofNat 32 (leNat ((args.drop (4 * i)).take 4))
    let r := s.recOf d.p0
    let n : Rec := defineRec args
    let here (n : Rec) (cs : List Nat) (but : Nat → Bool) : Prop := ∀ k : Nat, k < 64 → but k = false →
      (n.kind k = 1 → s.residentOn cs (k / 16) (.image n.hostImg (n.imgAddr + 2048 * n.index k)) = true) ∧
      (n.kind k = 2 → s.residentOn cs (k / 16) (.state d.p0 (n.index k)) = true) ∧
      (n.kind k = 5 → s.residentOn cs (k / 16) (.table n.tset s.currentGen (n.index k)) = true)
    s.Lone q ∧
    d.op = 0x03 ∧
    r.admitted = true ∧
    args.length = 256 ∧
    r.sameButImage word = true ∧
    Rec.imageInRange word = true ∧
    s.imageOk word = true ∧
    r.bestEffort = false ∧
    (s.task d.p0).homeLost = false ∧
    r.homes.all (fun c => framesOk (s.homedWith c d.p0 word)) = true ∧
    here word r.homes (fun _ => false)) ∧
    (∃ (q : Fin 64) (s : State),
    let d := (s.sq q).desc
    let r := s.recOf d.p0
    s.Lone q ∧
    d.op = 0x04 ∧
    r.admitted = false) ∧
    (∃ (q : Fin 64) (e : Nat) (s : State),
    let d := (s.sq q).desc
    let r := s.recOf d.p0
    s.Lone q ∧
    d.op = 0x04 ∧
    r.admitted = true ∧
    (s.task d.p0).removing = [] ∧
    s.jobs = [] ∧
    s.tasks.all (fun e => !e.2.homeLost) = true) ∧
    (∃ (q : Fin 64) (s : State),
    let d := (s.sq q).desc
    let r := s.recOf d.p0
    s.Lone q ∧
    d.op = 0x04 ∧
    r.admitted = true ∧
    s.jobs.any (fun j => decide (j.t = d.p0) && j.active) = true ∧
    s.jobs.all (fun j => decide (j.t ≠ d.p0) || j.active) = true) ∧
    (∃ (q : Fin 64) (s : State),
    let d := (s.sq q).desc
    let r := s.recOf d.p0
    let i := (s.readyGen d.p0).getD 0
    s.Lone q ∧
    d.op = 0x04 ∧
    r.admitted = true ∧
    s.jobs.any Job.active = true ∧
    (s.jobs.map Job.key).Nodup ∧
    s.jobs.all (fun j => decide (j.t = d.p0) && !j.deferred && (j.active || (j.pins.isEmpty && (s.genNamed j.gen).isNone))) = true ∧
    (∀ i : Nat, i < 64 → s.waits i 8 = false)) ∧
    (∃ (q : Fin 64) (s : State),
    let d := (s.sq q).desc
    let h := d.p0 % 32
    s.Lone q ∧
    d.op = 0x06 ∧
    d.p0 < 512 ∧
    256 ≤ d.p0 ∧
    (h, d.addr) ∉ s.hostPins) ∧
    (∃ (q : Fin 64) (s : State),
    let d := (s.sq q).desc
    let h := d.p0 % 32
    s.Lone q ∧
    d.op = 0x06 ∧
    d.p0 < 512 ∧
    256 ≤ d.p0 ∧
    (h, d.addr) ∈ s.hostPins) ∧
    (∃ (q : Fin 64) (s : State),
    let d := (s.sq q).desc
    let h := d.p0 % 32
    s.Lone q ∧
    d.op = 0x06 ∧
    d.p0 < 512 ∧
    d.p0 < 256 ∧
    s.isOn h = false) ∧
    (∃ (q : Fin 64) (s : State),
    let d := (s.sq q).desc
    let h := d.p0 % 32
    let page : PageId := .image (decide (0x8000000000 ≤ d.addr)) d.addr
    s.Lone q ∧
    d.op = 0x06 ∧
    d.p0 < 512 ∧
    d.p0 < 256 ∧
    s.isOn h = true ∧
    (s.resident h 0 page).isSome = true ∧
    (h, d.addr) ∉ s.hostPins) ∧
    (∃ (q : Fin 64) (s : State),
    let d := (s.sq q).desc
    let args := (s.sq q).args
    let word (i : Nat) : W32 := BitVec.ofNat 32 (leNat ((args.drop (4 * i)).take 4))
    s.Lone q ∧
    d.op = 0x0F ∧
    args.length = 32 ∧
    d.p0 < 4096 ∧
    calRecOk word = false) ∧
    (∃ (q : Fin 64) (s : State),
    let d := (s.sq q).desc
    let args := (s.sq q).args
    let word (i : Nat) : W32 := BitVec.ofNat 32 (leNat ((args.drop (4 * i)).take 4))
    s.Lone q ∧
    d.op = 0x0F ∧
    args.length = 32 ∧
    d.p0 < 4096 ∧
    calRecOk word = true ∧
    s.calPlaceOk word = true ∧
    bit (word 0) 31 = false ∧
    s.calOn d.p0 = false) ∧
    (∃ (q : Fin 64) (s : State),
    let d := (s.sq q).desc
    let args := (s.sq q).args
    let word (i : Nat) : W32 := BitVec.ofNat 32 (leNat ((args.drop (4 * i)).take 4))
    s.Lone q ∧
    d.op = 0x0F ∧
    args.length = 32 ∧
    d.p0 < 4096 ∧
    calRecOk word = true ∧
    s.calPlaceOk word = true ∧
    bit (word 0) 31 = true ∧
    s.calOn d.p0 = false ∧
    s.otherDithers d.p0 ((word 0).toNat % 4096) ((word 0).toNat / 4096 % 64) < 16) ∧
    (∃ (q : Fin 64) (s : State),
    let d := (s.sq q).desc
    s.Lone q ∧
    d.op = 0x11 ∧
    s.readyGen d.p0 = none) ∧
    (∃ (q : Fin 64) (s : State),
    let d := (s.sq q).desc
    let i := (s.readyGen d.p0).getD 0
    s.Lone q ∧
    d.op = 0x11 ∧
    s.readyGen d.p0 = some i ∧
    s.adopting = true) ∧
    (∃ (q : Fin 64) (s : State),
    let d := (s.sq q).desc
    let i := (s.readyGen d.p0).getD 0
    s.Lone q ∧
    d.op = 0x11 ∧
    s.readyGen d.p0 = some i ∧
    s.adopting = false) ∧
    (∃ (q : Fin 64) (s : State),
    let d := (s.sq q).desc
    s.Lone q ∧
    d.op = 0x12 ∧
    s.readyGen d.p0 = none) ∧
    (∃ (q : Fin 64) (s : State),
    let d := (s.sq q).desc
    let i := (s.readyGen d.p0).getD 0
    s.Lone q ∧
    d.op = 0x12 ∧
    s.readyGen d.p0 = some i ∧
    i < 8) ∧
    (∃ (q : Fin 64) (s : State),
    let d := (s.sq q).desc
    s.Lone q ∧
    d.op = 0x13 ∧
    s.ridge.stopped = true) ∧
    (∃ (q : Fin 64) (s : State),
    let d := (s.sq q).desc
    let args := (s.sq q).args
    let ridge := s.ridge.stopped = false ∧ s.ridge.clearing = false ∧ s.misc.boot = .done
    s.Lone q ∧
    d.op = 0x13 ∧
    ridge ∧
    args.length = 64 ∧
    loadParamsOk args = false) :=
  ⟨⟨0, { State.reset with
        recs := [(56, 0x81a2d000)],
        sqs := [(0, { Sq.reset with run := true, size := 3, cq := 1, tail := 1, head := 1, seg := (some ⟨true, true, 77, 0⟩), cmd := (some ⟨{ Desc.parse 0 [] with at_ := 64, cid := 77, op := 2, addr := 36864, fin := true }, ([0x0, 0x0, 0x0, 0x11, 0x64] ++ List.replicate 9 0x0 ++ [0x32, 0x0, 0x0, 0x0, 0x0, 0x0, 0x7, 0x0, 0x0, 0x0, 0x0, 0x0, 0x0, 0x0, 0x1, 0x1] ++ List.replicate 67 0x0 ++ [0x20] ++ List.replicate 158 0x0), CmdSt.ready⟩) }), (1, { Sq.reset with run := true, size := 3, cq := 1, tail := 1, head := 2, seg := (some ⟨true, false, 77, 1⟩), cmd := (some ⟨{ Desc.parse 0 [] with at_ := 64, cid := 77, op := 2, addr := 36864, fin := true }, ([0x0, 0x0, 0x0, 0x11, 0x64] ++ List.replicate 9 0x0 ++ [0x32, 0x0, 0x0, 0x0, 0x0, 0x0, 0x7, 0x0, 0x0, 0x0, 0x0, 0x0, 0x0, 0x0, 0x1, 0x1] ++ List.replicate 67 0x0 ++ [0x20] ++ List.replicate 158 0x0), CmdSt.ready⟩) })],
        cqs := [(0, { Cq.reset with en := true, size := 4, base := 0x1000, tail := 1 }), (1, { Cq.reset with en := true, size := 3, base := 0x1000, phase := false })],
        pcie := { State.reset.pcie with bme := true, up := true } },
      ⟨rfl, rfl, rfl, rfl, by decide +kernel, rfl, rfl, rfl, rfl⟩, by decide +kernel⟩,
   ⟨0, { State.reset with
        sqs := [(0, { Sq.reset with seg := (some ⟨false, false, 0, 0⟩), cmd := (some ⟨{ Desc.parse 0 [] with op := 2, fin := true }, [], CmdSt.ready⟩) })],
        cqs := [(0, { Cq.reset with en := true, size := 2 })], pcie := { State.reset.pcie with bme := true, up := true } },
      ⟨rfl, rfl, rfl, rfl, by decide +kernel, rfl, rfl, rfl, rfl⟩, by decide +kernel⟩,
   ⟨0, 1, { State.reset with
        sqs := [(0, { Sq.reset with seg := (some ⟨false, false, 0, 0⟩), cmd := (some ⟨{ Desc.parse 0 [] with op := 2, fin := true }, (List.replicate 256 0x0), CmdSt.ready⟩) })],
        cqs := [(0, { Cq.reset with en := true, size := 2 })], pcie := { State.reset.pcie with bme := true, up := true } },
      ⟨rfl, rfl, rfl, rfl, by decide +kernel, rfl, rfl, rfl, rfl⟩, by decide +kernel⟩,
   ⟨0, 0, { State.reset with
        alloc := [(2, { AllocClass.reset with freeL := [0] })], lineRec := [(0, 0x80003)],
        lanes := [(0, { Lane.reset with hasRec := true })],
        sqs := [(0, { Sq.reset with seg := (some ⟨false, false, 0, 0⟩), cmd := (some ⟨{ Desc.parse 0 [] with op := 2, fin := true }, ([0x0, 0x0, 0x0, 0x11, 0x1] ++ List.replicate 9 0x0 ++ [0x1, 0x0, 0x0, 0x0, 0x0, 0x0, 0x1, 0x0, 0x0, 0x0, 0x0, 0x0, 0x0, 0x0, 0x1, 0x1] ++ List.replicate 67 0x0 ++ [0x20] ++ List.replicate 158 0x0), CmdSt.ready⟩) })],
        cqs := [(0, { Cq.reset with en := true, size := 2 })], pcie := { State.reset.pcie with bme := true, up := true },
        doms := domsOn [0] },
      ⟨rfl, rfl, rfl, rfl, by decide +kernel, rfl, rfl, rfl, rfl⟩, by decide +kernel⟩,
   ⟨0, 0, { State.reset with
        clusters := [(0, { Cluster.reset with frames := [(3, ⟨(some (PageId.image false 4294967296)), true, false, 0⟩)] })],
        alloc := [(2, { AllocClass.reset with freeL := [0] })], lineRec := [(0, 0x1000004)],
        lanes := [(0, { Lane.reset with hasRec := true })],
        sqs := [(0, { Sq.reset with seg := (some ⟨false, false, 0, 0⟩), cmd := (some ⟨{ Desc.parse 0 [] with op := 2, fin := true }, ([0x0, 0x0, 0x0, 0x1, 0x2] ++ List.replicate 9 0x0 ++ [0x1, 0x0, 0x0, 0x0, 0x0, 0x0, 0x1, 0x0, 0x0, 0x0, 0x0, 0x0, 0x0, 0x0, 0x1, 0x1] ++ List.replicate 67 0x0 ++ [0x20] ++ List.replicate 158 0x0), CmdSt.ready⟩) })],
        cqs := [(0, { Cq.reset with en := true, size := 2 })], pcie := { State.reset.pcie with bme := true, up := true },
        doms := domsOn [0] },
      ⟨rfl, rfl, rfl, rfl, by decide +kernel, rfl, rfl, rfl, rfl⟩, by decide +kernel⟩,
   ⟨0, 0, 0, { State.reset with
        alloc := [(2, { AllocClass.reset with freeL := [0] })], lineRec := [(0, 0x1000004)],
        lanes := [(0, { Lane.reset with hasRec := true })],
        sqs := [(0, { Sq.reset with seg := (some ⟨false, false, 0, 0⟩), cmd := (some ⟨{ Desc.parse 0 [] with op := 2, fin := true }, ([0x0, 0x0, 0x0, 0x1, 0x2] ++ List.replicate 9 0x0 ++ [0x1, 0x0, 0x0, 0x0, 0x0, 0x0, 0x1, 0x0, 0x0, 0x0, 0x0, 0x0, 0x0, 0x0, 0x1, 0x1] ++ List.replicate 67 0x0 ++ [0x20] ++ List.replicate 158 0x0), CmdSt.ready⟩) })],
        cqs := [(0, { Cq.reset with en := true, size := 2 })], pcie := { State.reset.pcie with bme := true, up := true },
        doms := domsOn [0, 32, 33, 34, 35, 36, 37, 38, 39] },
      ⟨rfl, rfl, rfl, rfl, by decide +kernel, rfl, rfl, rfl, rfl⟩, by decide +kernel⟩,
   ⟨0, { State.reset with
        sqs := [(0, { Sq.reset with seg := (some ⟨false, false, 0, 0⟩), cmd := (some ⟨{ Desc.parse 0 [] with op := 3, fin := true }, [], CmdSt.ready⟩) })],
        cqs := [(0, { Cq.reset with en := true, size := 2 })], pcie := { State.reset.pcie with bme := true, up := true } },
      ⟨rfl, rfl, rfl, rfl, by decide +kernel, rfl, rfl, rfl, rfl⟩, by decide +kernel⟩,
   ⟨0, { State.reset with
        recs := [(129, 0x1), (184, 0x80000000)],
        sqs := [(0, { Sq.reset with seg := (some ⟨false, false, 0, 0⟩), cmd := (some ⟨{ Desc.parse 0 [] with op := 3, p0 := 2, fin := true }, (List.replicate 256 0x0), CmdSt.ready⟩) })],
        cqs := [(0, { Cq.reset with en := true, size := 2 })], pcie := { State.reset.pcie with bme := true, up := true } },
      ⟨rfl, rfl, rfl, rfl, by decide +kernel, rfl, rfl, rfl, rfl⟩, by decide +kernel⟩,
   ⟨0, { State.reset with
        recs := [(128, 0x1000000), (129, 0x64), (131, 0x320000), (133, 0x7), (152, 0x2000), (184, 0x80000000)],
        tasks := [(2, { Task.reset with homeLost := true })],
        sqs := [(0, { Sq.reset with seg := (some ⟨false, false, 0, 0⟩), cmd := (some ⟨{ Desc.parse 0 [] with op := 3, p0 := 2, fin := true }, ([0x0, 0x0, 0x0, 0x1, 0x64] ++ List.replicate 9 0x0 ++ [0x32, 0x0, 0x0, 0x0, 0x0, 0x0, 0x7, 0x0, 0x0, 0x0, 0x0, 0x0, 0x0, 0x0, 0x1, 0x1] ++ List.replicate 67 0x0 ++ [0x20] ++ List.replicate 158 0x0), CmdSt.ready⟩) })],
        cqs := [(0, { Cq.reset with en := true, size := 2 })], pcie := { State.reset.pcie with bme := true, up := true } },
      ⟨rfl, rfl, rfl, rfl, by decide +kernel, rfl, rfl, rfl, rfl⟩, by decide +kernel⟩,
   ⟨0, { State.reset with
        recs := [(0, 0x11000000), (1, 0x64), (3, 0x320000), (5, 0x7), (24, 0x2000), (56, 0x80a2e000)],
        sqs := [(0, { Sq.reset with run := true, size := 3, tail := 1, head := 2, seg := (some ⟨false, true, 77, 1⟩), cmd := (some ⟨{ Desc.parse 0 [] with at_ := 64, cid := 77, op := 3, addr := 36864, fin := true }, ([0x0, 0x0, 0x0, 0x11, 0x64] ++ List.replicate 9 0x0 ++ [0x32, 0x0, 0x0, 0x0, 0x0, 0x0, 0x7, 0x0, 0x0, 0x0, 0x0, 0x0, 0x0, 0x4, 0x1, 0x1] ++ List.replicate 67 0x0 ++ [0x20] ++ List.replicate 158 0x0), CmdSt.ready⟩) }), (1, { Sq.reset with run := true, size := 3, tail := 1, seg := (some ⟨true, true, 77, 0⟩), cmd := (some ⟨{ Desc.parse 0 [] with at_ := 64, cid := 77, op := 3, addr := 36864, fin := true }, ([0x0, 0x0, 0x0, 0x11, 0x64] ++ List.replicate 9 0x0 ++ [0x32, 0x0, 0x0, 0x0, 0x0, 0x0, 0x7, 0x0, 0x0, 0x0, 0x0, 0x0, 0x0, 0x4, 0x1, 0x1] ++ List.replicate 67 0x0 ++ [0x20] ++ List.replicate 158 0x0), CmdSt.ready⟩) })],
        cqs := [(0, { Cq.reset with en := true, size := 4, base := 0x1000, tail := 1 }), (1, { Cq.reset with en := true, size := 3, base := 0x1000, head := 1 })],
        pcie := { State.reset.pcie with bme := true, up := true } },
      ⟨rfl, rfl, rfl, rfl, by decide +kernel, rfl, rfl, rfl, rfl⟩, by decide +kernel⟩,
   ⟨0, 0, { State.reset with
        recs := [(0, 0x1000000), (1, 0x64), (3, 0x320000), (5, 0x7), (24, 0x20012000), (25, 0x20032002), (26, 0x20052004), (27, 0x20072006), (28, 0x20092008), (29, 0x200b200a), (30, 0x200d200c), (31, 0x200f200e), (56, 0x80000000), (95, 0x803010), (120, 0x80000000), (152, 0x20012000), (153, 0x20032002), (154, 0x20052004), (155, 0x20072006), (156, 0x20092008), (157, 0x200b200a), (158, 0x200d200c), (159, 0x200f200e), (184, 0x80000000), (198, 0x1), (216, 0x20012000), (217, 0x20032002), (218, 0x20052004), (219, 0x20072006), (220, 0x20092008), (221, 0x200b200a), (222, 0x200d200c), (223, 0x200f200e), (248, 0x80000000), (262, 0x2), (280, 0x20012000), (281, 0x20032002), (282, 0x20052004), (283, 0x20072006), (284, 0x20092008), (285, 0x200b200a), (286, 0x200d200c), (287, 0x200f200e), (312, 0x80000000)],
        sqs := [(0, { Sq.reset with seg := (some ⟨false, false, 0, 0⟩), cmd := (some ⟨{ Desc.parse 0 [] with op := 3, fin := true }, ([0x0, 0x0, 0x0, 0x1, 0x64] ++ List.replicate 9 0x0 ++ [0x32, 0x0, 0x0, 0x0, 0x0, 0x0, 0x7, 0x0, 0x0, 0x0, 0x0, 0x0, 0x0, 0x0, 0x1, 0x10] ++ List.replicate 67 0x0 ++ [0x20, 0x1, 0x20, 0x2, 0x20, 0x3, 0x20, 0x4, 0x20, 0x5, 0x20, 0x6, 0x20, 0x7, 0x20, 0x8, 0x20, 0x9, 0x20, 0xa, 0x20, 0xb, 0x20, 0xc, 0x20, 0xd, 0x20, 0xe, 0x20, 0xf, 0x20] ++ List.replicate 128 0x0), CmdSt.ready⟩) })],
        cqs := [(0, { Cq.reset with en := true, size := 2 })], pcie := { State.reset.pcie with bme := true, up := true } },
      ⟨rfl, rfl, rfl, rfl, by decide +kernel, rfl, rfl, rfl, rfl⟩, by decide +kernel⟩,
   ⟨0, 0, { State.reset with
        clusters := [(0, { Cluster.reset with frames := [(3, ⟨(some (PageId.image false 4294967296)), true, false, 0⟩)] })],
        recs := [(64, 0x1000000), (65, 0x64), (67, 0x320000), (69, 0x7), (88, 0x2000), (120, 0x80000000)],
        sqs := [(0, { Sq.reset with seg := (some ⟨false, false, 0, 0⟩), cmd := (some ⟨{ Desc.parse 0 [] with op := 3, p0 := 1, fin := true }, ([0x0, 0x0, 0x0, 0x1, 0x64] ++ List.replicate 9 0x0 ++ [0x32, 0x0, 0x0, 0x0, 0x0, 0x0, 0x7, 0x0, 0x0, 0x0, 0x0, 0x0, 0x0, 0x0, 0x1, 0x1] ++ List.replicate 67 0x0 ++ [0x20] ++ List.replicate 158 0x0), CmdSt.ready⟩) })],
        cqs := [(0, { Cq.reset with en := true, size := 2 })], pcie := { State.reset.pcie with bme := true, up := true } },
      ⟨rfl, rfl, rfl, rfl, by decide +kernel, rfl, rfl, rfl, rfl⟩, by decide +kernel⟩,
   ⟨0, { State.reset with
        sqs := [(0, { Sq.reset with seg := (some ⟨false, false, 0, 0⟩), cmd := (some ⟨{ Desc.parse 0 [] with op := 4, fin := true }, [], CmdSt.ready⟩) })],
        cqs := [(0, { Cq.reset with en := true, size := 2 })], pcie := { State.reset.pcie with bme := true, up := true } },
      ⟨rfl, rfl, rfl, rfl, by decide +kernel, rfl, rfl, rfl, rfl⟩, by decide +kernel⟩,
   ⟨0, 0, { State.reset with
        recs := [(56, 0x81a2efff)],
        sqs := [(0, { Sq.reset with run := true, size := 3, cq := 1, tail := 1, seg := (some ⟨true, false, 77, 2⟩), cmd := (some ⟨{ Desc.parse 0 [] with at_ := 64, cid := 77, op := 4, addr := 36864, fin := true }, ([0x0, 0x0, 0x0, 0x11] ++ List.replicate 10 0x0 ++ [0x32, 0x0, 0x0, 0x0, 0x0, 0x0, 0x7, 0x0, 0x0, 0x0, 0x0, 0x0, 0x0, 0x0, 0x1, 0x1] ++ List.replicate 67 0x0 ++ [0x20] ++ List.replicate 158 0x0), CmdSt.ready⟩) }), (1, { Sq.reset with run := true, size := 3, tail := 1, head := 1, seg := (some ⟨false, true, 77, 0⟩), cmd := (some ⟨{ Desc.parse 0 [] with at_ := 64, cid := 77, op := 4, addr := 36864, fin := true }, ([0x0, 0x0, 0x0, 0x11] ++ List.replicate 10 0x0 ++ [0x32, 0x0, 0x0, 0x0, 0x0, 0x0, 0x7, 0x0, 0x0, 0x0, 0x0, 0x0, 0x0, 0x0, 0x1, 0x1] ++ List.replicate 67 0x0 ++ [0x20] ++ List.replicate 158 0x0), CmdSt.ready⟩) })],
        cqs := [(0, { Cq.reset with en := true, size := 4, base := 0x1000, head := 1, tail := 1, phase := false }), (1, { Cq.reset with en := true, size := 3, base := 0x1000 })],
        pcie := { State.reset.pcie with bme := true, up := true } },
      ⟨rfl, rfl, rfl, rfl, by decide +kernel, rfl, rfl, rfl, rfl⟩, by decide +kernel⟩,
   ⟨0, { State.reset with
        recs := [(56, 0x81a2f000)],
        jobs := [{ job0 with seq := 7, cyc := 1, nominal := 500000, deadline := 1000, img := 4294967296, active := true }, { job0 with t := 1, seq := 9, cyc := 1, nominal := 500000, deadline := 1000, img := 4294967296 }],
        sqs := [(0, { Sq.reset with run := true, size := 3, cq := 1, tail := 1, head := 1, seg := (some ⟨false, false, 77, 2⟩), cmd := (some ⟨{ Desc.parse 0 [] with at_ := 64, cid := 77, op := 4, addr := 36864, fin := true }, ([0x0, 0x0, 0x0, 0x11, 0x64] ++ List.replicate 9 0x0 ++ [0x32, 0x0, 0x0, 0x0, 0x0, 0x0, 0x7, 0x0, 0x0, 0x0, 0x0, 0x0, 0x0, 0x0, 0x1, 0x1] ++ List.replicate 67 0x0 ++ [0x20] ++ List.replicate 158 0x0), CmdSt.ready⟩) }), (1, { Sq.reset with run := true, size := 3, cq := 1, tail := 1, head := 2, seg := (some ⟨false, true, 77, 2⟩), cmd := (some ⟨{ Desc.parse 0 [] with at_ := 64, cid := 77, op := 4, addr := 36864, fin := true }, ([0x0, 0x0, 0x0, 0x11, 0x64] ++ List.replicate 9 0x0 ++ [0x32, 0x0, 0x0, 0x0, 0x0, 0x0, 0x7, 0x0, 0x0, 0x0, 0x0, 0x0, 0x0, 0x0, 0x1, 0x1] ++ List.replicate 67 0x0 ++ [0x20] ++ List.replicate 158 0x0), CmdSt.ready⟩) })],
        cqs := [(0, { Cq.reset with en := true, size := 4, base := 0x1000, head := 1, phase := false }), (1, { Cq.reset with en := true, size := 4, base := 0x1000, tail := 2 })],
        pcie := { State.reset.pcie with bme := true, up := true } },
      ⟨rfl, rfl, rfl, rfl, by decide +kernel, rfl, rfl, rfl, rfl⟩, by decide +kernel⟩,
   ⟨0, { State.reset with
        recs := [(56, 0x80a2e000)],
        jobs := [{ job0 with seq := 7, cyc := 1, nominal := 500000, deadline := 1000, img := 4294967296, active := true }, { job0 with seq := 8, cyc := 1, nominal := 500000, deadline := 1000, img := 4294967296 }, { job0 with seq := 9, cyc := 1, nominal := 500000, deadline := 1000, img := 4294967296 }],
        sqs := [(0, { Sq.reset with run := true, size := 3, cq := 1, tail := 1, head := 2, seg := (some ⟨false, true, 77, 1⟩), cmd := (some ⟨{ Desc.parse 0 [] with at_ := 64, cid := 77, op := 4, addr := 36864, fin := true }, ([0x0, 0x0, 0x0, 0x11, 0x64] ++ List.replicate 9 0x0 ++ [0x32, 0x0, 0x0, 0x0, 0x0, 0x0, 0x7, 0x0, 0x0, 0x0, 0x0, 0x0, 0x0, 0x0, 0x1, 0x1] ++ List.replicate 67 0x0 ++ [0x20] ++ List.replicate 158 0x0), CmdSt.ready⟩) }), (1, { Sq.reset with run := true, size := 3, cq := 1, tail := 1, seg := (some ⟨false, false, 77, 0⟩), cmd := (some ⟨{ Desc.parse 0 [] with at_ := 64, cid := 77, op := 4, addr := 36864, fin := true }, ([0x0, 0x0, 0x0, 0x11, 0x64] ++ List.replicate 9 0x0 ++ [0x32, 0x0, 0x0, 0x0, 0x0, 0x0, 0x7, 0x0, 0x0, 0x0, 0x0, 0x0, 0x0, 0x0, 0x1, 0x1] ++ List.replicate 67 0x0 ++ [0x20] ++ List.replicate 158 0x0), CmdSt.ready⟩) })],
        cqs := [(0, { Cq.reset with en := true, size := 3, base := 0x1000, head := 1, tail := 2, phase := false }), (1, { Cq.reset with en := true, size := 4, base := 0x1000, tail := 2, phase := false })],
        pcie := { State.reset.pcie with bme := true, up := true } },
      ⟨rfl, rfl, rfl, rfl, by decide +kernel, rfl, rfl, rfl, rfl⟩, by decide +kernel⟩,
   ⟨0, { State.reset with
        sqs := [(0, { Sq.reset with cq := 1, seg := (some ⟨false, false, 0, 0⟩), cmd := (some ⟨{ Desc.parse 0 [] with op := 6, p0 := 256, fin := true }, [], CmdSt.ready⟩) })],
        cqs := [(1, { Cq.reset with en := true, size := 2 })], pcie := { State.reset.pcie with bme := true, up := true } },
      ⟨rfl, rfl, rfl, rfl, by decide +kernel, rfl, rfl, rfl, rfl⟩, by decide +kernel⟩,
   ⟨0, { State.reset with
        hostPins := [(2, 4294967296)],
        sqs := [(0, { Sq.reset with seg := (some ⟨false, false, 0, 0⟩), cmd := (some ⟨{ Desc.parse 0 [] with op := 6, p0 := 258, addr := 4294967296, fin := true }, [], CmdSt.ready⟩) })],
        cqs := [(0, { Cq.reset with en := true, size := 2 })], pcie := { State.reset.pcie with bme := true, up := true } },
      ⟨rfl, rfl, rfl, rfl, by decide +kernel, rfl, rfl, rfl, rfl⟩, by decide +kernel⟩,
   ⟨0, { State.reset with
        sqs := [(0, { Sq.reset with seg := (some ⟨false, false, 0, 0⟩), cmd := (some ⟨{ Desc.parse 0 [] with op := 6, fin := true }, [], CmdSt.ready⟩) })],
        cqs := [(0, { Cq.reset with en := true, size := 2 })], pcie := { State.reset.pcie with bme := true, up := true } },
      ⟨rfl, rfl, rfl, rfl, by decide +kernel, rfl, rfl, rfl, rfl⟩, by decide +kernel⟩,
   ⟨0, { State.reset with
        clusters := [(0, { Cluster.reset with frames := [(3, ⟨(some (PageId.image false 4294967296)), true, false, 0⟩)] })],
        sqs := [(0, { Sq.reset with seg := (some ⟨false, false, 0, 0⟩), cmd := (some ⟨{ Desc.parse 0 [] with op := 6, addr := 4294967296, fin := true }, [], CmdSt.ready⟩) })],
        cqs := [(0, { Cq.reset with en := true, size := 2 })], pcie := { State.reset.pcie with bme := true, up := true },
        doms := domsOn [0] },
      ⟨rfl, rfl, rfl, rfl, by decide +kernel, rfl, rfl, rfl, rfl⟩, by decide +kernel⟩,
   ⟨0, { State.reset with
        sqs := [(0, { Sq.reset with seg := (some ⟨false, false, 0, 0⟩), cmd := (some ⟨{ Desc.parse 0 [] with op := 15, fin := true }, (List.replicate 32 0x0), CmdSt.ready⟩) })],
        cqs := [(0, { Cq.reset with en := true, size := 2 })], pcie := { State.reset.pcie with bme := true, up := true } },
      ⟨rfl, rfl, rfl, rfl, by decide +kernel, rfl, rfl, rfl, rfl⟩, by decide +kernel⟩,
   ⟨0, { State.reset with
        partRec := [(0, 0x80000000), (6, 0x2)],
        sqs := [(0, { Sq.reset with cq := 1, seg := (some ⟨false, false, 0, 0⟩), cmd := (some ⟨{ Desc.parse 0 [] with op := 15, fin := true }, ([0x0, 0x0, 0x0, 0xa, 0x1, 0x2, 0x0, 0x0, 0x1] ++ List.replicate 10 0x0 ++ [0x1] ++ List.replicate 12 0x0), CmdSt.ready⟩) })],
        cqs := [(1, { Cq.reset with en := true, size := 2 })], pcie := { State.reset.pcie with bme := true, up := true } },
      ⟨rfl, rfl, rfl, rfl, by decide +kernel, rfl, rfl, rfl, rfl⟩, by decide +kernel⟩,
   ⟨0, { State.reset with
        partRec := [(0, 0x80000000), (6, 0x2)],
        sqs := [(0, { Sq.reset with seg := (some ⟨false, false, 0, 0⟩), cmd := (some ⟨{ Desc.parse 0 [] with op := 15, fin := true }, ([0x0, 0x0, 0x0, 0x8a, 0x1, 0x2, 0x0, 0x0, 0x1] ++ List.replicate 10 0x0 ++ [0x1] ++ List.replicate 12 0x0), CmdSt.ready⟩) })],
        cqs := [(0, { Cq.reset with en := true, size := 2 })], pcie := { State.reset.pcie with bme := true, up := true } },
      ⟨rfl, rfl, rfl, rfl, by decide +kernel, rfl, rfl, rfl, rfl⟩, by decide +kernel⟩,
   ⟨0, { State.reset with
        sqs := [(0, { Sq.reset with seg := (some ⟨false, false, 0, 0⟩), cmd := (some ⟨{ Desc.parse 0 [] with op := 17, fin := true }, [], CmdSt.ready⟩) })],
        cqs := [(0, { Cq.reset with en := true, size := 2 })], pcie := { State.reset.pcie with bme := true, up := true } },
      ⟨rfl, rfl, rfl, rfl, by decide +kernel, rfl, rfl, rfl, rfl⟩, by decide +kernel⟩,
   ⟨0, { State.reset with
        gens := [(0, { Gen.reset with st := 4 }), (1, { Gen.reset with st := 3, num := 6 })],
        sqs := [(0, { Sq.reset with seg := (some ⟨false, false, 0, 0⟩), cmd := (some ⟨{ Desc.parse 0 [] with op := 17, p0 := 6, fin := true }, [], CmdSt.ready⟩) })],
        cqs := [(0, { Cq.reset with en := true, size := 2 })], pcie := { State.reset.pcie with bme := true, up := true } },
      ⟨rfl, rfl, rfl, rfl, by decide +kernel, rfl, rfl, rfl, rfl⟩, by decide +kernel⟩,
   ⟨0, { State.reset with
        gens := [(1, { Gen.reset with st := 3, num := 6 })],
        sqs := [(0, { Sq.reset with seg := (some ⟨false, false, 0, 0⟩), cmd := (some ⟨{ Desc.parse 0 [] with op := 17, p0 := 6, fin := true }, [], CmdSt.ready⟩) })],
        cqs := [(0, { Cq.reset with en := true, size := 2 })], pcie := { State.reset.pcie with bme := true, up := true } },
      ⟨rfl, rfl, rfl, rfl, by decide +kernel, rfl, rfl, rfl, rfl⟩, by decide +kernel⟩,
   ⟨0, { State.reset with
        sqs := [(0, { Sq.reset with seg := (some ⟨false, false, 0, 0⟩), cmd := (some ⟨{ Desc.parse 0 [] with op := 18, fin := true }, [], CmdSt.ready⟩) })],
        cqs := [(0, { Cq.reset with en := true, size := 2 })], pcie := { State.reset.pcie with bme := true, up := true } },
      ⟨rfl, rfl, rfl, rfl, by decide +kernel, rfl, rfl, rfl, rfl⟩, by decide +kernel⟩,
   ⟨0, { State.reset with
        gens := [(0, { Gen.reset with st := 3, num := 5 })],
        sqs := [(0, { Sq.reset with seg := (some ⟨false, false, 0, 0⟩), cmd := (some ⟨{ Desc.parse 0 [] with op := 18, p0 := 5, fin := true }, [], CmdSt.ready⟩) })],
        cqs := [(0, { Cq.reset with en := true, size := 2 })], pcie := { State.reset.pcie with bme := true, up := true } },
      ⟨rfl, rfl, rfl, rfl, by decide +kernel, rfl, rfl, rfl, rfl⟩, by decide +kernel⟩,
   ⟨0, { State.reset with
        ridge := { State.reset.ridge with stopped := true },
        sqs := [(0, { Sq.reset with seg := (some ⟨false, false, 0, 0⟩), cmd := (some ⟨{ Desc.parse 0 [] with op := 19, fin := true }, [], CmdSt.ready⟩) })],
        cqs := [(0, { Cq.reset with en := true, size := 2 })], pcie := { State.reset.pcie with bme := true, up := true } },
      ⟨rfl, rfl, rfl, rfl, by decide +kernel, rfl, rfl, rfl, rfl⟩, by decide +kernel⟩,
   ⟨0, { State.reset with
        ridge := { State.reset.ridge with clearing := false },
        sqs := [(0, { Sq.reset with seg := (some ⟨false, false, 0, 0⟩), cmd := (some ⟨{ Desc.parse 0 [] with op := 19, fin := true }, (List.replicate 24 0x0 ++ [0x2] ++ List.replicate 39 0x0), CmdSt.ready⟩) })],
        cqs := [(0, { Cq.reset with en := true, size := 2 })], pcie := { State.reset.pcie with bme := true, up := true },
        misc := { State.reset.misc with boot := BootPh.done } },
      ⟨rfl, rfl, rfl, rfl, by decide +kernel, rfl, rfl, rfl, rfl⟩, by decide +kernel⟩⟩

/-- The premises of PowerCommands, clause by clause. -/
theorem witness_PowerCommands :
    (∃ (q : Fin 64) (c : Fin 32) (i : Nat) (s : State),
    let d := (s.sq q).desc
    let e := d.p0 % 64
    let calm : Bool := s.tasks.all (fun e => !e.2.homeLost) && (List.range 64).all (fun i => !s.waits i 0x16)
    s.Lone q ∧
    d.op = 0x16 ∧
    d.p1 = 2 ^ c.val ∧
    d.p0 < 8 ∧
    s.homedOn c = [] ∧
    calm = true ∧
    (s.dom c).st = .on ∧
    (s.cluster c).newStep = none ∧
    (s.dom c).step ≠ d.p0) ∧
    (∃ (q : Fin 64) (c : Fin 32) (i : Nat) (s : State),
    let d := (s.sq q).desc
    let e := d.p0 % 64
    let calm : Bool := s.tasks.all (fun e => !e.2.homeLost) && (List.range 64).all (fun i => !s.waits i 0x16)
    s.Lone q ∧
    d.op = 0x16 ∧
    d.p1 = 2 ^ c.val ∧
    d.p0 < 8 ∧
    s.homedOn c = [] ∧
    calm = true ∧
    (s.dom c).st = .on ∧
    (s.cluster c).newStep = none ∧
    (s.dom c).step = d.p0) ∧
    (∃ (q : Fin 64) (c : Fin 32) (i : Nat) (s : State),
    let d := (s.sq q).desc
    let e := d.p0 % 64
    let calm : Bool := s.tasks.all (fun e => !e.2.homeLost) && (List.range 64).all (fun i => !s.waits i 0x16)
    s.Lone q ∧
    d.op = 0x16 ∧
    d.p1 = 2 ^ c.val ∧
    d.p0 < 8 ∧
    s.homedOn c = [] ∧
    calm = true ∧
    (s.dom c).st = .off) ∧
    (∃ (q : Fin 64) (c : Fin 32) (s : State),
    let d := (s.sq q).desc
    s.Lone q ∧
    d.op = 0x16 ∧
    d.p1 = 2 ^ c.val ∧
    d.p0 < 8 ∧
    (∃ u ∈ s.homedOn c, (s.recOf u).checked = true) ∧
    (s.dom c).st = .on ∧
    s.stepOf (mate c) ≠ d.p0) ∧
    (∃ (q : Fin 64) (s : State),
    let d := (s.sq q).desc
    let e := d.p0 % 64
    let x := s.dom e
    s.Lone q ∧
    d.op = 0x17 ∧
    d.p0 < 32 ∧
    x.st = .on ∧
    x.cmds = [] ∧
    s.jobs = [] ∧
    s.homedOn d.p0 = []) ∧
    (∃ (q : Fin 64) (i : Nat) (j : Nat) (s : State),
    let d := (s.sq q).desc
    let e := d.p0 % 64
    let x := s.dom e
    s.Lone q ∧
    d.op = 0x17 ∧
    d.p0 < 32 ∧
    x.st = .on ∧
    x.cmds = [] ∧
    s.jobs = [] ∧
    let off := s.setDomSt d.p0 .drain
    let lost := off.setTask i { s.task i with homeLost := true }
    s.homedOn d.p0 = [i] ∧
    lost.findHome (s.recOf i) = .inr j ∧
    j < 256) ∧
    (∃ (q : Fin 64) (i : Nat) (j : Nat) (s : State),
    let d := (s.sq q).desc
    let e := d.p0 % 64
    let x := s.dom e
    s.Lone q ∧
    d.op = 0x17 ∧
    d.p0 < 32 ∧
    x.st = .on ∧
    x.cmds = [] ∧
    s.jobs = [] ∧
    let off := s.setDomSt d.p0 .drain
    let lost := off.setTask i { s.task i with homeLost := true }
    s.homedOn d.p0 = [i] ∧
    lost.findHome (s.recOf i) = .inl j ∧
    j < 32) ∧
    (∃ (q : Fin 64) (i : Nat) (s : State),
    let d := (s.sq q).desc
    let e := d.p0 % 64
    let x := s.dom e
    let calm : Bool := s.tasks.all (fun e => !e.2.homeLost) && (List.range 64).all (fun i => !s.waits i 0x16)
    s.Lone q ∧
    d.op = 0x17 ∧
    calm = true ∧
    x.cmds = [] ∧
    256 ≤ d.p0 ∧
    d.p0 < 512 ∧
    x.st = .on) ∧
    (∃ (q : Fin 64) (i : Nat) (s : State),
    let d := (s.sq q).desc
    let e := d.p0 % 64
    let x := s.dom e
    let calm : Bool := s.tasks.all (fun e => !e.2.homeLost) && (List.range 64).all (fun i => !s.waits i 0x16)
    s.Lone q ∧
    d.op = 0x17 ∧
    calm = true ∧
    x.cmds = [] ∧
    d.p0 < 64 ∧
    x.st = .off) ∧
    (∃ (q : Fin 64) (i : Nat) (s : State),
    let d := (s.sq q).desc
    let e := d.p0 % 64
    let x := s.dom e
    let calm : Bool := s.tasks.all (fun e => !e.2.homeLost) && (List.range 64).all (fun i => !s.waits i 0x16)
    s.Lone q ∧
    d.op = 0x17 ∧
    calm = true ∧
    x.cmds = [] ∧
    256 ≤ d.p0 ∧
    d.p0 < 512 ∧
    x.st = .off) ∧
    (∃ (q : Fin 64) (i : Nat) (s : State),
    let d := (s.sq q).desc
    let e := d.p0 % 64
    let x := s.dom e
    let calm : Bool := s.tasks.all (fun e => !e.2.homeLost) && (List.range 64).all (fun i => !s.waits i 0x16)
    s.Lone q ∧
    d.op = 0x17 ∧
    calm = true ∧
    x.cmds = [] ∧
    256 ≤ d.p0 ∧
    d.p0 < 512 ∧
    (x.st = .ramp ∨ x.st = .clear ∨ x.st = .drain)) ∧
    (∃ (q : Fin 64) (i : Nat) (s : State),
    let d := (s.sq q).desc
    let e := d.p0 % 64
    let x := s.dom e
    let calm : Bool := s.tasks.all (fun e => !e.2.homeLost) && (List.range 64).all (fun i => !s.waits i 0x16)
    s.Lone q ∧
    d.op = 0x17 ∧
    calm = true ∧
    x.cmds = [] ∧
    32 ≤ d.p0 ∧
    d.p0 < 40 ∧
    x.st = .on ∧
    s.admitted ≠ []) ∧
    (∃ (q : Fin 64) (i : Nat) (s : State),
    let d := (s.sq q).desc
    let e := d.p0 % 64
    let x := s.dom e
    let calm : Bool := s.tasks.all (fun e => !e.2.homeLost) && (List.range 64).all (fun i => !s.waits i 0x16)
    s.Lone q ∧
    d.op = 0x17 ∧
    calm = true ∧
    x.cmds = [] ∧
    (d.p0 = 44 ∨ d.p0 = 45) ∧
    x.st = .on ∧
    s.groupRuns (d.p0 - 44) = true) ∧
    (∃ (q : Fin 64) (i : Nat) (s : State),
    let d := (s.sq q).desc
    let e := d.p0 % 64
    let x := s.dom e
    let calm : Bool := s.tasks.all (fun e => !e.2.homeLost) && (List.range 64).all (fun i => !s.waits i 0x16)
    s.Lone q ∧
    d.op = 0x17 ∧
    calm = true ∧
    x.cmds = [] ∧
    (d.p0 = 44 ∨ d.p0 = 45) ∧
    x.st = .on ∧
    s.groupRuns (d.p0 - 44) = false) ∧
    (∃ (q : Fin 64) (i : Nat) (s : State),
    let d := (s.sq q).desc
    let e := d.p0 % 64
    let x := s.dom e
    let calm : Bool := s.tasks.all (fun e => !e.2.homeLost) && (List.range 64).all (fun i => !s.waits i 0x16)
    s.Lone q ∧
    d.op = 0x17 ∧
    calm = true ∧
    x.cmds = [] ∧
    40 ≤ d.p0 ∧
    d.p0 < 44 ∧
    x.st = .on) ∧
    (∃ (q : Fin 64) (s : State),
    let d := (s.sq q).desc
    let args := (s.sq q).args
    let a := leNat (args.take 5) - 0x100000000
    let n := leNat ((args.drop 8).take 4)
    s.Lone q ∧
    d.op = 0x13 ∧
    args.length = 64 ∧
    s.ridge.stopped = false ∧
    s.ridge.clearing = false ∧
    s.misc.boot = .done ∧
    (∀ g : Nat, g < 12 → s.isOn (32 + g) = true) ∧
    s.reg (.shgRun 0) = 0 ∧
    s.reg (.shgRun 1) = 0 ∧
    s.storeBad = [] ∧
    loadParamsOk args = true ∧
    0x100000000 ≤ leNat (args.take 5) ∧
    a + n ≤ 0x2000000 ∧
    n < 36) ∧
    (∃ (q : Fin 64) (i : Nat) (s : State),
    let d := (s.sq q).desc
    let args := (s.sq q).args
    let a := leNat (args.take 5) - 0x100000000
    let n := leNat ((args.drop 8).take 4)
    let im := (List.range n).map (fun i => Memory.read s.store (a + i))
    s.Lone q ∧
    d.op = 0x13 ∧
    args.length = 64 ∧
    s.ridge.stopped = false ∧
    s.ridge.clearing = false ∧
    s.misc.boot = .done ∧
    (∀ g : Nat, g < 12 → s.isOn (32 + g) = true) ∧
    s.reg (.shgRun 0) = 0 ∧
    s.reg (.shgRun 1) = 0 ∧
    s.storeBad = [] ∧
    loadParamsOk args = true ∧
    0x100000000 ≤ leNat (args.take 5) ∧
    a + n ≤ 0x2000000 ∧
    36 ≤ n ∧
    n ≤ 32800 ∧
    imageFormatOk im = false) ∧
    (∃ (q : Fin 64) (i : Nat) (s : State),
    let d := (s.sq q).desc
    let args := (s.sq q).args
    let a := leNat (args.take 5) - 0x100000000
    let n := leNat ((args.drop 8).take 4)
    let im := (List.range n).map (fun i => Memory.read s.store (a + i))
    s.Lone q ∧
    d.op = 0x13 ∧
    args.length = 64 ∧
    s.ridge.stopped = false ∧
    s.ridge.clearing = false ∧
    s.misc.boot = .done ∧
    (∀ g : Nat, g < 12 → s.isOn (32 + g) = true) ∧
    s.reg (.shgRun 0) = 0 ∧
    s.reg (.shgRun 1) = 0 ∧
    s.storeBad = [] ∧
    loadParamsOk args = true ∧
    0x100000000 ≤ leNat (args.take 5) ∧
    a + n ≤ 0x2000000 ∧
    36 ≤ n ∧
    imageFormatOk im = true ∧
    (crc32c im).toNat ≠ leNat ((args.drop 12).take 4)) ∧
    (∃ (q : Fin 64) (i : Nat) (s : State),
    let d := (s.sq q).desc
    let args := (s.sq q).args
    let a := leNat (args.take 5) - 0x100000000
    let n := leNat ((args.drop 8).take 4)
    let im := (List.range n).map (fun i => Memory.read s.store (a + i))
    s.Lone q ∧
    d.op = 0x13 ∧
    args.length = 64 ∧
    s.ridge.stopped = false ∧
    s.ridge.clearing = false ∧
    s.misc.boot = .done ∧
    (∀ g : Nat, g < 12 → s.isOn (32 + g) = true) ∧
    s.reg (.shgRun 0) = 0 ∧
    s.reg (.shgRun 1) = 0 ∧
    s.storeBad = [] ∧
    loadParamsOk args = true ∧
    0x100000000 ≤ leNat (args.take 5) ∧
    a + n ≤ 0x2000000 ∧
    36 ≤ n ∧
    imageFormatOk im = true ∧
    (crc32c im).toNat = leNat ((args.drop 12).take 4) ∧
    args.getD 24 0 = 1 ∧
    sha256 im ≠ (args.drop 32).take 32) ∧
    (∃ (q : Fin 64) (i : Nat) (s : State),
    let d := (s.sq q).desc
    let args := (s.sq q).args
    let a := leNat (args.take 5) - 0x100000000
    let n := leNat ((args.drop 8).take 4)
    let im := (List.range n).map (fun i => Memory.read s.store (a + i))
    s.Lone q ∧
    d.op = 0x13 ∧
    args.length = 64 ∧
    s.ridge.stopped = false ∧
    s.ridge.clearing = false ∧
    s.misc.boot = .done ∧
    (∀ g : Nat, g < 12 → s.isOn (32 + g) = true) ∧
    s.reg (.shgRun 0) = 0 ∧
    s.reg (.shgRun 1) = 0 ∧
    s.storeBad = [] ∧
    loadParamsOk args = true ∧
    0x100000000 ≤ leNat (args.take 5) ∧
    a + n ≤ 0x2000000 ∧
    36 ≤ n ∧
    imageFormatOk im = true ∧
    (crc32c im).toNat = leNat ((args.drop 12).take 4) ∧
    args.getD 24 0 = 0 ∧
    s.reg .memClearOther = 0) :=
  ⟨⟨0, 0, 0, { State.reset with
        sqs := [(0, { Sq.reset with seg := (some ⟨false, false, 0, 0⟩), cmd := (some ⟨{ Desc.parse 0 [] with op := 22, p1 := 1, fin := true }, [], CmdSt.ready⟩) })],
        cqs := [(0, { Cq.reset with en := true, size := 2 })], pcie := { State.reset.pcie with bme := true, up := true },
        doms := [(0, ⟨DomSt.on, 1, []⟩)] },
      ⟨rfl, rfl, rfl, rfl, by decide +kernel, rfl, rfl, rfl, rfl⟩, by decide +kernel⟩,
   ⟨0, 0, 0, { State.reset with
        sqs := [(0, { Sq.reset with seg := (some ⟨false, false, 0, 0⟩), cmd := (some ⟨{ Desc.parse 0 [] with op := 22, p0 := 7, p1 := 1, fin := true }, [], CmdSt.ready⟩) })],
        cqs := [(0, { Cq.reset with en := true, size := 2 })], pcie := { State.reset.pcie with bme := true, up := true },
        doms := [(0, ⟨DomSt.on, 7, []⟩)] },
      ⟨rfl, rfl, rfl, rfl, by decide +kernel, rfl, rfl, rfl, rfl⟩, by decide +kernel⟩,
   ⟨1, 1, 0, { State.reset with
        sqs := [(1, { Sq.reset with seg := (some ⟨false, false, 0, 0⟩), cmd := (some ⟨{ Desc.parse 0 [] with op := 22, p1 := 2, fin := true }, [], CmdSt.ready⟩) })],
        cqs := [(0, { Cq.reset with en := true, size := 2 })], pcie := { State.reset.pcie with bme := true, up := true } },
      ⟨rfl, rfl, rfl, rfl, by decide +kernel, rfl, rfl, rfl, rfl⟩, by decide +kernel⟩,
   ⟨0, 1, { State.reset with
        recs := [(64, 0x8a29000), (120, 0x80000000)],
        sqs := [(0, { Sq.reset with run := true, size := 3, tail := 1, head := 2, seg := (some ⟨true, false, 77, 1⟩), cmd := (some ⟨{ Desc.parse 0 [] with at_ := 64, cid := 77, op := 22, p0 := 4, p1 := 2, fin := true }, [], CmdSt.ready⟩) }), (1, { Sq.reset with run := true, size := 3, tail := 1, head := 1, seg := (some ⟨true, false, 77, 0⟩), cmd := (some ⟨{ Desc.parse 0 [] with at_ := 64, cid := 77, op := 22, p0 := 4, p1 := 2, fin := true }, [], CmdSt.ready⟩) })],
        cqs := [(0, { Cq.reset with en := true, size := 3, base := 0x1000, head := 1, tail := 1, phase := false }), (1, { Cq.reset with en := true, size := 4, base := 0x1000, tail := 2 })],
        pcie := { State.reset.pcie with bme := true, up := true },
        doms := [(1, ⟨DomSt.on, 7, []⟩), (2, ⟨DomSt.on, 7, []⟩), (3, ⟨DomSt.on, 7, []⟩), (4, ⟨DomSt.on, 7, []⟩), (5, ⟨DomSt.on, 7, []⟩), (6, ⟨DomSt.on, 7, []⟩), (7, ⟨DomSt.on, 7, []⟩), (8, ⟨DomSt.on, 7, []⟩), (9, ⟨DomSt.on, 7, []⟩), (10, ⟨DomSt.on, 7, []⟩), (11, ⟨DomSt.on, 7, []⟩), (12, ⟨DomSt.on, 7, []⟩), (13, ⟨DomSt.on, 7, []⟩), (14, ⟨DomSt.on, 7, []⟩), (15, ⟨DomSt.on, 7, []⟩), (16, ⟨DomSt.on, 7, []⟩), (17, ⟨DomSt.on, 7, []⟩), (18, ⟨DomSt.on, 7, []⟩), (19, ⟨DomSt.on, 7, []⟩), (20, ⟨DomSt.on, 7, []⟩), (21, ⟨DomSt.on, 7, []⟩), (22, ⟨DomSt.on, 7, []⟩), (23, ⟨DomSt.on, 7, []⟩), (24, ⟨DomSt.on, 7, []⟩), (25, ⟨DomSt.on, 7, []⟩), (26, ⟨DomSt.on, 7, []⟩), (27, ⟨DomSt.on, 7, []⟩), (28, ⟨DomSt.on, 7, []⟩), (29, ⟨DomSt.on, 7, []⟩), (30, ⟨DomSt.on, 7, []⟩), (31, ⟨DomSt.on, 7, []⟩), (32, ⟨DomSt.on, 7, []⟩), (33, ⟨DomSt.on, 7, []⟩), (34, ⟨DomSt.on, 7, []⟩), (35, ⟨DomSt.on, 7, []⟩), (36, ⟨DomSt.on, 7, []⟩), (37, ⟨DomSt.on, 7, []⟩), (38, ⟨DomSt.on, 7, []⟩), (39, ⟨DomSt.on, 7, []⟩), (40, ⟨DomSt.on, 7, []⟩), (41, ⟨DomSt.on, 7, []⟩), (42, ⟨DomSt.on, 7, []⟩), (43, ⟨DomSt.on, 7, []⟩), (44, ⟨DomSt.on, 7, []⟩), (45, ⟨DomSt.on, 7, []⟩), (47, ⟨DomSt.on, 7, []⟩)] },
      ⟨rfl, rfl, rfl, rfl, by decide +kernel, rfl, rfl, rfl, rfl⟩, by decide +kernel⟩,
   ⟨0, { State.reset with
        sqs := [(0, { Sq.reset with cq := 1, seg := (some ⟨false, false, 0, 0⟩), cmd := (some ⟨{ Desc.parse 0 [] with op := 23, fin := true }, [], CmdSt.ready⟩) })],
        cqs := [(1, { Cq.reset with en := true, size := 2 })], pcie := { State.reset.pcie with bme := true, up := true },
        doms := domsOn [0] },
      ⟨rfl, rfl, rfl, rfl, by decide +kernel, rfl, rfl, rfl, rfl⟩, by decide +kernel⟩,
   ⟨0, 0, 8, { State.reset with
        recs := [(56, 0x80000000)],
        sqs := [(0, { Sq.reset with cq := 1, seg := (some ⟨false, false, 0, 0⟩), cmd := (some ⟨{ Desc.parse 0 [] with op := 23, fin := true }, [], CmdSt.ready⟩) })],
        cqs := [(1, { Cq.reset with en := true, size := 2 })], pcie := { State.reset.pcie with bme := true, up := true },
        doms := domsOn [0] },
      ⟨rfl, rfl, rfl, rfl, by decide +kernel, rfl, rfl, rfl, rfl⟩, by decide +kernel⟩,
   ⟨0, 0, 1, { State.reset with
        recs := [(1, 0x3E8), (5, 0x2), (56, 0x80000000)],
        sqs := [(0, { Sq.reset with cq := 1, seg := (some ⟨false, false, 0, 0⟩), cmd := (some ⟨{ Desc.parse 0 [] with op := 23, fin := true }, [], CmdSt.ready⟩) })],
        cqs := [(1, { Cq.reset with en := true, size := 2 })], pcie := { State.reset.pcie with bme := true, up := true },
        doms := domsOn [0, 1] },
      ⟨rfl, rfl, rfl, rfl, by decide +kernel, rfl, rfl, rfl, rfl⟩, by decide +kernel⟩,
   ⟨1, 0, { State.reset with
        sqs := [(1, { Sq.reset with cq := 1, seg := (some ⟨false, false, 0, 0⟩), cmd := (some ⟨{ Desc.parse 0 [] with op := 23, p0 := 257, fin := true }, [], CmdSt.ready⟩) })],
        cqs := [(1, { Cq.reset with en := true, size := 2 })], pcie := { State.reset.pcie with bme := true, up := true },
        doms := domsOn [1] },
      ⟨rfl, rfl, rfl, rfl, by decide +kernel, rfl, rfl, rfl, rfl⟩, by decide +kernel⟩,
   ⟨0, 0, { State.reset with
        sqs := [(0, { Sq.reset with seg := (some ⟨false, false, 0, 0⟩), cmd := (some ⟨{ Desc.parse 0 [] with op := 23, fin := true }, [], CmdSt.ready⟩) })],
        cqs := [(0, { Cq.reset with en := true, size := 2 })], pcie := { State.reset.pcie with bme := true, up := true } },
      ⟨rfl, rfl, rfl, rfl, by decide +kernel, rfl, rfl, rfl, rfl⟩, by decide +kernel⟩,
   ⟨0, 0, { State.reset with
        sqs := [(0, { Sq.reset with seg := (some ⟨false, false, 0, 0⟩), cmd := (some ⟨{ Desc.parse 0 [] with op := 23, p0 := 256, fin := true }, [], CmdSt.ready⟩) })],
        cqs := [(0, { Cq.reset with en := true, size := 2 })], pcie := { State.reset.pcie with bme := true, up := true } },
      ⟨rfl, rfl, rfl, rfl, by decide +kernel, rfl, rfl, rfl, rfl⟩, by decide +kernel⟩,
   ⟨0, 0, { State.reset with
        sqs := [(0, { Sq.reset with seg := (some ⟨false, false, 0, 0⟩), cmd := (some ⟨{ Desc.parse 0 [] with op := 23, p0 := 297, fin := true }, [], CmdSt.ready⟩) })],
        cqs := [(0, { Cq.reset with en := true, size := 2 })], pcie := { State.reset.pcie with bme := true, up := true },
        doms := [(41, ⟨DomSt.ramp, 0, []⟩)] },
      ⟨rfl, rfl, rfl, rfl, by decide +kernel, rfl, rfl, rfl, rfl⟩, by decide +kernel⟩,
   ⟨0, 0, { State.reset with
        recs := [(120, 0x80a2d000)],
        sqs := [(0, { Sq.reset with run := true, size := 3, tail := 1, seg := (some ⟨true, false, 77, 2⟩), cmd := (some ⟨{ Desc.parse 0 [] with at_ := 64, cid := 77, op := 23, p0 := 34, fin := true }, [], CmdSt.ready⟩) }), (1, { Sq.reset with run := true, size := 3, tail := 1, head := 1, seg := (some ⟨true, true, 77, 1⟩), cmd := (some ⟨{ Desc.parse 0 [] with at_ := 64, cid := 77, op := 23, p0 := 34, fin := true }, [], CmdSt.ready⟩) })],
        cqs := [(0, { Cq.reset with en := true, size := 3, base := 0x1000, tail := 1, phase := false }), (1, { Cq.reset with en := true, ien := true, size := 4, base := 0x1000, phase := false })],
        pcie := { State.reset.pcie with bme := true, up := true },
        doms := [(0, ⟨DomSt.on, 7, []⟩), (1, ⟨DomSt.on, 7, []⟩), (2, ⟨DomSt.on, 7, []⟩), (3, ⟨DomSt.on, 7, []⟩), (4, ⟨DomSt.on, 7, []⟩), (5, ⟨DomSt.on, 7, []⟩), (6, ⟨DomSt.on, 7, []⟩), (7, ⟨DomSt.on, 7, []⟩), (8, ⟨DomSt.on, 7, []⟩), (9, ⟨DomSt.on, 7, []⟩), (10, ⟨DomSt.on, 7, []⟩), (11, ⟨DomSt.on, 7, []⟩), (12, ⟨DomSt.on, 7, []⟩), (13, ⟨DomSt.on, 7, []⟩), (14, ⟨DomSt.on, 7, []⟩), (15, ⟨DomSt.on, 7, []⟩), (16, ⟨DomSt.on, 7, []⟩), (17, ⟨DomSt.on, 7, []⟩), (18, ⟨DomSt.on, 7, []⟩), (19, ⟨DomSt.on, 7, []⟩), (20, ⟨DomSt.on, 7, []⟩), (21, ⟨DomSt.on, 7, []⟩), (22, ⟨DomSt.on, 7, []⟩), (23, ⟨DomSt.on, 7, []⟩), (24, ⟨DomSt.on, 7, []⟩), (25, ⟨DomSt.on, 7, []⟩), (26, ⟨DomSt.on, 7, []⟩), (27, ⟨DomSt.on, 7, []⟩), (28, ⟨DomSt.on, 7, []⟩), (29, ⟨DomSt.on, 7, []⟩), (30, ⟨DomSt.on, 7, []⟩), (31, ⟨DomSt.on, 7, []⟩), (32, ⟨DomSt.on, 7, []⟩), (33, ⟨DomSt.on, 7, []⟩), (34, ⟨DomSt.on, 7, []⟩), (35, ⟨DomSt.on, 7, []⟩), (36, ⟨DomSt.on, 7, []⟩), (37, ⟨DomSt.on, 7, []⟩), (38, ⟨DomSt.on, 7, []⟩), (39, ⟨DomSt.on, 7, []⟩), (40, ⟨DomSt.on, 7, []⟩), (41, ⟨DomSt.on, 7, []⟩), (42, ⟨DomSt.on, 7, []⟩), (43, ⟨DomSt.on, 7, []⟩), (44, ⟨DomSt.on, 7, []⟩), (45, ⟨DomSt.on, 7, []⟩), (47, ⟨DomSt.on, 7, []⟩)] },
      ⟨rfl, rfl, rfl, rfl, by decide +kernel, rfl, rfl, rfl, rfl⟩, by decide +kernel⟩,
   ⟨0, 0, { State.reset with
        lanes := [(0, { Lane.reset with run := true })],
        sqs := [(0, { Sq.reset with seg := (some ⟨false, false, 0, 0⟩), cmd := (some ⟨{ Desc.parse 0 [] with op := 23, p0 := 44, fin := true }, [], CmdSt.ready⟩) })],
        cqs := [(0, { Cq.reset with en := true, size := 2 })], pcie := { State.reset.pcie with bme := true, up := true },
        doms := domsOn [44] },
      ⟨rfl, rfl, rfl, rfl, by decide +kernel, rfl, rfl, rfl, rfl⟩, by decide +kernel⟩,
   ⟨0, 0, { State.reset with
        sqs := [(0, { Sq.reset with seg := (some ⟨false, false, 0, 0⟩), cmd := (some ⟨{ Desc.parse 0 [] with op := 23, p0 := 44, fin := true }, [], CmdSt.ready⟩) })],
        cqs := [(0, { Cq.reset with en := true, size := 2 })], pcie := { State.reset.pcie with bme := true, up := true },
        doms := domsOn [44] },
      ⟨rfl, rfl, rfl, rfl, by decide +kernel, rfl, rfl, rfl, rfl⟩, by decide +kernel⟩,
   ⟨0, 0, { State.reset with
        sqs := [(0, { Sq.reset with seg := (some ⟨false, false, 0, 0⟩), cmd := (some ⟨{ Desc.parse 0 [] with op := 23, p0 := 40, fin := true }, [], CmdSt.ready⟩) })],
        cqs := [(0, { Cq.reset with en := true, size := 2 })], pcie := { State.reset.pcie with bme := true, up := true },
        doms := domsOn [40] },
      ⟨rfl, rfl, rfl, rfl, by decide +kernel, rfl, rfl, rfl, rfl⟩, by decide +kernel⟩,
   ⟨0, { State.reset with
        ridge := { State.reset.ridge with clearing := false },
        sqs := [(0, { Sq.reset with seg := (some ⟨false, false, 0, 0⟩), cmd := (some ⟨{ Desc.parse 0 [] with op := 19, fin := true }, ([0x0, 0x0, 0x0, 0x0, 0x1] ++ List.replicate 59 0x0), CmdSt.ready⟩) })],
        cqs := [(0, { Cq.reset with en := true, size := 2 })], pcie := { State.reset.pcie with bme := true, up := true },
        doms := domsOn [32, 33, 34, 35, 36, 37, 38, 39, 40, 41, 42, 43],
        misc := { State.reset.misc with boot := BootPh.done } },
      ⟨rfl, rfl, rfl, rfl, by decide +kernel, rfl, rfl, rfl, rfl⟩, by decide +kernel⟩,
   ⟨0, 0, { State.reset with
        ridge := { State.reset.ridge with clearing := false },
        sqs := [(0, { Sq.reset with seg := (some ⟨false, false, 0, 0⟩), cmd := (some ⟨{ Desc.parse 0 [] with op := 19, fin := true }, ([0x0, 0x0, 0x0, 0x0, 0x1, 0x0, 0x0, 0x0, 0x24] ++ List.replicate 55 0x0), CmdSt.ready⟩) })],
        cqs := [(0, { Cq.reset with en := true, size := 2 })], pcie := { State.reset.pcie with bme := true, up := true },
        doms := domsOn [32, 33, 34, 35, 36, 37, 38, 39, 40, 41, 42, 43],
        misc := { State.reset.misc with boot := BootPh.done } },
      ⟨rfl, rfl, rfl, rfl, by decide +kernel, rfl, rfl, rfl, rfl⟩, by decide +kernel⟩,
   ⟨0, 0, { State.reset with
        store := [(4096, 0x48), (4097, 0x53), (4098, 0x1), (4100, 0x2), (4102, 0x2)],
        ridge := { State.reset.ridge with clearing := false },
        sqs := [(0, { Sq.reset with seg := (some ⟨false, false, 0, 0⟩), cmd := (some ⟨{ Desc.parse 0 [] with op := 19, fin := true }, ([0x0, 0x10, 0x0, 0x0, 0x1, 0x0, 0x0, 0x0, 0x26] ++ List.replicate 55 0x0), CmdSt.ready⟩) })],
        cqs := [(0, { Cq.reset with en := true, size := 2 })], pcie := { State.reset.pcie with bme := true, up := true },
        doms := domsOn [32, 33, 34, 35, 36, 37, 38, 39, 40, 41, 42, 43],
        misc := { State.reset.misc with boot := BootPh.done } },
      ⟨rfl, rfl, rfl, rfl, by decide +kernel, rfl, rfl, rfl, rfl⟩, by decide +kernel⟩,
   ⟨0, 0, { State.reset with
        store := [(4096, 0x48), (4097, 0x53), (4098, 0x1), (4100, 0x2), (4102, 0x2), (4104, 0x7), (4108, 0x3), (4128, 0x23), (4129, 0x1), (4130, 0x56), (4131, 0x4), (4132, 0x1)],
        ridge := { State.reset.ridge with clearing := false },
        sqs := [(0, { Sq.reset with seg := (some ⟨false, false, 0, 0⟩), cmd := (some ⟨{ Desc.parse 0 [] with op := 19, fin := true }, ([0x0, 0x10, 0x0, 0x0, 0x1, 0x0, 0x0, 0x0, 0x26, 0x0, 0x0, 0x0, 0xbd, 0x81, 0xbb, 0xa0] ++ List.replicate 8 0x0 ++ [0x1] ++ List.replicate 39 0x0), CmdSt.ready⟩) })],
        cqs := [(0, { Cq.reset with en := true, size := 2 })], pcie := { State.reset.pcie with bme := true, up := true },
        doms := domsOn [32, 33, 34, 35, 36, 37, 38, 39, 40, 41, 42, 43],
        misc := { State.reset.misc with boot := BootPh.done } },
      ⟨rfl, rfl, rfl, rfl, by decide +kernel, rfl, rfl, rfl, rfl⟩, by decide +kernel⟩,
   ⟨0, 0, { State.reset with
        regs := [(33092, 0x0)],
        store := [(4096, 0x48), (4097, 0x53), (4098, 0x1), (4100, 0x2), (4102, 0x2), (4104, 0x7), (4108, 0x3), (4128, 0x23), (4129, 0x1), (4130, 0x56), (4131, 0x4), (4132, 0x1)],
        ridge := { State.reset.ridge with clearing := false },
        sqs := [(0, { Sq.reset with cq := 1, seg := (some ⟨false, false, 0, 0⟩), cmd := (some ⟨{ Desc.parse 0 [] with op := 19, fin := true }, ([0x0, 0x10, 0x0, 0x0, 0x1, 0x0, 0x0, 0x0, 0x26, 0x0, 0x0, 0x0, 0xbd, 0x81, 0xbb, 0xa0] ++ List.replicate 48 0x0), CmdSt.ready⟩) })],
        cqs := [(1, { Cq.reset with en := true, size := 2 })], pcie := { State.reset.pcie with bme := true, up := true },
        doms := domsOn [32, 33, 34, 35, 36, 37, 38, 39, 40, 41, 42, 43],
        misc := { State.reset.misc with boot := BootPh.done } },
      ⟨rfl, rfl, rfl, rfl, by decide +kernel, rfl, rfl, rfl, rfl⟩, by decide +kernel⟩⟩

end
end

section
/-!
PROOF. Proofs/PairAlignment.lean: an operation whose only cause is its fault of order 4, and the pair accesses of LSX and LSY
(R32, R51).
-/
namespace Sys2Proof.Machine

/-! ### The first cause of a bundle (R51) -/

/-- Where units rise within the bundle, the fault of order 4 of an operation has one place among its causes, and the others do
not depend on it. -/
theorem Cluster.opFails_fault {x : Cluster} {o : Op} {k : Nat} (hord : ∀ v ∈ x.iss.units, v < o.unit)
    (hk : o.fault = some k) (a : Nat) :
    ∃ l₁ l₂, x.opFails o a = l₁ ++ some ⟨4, k, a, if k = cUnmapped then o.page else none⟩ :: l₂ ∧
      x.opFails { o with fault := none } a = l₁ ++ none :: l₂ := by
  unfold Cluster.opFails
  cases hu : x.iss.units with
  | nil =>
    simp only [hk, Bool.false_eq_true, if_false, Option.map_some, Option.map_none]
    exact ⟨_, [_], (List.append_assoc (_ ++ _) [_, _, _] [_, _]).symm, (List.append_assoc (_ ++ _) [_, _, _] [_, _]).symm⟩
  | cons v t =>
    have hlt : ¬ o.unit ≤ v := Nat.not_le.mpr (hord v (hu ▸ List.mem_cons_self))
    simp only [hk, hlt, decide_false, Bool.false_eq_true, if_false, Option.map_some, Option.map_none]
    exact ⟨_, [_], (List.append_assoc (_ ++ _) [_, _, _] [_, _]).symm, (List.append_assoc (_ ++ _) [_, _, _] [_, _]).symm⟩

/-- The fault of an operation that nothing else stops is its first cause. -/
theorem State.foldl_meet_opFails_of_fault {s : State} {c : Nat} {o : Op} {k : Nat} (ht : s.Takes c o.unit o.len o.flagW)
    (hf : (s.cluster c).Free { o with fault := none }) (hk : o.fault = some k) :
    ((s.cluster c).opFails o ((s.cluster c).place o.unit)).foldl Fail.meet none =
      some ⟨4, k, (s.cluster c).place o.unit, if k = cUnmapped then o.page else none⟩ := by
  obtain ⟨l₁, l₂, hwith, hwithout⟩ := Cluster.opFails_fault ht.order hk ((s.cluster c).place o.unit)
  have hnone : ∀ r ∈ l₁ ++ none :: l₂, r = none :=
    hwithout ▸ State.opFails_none (o := { o with fault := none }) ht hf
  have hbefore : ∀ r ∈ l₁, r = none := fun r hr => hnone r (List.mem_append_left _ hr)
  have hafter : ∀ r ∈ l₂, r = none := fun r hr => hnone r (List.mem_append_right _ (List.mem_cons_of_mem _ hr))
  rw [hwith, List.foldl_append, List.foldl_cons, Fail.foldl_meet_none l₁ hbefore, Fail.foldl_meet_none l₂ hafter]
  rfl

/-! ### What the issue of an operation keeps -/

/-- An operation of a unit that is not suppressed changes only the bundle under issue and the pending list; its causes join those
of the bundle. -/
theorem Cluster.issueOp_eq {x : Cluster} {o : Op} (hgo : o.unit ∉ x.iss.skip) :
    ∃ i : Issue, x.issueOp o = { x with iss := i, pend := x.pend ++ o.ents } ∧
      i.fail = (x.opFails o (x.place o.unit)).foldl Fail.meet x.iss.fail :=
  ⟨_, if_neg (by simpa using hgo), rfl⟩

@[simp] theorem State.recOf_setCluster (s : State) (k : Nat) (v : Cluster) (t : Nat) : (s.setCluster k v).recOf t = s.recOf t := by
  funext w; exact State.recW_setCluster s k v _

/-- Whether a bundle can issue does not depend on the bundle under issue, nor on the results in flight. -/
theorem State.canIssue_setCluster (s : State) (c : Nat) (i : Issue) (l : List Entry) :
    (s.setCluster c { s.cluster c with iss := i, pend := l }).canIssue c = s.canIssue c := by
  have hjob : (s.setCluster c { s.cluster c with iss := i, pend := l }).jobOn c = s.jobOn c := by simp [State.jobOn]
  have hdecl : (s.setCluster c { s.cluster c with iss := i, pend := l }).declared c = s.declared c := by
    unfold State.declared; simp only [hjob, State.recOf_setCluster]
  simp [State.canIssue, hdecl]

/-- An operation that joins its bundle leaves its results in the pending list. -/
theorem State.mem_pend_joined {s : State} {c unit len : Nat} {f : Bool} {g : Option Nat} {ctl : Ctl} {ents : List Entry}
    {e : Entry} (he : e ∈ ents) : e ∈ ((s.joined c unit len f g ctl ents).cluster c).pend := by
  simp [State.joined, Cluster.joined, he]

/-! ### The end of a cycle whose bundle meets a cause -/

/-- The end of the cycle acts on the first cause of the bundle (log entry 21). -/
theorem State.tick_eq_failAt {s : State} {c : Nat} {f : Fail} (hcan : s.canIssue c = true)
    (hf : (s.cluster c).iss.fail = some f) : s.tick c = s.failAt c f := by
  obtain ⟨⟨hphase, hkill⟩, hcycle⟩ : ((s.cluster c).phase = .run ∧ (s.cluster c).kill = 0) ∧
      (s.cluster c).cycle ≤ s.declared c := by simpa [State.canIssue] using hcan
  simp [State.tick, hphase, hkill, hf, Nat.not_lt.mpr hcycle]

/-- A cause of order 4 that names no page takes effect as its fault alone. -/
theorem State.failAt_fault (s : State) (c k syl : Nat) :
    .next (s.failAt c ⟨4, k, syl, none⟩) = State.faulting s c k := rfl

theorem exec_resultLands (c : Fin 32) (s : State) : exec (.resultLands c) s = .next (s.tick c) := rfl

/-- An operation whose only cause is a fault of order 4 other than UNMAPPED, in a bundle without a cause so far, raises that
fault at the end of the cycle (R51, log entry 21). -/
theorem State.resultLands_issue_fault {s : State} {c : Fin 32} {g : Cluster → Op} {o : Op} {k : Nat}
    (ho : g (s.cluster c) = o) (ht : s.Takes c o.unit o.len o.flagW) (hi : (s.cluster c).iss.fail = none)
    (hf : (s.cluster c).Free { o with fault := none }) (hk : o.fault = some k) (hpage : k ≠ cUnmapped) :
    exec (.resultLands c) (s.issue c g) = State.faulting (s.issue c g) c k := by
  obtain ⟨i, hx, hfail⟩ := Cluster.issueOp_eq (o := o) ht.go
  have hs : s.issue c g = s.setCluster c { s.cluster c with iss := i, pend := (s.cluster c).pend ++ o.ents } := by
    simp [State.issue, ht.can, ho, hx]
  have hcan : (s.issue c g).canIssue c = true := by rw [hs, State.canIssue_setCluster, ht.can]
  have hfirst : ((s.issue c g).cluster c).iss.fail = some ⟨4, k, (s.cluster c).place o.unit, none⟩ := by
    simp only [hs, State.cluster_setCluster, if_true, hfail, hi, State.foldl_meet_opFails_of_fault ht hf hk, if_neg hpage]
  rw [exec_resultLands, State.tick_eq_failAt hcan hfirst, State.failAt_fault]

/-! ### Pair accesses (R32) -/

/-- An operation whose fault does not arise is free where the rest of it is. -/
theorem Cluster.Free.of_fault_eq_none {x : Cluster} {o : Op} (hf : x.Free { o with fault := none }) (hk : o.fault = none) :
    x.Free o := ⟨hf.traps, hf.ag, hf.le, hk, hf.reads⟩

theorem odd_eq_false {n : Nat} (h : n % 2 = 0) : odd n = false := by simp [odd, h]

/-- The fault of a mapped pair access: ALIGN at an odd address. -/
theorem accessFault_wide (a : Nat) : accessFault a true true = if a % 2 = 1 then some cAlign else none := by
  simp [accessFault, odd]

section
variable {s : State} {c u ag : Nat} {mode : AgMode} {r q : Nat}

/-- The fault aside, nothing stops LDD of an even pair from good words with a generator of its own. -/
theorem loadPair_free (hag : s.AgFree c ag) (hr : r % 2 = 0)
    (hq : (s.cluster c).phys (1 + u) ((s.cluster c).ea ag).toNat = some q)
    (h0 : (s.cluster c).isBad (1 + u) q = false) (h1 : (s.cluster c).isBad (1 + u) (q + 1) = false) :
    (s.cluster c).Free { loadPair (s.cluster c) u ag mode r with fault := none } where
  traps := by simp [loadPair, lsOp, causesOf, odd_eq_false hr]
  ag := fun g hg => by
    obtain rfl : ag = g := Option.some.inj hg
    exact hag
  le := fun h => absurd h Bool.false_ne_true
  fault := rfl
  reads := by simp [loadPair, lsOp, hq, h0, h1]

/-- The fault aside, nothing stops a store of two words with a generator of its own. -/
theorem storePair_free {lo hi : W16} {f : Bool} {fl : FlagUpd} (hag : s.AgFree c ag) (hr : r % 2 = 0) :
    (s.cluster c).Free { storePair (s.cluster c) u ag mode [(odd r, tPair)] lo hi f fl with fault := none } where
  traps := by simp [storePair, lsOp, causesOf, odd_eq_false hr]
  ag := fun g hg => by
    obtain rfl : ag = g := Option.some.inj hg
    exact hag
  le := fun h => absurd h Bool.false_ne_true
  fault := rfl
  reads := by simp [storePair, lsOp]

theorem loadPair_fault {x : Cluster} (hq : x.phys (1 + u) (x.ea ag).toNat = some q) :
    (loadPair x u ag mode r).fault = if (x.ea ag).toNat % 2 = 1 then some cAlign else none := by
  simp [loadPair, lsOp, hq, accessFault_wide]

theorem storePair_fault {x : Cluster} {traps : List (Bool × Nat)} {lo hi : W16} {f : Bool} {fl : FlagUpd}
    (hq : x.physW (1 + u) (x.ea ag).toNat = some q) :
    (storePair x u ag mode traps lo hi f fl).fault = if (x.ea ag).toNat % 2 = 1 then some cAlign else none := by
  simp [storePair, lsOp, hq, accessFault_wide]

/-- The results of LDD: the word at the lower address goes to the even register. -/
theorem loadPair_ents {x : Cluster} (hq : x.phys (1 + u) (x.ea ag).toNat = some q) :
    (loadPair x u ag mode r).ents = [entD 3 (4 + u) r (x.word (1 + u) q) none,
      entD 3 (4 + u) (r + 1) (x.word (1 + u) (q + 1)) none,
      mkEnt 1 (4 + u) (.post ag) ((x.eaNext ag mode).setWidth 40) none] := by
  have hlo (a b : W16) : (a ++ b : W32).setWidth 16 = b := BitVec.setWidth_append_eq_right
  have hhi (a b : W16) : ((a ++ b : W32) >>> 16).setWidth 16 = a :=
    BitVec.setWidth_ushiftRight_eq_extractLsb.trans BitVec.extractLsb'_append_eq_left
  simp only [loadPair, lsOp, hq, entP]
  rw [hlo, hhi]; rfl

/-- The results of a store of two words: the low word goes to the lower address. -/
theorem storePair_ents {x : Cluster} {traps : List (Bool × Nat)} {lo hi : W16} {f : Bool} {fl : FlagUpd}
    (hq : x.physW (1 + u) (x.ea ag).toNat = some q) :
    (storePair x u ag mode traps lo hi f fl).ents =
      [mkEnt 2 (4 + u) (storeDest u q (x.ea ag).toNat) (lo.setWidth 40) (withF f fl),
       mkEnt 2 (4 + u) (storeDest u (q + 1) ((x.ea ag).toNat + 1)) (hi.setWidth 40) none,
       mkEnt 1 (4 + u) (.post ag) ((x.eaNext ag mode).setWidth 40) none] := by
  simp [storePair, lsOp, hq]

end

/-! ### LDD and STD -/

section
variable {c : Fin 32} {u : Fin 2} {ag : Fin 8} {r : Fin 32} {q : Nat} {s : State} (mode : AgMode)

/-- The operation that STD brings to its issue. -/
abbrev stdOp (u : Fin 2) (ag : Fin 8) (mode : AgMode) (r : Fin 32) (x : Cluster) : Op :=
  storePair x u ag mode [(odd r, tPair)] (x.dr r) (x.dr (r + 1)) false noFlags

theorem exec_ldd_eq (c : Fin 32) (u : Fin 2) (ag : Fin 8) (mode : AgMode) (r : Fin 32) (s : State) :
    exec (.ldd c u ag mode r) s = .next (s.issue c (fun x => loadPair x u ag mode r)) := rfl

theorem exec_std_eq (c : Fin 32) (u : Fin 2) (ag : Fin 8) (mode : AgMode) (r : Fin 32) (s : State) :
    exec (.std c u ag mode r) s = .next (s.issue c (stdOp u ag mode r)) := rfl

/-- LDD at an even address joins its bundle. -/
theorem exec_ldd_even (ht : s.Takes c (4 + u) 2 false) (hag : s.AgFree c ag) (hr : r.val % 2 = 0)
    (ha : ((s.cluster c).ea ag).toNat % 2 = 0) (hq : (s.cluster c).phys (1 + u) ((s.cluster c).ea ag).toNat = some q)
    (h0 : (s.cluster c).isBad (1 + u) q = false) (h1 : (s.cluster c).isBad (1 + u) (q + 1) = false) :
    exec (.ldd c u ag mode r) s = .next (s.joined c (4 + u) 2 false (some ag) .none
      [entD 3 (4 + u) r ((s.cluster c).word (1 + u) q) none, entD 3 (4 + u) (r + 1) ((s.cluster c).word (1 + u) (q + 1)) none,
       mkEnt 1 (4 + u) (.post ag) (((s.cluster c).eaNext ag mode).setWidth 40) none]) := by
  have hk : (loadPair (s.cluster c) u ag mode r).fault = none := by rw [loadPair_fault hq, if_neg (by omega)]
  have hfree := (loadPair_free hag hr hq h0 h1).of_fault_eq_none hk
  rw [exec_ldd_eq, State.issue_joins rfl ht hfree, loadPair_ents hq]
  rfl

/-- STD at an even address joins its bundle. -/
theorem exec_std_even (ht : s.Takes c (4 + u) 2 false) (hag : s.AgFree c ag) (hr : r.val % 2 = 0)
    (ha : ((s.cluster c).ea ag).toNat % 2 = 0) (hq : (s.cluster c).physW (1 + u) ((s.cluster c).ea ag).toNat = some q) :
    exec (.std c u ag mode r) s = .next (s.joined c (4 + u) 2 false (some ag) .none
      [mkEnt 2 (4 + u) (storeDest u q ((s.cluster c).ea ag).toNat) (((s.cluster c).dr r).setWidth 40) none,
       mkEnt 2 (4 + u) (storeDest u (q + 1) (((s.cluster c).ea ag).toNat + 1)) (((s.cluster c).dr (r + 1)).setWidth 40) none,
       mkEnt 1 (4 + u) (.post ag) (((s.cluster c).eaNext ag mode).setWidth 40) none]) := by
  have hk : (stdOp u ag mode r (s.cluster c)).fault = none := by rw [storePair_fault hq, if_neg (by omega)]
  have hfree := (storePair_free hag hr).of_fault_eq_none hk
  rw [exec_std_eq, State.issue_joins rfl ht hfree, storePair_ents hq]
  rfl

/-- LDD at an odd address faults with ALIGN at the end of the cycle. -/
theorem resultLands_ldd_odd (ht : s.Takes c (4 + u) 2 false) (hag : s.AgFree c ag) (hi : (s.cluster c).iss.fail = none)
    (hr : r.val % 2 = 0) (ha : ((s.cluster c).ea ag).toNat % 2 = 1)
    (hq : (s.cluster c).phys (1 + u) ((s.cluster c).ea ag).toNat = some q)
    (h0 : (s.cluster c).isBad (1 + u) q = false) (h1 : (s.cluster c).isBad (1 + u) (q + 1) = false) :
    ∃ t, exec (.ldd c u ag mode r) s = .next t ∧ exec (.resultLands c) t = State.faulting t c cAlign := by
  have hk : (loadPair (s.cluster c) u ag mode r).fault = some cAlign := by rw [loadPair_fault hq, if_pos ha]
  exact ⟨_, exec_ldd_eq c u ag mode r s,
    State.resultLands_issue_fault rfl ht hi (loadPair_free hag hr hq h0 h1) hk (by decide)⟩

/-- STD at an odd address faults with ALIGN at the end of the cycle. -/
theorem resultLands_std_odd (ht : s.Takes c (4 + u) 2 false) (hag : s.AgFree c ag) (hi : (s.cluster c).iss.fail = none)
    (hr : r.val % 2 = 0) (ha : ((s.cluster c).ea ag).toNat % 2 = 1)
    (hq : (s.cluster c).physW (1 + u) ((s.cluster c).ea ag).toNat = some q) :
    ∃ t, exec (.std c u ag mode r) s = .next t ∧ exec (.resultLands c) t = State.faulting t c cAlign := by
  have hk : (stdOp u ag mode r (s.cluster c)).fault = some cAlign := by rw [storePair_fault hq, if_pos ha]
  exact ⟨_, exec_std_eq c u ag mode r s, State.resultLands_issue_fault rfl ht hi (storePair_free hag hr) hk (by decide)⟩

end

/-- Settles O17: an even address leaves both words in the pending list, and at an odd one ALIGN is the operation's only cause. -/
theorem pairAlignment : Obligations.PairAlignment := by
  unfold Obligations.PairAlignment
  intro c u ag mode r q s x a ht hag hi hr
  refine ⟨fun ha => ⟨fun hq h0 h1 => ?_, fun hq => ?_⟩, fun ha =>
    ⟨resultLands_ldd_odd mode ht hag hi hr ha, resultLands_std_odd mode ht hag hi hr ha⟩⟩
  · exact ⟨_, exec_ldd_even mode ht hag hr ha hq h0 h1, rfl, State.mem_pend_joined (by simp [x]),
      State.mem_pend_joined (by simp [x])⟩
  · intro dest
    have hdest (i : Nat) : dest i = storeDest u (q + i) (a + i) := by simp only [dest, storeDest, Fin.val_eq_zero_iff]
    exact ⟨_, exec_std_even mode ht hag hr ha hq, rfl, State.mem_pend_joined (by simp [hdest, a, x]),
      State.mem_pend_joined (by simp [hdest, a, x])⟩

end Sys2Proof.Machine
end

section
/-!
PROOF. Proofs/BestSource.lean: the choice of the best source (R287): a source that is not at rest has an entry in the table, and
folding `State.better` over the deliverable ones leaves one of them that no other outranks.
-/
namespace Sys2Proof.Machine

/-- A key that does not read as its default has an entry. -/
theorem Tab.mem_keys_of_get_ne {α : Type} {d : Nat → α} {t : Tab α} {k : Nat} (h : Tab.get d t k ≠ d k) :
    k ∈ t.map (·.1) := by
  induction t with
  | nil => exact absurd rfl h
  | cons e t ih =>
    obtain ⟨j, v⟩ := e
    by_cases hj : j = k
    · simp [hj]
    · exact List.mem_cons_of_mem _ (ih (by simpa [Tab.get, hj] using h))

/-! ### The order of sources (R287) -/

section
variable {s : State} {t i j k : Nat}

/-- Source i is at least as good as source j: the higher PRIO, or the same PRIO and no higher number. -/
def State.NoWorse (s : State) (i j : Nat) : Prop :=
  (s.src j).prio < (s.src i).prio ∨ ((s.src j).prio = (s.src i).prio ∧ i ≤ j)

theorem State.NoWorse.refl (s : State) (i : Nat) : s.NoWorse i i := .inr ⟨rfl, Nat.le_refl i⟩

theorem State.NoWorse.trans (hij : s.NoWorse i j) (hjk : s.NoWorse j k) : s.NoWorse i k := by
  unfold State.NoWorse at *
  omega

/-- The better of two sources is one of them, and no worse than either. -/
theorem State.better_cases (s : State) (i j : Nat) :
    (s.better i j = i ∧ s.NoWorse i j) ∨ (s.better i j = j ∧ s.NoWorse j i) := by
  unfold State.better State.NoWorse
  split <;> omega

/-- Folding `better` leaves one of the sources, no worse than any of them. -/
theorem State.foldl_better (s : State) (is : List Nat) (i : Nat) :
    is.foldl s.better i ∈ i :: is ∧ ∀ j ∈ i :: is, s.NoWorse (is.foldl s.better i) j := by
  induction is generalizing i with
  | nil => simp [State.NoWorse.refl]
  | cons k is ih =>
    obtain ⟨hmem, hbest⟩ := ih (s.better i k)
    have hhead := hbest _ List.mem_cons_self
    have htail (j : Nat) (hj : j ∈ is) := hbest j (List.mem_cons_of_mem _ hj)
    rw [List.foldl_cons]
    rcases s.better_cases i k with ⟨heq, hle⟩ | ⟨heq, hle⟩ <;> rw [heq] at hmem hhead htail ⊢
    · exact ⟨List.cons_subset_cons i (List.subset_cons_self k is) hmem, by simpa using ⟨hhead, hhead.trans hle, htail⟩⟩
    · exact ⟨List.mem_cons_of_mem i hmem, by simpa using ⟨hhead.trans hle, hhead, htail⟩⟩

/-! ### Deliverable sources and the best of them -/

/-- What R287 asks of a deliverable source. -/
theorem State.deliverable_iff : s.deliverable t i = true ↔ (s.src i).pend = true ∧ (s.src i).act = none ∧
    (s.src i).tgt = t ∧ s.runPrio t < (s.src i).prio ∧ s.targetOn t = true := by
  simp [State.deliverable, and_assoc]

/-- A deliverable source is not at rest: it stands in the table of sources. -/
theorem State.mem_srcs_of_deliverable (h : s.deliverable t i = true) : i ∈ s.srcs.map (·.1) := by
  obtain ⟨hpend, -⟩ := State.deliverable_iff.mp h
  refine Tab.mem_keys_of_get_ne (d := fun _ => Src.reset) fun hrest => ?_
  have hreset : s.src i = Src.reset := hrest
  simp [hreset, Src.reset] at hpend

/-- The list that `best` folds over holds exactly the deliverable sources. -/
theorem State.mem_filter_deliverable :
    i ∈ (s.srcs.map (·.1)).filter (s.deliverable t) ↔ s.deliverable t i = true :=
  List.mem_filter.trans ⟨And.right, fun h => ⟨State.mem_srcs_of_deliverable h, h⟩⟩

/-- The best source is deliverable, and no worse than any deliverable one. -/
theorem State.best_eq_some (h : s.best t = some i) :
    s.deliverable t i = true ∧ ∀ j, s.deliverable t j = true → s.NoWorse i j := by
  simp only [← State.mem_filter_deliverable]
  unfold State.best at h
  split at h
  next => cases h
  next k ks hlist =>
    cases h
    rw [hlist]
    exact s.foldl_better ks k

/-- With no best source, none is deliverable. -/
theorem State.deliverable_of_best_eq_none (h : s.best t = none) (j : Nat) : s.deliverable t j = false := by
  rw [Bool.eq_false_iff, ne_eq, ← State.mem_filter_deliverable]
  unfold State.best at h
  split at h
  next hlist => simp [hlist]
  next => cases h

/-- The running priority is that of the top entry of the stack, 0 for an empty one. -/
theorem State.runPrio_eq_headD (s : State) (t : Nat) : s.runPrio t = ((s.stack t).headD (0, 0)).1 := by
  unfold State.runPrio
  cases s.stack t <;> rfl

end

/-- Settles O39: the best source is what folding `State.better` over the deliverable sources leaves; one with PRIO 0 exceeds no
running priority, and one whose TARGET is 129 or more names no target. -/
theorem bestSource : Obligations.BestSource := by
  unfold Obligations.BestSource
  intro g i j s hg on deliverable
  have hdel (n : Nat) : deliverable g n = s.deliverable g n := by
    simp only [deliverable, ← State.runPrio_eq_headD]
    rfl
  simp only [hdel]
  refine ⟨fun h => ?_, fun h => State.deliverable_of_best_eq_none h j, fun hno h => ?_⟩
  · obtain ⟨hi, hbest⟩ := State.best_eq_some h
    exact ⟨hi, hbest j⟩
  · obtain ⟨-, -, htgt, hprio, -⟩ := State.deliverable_iff.mp (State.best_eq_some h).1
    omega

end Sys2Proof.Machine
end

section
/-!
PROOF. Proofs/StepKeeps.lean: every command keeps a well-kept state (Safety.lean), and so does the passing of a cycle. Laws/Kept.lean
holds one lemma per shared operation; here is what remains of each command: the branches of its own meaning.
-/
namespace Sys2Proof.Machine

/-- Every state that the answer goes on in is well-kept. -/
def Answer.Keeps (a : Answer) : Prop := ∀ t, a = .next t → t.Ok

theorem Answer.keeps_next {t : State} (h : t.Ok) : Answer.Keeps (.next t) := by
  rintro _ ⟨⟩
  exact h

theorem Answer.keeps_fault (f : Fault) : Answer.Keeps (.fault f) := by rintro _ ⟨⟩

/-- A change of a core, as the last act of an instruction's body. -/
theorem State.updCore_fst_ok {s : State} {k : Nat} {g : Core → Core} {e : Option Exc} (h : s.Ok) : (s.updCore k g, e).1.Ok :=
  State.updCore_ok s k g h

/-- A crystal tick adds at most two ticks. -/
theorem trimTick_le (acc trim : Int) : (trimTick acc trim).1 ≤ 2 := by
  unfold trimTick
  dsimp only
  split
  · exact Nat.le_refl 2
  · split <;> simp

/-! ### Core instructions: the bodies that read memory before they act -/

section
variable {s : State} (h : s.Ok)
include h

theorem shgWait_body_ok (k : Fin 65) :
    (if (s.best (coreTarget k)).isSome || (decide (k.val = 64) && !s.ridge.kcq.isEmpty) then ((s, none) : State × Option Exc)
      else (s.updCore k (fun c => { c with state := .wait }), none)).1.Ok := by
  split
  · exact h
  · exact State.updCore_fst_ok h

theorem execShgWait_keeps (k : Fin 65) : Answer.Keeps (execShgWait k s) :=
  Answer.keeps_next (State.shg_ok _ _ _ _ _ _ h fun _ hs => shgWait_body_ok hs k)

theorem execShgRet_keeps (k : Fin 65) : Answer.Keeps (execShgRet k s) := by
  refine Answer.keeps_next (State.shg_ok _ _ _ _ _ _ h fun s hs => ?_)
  split
  all_goals have h1 := ok_pair ‹_› (State.popWord_ok s k hs)
  · exact h1
  · exact State.updCore_fst_ok h1

theorem execShgPopp_keeps (k : Fin 65) (p : Fin 8) : Answer.Keeps (execShgPopp k p s) := by
  refine Answer.keeps_next (State.shg_ok _ _ _ _ _ _ h fun s hs => ?_)
  split
  all_goals have h1 := ok_pair ‹_› (State.popWord_ok s k hs)
  · exact h1
  · exact State.updCore_fst_ok h1

theorem execShgCpyb_keeps (k : Fin 65) : Answer.Keeps (execShgCpyb k s) := by
  refine Answer.keeps_next (State.shgBlock_ok _ _ _ _ _ _ h fun s hs => ?_)
  dsimp only
  split
  all_goals have h1 := ok_pair ‹_› (State.readData_ok s k _ hs)
  · exact h1
  · exact State.storeOrUndo_ok _ _ _ _ _ _ hs h1

theorem execShgCmpb_keeps (k : Fin 65) : Answer.Keeps (execShgCmpb k s) := by
  refine Answer.keeps_next (State.shgBlock_ok _ _ _ _ _ _ h fun s hs => ?_)
  dsimp only
  split
  · exact ok_pair ‹_› (State.readData_ok s k _ hs)
  next hx =>
    have h1 := ok_pair hx (State.readData_ok s k _ hs)
    split
    · exact State.readData_ok _ _ _ hs
    next hy => exact State.updCore_fst_ok (ok_pair hy (State.readData_ok _ _ _ h1))

theorem execShgPrdb_keeps (k : Fin 65) : Answer.Keeps (execShgPrdb k s) := by
  refine Answer.keeps_next (State.shgBlock_ok _ _ _ _ _ _ h fun s hs => ?_)
  dsimp only
  split
  all_goals have h1 := ok_pair ‹_› (State.portRead_ok s k _ hs)
  · exact State.portExc_ok _ _ h1
  · exact State.storeOrUndo_ok _ _ _ _ _ _ hs h1

theorem execShgPwrb_keeps (k : Fin 65) : Answer.Keeps (execShgPwrb k s) := by
  refine Answer.keeps_next (State.shgBlock_ok _ _ _ _ _ _ h fun s hs => ?_)
  dsimp only
  split
  · exact ok_pair ‹_› (State.readData_ok s k _ hs)
  next hx =>
    have h1 := ok_pair hx (State.readData_ok s k _ hs)
    split
    all_goals have h2 := ok_pair ‹_› (State.portWrite_ok _ k _ _ h1)
    · exact State.portExc_ok _ _ h2
    · exact State.updCore_fst_ok h2

theorem execShgKcall_keeps (k : Fin 65) (n : Fin 16) : Answer.Keeps (execShgKcall k n s) := by
  refine Answer.keeps_next (State.shg_ok _ _ _ _ _ _ h fun s hs => ?_)
  have h1 : (s.updCore k (fun c => { c with call := n, state := .calling })).Ok := State.updCore_ok _ _ _ hs
  dsimp only
  split
  · exact State.callError_ok _ _ _ h1
  · exact State.updCore_fst_ok ⟨h1.store, h1.regs, h1.dt, h1.frac, h1.sec, h1.sub⟩

theorem execShgLdp_keeps (k : Fin 65) (r : Fin 8) : Answer.Keeps (execShgLdp k r s) := by
  refine Answer.keeps_next (State.shg_ok _ _ _ _ _ _ h fun s hs => ?_)
  dsimp only
  have hread := State.ridgeRead_ok s false (s.core k).pzr.toNat hs
  split
  · exact hs
  split
  · split
    · exact State.updCore_fst_ok hread
    · exact hread
  split
  · simp [hs]
  · exact State.updCore_fst_ok hs

theorem execShgStp_keeps (k : Fin 65) (r : Fin 8) : Answer.Keeps (execShgStp k r s) := by
  refine Answer.keeps_next (State.shg_ok _ _ _ _ _ _ h fun s hs => ?_)
  dsimp only
  split
  · exact hs
  split
  · exact hs
  · exact State.updCore_fst_ok hs

theorem execShgLd_keeps (k : Fin 65) (p m : Fin 4) (r : Fin 8) : Answer.Keeps (execShgLd k p m r s) := by
  refine Answer.keeps_next (State.shgBlock_ok _ _ _ _ _ _ h fun s hs => andCore_ok _ _ _ ?_)
  split
  · split
    all_goals have h1 := ok_pair ‹_› (State.readData2_ok s k _ hs)
    · exact h1
    · exact State.updCore_fst_ok h1
  · exact State.loadV_ok _ _ _ _ hs

theorem execShgSt_keeps (k : Fin 65) (p m : Fin 4) (r : Fin 8) : Answer.Keeps (execShgSt k p m r s) := by
  refine Answer.keeps_next (State.shgBlock_ok _ _ _ _ _ _ h fun s hs => andCore_ok _ _ _ ?_)
  split
  · split
    all_goals exact ok_pair ‹_› (State.writeData2_ok s k _ _ _ hs)
  · exact State.storeV_ok _ _ _ _ hs

theorem execSaData_keeps (wr : Bool) (r : Fin 8) : Answer.Keeps (execSaData wr r s) := by
  refine Answer.keeps_next (State.ridgePort_ok _ _ h fun s hs => ?_)
  split
  · split
    all_goals have h1 := ok_pair ‹_› (State.saWrite_ok s _ hs)
    · exact State.portExc_ok _ _ h1
    · exact h1
  · split
    all_goals have h1 := ok_pair ‹_› (State.saRead_ok s hs)
    · exact State.portExc_ok _ _ h1
    · exact State.updCore_fst_ok h1

/-! ### Kernel services -/

theorem execSvcMailbox_keeps (k : Fin 64) (denied : Bool) : Answer.Keeps (execSvcMailbox k denied s) := by
  refine Answer.keeps_next (State.serve_ok _ _ _ _ _ h fun s hs => ?_)
  dsimp only
  split
  · split
    · exact State.eachByte_ok _ _ _ _ hs fun _ _ _ h => State.mailPoke_ok _ _ _ _ h
    · exact hs
  · exact hs

theorem execSvcRaise_keeps (k : Fin 64) (denied : Bool) : Answer.Keeps (execSvcRaise k denied s) := by
  refine Answer.keeps_next (State.serve_ok _ _ _ _ _ h fun s hs => ?_)
  dsimp only
  split
  · exact State.raise_ok _ _ hs
  · exact hs

theorem execSvcHostNote_keeps (k : Fin 64) (denied : Bool) : Answer.Keeps (execSvcHostNote k denied s) := by
  refine Answer.keeps_next (State.serve_ok _ _ _ _ _ h fun s hs => ?_)
  split
  · exact State.postEvent_ok _ _ hs
  · exact hs

/-! ### Instances, cluster cycles and generations -/

theorem execTimeRelease_keeps (k : Fin 4096) : Answer.Keeps (execTimeRelease k s) := by
  refine Answer.keeps_next ?_
  split
  · exact State.release_ok _ _ _ h
  · exact h

theorem execBeDrop_keeps (k : Fin 4096) : Answer.Keeps (execBeDrop k s) := by
  refine Answer.keeps_next ?_
  split
  · exact State.dropJob_ok _ _ h
  · exact h

theorem execTrap_keeps (c : Fin 32) : Answer.Keeps (execTrap c s) := by
  refine Answer.keeps_next (ok_ite ?_ h)
  split
  · exact State.failAt_ok _ _ _ h
  · exact h

theorem execGenVerificationDone_keeps : Answer.Keeps (execGenVerificationDone s) := by
  refine Answer.keeps_next ?_
  split
  · exact State.verified_ok _ _ h
  · exact h

/-! ### Host interface and queue commands -/

theorem execBar4Access_keeps (off len : Nat) (data : Option (List Byte)) : Answer.Keeps (execBar4Access off len data s) := by
  unfold execBar4Access
  split
  · exact Answer.keeps_fault _
  · refine Answer.keeps_next (State.fromHost_ok _ _ h fun s hs => ok_ite ?_ (State.barAccess_ok _ _ _ _ hs))
    exact State.barAbort_ok _ (State.decodeError_ok _ _ _ _ hs)

theorem execCqCfg_keeps (q : Option (Fin 64)) (v : W32) : Answer.Keeps (execCqCfg q v s) := by
  refine Answer.keeps_next (State.fromHost_ok _ _ h fun s hs => ?_)
  cases q <;> exact State.writeReg_ok _ _ _ _ _ hs

theorem execDescriptorRead_keeps : Answer.Keeps (execDescriptorRead s) := by
  refine Answer.keeps_next (ok_ite ?_ h)
  split
  · exact State.sqAct_ok _ _ ⟨h.store, h.regs, h.dt, h.frac, h.sec, h.sub⟩
  · exact h

theorem execReadCompletion_keeps (q : Fin 64) (data : List Byte) (ok : Bool) :
    Answer.Keeps (execReadCompletion q data ok s) := by
  refine Answer.keeps_next ?_
  split
  · exact State.aer_ok _ _ h
  · exact ok_ite (State.readDone_ok _ _ _ _ h) (State.readFailed_ok _ _ _ (ok_ite h (State.aer_ok _ _ h)))

theorem execCompletionTimeout_keeps (q : Fin 64) : Answer.Keeps (execCompletionTimeout q s) := by
  refine Answer.keeps_next ?_
  split
  · exact h
  · exact State.readFailed_ok _ _ _ (State.aer_ok _ _ h)

theorem execMsixUnmask_keeps (enable fmask : Bool) (v : Option (Fin 64)) : Answer.Keeps (execMsixUnmask enable fmask v s) := by
  have h1 : State.Ok { s with pcie := { s.pcie with msix := enable, fmask := fmask } } :=
    ⟨h.store, h.regs, h.dt, h.frac, h.sec, h.sub⟩
  cases v with
  | none => exact Answer.keeps_next (State.flushPba_ok _ h1)
  | some v => exact Answer.keeps_next (State.flushPba_ok _ (ok_setReg h1))

theorem execUnsupportedRequest_keeps (r : BadRequest) : Answer.Keeps (execUnsupportedRequest r s) := by
  refine Answer.keeps_next (ok_ite h ?_)
  cases r with
  | poisonedWrite => exact State.aer_ok _ _ h
  | length | ioOrLocked => exact State.aer_ok _ _ (State.emit_ok _ _ h)

theorem execCalAdopt_keeps (q : Fin 64) : Answer.Keeps (execCalAdopt q s) := by
  refine Answer.keeps_next (State.command_ok _ _ _ _ _ h fun s d bs hs => ?_)
  split
  · exact ok_ite (State.finish_ok _ _ _ _ hs) (State.finish_ok _ _ _ _ (State.adopt_ok _ _ _ hs))
  · exact hs

theorem execCalDiscard_keeps (q : Fin 64) : Answer.Keeps (execCalDiscard q s) := by
  refine Answer.keeps_next (State.command_ok _ _ _ _ _ h fun s d bs hs => ?_)
  split
  · exact State.finish_ok _ _ _ _ (State.freeGen_ok _ _ hs)
  · exact hs

/-! ### Clocks and the calendar -/

theorem execClockChange_keeps (c : Fin 32) : Answer.Keeps (execClockChange c s) := by
  refine Answer.keeps_next ?_
  split
  · exact ok_ite (State.checkClocks_ok _ (State.updDom_ok _ _ _ (State.updCluster_ok _ _ _ h))) h
  · exact h

/-- A tick adds at most two, so 15 bits hold the ticks, and the seconds stop at the end of the calendar's range (R316). -/
theorem execCalTick_keeps : Answer.Keeps (execCalTick s) := by
  have htick := trimTick_le s.cald.trimAcc s.calTrim
  have hsub := h.sub
  unfold execCalTick
  dsimp only
  split
  · exact Answer.keeps_next h
  next hrange =>
    have hsec : s.cald.sec < 6311433600 := Nat.not_le.mp hrange
    refine Answer.keeps_next ?_
    split
    next hn => exact ⟨h.store, h.regs, h.dt, h.frac, by dsimp only; omega, by dsimp only; omega⟩
    next hn =>
      refine State.calMoved_ok _ ⟨h.store, h.regs, h.dt, h.frac, ?_, ?_⟩
      · dsimp only; omega
      · dsimp only; split <;> omega

theorem execBackupLoss_keeps : Answer.Keeps (execBackupLoss s) :=
  Answer.keeps_next (State.resetRegs_ok _ _
    ⟨h.store, h.regs, h.dt, h.frac, show State.reset.cald.sec < 2 ^ 33 by decide, show State.reset.cald.sub < 2 ^ 15 by decide⟩)

/-! ### Commands whose own meaning has several acts -/

theorem execLink_keeps (l : Fin 16) (signal blockLock hiBer : Bool) (fault : RxFault) (errored : Nat) :
    Answer.Keeps (execLink l signal blockLock hiBer fault errored s) :=
  Answer.keeps_next (State.linkEvent_ok _ _ _ h (State.updLane_ok _ _ _ (ok_ite (ok_setReg h) h)))

theorem execWaitdExpiry_keeps (k : Fin 65) : Answer.Keeps (execWaitdExpiry k s) :=
  Answer.keeps_next (ok_ite (State.wdBoundary_ok _ _ (State.updCore_ok _ _ _ (State.endWaitd_ok _ _ _ h))) h)

theorem execWatchdog_keeps (k : Fin 65) : Answer.Keeps (execWatchdog k s) :=
  Answer.keeps_next (ok_ite (State.wdBoundary_ok _ _ (State.updCore_ok _ _ _ (State.kick_ok _ _ h))) h)

theorem execDmaAbort_keeps (n : Fin 16) (moved : Nat) : Answer.Keeps (execDmaAbort n moved s) :=
  have hrun := State.dmaRun_ok s n (Nat.min moved (s.dma n).cnt) h
  Answer.keeps_next (ok_ite (ok_ite (State.dmaAbort_ok _ _ hrun) hrun) h)

theorem execDmaDone_keeps (n : Fin 16) : Answer.Keeps (execDmaDone n s) :=
  have hrun := State.dmaRun_ok s n (s.dma n).cnt h
  Answer.keeps_next (ok_ite (ok_ite (State.doneEdge_ok _ _ (State.raise_ok _ _ (State.updDma_ok _ _ _ hrun))) hrun) h)

theorem execDStateChange_keeps (d3hot pmeEn clearPme : Bool) : Answer.Keeps (execDStateChange d3hot pmeEn clearPme s) :=
  Answer.keeps_next (State.releaseHeld_ok _ (State.raiseIf_ok _ _ _ ⟨h.store, h.regs, h.dt, h.frac, h.sec, h.sub⟩))

theorem execLinkChange_keeps (up : Bool) (speed width : Fin 4) : Answer.Keeps (execLinkChange up speed width s) :=
  Answer.keeps_next (State.releaseHeld_ok _ (State.raiseIf_ok _ _ _ ⟨h.store, h.regs, h.dt, h.frac, h.sec, h.sub⟩))

theorem execPagePin_keeps (q : Fin 64) (hostOk : Bool) : Answer.Keeps (execPagePin q hostOk s) :=
  Answer.keeps_next (State.command_ok _ _ _ _ _ h fun _ _ _ hs =>
    ok_ite (State.finish_ok _ _ _ _ ⟨hs.store, hs.regs, hs.dt, hs.frac, hs.sec, hs.sub⟩) (State.hostPin_ok _ _ _ _ _ hs))

theorem execSchedStop_keeps (q : Fin 64) : Answer.Keeps (execSchedStop q s) :=
  Answer.keeps_next (State.command_ok _ _ _ _ _ h fun _ _ _ hs =>
    State.checkStops_ok _ (ok_forEach (State.wait_ok _ _ hs) fun _ _ => State.updLane_ok _ _ _))

theorem execRegionSet_keeps (q : Fin 64) : Answer.Keeps (execRegionSet q s) :=
  Answer.keeps_next (State.command_ok _ _ _ _ _ h fun _ _ _ hs =>
    State.finish_ok _ _ _ _ (State.writeReg_ok _ _ _ _ _ (State.writeReg_ok _ _ _ _ _ hs)))

theorem execTimeSetStep_keeps (q : Fin 64) : Answer.Keeps (execTimeSetStep q s) :=
  Answer.keeps_next (State.command_ok _ _ _ _ _ h fun _ _ _ hs => State.finish_ok _ _ _ _ (State.stepTime_ok _ _ _ hs hs.frac))

theorem execStoreRead_keeps (q : Fin 64) : Answer.Keeps (execStoreRead q s) :=
  Answer.keeps_next (State.command_ok _ _ _ _ _ h fun _ _ _ hs =>
    State.finish_ok _ _ _ _ (State.hostWrite_ok _ _ _ (ok_foldp _ _ _ hs fun _ _ _ => State.storeCopyOut_ok _ _ _)))

theorem execPerstN_keeps : Answer.Keeps (execPerstN s) :=
  Answer.keeps_next (ok_ite (State.raiseIf_ok _ _ _ (State.pcieReset_ok _ _ (State.flr_ok _ h))) h)

theorem execMrdCtl_keeps (v : W32) : Answer.Keeps (execMrdCtl v s) :=
  Answer.keeps_next (ok_ite (ok_setReg h) (State.restartWindows_ok _ (ok_setReg h)))

end

/-! ### Every command -/

/-- Every command keeps a well-kept state. A cluster operation only issues; a core instruction, a host access and a queue command
go through one shared frame each, whose lemma asks that the body keeps it; the others are calls of operations that Laws/Kept.lean
has a lemma for. -/
theorem exec_keeps (i : Instr) {s : State} (h : s.Ok) : Answer.Keeps (exec i s) := by
  cases i with
  | timeRelease a => exact execTimeRelease_keeps h a
  | link a b c d e f => exact execLink_keeps h a b c d e f
  | trap a => exact execTrap_keeps h a
  | beDrop a => exact execBeDrop_keeps h a
  | shgWait a => exact execShgWait_keeps h a
  | shgRet a => exact execShgRet_keeps h a
  | shgCpyb a => exact execShgCpyb_keeps h a
  | shgCmpb a => exact execShgCmpb_keeps h a
  | shgPrdb a => exact execShgPrdb_keeps h a
  | shgPwrb a => exact execShgPwrb_keeps h a
  | waitdExpiry a => exact execWaitdExpiry_keeps h a
  | shgKcall a b => exact execShgKcall_keeps h a b
  | shgLdp a b => exact execShgLdp_keeps h a b
  | shgStp a b => exact execShgStp_keeps h a b
  | shgPopp a b => exact execShgPopp_keeps h a b
  | shgLd a b c d => exact execShgLd_keeps h a b c d
  | shgSt a b c d => exact execShgSt_keeps h a b c d
  | watchdog a => exact execWatchdog_keeps h a
  | saData a b => exact execSaData_keeps h a b
  | svcMailbox a b => exact execSvcMailbox_keeps h a b
  | svcRaise a b => exact execSvcRaise_keeps h a b
  | svcHostNote a b => exact execSvcHostNote_keeps h a b
  | dmaAbort a b => exact execDmaAbort_keeps h a b
  | dmaDone a => exact execDmaDone_keeps h a
  | bar4Access a b c => exact execBar4Access_keeps h a b c
  | cqCfg a b => exact execCqCfg_keeps h a b
  | descriptorRead => exact execDescriptorRead_keeps h
  | readCompletion a b c => exact execReadCompletion_keeps h a b c
  | completionTimeout a => exact execCompletionTimeout_keeps h a
  | msixUnmask a b c => exact execMsixUnmask_keeps h a b c
  | dStateChange a b c => exact execDStateChange_keeps h a b c
  | linkChange a b c => exact execLinkChange_keeps h a b c
  | pagePin a b => exact execPagePin_keeps h a b
  | schedStop a => exact execSchedStop_keeps h a
  | calAdopt a => exact execCalAdopt_keeps h a
  | calDiscard a => exact execCalDiscard_keeps h a
  | regionSet a => exact execRegionSet_keeps h a
  | clockChange a => exact execClockChange_keeps h a
  | timeSetStep a => exact execTimeSetStep_keeps h a
  | storeRead a => exact execStoreRead_keeps h a
  | genVerificationDone => exact execGenVerificationDone_keeps h
  | perstN => exact execPerstN_keeps h
  | calTick => exact execCalTick_keeps h
  | backupLoss => exact execBackupLoss_keeps h
  | mrdCtl a => exact execMrdCtl_keeps h a
  | unsupportedRequest a => exact execUnsupportedRequest_keeps h a
  | add | sub | adc | sbc | neg | abs | min | max | and | or | xor | andn | not | mov | norm | lsl | lsr | asr | ror |
    lsli | lsri | asri | add32 | sub32 | neg32 | abs32 | asr32i | lsl32i | mov32 | cmp | tst | cmp32 | fadd | fsub |
    fmul | fmin | fmax | fabs | fneg | fcmp | flt | fix | fq15 | qf15 | fq31 | qf31 | div | divu | divq | fdiv | fsqrt |
    sqrtu | movc | ldia | ldik | ldi | clr | clrp | mpy | mac | msu | mac2 | msu2 | cmpy | cmac | cmacj | ftap | macsu |
    macuu | ash | adda | suba | lda | ext | extl | extd | extg | ld | ldd | st | std | sts | stsc | stsd | tli | trd |
    trdi | nop | endOp | ret | br | call | brd | loopd | loopi =>
    exact Answer.keeps_next (State.issue_ok _ _ _ h)
  | shgNop | shgSetgm | shgClrgm | shgRpt | shgJpz | shgWaitd | shgMovp | shgMovv | shgIncp | shgDecp | shgLdip | shgAdd
    | shgAdc | shgSub | shgSbc | shgAnd | shgOr | shgXor | shgCmp | shgAddi | shgAdci | shgSubi | shgMovi | shgAndi |
    shgOri | shgXori | shgCmpi | shgMov | shgMul | shgInc | shgDec | shgNot | shgNeg | shgTst | shgSwap | shgClr |
    shgShl | shgShr | shgAsr | shgRol | shgRor | shgRcl | shgRcr | shgJcc | shgBr =>
    exact Answer.keeps_next (State.shgPlain_ok _ _ _ _ _ _ h)
  | shgFilb =>
    exact Answer.keeps_next (State.shgBlock_ok _ _ _ _ _ _ h fun _ hs => by simp [hs])
  | shgRfe | shgCallpz | shgPush | shgPop | shgIn | shgOut | shgInPz | shgOutPz | shgPushp | shgLda | shgSta | shgCall |
    shgRcall =>
    exact Answer.keeps_next (State.shg_ok _ _ _ _ _ _ h fun _ hs => by simp [hs])
  | kcHead | kcReturn =>
    exact Answer.keeps_next (State.ridgePort_ok _ _ h fun _ hs => by simp [hs])
  | svcVersion | svcWallclock | svcLog =>
    exact Answer.keeps_next (State.serve_ok _ _ _ _ _ h fun _ hs => by simp [hs])
  | hostEoi | registerWrite | spareMask | fenceStatus | admCtl | queueCtl | sqBaseLo | bootGo =>
    exact Answer.keeps_next (State.fromHost_ok _ _ h fun _ hs => by simp [hs])
  | sqTail | chainResume =>
    exact Answer.keeps_next (State.doorbell_ok _ _ h fun _ hs => by simp [hs])
  | cmdNop | taskletDefine | taskletRebind | taskletRemove | taskletRead | schedStart | slotLoad | fieldLineSet |
    fieldPartnerSet | partnerRead | fieldMsgPost | msgFree | calSlotSet | calSlotRead | shingleLoad | logRead | clockSet
    | powerSet | timeSetDt | timeSetRate | statsRead | regWrite | storeWrite =>
    exact Answer.keeps_next (State.command_ok _ _ _ _ _ h fun _ _ _ hs => by simp +contextual [hs])
  | announce | overrun | emulationTimeout | wdtKick | claim | eoi | mailboxWrite | dmaStart | dmaStop | moderationTimer
    | functionLevelReset | porstN | ppsIn | ppsLost | ppsOut | peerDelayGeneration | modPresent =>
    exact Answer.keeps_next (by split <;> simp [h])
  | tOf | t0 | applyTime | tIc | inFrameArrival | placement | returnedFrame | returnLimit | lateSet | contFrame |
    messageRetry | ditherStopRetry | sync | ptpMessage | stageIn | stageInComplete | pageFetch | pageFetchDone |
    genLoaded | resultLands | trapResumeGo | trapResumeRedirect | trapResumeFail | commit | commitPublication |
    allocInit | allocInitDone | scrub | lockstepMismatch | exceptionEntry | shgRun | sourceEdge | pend | pendClr |
    srcCfg | hostTargetClaim | fetchAdd | compareSwap | cqHead | evqHead | busMasterEnable | genOpen | genAbandon |
    genReq | genGo | kernelLoaded | softRstRidge | softRstShingle | softRstField | powerRampDone | memClearDone |
    drainDone | thermSample | thermtrip | calSecHi | calSecLo | dtLo | sysclkLoss | sysclkReturn | vddAonLoss |
    jtagInstruction =>
    exact Answer.keeps_next (by simp [h])

theorem step_keeps {s : State} (h : s.Ok) : Answer.Keeps (step s) := by
  unfold step
  split
  · exact Answer.keeps_next (State.idleCycle_ok s h)
  · exact exec_keeps _ ⟨h.store, h.regs, h.dt, h.frac, h.sec, h.sub⟩

/-- Settles O4: a step is a cycle of SYSCLK or one command, and each keeps what `State.Ok` says. -/
theorem stepKeepsOk : Obligations.StepKeepsOk := by
  unfold Obligations.StepKeepsOk
  exact fun s t h hstep => step_keeps h t hstep

end Sys2Proof.Machine
end

section
/-!
PROOF. Proofs/Arithmetic.lean: the exact sums of the model (Machine/Flags.lean) are the sums of R60: a word and its complement add up
to −1, and a sum leaves the signed range exactly when both operands have a sign that the wrapped sum has not.
-/
namespace Sys2Proof.Machine

theorem toNat_add_toNat_not {w : Nat} (a : BitVec w) : a.toNat + (~~~a).toNat + 1 = 2 ^ w := by
  have := a.isLt
  rw [BitVec.toNat_not]
  omega

section
variable {w : Nat} (hw : 0 < w)
include hw

theorem two_pow_eq_two_mul : (2 : Int) ^ w = 2 * 2 ^ (w - 1) := by
  obtain ⟨n, rfl⟩ : ∃ n, w = n + 1 := ⟨w - 1, by omega⟩
  exact (Int.pow_succ 2 n).trans (Int.mul_comm _ _)

theorem toInt_ofInt_of_range {x : Int} (hlo : -2 ^ (w - 1) ≤ x) (hhi : x < 2 ^ (w - 1)) : (BitVec.ofInt w x).toInt = x := by
  have hpow := two_pow_eq_two_mul hw
  rw [BitVec.toInt_ofInt]
  apply Int.bmod_eq_of_le <;> push_cast <;> omega

/-- A number of at most one bit more than w wraps by at most one turn. -/
theorem toInt_ofInt_cases {x : Int} (hlo : -2 ^ w ≤ x) (hhi : x < 2 ^ w) :
    (BitVec.ofInt w x).toInt = x ∨ (BitVec.ofInt w x).toInt = x - 2 ^ w ∨ (BitVec.ofInt w x).toInt = x + 2 ^ w := by
  have hpos : (0 : Int) < 2 ^ w := Int.pow_pos (by decide)
  have hmod : x % 2 ^ w = x ∨ x % 2 ^ w = x + 2 ^ w := by
    by_cases hx : 0 ≤ x
    · exact .inl (Int.emod_eq_of_lt hx hhi)
    · rw [← Int.add_emod_right]
      exact .inr (Int.emod_eq_of_lt (by omega) (by omega))
  have hcast : ((2 ^ w : Nat) : Int) = 2 ^ w := Int.natCast_pow 2 w
  rw [BitVec.toInt_ofInt, Int.bmod_def, hcast]
  split <;> omega

theorem toInt_not_eq (a : BitVec w) : (~~~a).toInt = -a.toInt - 1 := by
  have hlo := a.le_toInt
  have hhi := a.toInt_lt
  have hnot : ~~~a = BitVec.ofInt w (-a.toInt - 1) := by
    rw [Int.sub_eq_add_neg, BitVec.ofInt_add, BitVec.ofInt_neg, BitVec.ofInt_toInt, BitVec.neg_eq_not_add, BitVec.ofInt_neg,
      BitVec.add_assoc, ← BitVec.sub_eq_add_neg]
    exact ((congrArg (~~~a + ·) (BitVec.sub_self _)).trans (BitVec.add_zero _)).symm
  rw [hnot, toInt_ofInt_of_range hw (by omega) (by omega)]

theorem ofInt_two_pow_sub_one : BitVec.ofInt w (2 ^ (w - 1) - 1) = BitVec.intMax w :=
  BitVec.eq_of_toInt_eq (by
    have hpos : (0 : Int) < 2 ^ (w - 1) := Int.pow_pos (by decide)
    rw [toInt_ofInt_of_range hw (by omega) (by omega), BitVec.toInt_intMax])

/-- The exact signed sum of two words and a carry, with the carry out `c` that goes with it, is the sum of R60. -/
theorem signedRes_eq_sumRule {x : Int} {a b : BitVec w} {cin c : Bool} (sat : Bool) (hx : x = a.toInt + b.toInt + cin.toNat)
    (hc : c = decide (2 ^ w ≤ a.toNat + b.toNat + cin.toNat)) : signedRes w x c sat = sumRule a b cin sat := by
  have hpow := two_pow_eq_two_mul hw
  have hcin : cin.toNat ≤ 1 := cin.toNat_le
  have ha := a.le_toInt; have ha' := a.toInt_lt
  have hb := b.le_toInt; have hb' := b.toInt_lt
  have hr : BitVec.ofInt w x = a + b + BitVec.ofNat w cin.toNat := by
    rw [hx, BitVec.ofInt_add, BitVec.ofInt_add, BitVec.ofInt_toInt, BitVec.ofInt_toInt, BitVec.ofInt_natCast]
  have hmin : sMin w = -2 ^ (w - 1) := rfl
  have hmax : sMax w = 2 ^ (w - 1) - 1 := rfl
  have hwrap := toInt_ofInt_cases hw (x := x) (by omega) (by omega)
  have hrlo := (BitVec.ofInt w x).le_toInt
  have hrhi := (BitVec.ofInt w x).toInt_lt
  have hov : (decide (x < sMin w) || decide (sMax w < x)) =
      ((a.msb == b.msb) && ((BitVec.ofInt w x).msb != a.msb)) := by
    rw [Bool.eq_iff_iff]
    simp only [BitVec.msb_eq_toInt, Bool.or_eq_true, Bool.and_eq_true, decide_eq_true_eq, beq_iff_eq, bne_iff_ne, ne_eq, decide_eq_decide]
    omega
  have hclamp (h : (decide (x < sMin w) || decide (sMax w < x)) = true) :
      BitVec.ofInt w (clampInt (sMin w) (sMax w) x) = if a.msb then BitVec.intMin w else BitVec.intMax w := by
    have hpos : (0 : Int) < 2 ^ (w - 1) := Int.pow_pos (by decide)
    simp only [Bool.or_eq_true, decide_eq_true_eq] at h
    rw [BitVec.msb_eq_toInt]
    unfold clampInt
    by_cases hneg : a.toInt < 0
    · rw [if_pos (by omega), hmin, ← BitVec.intMin_eq_neg_two_pow, if_pos (by simpa using hneg)]
    · rw [if_neg (by omega), if_pos (by omega), hmax, ofInt_two_pow_sub_one hw, if_neg (by simpa using hneg)]
  have hval : BitVec.ofInt w (if (decide (x < sMin w) || decide (sMax w < x)) && sat
        then clampInt (sMin w) (sMax w) x else x) =
      if ((a.msb == b.msb) && ((BitVec.ofInt w x).msb != a.msb)) && sat then
        (if a.msb then BitVec.intMin w else BitVec.intMax w) else BitVec.ofInt w x := by
    rw [← hov]
    split
    next hsat => exact hclamp (Bool.and_eq_true_iff.mp hsat).1
    next => rfl
  unfold signedRes sumRule mkRes
  dsimp only
  rw [hval, hov, hr, hc]

variable (a b : BitVec w) (cin sat : Bool)

theorem addRes_eq_sumRule : addRes a b cin sat = sumRule a b cin sat := by
  unfold addRes
  apply signedRes_eq_sumRule hw <;> cases cin <;> rfl

/-- A difference is the sum with the complement. -/
theorem subRes_eq_sumRule : subRes a b cin sat = sumRule a (~~~b) cin sat := by
  have hnot := toNat_add_toNat_not b
  unfold subRes
  apply signedRes_eq_sumRule hw
  · rw [toInt_not_eq hw]; cases cin <;> simp [b2n] <;> omega
  · cases cin <;> simp [b2n] <;> omega

theorem negRes_eq_sumRule : negRes a sat = sumRule 0 (~~~a) true sat := by
  have hnot := toNat_add_toNat_not a
  unfold negRes
  apply signedRes_eq_sumRule hw
  · rw [toInt_not_eq hw]; simp
  · rw [decide_eq_decide, ← BitVec.toNat_inj, Bool.toNat_true]
    change a.toNat = (0#w).toNat ↔ 2 ^ w ≤ (0#w).toNat + (~~~a).toNat + 1
    rw [BitVec.toNat_zero]
    omega

/-- The magnitude of a negative word is its negation, without a carry; another word is its own magnitude. -/
theorem absRes_eq : absRes a sat = if a.msb then
    ⟨(sumRule 0 (~~~a) true sat).v, { (sumRule 0 (~~~a) true sat).f with c := false }⟩ else plainRule a := by
  have hpos : (0 : Int) < 2 ^ (w - 1) := Int.pow_pos (by decide)
  have hlt := a.toInt_lt
  rw [← negRes_eq_sumRule hw, BitVec.msb_eq_toInt]
  by_cases hneg : a.toInt < 0
  · have habs : Int.ofNat a.toInt.natAbs = -a.toInt := Int.ofNat_natAbs_of_nonpos (by omega)
    simp only [absRes, negRes, habs, hneg, decide_true, if_true]
    rfl
  · have habs : Int.ofNat a.toInt.natAbs = a.toInt := Int.natAbs_of_nonneg (by omega)
    have hmin : ¬ a.toInt < -2 ^ (w - 1) := by omega
    have hmax : ¬ 2 ^ (w - 1) - 1 < a.toInt := by omega
    simp only [absRes, signedRes, habs, hneg, sMin, sMax, hmin, hmax, mkRes, plainRule]
    simp
end

end Sys2Proof.Machine
end

section
/-!
PROOF. Proofs/AluResults.lean: an operation of ALU0 or ALU1 of an assigned form leaves its results to land (Laws/Issue.lean), and what
those results are: sums (Proofs/Arithmetic.lean), logic, shifts, pairs, compares, binary32 and moves.
-/
namespace Sys2Proof.Machine

/-! ### Operations that only leave results -/

theorem causesOf_eq_nil {l : List (Bool × Nat)} (h : ∀ p ∈ l, p.1 = false) : causesOf l = [] := by
  have hl : l.filter (·.1) = [] := List.filter_eq_nil_iff.mpr fun p hp => by simp [h p hp]
  simp [causesOf, hl]

/-- The condition of an even register, as PAIR tests it. -/
theorem causesOf_odd {n : Nat} (h : n % 2 = 0) (l : List (Bool × Nat)) : causesOf ((odd n, tPair) :: l) = causesOf l := by
  simp [causesOf, odd_eq_false h]

section
variable {s : State} {c u len due dst : Nat} {f : Bool} {g : Cluster → Op} {traps : List (Bool × Nat)}

/-- An operation without a cause, an address, a transfer or a memory word of its own joins its bundle and leaves its results. -/
theorem State.issue_results {ents : List Entry} (ht : s.Takes c u len f)
    (hg : g (s.cluster c) = { Op.plain u len with flagW := f, ents := ents }) :
    Host.Outcome.next (s.issue c g) = s.results c u len f ents :=
  congrArg _ (State.issue_joins hg ht
    { traps := rfl
      ag := fun _ h => absurd h (Option.some_ne_none _).symm
      le := fun h => absurd h Bool.false_ne_true
      fault := rfl
      reads := fun _ h => absurd h List.not_mem_nil })

theorem State.issue_aluOp {ents : List Entry} (ht : s.Takes c u 2 f) (htraps : causesOf traps = [])
    (hg : g (s.cluster c) = aluOp u traps f ents) : Host.Outcome.next (s.issue c g) = s.results c u 2 f ents :=
  State.issue_results ht (by rw [hg, aluOp, htraps]; rfl)

theorem State.issue_alu16 {r r' : Res 16} (ht : s.Takes c u 2 f) (htraps : causesOf traps = [])
    (hg : g (s.cluster c) = alu16 u f dst traps r) (hr : r = r') :
    Host.Outcome.next (s.issue c g) = s.results c u 2 f [entD 1 u dst r'.v (if f then some r'.f else none)] :=
  State.issue_aluOp ht htraps (hr ▸ hg)

theorem State.issue_alu32 {r r' : Res 32} (ht : s.Takes c u 2 f) (htraps : causesOf traps = [])
    (hg : g (s.cluster c) = alu32 u f dst traps r) (hr : r = r') :
    Host.Outcome.next (s.issue c g) = s.results c u 2 f (entP 1 u dst r'.v (if f then some r'.f else none)) :=
  State.issue_aluOp ht htraps (hr ▸ hg)

theorem State.issue_aluCmp {fl fl' : FlagUpd} {e : BitVec 5} (ht : s.Takes c u 2 true) (htraps : causesOf traps = [])
    (hg : g (s.cluster c) = aluCmp u traps fl e) (hfl : fl = fl') :
    Host.Outcome.next (s.issue c g) = s.results c u 2 true [{ mkEnt 1 u .nowhere 0 (some fl') with fpf := e }] :=
  State.issue_aluOp ht htraps (hfl ▸ hg)
end

/-! ### Sums -/

/-- Settles O5: the operation joins its bundle, and its exact sum is that of R60. -/
theorem addSubResults : Obligations.AddSubResults := by
  unfold Obligations.AddSubResults
  intro c u f dst sa sb s ht x put
  have hw : 0 < 16 := by decide
  exact ⟨State.issue_alu16 ht rfl rfl (addRes_eq_sumRule hw ..), State.issue_alu16 ht rfl rfl (subRes_eq_sumRule hw ..),
    State.issue_alu16 ht rfl rfl (addRes_eq_sumRule hw ..), State.issue_alu16 ht rfl rfl (subRes_eq_sumRule hw ..),
    State.issue_alu16 ht rfl rfl (negRes_eq_sumRule hw ..), State.issue_alu16 ht rfl rfl (absRes_eq hw ..)⟩

/-! ### Logic and shifts -/

theorem logicRes_eq_plainRule {w : Nat} (v : BitVec w) : logicRes v = plainRule v := rfl

section
variable {w : Nat} (a : BitVec w) (n : Nat)

theorem lslRes_eq_shiftRule : lslRes a n = shiftRule (a <<< n) (decide (0 < n ∧ n ≤ w) && a.getLsbD (w - n)) := by
  simp [lslRes, mkRes, shiftRule, bit, Nat.one_le_iff_ne_zero, Nat.pos_iff_ne_zero]

theorem lsrRes_eq_shiftRule : lsrRes a n = shiftRule (a >>> n) (decide (0 < n ∧ n ≤ w) && a.getLsbD (n - 1)) := by
  simp [lsrRes, mkRes, shiftRule, bit, Nat.one_le_iff_ne_zero, Nat.pos_iff_ne_zero]

/-- From a shift by w on, the last bit out is the sign, bit w − 1. -/
theorem asrRes_eq_shiftRule (hw : 0 < w) :
    asrRes a n = shiftRule (a.sshiftRight n) (decide (0 < n) && a.getLsbD (Nat.min (n - 1) (w - 1))) := by
  have hlast : (if n < w then bit a (n - 1) else a.msb) = a.getLsbD (Nat.min (n - 1) (w - 1)) := by
    split
    next h => rw [show Nat.min (n - 1) (w - 1) = n - 1 from Nat.min_eq_left (by omega), bit]
    next h => rw [show Nat.min (n - 1) (w - 1) = w - 1 from Nat.min_eq_right (by omega), BitVec.msb_eq_getLsbD_last]
  simp only [asrRes, mkRes, shiftRule, hlast, Nat.one_le_iff_ne_zero, Nat.pos_iff_ne_zero]

/-- The bit that leaves a rotation last is the one that arrives at the top. -/
theorem rorRes_eq_shiftRule (hw : 0 < w) :
    rorRes a n = shiftRule (a.rotateRight (n % w)) (decide (0 < n) && (a.rotateRight (n % w)).msb) := by
  have hlast (hn : 0 < n) : bit a ((n - 1) % w) = (a.rotateRight (n % w)).msb := by
    have hlt := Nat.mod_lt n hw
    rw [BitVec.msb_eq_getLsbD_last, BitVec.getLsbD_rotateRight, Nat.mod_mod, bit]
    rcases Nat.eq_zero_or_pos (n % w) with h0 | hpos
    · obtain ⟨k, rfl⟩ := Nat.dvd_of_mod_eq_zero h0
      obtain ⟨j, rfl⟩ : ∃ j, k = j + 1 := ⟨k - 1, by have := Nat.pos_of_mul_pos_left hn; omega⟩
      have hmod : (w * (j + 1) - 1) % w = w - 1 := by
        rw [Nat.mul_succ, Nat.add_sub_assoc hw, Nat.mul_add_mod, Nat.mod_eq_of_lt (by omega)]
      have hin : w - 1 < w := by omega
      simp [hmod, hin]
    · have hmod : (n - 1) % w = n % w - 1 := by
        conv => lhs; rw [← Nat.div_add_mod n w, Nat.add_sub_assoc hpos, Nat.mul_add_mod]
        exact Nat.mod_eq_of_lt (by omega)
      have htop : ¬ w - 1 < w - n % w := by omega
      have hin : w - 1 < w := by omega
      have hbit : w - 1 - (w - n % w) = n % w - 1 := by omega
      simp [hmod, htop, hin, hbit]
  rcases Nat.eq_zero_or_pos n with rfl | hn
  · simp [rorRes, mkRes, shiftRule]
  · rw [rorRes, mkRes, hlast hn]
    rfl
end

theorem normCount_eq (a : W16) :
    normCount a = ((List.range 15).filter (fun i => a.getLsbD i == a.getLsbD 15)).length := by
  rw [normCount, List.countP_eq_length_filter, BitVec.msb_eq_getLsbD_last]
  rfl

theorem ite_toInt_le {w : Nat} (a b x y : BitVec w) : (if a.toInt ≤ b.toInt then x else y) = if a.sle b then x else y := by
  rw [BitVec.sle]
  simp only [decide_eq_true_eq]

theorem State.issue_logic16 {s : State} {c u dst : Nat} {f : Bool} {g : Cluster → Op} {v v' : W16} (ht : s.Takes c u 2 f)
    (hg : g (s.cluster c) = alu16 u f dst [] (logicRes v)) (hv : v = v') :
    Host.Outcome.next (s.issue c g) = s.results c u 2 f [entD 1 u dst v' (if f then some (plainRule v').f else none)] :=
  State.issue_alu16 (r' := plainRule v') ht rfl hg (hv ▸ logicRes_eq_plainRule v)

theorem fld_low (b : W16) : fld b 4 0 = b.toNat % 32 := by simp [fld]

theorem causesOf_field_of_lt {n : Nat} (h : n < 16) : causesOf [(decide (16 ≤ n), tField)] = [] :=
  causesOf_eq_nil (by simp [h])

/-- Settles O6: the operation joins its bundle; its value and the last bit out are those of R59 and R60. -/
theorem logicShiftResults : Obligations.LogicShiftResults := by
  unfold Obligations.LogicShiftResults
  refine ⟨?_, ?_⟩
  · intro c u f dst sa sb s ht a b put
    exact ⟨State.issue_logic16 ht rfl (ite_toInt_le ..), State.issue_logic16 ht rfl (ite_toInt_le ..),
      State.issue_logic16 ht rfl rfl, State.issue_logic16 ht rfl rfl, State.issue_logic16 ht rfl rfl,
      State.issue_logic16 ht rfl rfl, State.issue_logic16 ht rfl rfl, State.issue_logic16 ht rfl rfl,
      State.issue_logic16 ht rfl (by rw [normCount_eq])⟩
  · intro c u f dst sa sb n s ht a m put lsl lsr asr
    have hw : 0 < 16 := by decide
    have hm : fld ((s.cluster c).dr sb) 4 0 = m := fld_low _
    refine ⟨State.issue_alu16 ht rfl rfl (by rw [hm, lslRes_eq_shiftRule]), State.issue_alu16 ht rfl rfl (by rw [hm, lsrRes_eq_shiftRule]),
      State.issue_alu16 ht rfl rfl (by rw [hm, asrRes_eq_shiftRule _ _ hw]),
      State.issue_alu16 ht rfl rfl (by rw [hm, rorRes_eq_shiftRule _ _ hw]),
      fun hn => ?_⟩
    have htraps := causesOf_field_of_lt hn
    exact ⟨State.issue_alu16 ht htraps rfl (lslRes_eq_shiftRule ..), State.issue_alu16 ht htraps rfl (lsrRes_eq_shiftRule ..),
      State.issue_alu16 ht htraps rfl (asrRes_eq_shiftRule _ _ hw)⟩

/-! ### Pairs and compares -/

section
variable {x y z : Nat} (hx : x % 2 = 0) (hy : y % 2 = 0)
include hx hy

theorem causesOf_odd2 : causesOf [(odd x, tPair), (odd y, tPair)] = [] := by rw [causesOf_odd hx, causesOf_odd hy]; rfl

theorem causesOf_odd3 (hz : z % 2 = 0) : causesOf [(odd x, tPair), (odd y, tPair), (odd z, tPair)] = [] := by
  rw [causesOf_odd hx, causesOf_odd2 hy hz]
end

/-- Settles O7: on even pairs no cause arises; the values are those of R59 and R60. -/
theorem pairCompareResults : Obligations.PairCompareResults := by
  unfold Obligations.PairCompareResults
  have hw : 0 < 32 := by decide
  have hw16 : 0 < 16 := by decide
  refine ⟨?_, ?_⟩
  · intro c u f dst sa sb n s ht hdst hsa hsb x a b put
    have h2 := causesOf_odd2 hdst hsa
    have h3 := causesOf_odd3 hdst hsa hsb
    refine ⟨State.issue_alu32 ht h3 rfl (addRes_eq_sumRule hw ..), State.issue_alu32 ht h3 rfl (subRes_eq_sumRule hw ..),
      State.issue_alu32 ht h2 rfl (negRes_eq_sumRule hw ..), State.issue_alu32 ht h2 rfl (absRes_eq hw ..),
      State.issue_alu32 ht h2 rfl ?_, State.issue_alu32 ht h2 rfl ?_, State.issue_alu32 ht h2 rfl rfl⟩
    · have hmin : Nat.min (n.val - 1) (32 - 1) = n.val - 1 := Nat.min_eq_left (by omega)
      rw [asrRes_eq_shiftRule _ _ hw, hmin]
    · rw [lslRes_eq_shiftRule]
      simp only [Nat.le_of_lt n.isLt, and_true]
      rfl
  · intro c u sa sb s ht x put
    refine ⟨State.issue_aluCmp ht rfl rfl (by rw [subRes_eq_sumRule hw16]), State.issue_aluCmp ht rfl rfl rfl, fun hsa hsb => ?_⟩
    have h2 := causesOf_odd2 hsa hsb
    exact ⟨State.issue_aluCmp ht h2 rfl (by rw [subRes_eq_sumRule hw]), State.issue_aluCmp ht h2 rfl rfl⟩

/-! ### Binary32 and conversions -/

section
variable {s : State} {c u due dst : Nat} {f : Bool} {g : Cluster → Op} {traps : List (Bool × Nat)} {v : W32} {fl : FlagUpd}
  {e : BitVec 5}

theorem State.issue_fp32 (ht : s.Takes c u 2 f) (htraps : causesOf traps = [])
    (hg : g (s.cluster c) = fp32 due u f dst traps v fl e) : Host.Outcome.next (s.issue c g) = s.results c u 2 f
      [{ entD due u dst (v.setWidth 16) (if f then some fl else none) with fpf := e },
        entD due u (dst + 1) ((v >>> 16).setWidth 16) none] :=
  State.issue_aluOp ht htraps hg
end

/-- Settles O8: on even pairs no cause arises, and the result waits for its latency. -/
theorem floatResults : Obligations.FloatResults := by
  unfold Obligations.FloatResults
  intro c u f dst sa sb s ht hdst hsa hsb x a b pair fp
  have h1 : causesOf [(odd dst, tPair)] = [] := causesOf_odd hdst _
  have h1' : causesOf [(odd sa, tPair)] = [] := causesOf_odd hsa _
  have h2 := causesOf_odd2 hdst hsa
  have h3 := causesOf_odd3 hdst hsa hsb
  exact ⟨State.issue_fp32 ht h3 rfl, State.issue_fp32 ht h3 rfl, State.issue_fp32 ht h3 rfl, State.issue_fp32 ht h3 rfl,
    State.issue_fp32 ht h3 rfl, State.issue_fp32 ht h2 rfl, State.issue_fp32 ht h2 rfl, State.issue_fp32 ht h2 rfl,
    State.issue_fp32 ht h1 rfl, State.issue_fp32 ht h2 rfl, State.issue_fp32 ht h2 rfl, State.issue_fp32 ht h2 rfl,
    State.issue_aluOp ht h1' rfl⟩

end Sys2Proof.Machine
end

section
/-!
PROOF. Proofs/DivMoveResults.lean: the launches of the divide and square-root unit (R62), and the moves and immediates of the ALUs (R58).
-/
namespace Sys2Proof.Machine

/-! ### The divide and square-root unit -/

/-- The two halves of a pair: the low word in the even register. -/
theorem entP_append (due u n : Nat) (hi lo : W16) (fl : Option FlagUpd) :
    entP due u n (hi ++ lo : W32) fl = [entD due u n lo fl, entD due u (n + 1) hi none] := by
  have hlo : (hi ++ lo : W32).setWidth 16 = lo := BitVec.setWidth_append_eq_right
  have hhi : ((hi ++ lo : W32) >>> 16).setWidth 16 = hi :=
    BitVec.setWidth_ushiftRight_eq_extractLsb.trans BitVec.extractLsb'_append_eq_left
  rw [entP, hlo, hhi]

/-- A launch from ALU1 has no cause of its own: only its pairs can have one. -/
theorem causesOf_unit (l : List (Bool × Nat)) : causesOf ((decide ((1 : Nat) = 0), tUnit) :: l) = causesOf l := rfl

section
variable {s : State} {c dst : Nat} {f : Bool} {g : Cluster → Op} {traps : List (Bool × Nat)}

/-- A quotient with its remainder. -/
theorem State.issue_divPair {d : DivRes} (ht : s.Takes c 1 2 f) (htraps : causesOf traps = [])
    (hg : g (s.cluster c) = divOp 1 f traps (entP 1 1 dst (d.r ++ d.q) (withF f (divFlags d)))) :
    Host.Outcome.next (s.issue c g) = s.results c 1 2 f
      [{ entD 18 1 dst d.q (if f then some (divFlags d) else none) with div := true },
       { entD 18 1 (dst + 1) d.r none with div := true }] :=
  State.issue_aluOp ht htraps (by rw [hg, entP_append]; rfl)

/-- A quotient or root of one word. -/
theorem State.issue_divWord {d : DivRes} (ht : s.Takes c 1 2 f) (htraps : causesOf traps = [])
    (hg : g (s.cluster c) = divOp 1 f traps [entD 1 1 dst d.q (withF f (divFlags d))]) :
    Host.Outcome.next (s.issue c g) = s.results c 1 2 f
      [{ entD 18 1 dst d.q (if f then some (divFlags d) else none) with div := true }] :=
  State.issue_aluOp ht htraps hg

/-- A binary32 quotient or root. -/
theorem State.issue_divFp {r : FRes} (ht : s.Takes c 1 2 f) (htraps : causesOf traps = [])
    (hg : g (s.cluster c) = divOp 1 f traps (fp32 1 1 f dst [] r.v (fDivFlags r.v) r.x).ents) :
    Host.Outcome.next (s.issue c g) = s.results c 1 2 f
      [{ entD 18 1 dst (r.v.setWidth 16) (if f then some (fDivFlags r.v) else none) with div := true, fpf := r.x },
       { entD 18 1 (dst + 1) ((r.v >>> 16).setWidth 16) none with div := true }] :=
  State.issue_aluOp ht htraps hg
end

/-- The largest or the smallest Q15 word, as R62 gives it for an overflow. -/
abbrev satWord (pos : Bool) : W16 := if pos then 0x7FFF else 0x8000

theorem divRes_eq (a : W32) (b : W16) : divRes a b =
    if b = 0 then ⟨satWord (decide (0 ≤ a.toInt)), 0, true⟩
    else if a.toInt.tdiv b.toInt < -32768 ∨ 32767 < a.toInt.tdiv b.toInt then
      ⟨satWord (decide (0 < a.toInt.tdiv b.toInt)), 0, true⟩
    else ⟨BitVec.ofInt 16 (a.toInt.tdiv b.toInt), BitVec.ofInt 16 (a.toInt.tmod b.toInt), false⟩ := by
  have hmin : sMin 16 = -32768 := rfl
  have hmax : sMax 16 = 32767 := rfl
  unfold divRes
  simp only [hmin, hmax, satWord, decide_eq_true_eq]
  split
  · rfl
  · generalize a.toInt.tdiv b.toInt = q
    by_cases hlo : q < -32768
    · simp [hlo, show ¬ 0 < q by omega]
    · by_cases hhi : 32767 < q
      · simp [hlo, hhi, show 0 < q by omega]
      · simp [hlo, hhi]

/-- Settles O9: the launch joins its bundle; quotient, remainder and overflow are those of R62. -/
theorem divideResults : Obligations.DivideResults := by
  unfold Obligations.DivideResults
  intro c f dst sa sb s ht hsa x a b one two fp top
  refine ⟨fun hdst => ?_, State.issue_divWord (d := divqRes (x.dr sa) b) ht rfl rfl,
    State.issue_divWord (d := sqrtuRes a) ht (causesOf_odd hsa _) rfl⟩
  have h2 := causesOf_odd2 hdst hsa
  refine ⟨?_, ?_, State.issue_divFp ht h2 rfl, fun hsb => State.issue_divFp ht (causesOf_odd3 hdst hsa hsb) rfl⟩
  · refine (State.issue_divPair (d := divRes a b) ht h2 rfl).trans ?_
    rw [divRes_eq]
    split
    · rfl
    · split <;> rfl
  · refine (State.issue_divPair (d := divuRes a b) ht h2 rfl).trans ?_
    unfold divuRes
    split <;> rfl

/-! ### Moves and immediates -/

theorem State.issue_crWrite {s : State} {c u n : Nat} {g : Cluster → Op} {traps : List (Bool × Nat)} {v v' : W16} {f : Bool}
    (ht : s.Takes c u 2 f) (hf : f = decide (n = 44)) (htraps : causesOf traps = [])
    (hg : g (s.cluster c) = crWrite u n traps v) (hv : v = v') :
    Host.Outcome.next (s.issue c g) = s.results c u 2 (decide (n = 44)) [mkEnt 1 u (.cr n) (v'.setWidth 40) none] :=
  State.issue_aluOp (hf ▸ ht) htraps (hv ▸ hg)

theorem causesOf_movc {dir k : Nat} (hdir : dir < 2) (hk : k < 52) :
    causesOf [(decide (2 ≤ dir) || decide (52 ≤ k), tField)] = [] :=
  causesOf_eq_nil (by simp; omega)

/-- Settles O10: each move joins its bundle; FLG is control register 44, and LDIK names it by 12. -/
theorem moveResults : Obligations.MoveResults := by
  unfold Obligations.MoveResults
  intro c u d dst k a l imm v s x ctl
  refine ⟨fun ht => State.issue_crWrite ht rfl (causesOf_movc (dir := 0) (by decide) k.isLt) rfl rfl,
    fun ht => State.issue_aluOp ht (causesOf_movc (dir := 1) (by decide) k.isLt) rfl,
    fun ht => State.issue_crWrite ht (by simp; omega) rfl rfl ?_,
    fun ht hl => State.issue_crWrite ht (by simp; omega) (causesOf_eq_nil (by simp; omega)) rfl rfl,
    fun ht => State.issue_aluOp ht rfl rfl⟩
  by_cases ha : a.val < 24
  · rw [if_pos ha, if_neg (by omega)]
  · rw [if_neg ha, if_pos (by omega)]

end Sys2Proof.Machine
end

section
/-!
PROOF. Proofs/MacResults.lean: the operations of MAC0 and MAC1 (R63 to R65, R84 to R86): exact sums modulo 2^40, and the rounded, cut
or saturated parts of an accumulator.
-/
namespace Sys2Proof.Machine

/-! ### Results in accumulators -/

/-- The flags of a result and, where there is a second one, of both (R65): C outside 32 bits, V outside 40. -/
def macFlags (r i : Int) : FlagUpd :=
  let v := BitVec.ofInt 40 r
  let w := BitVec.ofInt 40 i
  ⟨decide (v = 0), v.msb, outside32 v || outside32 w, decide (v.toInt ≠ r) || decide (w.toInt ≠ i), false⟩

theorem accFlags_accVal (r : Int) : accFlags (accVal r) = macFlags r r := by
  simp [accFlags, accVal, macFlags]

theorem accFlags2_accVal (r i : Int) : accFlags2 (accVal r) (accVal i) = macFlags r i := rfl

section
variable {s : State} {c u len k : Nat} {f : Bool} {g : Cluster → Op} {traps : List (Bool × Nat)}

theorem State.issue_macOp {ents : List Entry} (ht : s.Takes c u len f) (htraps : causesOf traps = [])
    (hg : g (s.cluster c) = macOp u len traps f ents) : Host.Outcome.next (s.issue c g) = s.results c u len f ents :=
  State.issue_results ht (by rw [hg, macOp, htraps]; rfl)

theorem State.issue_mac1 {r : Int} (ht : s.Takes c u 2 f) (htraps : causesOf traps = [])
    (hg : g (s.cluster c) = mac1 u f k traps (accVal r)) : Host.Outcome.next (s.issue c g) =
      s.results c u 2 f [mkEnt 2 u (.acc k) (BitVec.ofInt 40 r) (if f then some (macFlags r r) else none)] :=
  State.issue_macOp ht htraps (by rw [hg, mac1, accFlags_accVal]; rfl)

theorem State.issue_mac2 {r i : Int} (ht : s.Takes c u 2 f) (htraps : causesOf traps = [])
    (hg : g (s.cluster c) = mac2 u f k traps (accVal r) (accVal i)) : Host.Outcome.next (s.issue c g) =
      s.results c u 2 f [mkEnt 2 u (.acc k) (BitVec.ofInt 40 r) (if f then some (macFlags r i) else none),
        mkEnt 2 u (.acc (k + 1)) (BitVec.ofInt 40 i) none] :=
  State.issue_macOp ht htraps (by rw [hg, mac2, accFlags2_accVal]; rfl)

/-- FTAP: the sum, and the sample moved on by one register (R63). -/
theorem State.issue_ftap {r : Int} {n : Nat} {v : W16} (ht : s.Takes c u 2 f) (htraps : causesOf traps = [])
    (hg : g (s.cluster c) = { mac1 u f k traps (accVal r) with ents := (mac1 u f k traps (accVal r)).ents ++ [entD 1 u n v none] }) :
    Host.Outcome.next (s.issue c g) = s.results c u 2 f
      [mkEnt 2 u (.acc k) (BitVec.ofInt 40 r) (if f then some (macFlags r r) else none), entD 1 u n v none] :=
  State.issue_results ht (by rw [hg, mac1, macOp, accFlags_accVal, htraps]; rfl)
end

theorem ashVal_eq (a : W40) (n : Int) :
    ashVal a n = accVal (if 0 ≤ n then a.toInt * 2 ^ n.toNat else roundHalfEven a.toInt (-n).toNat) := by
  unfold ashVal
  split <;> simp

/-- Settles O11: each operation joins its bundle, and its exact sum lands modulo 2^40. -/
theorem macResults : Obligations.MacResults := by
  unfold Obligations.MacResults
  intro c u f k j da db n s ht x unit add m fl one two
  refine ⟨State.issue_mac1 ht rfl rfl, State.issue_mac1 ht rfl rfl, State.issue_mac1 ht rfl rfl, State.issue_mac1 ht rfl rfl,
    State.issue_mac1 ht rfl rfl, State.issue_mac1 ht rfl rfl, State.issue_mac1 ht rfl rfl,
    State.issue_mac1 ht rfl (by rw [ashVal_eq]), fun hda => State.issue_ftap ht (causesOf_eq_nil (by simp; omega)) rfl,
    fun hk hdb => ?_⟩
  have h2 := causesOf_odd2 hk hdb
  refine ⟨State.issue_mac2 ht h2 rfl, State.issue_mac2 ht h2 rfl, fun hda => ?_⟩
  have h3 := causesOf_odd3 hk hda hdb
  exact ⟨State.issue_mac2 ht h3 rfl, State.issue_mac2 ht h3 rfl, State.issue_mac2 ht h3 rfl⟩

/-! ### Parts of an accumulator -/

/-- A number cut to w bits, saturated when `sat` is set, with its flags (R86). -/
def cutRule (w : Nat) (q : Int) (sat : Bool) : BitVec w × FlagUpd :=
  let tooBig := sat && (decide (q < -2 ^ (w - 1)) || decide (2 ^ (w - 1) - 1 < q))
  let v : BitVec w := if tooBig then (if q < 0 then BitVec.intMin w else BitVec.intMax w) else BitVec.ofInt w q
  (v, ⟨decide (v = 0), v.msb, false, tooBig, tooBig⟩)

theorem clampRes_eq_cutRule {w : Nat} (hw : 0 < w) (q : Int) (sat : Bool) :
    clampRes w q sat = ⟨(cutRule w q sat).1, (cutRule w q sat).2⟩ := by
  have hpos : (0 : Int) < 2 ^ (w - 1) := Int.pow_pos (by decide)
  have hmin : sMin w = -2 ^ (w - 1) := rfl
  have hmax : sMax w = 2 ^ (w - 1) - 1 := rfl
  have hval (h : (decide (q < -2 ^ (w - 1)) || decide (2 ^ (w - 1) - 1 < q)) = true) :
      BitVec.ofInt w (clampInt (sMin w) (sMax w) q) = if q < 0 then BitVec.intMin w else BitVec.intMax w := by
    simp only [Bool.or_eq_true, decide_eq_true_eq] at h
    unfold clampInt
    by_cases hneg : q < 0
    · rw [if_pos (by omega), if_pos hneg, hmin, ← BitVec.intMin_eq_neg_two_pow]
    · rw [if_neg (by omega), if_pos (by omega), if_neg hneg, hmax, ofInt_two_pow_sub_one hw]
  have hcut : BitVec.ofInt w (if sat && (decide (q < -2 ^ (w - 1)) || decide (2 ^ (w - 1) - 1 < q))
      then clampInt (sMin w) (sMax w) q else q) = (cutRule w q sat).1 := by
    unfold cutRule
    dsimp only
    split
    next hsat => exact hval (Bool.and_eq_true_iff.mp hsat).2
    next => rfl
  have hcomm : (decide (sMax w < q) || decide (q < sMin w)) = (decide (q < -2 ^ (w - 1)) || decide (2 ^ (w - 1) - 1 < q)) :=
    Bool.or_comm ..
  unfold clampRes
  dsimp only
  rw [hcomm, hcut]
  rfl

/-- EXTG: the top byte of an accumulator is what a division by 2^32 leaves. -/
theorem extgRes_eq_plainRule (a : W40) : extgRes a = plainRule (BitVec.ofInt 16 (a.toInt / 2 ^ 32)) := by
  have hlt := a.isLt
  have hv : BitVec.signExtend 16 (BitVec.setWidth 8 (a >>> 32)) = BitVec.ofInt 16 (a.toInt / 2 ^ 32) := by
    apply BitVec.eq_of_toInt_eq
    have hbyte : (BitVec.setWidth 8 (a >>> 32)).toNat = a.toNat / 2 ^ 32 := by
      rw [BitVec.toNat_setWidth, BitVec.toNat_ushiftRight, Nat.shiftRight_eq_div_pow]
      omega
    have hcond : (BitVec.setWidth 8 (a >>> 32)).toInt = a.toInt / 2 ^ 32 := by
      rw [BitVec.toInt_eq_toNat_cond, BitVec.toInt_eq_toNat_cond, hbyte]
      split <;> split <;> omega
    have hrange := (BitVec.setWidth 8 (a >>> 32)).le_toInt
    have hrange' := (BitVec.setWidth 8 (a >>> 32)).toInt_lt
    rw [BitVec.toInt_signExtend_of_le (by decide), hcond, toInt_ofInt_of_range (by decide) (by omega) (by omega)]
  rw [extgRes, hv]
  rfl

theorem State.issue_ext16 {s : State} {c u k : Nat} {f : Bool} {g : Cluster → Op} {r : Res 16} {v : W16} {fl : FlagUpd}
    (ht : s.Takes c u 2 f) (hg : g (s.cluster c) = macOp u 2 [] f [entD 2 u k r.v (withF f r.f)]) (hr : r = ⟨v, fl⟩) :
    Host.Outcome.next (s.issue c g) = s.results c u 2 f [entD 2 u k v (if f then some fl else none)] :=
  State.issue_macOp ht rfl (by rw [hg, hr]; rfl)

/-- Settles O12: each operation joins its bundle; the parts are those of R86. -/
theorem accumulatorResults : Obligations.AccumulatorResults := by
  unfold Obligations.AccumulatorResults
  refine ⟨?_, ?_⟩
  · intro c u k da s unit put
    exact ⟨fun ht => State.issue_macOp ht rfl rfl, fun ht hk => State.issue_macOp ht (causesOf_odd hk _) rfl,
      fun ht hda => State.issue_macOp ht (causesOf_odd hda _) rfl⟩
  · intro c u f k db s ht x unit a cut one
    have hw : 0 < 16 := by decide
    have hw32 : 0 < 32 := by decide
    refine ⟨State.issue_ext16 ht rfl (clampRes_eq_cutRule hw ..), State.issue_ext16 ht rfl (clampRes_eq_cutRule hw ..),
      State.issue_ext16 ht rfl (extgRes_eq_plainRule _), fun hdb =>
        State.issue_macOp (traps := [(odd db, tPair)]) ht (causesOf_odd hdb _) ?_⟩
    exact congrArg (fun r : Res 32 => macOp unit 2 _ f (entP 2 unit db r.v (withF f r.f))) (clampRes_eq_cutRule hw32 ..)

end Sys2Proof.Machine
end

section
/-!
PROOF. Proofs/MemoryResults.lean: loads and stores by an address generator, table reads (R31 to R35, R66 to R68, R88 to R90), and the
transfers of CTL (R42 to R45, R71).
-/
namespace Sys2Proof.Machine

/-! ### Loads by LSX and LSY -/

section
variable {s : State} {c u ag : Nat} {mode : AgMode} {r q : Nat} {g : Cluster → Op}

/-- A load or store whose form is assigned, whose address is legal and whose words are good has no cause of its own. -/
theorem lsOp_free {x : Cluster} {unit : Nat} {traps : List (Bool × Nat)} {f : Bool} {fault : Option Nat}
    {reads : List (Nat × Nat)} {ents : List Entry} (hag : ∀ p ∈ x.iss.ags, p.1 ≠ ag) (htraps : causesOf traps = [])
    (hfault : fault = none) (hreads : ∀ p ∈ reads, x.isBad p.1 p.2 = false) :
    x.Free (lsOp x unit ag mode traps f fault reads ents) where
  traps := htraps
  ag := fun k hk => by
    obtain rfl : ag = k := Option.some.inj hk
    exact hag
  le := fun h => absurd h Bool.false_ne_true
  fault := hfault
  reads := hreads

/-- The last result of a load or store is its generator after the access (R34). -/
theorem State.issue_lsOp {unit : Nat} {traps : List (Bool × Nat)} {f : Bool} {fault : Option Nat} {reads : List (Nat × Nat)}
    {ents : List Entry} (ht : s.Takes c unit 2 f) (hag : s.AgFree c ag) (htraps : causesOf traps = []) (hfault : fault = none)
    (hreads : ∀ p ∈ reads, (s.cluster c).isBad p.1 p.2 = false)
    (hg : g (s.cluster c) = lsOp (s.cluster c) unit ag mode traps f fault reads ents) :
    s.issue c g = s.joined c unit 2 f (some ag) .none
      (ents ++ [mkEnt 1 unit (.post ag) (((s.cluster c).eaNext ag mode).setWidth 40) none]) :=
  State.issue_joins hg ht (lsOp_free hag htraps hfault hreads)

theorem loadOp_eq {x : Cluster} (hq : x.phys (1 + u) (x.ea ag).toNat = some q) :
    loadOp x u ag mode r = lsOp x (4 + u) ag mode [] false none [(1 + u, q)] [entD 3 (4 + u) r (x.word (1 + u) q) none] := by
  simp [loadOp, hq, accessFault]

theorem storeOp_eq {x : Cluster} {traps : List (Bool × Nat)} {v : W16} {f : Bool} {fl : FlagUpd}
    (hq : x.physW (1 + u) (x.ea ag).toNat = some q) : storeOp x u ag mode traps v f fl =
      lsOp x (4 + u) ag mode traps f none [] [mkEnt 2 (4 + u) (storeDest u q (x.ea ag).toNat) (v.setWidth 40) (withF f fl)] := by
  simp [storeOp, hq, accessFault]

theorem storePair_eq {x : Cluster} {traps : List (Bool × Nat)} {lo hi : W16} {f : Bool} {fl : FlagUpd}
    (hq : x.physW (1 + u) (x.ea ag).toNat = some q) (ha : (x.ea ag).toNat % 2 = 0) : storePair x u ag mode traps lo hi f fl =
      lsOp x (4 + u) ag mode traps f none []
        [mkEnt 2 (4 + u) (storeDest u q (x.ea ag).toNat) (lo.setWidth 40) (withF f fl),
         mkEnt 2 (4 + u) (storeDest u (q + 1) ((x.ea ag).toNat + 1)) (hi.setWidth 40) none] := by
  simp [storePair, hq, accessFault, odd_eq_false ha]

end

/-! ### Table reads -/

/-- A table read of good words that are all mapped leaves one result. -/
theorem State.issue_tblOp {s : State} {c due dd : Nat} {g : Cluster → Op} {traps : List (Bool × Nat)} {virt qs : List Nat}
    {val : List W16 → W16} (ht : s.Takes c 6 2 false) (htraps : causesOf traps = [])
    (hq : virt.map ((s.cluster c).phys 3) = qs.map some) (hbad : ∀ q ∈ qs, (s.cluster c).isBad 3 q = false)
    (hg : g (s.cluster c) = tblOp (s.cluster c) traps virt due dd val) :
    Host.Outcome.next (s.issue c g) =
      s.results c 6 2 false [entD due 6 dd (val (qs.map ((s.cluster c).word 3))) none] := by
  have hall : (qs.map some).all Option.isSome = true := by simp
  have hids : (qs.map some).filterMap id = qs := by simp
  have hop : g (s.cluster c) = { tblOp (s.cluster c) traps virt due dd val with
      traps := [], fault := none, reads := qs.map (fun q => (3, q))
      ents := [entD due 6 dd (val (qs.map ((s.cluster c).word 3))) none] } := by
    rw [hg, tblOp]
    simp only [hq, hall, hids, htraps, if_true]
  refine congrArg _ (State.issue_joins hop ht ⟨rfl, fun _ h => absurd h (Option.some_ne_none _).symm,
    fun h => absurd h Bool.false_ne_true, rfl, fun p hp => ?_⟩)
  obtain ⟨q, hmem, rfl⟩ := List.mem_map.mp hp
  exact hbad q hmem

/-- Settles O13: an address that is mapped and reads a good word brings no cause, and the load joins its bundle. -/
theorem loadResults : Obligations.LoadResults := by
  unfold Obligations.LoadResults
  intro c u ag mode r tb k sg off q q1 s x sp unit step tbl
  refine ⟨fun ht hag hq h0 => ⟨?_, fun h1 ha hr => exec_ldd_even mode ht hag hr ha hq h0 h1⟩, fun ht dx => ⟨fun hq h0 => ?_,
    fun hq h0 => ?_, ?_⟩⟩
  · exact congrArg _ (State.issue_lsOp (g := fun x => loadOp x u ag mode r) (reads := [(sp, q)]) ht hag rfl rfl
      (by simpa using h0) (loadOp_eq hq))
  · refine State.issue_tblOp (virt := [(x.tb tb + x.dr dx).toNat]) (qs := [q]) (val := fun w => w.getD 0 0) ht rfl ?_ ?_ rfl
    · simpa [BitVec.toNat_add] using hq
    · simpa using h0
  · refine State.issue_tblOp (virt := [((x.tb tb).toNat + off) % 65536]) (qs := [q]) (val := fun w => w.getD 0 0) ht rfl ?_ ?_ rfl
    · simpa using hq
    · simpa using h0
  · intro v sh base hk hq hq1 h0 h1
    have hfield : causesOf [(decide (k.val = 7), tField)] = [] := causesOf_eq_nil (by simp; omega)
    refine State.issue_tblOp (virt := [base % 65536, (base + 1) % 65536]) (qs := [q, q1])
      (val := fun w => tliVal (w.getD 0 0) (w.getD 1 0) (v.toNat % 2 ^ sh) sh) ht hfield ?_ ?_ rfl
    · exact (congrArg (fun a => [a, x.phys 3 ((base + 1) % 65536)]) hq).trans (congrArg (fun b => [some q, b]) hq1)
    · exact List.forall_mem_cons.mpr ⟨h0, List.forall_mem_singleton.mpr h1⟩

/-- Settles O14: an address whose page has WRITE brings no cause, and the words wait to be written there. -/
theorem storeResults : Obligations.StoreResults := by
  unfold Obligations.StoreResults
  intro c u f ag mode r k q s x unit a hag hq dest put
  have hdest (i : Nat) : dest i = storeDest u (q + i) (a + i) := by simp only [dest, storeDest, Fin.val_eq_zero_iff]
  have hone {i : Instr} {g : Bool} {v : W16} {fl : FlagUpd} (ht : s.Takes c unit 2 g)
      (hi : exec i s = .next (s.issue c (fun x => storeOp x u ag mode [] v g fl))) :
      exec i s = put g v [] (withF g fl) := by
    rw [hi, State.issue_lsOp ht hag rfl rfl (by simp) (storeOp_eq hq)]
    simp only [put, hdest]
    rfl
  have htwo {i : Instr} {g : Bool} {traps : List (Bool × Nat)} {lo hi : W16} {fl : FlagUpd} (ht : s.Takes c unit 2 g)
      (ha : a % 2 = 0) (htraps : causesOf traps = [])
      (hi' : exec i s = .next (s.issue c (fun x => storePair x u ag mode traps lo hi g fl))) :
      exec i s = put g lo [hi] (withF g fl) := by
    rw [hi', State.issue_lsOp ht hag htraps rfl (by simp) (storePair_eq hq ha)]
    simp only [put, hdest]
    rfl
  refine ⟨fun ht => hone ht rfl, fun ht ha hr => htwo ht ha (causesOf_odd hr _) rfl, fun ht => ⟨hone ht rfl, fun ha =>
    ⟨htwo ht ha rfl rfl, fun hk => htwo ht ha (causesOf_odd hk _) rfl⟩⟩⟩

/-! ### Transfers -/

theorem State.issue_ctlOp {s : State} {c len : Nat} {g : Cluster → Op} {traps : List (Bool × Nat)} {transfer : Bool} {ctl : Ctl}
    (ht : s.Takes c 7 len false) (htraps : causesOf traps = []) (hle : transfer = true → (s.cluster c).atLe = false)
    (hg : g (s.cluster c) = ctlOp len traps transfer none ctl) :
    s.issue c g = s.joined c 7 len false none ctl [] :=
  (State.issue_joins hg ht ⟨htraps, fun _ h => absurd h (Option.some_ne_none _).symm, hle, rfl,
    fun _ h => absurd h List.not_mem_nil⟩)

theorem causesOf_loop {x : Cluster} {le : Nat} (hend : x.badEnd le = false) (hnest : x.loops < 4) :
    causesOf [(x.badEnd le, tLoopEnd), (decide (4 ≤ x.loops), tNest)] = [] :=
  causesOf_eq_nil (by simp [hend]; omega)

/-- Settles O15: outside the end bundle of an active loop, each form joins its bundle with its transfer. -/
theorem controlResults : Obligations.ControlResults := by
  unfold Obligations.ControlResults
  intro c cc target last ds n off s x go loop
  have hgo {i : Instr} {len : Nat} {ctl : Ctl} {f : Cluster → Op} (hi : exec i s = .next (s.issue c f))
      (h : s.issue c f = s.joined c 7 len false none ctl []) : exec i s = go len ctl := by rw [hi, h]
  refine ⟨fun ht => ⟨hgo rfl (State.issue_ctlOp ht rfl (by simp) rfl), hgo rfl (State.issue_ctlOp ht rfl (by simp) rfl), fun hle =>
    ⟨hgo rfl (State.issue_ctlOp ht rfl (fun _ => hle) rfl), fun hd => hgo rfl (State.issue_ctlOp (traps := []) (transfer := true) ht rfl
      (fun _ => hle) ?_)⟩⟩,
    fun ht hle => ⟨hgo rfl (State.issue_ctlOp ht rfl (fun _ => hle) rfl),
      fun hd => hgo rfl (State.issue_ctlOp (traps := []) (transfer := true) ht rfl (fun _ => hle) ?_), fun hnest =>
      ⟨fun hend => hgo rfl (State.issue_ctlOp ht (causesOf_loop hend hnest) (fun _ => hle) rfl),
       fun hend => hgo rfl (State.issue_ctlOp ht (causesOf_loop hend hnest) (fun _ => hle) rfl)⟩⟩⟩
  · rw [if_neg (Nat.pos_iff_ne_zero.mp hd)]
  · rw [if_neg (Nat.not_le.mpr hd)]

end Sys2Proof.Machine
end

section
/-!
PROOF. Proofs/ShingleAlu.lean: the arithmetic, logic, shift and pointer instructions of a Shingle (R228 to R230, R234).
-/
namespace Sys2Proof.Machine

/-! ### The core in which the body of an instruction acts -/

section
variable {s : State} {k w cyc : Nat}

/-- The core that the body of an instruction finds: PC stands after the instruction, its cycles have been spent. -/
def State.begun (s : State) (k w cyc : Nat) : Core := { s.core k with
  pc := (s.core k).pc + BitVec.ofNat 16 w, cycles := (s.core k).cycles + cyc,
  wdog := if s.wdogCounts k then (s.core k).wdog - cyc else (s.core k).wdog }

theorem State.core_entered : (s.entered k w cyc).core k = s.begun k w cyc := by simp [State.entered, State.begun]

theorem State.vr_begun (n : Nat) : (s.begun k w cyc).vr n = (s.core k).vr n := rfl
theorem State.st_begun : (s.begun k w cyc).st = (s.core k).st := rfl
theorem State.ptr_begun (p : Nat) : (s.begun k w cyc).ptr p = (s.core k).ptr p := rfl

/-- What an instruction leaves depends on its effect on the core that its body finds, and on nothing else. -/
theorem State.ran_congr {g g' : Core → Core} (h : g (s.begun k w cyc) = g' (s.begun k w cyc)) :
    s.ran k w cyc g = s.ran k w cyc g' := by
  unfold State.begun at h
  unfold State.ran
  dsimp only
  rw [h]

theorem State.shgPlain_ran {g g' : Core → Core} (hr : s.Runs k w) (hw : w = 1 ∨ w = 2)
    (h : g (s.begun k w cyc) = g' (s.begun k w cyc)) :
    Host.Outcome.next (s.shgPlain k w cyc false g) = (.next (s.ran k w cyc g') : Answer) := by
  rw [State.shgPlain_runs hr hw, State.ran_congr h]

end

/-! ### Results and flags of a byte -/

/-- The result of the model as a result of R60. -/
def ByteRes.res (r : ByteRes) : Res 8 := ⟨r.val, ⟨r.z, r.n, r.c, r.v, false⟩⟩

theorem lt_eight_cases {i : Nat} (h : i < 8) : i = 0 ∨ i = 1 ∨ i = 2 ∨ i = 3 ∨ i = 4 ∨ i = 5 ∨ i = 6 ∨ i = 7 := by omega

theorem flagBits_eq (st : Byte) (z n c v : Bool) :
    (st &&& 0xF0) ||| BitVec.ofNat 8 (b2n z + 2 * b2n n + 4 * b2n c + 8 * b2n v) =
      st.extractLsb' 4 4 ++ BitVec.ofBool v ++ BitVec.ofBool c ++ BitVec.ofBool n ++ BitVec.ofBool z := by
  have hlow : BitVec.ofNat 8 (b2n z + 2 * b2n n + 4 * b2n c + 8 * b2n v) =
      0#4 ++ (BitVec.ofBool v ++ BitVec.ofBool c ++ BitVec.ofBool n ++ BitVec.ofBool z) := by
    revert z n c v; decide
  rw [hlow]
  apply BitVec.eq_of_getLsbD_eq
  intro i hi
  simp only [BitVec.getLsbD_or, BitVec.getLsbD_and, BitVec.getLsbD_append, BitVec.getLsbD_extractLsb', BitVec.getLsbD_ofBool]
  (obtain rfl | rfl | rfl | rfl | rfl | rfl | rfl | rfl := lt_eight_cases hi) <;> simp

theorem Core.setFlags_eq (c : Core) (z n cf v sat : Bool) : c.setFlags z n cf v = c.withFlags ⟨z, n, cf, v, sat⟩ := by
  unfold Core.setFlags Core.withFlags
  rw [flagBits_eq]

theorem Core.flagsOf_eq (c : Core) (r : ByteRes) : c.flagsOf r = c.withFlags r.res.f := Core.setFlags_eq ..

theorem Core.putRes_eq (c : Core) (d : Nat) (r : ByteRes) : c.putRes d r = (c.setV d r.res.v).withFlags r.res.f :=
  Core.setFlags_eq ..

theorem toInt_ofInt_ne_iff {w : Nat} (hw : 0 < w) (x : Int) :
    decide ((BitVec.ofInt w x).toInt ≠ x) = (decide (x < sMin w) || decide (sMax w < x)) := by
  have hlo := (BitVec.ofInt w x).le_toInt
  have hhi := (BitVec.ofInt w x).toInt_lt
  have hmin : sMin w = -2 ^ (w - 1) := rfl
  have hmax : sMax w = 2 ^ (w - 1) - 1 := rfl
  rw [← Bool.decide_or, decide_eq_decide]
  constructor
  · intro hne
    refine Classical.byContradiction fun hcon => ?_
    exact hne (toInt_ofInt_of_range hw (by omega) (by omega))
  · omega

/-- A byte result whose V says that the exact value does not fit. -/
theorem byteRes_res_eq_signedRes (x : Int) (c : Bool) {r : Byte} (hr : r = BitVec.ofInt 8 x) :
    (byteRes r c (decide (r.toInt ≠ x))).res = signedRes 8 x c false := by
  subst hr
  rw [toInt_ofInt_ne_iff (by decide)]
  simp only [byteRes, ByteRes.res, signedRes, mkRes, Bool.and_false]
  rfl

theorem byteAdd_res (a b : Byte) (ci : Bool) : (byteAdd a b ci).res = sumRule a b ci false := by
  rw [← signedRes_eq_sumRule (x := a.toInt + b.toInt + b2n ci) (by decide) false (by cases ci <;> rfl) rfl]
  refine (byteRes_res_eq_signedRes (a.toInt + b.toInt + b2n ci) _ ?_).trans (by cases ci <;> rfl)
  rw [BitVec.ofInt_add, BitVec.ofInt_add, BitVec.ofInt_toInt, BitVec.ofInt_toInt, BitVec.ofInt_natCast, BitVec.ofNat_add,
    BitVec.ofNat_add, BitVec.ofNat_toNat, BitVec.ofNat_toNat, BitVec.setWidth_eq, BitVec.setWidth_eq]

theorem byteSub_res (a b : Byte) (ci : Bool) : (byteSub a b ci).res = sumRule a (~~~b) ci false := by
  have hnot := toNat_add_toNat_not b
  rw [← subRes_eq_sumRule (by decide)]
  refine (byteRes_res_eq_signedRes (a.toInt - b.toInt - (1 - b2n ci : Nat)) _ ?_).trans ?_
  · rw [Int.sub_eq_add_neg, Int.sub_eq_add_neg, BitVec.ofInt_add, BitVec.ofInt_add, BitVec.ofInt_neg, BitVec.ofInt_neg,
      BitVec.ofInt_toInt, BitVec.ofInt_toInt, ← BitVec.sub_eq_add_neg, ← BitVec.sub_eq_add_neg]
    cases ci <;> rfl
  · cases ci <;> rfl

theorem byteLogic_res (x : Byte) : (byteLogic x).res = plainRule x := rfl

theorem byteShift_res (x : Byte) (out : Bool) : (byteShift x out).res = shiftRule x out := rfl

/-! ### Pairs -/

theorem Core.setPair_even (c : Core) {d : Nat} (hd : d % 2 = 0) (v : W16) :
    c.setPair (d / 2) v = (c.setV d (v.extractLsb' 0 8)).setV (d + 1) (v.extractLsb' 8 8) := by
  unfold Core.setPair
  rw [show 2 * (d / 2) = d by omega]
  rfl

theorem bit_seven_eq_msb (a : Byte) : bit a 7 = a.msb := rfl

theorem bit_top_eq_msb (p : W16) : bit p 15 = p.msb := rfl

/-- A product of two bytes fits 16 bits. -/
theorem mul_setWidth_eq (a b : Byte) : a.setWidth 16 * b.setWidth 16 = (BitVec.ofNat 16 (a.toNat * b.toNat) : W16) :=
  BitVec.eq_of_toNat_eq (by simp [BitVec.toNat_mul])

theorem highByte_ne_zero_iff (p : W16) : decide (256 ≤ p.toNat) = decide (p.extractLsb' 8 8 ≠ 0) := by
  rw [decide_eq_decide, ne_eq, ← BitVec.toNat_inj]
  have := p.isLt
  simp [BitVec.extractLsb'_toNat, Nat.shiftRight_eq_div_pow]
  omega

/-! ### Instructions of two operands -/

section
variable {s : State} {k w cyc d : Nat}

/-- An instruction that writes a result with its flags. -/
theorem State.shgPlain_putRes {r : Core → ByteRes} {x : Res 8} (hr : s.Runs k w) (hw : w = 1 ∨ w = 2)
    (hx : (r (s.begun k w cyc)).res = x) :
    Host.Outcome.next (s.shgPlain k w cyc false (fun c => c.putRes d (r c))) =
      (.next (s.ran k w cyc (fun c => (c.setV d x.v).withFlags x.f)) : Answer) :=
  State.shgPlain_ran hr hw (by rw [Core.putRes_eq, hx])

/-- An instruction that writes flags only. -/
theorem State.shgPlain_flagsOf {r : Core → ByteRes} {x : Res 8} (hr : s.Runs k w) (hw : w = 1 ∨ w = 2)
    (hx : (r (s.begun k w cyc)).res = x) :
    Host.Outcome.next (s.shgPlain k w cyc false (fun c => c.flagsOf (r c))) =
      (.next (s.ran k w cyc (fun c => c.withFlags x.f)) : Answer) :=
  State.shgPlain_ran hr hw (by rw [Core.flagsOf_eq, hx])

end

/-- Settles O24: the model's byte sums are the sums of R60 with Z, N, C and V. -/
theorem shingleTwoOperand : Obligations.ShingleTwoOperand := by
  unfold Obligations.ShingleTwoOperand
  intro k d r imm s a b ci put set flags
  have one {n : Nat} {g : Core → ByteRes} {x : Res 8} (h : s.Runs k n) (hn : n = 1 ∨ n = 2)
      (hx : (g (s.begun k n n)).res = x) :
      Host.Outcome.next (s.shgPlain k n n false (fun c => c.putRes d (g c))) = put n x := State.shgPlain_putRes h hn hx
  have two {n : Nat} {g : Core → ByteRes} {x : Res 8} (h : s.Runs k n) (hn : n = 1 ∨ n = 2)
      (hx : (g (s.begun k n n)).res = x) :
      Host.Outcome.next (s.shgPlain k n n false (fun c => c.flagsOf (g c))) = flags n x := State.shgPlain_flagsOf h hn hx
  refine ⟨fun h => ?_, fun h => ?_⟩
  · have h1 : 1 = 1 ∨ 1 = 2 := .inl rfl
    refine ⟨one h h1 ?_, one h h1 ?_, one h h1 ?_, one h h1 ?_, one h h1 ?_, one h h1 ?_, one h h1 ?_, two h h1 ?_,
      State.shgPlain_ran h h1 ?_, fun hd => ?_⟩
    case refine_9 => rw [State.vr_begun]
    case refine_10 =>
      change Host.Outcome.next (s.shgPlain k 1 6 (decide (d.val % 2 = 1)) _) = _
      rw [decide_eq_false (by omega : ¬ d.val % 2 = 1)]
      refine State.shgPlain_ran h h1 ?_
      dsimp only
      rw [Core.setFlags_eq (sat := false), Core.setPair_even _ hd]
      simp only [State.vr_begun, mul_setWidth_eq, bit_top_eq_msb, highByte_ne_zero_iff]
      rfl
    all_goals simp only [byteAdd_res, byteSub_res, byteLogic_res, State.vr_begun, Core.carry, State.st_begun, a, b, ci]
  · have h2 : 2 = 1 ∨ 2 = 2 := .inr rfl
    refine ⟨one h h2 ?_, one h h2 ?_, one h h2 ?_, State.shgPlain_ran h h2 rfl, one h h2 ?_, one h h2 ?_, one h h2 ?_,
      two h h2 ?_⟩
    all_goals simp only [byteAdd_res, byteSub_res, byteLogic_res, State.vr_begun, Core.carry, State.st_begun, a, ci]

/-! ### Instructions of one operand -/

theorem shl_eq_append (a : Byte) : a <<< 1 = (a.extractLsb' 0 7 ++ BitVec.ofBool false : BitVec 8) := by
  apply BitVec.eq_of_getLsbD_eq
  intro i hi
  simp only [BitVec.getLsbD_shiftLeft, BitVec.getLsbD_append, BitVec.getLsbD_extractLsb', BitVec.getLsbD_ofBool]
  (obtain rfl | rfl | rfl | rfl | rfl | rfl | rfl | rfl := lt_eight_cases hi) <;> simp

theorem shr_eq_append (a : Byte) : a >>> 1 = (BitVec.ofBool false ++ a.extractLsb' 1 7 : BitVec 8) := by
  apply BitVec.eq_of_getLsbD_eq
  intro i hi
  simp only [BitVec.getLsbD_ushiftRight, BitVec.getLsbD_append, BitVec.getLsbD_extractLsb', BitVec.getLsbD_ofBool]
  (obtain rfl | rfl | rfl | rfl | rfl | rfl | rfl | rfl := lt_eight_cases hi) <;> simp

theorem asr_eq_append (a : Byte) : a.sshiftRight 1 = (BitVec.ofBool a.msb ++ a.extractLsb' 1 7 : BitVec 8) := by
  apply BitVec.eq_of_getLsbD_eq
  intro i hi
  simp only [BitVec.getLsbD_sshiftRight, BitVec.getLsbD_append, BitVec.getLsbD_extractLsb', BitVec.getLsbD_ofBool]
  (obtain rfl | rfl | rfl | rfl | rfl | rfl | rfl | rfl := lt_eight_cases hi) <;> simp

theorem rol_eq_append (a : Byte) : a.rotateLeft 1 = (a.extractLsb' 0 7 ++ BitVec.ofBool a.msb : BitVec 8) := by
  apply BitVec.eq_of_getLsbD_eq
  intro i hi
  simp only [BitVec.getLsbD_rotateLeft, BitVec.getLsbD_append, BitVec.getLsbD_extractLsb', BitVec.getLsbD_ofBool,
    BitVec.msb_eq_getLsbD_last]
  (obtain rfl | rfl | rfl | rfl | rfl | rfl | rfl | rfl := lt_eight_cases hi) <;> simp

theorem ror_eq_append (a : Byte) : a.rotateRight 1 = (BitVec.ofBool (bit a 0) ++ a.extractLsb' 1 7 : BitVec 8) := by
  apply BitVec.eq_of_getLsbD_eq
  intro i hi
  simp only [BitVec.getLsbD_rotateRight, BitVec.getLsbD_append, BitVec.getLsbD_extractLsb', BitVec.getLsbD_ofBool, bit]
  (obtain rfl | rfl | rfl | rfl | rfl | rfl | rfl | rfl := lt_eight_cases hi) <;> simp

theorem swap_eq_append (a : Byte) : a.rotateLeft 4 = (a.extractLsb' 0 4 ++ a.extractLsb' 4 4 : BitVec 8) := by
  apply BitVec.eq_of_getLsbD_eq
  intro i hi
  simp only [BitVec.getLsbD_rotateLeft, BitVec.getLsbD_append, BitVec.getLsbD_extractLsb']
  (obtain rfl | rfl | rfl | rfl | rfl | rfl | rfl | rfl := lt_eight_cases hi) <;> simp

theorem rcl_eq_append (a : Byte) (c : Bool) : setBit (a <<< 1) 0 c = (a.extractLsb' 0 7 ++ BitVec.ofBool c : BitVec 8) := by
  apply BitVec.eq_of_getLsbD_eq
  intro i hi
  simp only [setBit, setFld, BitVec.getLsbD_or, BitVec.getLsbD_and, BitVec.getLsbD_shiftLeft, BitVec.getLsbD_append,
    BitVec.getLsbD_extractLsb', BitVec.getLsbD_ofBool]
  cases c <;> (obtain rfl | rfl | rfl | rfl | rfl | rfl | rfl | rfl := lt_eight_cases hi) <;> simp

theorem rcr_eq_append (a : Byte) (c : Bool) : setBit (a >>> 1) 7 c = (BitVec.ofBool c ++ a.extractLsb' 1 7 : BitVec 8) := by
  apply BitVec.eq_of_getLsbD_eq
  intro i hi
  simp only [setBit, setFld, BitVec.getLsbD_or, BitVec.getLsbD_and, BitVec.getLsbD_ushiftRight, BitVec.getLsbD_append,
    BitVec.getLsbD_extractLsb', BitVec.getLsbD_ofBool]
  cases c <;> (obtain rfl | rfl | rfl | rfl | rfl | rfl | rfl | rfl := lt_eight_cases hi) <;> simp

/-- Settles O25: INC and DEC are sums with 1 that put the former C back; a shift by one moves seven bits and takes in one. -/
theorem shingleOneOperand : Obligations.ShingleOneOperand := by
  unfold Obligations.ShingleOneOperand
  intro k r s h a c0 put keepC
  have one {g : Core → ByteRes} {x : Res 8} (hx : (g (s.begun k 1 1)).res = x) :
      Host.Outcome.next (s.shgPlain k 1 1 false (fun c => c.putRes r (g c))) = put x := State.shgPlain_putRes h (.inl rfl) hx
  have hkeep (x : ByteRes) (c : Bool) : ByteRes.res { x with c := c } = ⟨x.res.v, { x.res.f with c := c }⟩ := rfl
  refine ⟨one ((hkeep _ _).trans ?_), one ((hkeep _ _).trans ?_), one ?_, one ?_, State.shgPlain_flagsOf h (.inl rfl) ?_, one ?_, one ?_, one ?_, one ?_, one ?_, one ?_,
    one ?_, one ?_, one ?_⟩
  case refine_7 => rfl
  case refine_13 => rw [rcl_eq_append, byteShift_res, State.vr_begun, Core.carry, State.st_begun, bit_seven_eq_msb]
  case refine_14 => rw [rcr_eq_append, byteShift_res, State.vr_begun, Core.carry, State.st_begun]
  all_goals simp only [byteAdd_res, byteSub_res, byteLogic_res, byteShift_res, State.vr_begun, Core.carry,
    State.st_begun, bit_seven_eq_msb, shl_eq_append, shr_eq_append, asr_eq_append, rol_eq_append, ror_eq_append, swap_eq_append,
    keepC, c0, a]

/-! ### Pointers and ST -/

theorem Core.setPair_eq (c : Core) (n : Nat) (v : W16) :
    c.setPair n v = (c.setV (2 * n) (v.extractLsb' 0 8)).setV (2 * n + 1) (v.extractLsb' 8 8) := rfl

/-- ST as it is written: GM stays 1 in the shadow bank, K is only cleared, bits 5 and 4 read 0 (R243, R248). -/
theorem writeSt_bits (st v : Byte) (shadow : Bool) :
    (v &&& 0x0F) ||| (if bit v 7 || shadow then 0x80 else 0) ||| (v &&& st &&& 0x40) =
      (BitVec.ofBool (v.msb || shadow) ++ BitVec.ofBool (bit v 6 && bit st 6) ++ (0 : BitVec 2) ++ v.extractLsb' 0 4 : BitVec 8) := by
  have hgm : (if bit v 7 || shadow then 0x80 else 0 : Byte) = BitVec.ofBool (v.msb || shadow) ++ (0 : BitVec 7) := by
    rw [show bit v 7 = v.msb from rfl]
    cases v.msb <;> cases shadow <;> rfl
  rw [hgm]
  apply BitVec.eq_of_getLsbD_eq
  intro i hi
  simp only [bit, BitVec.getLsbD_or, BitVec.getLsbD_and, BitVec.getLsbD_append, BitVec.getLsbD_extractLsb', BitVec.getLsbD_ofBool]
  (obtain rfl | rfl | rfl | rfl | rfl | rfl | rfl | rfl := lt_eight_cases hi) <;> simp

theorem setZ_bits (st : Byte) (z : Bool) : setBit st 0 z = (st.extractLsb' 1 7 ++ BitVec.ofBool z : BitVec 8) := by
  apply BitVec.eq_of_getLsbD_eq
  intro i hi
  simp only [setBit, setFld, BitVec.getLsbD_or, BitVec.getLsbD_and, BitVec.getLsbD_append, BitVec.getLsbD_extractLsb',
    BitVec.getLsbD_ofBool]
  cases z <;> (obtain rfl | rfl | rfl | rfl | rfl | rfl | rfl | rfl := lt_eight_cases hi) <;> simp

theorem Core.stepPtr_eq (c : Core) (p : Nat) (v : W16) : c.stepPtr p v =
    { c.setPtr p v with st := ((c.setPtr p v).st.extractLsb' 1 7 ++ BitVec.ofBool (decide (v = 0)) : BitVec 8) } := by
  unfold Core.stepPtr Core.setZ
  rw [setZ_bits]

/-- Settles O26. -/
theorem shinglePointers : Obligations.ShinglePointers := by
  unfold Obligations.ShinglePointers
  intro k p n q a s c lo hi pair step
  have one {g g' : Core → Core} {cond : Prop} [Decidable cond] (hr : s.Runs k 1) (hres : ¬ cond)
      (h : g (s.begun k 1 1) = g' (s.begun k 1 1)) :
      Host.Outcome.next (s.shgPlain k 1 1 (decide cond) g) = (.next (s.ran k 1 1 g') : Answer) := by
    rw [decide_eq_false hres, State.shgPlain_ran hr (.inl rfl) h]
  refine ⟨fun h => ⟨fun hp => ?_, one h (by decide) ?_, one h (by decide) ?_⟩, fun h => State.shgPlain_ran h (.inr rfl) ?_⟩
  · have hp5 : p ≠ 5 := by omega
    refine ⟨one h (by omega) ?_, one h (by omega) ?_, one h (by omega) ?_, one h (by omega) ?_⟩
    · rw [if_neg hp5, Core.pair, State.vr_begun, State.vr_begun]
    · rw [if_neg hp5, State.ptr_begun, Core.setPair_eq]
    · rw [State.ptr_begun, Core.stepPtr_eq]
    · rw [State.ptr_begun, Core.stepPtr_eq]
  · rw [if_pos rfl, State.vr_begun]
    unfold Core.writeSt
    rw [writeSt_bits]
  · rw [if_pos rfl, State.st_begun, Core.setPair_eq]
  · match q with
    | 0 | 1 | 2 | 3 => rfl

end Sys2Proof.Machine
end

section
/-!
PROOF. Proofs/ShingleFlow.lean: the jumps, the stack and the direct loads and stores of a Shingle (R229, R231).
-/
namespace Sys2Proof.Machine

/-! ### Jumps -/

theorem Core.cond_eq (c : Core) (cc : Fin 15) :
    c.cond cc = condition cc (bit c.st 0) (bit c.st 1) (bit c.st 2) (bit c.st 3) := by
  unfold Core.cond
  generalize bit c.st 0 = z
  generalize bit c.st 1 = n
  generalize bit c.st 2 = cf
  generalize bit c.st 3 = v
  revert cc z n cf v
  decide

theorem setGm_true (st : Byte) : setBit st 7 true = st ||| 0x80 := by
  apply BitVec.eq_of_getLsbD_eq
  intro i hi
  simp only [setBit, setFld, BitVec.getLsbD_or, BitVec.getLsbD_and]
  (obtain rfl | rfl | rfl | rfl | rfl | rfl | rfl | rfl := lt_eight_cases hi) <;> simp

theorem setGm_false (st : Byte) : setBit st 7 false = st &&& 0x7F := by
  apply BitVec.eq_of_getLsbD_eq
  intro i hi
  simp only [setBit, setFld, BitVec.getLsbD_or, BitVec.getLsbD_and]
  (obtain rfl | rfl | rfl | rfl | rfl | rfl | rfl | rfl := lt_eight_cases hi) <;> simp

theorem State.pc_begun_pred {s : State} {k cyc : Nat} : (s.begun k 1 cyc).pc - 1 = (s.core k).pc :=
  BitVec.add_sub_cancel _ _

/-- Settles O27. -/
theorem shingleJumps : Obligations.ShingleJumps := by
  unfold Obligations.ShingleJumps
  intro k cc a off s st holds
  have hcond : (s.core k).cond cc = holds := Core.cond_eq ..
  refine ⟨fun h => ?_, fun h => ?_⟩
  · have h1 : 1 = 1 ∨ 1 = 2 := .inl rfl
    refine ⟨State.shgPlain_ran h h1 rfl, State.shgPlain_ran h h1 ?_, State.shgPlain_ran h h1 ?_, State.shgPlain_ran h h1 ?_,
      State.shgPlain_ran h h1 rfl, ?_⟩
    · rw [setGm_true]
    · cases (s.begun k 1 1).shadow
      · rw [setGm_false]; rfl
      · rw [setGm_true]; rfl
    · rw [State.pc_begun_pred]
    · change Host.Outcome.next (s.shgPlain k 1 (if (s.core k).cond cc then 3 else 1) false _) = _
      rw [hcond]
      exact State.shgPlain_ran h h1 rfl
  · change Host.Outcome.next (s.shgPlain k 2 (if (s.core k).cond cc then 3 else 2) false _) = _
    rw [hcond]
    exact State.shgPlain_ran h (.inr rfl) rfl

/-! ### Instructions that touch data -/

section
variable {s : State} {k w cyc : Nat}

/-- An instruction whose body leaves nothing but its core changed. -/
theorem State.shg_ran {body : State → State × Option Exc} {res : Bool} {f g : Core → Core} (h : s.Runs k w) (hw : w = 1 ∨ w = 2)
    (hres : res = false)
    (hb : body (s.entered k w cyc) = ((s.entered k w cyc).setCore k (f ((s.entered k w cyc).core k)), none))
    (hg : f (s.begun k w cyc) = g (s.begun k w cyc)) :
    Host.Outcome.next (s.shg k w cyc res body) = (.next (s.ran k w cyc g) : Answer) := by
  rw [hres, State.shg_runs h hw, hb, ← State.ran_congr hg]
  dsimp only
  rw [← State.updCore_eq, State.entered_ran, State.afterStop_same (by simp [State.ran])]

end

section
variable {s : State} {k a : Nat}

theorem State.storeV_local {b : Byte} (h : localData k a = true) :
    s.storeV k a b = (s.setCore k ((s.core k).stored a b), none) := by
  rw [State.storeV, State.writeData_local h, State.updCore_eq]

theorem State.loadV_readable {r : Nat} (h : s.readable k a) :
    s.loadV k r a = (s.setCore k ((s.core k).setV r (Memory.read (s.core k).data a)), none) := by
  rw [State.loadV, State.readData_readable h]
  rfl

theorem andCore_next {t : State} {g : Core → Core} : andCore k (t, none) g = (t.setCore k (g (t.core k)), none) := rfl

theorem State.readable_entered {w cyc j : Nat} : (s.entered k w cyc).readable k j ↔ s.readable k j := by
  simp [State.readable, State.core_entered, State.begun]

end

theorem toNat_pred_pred_succ (p : W16) : ((p - 2).toNat + 1) % 65536 = (p - 1).toNat := by bv_omega

theorem toNat_succ (p : W16) : (p.toNat + 1) % 65536 = (p + 1).toNat := by bv_omega

section
variable {s : State} {k : Nat}

/-- SP falls by 2, and the word stands there. -/
def Core.pushedWord (c : Core) (v : W16) : Core :=
  { (c.stored (c.sp - 2).toNat (v.extractLsb' 0 8)).stored (c.sp - 1).toNat (v.extractLsb' 8 8) with sp := c.sp - 2 }

/-- The word at SP. -/
def Core.top (c : Core) : W16 := Memory.read c.data (c.sp + 1).toNat ++ Memory.read c.data c.sp.toNat

theorem State.pushWord_local {v : W16} (h : localData k ((s.core k).sp - 2).toNat = true)
    (h1 : localData k ((s.core k).sp - 1).toNat = true) :
    s.pushWord k v = (s.setCore k ((s.core k).pushedWord v), none) := by
  unfold State.pushWord
  dsimp only
  rw [State.writeData2_local h (by rw [toNat_pred_pred_succ]; exact h1), toNat_pred_pred_succ]
  simp [Core.pushedWord]
  rfl

theorem State.popWord_readable (h : s.readable k (s.core k).sp.toNat) (h1 : s.readable k ((s.core k).sp + 1).toNat) :
    s.popWord k = (s.setCore k { s.core k with sp := (s.core k).sp + 2 }, .inr (s.core k).top) := by
  unfold State.popWord
  rw [State.readData2_readable h (by rw [toNat_succ]; exact h1), toNat_succ]
  rfl

theorem State.callTo_local {a : W16} (h : localData k ((s.core k).sp - 2).toNat = true)
    (h1 : localData k ((s.core k).sp - 1).toNat = true) :
    s.callTo k a = (s.setCore k { (s.core k).pushedWord (s.core k).pc with pc := a }, none) := by
  rw [State.callTo, State.pushWord_local h h1]
  simp

end

theorem Core.sp_setV (c : Core) (n : Nat) (b : Byte) : (c.setV n b).sp = c.sp := by
  unfold Core.setV Core.setVAt
  split <;> rfl

/-- Settles O28. -/
theorem shingleStack : Obligations.ShingleStack := by
  unfold Obligations.ShingleStack
  intro k r p a off s c read word push pop
  have hsp {w cyc : Nat} : ((s.entered k w cyc).core k).sp = c.sp := by rw [State.core_entered]; rfl
  have hread {w cyc : Nat} {x : W16} (h : s.readable k x.toNat) : (s.entered k w cyc).readable k x.toNat := State.readable_entered.mpr h
  have hthree : p.val = 3 ↔ p = 3 := (Fin.ext_iff (a := p) (b := 3)).symm
  refine ⟨fun h hl => State.shg_ran (f := fun c => { c.stored (c.sp - 1).toNat (c.vr r) with sp := c.sp - 1 }) h (.inl rfl) rfl ?_ rfl,
    fun h hl => State.shg_ran (f := fun c => { c.setV r (Memory.read c.data c.sp.toNat) with sp := c.sp + 1 }) h (.inl rfl) rfl ?_ rfl,
    fun h h2 h1 => ⟨fun hp => ?_,
      State.shg_ran (f := fun c => { c.pushedWord c.pc with pc := relTarget c.pc off }) h (.inl rfl) rfl ?_ rfl,
      State.shg_ran (f := fun c => { c.pushedWord c.pc with pc := c.pzr }) h (.inl rfl) rfl ?_ rfl⟩,
    fun h h2 h1 => State.shg_ran (f := fun c => { c.pushedWord c.pc with pc := a }) h (.inr rfl) rfl ?_ rfl,
    fun h h0 h1 => ⟨fun hp => ?_,
      State.shg_ran (f := fun c => { c with sp := c.sp + 2, pc := c.top }) h (.inl rfl) rfl ?_ rfl⟩,
    fun h => ⟨fun hl => State.shg_ran (f := fun c => c.setV r (Memory.read c.data a.toNat)) h (.inr rfl) rfl
        (State.loadV_readable (hread hl)) rfl,
      fun hl => State.shg_ran (f := fun c => c.stored a.toNat (c.vr r)) h (.inr rfl) rfl (State.storeV_local hl) rfl⟩⟩
  · dsimp only
    rw [State.storeV_local (by rw [hsp]; exact hl), andCore_next]
    simp
    rfl
  · dsimp only
    rw [State.loadV_readable (by rw [hsp]; exact hread hl), andCore_next]
    simp [Core.sp_setV]
  · refine State.shg_ran (f := fun c => c.pushedWord (c.pushed p)) h (.inl rfl) (decide_eq_false (by omega))
      (State.pushWord_local (by rw [hsp]; exact h2) (by rw [hsp]; exact h1)) ?_
    simp only [Core.pushed, hthree]
    rfl
  · exact State.callTo_local (by rw [hsp]; exact h2) (by rw [hsp]; exact h1)
  · exact State.callTo_local (by rw [hsp]; exact h2) (by rw [hsp]; exact h1)
  · exact State.callTo_local (by rw [hsp]; exact h2) (by rw [hsp]; exact h1)
  · refine State.shg_ran (f := fun c => Core.setPtr { c with sp := c.sp + 2 } p (if p = 3 then c.top + 2 else c.top)) h (.inl rfl)
      (decide_eq_false (by omega)) ?_ rfl
    rw [State.popWord_readable (by rw [hsp]; exact hread h0) (by rw [hsp]; exact hread h1)]
    simp
  · rw [State.popWord_readable (by rw [hsp]; exact hread h0) (by rw [hsp]; exact hread h1)]
    simp

end Sys2Proof.Machine
end

section
/-!
PROOF. Proofs/ShingleBlock.lean: LD and ST in the four data modes (R229, R238) and the block instructions, alone and under RPT (R235).
-/
namespace Sys2Proof.Machine

/-! ### A block instruction without RPT

Its body acts before PC moves, so what it does to the core has to leave PC, the run prefix and the watchdog's vector alone. -/

/-- PC moves over a word. -/
def Core.next (c : Core) : Core := { c with pc := c.pc + 1 }

/-- The change commutes with the move of PC, and leaves the run prefix and a watchdog that is due alone. -/
structure Core.Apart (c d : Core) (d' : Core) : Prop where
  next : d.next = d'
  rpt : d.rpt = c.rpt
  wdPend : d.wdPend = c.wdPend

section
variable (c : Core)

@[simp] theorem Core.next_setV (n : Nat) (b : Byte) : (c.setV n b).next = c.next.setV n b := by
  unfold Core.setV Core.setVAt Core.next
  dsimp only
  split <;> rfl
@[simp] theorem Core.rpt_setV (n : Nat) (b : Byte) : (c.setV n b).rpt = c.rpt := by
  unfold Core.setV Core.setVAt
  split <;> rfl
@[simp] theorem Core.wdPend_setV (n : Nat) (b : Byte) : (c.setV n b).wdPend = c.wdPend := by
  unfold Core.setV Core.setVAt
  split <;> rfl
@[simp] theorem Core.ptr_setV (n p : Nat) (b : Byte) : (c.setV n b).ptr p = c.ptr p := by
  unfold Core.setV Core.setVAt
  split <;> rfl

@[simp] theorem Core.next_setPtr (p : Nat) (v : W16) : (c.setPtr p v).next = c.next.setPtr p v := by
  unfold Core.setPtr Core.setPz Core.next
  dsimp only
  (repeat' split) <;> rfl
@[simp] theorem Core.rpt_setPtr (p : Nat) (v : W16) : (c.setPtr p v).rpt = c.rpt := by
  unfold Core.setPtr Core.setPz
  (repeat' split) <;> rfl
@[simp] theorem Core.wdPend_setPtr (p : Nat) (v : W16) : (c.setPtr p v).wdPend = c.wdPend := by
  unfold Core.setPtr Core.setPz
  (repeat' split) <;> rfl
theorem Core.setPtr_ptr (p : Nat) : c.setPtr p (c.ptr p) = c := by
  unfold Core.setPtr Core.ptr Core.setPz Core.pzr
  (repeat' split) <;> rfl

@[simp] theorem Core.next_stored (a : Nat) (b : Byte) : (c.stored a b).next = c.next.stored a b := rfl
@[simp] theorem Core.rpt_stored (a : Nat) (b : Byte) : (c.stored a b).rpt = c.rpt := rfl
@[simp] theorem Core.wdPend_stored (a : Nat) (b : Byte) : (c.stored a b).wdPend = c.wdPend := rfl
@[simp] theorem Core.ptr_stored (a p : Nat) (b : Byte) : (c.stored a b).ptr p = c.ptr p := rfl

@[simp] theorem Core.next_portPoke (r : Bool) (p : Nat) (b : Byte) : (c.portPoke r p b).next = c.next.portPoke r p b := by
  simp only [Core.portPoke, apply_ite Core.next]
  rfl
@[simp] theorem Core.rpt_portPoke (r : Bool) (p : Nat) (b : Byte) : (c.portPoke r p b).rpt = c.rpt := by
  simp only [Core.portPoke, apply_ite Core.rpt, Core.commitWinb, ite_self]
@[simp] theorem Core.wdPend_portPoke (r : Bool) (p : Nat) (b : Byte) : (c.portPoke r p b).wdPend = c.wdPend := by
  simp only [Core.portPoke, apply_ite Core.wdPend, Core.commitWinb, ite_self]

end

section
variable {s : State} {k cyc : Nat}

/-- The core that the body of a block instruction finds. -/
def State.spent (s : State) (k cyc : Nat) : Core := { s.core k with
  cycles := (s.core k).cycles + cyc, wdog := if s.wdogCounts k then (s.core k).wdog - cyc else (s.core k).wdog }

theorem State.spend_eq : s.spend k cyc = s.setCore k (s.spent k cyc) := rfl

@[simp] theorem State.core_spend : (s.spend k cyc).core k = s.spent k cyc := by simp [State.spend_eq]

theorem State.next_spent : (s.spent k cyc).next = s.begun k 1 cyc := rfl

theorem State.readable_spend {j : Nat} : (s.spend k cyc).readable k j ↔ s.readable k j := by
  simp [State.readable, State.spent]

theorem State.wdBoundary_quiet (h : (s.core k).wdPend = false) : s.wdBoundary k = s := by simp [State.wdBoundary, h]

/-- A block instruction whose body leaves nothing but its core changed. -/
theorem State.shgBlock_ran {body : State → State × Option Exc} {stop : Core → Bool} {res : Bool} {d : Core} {g : Core → Core}
    (h : s.Runs k 1) (hwd : (s.core k).wdPend = false) (hres : res = false)
    (hb : body (s.spend k cyc) = ((s.spend k cyc).setCore k d, none))
    (hd : Core.Apart (s.core k) d (g (s.begun k 1 cyc))) :
    Host.Outcome.next (s.shgBlock k cyc res stop body) = (.next (s.ran k 1 cyc g) : Answer) := by
  obtain ⟨hnext, hrpt, hpend⟩ := hd
  have hrun : (s.ran k 1 cyc g) = s.setCore k (d.next.prefetch (s.snapshot k (((s.core k).pc.toNat + 1) % 65536))) := by
    rw [hnext]; rfl
  rw [hres, State.shgBlock_runs h, hb, hrun]
  dsimp only
  rw [State.updCore_eq, State.core_setCore, if_pos rfl, State.setCore_setCore, State.spend_eq, State.setCore_setCore,
    if_neg (by rw [hrpt, h.plain]; exact Bool.false_ne_true), State.wdBoundary_quiet, State.afterStop_same (by simp)]
  · rfl
  · rw [State.core_setCore, if_pos rfl]
    exact hpend.trans hwd

end

/-! ### LD and ST -/

theorem Core.modeStep_zero (c : Core) (p : Nat) : c.modeStep p 0 = c.setPtr p (c.ptr p) := (c.setPtr_ptr p).symm

theorem Core.apart_setPtr {c d d' : Core} (p : Nat) (v : W16) (h : Core.Apart c d d') :
    Core.Apart c (d.setPtr p v) (d'.setPtr p v) :=
  ⟨by rw [Core.next_setPtr, h.next], by rw [Core.rpt_setPtr, h.rpt], by rw [Core.wdPend_setPtr, h.wdPend]⟩

theorem Core.apart_setV {c d d' : Core} (n : Nat) (b : Byte) (h : Core.Apart c d d') : Core.Apart c (d.setV n b) (d'.setV n b) :=
  ⟨by rw [Core.next_setV, h.next], by rw [Core.rpt_setV, h.rpt], by rw [Core.wdPend_setV, h.wdPend]⟩

theorem Core.apart_stored {c d d' : Core} (a : Nat) (b : Byte) (h : Core.Apart c d d') :
    Core.Apart c (d.stored a b) (d'.stored a b) :=
  ⟨by rw [Core.next_stored, h.next], h.rpt, h.wdPend⟩

theorem State.apart_spent {s : State} {k cyc : Nat} : Core.Apart (s.core k) (s.spent k cyc) (s.begun k 1 cyc) := ⟨rfl, rfl, rfl⟩

theorem modeStep_three (c : Core) (p : Nat) : c.modeStep p (3 : Fin 4).val = c.setPtr p (c.ptr p + 2) := rfl

theorem modeAddr_three (c : Core) (p : Nat) : c.modeAddr p (3 : Fin 4).val = c.ptr p := rfl

theorem toNat_append_byte (hi lo : Byte) : (hi ++ lo : W16).toNat = 256 * hi.toNat + lo.toNat :=
  (BitVec.toNat_append hi lo).trans (by rw [← Nat.shiftLeft_add_eq_or_of_lt lo.isLt, Nat.shiftLeft_eq, Nat.mul_comm])

theorem extractLsb'_append_low (hi lo : Byte) : (hi ++ lo : W16).extractLsb' 0 8 = lo := by
  apply BitVec.eq_of_toNat_eq
  have := lo.isLt
  rw [BitVec.extractLsb'_toNat, toNat_append_byte, Nat.shiftRight_zero]
  omega

theorem extractLsb'_append_high (hi lo : Byte) : (hi ++ lo : W16).extractLsb' 8 8 = hi := by
  apply BitVec.eq_of_toNat_eq
  have := lo.isLt
  have := hi.isLt
  rw [BitVec.extractLsb'_toNat, toNat_append_byte, Nat.shiftRight_eq_div_pow]
  omega

theorem State.modeAddr_spent {s : State} {k cyc p m : Nat} : (s.spent k cyc).modeAddr p m = (s.core k).modeAddr p m := rfl

section
variable {s : State} {k : Fin 65} {p m : Fin 4} {r : Fin 8} (h : s.Runs k 1) (hwd : (s.core k).wdPend = false)
include h hwd

section
variable {v : W16} (hm : m ≠ 3) (hv : ∀ d : Core, d.ptr p = (s.core k).ptr p → d.modeStep p m = d.setPtr p v)
include hm hv

/-- LD of one byte. -/
theorem exec_ld_byte (hread : s.readable k ((s.core k).modeAddr p m).toNat) :
    exec (.shgLd k p m r) s = .next (s.ran k 1 2 (fun d =>
      (d.setV r (Memory.read (s.core k).data ((s.core k).modeAddr p m).toNat)).setPtr p v)) := by
  change Host.Outcome.next (s.shgBlock k ((s.core k).modeCycles p m) _ _ _) = _
  rw [show (s.core k).modeCycles p m = 2 from if_neg fun hc => hm (Fin.ext hc.1)]
  refine State.shgBlock_ran (d := ((s.spent k 2).setV r (Memory.read (s.core k).data ((s.core k).modeAddr p m).toNat)).setPtr p v)
    h hwd (by simp [hm]) ?_ (Core.apart_setPtr _ _ (Core.apart_setV _ _ State.apart_spent))
  dsimp only
  rw [if_neg hm, State.core_spend, State.modeAddr_spent, State.loadV_readable (State.readable_spend.mpr hread), andCore_next,
    State.core_setCore, if_pos rfl, State.setCore_setCore, State.core_spend, hv _ (Core.ptr_setV (s.spent k 2) _ _ _)]
  rfl

/-- ST of one byte. -/
theorem exec_st_byte (hloc : localData k ((s.core k).modeAddr p m).toNat = true) :
    exec (.shgSt k p m r) s = .next (s.ran k 1 2 (fun d =>
      (d.stored ((s.core k).modeAddr p m).toNat ((s.core k).vr r)).setPtr p v)) := by
  change Host.Outcome.next (s.shgBlock k ((s.core k).modeCycles p m) _ _ _) = _
  rw [show (s.core k).modeCycles p m = 2 from if_neg fun hc => hm (Fin.ext hc.1)]
  refine State.shgBlock_ran (d := ((s.spent k 2).stored ((s.core k).modeAddr p m).toNat ((s.core k).vr r)).setPtr p v)
    h hwd (by simp [hm]) ?_ (Core.apart_setPtr _ _ (Core.apart_stored _ _ State.apart_spent))
  dsimp only
  rw [if_neg hm, State.core_spend, State.modeAddr_spent, State.storeV_local hloc, andCore_next,
    State.core_setCore, if_pos rfl, State.setCore_setCore, State.core_spend, hv _ (Core.ptr_stored (s.spent k 2) _ _ _)]
  rfl

end

section
variable (hr : r.val % 2 = 0)
include hr

/-- LD of a word. -/
theorem exec_ld_word (h0 : s.readable k ((s.core k).ptr p).toNat) (h1 : s.readable k ((s.core k).ptr p + 1).toNat) :
    exec (.shgLd k p 3 r) s = .next (s.ran k 1 (if ((s.core k).ptr p).toNat % 2 = 1 then 3 else 2) (fun d =>
      ((d.setV r (Memory.read (s.core k).data ((s.core k).ptr p).toNat)).setV (r + 1)
        (Memory.read (s.core k).data ((s.core k).ptr p + 1).toNat)).setPtr p ((s.core k).ptr p + 2))) := by
  change Host.Outcome.next (s.shgBlock k ((s.core k).modeCycles p 3) _ _ _) = _
  rw [show (s.core k).modeCycles p 3 = if ((s.core k).ptr p).toNat % 2 = 1 then 3 else 2 by simp [Core.modeCycles]]
  refine State.shgBlock_ran (d := (((s.spent k _).setV r (Memory.read (s.core k).data ((s.core k).ptr p).toNat)).setV (r + 1)
        (Memory.read (s.core k).data ((s.core k).ptr p + 1).toNat)).setPtr p ((s.core k).ptr p + 2))
    h hwd (by simp [hr]) ?_ (Core.apart_setPtr _ _ (Core.apart_setV _ _ (Core.apart_setV _ _ State.apart_spent)))
  dsimp only
  rw [if_pos rfl, State.core_spend, State.modeAddr_spent, modeAddr_three,
    State.readData2_readable (State.readable_spend.mpr h0) (by rw [toNat_succ]; exact State.readable_spend.mpr h1), toNat_succ]
  dsimp only
  rw [State.updCore_eq, andCore_next, State.core_setCore, if_pos rfl, State.setCore_setCore, State.core_spend,
    Core.setPair_even _ hr, extractLsb'_append_low, extractLsb'_append_high, modeStep_three, Core.ptr_setV, Core.ptr_setV]
  rfl

/-- ST of a word. -/
theorem exec_st_word (h0 : localData k ((s.core k).ptr p).toNat = true) (h1 : localData k ((s.core k).ptr p + 1).toNat = true) :
    exec (.shgSt k p 3 r) s = .next (s.ran k 1 (if ((s.core k).ptr p).toNat % 2 = 1 then 3 else 2) (fun d =>
      ((d.stored ((s.core k).ptr p).toNat ((s.core k).vr r)).stored ((s.core k).ptr p + 1).toNat ((s.core k).vr (r + 1))).setPtr p
        ((s.core k).ptr p + 2))) := by
  change Host.Outcome.next (s.shgBlock k ((s.core k).modeCycles p 3) _ _ _) = _
  rw [show (s.core k).modeCycles p 3 = if ((s.core k).ptr p).toNat % 2 = 1 then 3 else 2 by simp [Core.modeCycles]]
  refine State.shgBlock_ran (d := (((s.spent k _).stored ((s.core k).ptr p).toNat ((s.core k).vr r)).stored
        ((s.core k).ptr p + 1).toNat ((s.core k).vr (r + 1))).setPtr p ((s.core k).ptr p + 2))
    h hwd (by simp [hr]) ?_ (Core.apart_setPtr _ _ (Core.apart_stored _ _ (Core.apart_stored _ _ State.apart_spent)))
  dsimp only
  rw [if_pos rfl, State.core_spend, State.modeAddr_spent, modeAddr_three,
    State.writeData2_local h0 (by rw [toNat_succ]; exact h1), toNat_succ]
  dsimp only
  rw [State.updCore_eq, andCore_next, State.core_setCore, if_pos rfl, State.setCore_setCore, State.core_spend,
    modeStep_three, Core.ptr_stored, Core.ptr_stored]
  rfl

end

end

/-- Settles O29. -/
theorem shingleDataModes : Obligations.ShingleDataModes := by
  unfold Obligations.ShingleDataModes
  intro k p r s h hwd c a read ld st cyc
  have h0 (d : Core) (hd : d.ptr p = a) : d.modeStep p 0 = d.setPtr p a := by rw [Core.modeStep_zero, hd]
  have h1 (d : Core) (hd : d.ptr p = a) : d.modeStep p 1 = d.setPtr p (a + 1) := by rw [← hd]; rfl
  have h2 (d : Core) (hd : d.ptr p = a) : d.modeStep p 2 = d.setPtr p (a - 1) := by rw [← hd]; rfl
  refine ⟨exec_ld_byte (m := 0) h hwd (by decide) h0, exec_ld_byte (m := 1) h hwd (by decide) h1, exec_ld_byte (m := 2) h hwd (by decide) h2,
    exec_st_byte (m := 0) h hwd (by decide) h0, exec_st_byte (m := 1) h hwd (by decide) h1, exec_st_byte (m := 2) h hwd (by decide) h2,
    fun hr => ⟨exec_ld_word h hwd hr, exec_st_word h hwd hr⟩⟩

/-! ### Block instructions and ports -/

theorem Core.withFlags_flagsOf (c : Core) (x y : Byte) :
    c.flagsOf (byteSub x y true) = c.withFlags (sumRule x (~~~y) true false).f := by
  rw [Core.flagsOf_eq, byteSub_res]

section
variable {s : State} {k port : Nat}

theorem State.storeOrUndo_local {t : State} {a : Nat} {b : Byte} {g : Core → Core} (h : localData k a = true) :
    t.storeOrUndo s k a b g = (s.setCore k (g ((s.core k).stored a b)), none) := by
  simp [State.storeOrUndo, State.storeV_local h]

theorem State.portRead_plain (h : plainPort k port) : s.portRead k port = (s, .inr (s.portValue k port)) := by
  obtain ⟨hclaim, _, _, hkernel⟩ := h
  simp [State.portRead, hkernel, hclaim]

theorem State.portWrite_plain {b : Byte} (h : plainPort k port) :
    s.portWrite k port b = (s.setCore k ((s.core k).portPoke (decide (k = 64)) port b), none) := by
  obtain ⟨_, heoi, hkick, hkernel⟩ := h
  simp [State.portWrite, hkernel, heoi, hkick]

theorem State.portValue_spend {cyc : Nat} : (s.spend k cyc).portValue k port = s.portValue k port := by
  have hprio : (s.spend k cyc).runPrio (coreTarget k) = s.runPrio (coreTarget k) := by simp [State.spend_eq, State.runPrio]
  unfold State.portValue
  rw [State.core_spend, hprio]
  rfl

end

theorem decide_core_eq (k : Fin 65) : decide (k.val = 64) = decide (k = 64) :=
  decide_eq_decide.mpr (Fin.ext_iff (a := k) (b := 64)).symm

theorem Core.px_portPoke (c : Core) (r : Bool) (p : Nat) (b : Byte) : (c.portPoke r p b).px = c.px := by
  simp only [Core.portPoke, apply_ite Core.px, Core.commitWinb, ite_self]

/-! ### A run under RPT -/

section
variable {s : State} {k : Nat}

theorem State.entered_zero {cyc : Nat} : (s.entered k 0 cyc).core k = s.spent k cyc := by
  simp [State.entered, State.spent]

theorem fetchAddr_rpt {c : Core} (h : c.rpt = true) : c.fetchAddr = (c.pc.toNat + 1) % 65536 := by simp [Core.fetchAddr, h, b2n]

/-- With CNT = 0 a block instruction under RPT is skipped. -/
theorem State.shgBlock_rpt_skip {cyc : Nat} {stop : Core → Bool} {body : State → State × Option Exc} (hready : s.shgReady k = true)
    (hrpt : (s.core k).rpt = true) (hfetch : s.fetchWord k (((s.core k).pc.toNat + 1) % 65536) = (s, none))
    (hwd : (s.core k).wdPend = false) (hcnt : (s.core k).cnt = 0) :
    s.shgBlock k cyc false stop body = s.setCore k (Core.prefetch { s.core k with pc := (s.core k).pc + 2, rpt := false }
      (s.snapshot k (((s.core k).pc.toNat + 2) % 65536))) := by
  have hafter : (((s.core k).pc.toNat + 1) % 65536 + 1) % 65536 = ((s.core k).pc.toNat + 2) % 65536 := by omega
  simp only [State.shgBlock, State.blockRun, hready, fetchAddr_rpt hrpt, hfetch, hrpt, hcnt, hafter, Bool.not_true, Bool.false_eq_true,
    if_false, decide_true, Bool.and_self, if_true, State.updCore_eq]
  rw [State.wdBoundary_quiet (by rw [State.core_setCore, if_pos rfl]; exact hwd), State.afterStop_same (by simp)]

/-- One iteration of a block instruction under RPT, whose body leaves nothing but its core changed. -/
theorem State.shgBlock_rpt_step {cyc : Nat} {body : State → State × Option Exc} {d : Core} (hready : s.shgReady k = true)
    (hrpt : (s.core k).rpt = true) (hfetch : s.fetchWord k (((s.core k).pc.toNat + 1) % 65536) = (s, none))
    (hcnt : (s.core k).cnt ≠ 0)
    (hb : body (s.spend k cyc) = ((s.spend k cyc).setCore k d, none)) (hdcnt : d.cnt = (s.core k).cnt) (hdrpt : d.rpt = true)
    (hdwd : d.wdPend = false) :
    s.shgBlock k cyc false (fun _ => false) body = s.setCore k (if (s.core k).cnt = 1
      then Core.prefetch { d with cnt := (s.core k).cnt - 1, pc := d.pc + 2, rpt := false }
        (s.snapshot k (((s.core k).pc.toNat + 2) % 65536))
      else { d with cnt := (s.core k).cnt - 1, pre := some { s.seen k (((s.core k).pc.toNat + 1) % 65536) with bad := false } }) := by
  have hafter : (((s.core k).pc.toNat + 1) % 65536 + 1) % 65536 = ((s.core k).pc.toNat + 2) % 65536 := by omega
  have hone : (s.core k).cnt - 1 = 0 ↔ (s.core k).cnt = 1 := by bv_omega
  simp only [State.shgBlock, State.blockRun, hready, fetchAddr_rpt hrpt, hfetch, hrpt, hcnt, hafter, Bool.not_true, Bool.false_eq_true,
    if_false, decide_true, decide_false, Bool.and_false, if_true, hb]
  simp only [State.updCore_eq, State.spend_eq, State.setCore_setCore, State.core_setCore, if_true, Core.iterated, Bool.false_eq_true,
    or_false, hdcnt, hone]
  by_cases h1 : (s.core k).cnt = 1
  · rw [if_pos h1, if_pos h1, if_neg Bool.false_ne_true]
    rw [State.wdBoundary_quiet (by rw [State.core_setCore, if_pos rfl]; exact hdwd), State.afterStop_same (by simp)]
  · rw [if_neg h1, if_neg h1, if_pos hdrpt]
    rw [State.wdBoundary_quiet (by rw [State.core_setCore, if_pos rfl]; exact hdwd), State.afterStop_same (by simp)]

end

/-! ### The block instructions -/

section
variable {s : State} {k cyc : Nat}

theorem State.px_spent : (s.spent k cyc).px = (s.core k).px := rfl
theorem State.py_spent : (s.spent k cyc).py = (s.core k).py := rfl
theorem State.pzr_spent : (s.spent k cyc).pzr = (s.core k).pzr := rfl
theorem State.vr_spent (n : Nat) : (s.spent k cyc).vr n = (s.core k).vr n := rfl

/-- What one iteration of FILB does. -/
def filbBody (k : Nat) (t : State) : State × Option Exc :=
  andCore k (t.storeV k (t.core k).py.toNat ((t.core k).vr 0)) (fun c => { c with py := c.py + 1 })

theorem filb_body (h : localData k (s.core k).py.toNat = true) : filbBody k (s.spend k 2) =
      ((s.spend k 2).setCore k { (s.spent k 2).stored (s.core k).py.toNat ((s.core k).vr 0) with py := (s.core k).py + 1 }, none) := by
  rw [filbBody, State.core_spend, State.py_spent, State.vr_spent, State.storeV_local h, andCore_next, State.core_spend, State.core_setCore,
    if_pos rfl, State.setCore_setCore]
  rfl

end

/-- Settles O30. -/
theorem shingleBlocks : Obligations.ShingleBlocks := by
  unfold Obligations.ShingleBlocks
  refine ⟨fun k s h hwd => ?_, fun k s => ?_⟩
  · intro c port read
    refine ⟨fun hx hy => State.shgBlock_ran
        (d := { (s.spent k 3).stored c.py.toNat (read c.px) with px := c.px + 1, py := c.py + 1 }) h hwd rfl ?_ ⟨rfl, rfl, rfl⟩,
      fun hy => State.shgBlock_ran h hwd rfl (filb_body hy) ⟨rfl, rfl, rfl⟩,
      fun hx hy => State.shgBlock_ran (d := Core.withFlags { s.spent k 3 with px := c.px + 1, py := c.py + 1 }
        (sumRule (read c.px) (~~~(read c.py)) true false).f) h hwd rfl ?_ ⟨rfl, rfl, rfl⟩,
      fun hp hy => State.shgBlock_ran (d := { (s.spent k 3).stored c.py.toNat (s.portValue k port) with py := c.py + 1 })
        h hwd rfl ?_ ⟨rfl, rfl, rfl⟩,
      fun hp hx => State.shgBlock_ran (d := { (s.spent k 3).portPoke (decide (k = 64)) port (read c.px) with px := c.px + 1 })
        h hwd rfl ?_ ⟨?_, Core.rpt_portPoke .., Core.wdPend_portPoke ..⟩⟩
    · dsimp only
      rw [State.core_spend, State.px_spent, State.py_spent, State.readData_readable (State.readable_spend.mpr hx)]
      dsimp only
      rw [State.storeOrUndo_local hy, State.core_spend]
      rfl
    · dsimp only
      rw [State.core_spend, State.px_spent, State.py_spent, State.readData_readable (State.readable_spend.mpr hx)]
      dsimp only
      rw [State.readData_readable (State.readable_spend.mpr hy)]
      dsimp only
      rw [State.updCore_eq, Core.withFlags_flagsOf, State.core_spend]
      rfl
    · dsimp only
      rw [State.core_spend, State.pzr_spent, State.py_spent, State.portRead_plain hp]
      dsimp only
      rw [State.storeOrUndo_local hy, State.core_spend, State.portValue_spend]
      rfl
    · dsimp only
      rw [State.core_spend, State.px_spent, State.pzr_spent, State.readData_readable (State.readable_spend.mpr hx)]
      dsimp only
      rw [State.portWrite_plain hp, decide_core_eq]
      dsimp only
      rw [State.updCore_eq, State.core_setCore, if_pos rfl, State.setCore_setCore, Core.px_portPoke, State.core_spend, State.px_spent]
      rfl
    · change { Core.next ((s.spent k 3).portPoke (decide (k = 64)) port (read c.px)) with px := c.px + 1 } = _
      rw [Core.next_portPoke]
      rfl
  · intro c a ends spent once hready hrpt hfetch hwd
    refine ⟨fun h0 => congrArg Host.Outcome.next (State.shgBlock_rpt_skip hready hrpt hfetch hwd h0), fun h0 hy => ?_⟩
    have honce : once = { (s.spent k 2).stored c.py.toNat (c.vr 0) with py := c.py + 1, cnt := c.cnt - 1 } := by
      simp only [once, spent, State.entered_zero]
    have hstep := State.shgBlock_rpt_step (body := filbBody k) hready hrpt hfetch h0 (filb_body hy) rfl hrpt hwd
    rw [honce]
    exact congrArg Host.Outcome.next hstep

/-! ### Ports and program words -/

section
variable {s : State} {k : Fin 65} {r : Fin 8} {w cyc port : Nat}

theorem State.portValue_entered : (s.entered k w cyc).portValue k port = s.portValue k port := by
  have hprio : (s.entered k w cyc).runPrio (coreTarget k) = s.runPrio (coreTarget k) := by simp [State.entered, State.runPrio]
  unfold State.portValue
  rw [State.core_entered, hprio]
  rfl

theorem inPort_plain (h : plainPort k port) :
    (s.entered k w cyc).inPort k r port =
      ((s.entered k w cyc).setCore k (((s.entered k w cyc).core k).setV r (s.portValue k port)), none) := by
  rw [State.inPort, State.portRead_plain h, State.portValue_entered]
  rfl

theorem outPort_plain (h : plainPort k port) :
    (s.entered k w cyc).outPort k r port =
      ((s.entered k w cyc).setCore k (((s.entered k w cyc).core k).portPoke (decide (k = 64)) port ((s.core k).vr r)), none) := by
  rw [State.outPort, State.portWrite_plain h, decide_core_eq, State.core_entered, State.vr_begun]

theorem pzr_entered : ((s.entered k w cyc).core k).pzr = (s.core k).pzr := by rw [State.core_entered]; rfl

end

section
variable {s : State} {k : Fin 65} {w cyc a : Nat}

theorem progWord_entered : (s.entered k w cyc).progWord k a = s.progWord k a := by
  unfold State.progWord
  rw [State.core_entered]
  rfl

theorem progBad_entered : ((s.entered k w cyc).core k).progBad = (s.core k).progBad := by rw [State.core_entered]; rfl

/-- A word that is in error in neither copy of the Ridge is read. -/
theorem ridgeRead_entered (hk : k.val = 64) (hbad : a ∉ (s.core k).progBad) (hlost : a ∉ (s.core k).progLost) :
    (s.entered k w cyc).ridgeRead false a = (s.entered k w cyc, true) := by
  have hlost' : (s.entered k w cyc).ridgeLost false a = false := by
    rw [State.ridgeLost, ← hk, State.core_entered]
    simpa [State.begun] using hlost
  have hbad' : (s.entered k w cyc).ridgeBad false a = false := by
    rw [State.ridgeBad, ← hk, State.core_entered]
    simpa [State.begun] using hbad
  simp [State.ridgeRead, hlost', hbad']

theorem stpOk_entered : (s.entered k w cyc).stpOk k a = s.stpOk k a := by
  have hkept (h : k.val = 64) : (s.entered k w cyc).kept = s.kept := by
    unfold State.kept
    rw [← h, State.core_entered]
    rfl
  have hreg : (s.entered k w cyc).reg (.shgPw k) = s.reg (.shgPw k) := by simp [State.entered]
  unfold State.stpOk
  by_cases h : k.val = 64
  · rw [if_pos h, if_pos h, hkept h]
  · rw [if_neg h, if_neg h, hreg]

end

/-- The program word at PZ is read into an even pair. -/
theorem setWidth_word_low (x : BitVec 12) : (x.setWidth 16).extractLsb' 0 8 = x.extractLsb' 0 8 := by
  apply BitVec.eq_of_toNat_eq
  simp only [BitVec.extractLsb'_toNat, BitVec.toNat_setWidth]
  have := x.isLt
  omega

theorem setWidth_word_high (x : BitVec 12) : (x.setWidth 16).extractLsb' 8 8 = (x.extractLsb' 8 4).setWidth 8 := by
  apply BitVec.eq_of_toNat_eq
  simp only [BitVec.extractLsb'_toNat, BitVec.toNat_setWidth, Nat.shiftRight_eq_div_pow]
  have := x.isLt
  omega

theorem word_of_pair (hi lo : Byte) :
    (BitVec.ofNat 12 (lo.toNat + 256 * hi.toNat) : BitVec 12) = (hi.extractLsb' 0 4 ++ lo : BitVec 12) := by
  apply BitVec.eq_of_toNat_eq
  have hlo := lo.isLt
  rw [BitVec.toNat_ofNat]
  refine Eq.symm ((BitVec.toNat_append _ _).trans ?_)
  rw [← Nat.shiftLeft_add_eq_or_of_lt lo.isLt, Nat.shiftLeft_eq, BitVec.extractLsb'_toNat, Nat.shiftRight_zero]
  omega

/-- Settles O31. -/
theorem shinglePorts : Obligations.ShinglePorts := by
  unfold Obligations.ShinglePorts
  refine ⟨fun k r port s => ?_, fun k r s h hr => ?_⟩
  · intro c z
    refine ⟨fun h hp => ⟨State.shg_ran h (.inr rfl) rfl (f := fun d => d.setV r (s.portValue k port.toNat)) (inPort_plain hp) rfl,
      State.shg_ran h (.inr rfl) rfl (f := fun d => d.portPoke (decide (k = 64)) port.toNat (c.vr r)) (outPort_plain hp) rfl⟩,
      fun h hp => ⟨State.shg_ran h (.inl rfl) rfl (f := fun d => d.setV r (s.portValue k z)) ?_ rfl,
      State.shg_ran h (.inl rfl) rfl (f := fun d => d.portPoke (decide (k = 64)) z (c.vr r)) ?_ rfl⟩⟩
    · rw [pzr_entered]
      exact inPort_plain hp
    · rw [pzr_entered]
      exact outPort_plain hp
  · intro c a ha
    refine ⟨fun hbad hlost => State.shg_ran h (.inl rfl) (by simp [hr]) (f := fun d =>
       ((d.setV r ((s.progWord k a).extractLsb' 0 8)).setV (r + 1) ((s.progWord k a).extractLsb' 8 4 |>.setWidth 8)).setPz
         (c.pzr + 1)) ?_ rfl,
      fun hok => State.shg_ran h (.inl rfl) (by simp [hr]) (f := fun d => Core.setPz { d with
         prog := Tab.set (fun _ => 0) d.prog a ((c.vr (r + 1)).extractLsb' 0 4 ++ c.vr r : BitVec 12)
         progBad := d.progBad.filter (· ≠ a)
         progLost := d.progLost.filter (· ≠ a) } (c.pzr + 1)) ?_ rfl⟩
    · have hdone : ((s.entered k 1 3).updCore k (fun c => (c.setPair (r.val / 2) (((s.entered k 1 3).progWord k a).setWidth 16)).setPz
          (c.pzr + 1)), none) = ((s.entered k 1 3).setCore k ((((((s.entered k 1 3).core k).setV r
            ((s.progWord k a).extractLsb' 0 8)).setV (r + 1) ((s.progWord k a).extractLsb' 8 4 |>.setWidth 8)).setPz
              (c.pzr + 1))), (none : Option Exc)) := by
        rw [State.updCore_eq, Core.setPair_even _ hr, progWord_entered, setWidth_word_low, setWidth_word_high, pzr_entered]
      dsimp only
      rw [pzr_entered, if_neg (Nat.not_le.mpr ha), ← hdone]
      by_cases hk : k.val = 64
      · rw [if_pos hk, ridgeRead_entered hk hbad hlost]
        rfl
      · rw [if_neg hk, if_neg (by rw [progBad_entered]; simpa using hbad)]
    · dsimp only
      rw [pzr_entered, if_neg (Nat.not_le.mpr ha), stpOk_entered, hok, State.updCore_eq, word_of_pair, State.core_entered,
        State.vr_begun, State.vr_begun]
      rfl

end Sys2Proof.Machine
end

section
/-!
PROOF. Proofs/Frames.lean: what the shared operations leave alone, said as one equation of states.
-/
namespace Sys2Proof.Machine

/-- States that agree in every part are equal. -/
theorem State.ext_parts {t u : State} (h :
    t.pending = u.pending ∧ t.free = u.free ∧ t.regs = u.regs ∧ t.store = u.store ∧ t.storeBad = u.storeBad ∧
    t.clusters = u.clusters ∧ t.recs = u.recs ∧ t.tasks = u.tasks ∧ t.jobs = u.jobs ∧ t.hostPins = u.hostPins ∧
    t.mapClock = u.mapClock ∧ t.inSlots = u.inSlots ∧ t.outSlots = u.outSlots ∧ t.intSlots = u.intSlots ∧ t.alloc = u.alloc ∧
    t.calRec = u.calRec ∧ t.cal = u.cal ∧ t.stoppedD = u.stoppedD ∧ t.gens = u.gens ∧ t.genNum = u.genNum ∧
    t.baseline = u.baseline ∧ t.baseDir = u.baseDir ∧ t.baseMem = u.baseMem ∧ t.genOrder = u.genOrder ∧ t.lineRec = u.lineRec ∧
    t.partRec = u.partRec ∧ t.lanes = u.lanes ∧ t.partners = u.partners ∧ t.cores = u.cores ∧ t.ridge = u.ridge ∧
    t.sqs = u.sqs ∧ t.cqs = u.cqs ∧ t.engine = u.engine ∧ t.pcie = u.pcie ∧ t.srcs = u.srcs ∧ t.running = u.running ∧
    t.claims = u.claims ∧ t.dmas = u.dmas ∧ t.dmaLast = u.dmaLast ∧ t.latches = u.latches ∧ t.doms = u.doms ∧ t.clk = u.clk ∧
    t.cald = u.cald ∧ t.misc = u.misc ∧ t.scrubs = u.scrubs ∧ t.heldBar = u.heldBar ∧ t.out = u.out) :
    t = u := by
  cases t
  cases u
  simpa only [State.mk.injEq] using h

section
variable (s : State) (i : Nat)

/-- An edge touches the sources and the counters only. -/
theorem State.edge_frame : s.edge i = { s with regs := (s.edge i).regs, srcs := (s.edge i).srcs } :=
  State.ext_parts (by simp)

theorem State.raise_frame : s.raise i = { s with regs := (s.raise i).regs, srcs := (s.raise i).srcs } :=
  State.ext_parts (by simp)

end

/-! ### An edge reads nothing of a core -/

section
variable (s : State) (k i : Nat) (v : Core)

theorem State.edge_setCore : (s.setCore k v).edge i = (s.edge i).setCore k v := by
  unfold State.edge
  simp only [State.src_setCore]
  cases (s.src i).pend <;> rfl

theorem State.targetOff_setCore (n : Nat) : (s.setCore k v).targetOff n = s.targetOff n := by
  simp only [State.targetOff, State.dom_setCore]

theorem State.undeliverable_setCore : (s.setCore k v).undeliverable i = (s.undeliverable i).setCore k v := by
  unfold State.undeliverable
  simp only [State.src_setCore, State.targetOff_setCore]
  split
  · exact State.edge_setCore ((s.updSrc i (fun r => { r with undel := true })).bump (.evcCount 1)) k 491 v
  · rfl

theorem State.raise_setCore : (s.setCore k v).raise i = (s.raise i).setCore k v := by
  unfold State.raise
  simp only [State.src_setCore, State.edge_setCore, State.undeliverable_setCore]
  split <;> rfl

end

/-! ### What an edge leaves -/

/-- A register that an edge of source i does not count in: not SRC_COUNT of i or of UNDELIVERABLE, nor EVC_COUNT[1] and [2]. -/
def Reg.clearOf (r : Reg) (i : Nat) : Prop :=
  r.off ≠ (Reg.srcCount i).off ∧ r.off ≠ (Reg.srcCount 491).off ∧ r.off ≠ (Reg.evcCount 1).off ∧ r.off ≠ (Reg.evcCount 2).off

section
variable (s : State) (i : Nat)

theorem State.reg_edge {r : Reg} (hsrc : r.off ≠ (Reg.srcCount i).off) (hevc : r.off ≠ (Reg.evcCount 2).off) :
    (s.edge i).reg r = s.reg r := by
  unfold State.edge
  dsimp only
  split <;> simp [hsrc, hevc]

theorem State.reg_raise {r : Reg} (h : r.clearOf i) : (s.raise i).reg r = s.reg r := by
  obtain ⟨hsrc, hund, hone, htwo⟩ := h
  have hundel : ((s.edge i).undeliverable i).reg r = s.reg r := by
    unfold State.undeliverable
    dsimp only
    split
    · rw [State.reg_edge _ _ hund htwo]
      simp [hone, State.reg_edge _ _ hsrc htwo]
    · exact State.reg_edge _ _ hsrc htwo
  unfold State.raise
  split
  · exact State.reg_edge _ _ hsrc htwo
  · exact hundel

theorem State.src_edge (j : Nat) : (s.edge i).src j = if j = i then { s.src i with pend := true } else s.src j := by
  unfold State.edge
  dsimp only
  split <;> simp [State.bump]

/-- A raised source is pending. -/
theorem State.pend_raise : ((s.raise i).src i).pend = true := by
  unfold State.raise State.undeliverable
  dsimp only
  (repeat' split) <;> simp [State.src_edge, State.bump]
  (repeat' split) <;> rfl

end

end Sys2Proof.Machine
end

section
/-!
PROOF. Proofs/ShingleExceptions.lean: what exception entry leaves of a core (R242 to R245), and the waits, calls, exceptions and
interrupts of a Shingle that come to it.
-/
namespace Sys2Proof.Machine

/-! ### Entry -/

/-- The core after steps 1 to 5 of exception entry with a saved PC (R242): `word` is the entry's address; `counts` says whether its
watchdog counts the five cycles. -/
def Core.entry (c : Core) (saved word : W16) (counts : Bool) : Core :=
  { c with
    spc := saved, sst := c.st, tag := c.kept, shadow := true, st := setBit c.st 7 true, state := .run, rpt := false, waitd := false
    pre := none, cycles := c.cycles + 5, wdog := if counts then c.wdog - 5 else c.wdog, pc := word }

/-- The watchdog of core k would count in RUN. -/
def State.wdogArmed (s : State) (k : Nat) : Bool :=
  (if k = 64 then bit (s.reg .ridgeCtl) 2 else bit (s.reg (.shgWdogEn (k / 32))) (k % 32)) && decide (s.wdogPeriod ≠ 0)

/-- The word at an address of the core's own data RAM. -/
def Core.word (c : Core) (e : W16) : W16 := Memory.read c.data (e + 1).toNat ++ Memory.read c.data e.toNat

section
variable {s : State} {k : Nat}

theorem State.wdogArmed_of_run (h : (s.core k).state = .run) : s.wdogArmed k = s.wdogCounts k := by
  simp [State.wdogArmed, State.wdogCounts, h]

/-- Steps 1 to 4 of entry, with PC as it was. -/
theorem State.enter_begin (saved : W16) :
    (s.updCore k (fun c => { c with
      spc := saved, sst := c.st, tag := c.kept, shadow := true, st := setBit c.st 7 true, state := .run, rpt := false, waitd := false,
      pre := none })).spend k 5 =
      s.setCore k ((s.core k).entry saved (s.core k).pc (s.wdogArmed k)) := by
  simp only [State.spend, State.wdogCounts, State.wdogArmed, State.wdogPeriod, State.updCore_eq, State.setCore_setCore, State.core_setCore,
    State.reg_setCore, if_true, decide_true, Bool.and_true]
  rfl

theorem State.wdogArmed_setCore {d : Core} : (s.setCore k d).wdogArmed k = s.wdogArmed k := by
  delta State.wdogArmed State.setCore
  rfl

theorem State.readable_setCore {d : Core} {j : Nat} (hbad : d.dataBad = (s.core k).dataBad)
    (hlost : d.dataLost = (s.core k).dataLost) (h : s.readable k j) : (s.setCore k d).readable k j := by
  simpa [State.readable, hbad, hlost] using h

/-- Entry of a vector whose word can be read. -/
theorem State.enter_eq {v saved : Nat} {e : W16} (he : e.toNat = ((s.core k).vb.toNat + 2 * v) % 65536)
    (hwd : (s.core k).wdPend = false) (h0 : s.readable k e.toNat) (h1 : s.readable k (e + 1).toNat) :
    s.enter k v saved =
      (s.setCore k ((s.core k).entry (BitVec.ofNat 16 saved) ((s.core k).word e) (s.wdogArmed k)), false) := by
  have hread {j : Nat} (h : s.readable k j) :
      (s.setCore k ((s.core k).entry (BitVec.ofNat 16 saved) (s.core k).pc (s.wdogArmed k))).readable k j :=
    State.readable_setCore rfl rfl h
  unfold State.enter
  dsimp only
  rw [State.enter_begin, ← he, State.readData2_readable (hread h0) (by rw [toNat_succ]; exact hread h1), hwd, toNat_succ]
  simp only [Bool.false_eq_true, if_false, State.updCore_eq, State.core_setCore, if_true, State.setCore_setCore]
  rfl

/-- An exception or an interrupt that is taken with GM = 0. -/
theorem State.takeException_enters {v saved detail addr : Nat} {e : W16} (hk : k = 64 → s.ridge.stopped = false)
    (hgm : (s.core k).gm = false) (he : e.toNat = ((s.core k).vb.toNat + 2 * v) % 65536) (hwd : (s.core k).wdPend = false)
    (h0 : s.readable k e.toNat) (h1 : s.readable k (e + 1).toNat) :
    s.takeException k v saved detail addr = s.setCore k ((if v < 16 then (s.core k).setExc v detail addr else s.core k).entry
      (BitVec.ofNat 16 saved) ((s.core k).word e) (s.wdogArmed k)) := by
  have hstop : (decide (k = 64) && s.ridge.stopped) = false := by
    by_cases h : k = 64
    · rw [hk h, Bool.and_false]
    · rw [decide_eq_false h, Bool.false_and]
  unfold State.takeException State.except
  rw [hstop, hgm]
  by_cases hv : v < 16
  · have henter := State.enter_eq (s := s.setCore k ((s.core k).setExc v detail addr)) (k := k) (v := v) (saved := saved) (e := e)
      (by simpa [Core.setExc] using he) (by simpa [Core.setExc] using hwd) (State.readable_setCore rfl rfl h0)
      (State.readable_setCore rfl rfl h1)
    simp only [Bool.false_eq_true, if_false, if_pos hv, State.updCore_eq, henter, State.core_setCore, if_true, State.setCore_setCore,
      Bool.false_and]
    rw [State.afterStop_same (by simp), State.wdogArmed_setCore]
    rfl
  · simp only [Bool.false_eq_true, if_false, if_neg hv, State.enter_eq he hwd h0 h1, Bool.false_and]
    rw [State.afterStop_same (by simp)]

end

/-! ### KCALL and the table of the cores

An instruction writes its core again after it has written the Ridge (the prefetch of the next word); the statement writes the Ridge
last.  The two tables read alike, and are one list only where the table is in its canonical form. -/

/-- Core 3 can run KCALL; the table of the cores lists the Ridge first. -/
def ridgeListedFirst : State :=
  let c := { Core.fresh false with state := .run }
  { State.reset with cores := [(64, c), (1, c), (3, c)], doms := [(40, ⟨.on, 0, []⟩)] }

/-- The order in which the table of the cores of an answer lists them. -/
def coreOrder : Answer → List Nat
  | .next t => t.cores.map (·.1)
  | _ => []

theorem ridgeListedFirst_runs : ridgeListedFirst.Runs 3 1 := ⟨by decide, by decide, by decide, fun h => by omega⟩

/-- Refutes O32: the call leaves the cores in the order 1, 3, 64, and the state that the statement names has them in the order 3, 1, 64. -/
theorem not_shingleWaitsAndCalls : ¬ Obligations.ShingleWaitsAndCalls := by
  unfold Obligations.ShingleWaitsAndCalls
  rintro ⟨_, hcall⟩
  have heq := (hcall 3 5 ridgeListedFirst ridgeListedFirst_runs).1 (by decide)
  exact absurd (congrArg coreOrder heq) (by decide)

/-! ### RFE -/

theorem setK_bits (v : Byte) (b : Bool) : setBit v 6 b = (BitVec.ofBool v.msb ++ BitVec.ofBool b ++ v.extractLsb' 0 6 : BitVec 8) := by
  apply BitVec.eq_of_getLsbD_eq
  intro i hi
  simp only [setBit, setFld, BitVec.getLsbD_or, BitVec.getLsbD_and, BitVec.getLsbD_append, BitVec.getLsbD_extractLsb',
    BitVec.getLsbD_ofBool, BitVec.msb_eq_getLsbD_last]
  cases b <;> (obtain rfl | rfl | rfl | rfl | rfl | rfl | rfl | rfl := lt_eight_cases hi) <;> simp

theorem State.raiseIf_setCore (s : State) (k i : Nat) (b : Bool) (v : Core) :
    (s.setCore k v).raiseIf b i = (s.raiseIf b i).setCore k v := by
  unfold State.raiseIf
  rw [State.raise_setCore]
  cases b <;> rfl

theorem State.ridge_raiseIf (s : State) (i : Nat) (b : Bool) : (s.raiseIf b i).ridge = s.ridge := by
  cases b <;> simp [State.raiseIf]

/-- An instruction that changes its core and raises a source. -/
theorem State.shg_ran_raiseIf {s : State} {k w cyc i : Nat} {b : Bool} {body : State → State × Option Exc} {f g : Core → Core}
    (h : s.Runs k w) (hw : w = 1 ∨ w = 2)
    (hb : body (s.entered k w cyc) = (((s.entered k w cyc).setCore k (f ((s.entered k w cyc).core k))).raiseIf b i, none))
    (hg : f (s.begun k w cyc) = g (s.begun k w cyc)) :
    s.shg k w cyc false body = (s.ran k w cyc g).raiseIf b i := by
  have hran : s.ran k w cyc g = s.setCore k
      ((f (s.begun k w cyc)).prefetch (s.snapshot k (((s.core k).pc.toNat + w) % 65536))) := by rw [hg]; rfl
  rw [State.shg_runs h hw, hb, hran, State.core_entered, show s.entered k w cyc = s.setCore k (s.begun k w cyc) from rfl,
    State.setCore_setCore, State.raiseIf_setCore, State.raiseIf_setCore]
  dsimp only
  rw [State.updCore_eq, State.core_setCore, if_pos rfl, State.setCore_setCore, State.afterStop_same]
  rw [State.setCore_ridge, State.ridge_raiseIf]

theorem clamped_eq (a b c : Bool) : (a && !(a && b && c)) = !decide (a = (a && b && c)) := by
  cases a <;> cases b <;> cases c <;> rfl

theorem State.raiseIf_not_decide (t : State) (i : Nat) {p : Prop} [Decidable p] :
    t.raiseIf (!decide p) i = if p then t else t.raise i := by
  by_cases h : p <;> simp [State.raiseIf, h]

/-- RFE in the shadow bank. -/
theorem exec_rfe {s : State} {k : Fin 65} (h : s.Runs k 1) (hsh : (s.core k).shadow = true) :
     let c := s.core k
     let kk := bit c.sst 6 && c.tag && bit c.st 6
     let t1 := s.ran k 1 3 (fun d => { d with
       pc := c.spc, st := (BitVec.ofBool c.sst.msb ++ BitVec.ofBool kk ++ c.sst.extractLsb' 0 6 : BitVec 8), shadow := false })
     exec (.shgRfe k) s = .next (if bit c.sst 6 = kk then t1 else t1.raise 488) := by
  intro c kk t1
  have hrun : exec (.shgRfe k) s = .next (t1.raiseIf (bit c.sst 6 && !kk) 488) := by
    change Host.Outcome.next (s.shg k 1 3 (!(s.core k).shadow) _) = _
    rw [hsh]
    refine congrArg _ (State.shg_ran_raiseIf (f := fun d => { d with pc := d.spc, st := setBit d.sst 6 kk, shadow := false })
      h (.inl rfl) ?_ ?_)
    · dsimp only
      rw [State.updCore_eq, State.core_entered]
      rfl
    · rw [setK_bits]
      rfl
  rw [hrun, clamped_eq]
  exact congrArg _ (t1.raiseIf_not_decide 488)

/-! ### Reserved encodings -/

theorem Core.entry_vector2 {c : Core} (hrun : c.state = .run) (hrpt : c.rpt = false) (hwait : c.waitd = false) (word : W16)
    (b : Bool) : (c.setExc 2 0 c.pc.toNat).entry (BitVec.ofNat 16 c.pc.toNat) word b = { c with
      spc := c.pc, sst := c.st, tag := bit c.st 6, shadow := true, st := c.st ||| 0x80, excVec := 2, excDetail := 0, excAddr := c.pc
      pc := word, cycles := c.cycles + 5, wdog := if b then c.wdog - 5 else c.wdog, pre := none } := by
  cases c
  subst hrun hrpt hwait
  simp only [Core.entry, Core.setExc, Core.kept, setGm_true, BitVec.ofNat_toNat, BitVec.setWidth_eq]
  rfl

section
variable {s : State} {k : Nat}

/-- A core that can start an instruction is in RUN, and the Ridge is not stopped if it is the Ridge. -/
theorem State.running_of_ready (h : s.shgReady k = true) :
    (s.core k).state = .run ∧ (s.core k).waitd = false ∧ (k = 64 → s.ridge.stopped = false) := by
  simp only [State.shgReady, State.coreRuns, Bool.and_eq_true, decide_eq_true_eq, Bool.not_eq_true'] at h
  obtain ⟨⟨hrun, hon⟩, hwait⟩ := h
  exact ⟨hrun, hwait, fun hk => by simpa using (by simpa [hk] using hon : s.ridge.stopped = false ∧ s.ridge.clearing = false).1⟩

theorem State.Runs.state {w : Nat} (h : s.Runs k w) : (s.core k).state = .run := (State.running_of_ready h.ready).1
theorem State.Runs.waitd {w : Nat} (h : s.Runs k w) : (s.core k).waitd = false := (State.running_of_ready h.ready).2.1
theorem State.Runs.notStopped {w : Nat} (h : s.Runs k w) : k = 64 → s.ridge.stopped = false := (State.running_of_ready h.ready).2.2

end

/-- The entry of vector v over VB. -/
theorem toNat_vector (vb : W16) (v : Nat) : (vb + BitVec.ofNat 16 (2 * v)).toNat = (vb.toNat + 2 * v) % 65536 := by
  simp [BitVec.toNat_add]

section
variable {s : State} {k w cyc : Nat}

/-- A reserved encoding takes vector 2 with its first word as saved PC. -/
theorem State.shg_reserved {body : State → State × Option Exc} (h : s.Runs k 1) (hres : res = true) :
    s.shg k w cyc res body = (s.takeException k 2 (s.core k).pc.toNat 0 (s.core k).pc.toNat).afterStop s := by
  have hp : (s.core k).fetchAddr = (s.core k).pc.toNat := by
    simp [Core.fetchAddr, h.plain, b2n] <;> omega
  unfold State.shg State.shgRun
  simp only [hp, h.fetch, h.ready, hres, Bool.not_true, Bool.false_eq_true, if_false, Bool.true_or, if_true]

end

/-- What a reserved encoding leaves with GM = 0 (R232, R242). -/
theorem State.shg_vector2 {s : State} {k : Fin 65} {w cyc : Nat} {res : Bool} {body : State → State × Option Exc} {e : W16}
    (h : s.Runs k 1) (hres : res = true) (he : e = (s.core k).vb + 4) (hgm : (s.core k).gm = false) (hwd : (s.core k).wdPend = false)
    (h0 : s.readable k e.toNat) (h1 : s.readable k (e + 1).toNat) :
    s.shg k w cyc res body = s.setCore k { s.core k with
      spc := (s.core k).pc, sst := (s.core k).st, tag := bit (s.core k).st 6, shadow := true, st := (s.core k).st ||| 0x80
      excVec := 2, excDetail := 0, excAddr := (s.core k).pc
      pc := Memory.read (s.core k).data (e + 1).toNat ++ Memory.read (s.core k).data e.toNat, cycles := (s.core k).cycles + 5
      wdog := if s.wdogCounts k then (s.core k).wdog - 5 else (s.core k).wdog, pre := none } := by
  have hvec : e.toNat = ((s.core k).vb.toNat + 2 * 2) % 65536 := by rw [he]; exact toNat_vector _ 2
  rw [State.shg_reserved h hres, State.takeException_enters h.notStopped hgm hvec hwd h0 h1, if_pos (by decide),
    State.afterStop_same (by simp), Core.entry_vector2 h.state h.plain h.waitd, State.wdogArmed_of_run h.state]
  rfl

/-! ### The watchdog -/

/-- The core whose watchdog has reached 0 and restarts (R247). -/
def State.wdogRestarted (s : State) (k : Nat) (due : Bool) : Core :=
  { s.core k with wdog := (s.reg .shgWdog).toNat * 400, wdPend := due }

section
variable {s : State} {k : Fin 65} (hrun : s.coreRuns k = true) (hcount : s.wdogCounts k = true)
include hrun hcount

theorem exec_watchdog_counts : exec (.watchdog k) s = .next ((s.setCore k (s.wdogRestarted k true)).wdBoundary k) := by
  change Host.Outcome.next (if (s.coreRuns k && s.wdogCounts k) = true then _ else s) = _
  rw [hrun, hcount, Bool.and_self, if_pos rfl, State.kick]
  simp only [State.updCore_eq, State.core_setCore, if_true, State.setCore_setCore]
  rfl

/-- Inside a run or a WAITD the vector waits. -/
theorem exec_watchdog_inside (h : (s.core k).rpt = true ∨ (s.core k).waitd = true) :
    exec (.watchdog k) s = .next (s.setCore k (s.wdogRestarted k true)) := by
  have hin : ((s.setCore k (s.wdogRestarted k true)).core k).rpt = true ∨
      ((s.setCore k (s.wdogRestarted k true)).core k).waitd = true := by simpa [State.wdogRestarted] using h
  rw [exec_watchdog_counts hrun hcount]
  unfold State.wdBoundary
  rcases hin with hr | hw
  · simp only [hr, Bool.not_true, Bool.and_false, Bool.false_and, Bool.false_eq_true, if_false]
  · simp only [hw, Bool.not_true, Bool.and_false, Bool.false_eq_true, if_false]

/-- At a boundary vector 5 is taken. -/
theorem exec_watchdog_boundary (hrpt : (s.core k).rpt = false) (hwait : (s.core k).waitd = false) :
    exec (.watchdog k) s = .next (State.takeException { s.setCore k (s.wdogRestarted k false) with free := s.free + 1 } k 5
      (s.core k).pc.toNat 0 (Config.freeVal s.free)) := by
  rw [exec_watchdog_counts hrun hcount]
  unfold State.wdBoundary
  rw [State.core_setCore, if_pos rfl]
  simp [State.wdogRestarted, hrpt, hwait, State.freeNext]

end

/-! ### Lockup of a Shingle -/

theorem bit_setBit_true (x : W32) {n : Nat} (hn : n < 32) : bit (setBit x n true) n = true := by
  have hset : ∀ m : Fin 32, (BitVec.ofNat 32 (true.toNat % 2 ^ (m.val + 1 - m.val) * 2 ^ m.val)).getLsbD m.val = true := by decide
  unfold bit setBit setFld
  rw [BitVec.getLsbD_or, hset ⟨n, hn⟩, Bool.or_true]

section
variable {s : State} {k : Nat} (hk : k < 64)
include hk

theorem State.takeException_locks {v saved detail addr : Nat} (hgm : (s.core k).gm = true) :
    s.takeException k v saved detail addr = s.lockCore k := by
  have hk64 : k ≠ 64 := by omega
  have hridge : (s.lockCore k).ridge = s.ridge := by simp [State.lockCore, hk64]
  unfold State.takeException State.except
  rw [hgm, decide_eq_false hk64]
  simp only [Bool.false_and, Bool.and_false, Bool.false_eq_true, if_false, if_true]
  exact State.afterStop_same (by rw [hridge])

theorem State.lockCore_frame : s.lockCore k =
    { s with regs := (s.lockCore k).regs, cores := (s.lockCore k).cores, srcs := (s.lockCore k).srcs } := by
  have hk64 : k ≠ 64 := by omega
  exact State.ext_parts (by simp [State.lockCore, hk64])

theorem State.state_lockCore : ((s.lockCore k).core k).state = .locked := by
  have hk64 : k ≠ 64 := by omega
  simp [State.lockCore, hk64]

theorem State.bit_lockCore : bit ((s.lockCore k).reg (.lockupSrc (k / 32))) (k % 32) = true := by
  have hk64 : k ≠ 64 := by omega
  have hclear : (Reg.lockupSrc (k / 32)).clearOf (128 + 2 * k + 1) := by
    unfold Reg.clearOf
    simp only [Reg.off]
    omega
  unfold State.lockCore
  dsimp only
  rw [if_neg hk64, State.reg_raise _ _ hclear, State.updReg_eq, State.reg_setReg, if_pos rfl]
  exact bit_setBit_true _ (Nat.mod_lt _ (by decide))

theorem State.pend_lockCore : ((s.lockCore k).src (128 + 2 * k + 1)).pend = true := by
  have hk64 : k ≠ 64 := by omega
  unfold State.lockCore
  dsimp only
  rw [if_neg hk64]
  exact State.pend_raise ..

/-- A set LOCKUP_SRC bit drives LOCKUP_N low. -/
theorem State.lockupN_lockCore : (s.lockCore k).lockupN = false := by
  have hbit := State.bit_lockCore (s := s) hk
  have hne (r : Reg) (h : bit ((s.lockCore k).reg r) (k % 32) = true) : (s.lockCore k).reg r ≠ 0 := by
    intro h0
    rw [h0] at h
    simp [bit] at h
  unfold State.lockupN
  obtain h0 | h1 : k / 32 = 0 ∨ k / 32 = 1 := by omega
  · rw [h0] at hbit
    rw [decide_eq_false (hne _ hbit), Bool.and_false, Bool.false_and]
  · rw [h1] at hbit
    rw [decide_eq_false (hne _ hbit), Bool.and_false]

end

/-! ### The statements -/

theorem gm_entry (c : Core) (saved word : W16) (b : Bool) : (c.entry saved word b).gm = true := by
  change bit (setBit c.st 7 true) 7 = true
  rw [setGm_true]
  simp [bit]

/-- Settles O33. -/
theorem shingleExceptions : Obligations.ShingleExceptions := by
  unfold Obligations.ShingleExceptions
  refine ⟨fun k s h hsh => exec_rfe h hsh, fun k s => ?_, fun k d r p n m s h => ?_⟩
  · intro c e hrun hcount
    have hstate : (s.core k).state = .run ∧ (k.val = 64 → s.ridge.stopped = false) := by
      simp only [State.coreRuns, Bool.and_eq_true, decide_eq_true_eq] at hrun
      exact ⟨hrun.1, fun hk => by simpa using (by simpa [hk] using hrun.2 : s.ridge.stopped = false ∧ s.ridge.clearing = false).1⟩
    have hcore : State.core { s.setCore k (s.wdogRestarted k false) with free := s.free + 1 } k = s.wdogRestarted k false :=
      (State.core_setCore ..).trans (if_pos rfl)
    refine ⟨fun h => exec_watchdog_inside hrun hcount h, fun hrpt hwait hgm h0 h1 => ?_, fun hrpt hwait hgm hk => ?_⟩
    · have hread {j : Nat} (h : s.readable k j) :
          State.readable { s.setCore k (s.wdogRestarted k false) with free := s.free + 1 } k j := by
        unfold State.readable
        rw [hcore]
        exact h
      refine ⟨_, (exec_watchdog_boundary hrun hcount hrpt hwait).trans (congrArg _ (State.takeException_enters (e := e) hstate.2
        (by rw [hcore]; exact hgm) (by rw [hcore]; exact toNat_vector _ 5) (by rw [hcore]; rfl) (hread h0) (hread h1))), rfl, ?_⟩
      rw [hcore, if_pos (by decide), State.core_setCore, if_pos rfl]
      refine ⟨rfl, (BitVec.ofNat_toNat 16 _).trans (BitVec.setWidth_eq _), rfl, rfl, ?_, rfl, fun j hj => ?_⟩
      · exact gm_entry ..
      · rw [State.core_setCore, if_neg hj]
        exact (State.core_setCore ..).trans (if_neg hj)
    · refine ⟨_, (exec_watchdog_boundary hrun hcount hrpt hwait).trans
        (congrArg _ (State.takeException_locks hk (by rw [hcore]; exact hgm))), ?_, State.state_lockCore hk,
        State.bit_lockCore hk, State.pend_lockCore hk, State.lockupN_lockCore hk⟩
      rw [State.lockCore_frame hk]
      rfl
  · intro c e vector2 hgm hwd h0 h1
    have hvec {w cyc : Nat} {res : Bool} {body : State → State × Option Exc} (hres : res = true) :
        Host.Outcome.next (s.shg k w cyc res body) = vector2 := congrArg _ (State.shg_vector2 h hres rfl hgm hwd h0 h1)
    exact ⟨fun hd => hvec (decide_eq_true hd), fun hr => ⟨hvec (decide_eq_true hr), hvec (decide_eq_true hr)⟩,
      fun hp => ⟨hvec (decide_eq_true hp), hvec (decide_eq_true hp), hvec (decide_eq_true hp), hvec (decide_eq_true hp)⟩,
      fun hp => ⟨hvec (decide_eq_true hp), hvec (decide_eq_true hp)⟩, fun hs => hvec (by rw [hs]; rfl),
      fun hk => hvec (by rw [hk]; rfl)⟩

/-! ### Interrupts -/

section
variable {s : State} {k : Nat}

theorem State.atBoundary_of (hst : (s.core k).state = .run ∨ (s.core k).state = .wait)
    (hon : if k = 64 then s.ridge.stopped = false ∧ s.ridge.clearing = false else s.shingleOn k = true) :
    s.atBoundary k = true := by
  have hrun : (decide ((s.core k).state = .run) || decide ((s.core k).state = .wait)) = true := by simpa using hst
  unfold State.atBoundary
  dsimp only
  rw [hrun, Bool.true_and]
  by_cases hk : k = 64
  · rw [if_pos hk] at hon ⊢
    simp [hon]
  · rw [if_neg hk] at hon ⊢
    exact hon

/-- The interrupt that a core at a boundary takes with GM = 0. -/
theorem State.boundary_takes {i : Nat} (hbound : s.atBoundary k = true) (hbest : s.best (coreTarget k) = some i)
    (hgm : (s.core k).gm = false) (hwd : (s.core k).wdPend = false) :
    s.boundary k = (s.breakWaitd k).takeInterrupt k (s.src i).prio (s.core k).pc.toNat := by
  simp [State.boundary, hbound, hbest, hgm, hwd]

/-- A WAITD that an exception ends changes CNT only. -/
theorem State.breakWaitd_eq : ∃ cnt, (s.breakWaitd k).core k = { s.core k with cnt := cnt } ∧
    ((s.core k).waitd = false → cnt = (s.core k).cnt) ∧ (s.breakWaitd k).ridge = s.ridge ∧
    ∀ d, (s.breakWaitd k).setCore k d = { s with free := (s.breakWaitd k).free }.setCore k d := by
  unfold State.breakWaitd
  by_cases hw : (s.core k).waitd = true
  · rw [if_pos hw]
    refine ⟨_, (State.core_setCore ..).trans (if_pos rfl), fun h => absurd hw (by rw [h]; exact Bool.false_ne_true), by simp [State.freeNext],
      fun d => State.setCore_setCore ..⟩
  · rw [if_neg hw]
    exact ⟨_, rfl, fun _ => rfl, rfl, fun _ => rfl⟩

end

/-- Settles O34. -/
theorem interruptEntry : Obligations.InterruptEntry := by
  unfold Obligations.InterruptEntry
  intro k i s c e hst hon hbest hgm hwd h0 h1
  obtain ⟨cnt, hcore, hcnt, hridge, hset⟩ := State.breakWaitd_eq (s := s) (k := k)
  have hstop : k.val = 64 → (s.breakWaitd k).ridge.stopped = false := fun hk => by
    rw [if_pos (Fin.ext hk)] at hon
    rw [hridge]
    exact hon.1
  have hread {j : Nat} (h : s.readable k j) : (s.breakWaitd k).readable k j := by
    unfold State.readable
    rw [hcore]
    exact h
  have hon' : if k.val = 64 then s.ridge.stopped = false ∧ s.ridge.clearing = false else s.shingleOn k = true := by
    split
    next hk => rwa [if_pos (Fin.ext hk)] at hon
    next hk => rwa [if_neg fun h => hk (Fin.ext_iff.1 h)] at hon
  have hbest' : s.best (coreTarget k) = some i := by
    unfold coreTarget
    split
    next hk => rwa [if_pos (Fin.ext hk)] at hbest
    next hk => rwa [if_neg fun h => hk (Fin.ext_iff.1 h)] at hbest
  have htake := State.takeException_enters (v := 16 + (s.src i).prio) (saved := c.pc.toNat) (detail := 0) (addr := 0) (e := e) hstop
    (by rw [hcore]; exact hgm) (by rw [hcore]; exact toNat_vector _ _) (by rw [hcore]; exact hwd) (hread h0) (hread h1)
  rw [if_neg (by omega), hcore, hset] at htake
  have hexec : exec (.exceptionEntry k) s = .next ((s.breakWaitd k).takeException k (16 + (s.src i).prio) c.pc.toNat 0 0) := by
    change Host.Outcome.next ((s.boundary k).afterStop s) = _
    rw [State.boundary_takes (State.atBoundary_of hst hon') hbest' hgm hwd, State.takeInterrupt, State.afterStop_same]
    rw [htake]
    simp
  refine ⟨_, hexec.trans (congrArg _ htake), ?_⟩
  rw [State.core_setCore, if_pos rfl]
  exact ⟨rfl, (BitVec.ofNat_toNat 16 _).trans (BitVec.setWidth_eq _), rfl, rfl, rfl, setGm_true _, rfl, rfl, rfl, rfl, rfl, rfl, rfl,
    rfl, rfl, rfl, rfl, rfl, hcnt⟩

end Sys2Proof.Machine
end

section
/-!
PROOF. Proofs/CalmReads.lean: a read by a core, whatever it meets on the bus, leaves every Shingle, the queue of kernel calls and the
privilege of the Ridge as they were.
-/
namespace Sys2Proof.Machine

/-- From `s` to `t` no Shingle changes, and of the Ridge neither ST nor its queue nor whether its memories are clearing. -/
structure State.Calm (s t : State) : Prop where
  core : ∀ j, j ≠ 64 → t.core j = s.core j
  st : (t.core 64).st = (s.core 64).st
  kcq : t.ridge.kcq = s.ridge.kcq
  clearing : t.ridge.clearing = s.ridge.clearing

section
variable {s t u : State}

theorem State.Calm.of_same (hc : t.cores = s.cores) (hr : t.ridge = s.ridge) : s.Calm t :=
  have hcore (j : Nat) : t.core j = s.core j := congrArg (fun c => Tab.get _ c j) hc
  ⟨fun j _ => hcore j, by rw [hcore], by rw [hr], by rw [hr]⟩

theorem State.Calm.refl (s : State) : s.Calm s := .of_same rfl rfl

theorem State.Calm.trans (h : s.Calm t) (h' : t.Calm u) : s.Calm u :=
  ⟨fun j hj => (h'.core j hj).trans (h.core j hj), h'.st.trans h.st, h'.kcq.trans h.kcq, h'.clearing.trans h.clearing⟩

/-- What holds of each step of a loop holds of the loop. -/
theorem State.calm_forEach {α : Type} (g : State → α → State) (hg : ∀ (s : State) (a : α), s.Calm (g s a)) (l : List α) (s : State) :
    s.Calm (s.forEach l g) := by
  induction l generalizing s with
  | nil => exact .refl s
  | cons a l ih => exact (hg s a).trans (ih (g s a))

end

section
variable (s : State)

theorem State.calm_bump (r : Reg) : s.Calm (s.bump r) := .of_same (by simp) (by simp)

theorem State.calm_raise (i : Nat) : s.Calm (s.raise i) := .of_same (by simp) (by simp)

theorem State.calm_raiseIf (b : Bool) (i : Nat) : s.Calm (s.raiseIf b i) := by
  cases b
  · exact .refl s
  · exact s.calm_raise i

theorem State.calm_accessDenied (n : Nat) : s.Calm (s.accessDenied n) :=
  .of_same (by simp [State.accessDenied]) (by simp [State.accessDenied])

theorem State.calm_decodeError (a m : Nat) (wr : Bool) : s.Calm (s.decodeError a m wr) :=
  .of_same (by simp [State.decodeError]) (by simp [State.decodeError])

theorem State.calm_setFault (n : Nat) : s.Calm (s.setFault n) := .of_same (by simp) (by simp)

theorem State.calm_uncorrectable : s.Calm s.uncorrectable := .of_same (by simp) (by simp)

theorem State.calm_storeError (a : Nat) : s.Calm (s.storeError a) := .of_same (by simp) (by simp)

theorem State.calm_corrected (n : Nat) : s.Calm (s.corrected n) := .of_same (by simp) (by simp)

theorem State.calm_usedHost : s.Calm s.usedHost := .of_same rfl rfl

theorem State.calm_aer (b : Nat) : s.Calm (s.aer b) := .of_same (by simp [State.aer]) (by simp [State.aer])

theorem State.calm_readEffect (r : Reg) : s.Calm (s.readEffect r) := by
  unfold State.readEffect
  split <;> exact .of_same rfl rfl

theorem State.calm_readWord (off : Nat) : s.Calm (s.readWord off).1 := by
  unfold State.readWord
  split
  · exact State.calm_readEffect ..
  · exact .refl s

theorem State.calm_hostReadBad : s.Calm s.hostReadBad := by
  unfold State.hostReadBad
  repeat' split
  · exact s.calm_usedHost.trans (State.calm_aer ..)
  · exact s.calm_usedHost.trans (State.calm_aer ..)
  · exact s.calm_usedHost

theorem State.calm_ridgeDown : s.Calm s.ridgeDown := by
  unfold State.ridgeDown
  split
  · exact .refl s
  · refine State.Calm.trans (t := { s with ridge := { s.ridge with stopped := true } }) ⟨fun _ _ => rfl, rfl, rfl, rfl⟩ ?_
    exact (State.calm_raise ..).trans (State.calm_raiseIf ..)

theorem State.calm_ridgeFixed (data : Bool) (a : Nat) : s.Calm (s.ridgeFixed data a) := by
  unfold State.ridgeFixed
  refine State.Calm.trans ⟨fun j hj => ?_, ?_, ?_, ?_⟩ (State.calm_corrected ..)
  · simp [hj]
  · simp
    (repeat' split) <;> rfl
  · simp
  · simp

theorem State.calm_ridgeRead (data : Bool) (a : Nat) : s.Calm (s.ridgeRead data a).1 := by
  unfold State.ridgeRead
  repeat' split
  · exact (State.calm_bump ..).trans (State.calm_ridgeDown _)
  · exact (State.calm_bump ..).trans (State.calm_ridgeFixed ..)
  · exact .refl s

theorem State.calm_atomic (m o : Nat) (swap : Bool) : s.Calm (s.atomic m o swap) := .of_same rfl rfl

theorem State.calm_ridgeTouch (o n : Nat) : s.Calm (s.ridgeTouch o n) :=
  State.calm_forEach (fun (s : State) (w : Bool × Nat) => (s.ridgeRead w.1 w.2).1) (fun s w => s.calm_ridgeRead w.1 w.2) _ s

theorem State.calm_updCluster (c : Nat) (g : Cluster → Cluster) : s.Calm (s.updCluster c g) := .of_same rfl rfl

theorem State.calm_fromMate (c sp a : Nat) : s.Calm (s.fromMate c sp a) := by
  unfold State.fromMate
  dsimp only
  split
  · exact s.calm_uncorrectable
  · exact (s.calm_updCluster ..).trans (State.calm_corrected ..)

theorem State.calm_clusterParity (c sp a : Nat) : s.Calm (s.clusterParity c sp a) := by
  unfold State.clusterParity
  dsimp only
  split
  · repeat' split
    · exact s.calm_fromMate ..
    · exact s.calm_uncorrectable
    · exact (s.calm_updCluster ..).trans (State.calm_uncorrectable _)
    · exact s.calm_fromMate ..
    · exact s.calm_updCluster ..
  · repeat' split
    · exact s.calm_fromMate ..
    · exact s.calm_updCluster ..
  · repeat' split
    · exact s.calm_fromMate ..
    · exact s.calm_uncorrectable
    · exact s.calm_updCluster ..

theorem State.calm_accessParity (c sp a : Nat) : s.Calm (s.accessParity c sp a) :=
  ((s.calm_bump _).trans (State.calm_raise ..)).trans (State.calm_clusterParity ..)

theorem State.calm_touch (m a n : Nat) : s.Calm (s.touch m a n) := by
  unfold State.touch
  split
  · exact s.calm_atomic ..
  · exact s.calm_atomic ..
  · exact s.calm_readWord _
  · exact s.calm_usedHost
  · exact s.calm_ridgeTouch ..
  · dsimp only
    refine State.Calm.trans ?_ (State.calm_forEach _ (fun s i => s.calm_accessParity ..) _ _)
    split
    · exact .refl s
    · exact s.calm_usedHost
  · exact .refl s

theorem State.calm_map_storeError {a : Option Nat} {t : State} (h : a.map s.storeError = some t) : s.Calm t := by
  obtain ⟨b, _, rfl⟩ := Option.map_eq_some_iff.mp h
  exact s.calm_storeError b

theorem State.calm_readParity {a n : Nat} {t : State} (h : s.readParity a n = some t) : s.Calm t := by
  unfold State.readParity at h
  split at h
  · exact s.calm_map_storeError h
  · exact s.calm_map_storeError h
  · exact s.calm_map_storeError h
  · dsimp only at h
    repeat' split at h
    all_goals cases h <;> exact (s.calm_bump _).trans (State.calm_uncorrectable _)
  · obtain ⟨w, _, rfl⟩ := Option.map_eq_some_iff.mp h
    exact s.calm_ridgeRead w.1 w.2
  · exact absurd h (Option.some_ne_none _).symm

theorem State.calm_busRead (m a n : Nat) (dma : Bool) : s.Calm (s.busRead m a n dma).1 := by
  unfold State.busRead
  dsimp only
  repeat' split
  · exact s.calm_accessDenied 1
  · exact s.calm_decodeError ..
  · exact (s.calm_readWord _).trans (State.calm_readWord ..)
  · exact s.calm_hostReadBad
  next h => exact s.calm_readParity h
  next => exact s.calm_touch ..

theorem State.calm_localRead (k a : Nat) : s.Calm (s.localRead k a).1 := by
  unfold State.localRead
  dsimp only
  repeat' split
  · exact s.calm_ridgeRead ..
  · exact s.calm_ridgeRead ..
  · exact .refl s
  · exact (s.calm_bump _).trans (State.calm_uncorrectable _)

theorem State.calm_readData (k a : Nat) : s.Calm (s.readData k a).1 := by
  have hlocal := s.calm_localRead k a
  have hbus := s.calm_busRead (s.coreMaster k) ((s.core k).winAddr a) 1 false
  unfold State.readData
  split
  · revert hlocal
    rcases s.localRead k a with ⟨t, _ | b⟩ <;> exact id
  · revert hbus
    rcases s.busRead (s.coreMaster k) ((s.core k).winAddr a) 1 false with ⟨t, e | bs⟩ <;> exact id

theorem State.calm_windowCheck {k a : Nat} {wr : Bool} {e : State × (Nat × Nat)} (h : s.windowCheck k a wr = some e) :
    s.Calm e.1 := by
  unfold State.windowCheck at h
  dsimp only at h
  repeat' split at h
  all_goals cases h <;> exact s.calm_accessDenied _

theorem State.calm_readData2 (k a : Nat) : s.Calm (s.readData2 k a).1 := by
  unfold State.readData2
  dsimp only
  split
  next e he =>
    split at he
    · rcases hfirst : s.windowCheck k a false with _ | e'
      · rw [hfirst] at he
        exact s.calm_windowCheck he
      · rw [hfirst] at he
        obtain rfl := Option.some.inj he
        exact s.calm_windowCheck hfirst
    · exact absurd he (Option.some_ne_none _).symm
  next =>
    split
    next =>
      have h1 := s.calm_readData k a
      revert h1
      rcases s.readData k a with ⟨t, e | lo⟩
      · exact id
      · intro h1
        have h2 := t.calm_readData k ((a + 1) % 65536)
        dsimp only
        revert h2
        rcases t.readData k ((a + 1) % 65536) with ⟨u, e | hi⟩ <;> exact h1.trans
    next =>
      have hbus := s.calm_busRead (s.coreMaster k) ((s.core k).winAddr a) 2 false
      revert hbus
      rcases s.busRead (s.coreMaster k) ((s.core k).winAddr a) 2 false with ⟨t, e | bs⟩ <;> exact id

end

/-! ### Entry of a Shingle, whatever its vector holds -/

/-- What the entry of an exception has written into a core, whether or not its vector could be read. -/
structure Core.Entered (c d : Core) (saved : Nat) : Prop where
  excVec : d.excVec = c.excVec
  excDetail : d.excDetail = c.excDetail
  spc : d.spc = BitVec.ofNat 16 saved
  sst : d.sst = c.st
  shadow : d.shadow = true

section
variable {s : State} {k : Nat} (hk : k < 64)
include hk

theorem State.core_lockCore : (s.lockCore k).core k =
    { s.core k with state := .locked, rpt := false, waitd := false, pre := none, wdPend := false } := by
  have hk64 : k ≠ 64 := by omega
  simp [State.lockCore, hk64]

theorem State.kcq_lockCore : (s.lockCore k).ridge = s.ridge := by
  rw [State.lockCore_frame hk]

theorem State.enter_shingle (v saved : Nat) :
    Core.Entered (s.core k) ((s.enter k v saved).1.core k) saved ∧ (s.enter k v saved).1.ridge.kcq = s.ridge.kcq := by
  have hk64 : k ≠ 64 := by omega
  unfold State.enter
  dsimp only
  rw [State.enter_begin]
  have hcalm := State.calm_readData2 (s.setCore k ((s.core k).entry (BitVec.ofNat 16 saved) (s.core k).pc (s.wdogArmed k))) k
    (((s.core k).vb.toNat + 2 * v) % 65536)
  revert hcalm
  rcases (s.setCore k ((s.core k).entry (BitVec.ofNat 16 saved) (s.core k).pc (s.wdogArmed k))).readData2 k
    (((s.core k).vb.toNat + 2 * v) % 65536) with ⟨t, e | a⟩
  all_goals
    intro hcalm
    have hcore : t.core k = (s.core k).entry (BitVec.ofNat 16 saved) (s.core k).pc (s.wdogArmed k) :=
      (hcalm.core k hk64).trans ((State.core_setCore ..).trans (if_pos rfl))
    have hkcq : t.ridge.kcq = s.ridge.kcq := hcalm.kcq.trans (by simp)
    have hlock : Core.Entered (s.core k) ((t.lockCore k).core k) saved ∧ (t.lockCore k).ridge.kcq = s.ridge.kcq := by
      rw [State.core_lockCore hk, State.kcq_lockCore hk, hcore, hkcq]
      exact ⟨⟨rfl, rfl, rfl, rfl, rfl⟩, rfl⟩
  · exact hlock
  · dsimp only
    split
    · exact hlock
    · rw [State.updCore_eq, State.core_setCore, if_pos rfl, State.setCore_ridge, hcore, hkcq]
      exact ⟨⟨rfl, rfl, rfl, rfl, rfl⟩, rfl⟩

/-- An exception with GM = 0: the EXC registers, the saved PC and ST. -/
theorem State.except_shingle {v saved detail addr : Nat} (hv : v < 16) (hgm : (s.core k).gm = false) :
    let t := (s.except k v saved detail addr).1
    (t.core k).excVec = v ∧ (t.core k).excDetail = BitVec.ofNat 8 detail ∧ (t.core k).spc = BitVec.ofNat 16 saved ∧
      (t.core k).shadow = true ∧ t.ridge.kcq = s.ridge.kcq := by
  have henter := State.enter_shingle (s := s.setCore k ((s.core k).setExc v detail addr)) hk v saved
  rw [State.core_setCore, if_pos rfl, State.setCore_ridge] at henter
  obtain ⟨⟨hvec, hdetail, hspc, -, hsh⟩, hkcq⟩ := henter
  unfold State.except
  rw [hgm, if_neg Bool.false_ne_true, if_pos hv]
  exact ⟨hvec, hdetail, hspc, hsh, hkcq⟩

/-- A CALLING Shingle resumes with vector 6 and a status (R252). -/
theorem State.callError_shingle {status : Nat} (hgm : (s.core k).gm = false) :
    let t := s.callError k status
    (t.core k).excVec = 6 ∧ (t.core k).excDetail = BitVec.ofNat 8 status ∧ (t.core k).spc = (s.core k).pc ∧
      (t.core k).shadow = true ∧ t.ridge.kcq = s.ridge.kcq := by
  have hcore : (State.core (s.freeNext.1.updCore k (fun c => { c with state := .run })) k) = { s.core k with state := .run } :=
    (State.core_setCore ..).trans (if_pos rfl)
  have hexc := State.except_shingle (s := s.freeNext.1.updCore k (fun c => { c with state := .run })) hk (v := 6)
    (saved := (s.core k).pc.toNat) (detail := status) (addr := s.freeNext.2) (by decide) (by rw [hcore]; exact hgm)
  unfold State.callError
  dsimp only at hexc ⊢
  rw [hcore]
  obtain ⟨hvec, hdetail, hspc, hsh, hkcq⟩ := hexc
  exact ⟨hvec, hdetail, hspc.trans ((BitVec.ofNat_toNat 16 _).trans (BitVec.setWidth_eq _)), hsh, hkcq⟩

end

end Sys2Proof.Machine
end

section
/-!
PROOF. Proofs/Machine.lean: the machine's step on its queue, and the state after reset.
-/
namespace Sys2Proof.Machine

/-- Settles O1. -/
theorem stepRunsFront : Obligations.StepRunsFront := by
  unfold Obligations.StepRunsFront
  intro c rest s
  rfl

theorem ok_reset : State.reset.Ok where
  store := rfl
  regs := rfl
  dt := by decide
  frac := by decide
  sec := by decide
  sub := by decide

/-- Settles O3. -/
theorem resetState : Obligations.ResetState := by
  unfold Obligations.ResetState
  refine ⟨ok_reset, rfl, rfl, rfl, rfl, by decide, by decide, by decide, by decide, by decide, by decide, by decide, by decide, rfl, rfl,
    rfl, rfl⟩

/-! ### An idle cycle -/

section
variable {s : State}

theorem State.tryReady_served (h : s.misc.boot ≠ .done ∨ bit (s.reg .qeStatus) 0 = true) : s.tryReady = s := by
  unfold State.tryReady
  rcases h with h | h <;> simp [h]

/-- No Shingle waits with a reserved call. -/
theorem State.noService_none (h : ∀ n : Nat, n < 64 → (s.core n).state = .calling → (s.core n).call < 6) : s.noService = s := by
  have hfind : s.callers.find? (fun k => decide (6 ≤ (s.core k).call) && s.serves k (s.core k).call) = none := by
    rw [List.find?_eq_none]
    intro n hn
    simp only [State.callers, List.mem_filter, List.mem_range, decide_eq_true_eq] at hn
    have := h n hn.1 hn.2
    simp; omega
  rw [State.noService, hfind]

theorem State.bootTick_idle (h : s.misc.toBoot = [] ∨ s.clk.dt < s.misc.bootAt) : s.bootTick = s := by
  unfold State.bootTick
  rcases h with h | h
  · simp [h]
  · simp [Nat.not_le.mpr h]

theorem State.timeTick_stands (h : ¬ (s.clk.sysclk = true ∧ s.isOn 48 = true)) : s.timeTick = s := by
  unfold State.timeTick
  rw [if_neg (by simpa [State.timeRuns] using h)]

theorem State.timeTick_runs (h : s.clk.sysclk = true ∧ s.isOn 48 = true) : s.timeTick = State.bootTick { s with clk := s.clk.advance } := by
  unfold State.timeTick
  rw [if_pos (by simpa [State.timeRuns] using h)]

/-- Without a boot that is due a cycle changes the clock only. -/
theorem State.timeTick_eq (h : s.misc.toBoot = []) : ∃ clk, s.timeTick = { s with clk := clk } := by
  by_cases hr : s.clk.sysclk = true ∧ s.isOn 48 = true
  · exact ⟨_, (State.timeTick_runs hr).trans (State.bootTick_idle (s := { s with clk := s.clk.advance }) (.inl h))⟩
  · exact ⟨s.clk, State.timeTick_stands hr⟩

/-- At the nominal rate a cycle is 10 ns, and leaves the fraction. -/
theorem Clock.advance_nominal {c : Clock} (hrate : c.rate + c.slew = 0) (hfrac : c.frac < 2 ^ 32) :
    c.advance = { c with dt := (c.dt + 10) % 2 ^ 64 } := by
  have hper : c.perCycle = 10 * 2 ^ 32 := by
    unfold Clock.perCycle
    rw [show (1000000000 : Int) + c.rate + c.slew = 1000000000 by omega]
    rfl
  unfold Clock.advance
  rw [hper]
  simp only [show (c.frac + 10 * 2 ^ 32) / 2 ^ 32 = 10 by omega, show (c.frac + 10 * 2 ^ 32) % 2 ^ 32 = c.frac by omega]

theorem step_idle (h : s.pending = []) : step s = .next s.idleCycle := by rw [step, h]

/-- Boot switches the next four of its domains on. -/
theorem State.dom_forEach_powerUp (l : List Nat) (s : State) (d : Nat) :
    (s.forEach l State.powerUp).dom d = if d ∈ l then { s.dom d with st := .ramp } else s.dom d := by
  induction l generalizing s with
  | nil => rfl
  | cons a l ih =>
    change ((s.powerUp a).forEach l State.powerUp).dom d = _
    rw [ih]
    by_cases hda : d = a <;> by_cases hdl : d ∈ l <;> simp [State.powerUp, State.setDomSt, hda, hdl]

theorem State.forEach_powerUp_frame (l : List Nat) (s : State) :
    s.forEach l State.powerUp = { s with doms := (s.forEach l State.powerUp).doms } := by
  induction l generalizing s with
  | nil => rfl
  | cons a l ih =>
    change (s.powerUp a).forEach l State.powerUp = { s with doms := ((s.powerUp a).forEach l State.powerUp).doms }
    rw [ih]
    rfl

theorem State.bootBatch_frame : s.bootBatch = { s with
    misc := { s.misc with toBoot := s.misc.toBoot.drop 4, bootAt := s.clk.dt + 10000 }, doms := s.bootBatch.doms } :=
  State.forEach_powerUp_frame ..

theorem State.boot_bootBatch : s.bootBatch.misc.boot = s.misc.boot := by rw [State.bootBatch_frame]
theorem State.reg_bootBatch (r : Reg) : s.bootBatch.reg r = s.reg r := by rw [State.bootBatch_frame]; rfl
theorem State.core_bootBatch (k : Nat) : s.bootBatch.core k = s.core k := by rw [State.bootBatch_frame]; rfl

theorem State.bootTick_due (hon : s.isOn 47 = true) (hboot : s.misc.toBoot ≠ []) (hat : s.misc.bootAt ≤ s.clk.dt) :
    s.bootTick = s.bootBatch := by
  unfold State.bootTick
  rw [if_pos]
  simp [hon, hat, hboot]

/-- A running kernel puts the queue engine in service. -/
theorem State.tryReady_serves (hdone : s.misc.boot = .done) (hoff : bit (s.reg .qeStatus) 0 = false) (hclear : s.storeClearing = false)
    (hon : s.isOn 47 = true) (hstop : s.ridge.stopped = false) (hridge : s.ridge.clearing = false) :
    s.tryReady = (s.bootState 0).updReg .qeStatus (fun v => setBit v 0 true) := by
  unfold State.tryReady
  rw [if_pos]
  simp [hdone, hoff, hclear, hon, hstop, hridge]

end

theorem fld_setFld_zero (x : W32) : fld (setFld x 7 0 0) 7 0 = 0 := by
  have hlow : (setFld x 7 0 0).setWidth 8 = 0#8 := by
    apply BitVec.eq_of_getLsbD_eq
    intro i hi
    simp only [setFld, BitVec.getLsbD_setWidth, BitVec.getLsbD_or, BitVec.getLsbD_and]
    (obtain rfl | rfl | rfl | rfl | rfl | rfl | rfl | rfl := lt_eight_cases hi) <;> simp
  have hnat := congrArg BitVec.toNat hlow
  rw [BitVec.toNat_setWidth] at hnat
  simpa [fld] using hnat

/-- What a service answers that does not act: an error for its caller, which leaves the queue. -/
theorem State.serve_error {s : State} {k n status : Nat} {denied : Bool} {g : State → State × Nat} (hk : k < 64)
    (hserves : s.serves k n = true) (hst : status ≠ 0)
    (hg : (if denied then (({ s with ridge := { s.ridge with kcq := s.ridge.kcq.filter (· ≠ k) } } : State), 3)
      else g { s with ridge := { s.ridge with kcq := s.ridge.kcq.filter (· ≠ k) } }) =
        ({ s with ridge := { s.ridge with kcq := s.ridge.kcq.filter (· ≠ k) } }, status)) :
    s.serve k n denied g = State.callError { s with ridge := { s.ridge with kcq := s.ridge.kcq.filter (· ≠ k) } } k status := by
  have hcalling : (s.core k).state = .calling := by
    simp only [State.serves, Bool.and_eq_true, decide_eq_true_eq] at hserves
    exact hserves.1.1.2
  unfold State.serve
  rw [if_pos hserves]
  dsimp only
  rw [hg]
  unfold State.kcAnswer
  rw [if_pos (by rw [decide_eq_true hk, Bool.true_and]; exact decide_eq_true hcalling), if_neg hst]

/-- The only Shingle that waits with a reserved call is answered. -/
theorem State.noService_some {s : State} {k : Nat} (hk : k < 64) (hcall : 6 ≤ (s.core k).call) (hserves : s.serves k (s.core k).call = true)
    (honly : ∀ n : Nat, n < 64 → (s.core n).state = .calling → 6 ≤ (s.core n).call → n = k) :
    s.noService = s.serve k (s.core k).call false (fun s => (s, 1)) := by
  have hcalling : (s.core k).state = .calling := by
    simp only [State.serves, Bool.and_eq_true, decide_eq_true_eq] at hserves
    exact hserves.1.1.2
  have hmem : k ∈ s.callers := by simpa [State.callers] using ⟨hk, hcalling⟩
  unfold State.noService
  rcases hfind : s.callers.find? (fun k => decide (6 ≤ (s.core k).call) && s.serves k (s.core k).call) with _ | n
  · have hnone := List.find?_eq_none.mp hfind k hmem
    simp [hcall, hserves] at hnone
  · have hn : n < 64 ∧ (s.core n).state = .calling := by
      simpa [State.callers] using List.mem_of_find?_eq_some hfind
    have hp := List.find?_some hfind
    simp only [Bool.and_eq_true, decide_eq_true_eq] at hp
    obtain rfl := honly n hn.1 hn.2 hp.1
    rfl

/-- NO_SERVICE (R253). -/
theorem State.noService_answers {s : State} {k : Nat} (hk : k < 64) (hcall : 6 ≤ (s.core k).call)
    (hserves : s.serves k (s.core k).call = true) (hgm : (s.core k).gm = false)
    (honly : ∀ n : Nat, n < 64 → (s.core n).state = .calling → 6 ≤ (s.core n).call → n = k) :
    (s.noService.core k).excVec = 6 ∧ (s.noService.core k).excDetail = 1 ∧ (s.noService.core k).spc = (s.core k).pc ∧
      k ∉ s.noService.ridge.kcq := by
  rw [State.noService_some hk hcall hserves honly, State.serve_error hk hserves (status := 1) (by decide) rfl]
  obtain ⟨hvec, hdetail, hspc, -, hkcq⟩ := State.callError_shingle
    (s := { s with ridge := { s.ridge with kcq := s.ridge.kcq.filter (· ≠ k) } }) hk (status := 1) hgm
  exact ⟨hvec, hdetail, hspc, by rw [hkcq]; simp⟩

/-- Settles O2. -/
theorem idleStep : Obligations.IdleStep := by
  unfold Obligations.IdleStep
  intro k s hp c per later runs served noCall booted
  have hgiga : ((10 : Int) ^ 9) = 1000000000 := by decide
  have hlater : later = s.clk.advance := by
    simp only [later, per, c, Clock.advance, Clock.perCycle, hgiga]
  rw [step_idle hp, State.idleCycle]
  refine ⟨fun hs hn hr => ?_, fun hs hn hr hb => ?_, fun hrate hfrac => ?_, fun hs hn hr hon hboot hat => ?_,
    fun hdone hoff hclear hon hstop hridge hn hb => ?_, fun hs hb hcall hserves hgm honly => ?_⟩
  · rw [State.timeTick_stands hr, State.tryReady_served hs, State.noService_none hn]
  · rw [State.timeTick_runs hr, ← hlater, State.bootTick_idle (s := { s with clk := later }) hb,
      State.tryReady_served (s := { s with clk := later }) hs, State.noService_none (s := { s with clk := later }) hn]
  · rw [hlater, Clock.advance_nominal hrate hfrac]
  · rw [State.timeTick_runs hr, ← hlater, State.bootTick_due (s := { s with clk := later }) hon hboot hat]
    refine ⟨State.bootBatch { s with clk := later }, ?_, State.bootBatch_frame, fun d => ?_⟩
    · rw [State.tryReady_served (s := State.bootBatch { s with clk := later }) (by rw [State.boot_bootBatch, State.reg_bootBatch]; exact hs),
        State.noService_none (s := State.bootBatch { s with clk := later }) (by simp only [State.core_bootBatch]; exact hn)]
    · refine (State.dom_forEach_powerUp ..).trans ?_
      simp only [List.mem_filter, decide_eq_true_eq]
      rfl
  · obtain ⟨clk, hclk⟩ := State.timeTick_eq hb
    rw [hclk, State.tryReady_serves (s := { s with clk := clk }) hdone hoff hclear hon hstop hridge]
    refine ⟨_, congrArg _ (State.noService_none hn), rfl, ?_, ?_⟩
    · simp [bit_setBit_true]
    · simpa [State.bootState, Reg.off] using fld_setFld_zero _
  · obtain ⟨clk, hclk⟩ := State.timeTick_eq hb
    rw [hclk, State.tryReady_served (s := { s with clk := clk }) hs]
    exact ⟨_, rfl, State.noService_answers (s := { s with clk := clk }) k.isLt hcall hserves hgm honly⟩

end Sys2Proof.Machine
end

section
/-!
PROOF. Proofs/IssueTraps.lean: the first cause that the operations of a bundle bring (R51, R72, R73), and the bundles that a cause ends.
-/
namespace Sys2Proof.Machine

/-! ### The first of several causes -/

/-- Cause f comes before cause g. -/
def Fail.Precedes (f g : Fail) : Prop := f.before g = true ∧ g.before f = false

/-- A cause of a bundle that every other one follows is the one that stays. -/
theorem Fail.foldl_meet_first {f : Fail} {l : List (Option Fail)} {i : Option Fail} (hmem : i = some f ∨ some f ∈ l)
    (hi : ∀ g, i = some g → g = f ∨ f.Precedes g) (hl : ∀ g, some g ∈ l → g = f ∨ f.Precedes g) :
    l.foldl Fail.meet i = some f := by
  induction l generalizing i with
  | nil => simpa using hmem
  | cons r l ih =>
    have hr (g : Fail) (h : r = some g) : g = f ∨ f.Precedes g := hl g (h ▸ List.mem_cons_self)
    have hmeet : (i = some f ∨ r = some f → Fail.meet i r = some f) ∧ (Fail.meet i r = i ∨ Fail.meet i r = r) := by
      rcases i with _ | a <;> rcases r with _ | b
      · simp [Fail.meet]
      · simp [Fail.meet]
      · simp [Fail.meet]
      · refine ⟨fun h => ?_, by simp only [Fail.meet]; split <;> simp⟩
        rcases h with h | h
        · obtain rfl := Option.some.inj h
          rcases hr b rfl with rfl | ⟨_, hbf⟩
          · exact ite_self _
          · exact if_neg (by rw [hbf]; exact Bool.false_ne_true)
        · obtain rfl := Option.some.inj h
          rcases hi a rfl with rfl | ⟨hfa, _⟩
          · exact ite_self _
          · exact if_pos hfa
    rw [List.foldl_cons]
    refine ih ?_ ?_ (fun g hg => hl g (List.mem_cons_of_mem _ hg))
    · rcases hmem with h | h
      · exact .inl (hmeet.1 (.inl h))
      · rcases List.mem_cons.mp h with h | h
        · exact .inl (hmeet.1 (.inr h.symm))
        · exact .inr h
    · intro g hg
      rcases hmeet.2 with h | h
      · exact hi g (h ▸ hg)
      · exact hr g (h ▸ hg)

section
variable {x : Cluster} {o : Op} {a : Nat} (hord : ∀ v ∈ x.iss.units, v < o.unit)
include hord

/-- The causes of an operation whose unit is above those before it. -/
theorem Cluster.opFails_eq : x.opFails o a = [x.fetchFail a o.len] ++ o.traps.map (fun k => some ⟨3, k, a, none⟩) ++
    [(if o.flagW then x.iss.flagAt.bind (fun syl => some ⟨3, tFlags, syl, none⟩) else none),
     (o.ag.bind (fun g => (x.iss.ags.find? (fun p => decide (p.1 = g))).bind (fun p => some ⟨3, tAgen, p.2, none⟩))),
     (if o.transfer && x.atLe then some ⟨3, tLeBundle, a, none⟩ else none),
     o.fault.map (fun k => ⟨4, k, a, if k = cUnmapped then o.page else none⟩),
     (o.reads.find? (fun p => x.isBad p.1 p.2)).map (fun p => ⟨5, cLoadParity, a, some p⟩)] := by
  unfold Cluster.opFails
  cases hu : x.iss.units with
  | nil => rfl
  | cons v t =>
    have hlt : ¬ o.unit ≤ v := Nat.not_le.mpr (hord v (hu ▸ List.mem_cons_self))
    simp only [hlt, decide_false, Bool.false_eq_true, if_false]

/-- Every cause of an operation: a fault of its fetch, a reserved form, FLAGS, AGEN, LEBUNDLE, or one of order 4 or 5. -/
theorem Cluster.opFails_cases {f : Fail} (h : some f ∈ x.opFails o a) : x.fetchFail a o.len = some f ∨
    (∃ k ∈ o.traps, f = ⟨3, k, a, none⟩) ∨ (∃ syl, o.flagW = true ∧ x.iss.flagAt = some syl ∧ f = ⟨3, tFlags, syl, none⟩) ∨
    (∃ g syl, o.ag = some g ∧ (g, syl) ∈ x.iss.ags ∧ f = ⟨3, tAgen, syl, none⟩) ∨
    (o.transfer = true ∧ x.atLe = true ∧ f = ⟨3, tLeBundle, a, none⟩) ∨ 4 ≤ f.order := by
  rw [Cluster.opFails_eq hord] at h
  simp only [List.mem_append, List.mem_cons, List.mem_map, List.not_mem_nil, or_false] at h
  rcases h with (h | ⟨k, hk, h⟩) | h | h | h | h | h
  · exact .inl h.symm
  · exact .inr (.inl ⟨k, hk, (Option.some.inj h).symm⟩)
  · split at h
    next hw =>
      obtain ⟨syl, hsyl, hf⟩ := Option.bind_eq_some_iff.mp h.symm
      exact .inr (.inr (.inl ⟨syl, hw, hsyl, (Option.some.inj hf).symm⟩))
    next => exact absurd h (Option.some_ne_none f)
  · obtain ⟨g, hg, h⟩ := Option.bind_eq_some_iff.mp h.symm
    obtain ⟨p, hp, hf⟩ := Option.bind_eq_some_iff.mp h
    have hpg : p.1 = g := by simpa using List.find?_some hp
    exact .inr (.inr (.inr (.inl ⟨g, p.2, hg, hpg ▸ List.mem_of_find?_eq_some hp, (Option.some.inj hf).symm⟩)))
  · split at h
    next hw =>
      obtain ⟨ht, hle⟩ := Bool.and_eq_true_iff.mp hw
      exact .inr (.inr (.inr (.inr (.inl ⟨ht, hle, Option.some.inj h⟩))))
    next => exact absurd h (Option.some_ne_none f)
  · obtain ⟨k, -, rfl⟩ := Option.map_eq_some_iff.mp h.symm
    exact .inr (.inr (.inr (.inr (.inr (Nat.le_refl 4)))))
  · obtain ⟨p, -, rfl⟩ := Option.map_eq_some_iff.mp h.symm
    exact .inr (.inr (.inr (.inr (.inr (Nat.le_succ 4)))))

end

/-- A cause of order 3 precedes one of a higher order, and one of a higher code. -/
theorem Fail.precedes_of_order {code syl : Nat} {f : Fail} (h : 4 ≤ f.order) : Fail.Precedes ⟨3, code, syl, none⟩ f := by
  have hne : 3 ≠ f.order := by omega
  constructor
  · simp [Fail.before, hne]; omega
  · simp [Fail.before, hne.symm]; omega

theorem Fail.precedes_of_code {code code' syl syl' : Nat} (h : code < code') : Fail.Precedes ⟨3, code, syl, none⟩ ⟨3, code', syl', none⟩ := by
  have hne : code ≠ code' := Nat.ne_of_lt h
  constructor
  · simp [Fail.before, h, hne]
  · simp [Fail.before, Nat.not_lt.mpr (Nat.le_of_lt h), hne.symm]

/-! ### The cause that an operation brings to its bundle -/

section
variable {s : State} {c : Nat} {g : Cluster → Op} {o : Op}

/-- What an operation issued into a bundle without a cause leaves as its first cause. -/
theorem State.issue_first {f : Fail} (hg : g (s.cluster c) = o) (hcan : s.canIssue c = true) (hgo : o.unit ∉ (s.cluster c).iss.skip)
    (hfail : (s.cluster c).iss.fail = none)
    (hmem : some f ∈ (s.cluster c).opFails o ((s.cluster c).place o.unit))
    (hl : ∀ f', some f' ∈ (s.cluster c).opFails o ((s.cluster c).place o.unit) → f' = f ∨ f.Precedes f') :
    s.issue c g = s.setCluster c ((s.issue c g).cluster c) ∧ ((s.issue c g).cluster c).iss.fail = some f := by
  have hissue : s.issue c g = s.setCluster c ((s.cluster c).issueOp o) := by
    rw [State.issue, if_pos hcan, State.updCluster_eq, hg]
  obtain ⟨i, hop, hi⟩ := Cluster.issueOp_eq hgo
  rw [hissue, State.cluster_setCluster, if_pos rfl, hop]
  refine ⟨rfl, ?_⟩
  change i.fail = some f
  rw [hi, hfail]
  exact Fail.foldl_meet_first (.inr hmem) (fun _ h => absurd h (Option.some_ne_none _).symm) hl

variable (ht : s.Takes c o.unit o.len o.flagW)
include ht

/-- The cause that a reserved form of an operation brings, where no AGEN and no LEBUNDLE comes before it. -/
theorem State.trap_first {code : Nat} (hmem : code ∈ o.traps) (hmin : ∀ k ∈ o.traps, code ≤ k)
    (hag : o.ag = none ∨ code < tAgen) (hle : code < tLeBundle ∨ (s.cluster c).atLe = false) :
    some ⟨3, code, (s.cluster c).place o.unit, none⟩ ∈ (s.cluster c).opFails o ((s.cluster c).place o.unit) ∧
    ∀ f', some f' ∈ (s.cluster c).opFails o ((s.cluster c).place o.unit) →
      f' = ⟨3, code, (s.cluster c).place o.unit, none⟩ ∨ Fail.Precedes ⟨3, code, (s.cluster c).place o.unit, none⟩ f' := by
  constructor
  · rw [Cluster.opFails_eq ht.order]
    exact List.mem_append_left _ (List.mem_append_right _ (List.mem_map.mpr ⟨code, hmem, rfl⟩))
  · intro f' hf'
    rcases Cluster.opFails_cases ht.order hf' with h | ⟨k, hk, rfl⟩ | ⟨syl, hw, hat, -⟩ | ⟨n, syl, hn, -, rfl⟩ | ⟨-, hat, rfl⟩ | h
    · exact absurd h (by rw [ht.fetch]; exact (Option.some_ne_none _).symm)
    · rcases Nat.eq_or_lt_of_le (hmin k hk) with rfl | hlt
      · exact .inl rfl
      · exact .inr (Fail.precedes_of_code hlt)
    · exact absurd hat (by rw [ht.flag hw]; exact (Option.some_ne_none _).symm)
    · rcases hag with h | h
      · exact absurd hn (by rw [h]; exact (Option.some_ne_none _).symm)
      · exact .inr (Fail.precedes_of_code h)
    · rcases hle with h | h
      · exact .inr (Fail.precedes_of_code h)
      · exact absurd hat (by rw [h]; exact Bool.false_ne_true)
    · exact .inr (Fail.precedes_of_order h)

end

theorem mem_causesOf {l : List (Bool × Nat)} {k : Nat} : k ∈ causesOf l ↔ (true, k) ∈ l := by
  simp [causesOf]

section
variable {s : State} {c : Nat} {g : Cluster → Op} {o : Op}

/-- Operation i answers the state in which its bundle holds a cause of order 3, and nothing outside the cluster changes. -/
def Brings (s : State) (c : Nat) (i : Instr) (code syl : Nat) : Prop :=
  ∃ t, exec i s = .next t ∧ t = s.setCluster c (t.cluster c) ∧ (t.cluster c).iss.fail = some ⟨3, code, syl, none⟩

variable {i : Instr} {code : Nat} (hi : exec i s = .next (s.issue c g)) (ho : g (s.cluster c) = o)
  (hfail : (s.cluster c).iss.fail = none)
include hi ho hfail

theorem brings_of_first {syl : Nat} (hcan : s.canIssue c = true) (hgo : o.unit ∉ (s.cluster c).iss.skip)
    (hmem : some ⟨3, code, syl, none⟩ ∈ (s.cluster c).opFails o ((s.cluster c).place o.unit))
    (hl : ∀ f', some f' ∈ (s.cluster c).opFails o ((s.cluster c).place o.unit) →
      f' = ⟨3, code, syl, none⟩ ∨ Fail.Precedes ⟨3, code, syl, none⟩ f') : Brings s c i code syl :=
  ⟨_, hi, State.issue_first ho hcan hgo hfail hmem hl⟩

/-- A reserved form. -/
theorem brings_trap (ht : s.Takes c o.unit o.len o.flagW) (hmem : code ∈ o.traps) (hmin : ∀ k ∈ o.traps, code ≤ k)
    (hag : o.ag = none ∨ code < tAgen) (hle : code < tLeBundle ∨ (s.cluster c).atLe = false) :
    Brings s c i code ((s.cluster c).place o.unit) :=
  have hfirst := State.trap_first ht hmem hmin hag hle
  brings_of_first hi ho hfail ht.can ht.go hfirst.1 hfirst.2

/-- A second flag writer. -/
theorem brings_flags {syl : Nat} (ht : s.Takes c o.unit o.len false) (hflag : o.flagW = true)
    (hat : (s.cluster c).iss.flagAt = some syl) (htraps : o.traps = []) (hag : o.ag = none) (htr : o.transfer = false) :
    Brings s c i tFlags syl := by
  refine brings_of_first hi ho hfail ht.can ht.go ?_ (fun f' hf' => ?_)
  · rw [Cluster.opFails_eq ht.order]
    simp [hflag, hat]
  · rcases Cluster.opFails_cases ht.order hf' with h | ⟨k, hk, -⟩ | ⟨syl', -, hat', rfl⟩ | ⟨n, _, hn, -⟩ | ⟨h, -⟩ | h
    · exact absurd h (by rw [ht.fetch]; exact (Option.some_ne_none _).symm)
    · exact absurd hk (by rw [htraps]; exact List.not_mem_nil)
    · rw [hat] at hat'
      exact .inl (by rw [Option.some.inj hat'])
    · exact absurd hn (by rw [hag]; exact (Option.some_ne_none _).symm)
    · exact absurd h (by rw [htr]; exact Bool.false_ne_true)
    · exact .inr (Fail.precedes_of_order h)

/-- A generator that the bundle has named once. -/
theorem brings_agen {n syl : Nat} (ht : s.Takes c o.unit o.len o.flagW) (hag : o.ag = some n)
    (hags : (s.cluster c).iss.ags = [(n, syl)]) (htraps : o.traps = []) (htr : o.transfer = false) :
    Brings s c i tAgen syl := by
  refine brings_of_first hi ho hfail ht.can ht.go ?_ (fun f' hf' => ?_)
  · rw [Cluster.opFails_eq ht.order]
    simp [hag, hags]
  · rcases Cluster.opFails_cases ht.order hf' with h | ⟨k, hk, -⟩ | ⟨_, hw, hat, -⟩ | ⟨_, syl', -, hmem, rfl⟩ | ⟨h, -⟩ | h
    · exact absurd h (by rw [ht.fetch]; exact (Option.some_ne_none _).symm)
    · exact absurd hk (by rw [htraps]; exact List.not_mem_nil)
    · exact absurd hat (by rw [ht.flag hw]; exact (Option.some_ne_none _).symm)
    · rw [hags, List.mem_singleton] at hmem
      exact .inl (by rw [(Prod.mk.inj hmem).2])
    · exact absurd h (by rw [htr]; exact Bool.false_ne_true)
    · exact .inr (Fail.precedes_of_order h)

/-- A transfer in the LE bundle of an active loop. -/
theorem brings_leBundle (ht : s.Takes c o.unit o.len o.flagW) (htr : o.transfer = true) (hat : (s.cluster c).atLe = true)
    (htraps : o.traps = []) (hag : o.ag = none) : Brings s c i tLeBundle ((s.cluster c).place o.unit) := by
  refine brings_of_first hi ho hfail ht.can ht.go ?_ (fun f' hf' => ?_)
  · rw [Cluster.opFails_eq ht.order]
    simp [htr, hat]
  · rcases Cluster.opFails_cases ht.order hf' with h | ⟨k, hk, -⟩ | ⟨_, hw, hflag, -⟩ | ⟨n, _, hn, -⟩ | ⟨-, -, rfl⟩ | h
    · exact absurd h (by rw [ht.fetch]; exact (Option.some_ne_none _).symm)
    · exact absurd hk (by rw [htraps]; exact List.not_mem_nil)
    · exact absurd hflag (by rw [ht.flag hw]; exact (Option.some_ne_none _).symm)
    · exact absurd hn (by rw [hag]; exact (Option.some_ne_none _).symm)
    · exact .inl rfl
    · exact .inr (Fail.precedes_of_order h)

/-- A unit that the bundle has issued already. -/
theorem brings_order (hcan : s.canIssue c = true) (hgo : o.unit ∉ (s.cluster c).iss.skip) (hunits : (s.cluster c).iss.units = [o.unit])
    (hfetch : (s.cluster c).fetchFail ((s.cluster c).place o.unit) 1 = none) :
    Brings s c i tOrder ((s.cluster c).place o.unit) := by
  have hfails : (s.cluster c).opFails o ((s.cluster c).place o.unit) =
      [none, some ⟨3, tOrder, (s.cluster c).place o.unit, none⟩] := by
    simp [Cluster.opFails, hunits, hfetch]
  refine brings_of_first hi ho hfail hcan hgo ?_ (fun f' hf' => ?_)
  · rw [hfails]; simp
  · rw [hfails] at hf'
    exact .inl (by simpa using hf')

end

/-- Settles O16. -/
theorem issueTraps : Obligations.IssueTraps := by
  unfold Obligations.IssueTraps
  intro c u f dst sa sb n dir k ag mode cc target a0 q s x a p brings hfail
  have hone {l : List (Bool × Nat)} {code : Nat} (h : ∀ e ∈ l, e.2 = code) : ∀ k ∈ causesOf l, code ≤ k :=
    fun k hk => Nat.le_of_eq (h _ (mem_causesOf.mp hk)).symm
  refine ⟨fun ht h => brings_trap (o := alu32 u f dst [(odd dst, tPair), (odd sa, tPair)] (logicRes (x.dp sa))) rfl rfl hfail ht
      ?_ (hone (by simp [tPair])) (.inl rfl) (.inl (by decide)),
    fun ht => brings_trap (g := fun x => divOp 0 f [(odd sa, tPair)] _) rfl rfl hfail ht ?_ ?_ (.inl rfl) (.inl (by decide)),
    fun ht h => brings_trap (o := alu16 u f dst [(decide (16 ≤ n.val), tField)] (lslRes (x.dr sa) n)) rfl rfl hfail ht
      ?_ (hone (by simp [tField])) (.inl rfl) (.inl (by decide)),
    fun ht h => brings_trap (o := aluOp u [(decide (2 ≤ dir.val) || decide (52 ≤ k.val), tField)] false [entD 1 u dst (x.ctl k) none])
      rfl ?_ hfail ht ?_ (hone (by simp [tField])) (.inl rfl) (.inl (by decide)),
    fun ht hat => brings_flags (o := alu16 u true dst [] (addRes (x.dr sa) (x.dr sb) false x.sat)) rfl rfl hfail ht rfl hat rfl rfl rfl,
    fun ht hags hq hbad => brings_agen (o := loadOp x 1 ag mode dst) rfl rfl hfail ht rfl hags rfl rfl,
    fun hcan hunits hskip hfetch => brings_order (o := ctlOp 1 [] false none .none) rfl rfl hfail hcan hskip hunits hfetch,
    fun ht hat => brings_leBundle (o := ctlOp 2 [] true none (if condHolds cc x.flg then .jump target.toNat else .none)) rfl rfl hfail
      ht rfl hat rfl rfl,
    fun ht hle hend => brings_trap (o := loopOp x (x.dr sa).toNat target.toNat) rfl rfl hfail ht ?_ ?_ (.inl rfl) (.inr hle),
    fun ht hle hend hnest => brings_trap (o := loopOp x (x.dr sa).toNat target.toNat) rfl rfl hfail ht ?_ ?_ (.inl rfl) (.inr hle)⟩
  · exact mem_causesOf.mpr (by rcases h with h | h <;> simp [odd, h, tPair])
  · exact mem_causesOf.mpr (List.mem_cons_self ..)
  · intro j hj
    have := mem_causesOf.mp hj
    simp [tUnit, tPair] at this ⊢
    omega
  · exact mem_causesOf.mpr (by simp [h, tField])
  · exact if_neg (by intro h0; rw [h0] at h; exact absurd h (by decide))
  · exact mem_causesOf.mpr (by simp [h, tField])
  · exact mem_causesOf.mpr (by simp [x, hend, tLoopEnd])
  · intro j hj
    have := mem_causesOf.mp hj
    simp [tLoopEnd, tNest] at this ⊢
    omega
  · exact mem_causesOf.mpr (by simp [x, hnest, tNest])
  · intro j hj
    have := mem_causesOf.mp hj
    simp [x, hend, tNest] at this ⊢
    omega

end Sys2Proof.Machine
end

section
/-!
PROOF. Proofs/ClusterCycle.lean: the end of a cycle: two accesses by one generator (R35), the return stack (R43), the declared count
(R50), and the next bundle (R42 to R46).
-/
namespace Sys2Proof.Machine

theorem eq_or_eq_of_mem_pair {α : Type} {x a b : α} (h : x ∈ [a, b]) : x = a ∨ x = b :=
  (List.mem_cons.mp h).imp id List.mem_singleton.mp

/-! ### Whether a bundle can issue -/

theorem State.canIssue_iff {s : State} {c : Nat} : s.canIssue c = true ↔
    (s.cluster c).phase = .run ∧ (s.cluster c).kill = 0 ∧ (s.cluster c).cycle ≤ s.declared c := by
  simp [State.canIssue, and_assoc]

/-- The instance on a cluster is the one that its cluster's record names. -/
theorem State.jobOn_setCluster {s : State} {k : Nat} {v : Cluster} (hv : v.job = (s.cluster k).job) (c : Nat) :
    (s.setCluster k v).jobOn c = s.jobOn c := by
  have hjob : ((s.setCluster k v).cluster c).job = (s.cluster c).job := by
    rw [State.cluster_setCluster]
    split
    next h => rw [hv, h]
    next => rfl
  simp only [State.jobOn, hjob, State.setCluster_jobs]

theorem State.declared_setCluster {s : State} {k : Nat} {v : Cluster} (hv : v.job = (s.cluster k).job) (c : Nat) :
    (s.setCluster k v).declared c = s.declared c := by
  unfold State.declared
  simp only [State.jobOn_setCluster hv, State.recOf_setCluster]

theorem State.checkedOn_setCluster {s : State} {k : Nat} {v : Cluster} (hv : v.job = (s.cluster k).job) (c : Nat) :
    (s.setCluster k v).checkedOn c = s.checkedOn c := by
  simp only [State.checkedOn, State.jobOn_setCluster hv]

@[simp] theorem State.canIssue_joined (s : State) (c unit len : Nat) (f : Bool) (g : Option Nat) (ctl : Ctl) (ents : List Entry) :
    (s.joined c unit len f g ctl ents).canIssue c = s.canIssue c := State.canIssue_setCluster s c _ _

@[simp] theorem State.checkedOn_joined (s : State) (c unit len : Nat) (f : Bool) (g : Option Nat) (ctl : Ctl) (ents : List Entry) :
    (s.joined c unit len f g ctl ents).checkedOn c = s.checkedOn c :=
  State.checkedOn_setCluster (v := (s.cluster c).joined unit len f g ctl ents) rfl c

/-- An operation that issues leaves its cluster able to issue. -/
theorem State.canIssue_issue {s : State} {c : Nat} {g : Cluster → Op} (hgo : (g (s.cluster c)).unit ∉ (s.cluster c).iss.skip) :
    (s.issue c g).canIssue c = s.canIssue c := by
  obtain ⟨i, hx, -⟩ := Cluster.issueOp_eq hgo
  unfold State.issue
  split
  · rw [State.updCluster_eq, hx, State.canIssue_setCluster]
  · rfl

/-! ### Two accesses by one generator (R35) -/

section
variable {s : State} {c ag unit : Nat} {mode : AgMode} {ents : List Entry}

theorem loadPair_eq {x : Cluster} {u r q : Nat} (hq : x.phys (1 + u) (x.ea ag).toNat = some q) (ha : (x.ea ag).toNat % 2 = 0) :
    loadPair x u ag mode r = lsOp x (4 + u) ag mode [(odd r, tPair)] false none [(1 + u, q), (1 + u, q + 1)]
      (entP 3 (4 + u) r (x.word (1 + u) (q + 1) ++ x.word (1 + u) q) none) := by
  simp [loadPair, hq, accessFault, odd_eq_false ha]

/-- An access by LSX that joins an empty bundle names its generator at the bundle's first syllable. -/
theorem State.joined_first (ht : s.Takes c 4 2 false) (hiss : (s.cluster c).iss = Issue.empty)
    (hfetch : (s.cluster c).fetchFail ((s.cluster c).pc + 2) 2 = none) :
    (s.joined c 4 2 false (some ag) .none ents).Takes c 5 2 false ∧
    ((s.joined c 4 2 false (some ag) .none ents).cluster c).iss.fail = none ∧
    ((s.joined c 4 2 false (some ag) .none ents).cluster c).iss.ags = [(ag, (s.cluster c).pc)] := by
  have hy : (s.joined c 4 2 false (some ag) .none ents).cluster c =
      { s.cluster c with
        iss := { Issue.empty with units := [4], len := 2, ags := [(ag, (s.cluster c).pc)] }, pend := (s.cluster c).pend ++ ents } := by
    simp [State.joined, Cluster.joined, hiss, Issue.empty, Cluster.place, Issue.before]
  refine ⟨⟨(State.canIssue_joined ..).trans ht.can, ?_, ?_, ?_, fun h => absurd h Bool.false_ne_true⟩, ?_, ?_⟩
  · rw [hy]; simp
  · rw [hy]; exact List.not_mem_nil
  · rw [hy]; exact hfetch
  · rw [hy]; rfl
  · rw [hy]

/-- The end of the cycle takes the trap of a generator that the bundle has named before. -/
theorem resultLands_agen {c : Fin 32} {i : Instr} {g : Cluster → Op} {syl : Nat} (hi : exec i s = .next (s.issue c g))
    (ht : s.Takes c (g (s.cluster c)).unit (g (s.cluster c)).len (g (s.cluster c)).flagW) (hfail : (s.cluster c).iss.fail = none)
    (hag : (g (s.cluster c)).ag = some ag) (hags : (s.cluster c).iss.ags = [(ag, syl)]) (htraps : (g (s.cluster c)).traps = [])
    (htr : (g (s.cluster c)).transfer = false) :
    ∃ t2, exec i s = .next t2 ∧ exec (.resultLands c) t2 = .next (t2.trapAt c tAgen syl) := by
  obtain ⟨t2, ht2, -, hfirst⟩ := brings_agen hi rfl hfail ht hag hags htraps htr
  refine ⟨t2, ht2, ?_⟩
  obtain rfl : s.issue c g = t2 := Host.Outcome.next.inj (hi.symm.trans ht2)
  rw [exec_resultLands, State.tick_eq_failAt ((State.canIssue_issue ht.go).trans ht.can) hfirst]
  rfl

end

/-- Settles O18: the access by LSX joins the bundle, and the one by LSY brings AGEN as its first cause. -/
theorem sameGeneratorTraps : Obligations.SameGeneratorTraps := by
  unfold Obligations.SameGeneratorTraps
  intro c ag m1 m2 r1 r2 q1 q2 s x even ht hiss hfetch hq1 hw1 hb1 hq2 hw2 hb2 i hi j hj
  obtain ⟨g, traps, reads, ents, hexec, hop, htraps, hreads⟩ : ∃ (g : Cluster → Op) (traps : List (Bool × Nat))
      (reads : List (Nat × Nat)) (ents : List Entry), exec i s = .next (s.issue c g) ∧
      g x = lsOp x 4 ag m1 traps false none reads ents ∧ causesOf traps = [] ∧ ∀ p ∈ reads, x.isBad p.1 p.2 = false := by
    rcases List.mem_append.mp hi with hi | hi
    · rcases eq_or_eq_of_mem_pair hi with rfl | rfl
      · exact ⟨_, _, _, _, rfl, loadOp_eq (u := 0) hq1, rfl, by simpa using hb1⟩
      · exact ⟨_, _, _, _, rfl, storeOp_eq (u := 0) hw1, rfl, by simp⟩
    · split at hi
      next he =>
        obtain ⟨⟨hr, ha⟩, hb⟩ : (r1.val % 2 = 0 ∧ (x.ea ag).toNat % 2 = 0) ∧ x.isBad 1 (q1 + 1) = false := by simpa [even] using he
        rcases eq_or_eq_of_mem_pair hi with rfl | rfl
        · exact ⟨_, _, _, _, rfl, loadPair_eq (u := 0) hq1 ha, causesOf_odd hr [], by simp [hb1, hb]⟩
        · exact ⟨_, _, _, _, rfl, storePair_eq (u := 0) hw1 ha, causesOf_odd hr [], by simp⟩
      next => exact absurd hi List.not_mem_nil
  refine ⟨s.joined c 4 2 false (some ag.val) .none _, hexec.trans (congrArg _ (State.issue_lsOp ht (by rw [State.AgFree, hiss]; simp [Issue.empty])
    htraps rfl hreads hop)), ?_⟩
  obtain ⟨ht2, hfail, hags⟩ := State.joined_first (ag := ag) (ents := ents ++ [mkEnt 1 4 (.post ag) ((x.eaNext ag m1).setWidth 40) none])
    ht hiss hfetch
  rcases List.mem_append.mp hj with hj | hj
  · rcases eq_or_eq_of_mem_pair hj with rfl | rfl
    · exact resultLands_agen (g := fun x => loadOp x 1 ag m2 r2) rfl ht2 hfail rfl hags rfl rfl
    · exact resultLands_agen (g := fun x => storeOp x 1 ag m2 [] (x.dr r2) false noFlags) rfl ht2 hfail rfl hags rfl rfl
  · split at hj
    next he =>
      obtain ⟨⟨hr, -⟩, -⟩ : (r2.val % 2 = 0 ∧ (x.ea ag).toNat % 2 = 0) ∧ x.isBad 2 (q2 + 1) = false := by simpa [even] using he
      rcases eq_or_eq_of_mem_pair hj with rfl | rfl
      · exact resultLands_agen (g := fun x => loadPair x 1 ag m2 r2) rfl ht2 hfail rfl hags (causesOf_odd hr []) rfl
      · exact resultLands_agen (g := fun x => storePair x 1 ag m2 [(odd r2, tPair)] (x.dr r2) (x.dr (r2 + 1)) false noFlags) rfl ht2
          hfail rfl hags (causesOf_odd hr []) rfl
    next => exact absurd hj List.not_mem_nil

/-! ### What landing keeps -/

/-- Cluster y differs from x in its registers, its data memories, the signature and the results in flight alone. -/
def Cluster.SameCourse (x y : Cluster) : Prop :=
  y = { x with d := y.d, acc := y.acc, cr := y.cr, crUse := y.crUse, x := y.x, y := y.y, bad := y.bad, sig := y.sig, pend := y.pend }

namespace Cluster.SameCourse

theorem trans {x y z : Cluster} (hxy : x.SameCourse y) (hyz : y.SameCourse z) : x.SameCourse z := by
  unfold Cluster.SameCourse at *
  rw [hyz, hxy]

variable {x y : Cluster} (h : x.SameCourse y)
include h

theorem pc : y.pc = x.pc := by rw [h]
theorem phase : y.phase = x.phase := by rw [h]
theorem loops : y.loops = x.loops := by rw [h]
theorem rs : y.rs = x.rs := by rw [h]
theorem depth : y.depth = x.depth := by rw [h]
theorem maps : y.maps = x.maps := by rw [h]
theorem job : y.job = x.job := by rw [h]
theorem kill : y.kill = x.kill := by rw [h]

end Cluster.SameCourse

theorem Cluster.setWord_sameCourse (x : Cluster) (a : Nat) (v : W16) :
    x.SameCourse (x.setWord 1 a v) ∧ x.SameCourse (x.setWord 2 a v) := ⟨rfl, rfl⟩

theorem Cluster.put_sameCourse (sign : Bool) (x : Cluster) (e : Entry) : x.SameCourse (x.put sign e) := by
  unfold Cluster.put
  rcases e.dest with _ | n | n | n | n | n | ⟨p, a⟩ | ⟨p, a⟩
  case cr => dsimp only; split <;> rfl
  case xst => cases sign <;> rfl
  case yst => cases sign <;> rfl
  all_goals rfl

theorem Cluster.landFlg_sameCourse (x : Cluster) (es : List Entry) : x.SameCourse (x.landFlg es) := by
  unfold Cluster.landFlg
  dsimp only
  split <;> rfl

/-- Landing keeps the course of the cluster. -/
theorem Cluster.land_sameCourse (x : Cluster) (sign : Bool) : x.SameCourse (x.land sign) := by
  have hfold (l : List Entry) (y : Cluster) : y.SameCourse (l.foldl (Cluster.put sign) y) := by
    induction l generalizing y with
    | nil => rfl
    | cons e l ih => exact (Cluster.put_sameCourse sign y e).trans (ih _)
  unfold Cluster.land
  refine .trans (.trans (.trans ?_ (hfold _ _)) (Cluster.landFlg_sameCourse _ _)) rfl
  rfl

/-- Only a Checked instance signs its stores (R139). -/
theorem Cluster.land_sig (x : Cluster) : (x.land false).sig = x.sig := by
  have hput (y : Cluster) (e : Entry) : (y.put false e).sig = y.sig := by
    unfold Cluster.put
    rcases e.dest with _ | n | n | n | n | n | ⟨p, a⟩ | ⟨p, a⟩
    case cr => dsimp only; split <;> rfl
    all_goals rfl
  have hfold (l : List Entry) (y : Cluster) : (l.foldl (Cluster.put false) y).sig = y.sig := by
    induction l generalizing y with
    | nil => rfl
    | cons e l ih => exact (ih _).trans (hput y e)
  have hflg (y : Cluster) (es : List Entry) : (y.landFlg es).sig = y.sig := by
    unfold Cluster.landFlg
    dsimp only
    split <;> rfl
  exact (hflg _ _).trans (hfold _ _)

/-! ### The end of a cycle in which a bundle has issued -/

theorem Cluster.hwSet_job (x : Cluster) (n : Nat) (v : W16) : (x.hwSet n v).job = x.job := rfl

theorem Cluster.advance_job (y x : Cluster) : (y.advance x).job = y.job := by
  unfold Cluster.advance
  dsimp only
  (repeat' split) <;> rfl

/-- A transfer leaves the instance on its cluster. -/
theorem Cluster.transfer_job (y x : Cluster) : (y.transfer x).job = y.job := by
  unfold Cluster.transfer
  rcases x.iss.ctl with _ | t | t | t | ⟨n, le⟩ | le | _
  case none => exact Cluster.advance_job y x
  case skip => dsimp only; split <;> rfl
  case loop => simp only [Cluster.hwSet_job]
  all_goals rfl

/-- A cluster that is not one of a Checked pair has no partner to judge it. -/
theorem State.judge_eq_self {s : State} {c : Nat} (hchk : s.checkedOn c = false) (n : Nat) : s.judge c n = s := by
  simp [State.judge, hchk]

section
variable {s : State} {c : Nat} (hcan : s.canIssue c = true) (hfail : (s.cluster c).iss.fail = none)
  (hunits : (s.cluster c).iss.units ≠ []) (hchk : s.checkedOn c = false)
include hcan hfail hunits

theorem State.tick_eq_issuedCycle : s.tick c = s.issuedCycle c := by
  obtain ⟨hphase, hkill, hcycle⟩ := State.canIssue_iff.mp hcan
  simp [State.tick, hphase, hkill, hfail, Nat.not_lt.mpr hcycle, hunits]

include hchk

/-- Without END the results land and the transfer of the bundle acts. -/
theorem State.tick_transfer (hctl : (s.cluster c).iss.ctl ≠ .stop) : s.tick c = s.setCluster c
    { ((s.cluster c).land false).transfer (s.cluster c) with cycle := (s.cluster c).cycle + 1, iss := Issue.empty } := by
  rw [State.tick_eq_issuedCycle hcan hfail hunits, State.issuedCycle, if_neg hctl, hchk]
  have hjob : (((s.cluster c).land false).transfer (s.cluster c)).job = (s.cluster c).job :=
    (Cluster.transfer_job _ _).trans (Cluster.land_sameCourse _ _).job
  exact State.judge_eq_self ((State.checkedOn_setCluster (v := { ((s.cluster c).land false).transfer (s.cluster c) with
    cycle := (s.cluster c).cycle + 1, iss := Issue.empty }) hjob c).trans hchk) _

/-- With END the instance has ended, or its stores drain (R49). -/
theorem State.tick_stop (hctl : (s.cluster c).iss.ctl = .stop) : ∃ y : Cluster, s.tick c = s.setCluster c y ∧
    (y.phase = .ended ∨ y.phase = .drain) := by
  rw [State.tick_eq_issuedCycle hcan hfail hunits, State.issuedCycle, if_pos hctl, State.endCycle, hchk]
  refine ⟨_, rfl, ?_⟩
  dsimp only
  split <;> simp

end

/-! ### The declared count (R50) -/

/-- A cluster whose declared count is exceeded issues nothing. -/
theorem State.issue_over {s : State} {c : Nat} (hover : s.declared c < (s.cluster c).cycle) (g : Cluster → Op) : s.issue c g = s := by
  have hcan : s.canIssue c = false := Bool.eq_false_iff.mpr (fun h => Nat.not_lt.mpr (State.canIssue_iff.mp h).2.2 hover)
  simp [State.issue, hcan]

/-- Settles O20: past the declared count nothing can issue, and END at it ends the instance. -/
theorem overrun : Obligations.Overrun := by
  unfold Obligations.Overrun
  intro c u f dst sa sb s x hphase
  refine ⟨fun hover => ?_, fun hcycle ht hiss hkill hchk => ?_⟩
  · have hlt : s.declared c < x.cycle := by omega
    refine ⟨congrArg _ (State.issue_over hlt _), congrArg _ (State.issue_over hlt _), congrArg Host.Outcome.next ?_, (exec_resultLands c s).trans (congrArg _ ?_)⟩
    · exact if_pos (Bool.and_eq_true_iff.mpr ⟨decide_eq_true hphase, decide_eq_true hlt⟩)
    · simp [State.tick, hphase, hlt, x]
  · refine ⟨s.joined c 7 1 false none .stop [], congrArg _ (State.issue_ctlOp ht rfl (fun h => absurd h Bool.false_ne_true) rfl), rfl, ?_⟩
    have hy : ((s.joined c 7 1 false none .stop []).cluster c).iss = { Issue.empty with units := [7], len := 1, ctl := .stop } := by
      simp [State.joined, Cluster.joined, hiss, x, Issue.empty]
    obtain ⟨y, hend, hended⟩ := State.tick_stop (s := s.joined c 7 1 false none .stop []) (c := c) ((State.canIssue_joined ..).trans ht.can)
      (by rw [hy]; rfl) (by rw [hy]; exact List.cons_ne_nil _ _) ((State.checkedOn_joined ..).trans hchk) (by rw [hy])
    refine ⟨_, (exec_resultLands c _).trans (congrArg _ hend), ?_⟩
    simpa [State.joined] using hended

/-! ### The return stack (R43) -/

section
variable {c : Fin 32} {s : State} {i : Instr} {g : Cluster → Op} {len : Nat}

/-- A transfer of CTL that is alone in its bundle acts at the end of the cycle. -/
theorem transfer_alone {ctl : Ctl} (hi : exec i s = .next (s.issue c g)) (hg : g (s.cluster c) = ctlOp len [] true none ctl)
    (ht : s.Takes c 7 len false) (hiss : (s.cluster c).iss = Issue.empty) (hle : (s.cluster c).atLe = false)
    (hchk : s.checkedOn c = false) (hctl : ctl ≠ .none) (hstop : ctl ≠ .stop) :
    ∃ t x y, exec i s = .next t ∧ t = { s with clusters := t.clusters } ∧ x.SameCourse y ∧
      x = (s.cluster c).joined 7 len false none ctl [] ∧ ∃ t2, exec (.resultLands c) t = .next t2 ∧
      t2.cluster c = { y.transfer x with cycle := x.cycle + 1, iss := Issue.empty } := by
  have hjoin := State.issue_ctlOp (traps := []) ht rfl (fun _ => hle) hg
  refine ⟨s.joined c 7 len false none ctl [], _, _, hi.trans (congrArg _ hjoin), rfl, Cluster.land_sameCourse _ false, rfl, ?_⟩
  have hx : (s.joined c 7 len false none ctl []).cluster c = (s.cluster c).joined 7 len false none ctl [] := by simp [State.joined]
  have hy : ((s.cluster c).joined 7 len false none ctl []).iss = { Issue.empty with units := [7], len := len, ctl := ctl } := by
    simp [Cluster.joined, hiss, Issue.empty, hctl]
  have hend := State.tick_transfer (s := s.joined c 7 len false none ctl []) (c := c) ((State.canIssue_joined ..).trans ht.can)
    (by rw [hx, hy]; rfl) (by rw [hx, hy]; exact List.cons_ne_nil _ _) ((State.checkedOn_joined ..).trans hchk)
    (by rw [hx, hy]; exact hstop)
  refine ⟨_, (exec_resultLands c _).trans (congrArg _ hend), ?_⟩
  rw [State.cluster_setCluster, if_pos rfl, hx]

/-- A transfer of CTL that the return stack stops. -/
theorem rstack_faults {ctl : Ctl} (hi : exec i s = .next (s.issue c g)) (hg : g (s.cluster c) = ctlOp len [] true (some cRstack) ctl)
    (ht : s.Takes c 7 len false) (hiss : (s.cluster c).iss = Issue.empty) (hle : (s.cluster c).atLe = false) :
    ∃ t, exec i s = .next t ∧ exec (.resultLands c) t = State.faulting t c cRstack :=
  ⟨_, hi, State.resultLands_issue_fault hg ht (by rw [hiss]; rfl)
    ⟨rfl, fun _ h => absurd h (Option.some_ne_none _).symm, fun _ => hle, rfl, fun _ h => absurd h List.not_mem_nil⟩ rfl (by decide)⟩

end

/-- Settles O19. -/
theorem returnStack : Obligations.ReturnStack := by
  unfold Obligations.ReturnStack
  intro c target s x hchk hiss hle
  refine ⟨fun ht => ⟨fun hd => ?_, fun hd => rstack_faults (ctl := .call target.toNat) (g := fun x => ctlOp 2 [] true
      (if 8 ≤ x.depth then some cRstack else none) (.call target.toNat)) rfl (by simp only [x] at hd; simp [hd]) ht hiss hle⟩,
    fun ht => ⟨fun hd => ?_, fun hd => rstack_faults (ctl := .ret (Tab.get (fun _ => 0) x.rs (x.depth - 1)).toNat)
      (g := fun x => ctlOp 1 [] true (if x.depth = 0 then some cRstack else none) (.ret (Tab.get (fun _ => 0) x.rs (x.depth - 1)).toNat))
      rfl (by simp only [x] at hd; simp [hd, x]) ht hiss hle⟩⟩
  · obtain ⟨t, z, y, hi, hframe, hcourse, hz, t2, ht2, hy2⟩ := transfer_alone (ctl := .call target.toNat) (i := .call c target)
      (g := fun x => ctlOp 2 [] true (if 8 ≤ x.depth then some cRstack else none) (.call target.toNat)) rfl
      (by simp only [x] at hd; simp [Nat.not_le.mpr hd]) ht hiss hle hchk (by simp) (by simp)
    refine ⟨t, hi, hframe, t2, ht2, ?_⟩
    have hctl : z.iss.ctl = .call target.toNat := by rw [hz]; rfl
    have hnext : z.pc + z.iss.total = x.pc + 2 := by
      rw [hz]
      simp [Cluster.joined, Issue.total, Issue.before, hiss, x, Issue.empty]
    simp only [hy2, Cluster.transfer, hctl, hnext]
    have hdepth : y.depth = x.depth := hcourse.depth.trans (by rw [hz]; rfl)
    simp [hdepth]
  · obtain ⟨t, z, y, hi, hframe, hcourse, hz, t2, ht2, hy2⟩ := transfer_alone (i := .ret c)
      (ctl := .ret (Tab.get (fun _ => 0) x.rs (x.depth - 1)).toNat)
      (g := fun x => ctlOp 1 [] true (if x.depth = 0 then some cRstack else none) (.ret (Tab.get (fun _ => 0) x.rs (x.depth - 1)).toNat))
      rfl (by simp only [x] at hd; simp [Nat.ne_of_gt hd, x]) ht hiss hle hchk (by simp) (by simp)
    refine ⟨t, hi, hframe, t2, ht2, ?_⟩
    have hctl : z.iss.ctl = .ret (Tab.get (fun _ => 0) x.rs (x.depth - 1)).toNat := by rw [hz]; rfl
    simp only [hy2, Cluster.transfer, hctl]
    have hdepth : y.depth = x.depth := hcourse.depth.trans (by rw [hz]; rfl)
    simp [hdepth]

/-! ### The bundle that follows (R42, R44, R45) -/

/-- FPF after landing takes no part of what other operations read (R28). -/
theorem Cluster.landFpf_ctl (x : Cluster) (es : List Entry) {n : Nat} (hn : n ≠ 45) : (x.landFpf es).ctl n = x.ctl n := by
  simp [Cluster.landFpf, Cluster.setCtl, Cluster.ctl, hn]

/-- A result for a D register that is due and alone lands there. -/
theorem Cluster.land_entD {x : Cluster} {u n : Nat} {v : W16} (hp : x.pend = [entD 1 u n v none]) :
    x.land false = (({ x with pend := [] } : Cluster).setD n v).landFpf [entD 1 u n v none] := by
  simp [Cluster.land, hp, byUnit, insertUnit, entD, mkEnt, Entry.explicitUse, Entry.toUse, Cluster.put, Cluster.landFlg]
  rfl

/-- An accumulator result that is not due counts down. -/
theorem Cluster.land_later {x : Cluster} {u due k : Nat} {v : W40} (hdue : 1 < due) (hp : x.pend = [mkEnt due u (.acc k) v none]) :
    x.land false = ({ x with pend := [{ mkEnt (due - 1) u (.acc k) v none with fresh := false }] } : Cluster).landFpf [] := by
  simp [Cluster.land, hp, byUnit, mkEnt, Cluster.landFlg, hdue, Nat.not_le.mpr hdue]

/-- Without results in flight, FPF alone is written again. -/
theorem Cluster.land_nil {x : Cluster} (hp : x.pend = []) : x.land false = x.landFpf [] := by
  have hx : ({ x with pend := [] } : Cluster) = x := by rw [← hp]
  simp [Cluster.land, hp, byUnit, Cluster.landFlg, hx]

/-- Outside loops the next bundle in sequence follows. -/
theorem Cluster.transfer_sequence {x : Cluster} (y : Cluster) (hctl : x.iss.ctl = .none) (hloops : x.loops = 0) :
    y.transfer x = { y with pc := x.pc + x.iss.total } := by
  simp [Cluster.transfer, hctl, Cluster.advance, hloops]

theorem Cluster.transfer_jump {x : Cluster} (y : Cluster) {target : Nat} (hctl : x.iss.ctl = .jump target) :
    y.transfer x = y.jump x target := by
  simp only [Cluster.transfer, hctl]

/-- At the LE bundle of the innermost loop, a count above 1 falls and the body starts again. -/
theorem Cluster.transfer_again {x : Cluster} (y : Cluster) (hctl : x.iss.ctl = .none) (hloops : 0 < x.loops)
    (hle : (x.ctlUse (36 + (x.loops - 1))).toNat = x.pc) (hlc : 1 < (x.ctlUse (40 + (x.loops - 1))).toNat) :
    y.transfer x = { y.hwSet (40 + (x.loops - 1)) (x.ctlUse (40 + (x.loops - 1)) - 1) with
      pc := (x.ctlUse (32 + (x.loops - 1))).toNat } := by
  simp [Cluster.transfer, hctl, Cluster.advance, hloops, hle, hlc]

/-- At a count of at most 1 the loop ends. -/
theorem Cluster.transfer_loopEnd {x : Cluster} (y : Cluster) (hctl : x.iss.ctl = .none) (hloops : 0 < x.loops)
    (hle : (x.ctlUse (36 + (x.loops - 1))).toNat = x.pc) (hlc : ¬ 1 < (x.ctlUse (40 + (x.loops - 1))).toNat) :
    y.transfer x = { y.hwSet (40 + (x.loops - 1)) 0 with loops := x.loops - 1, pc := x.pc + x.iss.total } := by
  simp [Cluster.transfer, hctl, Cluster.advance, hloops, hle, hlc]

/-- LC keeps all 16 bits that the loop hardware writes (R28). -/
theorem Cluster.hwSet_lc (x : Cluster) {n : Nat} (h40 : 40 ≤ n) (h43 : n < 44) (v : W16) : (x.hwSet n v).ctl n = v := by
  have hkeep : crKeep n v = v := by
    unfold crKeep
    rw [if_neg (by omega), if_neg (by omega), if_neg (by omega), if_neg (by omega)]
  simp [Cluster.hwSet, Cluster.setCtl, Cluster.setCtlUse, Cluster.ctl, hkeep]

/-- A killed cycle: results land, and it counts (R42). -/
theorem State.tick_killed {s : State} {c : Nat} (hphase : (s.cluster c).phase = .run) (hkill : 0 < (s.cluster c).kill)
    (hcycle : (s.cluster c).cycle ≤ s.declared c) (hpc : (s.cluster c).pc < skipMark) (hchk : s.checkedOn c = false) :
    s.tick c = s.setCluster c { (s.cluster c).land false with
      kill := (s.cluster c).kill - 1, cycle := (s.cluster c).cycle + 1 } := by
  have hjob : ((s.cluster c).land false).job = (s.cluster c).job := (Cluster.land_sameCourse _ _).job
  simp only [State.tick, hphase, Nat.not_lt.mpr hcycle, hkill, if_true, if_false, State.killedCycle, Nat.not_le.mpr hpc, decide_false,
    Bool.and_false, Bool.false_and, hchk, Bool.false_eq_true]
  exact State.judge_eq_self ((State.checkedOn_setCluster (v := { (s.cluster c).land false with
    kill := (s.cluster c).kill - 1, cycle := (s.cluster c).cycle + 1 }) hjob c).trans hchk) _

/-- The bundle of a cluster outside every branch shadow can issue. -/
theorem State.canIssue_of {s : State} {c : Nat} (hphase : (s.cluster c).phase = .run) (hcycle : (s.cluster c).cycle ≤ s.declared c)
    (hkill : (s.cluster c).kill = 0) : s.canIssue c = true := State.canIssue_iff.mpr ⟨hphase, hkill, hcycle⟩

/-- A taken branch leaves two killed cycles, in which nothing issues and which count (R42). -/
theorem jump_shadow {c : Fin 32} {s t : State} {y : Cluster} {target n : Nat} (ht : t = s.setCluster c y) (hjob : y.job = (s.cluster c).job)
    (hphase : y.phase = .run) (hpc : y.pc = target) (hkill : y.kill = 2) (hcycle : y.cycle = n) (hdecl : n + 1 ≤ s.declared c)
    (hchk : s.checkedOn c = false) (htarget : target < 0x4000) :
    ∃ t2, exec (.resultLands c) t = .next t2 ∧ ∃ t3, exec (.resultLands c) t2 = .next t3 ∧
      (t3.cluster c).pc = target ∧ (t3.cluster c).kill = 0 ∧ (t3.cluster c).cycle = n + 2 := by
  have hmark : target < skipMark := Nat.lt_trans htarget (by decide)
  have hy : t.cluster c = y := by rw [ht]; simp
  have hland := Cluster.land_sameCourse y false
  have htick : t.tick c = s.setCluster c { y.land false with kill := 1, cycle := n + 1 } := by
    rw [State.tick_killed (by rw [hy, hphase]) (by rw [hy, hkill]; decide)
      (by rw [hy, hcycle, ht, State.declared_setCluster hjob]; omega) (by rw [hy, hpc]; exact hmark)
      (by rw [ht, State.checkedOn_setCluster hjob, hchk]), hy, hkill, hcycle, ht, State.setCluster_setCluster]
  have hz : (s.setCluster c { y.land false with kill := 1, cycle := n + 1 }).cluster c =
      { y.land false with kill := 1, cycle := n + 1 } := by simp
  have hjob2 : ({ y.land false with kill := 1, cycle := n + 1 } : Cluster).job = (s.cluster c).job := hland.job.trans hjob
  refine ⟨_, (exec_resultLands c t).trans (congrArg _ htick), _, (exec_resultLands c _).trans (congrArg _ (State.tick_killed ?_ ?_ ?_ ?_ ?_)), ?_⟩
  · rw [hz]; exact hland.phase.trans hphase
  · rw [hz]; exact Nat.one_pos
  · rw [hz, State.declared_setCluster hjob2]; exact hdecl
  · rw [hz]; exact lt_of_eq_of_lt (hland.pc.trans hpc) hmark
  · rw [State.checkedOn_setCluster hjob2, hchk]
  · rw [hz]
    simp [(Cluster.land_sameCourse _ false).pc, hpc]

/-- Settles O21. -/
theorem bundleSequence : Obligations.BundleSequence := by
  unfold Obligations.BundleSequence
  refine ⟨fun c n k u due v s => ?_, fun c u f dst sa sb target s => ?_, fun c s => ?_⟩
  · intro x hphase hcycle hkill hfail hunits hctl hloops hchk
    have hend := State.tick_transfer (State.canIssue_of hphase hcycle hkill) hfail hunits hchk
      (by rw [show (s.cluster c).iss.ctl = .none from hctl]; simp)
    rw [Cluster.transfer_sequence _ hctl hloops] at hend
    have hland := Cluster.land_sameCourse x false
    refine ⟨_, (exec_resultLands c s).trans (congrArg _ hend), by simp, ?_⟩
    rw [State.cluster_setCluster, if_pos rfl]
    refine ⟨rfl, rfl, rfl, hland.phase.trans hphase, hland.loops.trans hloops, hland.rs, hland.depth, hland.maps, Cluster.land_sig x,
      fun hp => ?_, fun hdue hp => ?_⟩
    · rw [Cluster.land_entD hp]
      have hctl (m : Nat) (hm : m ≠ 45) : ((({ x with pend := [] } : Cluster).setD n v).landFpf [entD 1 u n v none]).ctl m = x.ctl m :=
        Cluster.landFpf_ctl _ _ hm
      refine ⟨?_, rfl, fun m hm => ?_, fun m => rfl, hctl 44 (by decide), rfl, rfl⟩
      · exact (Tab.get_set _ x.d n n v).trans (if_pos rfl)
      · exact (Tab.get_set _ x.d n m v).trans (if_neg hm)
    · rw [Cluster.land_later hdue hp]
      exact ⟨rfl, fun m => rfl⟩
  · intro x hphase hcycle hkill hfail hunits hctl hchk htarget
    have hend := State.tick_transfer (State.canIssue_of hphase (Nat.le_of_add_right_le hcycle) hkill) hfail hunits hchk
      (by rw [show (s.cluster c).iss.ctl = .jump target from hctl]; simp)
    rw [Cluster.transfer_jump _ hctl] at hend
    have hland := Cluster.land_sameCourse x false
    refine ⟨_, (exec_resultLands c s).trans (congrArg _ hend), rfl, ?_⟩
    have hy : (s.tick c).cluster c = { (x.land false).jump x target with cycle := x.cycle + 1, iss := Issue.empty } := by
      rw [hend, State.cluster_setCluster, if_pos rfl]
    rw [← hend]
    refine ⟨by rw [hy]; rfl, by rw [hy]; rfl, by rw [hy]; rfl, ?_, jump_shadow hend hland.job (hland.phase.trans hphase) rfl rfl rfl
      hcycle hchk htarget⟩
    have hcan : (s.tick c).canIssue c = false :=
      Bool.eq_false_iff.mpr (fun h => absurd (State.canIssue_iff.mp h).2.1 (by rw [hy]; exact (Nat.succ_ne_zero 1)))
    exact congrArg Host.Outcome.next (by simp [State.issue, hcan])
  · intro x top hphase hcycle hkill hfail hunits hctl hloops hmax hle hchk hp
    have hend := State.tick_transfer (State.canIssue_of hphase hcycle hkill) hfail hunits hchk
      (by rw [show (s.cluster c).iss.ctl = .none from hctl]; simp)
    have hland := Cluster.land_sameCourse x false
    refine ⟨_, (exec_resultLands c s).trans (congrArg _ hend), rfl, ?_⟩
    rw [State.cluster_setCluster, if_pos rfl]
    refine ⟨rfl, fun hlc => ?_, fun hlc => ?_⟩
    · rw [Cluster.transfer_again _ hctl hloops hle hlc]
      exact ⟨rfl, hland.loops, Cluster.hwSet_lc _ (by omega) (by omega) _⟩
    · rw [Cluster.transfer_loopEnd _ hctl hloops hle (Nat.not_lt.mpr hlc)]
      exact ⟨rfl, rfl, Cluster.hwSet_lc _ (by omega) (by omega) _⟩

end Sys2Proof.Machine
end

section
/-!
PROOF. Proofs/FaultCount.lean: the fault count of a cluster stops at 255 (R143).
-/
namespace Sys2Proof.Machine

/-- An instance that holds on cluster 2, of a best-effort tasklet without inputs. -/
def heldJob : Job :=
  { t := 2, seq := 7, cyc := 1, nominal := 5, deadline := 100, pins := [], hdr := [], gen := 0, host := false, img := 0, cl := 2,
    checked := false, guaranteed := false, deferred := false, active := true, late := false, noFrame := false, replay := false,
    newBufs := [] }

/-- Cluster 2 holds, and 255 faults have been counted on it. -/
def faultCountFull : State :=
  { State.reset.setReg (.clusterFaults 2) 255 with
    clusters := [(2, { Cluster.reset with phase := .held, job := some ⟨2, 7, false⟩ })], jobs := [heldJob] }

/-- The fault count of cluster 2 after an answer. -/
def faultCount : Answer → W32
  | .next t => t.reg (.clusterFaults 2)
  | _ => 0

/-- Refutes O23: at 255 the count of the cluster's faults stays (`State.chargeFault`), and the statement has it rise. -/
theorem not_faultReport : ¬ Obligations.FaultReport := by
  unfold Obligations.FaultReport
  rintro ⟨hreport, _⟩
  obtain ⟨t, ht, _, _, _, _, _, _, _, _, hcount, _⟩ := hreport 2 heldJob faultCountFull (by decide) rfl (by decide) rfl (by decide) rfl rfl
    (by decide) (by decide) (fun _ => rfl) (by decide)
  have hstays : faultCount (exec (.emulationTimeout 2) faultCountFull) = 255 := by decide +kernel
  have hfull : faultCountFull.reg (.clusterFaults ((2 : Fin 32) : Nat)) = 255 := by decide
  rw [ht, show faultCount (.next t) = t.reg (.clusterFaults ((2 : Fin 32) : Nat)) from rfl, hcount, hfull] at hstays
  exact absurd hstays (by decide)

end Sys2Proof.Machine
end

section
/-!
PROOF. Proofs/TrapsAndHolds.lean: a trap is taken, and the hold that follows ends (R51, R74 to R78).
-/
namespace Sys2Proof.Machine

/-! ### A trap is taken -/

/-- A raise leaves where a source goes. -/
theorem State.tgt_raise (s : State) (i j : Nat) : ((s.raise i).src j).tgt = (s.src j).tgt := by
  have hedge (s : State) (i j : Nat) : ((s.edge i).src j).tgt = (s.src j).tgt := by
    rw [State.src_edge]
    split
    next h => rw [h]
    next => rfl
  unfold State.raise State.undeliverable
  dsimp only
  repeat' split
  · exact hedge s i j
  · refine (hedge _ 491 j).trans ?_
    simp only [State.bump_eq, State.src_setReg, State.updSrc_eq, State.src_setSrc]
    split
    next h => rw [h, hedge]
    next => exact hedge s i j
  · exact hedge s i j

/-- EMU_CTL lies apart from the counters of an edge. -/
theorem emuCtl_clearOf (c : Fin 32) : Reg.emuCtl.clearOf (4 * c + 1) := by
  have hc := c.isLt
  refine ⟨?_, ?_, ?_, ?_⟩ <;> simp [Reg.off] <;> omega

theorem State.checkedOn_raise (s : State) (i c : Nat) : (s.raise i).checkedOn c = s.checkedOn c := by
  simp [State.checkedOn, State.jobOn]

/-! ### The end of a hold -/

/-- The two bytes of TRAP_RESUME that start a held bundle again. -/
theorem writeResume_go (s : State) (c : Nat) (skip : Byte) :
    s.writeResume c (0x100 + skip.toNat) = s.resumeGo c ⟨skip, none⟩ := by
  have hlt : skip.toNat < 256 := skip.isLt
  have h9 : nbit (0x100 + skip.toNat) 9 = false := by simp [nbit, Nat.testBit_eq_decide_div_mod_eq]; omega
  have h8 : nbit (0x100 + skip.toNat) 8 = true := by simp [nbit, Nat.testBit_eq_decide_div_mod_eq]; omega
  have h10 : nbit (0x100 + skip.toNat) 10 = false := by simp [nbit, Nat.testBit_eq_decide_div_mod_eq]; omega
  have hb : BitVec.ofNat 8 (0x100 + skip.toNat) = skip := BitVec.eq_of_toNat_eq (by simp [hlt])
  simp [State.writeResume, h9, h8, h10, hb]

theorem writeResume_redirect (s : State) (c : Nat) (skip : Byte) :
    s.writeResume c (0x500 + skip.toNat) = s.resumeGo c ⟨skip, some (s.cluster c).trapTarget⟩ := by
  have hlt : skip.toNat < 256 := skip.isLt
  have h9 : nbit (0x500 + skip.toNat) 9 = false := by simp [nbit, Nat.testBit_eq_decide_div_mod_eq]; omega
  have h8 : nbit (0x500 + skip.toNat) 8 = true := by simp [nbit, Nat.testBit_eq_decide_div_mod_eq]; omega
  have h10 : nbit (0x500 + skip.toNat) 10 = true := by simp [nbit, Nat.testBit_eq_decide_div_mod_eq]; omega
  have hb : BitVec.ofNat 8 (0x500 + skip.toNat) = skip := BitVec.eq_of_toNat_eq (by simp; omega)
  simp [State.writeResume, h9, h8, h10, hb]

/-- The units of a re-issue with REDIRECT: the CTL operation is skipped as well. -/
theorem addNew_skipUnits (skip : Byte) : addNew (skipUnits skip) 7 =
    if skip.getLsbD 7 then (List.range 8).filter (fun n => skip.getLsbD n) else (List.range 8).filter (fun n => skip.getLsbD n) ++ [7] := by
  have hmem : (skipUnits skip).contains 7 = skip.getLsbD 7 := by
    rw [List.contains_eq_mem, Bool.eq_iff_iff]
    simp [skipUnits, bit]
  simp only [addNew, hmem]
  rfl

section
variable {s : State} {c : Nat} {r : Resume}

/-- A cluster that is not held does not resume. -/
theorem State.resumeGo_off (h : (s.cluster c).phase ≠ .held) : s.resumeGo c r = s := by simp [State.resumeGo, h]

/-- A held cluster without a partner re-issues its bundle at once. -/
theorem State.resumeGo_held (h : (s.cluster c).phase = .held) (hchk : s.checkedOn c = false) : s.resumeGo c r = s.reissue c r := by
  simp [State.resumeGo, h, hchk]

end

/-- Settles O22: TRAP acts on the cause that the bundle holds, and a hold ends by what TRAP_RESUME says. -/
theorem trapsAndHolds : Obligations.TrapsAndHolds := by
  unfold Obligations.TrapsAndHolds
  refine ⟨fun c code syl s => ?_, fun c skip s => ?_⟩
  · intro x held s1 hcan hfail hunits hchk
    have htrap : exec (.trap c) s = .next (s.trapAt c code syl) := by
      refine congrArg Host.Outcome.next (if_pos hcan |>.trans ?_)
      rw [show (s.cluster c).iss.fail = some ⟨3, code, syl, none⟩ from hfail,
        show (s.cluster c).iss.units.isEmpty = false from List.isEmpty_eq_false_iff.mpr hunits]
      rfl
    have hhold : s1.canHold c = held := by
      simp only [State.canHold, s1, State.updCluster_eq, State.tgt_raise, State.src_setCluster, State.reg_raise _ _ (emuCtl_clearOf c),
        State.reg_setCluster]
      rw [State.raise_frame]
      rfl
    have hchk1 : s1.checkedOn c = false := by
      rw [State.checkedOn_raise, State.updCluster_eq, State.checkedOn_setCluster (by rfl), hchk]
    have hpend : (s1.src (4 * c + 1)).pend = true := State.pend_raise _ _
    have hy : s1.cluster c = { x.dropFresh with trapCause := code, trapBundle := x.pc, trapSyl := syl, trapCycle := x.cycle } := by
      simp [s1, x]
    refine ⟨fun h => ?_, fun h => ?_⟩
    · refine ⟨s1.setCluster c { s1.cluster c with phase := .held, resume := none, plist := (s1.cluster c).showList }, htrap.trans (congrArg _ ?_), ?_⟩
      · change (if s1.canHold c then s1.hold c else s1.instFault c cTrap) = _
        rw [hhold, h, if_pos rfl, State.hold, hchk1]
        rfl
      · rw [State.cluster_setCluster, if_pos rfl]
        refine ⟨rfl, (congrArg Src.pend (State.src_setCluster ..)).trans hpend, ?_⟩
        rw [hy]
        exact ⟨rfl, rfl, rfl, rfl, rfl, rfl, rfl, rfl⟩
    · refine htrap.trans (congrArg _ ?_)
      change (if s1.canHold c then s1.hold c else s1.instFault c cTrap) = _
      rw [hhold, h]
      rfl
  · intro x units b again
    have hgo : exec (.trapResumeGo c skip) s = .next (s.resumeGo c ⟨skip, none⟩) := congrArg Host.Outcome.next (writeResume_go s c skip)
    have hred : exec (.trapResumeRedirect c skip) s = .next (s.resumeGo c ⟨skip, some x.trapTarget⟩) :=
      congrArg Host.Outcome.next (writeResume_redirect s c skip)
    have hfail : exec (.trapResumeFail c) s = .next (s.resumeFail c) := rfl
    have htime : exec (.emulationTimeout c) s = .next (s.resumeFail c) := rfl
    refine ⟨fun hoff => ?_, fun hheld hchk => ?_⟩
    · rw [hgo, hred, hfail, htime, State.resumeGo_off hoff, State.resumeGo_off hoff, State.resumeFail, if_neg hoff]
      exact ⟨rfl, rfl, rfl, rfl⟩
    · rw [hgo, hred, hfail, htime, State.resumeGo_held hheld hchk, State.resumeGo_held hheld hchk, State.resumeFail, if_pos hheld]
      refine ⟨rfl, ?_, rfl, rfl⟩
      have hskip : (if skip.getLsbD 7 then units else units ++ [7]) = addNew (skipUnits skip) 7 := (addNew_skipUnits skip).symm
      rw [hskip]
      rfl

end Sys2Proof.Machine
end

section
/-!
PROOF. Proofs/HostClaims.lean: a host target's claim reaches the event queue at once where the engine is in service (R280, R289).
-/
namespace Sys2Proof.Machine

/-- The host function is up, its event queue has room, and source 360 is pending for host target 67. -/
def eventQueueOpen : State :=
  { State.reset with
    srcs := [(360, { Src.reset with pend := true, prio := 1, tgt := 67 })], doms := [(47, ⟨.on, 0, []⟩)],
    cqs := [(64, { Cq.reset with en := true, size := 4 })], pcie := { State.reset.pcie with up := true, bme := true } }

/-- How many items an answer has left in the trace. -/
def traceLength : Answer → Nat
  | .next t => t.out.length
  | _ => 0

/-- Refutes O38: the claim by host target 2 writes a SOURCE entry to host memory, and the frame of that clause leaves the trace. -/
theorem not_eventSources : ¬ Obligations.EventSources := by
  unfold Obligations.EventSources
  intro h
  obtain ⟨t, ht, hframe, _⟩ := (h 360 2 0 eventQueueOpen).2.2.2.2.2.2.1 (by decide)
  have hwrites : traceLength (exec (.hostTargetClaim 2) eventQueueOpen) = 1 := by decide +kernel
  have hkeeps : t.out.length = 0 := by rw [hframe]; rfl
  rw [ht, show traceLength (.next t) = t.out.length from rfl, hkeeps] at hwrites
  exact absurd hwrites Nat.zero_ne_one

end Sys2Proof.Machine
end

section
/-!
PROOF. Proofs/DoneEdge.lean: the done edge of a DMA channel reaches the cores that wait for it (R240).
-/
namespace Sys2Proof.Machine

/-- Shingle 3 is in WAITD of DMA channel 0. -/
def waitingForDma : State :=
  { State.reset with cores := [(3, { Core.fresh false with state := .run, waitd := true })] }

/-- The cores that the done edge of channel n reaches. -/
def State.waitersOn (s : State) (n : Nat) : List Nat :=
  (List.range 65).filter (fun k => (s.core k).waitd && decide (fld ((s.core k).vr 0) 3 0 = n))

/-- The done edge ends the WAITD of a core that alone waits for it, without a watchdog that has expired. -/
theorem State.waitd_doneEdge {s : State} {n k : Nat} (honly : s.waitersOn n = [k]) (hwd : (s.core k).wdPend = false) :
    ((s.doneEdge n).core k).waitd = false := by
  have hend : s.doneEdge n = (s.endWaitd k true).wdBoundary k := by
    change s.forEach (s.waitersOn n) _ = _
    rw [honly]
    rfl
  have hwaitd : ((s.endWaitd k true).core k).waitd = false := by
    simp only [State.endWaitd, State.updCore_eq, State.core_setCore, if_true]
    rfl
  have hpend : ((s.endWaitd k true).core k).wdPend = (s.core k).wdPend := by
    simp only [State.endWaitd, State.updCore_eq, State.core_setCore, if_true]
    rfl
  rw [hend, State.wdBoundary_quiet (hpend.trans hwd), hwaitd]

/-- Refutes O40: a START with COUNT 0 ends the WAITD of core 3 (`State.doneEdge`), and the frame of that clause leaves the cores. -/
theorem not_dmaChannels : ¬ Obligations.DmaChannels := by
  unfold Obligations.DmaChannels
  intro h
  obtain ⟨t, ht, hframe, _⟩ := ((h 0 0 0 waitingForDma).2.1 (by decide) (by decide) (by decide)).2 (by decide)
  let s := (waitingForDma.setDma 0 { waitingForDma.dma 0 with done := true }).raise 416
  have hcores (k : Nat) : s.core k = waitingForDma.core k := by simp [s]
  have hexec : exec (.dmaStart 0 0) waitingForDma = .next (s.doneEdge 0) := rfl
  have hends : (t.core 3).waitd = false := by
    rw [← Host.Outcome.next.inj (hexec.symm.trans ht)]
    refine State.waitd_doneEdge ?_ (by rw [hcores]; rfl)
    rw [State.waitersOn]
    simp only [hcores]
    decide
  have hkeeps : (t.core 3).waitd = true := by rw [hframe]; rfl
  exact absurd (hends.symm.trans hkeeps) Bool.false_ne_true

end Sys2Proof.Machine
end

section
/-!
PROOF. Proofs/Resets.lean: a reset of the data path reaches the 32 clusters, and no other entry of the table of clusters (R324).
-/
namespace Sys2Proof.Machine

/-- The table of the clusters has a running entry at number 40, where the device has no cluster. -/
def cluster40Runs : State := { State.reset with clusters := [(40, { Cluster.reset with phase := .run })] }

/-- Every entry of the table of the clusters is idle after an answer. -/
def allIdle : Answer → Bool
  | .next t => t.clusters.all (fun e => decide (e.2.phase = .idle))
  | _ => true

/-- Refutes O54: function-level reset leaves entry 40 of the table of the clusters as it is, and the statement has every entry idle. -/
theorem not_resets : ¬ Obligations.Resets := by
  unfold Obligations.Resets
  intro h
  obtain ⟨t, ht, ⟨_, _, _, _, _, _, _, _, _, _, _, _, _, hidle⟩, _⟩ := (h 0 0 cluster40Runs).2.1 (by decide)
  have hruns : allIdle (exec .functionLevelReset cluster40Runs) = false := by decide +kernel
  have hall : allIdle (.next t) = true := List.all_eq_true.mpr (fun e he => decide_eq_true (hidle e he))
  rw [← ht, hruns] at hall
  exact absurd hall Bool.false_ne_true

end Sys2Proof.Machine
end

section
/-!
PROOF. Proofs/LoadIntoClearingGroup.lean: MEM_CLEAR does not always show that the memories of a group are clearing (R164, R251).
-/
namespace Sys2Proof.Machine

/-- The image of one program word and no data lies in the store at 0x1000. -/
def imageInStore : Memory :=
  [(4096, 0x48), (4097, 0x53), (4098, 0x1), (4100, 0x2), (4102, 0x2), (4104, 0x7), (4108, 0x3), (4128, 0x23), (4129, 0x1),
   (4130, 0x56), (4131, 0x4), (4132, 0x1)]

/-- A parameter block of SHINGLE_LOAD for Shingle 0: that image, of 38 bytes, with its CRC. -/
def loadShingle0 : List Byte :=
  [0x00, 0x10, 0, 0, 1, 0, 0, 0, 0x26, 0, 0, 0, 0xBD, 0x81, 0xBB, 0xA0, 1] ++ List.replicate 47 0

/-- Queue 0 executes that SHINGLE_LOAD while the memories of group 0 are clearing and MEM_CLEAR reads 0, as function-level reset
leaves it (log entry 133). -/
def groupStillClears : State :=
  { State.reset with
    regs := [(33092, 0)], store := imageInStore, ridge := { State.reset.ridge with clearing := false },
    sqs := [(0, { Sq.reset with
      cq := 1, seg := some ⟨false, false, 0, 0⟩, cmd := some ⟨{ Desc.parse 0 [] with op := 0x13, fin := true }, loadShingle0, .ready⟩ })],
    cqs := [(1, { Cq.reset with en := true, size := 2 })], pcie := { State.reset.pcie with bme := true, up := true },
    doms := [32, 33, 34, 35, 36, 37, 38, 39, 40, 41, 42, 43].map (fun d => (d, ⟨.on, 0, []⟩)),
    misc := { State.reset.misc with boot := .done, clearing := [40] } }

theorem groupStillClears_lone : groupStillClears.Lone 0 := ⟨rfl, rfl, rfl, rfl, by decide, rfl, rfl, rfl, rfl⟩

/-- Whether core 0 runs after an answer. -/
def core0Runs : Answer → Bool
  | .next t => decide ((t.core 0).state = .run)
  | _ => true

/-- Refutes O60: Shingle 0 does not start while its group clears (`State.writeShgRun`), and the statement has it run wherever
MEM_CLEAR reads 0. -/
theorem not_powerCommands : ¬ Obligations.PowerCommands := by
  unfold Obligations.PowerCommands
  intro h
  obtain ⟨_, _, _, _, hload⟩ := h 0 0 0 0 groupStillClears groupStillClears_lone
  obtain ⟨_, _, _, _, hdone⟩ := hload rfl rfl rfl rfl rfl (by decide) (by decide) (by decide) rfl (by decide +kernel) (by decide +kernel)
    (by decide +kernel)
  obtain ⟨t, ht, _, _, hruns, _⟩ := hdone (by decide +kernel) (by decide +kernel) (by decide +kernel) (by decide +kernel) (by decide +kernel)
  have hrun : core0Runs (exec (.shingleLoad 0) groupStillClears) = false := by decide +kernel
  obtain ⟨hstate, _⟩ := hruns (by decide) (by decide +kernel)
  rw [ht] at hrun
  exact absurd hrun (by simp [core0Runs, hstate])

end Sys2Proof.Machine
end

section
/-!
PROOF. Proofs/Fields.lean: what a replaced field of a word reads, the registers that a reset leaves, and the sources
that an edge leaves alone.
-/
namespace Sys2Proof.Machine

/-! ### Fields of words -/

theorem fld_eq_extract {w : Nat} (x : BitVec w) (hi lo : Nat) : fld x hi lo = (x.extractLsb' lo (hi + 1 - lo)).toNat := by
  simp [fld, Nat.shiftRight_eq_div_pow]

/-- The bits of a word with a field replaced. -/
theorem getLsbD_setFld {w : Nat} (x : BitVec w) {hi lo : Nat} (hlo : lo ≤ hi) (v i : Nat) :
    (setFld x hi lo v).getLsbD i = (decide (i < w) && if lo ≤ i ∧ i ≤ hi then v.testBit (i - lo) else x.getLsbD i) := by
  simp only [setFld, BitVec.getLsbD_or, BitVec.getLsbD_and, BitVec.getLsbD_not, BitVec.getLsbD_ofNat, Nat.testBit_mul_two_pow,
    Nat.testBit_two_pow_sub_one, Nat.testBit_mod_two_pow]
  by_cases hw : i < w
  · by_cases hin : lo ≤ i ∧ i ≤ hi
    · have hlow : i - lo < hi + 1 - lo := by omega
      simp [hw, hin, hlow]
    · rw [if_neg hin]
      rcases Nat.lt_or_ge i lo with hl | hl
      · simp [hw, Nat.not_le.mpr hl]
      · simp [hw, show ¬ i - lo < hi + 1 - lo by omega]
  · simp [hw]

/-- The field that was replaced. -/
theorem extract_setFld_same {w : Nat} (x : BitVec w) {hi lo : Nat} (hlo : lo ≤ hi) (hw : hi < w) (v : Nat) :
    (setFld x hi lo v).extractLsb' lo (hi + 1 - lo) = BitVec.ofNat (hi + 1 - lo) v := by
  refine BitVec.eq_of_getLsbD_eq fun i hi' => ?_
  rw [BitVec.getLsbD_extractLsb', getLsbD_setFld x hlo, if_pos (by omega), BitVec.getLsbD_ofNat, Nat.add_sub_cancel_left]
  simp [show lo + i < w by omega]

/-- A field beside the one that was replaced. -/
theorem extract_setFld_other {w : Nat} (x : BitVec w) {hi lo a n : Nat} (hlo : lo ≤ hi) (ha : a + n ≤ w) (h : hi < a ∨ a + n ≤ lo) (v : Nat) :
    (setFld x hi lo v).extractLsb' a n = x.extractLsb' a n := by
  refine BitVec.eq_of_getLsbD_eq fun i hi' => ?_
  rw [BitVec.getLsbD_extractLsb', BitVec.getLsbD_extractLsb', getLsbD_setFld x hlo, if_neg (by omega)]
  simp [show a + i < w by omega]

theorem fld_setFld_same {w : Nat} (x : BitVec w) {hi lo : Nat} (hlo : lo ≤ hi) (hw : hi < w) (v : Nat) :
    fld (setFld x hi lo v) hi lo = v % 2 ^ (hi + 1 - lo) := by
  rw [fld_eq_extract, extract_setFld_same x hlo hw, BitVec.toNat_ofNat]

theorem fld_setFld_other {w : Nat} (x : BitVec w) {hi lo hi' lo' : Nat} (hlo : lo ≤ hi) (hlo' : lo' ≤ hi') (hw : hi' < w)
    (h : hi < lo' ∨ hi' < lo) (v : Nat) : fld (setFld x hi lo v) hi' lo' = fld x hi' lo' := by
  rw [fld_eq_extract, fld_eq_extract, extract_setFld_other x hlo (by omega) (by omega)]

/-- A one-bit field is the bit. -/
theorem fld_bit {w : Nat} (x : BitVec w) (n : Nat) : fld x n n = (bit x n).toNat := by
  rw [fld, show n + 1 - n = 1 by omega, Nat.pow_one, bit, BitVec.getLsbD, Nat.toNat_testBit]

theorem bit_setFld_other {w : Nat} (x : BitVec w) {hi lo n : Nat} (hlo : lo ≤ hi) (hn : n < w) (h : n < lo ∨ hi < n) (v : Nat) :
    bit (setFld x hi lo v) n = bit x n := by
  rw [bit, getLsbD_setFld x hlo, if_neg (by omega)]
  simp [hn, bit]

theorem bit_setBit_same {w : Nat} (x : BitVec w) {n : Nat} (hn : n < w) (b : Bool) : bit (setBit x n b) n = b := by
  rw [bit, setBit, getLsbD_setFld x (Nat.le_refl n), if_pos ⟨Nat.le_refl n, Nat.le_refl n⟩]
  cases b <;> simp [hn]

theorem bit_setBit_other {w : Nat} (x : BitVec w) {n m : Nat} (hm : m < w) (hne : m ≠ n) (b : Bool) : bit (setBit x n b) m = bit x m :=
  bit_setFld_other x (Nat.le_refl n) hm (by omega) _

/-- The signed value of a field. -/
theorem snat_fld {n : Nat} (x : W32) (lo : Nat) : snat (n + 1) (fld x (lo + n) lo) = (x.extractLsb' lo (n + 1)).toInt := by
  rw [snat, fld_eq_extract, show lo + n + 1 - lo = n + 1 by omega, BitVec.ofNat_toNat, BitVec.setWidth_eq]

theorem clampInt_eq (lo hi x : Int) (h : lo ≤ hi) : clampInt lo hi x = max lo (min hi x) := by
  unfold clampInt
  (repeat' split) <;> omega

/-! ### Registers that a reset leaves -/

/-- A table without the entries of some keys. -/
theorem Tab.get_filter_key {α : Type} (d : Nat → α) (t : Tab α) (p : Nat → Bool) (k : Nat) :
    Tab.get d (t.filter (fun e => p e.1)) k = if p k then Tab.get d t k else d k := by
  induction t with
  | nil => simp [Tab.get]
  | cons e t ih =>
    by_cases hp : p e.1 = true <;> by_cases hk : e.1 = k <;> simp_all [Tab.get, List.filter_cons]

theorem State.reg_resetRegs (s : State) (p : Nat → Bool) (r : Reg) :
    (s.resetRegs p).reg r = if p r.off then regReset r.off else s.reg r := by
  have h := Tab.get_filter_key regReset s.regs (fun k => !p k) r.off
  cases hp : p r.off <;> simpa [State.resetRegs, State.reg, hp] using h

/-! ### Sources that an edge leaves -/

section
variable (s : State) {i j : Nat}

/-- An edge of source i leaves the other sources, but for UNDELIVERABLE. -/
theorem State.src_raise_other (hj : j ≠ i) (h491 : j ≠ 491) : (s.raise i).src j = s.src j := by
  unfold State.raise State.undeliverable
  dsimp only
  (repeat' split) <;> simp [State.src_edge, State.bump, hj, h491]

theorem State.pend_raise_self : ((s.raise i).src i).pend = true := s.pend_raise i

/-- A pending source stays pending. -/
theorem State.pend_raise_kept (h : (s.src j).pend = true) : ((s.raise i).src j).pend = true := by
  unfold State.raise State.undeliverable
  dsimp only
  (repeat' split) <;> simp [State.src_edge, State.bump] <;> (repeat' split) <;> simp_all

theorem State.raiseIf_frame (b : Bool) : s.raiseIf b i = { s with regs := (s.raiseIf b i).regs, srcs := (s.raiseIf b i).srcs } := by
  cases b
  · rfl
  · exact s.raise_frame i

theorem State.reg_raiseIf {r : Reg} (b : Bool) (h : r.clearOf i) : (s.raiseIf b i).reg r = s.reg r := by
  cases b
  · rfl
  · exact s.reg_raise i h

theorem State.src_raiseIf_other (b : Bool) (hj : j ≠ i) (h491 : j ≠ 491) : (s.raiseIf b i).src j = s.src j := by
  cases b
  · rfl
  · exact s.src_raise_other hj h491

theorem State.pend_raiseIf_kept (b : Bool) (h : (s.src j).pend = true) : ((s.raiseIf b i).src j).pend = true := by
  cases b
  · exact h
  · exact s.pend_raise_kept h

end

end Sys2Proof.Machine
end

section
/-!
PROOF. Proofs/CalendarAndTime.lean: the calendar's tick and alarm, and the servo of device time (R316 to R322).
-/
namespace Sys2Proof.Machine

section
variable {s : State}

/-! ### The calendar -/

theorem calStatus_clearOf : Reg.calStatus.clearOf 480 := by unfold Reg.clearOf; decide

/-- The calendar has moved: the alarm is raised where it is armed and equal to the count. -/
theorem State.calMoved_eq (s : State) : s.calMoved =
    if bit (s.reg .calStatus) 3 = true ∧ s.cald.sec = (s.reg .calAlarmLo).toNat + 2 ^ 32 * ((s.reg .calAlarmHi).toNat % 2) then
      ((({ s with cald := { s.cald with range := decide (calEnd ≤ s.cald.sec) } } : State).updReg .calStatus (fun v => setBit v 2 true)).raise 480)
    else { s with cald := { s.cald with range := decide (calEnd ≤ s.cald.sec) } } := by
  unfold State.calMoved
  simp [fld]

/-- RANGE and the alarm are all that changes when the count has moved. -/
theorem State.calMoved_frame (s : State) : s.calMoved =
    { s with regs := s.calMoved.regs, srcs := s.calMoved.srcs, cald := { s.cald with range := decide (calEnd ≤ s.cald.sec) } } := by
  rw [State.calMoved_eq]
  repeat' split
  · exact State.ext_parts (by simp)
  · rfl

theorem State.calMoved_alarm (harm : bit (s.reg .calStatus) 3 = true)
    (hsec : s.cald.sec = (s.reg .calAlarmLo).toNat + 2 ^ 32 * ((s.reg .calAlarmHi).toNat % 2)) :
    (s.calMoved.src 480).pend = true ∧ bit (s.calMoved.reg .calStatus) 2 = true := by
  rw [State.calMoved_eq, if_pos ⟨harm, hsec⟩]
  exact ⟨State.pend_raise_self _, by rw [State.reg_raise _ _ calStatus_clearOf]; simp [bit_setBit_same]⟩

theorem State.calMoved_quiet (h : bit (s.reg .calStatus) 3 = false ∨
    s.cald.sec ≠ (s.reg .calAlarmLo).toNat + 2 ^ 32 * ((s.reg .calAlarmHi).toNat % 2)) :
    s.calMoved.srcs = s.srcs ∧ s.calMoved.regs = s.regs := by
  rw [State.calMoved_eq, if_neg (fun ⟨harm, hsec⟩ => h.elim (fun h => absurd harm (by simp [h])) (· hsec))]
  exact ⟨rfl, rfl⟩

theorem State.calTrim_eq (s : State) : s.calTrim = max (-10000) (min 10000 ((s.reg .calTrim).extractLsb' 0 16).toInt) := by
  rw [State.calTrim, clampInt_eq _ _ _ (by omega), snat]
  congr 3

/-- What is said of both ways the count moves: nothing else changes, and the alarm comes where it is armed for this second. -/
theorem State.calMoved_at (s : State) {c : Calendar} {range : Bool} (hrange : decide (calEnd ≤ c.sec) = range) :
    ∃ t, Host.Outcome.next (State.calMoved { s with cald := c }) = (.next t : Answer) ∧
      t = { s with regs := t.regs, srcs := t.srcs, cald := t.cald } ∧ t.cald = { c with range := range } ∧ t.clk = s.clk ∧
      (bit (s.reg .calStatus) 3 = true → c.sec = (s.reg .calAlarmLo).toNat + 2 ^ 32 * ((s.reg .calAlarmHi).toNat % 2) →
        (t.src 480).pend = true ∧ bit (t.reg .calStatus) 2 = true) ∧
      (bit (s.reg .calStatus) 3 = false ∨ c.sec ≠ (s.reg .calAlarmLo).toNat + 2 ^ 32 * ((s.reg .calAlarmHi).toNat % 2) →
        t.srcs = s.srcs ∧ t.regs = s.regs) := by
  have hframe := State.calMoved_frame { s with cald := c }
  rw [hrange] at hframe
  refine ⟨_, rfl, ?_, by rw [hframe], by rw [hframe], State.calMoved_alarm (s := { s with cald := c }),
    State.calMoved_quiet (s := { s with cald := c })⟩
  rw [hframe]

/-- The tick of a calendar within its range. -/
theorem exec_calTick (hin : s.cald.sec < calEnd) : exec .calTick s = .next (
    let n := s.cald.sub + (trimTick s.cald.trimAcc s.calTrim).1
    let t : State := { s with cald := { s.cald with
      sub := if n < 32768 then n else if s.cald.sec + 1 = calEnd then 0 else n - 32768, trimAcc := (trimTick s.cald.trimAcc s.calTrim).2,
      sec := if n < 32768 then s.cald.sec else s.cald.sec + 1 } }
    if n < 32768 then t else t.calMoved) := if_neg (by omega)

theorem trimTick_plain {acc trim : Int} (hlow : -20000000 < acc + trim) (hhigh : acc + trim < 20000000) :
    trimTick acc trim = (1, acc + trim) := by simp [trimTick, show ¬ 20000000 ≤ acc + trim by omega, show ¬ acc + trim ≤ -20000000 by omega]

theorem trimTick_double {acc trim : Int} (h : 20000000 ≤ acc + trim) : trimTick acc trim = (2, acc + trim - 20000000) := by
  simp [trimTick, h]

theorem trimTick_skipped {acc trim : Int} (h : acc + trim ≤ -20000000) : trimTick acc trim = (0, acc + trim + 20000000) := by
  simp [trimTick, h, show ¬ 20000000 ≤ acc + trim by omega]

/-- The tick that ends a second, with no tick added or left out. -/
theorem exec_calTick_second (hin : s.cald.sec < calEnd) (hlow : -20000000 < s.cald.trimAcc + s.calTrim)
    (hhigh : s.cald.trimAcc + s.calTrim < 20000000) (hsub : s.cald.sub = 32767) : exec .calTick s = .next (State.calMoved { s with
      cald := { s.cald with sec := s.cald.sec + 1, sub := 0, trimAcc := s.cald.trimAcc + s.calTrim } }) := by
  rw [exec_calTick hin, trimTick_plain hlow hhigh]
  simp [hsub]

/-! ### Device time -/


theorem ppsError_eq (cap : Nat) : ppsError cap = if cap % 10 ^ 9 ≤ 5 * 10 ^ 8 then (cap : Int) % 10 ^ 9 else ((cap % 10 ^ 9 : Nat) : Int) - 10 ^ 9 := rfl

theorem ppsStatus_clearOf {i : Nat} (h : i = 482 ∨ i = 484) : Reg.ppsStatus.clearOf i := by
  rcases h with rfl | rfl <;> (unfold Reg.clearOf; decide)

theorem edgeOk_eq (last : Option Nat) (cap : Nat) : edgeOk last cap = match last with
    | none => true
    | some p => decide (999000000 + p ≤ cap ∧ cap ≤ 1001000000 + p) := by
  cases last with
  | none => rfl
  | some p => simp [edgeOk, Nat.add_comm]

/-- An edge of PPS_IN that the servo sees. -/
theorem exec_ppsIn (hon : bit (s.reg .dtCtl) 31 = true) (hballs : s.ballsOff = false) (haon : s.isOn 48 = true) :
    exec .ppsIn s = .next (if edgeOk s.clk.edge s.clk.dt then s.ppsServo s.clk.dt
      else s.updReg .ppsStatus (fun v => setFld v 31 24 (Nat.min 255 (fld v 31 24 + 1)))) :=
  congrArg Host.Outcome.next (if_neg (by simp [hon, hballs, haon]))

/-- The servo at an accepted edge. -/
theorem State.ppsServo_frame (s : State) (cap : Nat) : s.ppsServo cap =
    { s with regs := (s.ppsServo cap).regs, srcs := (s.ppsServo cap).srcs, clk := { s.clk with
      rate := if s.clk.stepped then s.clk.rate else clampInt (-500000) 500000 (s.clk.rate - Int.tdiv (ppsError cap) 8),
      slew := if s.clk.stepped then 0 else clampInt (-500000) 500000 (-ppsError cap), edge := some cap, stepped := false } } := by
  refine State.ext_parts ?_
  simp [State.ppsServo]
  (repeat' split) <;> rfl

/-- Source 484 is raised where the error exceeds a limit that is not 0. -/
theorem State.ppsServo_far (s : State) (cap : Nat) : ((s.ppsServo cap).src 484).pend =
    ((decide (fld (s.reg .dtCtl) 19 0 ≠ 0) && decide (fld (s.reg .dtCtl) 19 0 < (ppsError cap).natAbs)) || (s.src 484).pend) := by
  rw [State.ppsServo]
  cases hfar : decide (fld (s.reg .dtCtl) 19 0 ≠ 0) && decide (fld (s.reg .dtCtl) 19 0 < (ppsError cap).natAbs)
  · simp only [State.raiseIf, Bool.false_eq_true, if_false, Bool.false_or]
    rw [State.src_raise_other _ (by omega) (by omega)]
    simp
    rfl
  · exact State.pend_raise_self _

theorem State.ppsServo_status (s : State) (cap : Nat) :
    (((s.ppsServo cap).reg .ppsStatus).extractLsb' 0 24) = BitVec.ofInt 24 (clampInt (-8388607) 8388607 (ppsError cap)) := by
  refine Eq.trans ?_ ((extract_setFld_same (hi := 23) (lo := 0) (s.reg .ppsStatus) (by omega) (by omega) _).trans (BitVec.ofNat_toNat 24 _ |>.trans (BitVec.setWidth_eq _)))
  rw [State.ppsServo, State.reg_raiseIf _ _ (ppsStatus_clearOf (.inr rfl)), State.reg_raise _ _ (ppsStatus_clearOf (.inl rfl))]
  simp
  rfl

end

/-- Settles O56: the tick by the trim's three cases, the alarm once for both ways the count moves, and the servo. -/
theorem calendarAndTime : Obligations.CalendarAndTime := by
  unfold Obligations.CalendarAndTime
  intro v b s
  dsimp only
  have htrim := s.calTrim_eq
  refine ⟨?_, ?_, ?_, ?_, ?_, ?_, rfl, ?_, rfl, ?_, ?_, ?_, ?_, ?_, ?_⟩
  · intro h
    exact if_pos h
  · rintro h ⟨hhigh, hlow⟩ hsub
    rw [← htrim] at *
    rw [exec_calTick h, trimTick_plain hlow hhigh]
    simp [hsub]
  · intro h hhigh hsub
    rw [← htrim] at *
    rw [exec_calTick h, trimTick_double hhigh]
    simp [hsub]
  · intro h hlow hsub
    rw [← htrim] at *
    rw [exec_calTick h, trimTick_skipped hlow]
    simp [hsub]
  · rintro h ⟨hhigh, hlow⟩ hsub
    rw [← htrim] at *
    rw [exec_calTick_second h hlow hhigh hsub]
    exact s.calMoved_at (decide_eq_decide.mpr (by simp only [calEnd]; omega))
  · exact s.calMoved_at (c := { s.cald with sec := _, sub := 0 }) rfl
  · have hreg := State.reg_resetRegs { s with cald := State.reset.cald, misc := { s.misc with calLost := true } }
      (fun off => decide (0x7020 ≤ off) && decide (off < 0x7100))
    exact ⟨_, rfl, rfl, by rw [hreg, if_pos (by decide)]; decide, by rw [hreg, if_pos (by decide)]; decide,
      by rw [hreg, if_pos (by decide)]; decide, by rw [hreg]; rfl⟩
  · intro hoff
    exact ⟨congrArg Host.Outcome.next (if_pos (by simp [hoff])), congrArg Host.Outcome.next (if_neg (by simp [hoff]))⟩
  · intro hon hballs haon
    have hexec := exec_ppsIn hon hballs haon
    constructor
    · intro hbad
      rw [(edgeOk_eq _ _).trans hbad, if_neg Bool.false_ne_true] at hexec
      refine ⟨_, hexec, rfl, ?_, ?_⟩
      · rw [State.updReg_eq, State.reg_setReg, if_pos rfl, fld_setFld_same _ (by omega) (by omega)]
        exact Nat.mod_eq_of_lt (Nat.lt_of_le_of_lt (Nat.min_le_left _ _) (by omega))
      · rw [State.updReg_eq, State.reg_setReg, if_pos rfl, fld_setFld_other _ (by omega) (by omega) (by omega) (by omega)]
    · intro hok
      rw [(edgeOk_eq _ _).trans hok, if_pos rfl] at hexec
      have hframe := s.ppsServo_frame s.clk.dt
      have hlimit : fld (s.reg .dtCtl) 19 0 = (s.reg .dtCtl).toNat % 2 ^ 20 := by simp [fld]
      refine ⟨_, hexec, ?_, ?_, ?_, ?_, ?_, ?_, by rw [hframe]⟩
      · rw [hframe]
      · rw [hframe]
        simp only [clampInt_eq (-500000) 500000 _ (by omega)]
        rfl
      · rw [State.ppsServo_status, clampInt_eq _ _ _ (by omega), BitVec.toInt_ofInt_eq_self (by omega) (by omega) (by omega)]
        rfl
      · exact State.pend_raiseIf_kept _ _ (State.pend_raise_self _)
      · intro hlim hbig
        rw [← ppsError_eq] at hbig
        rw [State.ppsServo_far, hlimit, decide_eq_true hlim, decide_eq_true hbig]
        rfl
      · intro hlim
        rw [← ppsError_eq] at hlim
        rw [State.ppsServo_far, hlimit, ← Bool.decide_and, decide_eq_false (fun ⟨hne, hlt⟩ => by omega), Bool.false_or]
  · intro hstands
    exact ⟨congrArg Host.Outcome.next (if_neg (by simp [hstands])), congrArg Host.Outcome.next (if_neg (by simp [hstands]))⟩
  · intro h
    exact congrArg Host.Outcome.next (if_pos (by rcases h with h | h <;> simp [h]))
  · intro hon hruns
    refine ⟨_, congrArg Host.Outcome.next (if_pos (by simp [hon, hruns])), ?_, by simp, State.pend_raise_self _⟩
    rw [State.raise_frame]
  · intro hruns
    exact congrArg Host.Outcome.next (if_pos hruns)

end Sys2Proof.Machine
end

section
/-!
PROOF. Proofs/ClocksAndTemperature.lean: the new step of an idle cluster, a temperature that is read, THERMTRIP, SYSCLK and JTAG (R313
to R315, R338, R348).
-/
namespace Sys2Proof.Machine

section
variable {s : State}

/-! ### Clock steps -/

/-- A loop that leaves the state at each of its steps leaves it. -/
theorem State.forEach_eq_self {α : Type} {l : List α} {g : State → α → State} (h : ∀ a ∈ l, g s a = s) : s.forEach l g = s := by
  induction l with
  | nil => rfl
  | cons a l ih =>
    have hrest := ih fun b hb => h b (List.mem_cons_of_mem a hb)
    simpa [State.forEach, h a List.mem_cons_self] using hrest

theorem State.checkClocks_quiet (h : (List.range 64).all (fun q => (s.sq q).cmd.isNone) = true) : s.checkClocks = s := by
  refine State.forEach_eq_self fun q hq => ?_
  rw [Option.isNone_iff_eq_none.mp (List.all_eq_true.mp h q hq)]

theorem State.forEach_updLane_frame (g : Nat → Lane → Lane) (l : List Nat) (s : State) :
    s.forEach l (fun t l => t.updLane l (g l)) = { s with lanes := (s.forEach l (fun t l => t.updLane l (g l))).lanes } := by
  induction l generalizing s with
  | nil => rfl
  | cons a l ih => exact ih (s.updLane a (g a))

theorem exec_clockChange_none {c : Fin 32} (h : (s.cluster c).newStep = none) : exec (.clockChange c) s = .next s :=
  congrArg Host.Outcome.next (by rw [h])

theorem exec_clockChange_busy {c : Fin 32} (h : (s.cluster c).phase ≠ .idle) : exec (.clockChange c) s = .next s := by
  refine congrArg Host.Outcome.next ?_
  split
  · exact if_neg (by simp [State.stepIdle, State.clusterBusy, h])
  · rfl

theorem exec_clockChange_idle {c : Fin 32} {st : Nat} (hst : (s.cluster c).newStep = some st) (hidle : (s.cluster c).phase = .idle)
    (hjobs : s.jobs = []) (hquiet : (List.range 64).all (fun q => (s.sq q).cmd.isNone) = true) : exec (.clockChange c) s =
      .next ((s.setCluster c { s.cluster c with newStep := none }).setDom c { s.dom c with step := st }) := by
  refine congrArg Host.Outcome.next ?_
  rw [hst]
  refine (if_pos (by simp [State.stepIdle, State.clusterBusy, hidle, hjobs])).trans ?_
  rw [State.updCluster_eq, State.updDom_eq, State.dom_setCluster]
  exact State.checkClocks_quiet hquiet

/-! ### Temperature -/

theorem thermStatus_clearOf {i : Nat} (h : i = 464 ∨ i = 465) : Reg.thermStatus.clearOf i := by
  rcases h with rfl | rfl <;> (unfold Reg.clearOf; decide)

/-- The threshold of bits [lo + 11:lo] of THERM_CTL, signed. -/
def State.threshold (s : State) (lo : Nat) : Int := ((s.reg .thermCtl).extractLsb' lo 12).toInt

/-- The peak that a reading leaves. -/
def State.peakWith (s : State) (w : BitVec 12) : BitVec 12 :=
  let peak : BitVec 12 := (s.reg .thermStatus).extractLsb' 16 12
  if s.misc.hot = true ∧ w.toInt ≤ peak.toInt then peak else w

/-- A reading: the register, the thresholds' arming, and the two events. -/
theorem State.thermSample_eq (hon : s.isOn 48 = true) (w : BitVec 12) : s.thermSample w =
    let warn := reached w.toInt (s.threshold 0) s.misc.warnArmed
    let crit := reached w.toInt (s.threshold 16) s.misc.critArmed
    ((State.setReg { s with misc := { s.misc with hot := true, warnArmed := warn.2, critArmed := crit.2 } } .thermStatus
      (BitVec.ofNat 32 ((s.peakWith w).toNat * 65536 + w.toNat))).raiseIf warn.1 464).raiseIf crit.1 465 := by
  have hpeak : (if !s.misc.hot || decide ((BitVec.ofNat 12 (fld (s.reg .thermStatus) 27 16)).toInt < w.toInt) then w
      else BitVec.ofNat 12 (fld (s.reg .thermStatus) 27 16)) = s.peakWith w := by
    have hfld : BitVec.ofNat 12 (fld (s.reg .thermStatus) 27 16) = (s.reg .thermStatus).extractLsb' 16 12 := by
      rw [fld_eq_extract, BitVec.ofNat_toNat, BitVec.setWidth_eq]
    rw [hfld, State.peakWith]
    generalize (s.reg .thermStatus).extractLsb' 16 12 = peak
    by_cases hle : w.toInt ≤ peak.toInt
    · cases s.misc.hot <;> simp [hle, Int.not_lt.mpr hle]
    · simp [hle, Int.not_le.mp hle]
  have hwarn : snat 12 (fld (s.reg .thermCtl) 11 0) = s.threshold 0 := snat_fld (n := 11) _ 0
  have hcrit : snat 12 (fld (s.reg .thermCtl) 27 16) = s.threshold 16 := snat_fld (n := 11) _ 16
  rw [State.thermSample, if_neg (by simp [hon])]
  simp only [hpeak, hwarn, hcrit]

theorem State.thermSample_frame (hon : s.isOn 48 = true) (w : BitVec 12) : s.thermSample w =
    { s with regs := (s.thermSample w).regs, misc := (s.thermSample w).misc, srcs := (s.thermSample w).srcs } := by
  rw [State.thermSample_eq hon]
  exact State.ext_parts (by simp)

theorem State.misc_thermSample (hon : s.isOn 48 = true) (w : BitVec 12) : (s.thermSample w).misc =
    { s.misc with hot := true, warnArmed := (reached w.toInt (s.threshold 0) s.misc.warnArmed).2,
                  critArmed := (reached w.toInt (s.threshold 16) s.misc.critArmed).2 } := by
  rw [State.thermSample_eq hon]
  simp

theorem State.thermStatus_thermSample (hon : s.isOn 48 = true) (w : BitVec 12) :
    (s.thermSample w).reg .thermStatus = BitVec.ofNat 32 ((s.peakWith w).toNat * 65536 + w.toNat) := by
  rw [State.thermSample_eq hon]
  simp [State.reg_raiseIf _ _ (thermStatus_clearOf (.inr rfl)), State.reg_raiseIf _ _ (thermStatus_clearOf (.inl rfl))]

theorem State.pend_thermSample_crit (hon : s.isOn 48 = true) {w : BitVec 12}
    (h : (reached w.toInt (s.threshold 16) s.misc.critArmed).1 = true) : ((s.thermSample w).src 465).pend = true := by
  rw [State.thermSample_eq hon]
  dsimp only
  rw [h]
  exact State.pend_raise_self _

theorem State.pend_thermSample_warn (hon : s.isOn 48 = true) (w : BitVec 12) : ((s.thermSample w).src 464).pend =
    ((reached w.toInt (s.threshold 0) s.misc.warnArmed).1 || (s.src 464).pend) := by
  rw [State.thermSample_eq hon]
  dsimp only
  rw [State.src_raiseIf_other _ _ (by omega) (by omega)]
  cases (reached w.toInt (s.threshold 0) s.misc.warnArmed).1
  · simp [State.raiseIf]
    rfl
  · exact State.pend_raise_self _

/-- Both fields of THERM_STATUS. -/
theorem thermStatus_fields (peak w : BitVec 12) :
    fld (BitVec.ofNat 32 (peak.toNat * 65536 + w.toNat)) 11 0 = w.toNat ∧ fld (BitVec.ofNat 32 (peak.toNat * 65536 + w.toNat)) 27 16 = peak.toNat := by
  have hp := peak.isLt
  have hw := w.isLt
  simp only [fld, BitVec.toNat_ofNat]
  omega

/-! ### JTAG -/

/-- The codes that disconnect the balls are instructions, and BYPASS is not one of them. -/
theorem ballsOff_code (code : Byte) :
    [0, 3, 4, 5, 6].contains ((if code.toNat ≤ 6 then code else 0xFF : Byte)).toNat = decide (code ∈ [0, 3, 4, 5, 6]) := by
  revert code
  decide

theorem exec_jtagInstruction (code : Byte) (s : State) : exec (.jtagInstruction code) s = .next (
    if code ∈ [(0 : Byte), 3, 4, 5, 6] ∧ s.pcie.up = true then
      State.raise { s with misc := { s.misc with jtag := if code ≤ 6 then code else 0xFF }, pcie := { s.pcie with up := false } } 452
    else { s with misc := { s.misc with jtag := if code ≤ 6 then code else 0xFF } }) := by
  refine congrArg Host.Outcome.next ?_
  rw [State.jtagSelect]
  simp only [State.ballsOff, ballsOff_code, Bool.and_eq_true, decide_eq_true_eq]
  rfl

/-- SYSCLK apart, the outputs and the backup domain are all that the loss of VDD_AON keeps. -/
theorem State.heldReset_frame (s : State) : s.heldReset =
    { State.reset with
      pending := s.pending, free := s.free, out := s.out, cald := s.cald, lanes := s.heldReset.lanes,
      regs := s.regs.filter (fun e => decide (0x7020 ≤ e.1) && decide (e.1 < 0x7100)),
      misc := { State.reset.misc with jtag := s.misc.jtag, calLost := s.misc.calLost },
      clk := { State.reset.clk with sysclk := s.clk.sysclk } } :=
  State.forEach_updLane_frame ..

theorem State.heldReset_keeps (s : State) : s.heldReset.cald = s.cald ∧ s.heldReset.pending = s.pending ∧ s.heldReset.out = s.out ∧
    s.heldReset.store = [] ∧ s.heldReset.jobs = [] ∧ s.heldReset.lineRec = [] ∧ s.heldReset.srcs = [] ∧ s.heldReset.cores = [] ∧
    s.heldReset.misc.trip = false := by
  refine ⟨?_, ?_, ?_, ?_, ?_, ?_, ?_, ?_, ?_⟩ <;> rw [State.heldReset_frame] <;> rfl

/-- A register of the backup domain survives. -/
theorem State.reg_heldReset (s : State) {r : Reg} (h : 0x7020 ≤ r.off ∧ r.off < 0x7100) : s.heldReset.reg r = s.reg r := by
  rw [State.heldReset_frame]
  refine (Tab.get_filter_key regReset s.regs (fun k => decide (0x7020 ≤ k) && decide (k < 0x7100)) r.off).trans ?_
  rw [if_pos (by simp [h])]
  rfl

/-- The registers of the backup domain that the statements name. -/
theorem backup_registers : ∀ r ∈ [Reg.calTrim, .calAlarmLo, .calStatus, .calScratch 3], 0x7020 ≤ r.off ∧ r.off < 0x7100 := by decide

end

section
variable (s : State)

/-- The two domains that the loss of VDD_AON switches off are all that `State.setDomSt` touches. -/
theorem State.off46_48_parts (d : DomSt) (r : Reg) : (((s.setDomSt 46 d).setDomSt 48 d).dom 46).st = d ∧
    (((s.setDomSt 46 d).setDomSt 48 d).dom 48).st = d ∧ ((s.setDomSt 46 d).setDomSt 48 d).reg r = s.reg r ∧
    (s.setDomSt 46 d).setDomSt 48 d = { s with doms := ((s.setDomSt 46 d).setDomSt 48 d).doms } :=
  ⟨by simp [State.setDomSt], by simp [State.setDomSt], by simp [State.setDomSt], State.ext_parts (by simp [State.setDomSt])⟩

/-- The state that the loss of VDD_AON leaves, before the two domains are off. -/
def State.unpowered (t : State) : State :=
  { t with misc := { t.misc with mode := 3, boot := .stop, clearing := [], toBoot := [], onVbat := true, jtag := 1 } }

theorem State.unpowered_misc (t : State) : t.unpowered.misc.trip = t.misc.trip ∧ t.unpowered.misc.onVbat = true ∧
    t.unpowered.misc.boot = .stop := ⟨rfl, rfl, rfl⟩

theorem State.reg_unpowered (t : State) (r : Reg) : t.unpowered.reg r = t.reg r := rfl

theorem State.aonOff_eq : s.aonOff = (s.heldReset.unpowered.setDomSt 46 .off).setDomSt 48 .off := rfl

/-- What is neither a domain nor `Misc` is as the reset leaves it. -/
theorem State.aonOff_keeps : s.aonOff.misc = s.heldReset.unpowered.misc ∧ s.aonOff.cald = s.heldReset.cald ∧
    s.aonOff.pending = s.heldReset.pending ∧ s.aonOff.out = s.heldReset.out ∧ s.aonOff.store = s.heldReset.store ∧
    s.aonOff.jobs = s.heldReset.jobs ∧ s.aonOff.lineRec = s.heldReset.lineRec ∧ s.aonOff.srcs = s.heldReset.srcs ∧
    s.aonOff.cores = s.heldReset.cores := by
  rw [State.aonOff_eq]
  generalize s.heldReset = t
  simp [State.setDomSt, State.unpowered]

theorem State.aonOff_parts : s.aonOff.misc.trip = false ∧ s.aonOff.misc.onVbat = true ∧ s.aonOff.misc.boot = .stop ∧
    (s.aonOff.dom 46).st = .off ∧ (s.aonOff.dom 48).st = .off ∧ s.aonOff.timeRuns = false ∧ s.aonOff.cald = s.cald ∧
    s.aonOff.pending = s.pending ∧ s.aonOff.out = s.out ∧ s.aonOff.store = [] ∧ s.aonOff.jobs = [] ∧ s.aonOff.lineRec = [] ∧
    s.aonOff.srcs = [] ∧ s.aonOff.cores = [] ∧
    ∀ r ∈ [Reg.calTrim, .calAlarmLo, .calStatus, .calScratch 3], s.aonOff.reg r = s.reg r := by
  obtain ⟨h46, h48, _⟩ := s.heldReset.unpowered.off46_48_parts .off .dtCtl
  rw [← State.aonOff_eq] at h46 h48
  have hruns : s.aonOff.timeRuns = false := by simp [State.timeRuns, State.isOn, h48]
  have hreg (r : Reg) (hr : r ∈ [Reg.calTrim, .calAlarmLo, .calStatus, .calScratch 3]) : s.aonOff.reg r = s.reg r := by
    rw [State.aonOff_eq, (State.off46_48_parts _ .off r).2.2.1, State.reg_unpowered]
    exact s.reg_heldReset (backup_registers r hr)
  obtain ⟨htrip, hvbat, hboot⟩ := s.heldReset.unpowered_misc
  obtain ⟨kmisc, kcald, kpending, kout, kstore, kjobs, kline, ksrcs, kcores⟩ := s.aonOff_keeps
  obtain ⟨hcald, hpending, hout, hstore, hjobs, hline, hsrcs, hcores, hlatch⟩ := s.heldReset_keeps
  exact ⟨by rw [kmisc, htrip, hlatch], by rw [kmisc, hvbat], by rw [kmisc, hboot], h46, h48, hruns, kcald.trans hcald,
    kpending.trans hpending, kout.trans hout, kstore.trans hstore, kjobs.trans hjobs, kline.trans hline, ksrcs.trans hsrcs,
    kcores.trans hcores, hreg⟩

end



/-- Settles O55: a command of the clocks, of the sensor and of the pins at a time. -/
theorem clocksAndTemperature : Obligations.ClocksAndTemperature := by
  unfold Obligations.ClocksAndTemperature
  intro c w code st s
  dsimp only
  refine ⟨exec_clockChange_none, exec_clockChange_busy, exec_clockChange_idle, ?_, ?_, ?_, rfl, rfl, ?_, ?_, ?_⟩
  · intro hoff
    exact congrArg Host.Outcome.next (if_pos (by simp [hoff]))
  · intro hon
    refine ⟨_, rfl, State.thermSample_frame hon w, ?_, ?_, ?_, ?_, ?_, ?_, ?_, ?_⟩
    · rw [State.thermStatus_thermSample hon, (thermStatus_fields _ w).1]
    · rw [State.thermStatus_thermSample hon, (thermStatus_fields _ w).2]
      rfl
    · intro harm hreach
      rw [State.pend_thermSample_warn hon, State.misc_thermSample hon]
      have hreach : s.threshold 0 ≤ w.toInt := hreach
      simp [reached, harm, hreach]
    · intro harm hreach
      have hreach : s.threshold 16 ≤ w.toInt := hreach
      exact ⟨State.pend_thermSample_crit hon (by simp [reached, harm, hreach]), by rw [State.misc_thermSample hon]; simp [reached, hreach]⟩
    · intro hbelow
      have hbelow : w.toInt < s.threshold 0 ∨ s.misc.warnArmed = false := hbelow
      rw [State.pend_thermSample_warn hon]
      rcases hbelow with hlt | harm
      · simp [reached, Int.not_le.mpr hlt]
      · simp [reached, harm]
    · intro hfall
      have hfall : w.toInt + 20 ≤ s.threshold 0 := hfall
      rw [State.misc_thermSample hon]
      simp [reached, show ¬ s.threshold 0 ≤ w.toInt by omega, show w.toInt ≤ s.threshold 0 - 20 by omega]
    · intro hfall
      have hfall : w.toInt + 20 ≤ s.threshold 16 := hfall
      rw [State.misc_thermSample hon]
      simp [reached, show ¬ s.threshold 16 ≤ w.toInt by omega, show w.toInt ≤ s.threshold 16 - 20 by omega]
    · exact (fld_eq_extract _ 11 0).symm
  · refine ⟨_, rfl, ?_, by simp, ?_⟩
    · rw [State.raiseIf_frame]
    · intro hon
      rw [hon]
      exact State.pend_raise_self _
  · exact ⟨s.aonOff, rfl, s.aonOff_parts⟩
  · intro hwhy
    rw [exec_jtagInstruction, if_neg (fun ⟨hin, hup⟩ => hwhy.elim (fun h => absurd hup (by simp [h])) (absurd hin))]
  · intro hup hcode
    rw [exec_jtagInstruction, if_pos ⟨hcode, hup⟩]
    have hballs : State.ballsOff { s with misc := { s.misc with jtag := if code ≤ 6 then code else 0xFF } } = true :=
      (ballsOff_code code).trans (decide_eq_true hcode)
    refine ⟨_, rfl, by rw [State.raise_frame], State.pend_raise_self _, ?_, ?_⟩
    · rw [State.raise_frame]
      exact hballs
    · rw [State.hostHears, State.raise_frame]
      exact Bool.and_eq_false_imp.mpr fun _ => by rw [Bool.not_eq_false']; exact hballs

end Sys2Proof.Machine
end

section
/-!
PROOF. Proofs/StageInEvicts.lean: the transient frames of a stage-in may evict pages, which PAGER_COUNT[1] counts (R122, R126).
-/
namespace Sys2Proof.Machine

/-- Every frame of X holds a page of an image that nothing needs. -/
def framesAllTaken : Tab Frame :=
  (List.range 64).map (fun f => (64 + f, { Frame.empty with page := some (.image false (2048 * f)), ok := true }))

/-- The instance in stage-in on cluster 0. -/
def stagingJob : Job := { job0 with seq := 7, active := true }

/-- Tasklet 0 has one SCRATCH page in X, and X of its cluster is full. -/
def stageInEvicts : State :=
  { State.reset with
    recs := [(32, 0xC000)],
    clusters := [(0, { Cluster.reset with phase := .staging, job := some ⟨0, 7, false⟩, frames := framesAllTaken })],
    jobs := [stagingJob] }

/-- PAGER_COUNT[1] after an answer. -/
def evictionsAfter : Answer → W32
  | .next t => t.reg (.pagerCount 1)
  | _ => 0

/-- Refutes O45: the frame of the SCRATCH page evicts a page, so PAGER_COUNT[1] rises, and the statement has the registers stay. -/
theorem not_firstBundle : ¬ Obligations.FirstBundle := by
  unfold Obligations.FirstBundle
  intro h
  obtain ⟨t, ht, hframe, _⟩ := h 0 stagingJob [(16, 0)] stageInEvicts (by decide +kernel) rfl rfl (by decide +kernel) (by decide +kernel)
    (by decide +kernel) (by decide +kernel) (by decide +kernel)
  have hcount : evictionsAfter (exec (.stageInComplete 0) stageInEvicts) = 1 := by decide +kernel
  have hregs : t.regs = [] := congrArg State.regs hframe
  rw [ht] at hcount
  refine absurd hcount ?_
  rw [evictionsAfter, State.reg, hregs]
  decide

end Sys2Proof.Machine
end

section
/-!
PROOF. Proofs/FieldHeaderBytes.lean: the field header of an out-frame has 16 bytes, the last two of them reserved (R197).
-/
namespace Sys2Proof.Machine

/-- Line 0 is at the T0 of cycle 0, with one record of one byte in its OUT set. -/
def oneRecordDue : State :=
  { State.reset with
    regs := [(36864, 0x3)], lineRec := [(3, 0x40)],
    lanes := [(0, { Lane.reset with run := true, ofDone := true, outSet := [⟨0, false, false, [0xAA]⟩] })], doms := domsOn [44] }

/-- Byte i of the latest frame that left. -/
def sentByte (i : Nat) : List Emit → Byte
  | .frame _ _ bs :: _ => bs.getD i 0
  | _ => 0

/-- Byte i of the latest frame that left by an answer. -/
def answerByte (i : Nat) : Answer → Byte
  | .next t => sentByte i t.out
  | _ => 0

/-- Refutes O50: the statement's frame puts the records after 14 bytes of field header, so it has the byte of the body two places
before where it is sent. -/
theorem not_fieldSends : ¬ Obligations.FieldSends := by
  unfold Obligations.FieldSends
  intro h
  obtain ⟨-, -, -, -, ht0, -⟩ := h 0 0 0 0 0 0 0 ⟨0, 0, 1, false, true, 0, [], [], false⟩ ⟨0, 0, 3, 0, [], 1, false, .config⟩ oneRecordDue
  obtain ⟨t, ht, -, -, -, -, -, -, -, hout, -⟩ := ht0 ⟨by decide +kernel, by decide +kernel⟩ (by decide +kernel) (by decide +kernel)
    (by decide +kernel) (by decide +kernel) (by decide +kernel) (by decide +kernel) (by decide +kernel) (by decide +kernel)
    (by decide +kernel)
  have hsent : answerByte 34 (exec (.t0 0) oneRecordDue) = 0xAA := by decide +kernel
  rw [ht, answerByte, hout] at hsent
  exact absurd hsent (by decide +kernel)

end Sys2Proof.Machine
end

section
/-!
PROOF. Proofs/DefineReadsInParts.lean: the record of TASKLET_DEFINE is read by requests of at most Max_Read_Request_Size (R263, R276).
-/
namespace Sys2Proof.Machine

/-- Queue 0 executes a TASKLET_DEFINE of tasklet 0 whose record has not been read, with a Max_Read_Request_Size of 128 bytes. -/
def defineAsked : State :=
  { State.reset with
    sqs := [(0, { Sq.reset with
      cq := 1, seg := some ⟨false, false, 0, 0⟩, cmd := some ⟨{ Desc.parse 0 [] with op := 0x02, fin := true }, [], .ready⟩ })],
    cqs := [(1, { Cq.reset with en := true, size := 2 })], pcie := { State.reset.pcie with bme := true, up := true, mrrs := 0 } }

theorem defineAsked_lone : defineAsked.Lone 0 := ⟨rfl, rfl, rfl, rfl, by decide, rfl, rfl, rfl, rfl⟩

/-- The bytes that the latest request to the host asks for. -/
def bytesAsked : List Emit → Nat
  | .hostRead _ _ n :: _ => n
  | _ => 0

/-- The bytes that an answer's latest request asks for. -/
def answerAsks : Answer → Nat
  | .next t => bytesAsked t.out
  | _ => 0

/-- Refutes O59: the first request asks for 128 bytes, and the statement has it ask for all 256 of the record. -/
theorem not_taskletCommands : ¬ Obligations.TaskletCommands := by
  unfold Obligations.TaskletCommands
  intro h
  obtain ⟨hdefine, -⟩ := h 0 true 0 0 defineAsked defineAsked_lone
  obtain ⟨-, hread, -⟩ := hdefine rfl
  obtain ⟨t, ht, -, hout, -⟩ := hread (by decide +kernel) rfl
  have hasked : answerAsks (exec (.taskletDefine 0 true) defineAsked) = 128 := by decide +kernel
  rw [ht, answerAsks, hout, bytesAsked] at hasked
  exact absurd hasked (by decide)

end Sys2Proof.Machine
end

section
/-!
PROOF. Proofs/PartnerSetDropsConfig.lean: FIELD_PARTNER_SET takes the CONFIG of its partner out of the line's queue (`State.partnerSet`).
-/
namespace Sys2Proof.Machine

/-- Queue 0 executes a FIELD_PARTNER_SET of partner 0 with a record of zeros, while a CONFIG for partner 0 waits on line 0. -/
def configWaits : State :=
  { State.reset with
    lanes := [(0, { Lane.reset with msgs := [⟨0, 0, 1, 0, [], 1, false, .config⟩] })],
    sqs := [(0, { Sq.reset with
      cq := 1, seg := some ⟨false, false, 0, 0⟩,
      cmd := some ⟨{ Desc.parse 0 [] with op := 0x0B, fin := true }, List.replicate 32 0, .ready⟩ })],
    cqs := [(1, { Cq.reset with en := true, size := 2 })], pcie := { State.reset.pcie with bme := true, up := true } }

theorem configWaits_lone : configWaits.Lone 0 := ⟨rfl, rfl, rfl, rfl, by decide, rfl, rfl, rfl, rfl⟩

/-- The messages that wait on line 0 after an answer. -/
def waitingOnLine0 : Answer → Nat
  | .next t => (t.lane 0).msgs.length
  | _ => 0

/-- Refutes O58: the CONFIG of the partner leaves the queue of its line, and the statement has the lines stay as they are. -/
theorem not_fieldCommands : ¬ Obligations.FieldCommands := by
  unfold Obligations.FieldCommands
  intro h
  obtain ⟨-, -, -, -, hpartner, -⟩ := h 0 0 configWaits configWaits_lone
  obtain ⟨-, hinvalid, -⟩ := hpartner rfl (by decide +kernel) rfl (by decide +kernel)
  obtain ⟨t, ht, hframe, -⟩ := hinvalid (by decide +kernel) (by decide +kernel)
  have hleft : waitingOnLine0 (exec (.fieldPartnerSet 0) configWaits) = 0 := by decide +kernel
  have hlanes : t.lanes = configWaits.lanes := by rw [hframe]
  rw [ht, waitingOnLine0, State.lane, hlanes] at hleft
  exact absurd hleft (by decide +kernel)

end Sys2Proof.Machine
end

section
/-!
PROOF. Proofs/RegionSetKeepsReserved.lean: a write leaves the bits of a register that are not RW (`Reg.merge`), whatever they hold.
-/
namespace Sys2Proof.Machine

/-- Queue 0 executes a REGION_SET of region 0 of Shingle 0 to 0, where a reserved bit of the first register reads 1. -/
def reservedBitSet : State :=
  { State.reset with
    regs := [(34816, 0x1)],
    sqs := [(0, { Sq.reset with
      cq := 1, seg := some ⟨false, false, 0, 0⟩, cmd := some ⟨{ Desc.parse 0 [] with op := 0x14, fin := true }, [], .ready⟩ })],
    cqs := [(1, { Cq.reset with en := true, size := 2 })], pcie := { State.reset.pcie with bme := true, up := true } }

theorem reservedBitSet_lone : reservedBitSet.Lone 0 := ⟨rfl, rfl, rfl, rfl, by decide, rfl, rfl, rfl, rfl⟩

/-- The first register of region 0 of Shingle 0 after an answer. -/
def region0After : Answer → W32
  | .next t => t.reg (.shgRegion0 0)
  | _ => 0

/-- Refutes O57: REGION_SET writes the RW bits under its mask and keeps the reserved ones, and the statement has those read 0. -/
theorem not_immediateCommands : ¬ Obligations.ImmediateCommands := by
  unfold Obligations.ImmediateCommands
  intro h
  obtain ⟨-, -, -, -, -, -, hregion, -⟩ := h 0 0 reservedBitSet reservedBitSet_lone
  obtain ⟨t, ht, -, -, -, hwritten, -⟩ := hregion rfl
  have hkept : region0After (exec (.regionSet 0) reservedBitSet) = 1 := by decide +kernel
  rw [ht] at hkept
  exact absurd (hkept.symm.trans hwritten) (by decide +kernel)

end Sys2Proof.Machine
end

section
/-!
PROOF. Proofs/EmptyClaimClearsValid.lean: a claim with nothing pending clears CLAIM_HI of its core (R225, R288).
-/
namespace Sys2Proof.Machine

/-- Shingle 0 runs after a claim of source 1, and nothing is pending for it. -/
def claimedBefore : State :=
  { State.reset with cores := [(0, { Core.fresh false with state := .run, claimHi := 0x80 })], doms := domsOn [40] }


/-- Refutes O37: CLAIM_HI goes from 0x80 to 0, and the statement has both that and that no core changes. -/
theorem not_corePorts : ¬ Obligations.CorePorts := by
  unfold Obligations.CorePorts
  intro h
  obtain ⟨-, hempty, -⟩ := h 0 0 0 0 0 0 0 claimedBefore
  obtain ⟨t, -, hframe, hclear, -⟩ := hempty (by decide +kernel) (by decide +kernel)
  have hcores : t.cores = claimedBefore.cores := by rw [hframe]
  rw [State.core, hcores] at hclear
  exact absurd hclear (by decide +kernel)

end Sys2Proof.Machine
end

section
/-!
PROOF. Proofs/PowerSteps.lean: the steps of a power domain (R307 to R309): what clearing leaves of the memories, MEM_CLEAR, and
a domain that no POWER_SET waits for.
-/
namespace Sys2Proof.Machine

section
variable {s : State} {d : Nat} {b : Bool}

/-! ### MEM_CLEAR and the domains that are clearing -/

theorem State.setClearing_frame (s : State) (d : Nat) (b : Bool) : s.setClearing d b = { s with
    regs := (s.setClearing d b).regs, misc := { s.misc with clearing := (s.setClearing d b).misc.clearing } } := by
  unfold State.setClearing
  dsimp only
  split <;> rfl

theorem State.dom_setClearing (j : Nat) : (s.setClearing d b).dom j = s.dom j := by rw [State.setClearing_frame]; rfl
theorem State.cluster_setClearing (c : Nat) : (s.setClearing d b).cluster c = s.cluster c := by
  rw [State.setClearing_frame]; rfl
theorem State.store_setClearing : (s.setClearing d b).store = s.store := by rw [State.setClearing_frame]
theorem State.tasks_setClearing : (s.setClearing d b).tasks = s.tasks := by rw [State.setClearing_frame]

theorem State.clearing_list_setClearing : (s.setClearing d b).misc.clearing =
    if b then clearKey d :: s.misc.clearing.filter (· ≠ clearKey d) else s.misc.clearing.filter (· ≠ clearKey d) := by
  unfold State.setClearing
  dsimp only
  split <;> rfl

theorem State.clearing_setClearing_self : (s.setClearing d b).clearing d = b := by
  unfold State.clearing
  rw [State.clearing_list_setClearing]
  cases b <;> simp

/-- The store banks are one entry of the list. -/
theorem State.storeClearing_setClearing (hlo : 32 ≤ d) (hhi : d < 40) : (s.setClearing d b).storeClearing = b := by
  have hkey : clearKey d = clearKey 32 := by simp [clearKey, hlo, hhi]
  have h := State.clearing_setClearing_self (s := s) (d := d) (b := b)
  rwa [State.clearing, hkey] at h

theorem State.bit_memClearCl_setClearing (hd : d < 32) : bit ((s.setClearing d b).reg .memClearCl) d = b := by
  unfold State.setClearing
  simp only [if_pos hd, updReg_eq, State.reg_setReg, if_true]
  exact bit_setBit_same _ hd b

/-! ### What a domain that loses or clears its memories keeps -/

theorem State.forEach_updCore_frame {α : Type} (k : α → Nat) (g : Core → Core) (l : List α) (s : State) :
    s.forEach l (fun t i => t.updCore (k i) g) = { s with cores := (s.forEach l (fun t i => t.updCore (k i) g)).cores } := by
  induction l generalizing s with
  | nil => rfl
  | cons a l ih => exact ih (s.updCore (k a) g)

theorem State.clearMemory_frame (s : State) (d : Nat) : s.clearMemory d = { s with
    store := (s.clearMemory d).store, storeBad := (s.clearMemory d).storeBad, clusters := (s.clearMemory d).clusters,
    cores := (s.clearMemory d).cores, ridge := (s.clearMemory d).ridge } := by
  unfold State.clearMemory
  repeat' split
  · rfl
  · rfl
  · rw [State.forEach_updCore_frame]
  · rfl
  · rfl

theorem State.clearMemory_frame_data (hd : d < 40) : s.clearMemory d = { s with
    store := (s.clearMemory d).store, storeBad := (s.clearMemory d).storeBad, clusters := (s.clearMemory d).clusters } := by
  unfold State.clearMemory
  (repeat' split) <;> rfl

theorem State.dom_clearMemory (j : Nat) : (s.clearMemory d).dom j = s.dom j := by rw [State.clearMemory_frame]; rfl

theorem storeBank_eq (a : Nat) : storeBank a = a / 4096 % 8 := by simp [storeBank, nfld]

/-- The contents that go with a domain: its cluster but for TRAP_TARGET and the next step, or its store bank. -/
def State.Lost (s t : State) (d j a : Nat) : Prop :=
  (d < 32 → t.cluster d = { Cluster.reset with trapTarget := (s.cluster d).trapTarget, newStep := (s.cluster d).newStep } ∧
    (j ≠ d → t.cluster j = s.cluster j)) ∧
  (32 ≤ d → d < 40 → Memory.read t.store a = if a / 4096 % 8 + 32 = d then 0 else Memory.read s.store a)

theorem State.lost_clearMemory (s : State) (d j a : Nat) : s.Lost (s.clearMemory d) d j a := by
  unfold State.clearMemory
  refine ⟨fun hd => ?_, fun hlo hhi => ?_⟩
  · rw [if_pos hd, updCluster_eq]
    exact ⟨by simp, fun hj => by simp [hj]⟩
  · rw [if_neg (by omega), if_pos hhi]
    have hread := Tab.get_filter_key Memory.unlisted s.store (fun k => decide (storeBank k ≠ d - 32)) a
    refine hread.trans ?_
    by_cases hbank : a / 4096 % 8 + 32 = d
    · have hsame : storeBank a = d - 32 := by rw [storeBank_eq]; omega
      rw [if_pos hbank, if_neg (by simp [hsame])]
      rfl
    · have hother : storeBank a ≠ d - 32 := by rw [storeBank_eq]; omega
      rw [if_neg hbank, if_pos (by simp [hother])]
      rfl

theorem State.Lost.congr {t u : State} {j a : Nat} (h : s.Lost t d j a) (hcluster : ∀ c, u.cluster c = t.cluster c)
    (hstore : u.store = t.store) : s.Lost u d j a := by
  unfold State.Lost at h ⊢
  simpa only [hcluster, hstore] using h

/-! ### A domain that no POWER_SET waits for -/

/-- No POWER_SET waits for the domain, and no tasklet for a home. -/
def State.Alone (s : State) (d : Nat) : Prop := (s.dom d).cmds = [] ∧ ∀ e ∈ s.tasks, e.2.homeLost = false

theorem State.homeLost_of_all (h : ∀ e ∈ s.tasks, e.2.homeLost = false) (t : Nat) : (s.task t).homeLost = false := by
  refine Classical.byContradiction fun hlost => ?_
  unfold State.task at hlost
  have hne : Tab.get (fun _ => Task.reset) s.tasks t ≠ Task.reset := fun h0 => hlost (by rw [h0]; rfl)
  generalize hl : s.tasks = l at h hlost hne
  clear hl
  induction l with
  | nil => exact hne rfl
  | cons e l ih =>
    by_cases he : e.1 = t
    · exact hlost (by simpa [Tab.get, he] using h e List.mem_cons_self)
    · refine ih (fun x hx => h x (List.mem_cons_of_mem e hx)) ?_ ?_
      · simpa [Tab.get, he] using hlost
      · simpa [Tab.get, he] using hne

theorem State.retryHomes_none (h : ∀ e ∈ s.tasks, e.2.homeLost = false) : s.retryHomes = s := by
  unfold State.retryHomes
  rw [List.filter_eq_nil_iff.mpr fun t _ => by simp [State.homeLost_of_all h t]]
  rfl

theorem State.settled_alone (h : s.Alone d) : s.settled d = s := by
  obtain ⟨hcmds, htasks⟩ := h
  have hsettle : s.settle d (s.dom d).cmds.length = s := by rw [hcmds]; rfl
  unfold State.settled
  simp only [hsettle, State.retryHomes_none htasks, ite_self]

theorem State.Alone.of_eq {t : State} (h : s.Alone d) (hcmds : (t.dom d).cmds = (s.dom d).cmds) (htasks : t.tasks = s.tasks) :
    t.Alone d := ⟨hcmds.trans h.1, by rw [htasks]; exact h.2⟩

theorem State.setDomSt_eq (st : DomSt) : s.setDomSt d st = s.setDom d { s.dom d with st := st } := rfl

/-! ### POWER_RAMP_DONE -/

theorem State.rampDone_memory (h : (s.dom d).st = .ramp) (hmem : hasMemory d = true) :
    s.rampDone d = (s.setDomSt d .clear).setClearing d true := by simp [State.rampDone, h, hmem]

theorem State.rampDone_other (h : (s.dom d).st = .ramp) (hmem : hasMemory d = false) (ha : s.Alone d) :
    s.rampDone d = if d = 47 then (s.setDomSt d .on).bootBatch else s.setDomSt d .on := by
  have hon : (s.setDomSt d .on).settled d = s.setDomSt d .on :=
    State.settled_alone (ha.of_eq (by simp [State.setDomSt_eq]) rfl)
  simp [State.rampDone, h, hmem, hon]

/-- The domains that the control domain switches on at boot. -/
theorem State.dom_bootBatch (j : Nat) : s.bootBatch.dom j =
    if j ∈ s.misc.toBoot.take 4 ∧ (s.dom j).st = .off then { s.dom j with st := .ramp } else s.dom j := by
  refine (State.dom_forEach_powerUp ..).trans ?_
  by_cases hj : j ∈ s.misc.toBoot.take 4 ∧ (s.dom j).st = .off
  · rw [if_pos hj, if_pos (by simpa using hj)]; rfl
  · rw [if_neg hj, if_neg (by simpa using hj)]; rfl

/-! ### MEM_CLEAR_DONE and DRAIN_DONE -/

/-- A store bank other than domain d is clearing. -/
def State.otherBankClearing (s : State) (d : Nat) : Bool :=
  (List.range 8).any (fun b => decide (32 + b ≠ d) && decide ((s.dom (32 + b)).st = .clear))

theorem State.releaseBar_none (h : s.heldBar = []) : s.releaseBar = s := by
  unfold State.releaseBar
  rw [h]
  exact State.ext_parts (by simp [h, State.forEach])

theorem State.tryHostWait_other (h : s.misc.boot ≠ .load) : s.tryHostWait = s := by simp [State.tryHostWait, h]

/-- A domain whose memories now read 0, or are gone, in its new state. -/
def State.cleared (s : State) (d : Nat) (st : DomSt) : State := (s.clearMemory d).setDomSt d st

theorem State.dom_cleared_self (st : DomSt) : (s.cleared d st).dom d = { s.dom d with st := st } := by
  simp [State.cleared, State.setDomSt_eq, State.dom_clearMemory]

theorem State.dom_cleared_other {st : DomSt} {j : Nat} (hj : j ≠ d) : (s.cleared d st).dom j = s.dom j := by
  simp [State.cleared, State.setDomSt_eq, State.dom_clearMemory, hj]

theorem State.cleared_frame (s : State) (d : Nat) (st : DomSt) : s.cleared d st = { s with
    store := (s.cleared d st).store, storeBad := (s.cleared d st).storeBad, clusters := (s.cleared d st).clusters,
    cores := (s.cleared d st).cores, ridge := (s.cleared d st).ridge, doms := (s.cleared d st).doms } := by
  unfold State.cleared State.setDomSt State.updDom State.setDom
  rw [State.clearMemory_frame]

theorem State.cleared_frame_data (hd : d < 40) (st : DomSt) : s.cleared d st = { s with
    store := (s.cleared d st).store, storeBad := (s.cleared d st).storeBad, clusters := (s.cleared d st).clusters,
    doms := (s.cleared d st).doms } := by
  unfold State.cleared State.setDomSt State.updDom State.setDom
  rw [State.clearMemory_frame_data hd]

theorem State.lost_cleared (s : State) (d j a : Nat) (st : DomSt) : s.Lost (s.cleared d st) d j a :=
  (s.lost_clearMemory d j a).congr (fun _ => rfl) rfl

theorem State.Alone.cleared (h : s.Alone d) (st : DomSt) : (s.cleared d st).Alone d :=
  h.of_eq (by rw [State.dom_cleared_self]) (by rw [State.cleared_frame])

theorem State.Alone.setClearing (h : s.Alone d) : (s.setClearing d b).Alone d :=
  h.of_eq (by rw [State.dom_setClearing]) State.tasks_setClearing

/-- The other banks decide whether one is still clearing. -/
theorem State.banksDone_cleared : (s.cleared d .on).banksDone = !s.otherBankClearing d := by
  rw [State.banksDone, State.otherBankClearing, List.not_any_eq_all_not]
  refine congrArg (List.all (List.range 8)) (funext fun b => ?_)
  by_cases hb : 32 + b = d
  · rw [hb, State.dom_cleared_self]; simp
  · rw [State.dom_cleared_other hb]; simp [hb]

/-- The clearing of a cluster or a store bank ends; MEM_CLEAR of the store shows it once no bank is clearing. -/
theorem State.clearDone_data (hst : (s.dom d).st = .clear) (ha : s.Alone d) (hd : d < 40) (hbar : s.heldBar = [])
    (hboot : s.misc.boot = .ridgeClear) : s.clearDone d =
      if 32 ≤ d ∧ s.otherBankClearing d = true then s.cleared d .on else (s.cleared d .on).setClearing d false := by
  have hon : (s.cleared d .on).settled d = s.cleared d .on := State.settled_alone (ha.cleared .on)
  have hoff : ((s.cleared d .on).setClearing d false).settled d = (s.cleared d .on).setClearing d false :=
    State.settled_alone (ha.cleared .on).setClearing
  have hbar' : ((s.cleared d .on).setClearing d false).heldBar = [] := by
    rw [State.setClearing_frame, State.cleared_frame]; exact hbar
  have hboot' : ((s.cleared d .on).setClearing d false).misc.boot ≠ .load := by
    rw [State.setClearing_frame, State.cleared_frame]; simp [hboot]
  unfold State.clearDone
  rw [if_neg (by omega), if_pos hst]
  change (if 32 ≤ d ∧ d < 40 then (if (s.cleared d .on).banksDone = true then
    ((s.cleared d .on).setClearing d false).releaseBar.tryHostWait else s.cleared d .on).settled d
    else (if 40 ≤ d ∧ d < 44 then _ else (s.cleared d .on).setClearing d false).settled d) = _
  rw [State.releaseBar_none hbar', State.tryHostWait_other hboot', if_neg (c := 40 ≤ d ∧ d < 44) (by omega), hoff]
  rw [State.banksDone_cleared]
  by_cases hlo : 32 ≤ d
  · cases hbank : s.otherBankClearing d <;> simp [hlo, hd, hon, hoff]
  · simp [hlo]

theorem State.drainDone_drained (hst : (s.dom d).st = .drain) (hidle : d < 32 → s.clusterBusy d = false) (ha : s.Alone d) :
    s.drainDone d = (s.cleared d .off).setClearing d (if 32 ≤ d ∧ d < 40 then s.storeClearing else false) := by
  unfold State.drainDone
  rw [if_neg (by simp [hst]), if_neg (by
    intro h
    obtain ⟨hd, hbusy⟩ := Bool.and_eq_true_iff.mp h
    simp [hidle (of_decide_eq_true hd)] at hbusy)]
  exact State.settled_alone (ha.cleared .off).setClearing

end

/-- Settles O52: a domain goes from RAMP to clearing or ON, from clearing to ON with its memories at 0, and from drain to OFF. -/
theorem powerSteps : Obligations.PowerSteps := by
  unfold Obligations.PowerSteps
  intro d j a s x memories alone switched lost
  have halone : alone = true → s.Alone d := fun h => by
    obtain ⟨hcmds, htasks⟩ := Bool.and_eq_true_iff.mp h
    exact ⟨List.isEmpty_iff.mp hcmds, fun e he => by simpa using List.all_eq_true.mp htasks e he⟩
  refine ⟨fun h => ?_, fun h => ?_, fun h hd h48 => ?_, fun h hmem => ?_, fun h hmem ha h47 => ?_, fun h h47 ha => ?_,
    fun h ha hd hbar hboot => ?_, fun h hd hbusy => ?_, fun h ha hidle => ?_⟩
  · exact congrArg Host.Outcome.next (if_pos h)
  · exact congrArg Host.Outcome.next (if_pos h)
  · refine congrArg Host.Outcome.next ?_
    unfold State.clearDone
    rw [if_neg h48, if_neg h, if_neg (by simp; omega)]
  · refine ⟨_, congrArg Host.Outcome.next (State.rampDone_memory h hmem), ?_, ⟨?_, fun hj => ?_⟩,
      State.clearing_setClearing_self, fun hd => State.bit_memClearCl_setClearing hd⟩
    · rw [State.setClearing_frame]; rfl
    · rw [State.dom_setClearing]; simp [State.setDomSt_eq, x]
    · rw [State.dom_setClearing]; simp [State.setDomSt_eq, hj]
  · exact congrArg Host.Outcome.next ((State.rampDone_other h hmem (halone ha)).trans (if_neg h47))
  · have hmem : hasMemory d = false := by rw [h47]; rfl
    refine ⟨_, congrArg Host.Outcome.next ((State.rampDone_other h hmem (halone ha)).trans (if_pos h47)),
      State.bootBatch_frame, ?_, fun hj => ?_⟩
    · rw [State.dom_bootBatch]
      simp [State.setDomSt_eq, h47, show (s.dom 47).st = .ramp from h47 ▸ h]
    · rw [State.dom_bootBatch]
      simp [State.setDomSt_eq, h47, hj]
  · have hclear := State.clearDone_data h (halone ha) hd hbar hboot
    by_cases hbank : 32 ≤ d.val ∧ s.otherBankClearing d = true
    · rw [if_pos hbank] at hclear
      refine ⟨_, congrArg Host.Outcome.next hclear, ?_, ⟨State.dom_cleared_self .on, State.dom_cleared_other⟩,
        s.lost_cleared d j a .on, ?_, ?_, fun hlt => absurd hlt (by omega), fun _ => ?_⟩
      · rw [State.cleared_frame_data hd]
      · rw [State.cleared_frame]
      · rw [State.cleared_frame_data hd]
      · have hkeep : (s.cleared d .on).storeClearing = s.storeClearing := by rw [State.cleared_frame]; rfl
        rw [hkeep]
        exact ((congrArg (s.storeClearing && ·) hbank.2).trans (Bool.and_true _)).symm
    · rw [if_neg hbank] at hclear
      refine ⟨_, congrArg Host.Outcome.next hclear, ?_, ⟨?_, fun hj => ?_⟩,
        (s.lost_cleared d j a .on).congr (fun c => State.cluster_setClearing c) State.store_setClearing, ?_, ?_,
        fun hlt => State.bit_memClearCl_setClearing hlt, fun hlo => ?_⟩
      · rw [State.setClearing_frame, State.cleared_frame_data hd]
      · rw [State.dom_setClearing, State.dom_cleared_self]
      · rw [State.dom_setClearing, State.dom_cleared_other hj]
      · rw [State.setClearing_frame, State.cleared_frame]
      · rw [State.setClearing_frame, State.cleared_frame_data hd]
      · have hnone : s.otherBankClearing d = false := by simpa [hlo] using hbank
        rw [State.storeClearing_setClearing hlo hd]
        exact ((congrArg (s.storeClearing && ·) hnone).trans (Bool.and_false _)).symm
  · refine congrArg Host.Outcome.next ?_
    unfold State.drainDone
    rw [if_neg (by simpa using h), if_pos (by simp [hd, hbusy])]
  · refine ⟨_, congrArg Host.Outcome.next (State.drainDone_drained h hidle (halone ha)), ?_, ⟨?_, fun hj => ?_⟩,
      (s.lost_cleared d j a .off).congr (fun c => State.cluster_setClearing c) State.store_setClearing, ?_, ?_, fun hd => ?_⟩
    · rw [State.setClearing_frame, State.cleared_frame]
    · rw [State.dom_setClearing, State.dom_cleared_self]
    · rw [State.dom_setClearing, State.dom_cleared_other hj]
    · rw [State.setClearing_frame, State.cleared_frame]
    · rw [State.setClearing_frame, State.cleared_frame]
    · rw [State.clearing_setClearing_self, if_neg (by omega)]

end Sys2Proof.Machine
end

section
/-!
PROOF. Proofs/StagingAndPaging.lean: when a stage-in starts, the frame that a page fetch takes, and the words that it leaves there
(R118 to R128).
-/
namespace Sys2Proof.Machine

/-! ### The words of a frame -/

section
variable (x : Cluster) (a : Nat) (ws : List W16)

theorem Cluster.setWords_frame : x.setWords 0 a ws = { x with bad := (x.setWords 0 a ws).bad, p := (x.setWords 0 a ws).p } := by
  induction ws generalizing x a with
  | nil => rfl
  | cons v vs ih =>
    change (x.setWord 0 a v).setWords 0 (a + 1) vs = _
    rw [ih]
    rfl

theorem Cluster.word_setWord (b : Nat) (v : W16) :
    (x.setWord 0 a v).word 0 b = if b = a then (v.setWidth 14).setWidth 16 else x.word 0 b := by
  by_cases h : b = a <;> simp [Cluster.setWord, Cluster.word, h]

theorem Cluster.word_setWords_below {b : Nat} (h : b < a) : (x.setWords 0 a ws).word 0 b = x.word 0 b := by
  induction ws generalizing x a with
  | nil => rfl
  | cons v vs ih =>
    rw [Cluster.setWords, ih _ _ (by omega), Cluster.word_setWord, if_neg (by omega)]

/-- A program word holds 14 bits. -/
theorem Cluster.word_setWords {w : Nat} (h : w < ws.length) :
    (x.setWords 0 a ws).word 0 (a + w) = ((ws.getD w 0).setWidth 14).setWidth 16 := by
  induction ws generalizing x a w with
  | nil => simp at h
  | cons v vs ih =>
    rw [Cluster.setWords]
    cases w with
    | zero => rw [Cluster.word_setWords_below _ _ _ (by omega), Cluster.word_setWord, if_pos (by omega)]; rfl
    | succ w =>
      have hw : w < vs.length := by simpa using h
      rw [show a + (w + 1) = a + 1 + w by omega, ih _ _ hw]
      rfl

end

/-! ### Half-words of a page in the store -/

theorem length_halfWords (n : Nat) (bs : List Byte) : (halfWords n bs).length = n := by
  induction n generalizing bs with
  | zero => rfl
  | succ n ih => simp [halfWords, ih]

theorem getD_halfWords {n w : Nat} (bs : List Byte) (h : w < n) :
    (halfWords n bs).getD w 0 = BitVec.ofNat 16 (leAt bs (2 * w) 2) := by
  induction n generalizing bs w with
  | zero => omega
  | succ n ih =>
    cases w with
    | zero => rfl
    | succ w =>
      rw [halfWords, List.getD_cons_succ, ih _ (by omega), leAt, leAt, List.drop_drop, show 2 + 2 * w = 2 * (w + 1) by omega]

theorem Memory.drop_readList (m : Memory) (a n i : Nat) : (m.readList a n).drop i = m.readList (a + i) (n - i) := by
  induction i generalizing a n with
  | zero => rfl
  | succ i ih =>
    cases n with
    | zero => simp [Memory.readList]
    | succ n => rw [Memory.readList, List.drop_succ_cons, ih, show a + 1 + i = a + (i + 1) by omega, Nat.add_sub_add_right]

/-- The little-endian half-word at an offset of bytes read from a memory. -/
theorem halfWord_readList (m : Memory) {a n i : Nat} (h : i + 2 ≤ n) :
    BitVec.ofNat 16 (leAt (m.readList a n) i 2) = m.read (a + i + 1) ++ m.read (a + i) := by
  obtain ⟨k, hk⟩ : ∃ k, n - i = k + 2 := ⟨n - i - 2, by omega⟩
  have hlo := (m.read (a + i)).isLt
  have hhi := (m.read (a + i + 1)).isLt
  have hle : leAt (m.readList a n) i 2 = (m.read (a + i)).toNat + 256 * (m.read (a + i + 1)).toNat := by
    rw [leAt, Memory.drop_readList, hk]
    simp [Memory.readList, leNat]
  refine BitVec.eq_of_toNat_eq ?_
  rw [hle, BitVec.toNat_append, Nat.shiftLeft_eq, BitVec.toNat_ofNat, Nat.mod_eq_of_lt (by omega), Nat.mul_comm,
    ← Nat.shiftLeft_eq, ← Nat.shiftLeft_add_eq_or_of_lt hlo, Nat.shiftLeft_eq]
  omega

theorem padTo_of_length {n : Nat} {bs : List Byte} (h : bs.length = n) : padTo n bs = bs := by
  simp [padTo, ← h]

/-- Fourteen bits of a word, widened again. -/
theorem setWidth_14_16 (v : W16) : (v.setWidth 14).setWidth 16 = v &&& 0x3FFF := by
  refine BitVec.eq_of_toNat_eq ?_
  have h : (v &&& 0x3FFF).toNat = v.toNat % 2 ^ 14 := Nat.and_two_pow_sub_one_eq_mod v.toNat 14
  rw [h, BitVec.toNat_setWidth, BitVec.toNat_setWidth]
  omega

section
variable {s : State}

/-! ### STAGE_IN -/

theorem mem_insertJob {i j : Job} {l : List Job} : i ∈ insertJob j l ↔ i = j ∨ i ∈ l := by
  induction l with
  | nil => simp [insertJob]
  | cons x xs ih =>
    rw [insertJob]
    repeat' split
    · simp
    · rw [List.mem_cons, ih, List.mem_cons, or_left_comm]

theorem mem_sortJobs {i : Job} {l : List Job} : i ∈ sortJobs l ↔ i ∈ l := by
  have h : ∀ acc : List Job, i ∈ l.foldl (fun acc j => insertJob j acc) acc ↔ i ∈ acc ∨ i ∈ l := by
    induction l with
    | nil => simp
    | cons j l ih => intro acc; rw [List.foldl_cons, ih, mem_insertJob, List.mem_cons, or_left_comm, or_assoc]
  simpa [sortJobs] using h []

/-- The jobs that a cluster serves, after its only one has been replaced by one of the same queue. -/
theorem State.mem_servedBy_putJob {c : Nat} {i j n : Job} (h : s.servedBy c = [j])
    (hi : i ∈ (s.putJob j n).servedBy c) : i = n := by
  obtain ⟨hjobs, hserved⟩ := List.mem_filter.mp (mem_sortJobs.mp hi)
  obtain ⟨i0, hi0, rfl⟩ := List.mem_map.mp hjobs
  by_cases hj : i0 = j
  · rw [if_pos hj]
  · rw [if_neg hj] at hserved ⊢
    have hmem : i0 ∈ s.servedBy c := mem_sortJobs.mpr (List.mem_filter.mpr ⟨hi0, hserved⟩)
    exact absurd (List.mem_singleton.mp (h ▸ hmem)) hj

theorem State.servedBy_congr {t : State} (h : t.jobs = s.jobs) (c : Nat) : t.servedBy c = s.servedBy c := by
  unfold State.servedBy
  rw [h]

section
variable {c : Nat} {j : Job}

theorem State.stageIn_idle (h : s.freeCluster c = false ∨ s.servedBy c = []) : s.stageIn c = s := by
  unfold State.stageIn
  split
  · next hfree =>
    obtain hnone | hnone := h
    · simp [hnone] at hfree
    · have hlate : s.pageLate c = s := by simp [State.pageLate, hnone]
      rw [hlate]
      simp [State.startOn, State.nextFor, hnone]
  · rfl

/-- The instance at the head of the queue waits no longer: it stages. -/
theorem State.stageIn_ready (hfree : s.freeCluster c = true) (hone : s.servedBy c = [j]) (hdef : j.deferred = false)
    (hcs : j.clusters = [c]) (hready : s.pagesReady j = true) : s.stageIn c =
      (s.putJob j { j with active := true }).setCluster c { s.cluster c with phase := .staging, job := some ⟨j.t, j.seq, j.replay⟩ } := by
  have hlate : s.pageLate c = s := by simp [State.pageLate, hone, hdef, hready]
  have hnext : s.nextFor c = some j := by simp [State.nextFor, hone, hdef, hready]
  have hcs' : ({ j with active := true } : Job).clusters = [c] := hcs
  unfold State.stageIn
  rw [if_pos hfree, hlate]
  unfold State.startOn
  simp only [hnext, hcs, hcs']
  rw [if_pos (by simp [hfree, hnext])]
  rfl

theorem State.startOn_none (h : ∀ i ∈ s.servedBy c, s.pagesReady i = false) : s.startOn c = s := by
  have hnext : s.nextFor c = none := List.find?_eq_none.mpr fun i hi => by simp [h i hi]
  simp [State.startOn, hnext]

/-- It has been reported late already. -/
theorem State.stageIn_late (hfree : s.freeCluster c = true) (hone : s.servedBy c = [j]) (hdef : j.deferred = false)
    (hready : s.pagesReady j = false) (hl : j.late = true) : s.stageIn c = s := by
  have hlate : s.pageLate c = s := by simp [State.pageLate, hone, hdef, hl]
  unfold State.stageIn
  rw [if_pos hfree, hlate]
  exact State.startOn_none fun i hi => by
    have hij : i = j := by simpa [hone] using hi
    rw [hij]; exact hready

/-- PAGE_LATE, once for the instance. -/
theorem State.stageIn_newlyLate (hfree : s.freeCluster c = true) (hone : s.servedBy c = [j]) (hdef : j.deferred = false)
    (hready : s.pagesReady j = false) (hl : j.late = false) :
    s.stageIn c = ((s.putJob j { j with late := true }).raise 384).bump (.pagerCount 2) := by
  have hlate : s.pageLate c = ((s.putJob j { j with late := true }).raise 384).bump (.pagerCount 2) := by
    simp [State.pageLate, hone, hdef, hready, hl]
  unfold State.stageIn
  rw [if_pos hfree, hlate]
  refine State.startOn_none fun i hi => ?_
  rw [State.servedBy_congr (s := s.putJob j { j with late := true }) (by simp)] at hi
  rw [State.mem_servedBy_putJob hone hi, State.raise_frame]
  exact hready

/-! ### PAGE_FETCH -/

section
variable {g : Fetch} {f : Nat}

theorem State.startFetch_busy (hnext : s.nextFetch c = some g) (hcs : g.cs = [c]) (hbusy : (s.cluster c).fetch.isSome = true) :
    s.startFetch c = s := by
  simp [State.startFetch, hnext, hcs, hbusy]

/-- No frame of the cluster holds the page. -/
theorem State.frame_page_ne (h : s.holds c g.sp g.page = none) {n : Nat} (hn : n < framesOf g.sp) :
    ((s.cluster c).frame g.sp n).page ≠ some g.page := by
  simpa using List.find?_eq_none.mp h n (List.mem_range.mpr hn)

theorem State.held_none (h : s.holds c g.sp g.page = none) : (List.range (framesOf g.sp)).filter
    (fun f => [c].any (fun c => decide (((s.cluster c).frame g.sp f).page = some g.page))) = [] :=
  List.filter_eq_nil_iff.mpr fun n hn => by simpa using State.frame_page_ne h (List.mem_range.mp hn)

/-- Choosing the better of two at each step ends with one of the list. -/
theorem foldl_choose_mem {α : Type} (p : α → α → Prop) [DecidableRel p] (l : List α) (a : α) :
    l.foldl (fun b y => if p y b then y else b) a ∈ a :: l := by
  induction l generalizing a with
  | nil => simp
  | cons b l ih =>
    rw [List.foldl_cons]
    repeat' split
    · exact List.mem_cons_of_mem a (ih b)
    · exact (List.mem_cons.mp (ih a)).elim (fun h => by rw [h]; exact List.mem_cons_self)
        (fun h => List.mem_cons_of_mem a (List.mem_cons_of_mem b h))

/-- The frame that the pager takes is free, or can be evicted. -/
theorem State.pickFrame_fits {sp : Nat} (h : s.pickFrame [c] sp [] = some f) :
    f < framesOf sp ∧ (s.frameFree c sp f = true ∨ s.evictable c sp f = true) := by
  unfold State.pickFrame at h
  simp only [List.all_cons, List.all_nil, Bool.and_true, List.headD_cons] at h
  split at h
  · next f' hfind =>
    obtain rfl := Option.some.inj h
    refine ⟨by simpa using List.mem_of_find?_eq_some hfind, .inl (List.find?_some hfind)⟩
  · split at h
    · simp at h
    · next x xs hev =>
      have hmem : f ∈ x :: xs := by
        rw [← Option.some.inj h]
        exact foldl_choose_mem (fun y b => ((s.cluster c).frame sp y).lastMap < ((s.cluster c).frame sp b).lastMap) xs x
      rw [← hev] at hmem
      simpa using hmem

theorem State.frameFor_taken (h : s.holds c g.sp g.page = none) (hpick : s.pickFrame [c] g.sp [] = some f) :
    s.frameFor [c] g.sp g.page = some f := by
  obtain ⟨_, hfit⟩ := State.pickFrame_fits hpick
  have hfast : s.heldFast c g.sp f g.page = false := by
    unfold State.heldFast
    exact List.any_eq_false.mpr fun n hn => by simp [State.frame_page_ne h (List.mem_range.mp hn)]
  have hfits : s.frameFits c g.sp f g.page = true := by
    unfold State.frameFits
    rw [hfast]
    rcases hfit with hfit | hfit <;> simp [hfit]
  unfold State.frameFor
  simp only [State.held_none h, List.find?_nil, hpick, List.all_cons, List.all_nil, Bool.and_true, hfits, if_true]

theorem State.frameFor_none (h : s.holds c g.sp g.page = none) (hpick : s.pickFrame [c] g.sp [] = none) :
    s.frameFor [c] g.sp g.page = none := by
  unfold State.frameFor
  simp only [State.held_none h, List.find?_nil, hpick]

theorem State.dropCopies_none {t : State} {n : Nat} (ht : t.cluster c = s.cluster c) (h : s.holds c g.sp g.page = none) :
    t.dropCopies c g.sp n g.page = t := by
  have hnone : (List.range (framesOf g.sp)).filter
      (fun m => decide (m ≠ n) && decide (((t.cluster c).frame g.sp m).page = some g.page)) = [] :=
    List.filter_eq_nil_iff.mpr fun m hm => by
      simp [ht, State.frame_page_ne h (List.mem_range.mp hm)]
  unfold State.dropCopies
  rw [hnone]
  rfl

/-- The frame that waits for a page. -/
def Frame.waiting (x : Frame) (p : PageId) : Frame := { x with page := some p, ok := false, stuck := false }

/-- A fetch marks the frame that it takes. -/
theorem State.startFetch_taken (hnext : s.nextFetch c = some g) (hcs : g.cs = [c]) (hidle : (s.cluster c).fetch = none)
    (hhold : s.holds c g.sp g.page = none) (hawait : s.awaiting c g.page = none) (hpick : s.pickFrame [c] g.sp [] = some f) :
    ∃ t, s.startFetch c = t ∧ t = { s with clusters := t.clusters, regs := t.regs } ∧
      t.reg (.pagerCount 0) = s.reg (.pagerCount 0) + 1 ∧ (∀ d, d ≠ c → t.cluster d = s.cluster d) ∧
      t.cluster c = { (s.cluster c).setFrame g.sp f (((s.cluster c).frame g.sp f).waiting g.page) with
        fetch := some g.page, again := false } := by
  refine ⟨_, rfl, ?_⟩
  have hstart : s.startFetch c = ((s.bump (.pagerCount 0)).giveFrame c g.sp f (some g.page) false).updCluster c
      (fun x => { x with fetch := some g.page, again := false }) := by
    unfold State.startFetch
    simp only [hnext, hcs, List.any_cons, List.any_nil, hidle, hawait, Option.isSome_none, Bool.or_false, Bool.false_eq_true, if_false,
      State.frameFor_taken hhold hpick, State.forEach, List.foldl_cons, List.foldl_nil]
    rw [State.dropCopies_none (s := s) (by simp) hhold]
  rw [hstart]
  unfold State.giveFrame
  dsimp only
  split
  · have hoff : (Reg.pagerCount 0).off ≠ (Reg.pagerCount 1).off := by decide
    refine ⟨State.ext_parts (by simp), by simp [hoff], fun d hd => by simp [hd], ?_⟩
    simp [Frame.waiting]
  · refine ⟨State.ext_parts (by simp), by simp, fun d hd => by simp [hd], ?_⟩
    simp [Frame.waiting]

/-- NO_FRAME, once for the instance. -/
theorem State.startFetch_noFrame {j : Job} (hnext : s.nextFetch c = some g) (hcs : g.cs = [c]) (hidle : (s.cluster c).fetch = none)
    (hhold : s.holds c g.sp g.page = none) (hpick : s.pickFrame [c] g.sp [] = none) (hjob : g.job = some j)
    (hnf : j.noFrame = false) :
    s.startFetch c = ((s.putJob j { j with noFrame := true }).raise 385).bump (.pagerCount 3) := by
  unfold State.startFetch
  simp only [hnext, hcs, List.any_cons, List.any_nil, hidle, Option.isSome_none, Bool.or_false, Bool.false_eq_true, if_false,
    State.frameFor_none hhold hpick, hjob, hnf]

end

/-! ### PAGE_FETCH_DONE -/

section
variable {p : PageId} {a f : Nat}

/-- A fetch for one cluster: its partner waits for no such page. -/
theorem State.fetching_alone (hc : (s.cluster c).fetch = some p) (hm : (s.cluster (mate c)).fetch ≠ some p) :
    [c, mate c].filter (fun d => decide ((s.cluster d).fetch = some p)) = [c] := by
  simp [hc, hm]

theorem State.endFetch_none (h : (s.cluster c).fetch = none) (b : Bool) : s.endFetch c b = s := by
  unfold State.endFetch
  rw [h]

/-- An IMAGE page in the store can be read where every byte of it has power and none is in error. -/
theorem State.pageFail_image (hon : s.storeOn a 2048 = true) (hbad : s.storeBad = []) (b : Bool) :
    s.pageFail (.image false (0x100000000 + a)) b = none := by
  simp [State.pageFail, State.pageAt, State.storeBadAt, hbad, hon]

theorem State.pageWords_image : s.pageWords (.image false (0x100000000 + a)) = halfWords 1024 (s.storeRead a 2048) := by
  have hlen : (s.storeRead a 2048).length = 2048 := Memory.readList_length s.store a 2048
  simp [State.pageWords, State.pageAt, padTo_of_length hlen]

/-- A page that a frame waits for is filled in. -/
theorem State.endFetch_image (hc : (s.cluster c).fetch = some (.image false (0x100000000 + a)))
    (hm : (s.cluster (mate c)).fetch = none) (hon : s.storeOn a 2048 = true) (hbad : s.storeBad = [])
    (hawait : s.awaiting c (.image false (0x100000000 + a)) = some (0, f)) (hword : (s.cluster c).badIn 0 f = 0)
    (hpage : ((s.cluster c).frame 0 f).page = some (.image false (0x100000000 + a))) :
    s.endFetch c true = s.setCluster c (((s.cluster c).fetchOver.setFrame 0 f { (s.cluster c).frame 0 f with
        page := some (.image false (0x100000000 + a)), ok := true, stuck := false }).setWords 0 (1024 * f)
      (halfWords 1024 (s.storeRead a 2048))) := by
  unfold State.endFetch
  simp only [hc, State.fetching_alone hc (hm ▸ nofun), State.pageFail_image hon hbad, State.pageWords_image]
  have hpage' : (s.cluster c).fetchOver.frame 0 f = (s.cluster c).frame 0 f := rfl
  simp [State.forEach, State.pageRead, State.fillFetched, hawait, hword, State.giveFrame, State.fillFrame, hpage', hpage]

/-- The frame that waits for a page holds it. -/
theorem State.page_of_awaiting {sp : Nat} (h : s.awaiting c p = some (sp, f)) : ((s.cluster c).frame sp f).page = some p := by
  obtain ⟨sp', _, hfind⟩ := List.exists_of_findSome?_eq_some h
  obtain ⟨f', hf', heq⟩ := Option.map_eq_some_iff.mp hfind
  obtain ⟨rfl, rfl⟩ := Prod.mk.inj heq
  have hspec := List.find?_some hf'
  exact of_decide_eq_true (Bool.and_eq_true_iff.mp hspec).1

/-- A checkpoint copy that cannot be read ends the fetch and leaves the frame invalid. -/
theorem State.endFetch_state {t : Nat} (hc : (s.cluster c).fetch = some (.state t f)) (hm : (s.cluster (mate c)).fetch ≠ some (.state t f))
    (hfail : (s.pageFail (.state t f) true).isSome = true) : s.endFetch c true = s.setCluster c (s.cluster c).fetchOver := by
  obtain ⟨s1, hs1⟩ := Option.isSome_iff_exists.mp hfail
  unfold State.endFetch
  simp only [hc, State.fetching_alone hc hm, hs1]
  rfl

/-- A host read that fails: HOST_READ_FAILED of the pager (R128). -/
theorem State.pageFail_host (h : bit (s.reg (.xlatLo (a / 2 ^ 30 % 64))) 0 = true) :
    s.pageFail (.image true a) false = some ((s.raise 386).bump (.pagerCount 4)) := by
  have hi : nfld a 35 30 = a / 2 ^ 30 % 64 := rfl
  have hat : s.pageAt (.image true a) = none := rfl
  simp only [State.pageFail, hat, hi, h, Bool.not_true, Bool.false_eq_true, if_false, Bool.false_and]

/-- Of two numbers, only the first meets q. -/
theorem filter_range_self {n c m : Nat} (hc : c < n) (q : Nat → Bool) (hself : q c = true) (hm : q m = false) :
    (List.range n).filter (fun d => (decide (d = c) || decide (d = m)) && q d) = [c] := by
  have h : (fun d => (decide (d = c) || decide (d = m)) && q d) = fun d => decide (d = c) := by
    funext d
    by_cases hd : d = c
    · simp [hd, hself]
    · by_cases hdm : d = m <;> simp [hd, hdm, hm]
      intro hmc; simp [← hmc, hm] at hself
  have hone : (List.range n).filter (· == c) = List.replicate ((List.range n).count c) c := List.filter_beq c
  rw [List.count_range, if_pos hc] at hone
  rw [h]
  exact hone

theorem State.fetchedFor_congr {t : State} (hj : t.jobs = s.jobs) (hx : t.clusters = s.clusters) (hr : t.recs = s.recs) :
    t.fetchedFor c p = s.fetchedFor c p := by
  have hrec : t.recOf = s.recOf := by
    funext k w
    simp only [State.recOf, State.recW, hr]
  have hpages : ∀ j, t.jobPages j = s.jobPages j := fun j => by simp only [State.jobPages, hrec]
  have hcl : ∀ d, t.cluster d = s.cluster d := fun d => by simp only [State.cluster, hx]
  simp only [State.fetchedFor, State.lookOver, State.lookAhead, State.queueOf, hpages, hcl, hj]

/-- A host read that fails for no instance ends the fetch. -/
theorem State.endFetch_hostFailed (hc32 : c < 32) (hc : (s.cluster c).fetch = some (.image true a))
    (hm : (s.cluster (mate c)).fetch ≠ some (.image true a)) (hx : bit (s.reg (.xlatLo (a / 2 ^ 30 % 64))) 0 = true)
    (hagain : (s.cluster c).again = false) (hfor : s.fetchedFor c (.image true a) = [])
    (hawait : s.awaiting c (.image true a) = none) : s.endFetch c false =
      ((s.raise 386).bump (.pagerCount 4)).setCluster c (s.cluster c).fetchOver := by
  have hcl : ∀ d, ((s.raise 386).bump (.pagerCount 4)).cluster d = s.cluster d := fun d => by simp
  have hfor' : ((s.raise 386).bump (.pagerCount 4)).fetchedFor c (.image true a) = [] := by
    rw [State.fetchedFor_congr (s := s) (by simp) (by simp) (by simp), hfor]
  have hawait' : ((s.raise 386).bump (.pagerCount 4)).awaiting c (.image true a) = none := by
    simpa only [State.awaiting, hcl] using hawait
  have hcs : (List.range 32).filter (fun d => (decide (d = c) || decide (d = mate c)) &&
      decide ((((s.raise 386).bump (.pagerCount 4)).cluster d).fetch = some (.image true a))) = [c] :=
    filter_range_self hc32 _ (by simp [hc]) (by simp [hm])
  have hdrop : ((s.raise 386).bump (.pagerCount 4)).dropFetched c (.image true a) =
      ((s.raise 386).bump (.pagerCount 4)).setCluster c (s.cluster c).fetchOver := by
    simp only [State.dropFetched, hawait', updCluster_eq, hcl]
  have hstate : (PageId.image true a).isStatePage = false := rfl
  unfold State.endFetch
  simp only [hc, State.pageFail_host hx, hstate, Bool.false_eq_true, if_false, State.fetchFailed]
  rw [hcs, hcl, hagain, if_neg Bool.false_ne_true, hfor']
  exact hdrop

end

end

end

/-- Settles O46: a stage-in starts when its pages are there, and the pager fetches them one at a time. -/
theorem stagingAndPaging : Obligations.StagingAndPaging := by
  unfold Obligations.StagingAndPaging
  intro c j a f g s x put one
  refine ⟨fun h => congrArg Host.Outcome.next (State.stageIn_idle h), fun hfree hone => ?_, fun h => ?_, fun h hcs hbusy => ?_,
    fun h hcs hidle hhold hawait => ⟨fun hpick => ?_, fun hpick hjob hnf => ?_⟩, fun h b _ => ?_,
    fun hc hm hmod hlt hon hbad hawait hword => ?_, fun hc hm hfail => ?_, fun hc hx hagain hfor hm hawait => ?_⟩
  · obtain ⟨hone, hdef, hck, hcl⟩ := hone
    have hcs : j.clusters = [c.val] := by simp [Job.clusters, hck, hcl]
    refine ⟨fun hready => ?_, fun hready hl => ?_, fun hready hl => ?_⟩
    · exact congrArg Host.Outcome.next (State.stageIn_ready hfree hone hdef hcs hready)
    · exact congrArg Host.Outcome.next (State.stageIn_late hfree hone hdef hready hl)
    · have hclear : (Reg.pagerCount 2).clearOf 384 := by unfold Reg.clearOf; decide
      refine ⟨_, congrArg Host.Outcome.next (State.stageIn_newlyLate hfree hone hdef hready hl), State.ext_parts (by simp [State.putJob]),
        by simp [put, State.putJob], ?_, ?_, by simp [State.putJob]⟩
      · simpa using State.pend_raise _ 384
      · simp only [State.bump_eq, State.reg_setReg, if_true, State.reg_raise _ _ hclear]
        rfl
  · refine congrArg Host.Outcome.next ?_
    unfold State.startFetch
    rw [h]
  · exact congrArg Host.Outcome.next (State.startFetch_busy h hcs hbusy)
  · obtain ⟨t, ht, hframe, hcount, hother, hself⟩ := State.startFetch_taken h hcs hidle hhold hawait hpick
    exact ⟨t, congrArg Host.Outcome.next ht, hframe, hcount, hother, hself⟩
  · obtain ⟨i, hi⟩ := Option.isSome_iff_exists.mp hjob
    have hnf' : i.noFrame = false := by simpa [hi] using hnf
    have hclear : (Reg.pagerCount 3).clearOf 385 := by unfold Reg.clearOf; decide
    refine ⟨_, congrArg Host.Outcome.next (State.startFetch_noFrame h hcs hidle hhold hpick hi hnf'),
      State.ext_parts (by simp [State.putJob]), ?_, ?_, by simp [State.putJob]⟩
    · simpa using State.pend_raise _ 385
    · simp only [State.bump_eq, State.reg_setReg, if_true, State.reg_raise _ _ hclear]
      rfl
  · exact congrArg Host.Outcome.next (State.endFetch_none h b)
  · refine ⟨_, congrArg Host.Outcome.next (State.endFetch_image hc hm hon hbad hawait hword (State.page_of_awaiting hawait)), ?_⟩
    rw [State.cluster_setCluster, if_pos rfl]
    have hread : ∀ w : Nat, w < 1024 → (halfWords 1024 (s.storeRead a 2048)).getD w 0 =
        Memory.read s.store (a + 2 * w + 1) ++ Memory.read s.store (a + 2 * w) := fun w hw => by
      rw [getD_halfWords _ hw]
      exact halfWord_readList s.store (by omega)
    refine ⟨rfl, ?_, ?_, ?_, fun w hw => ?_, ?_, ?_, ?_⟩
    · rw [Cluster.setWords_frame]; rfl
    · rw [Cluster.setWords_frame]; simp [Cluster.frame, Cluster.setFrame, x]
    · rw [Cluster.setWords_frame]; rfl
    · rw [Cluster.word_setWords _ _ _ (by rw [length_halfWords]; exact hw), hread w hw]
      exact setWidth_14_16 _
    · rw [Cluster.setWords_frame]; rfl
    · rw [Cluster.setWords_frame]; rfl
    · rw [Cluster.setWords_frame]; rfl
  · exact congrArg Host.Outcome.next (State.endFetch_state hc (fun h => hm (h.trans hc.symm)) hfail)
  · have hclear : (Reg.pagerCount 4).clearOf 386 := by unfold Reg.clearOf; decide
    refine ⟨_, congrArg Host.Outcome.next (State.endFetch_hostFailed c.isLt hc (fun h => hm (h.trans hc.symm)) hx hagain hfor hawait),
      State.ext_parts (by simp), ?_, ?_, ?_, fun d hd => ?_⟩
    · simpa using State.pend_raise s 386
    · simp [State.reg_raise _ _ hclear]
    · simp [Cluster.fetchOver, x]
    · simp [hd]

end Sys2Proof.Machine
end

section
/-!
PROOF. Proofs/StoreWindows.lean: the atomic views of a store word (R303) and the store behind BAR4 (R263, R264, R302): which bytes
answer, what a byte in error and an absent bank report, and the parts of a write that crosses a block.
-/
namespace Sys2Proof.Machine

/-! ### Bytes and numbers -/

theorem leNat_leBytes (n x : Nat) : leNat (leBytes n x) = x % 256 ^ n := by
  induction n generalizing x with
  | zero => simp [leBytes, leNat, Nat.mod_one]
  | succ n ih =>
    have hsplit : x % (256 * 256 ^ n) = x % 256 + 256 * (x / 256 % 256 ^ n) := Nat.mod_mul
    rw [leBytes, leNat, ih, BitVec.toNat_ofNat, Nat.pow_succ' (n := n), hsplit]

theorem length_leBytes (n x : Nat) : (leBytes n x).length = n := by
  induction n generalizing x with
  | zero => rfl
  | succ n ih => simp [leBytes, ih]

theorem leNat_lt (bs : List Byte) : leNat bs < 256 ^ bs.length := by
  induction bs with
  | nil => simp [leNat]
  | cons b bs ih =>
    have hb := b.isLt
    rw [leNat, List.length_cons, Nat.pow_succ']
    omega

theorem getD_of_lt {α : Type} {l : List α} {i : Nat} (h : i < l.length) (d : α) : l.getD i d = l[i] := by
  rw [List.getD_eq_getElem?_getD, List.getElem?_eq_getElem h, Option.getD_some]

theorem Memory.readList_eq_map (m : Memory) (a n : Nat) : m.readList a n = (List.range n).map (fun i => m.read (a + i)) := by
  refine List.ext_getElem (by simp) fun i h _ => ?_
  have hi : i < n := by simpa using h
  have hget := Memory.readList_getD m n a i hi
  rw [getD_of_lt h] at hget
  simpa using hget

theorem Memory.writeList_append (m : Memory) (a : Nat) (xs ys : List Byte) :
    m.writeList a (xs ++ ys) = (m.writeList a xs).writeList (a + xs.length) ys := by
  induction xs generalizing m a with
  | nil => rfl
  | cons x xs ih =>
    rw [List.cons_append, Memory.writeList, ih, Memory.writeList, List.length_cons, show a + 1 + xs.length = a + (xs.length + 1) by omega]

/-- Bytes that were written read back. -/
theorem Memory.readList_writeList_same (m : Memory) (a : Nat) (bs : List Byte) :
    (List.range bs.length).map (fun i => (m.writeList a bs).read (a + i)) = bs := by
  refine List.ext_getElem (by simp) fun i h h' => ?_
  rw [List.getElem_map, List.getElem_range, Memory.read_writeList, if_pos (by omega), Nat.add_sub_cancel_left,
    getD_of_lt h']

section
variable {s : State} {m a n off len e : Nat}

/-! ### Which bytes of the store answer -/

/-- A byte of a bank with power answers. -/
theorem State.storeOn_byte (hlt : off < 0x2000000) (hp : s.powered (32 + off / 4096 % 8) = true) : s.storeOn off 1 = true := by
  unfold State.storeOn
  simp only [Bool.and_eq_true, decide_eq_true_eq, List.all_eq_true, Bool.or_eq_true, List.mem_range, storeBank_eq]
  refine ⟨by unfold storeSize; omega, fun b _ => ?_⟩
  by_cases hb : b = off / 4096 % 8
  · exact .inl (hb ▸ hp)
  · refine .inr fun i hi => ?_
    obtain rfl | rfl : i = 0 ∨ i = 1 := by omega
    · exact .inl (by omega)
    · exact .inr (by omega)

theorem State.storeOn_all (hlt : off + n ≤ 0x2000000) (hp : ∀ g < 8, s.powered (32 + g) = true) : s.storeOn off n = true := by
  unfold State.storeOn
  simp only [Bool.and_eq_true, decide_eq_true_eq, List.all_eq_true, List.mem_range]
  exact ⟨hlt, fun b hb => by simp [hp b hb]⟩

/-- A range that begins in a bank without power does not answer. -/
theorem State.storeOn_off (hn : 1 ≤ n) (hp : s.powered (32 + off / 4096 % 8) = false) : s.storeOn off n = false := by
  refine Classical.byContradiction fun hon => ?_
  obtain ⟨_, hall⟩ := Bool.and_eq_true_iff.mp ((Bool.not_eq_false _).mp hon)
  have hbank := List.all_eq_true.mp hall (off / 4096 % 8) (List.mem_range.mpr (by omega))
  rw [hp, Bool.false_or] at hbank
  have hfirst := List.all_eq_true.mp hbank 0 (List.mem_range.mpr (by omega))
  simp only [storeBank_eq, Bool.or_eq_true, decide_eq_true_eq] at hfirst
  omega

theorem State.powered_of_isOn {d : Nat} (h : s.isOn d = true) : s.powered d = true := by
  simp [State.powered, of_decide_eq_true h]

/-! ### Errors of a store byte -/

theorem State.storeBadAt_none (h : s.storeBad = []) (a n : Nat) : s.storeBadAt a n = none := by simp [State.storeBadAt, h]

theorem State.storeBadAt_one (h : s.storeBad = [e]) (hlo : a ≤ e) (hhi : e < a + n) : s.storeBadAt a n = some e := by
  simp [State.storeBadAt, h, hlo, hhi]

theorem State.storeError_frame (s : State) (a : Nat) : s.storeError a = { s with
    regs := (s.storeError a).regs, srcs := (s.storeError a).srcs } := State.ext_parts (by simp)

theorem State.pend_storeError : ((s.storeError a).src 438).pend = true := State.pend_raise _ _

theorem State.reg_faultEdge {r : Reg} {t : State} (h : r.clearOf 442) : (State.faultEdge t s).reg r = s.reg r :=
  State.reg_raiseIf _ _ h

theorem State.reg_storeErrAddr_storeError : (s.storeError a).reg .storeErrAddr = BitVec.ofNat 32 a := by
  have h438 : Reg.storeErrAddr.clearOf 438 := by unfold Reg.clearOf; decide
  have h442 : Reg.storeErrAddr.clearOf 442 := by unfold Reg.clearOf; decide
  have hoff : Reg.storeErrAddr.off ≠ Reg.faultStatus.off := by decide
  unfold State.storeError State.setFault
  rw [State.reg_raise _ _ h438, State.reg_faultEdge h442]
  simp [hoff]

/-! ### AER -/

theorem State.aer_frame (s : State) (b : Nat) : s.aer b = { s with
    free := (s.aer b).free, pcie := (s.aer b).pcie, regs := (s.aer b).regs, srcs := (s.aer b).srcs } := by
  unfold State.aer
  rw [State.raise_frame]

theorem State.pend_aer (b : Nat) : ((s.aer b).src 453).pend = true := State.pend_raise _ _

theorem State.pend_aer_kept {i : Nat} (b : Nat) (h : (s.src i).pend = true) : ((s.aer b).src i).pend = true :=
  State.pend_raise_kept _ h

theorem State.bit_aer {b : Nat} (hb : b < 32) : bit (s.aer b).pcie.aer b = true := by
  unfold State.aer
  rw [State.raise_frame]
  exact bit_setBit_same _ hb true

theorem State.reg_aer {r : Reg} (b : Nat) (h : r.clearOf 453) : (s.aer b).reg r = s.reg r := State.reg_raise _ _ h

/-! ### The atomic views of a store word (R303) -/

/-- The views are those of FETCH_ADD and of COMPARE_SWAP. -/
def atomicView (swap : Bool) : Target := if swap then .cmpSwap else .fetchAdd

/-- Where a view begins in the system map. -/
def atomicBase (swap : Bool) : Nat := if swap then 0x160000000 else 0x140000000

theorem busTarget_atomic (swap : Bool) (h : off < 0x2000000) : busTarget (atomicBase swap + off) = (atomicView swap, off) := by
  cases swap
  · change busTarget (0x140000000 + off) = (.fetchAdd, off)
    rw [busTarget, if_neg (by omega), if_neg (by omega), if_neg (by omega), if_pos (by omega), Nat.add_sub_cancel_left]
  · change busTarget (0x160000000 + off) = (.cmpSwap, off)
    rw [busTarget, if_neg (by omega), if_neg (by omega), if_neg (by omega), if_neg (by omega), if_pos (by omega), Nat.add_sub_cancel_left]

theorem State.accessOk_atomic (swap : Bool) (hoff : off < 0x2000000) (hw : off % 8 + len ≤ 8)
    (hp : s.powered (32 + off / 4096 % 8) = true) : s.accessOk (atomicBase swap + off) len false false = true := by
  have hwidth : widthOk (atomicBase swap + off) len = true := by
    unfold widthOk
    rw [busTarget_atomic swap hoff]
    cases swap <;> simp [atomicView, atomicBase] <;> omega
  unfold State.accessOk
  rw [hwidth, Bool.true_and, List.all_eq_true]
  intro i hi
  have hi' := List.mem_range.mp hi
  have hon : s.storeOn (off + i) 1 = true :=
    State.storeOn_byte (by omega) (by rw [show (off + i) / 4096 = off / 4096 by omega]; exact hp)
  unfold State.reach
  rw [Nat.add_assoc, busTarget_atomic swap (by omega)]
  cases swap <;> simp [atomicView, hon]

section
variable (swap : Bool) (hm : m ≤ 8) (hoff : off < 0x2000000) (hw : off % 8 + len ≤ 8)
  (hp : s.powered (32 + off / 4096 % 8) = true)
include hm hoff hw hp

theorem State.busRead_atomic : s.busRead m (atomicBase swap + off) len false =
    match s.readParity (atomicBase swap + off) len with
    | some s1 => (s1, .inl .parity)
    | none => (s.touch m (atomicBase swap + off) len,
      .inr ((List.range len).map (fun i => s.peek m (atomicBase swap + off + i)))) := by
  have hregion : s.regionOk m (atomicBase swap + off) len false = true := if_neg (by omega)
  unfold State.busRead
  rw [hregion, State.accessOk_atomic swap hoff hw hp, busTarget_atomic swap hoff]
  cases swap <;> rfl

theorem State.aliasRead_atomic (hgood : s.storeBad = []) : s.aliasRead m (atomicBase swap + off) len =
    (s.atomic m off swap).emit (.readData ((List.range len).map (fun i => s.store.read (off + i)))) := by
  have hid : masterId m = true := by simp [masterId, hm]
  have hparity : s.readParity (atomicBase swap + off) len = none := by
    unfold State.readParity
    rw [busTarget_atomic swap hoff]
    cases swap <;> simp [atomicView, State.storeBadAt_none hgood]
  have htouch : s.touch m (atomicBase swap + off) len = s.atomic m off swap := by
    unfold State.touch
    rw [busTarget_atomic swap hoff]
    cases swap <;> rfl
  have hpeek : (List.range len).map (fun i => s.peek m (atomicBase swap + off + i)) =
      (List.range len).map (fun i => s.store.read (off + i)) := List.map_congr_left fun i hi => by
    have hi' := List.mem_range.mp hi
    unfold State.peek
    rw [Nat.add_assoc, busTarget_atomic swap (by omega)]
    cases swap <;> rfl
  unfold State.aliasRead
  rw [if_pos hid, State.busRead_atomic swap hm hoff hw hp, hparity, htouch, hpeek]

theorem State.aliasRead_bad (hbad : s.storeBad = [off / 8 * 8]) : s.aliasRead m (atomicBase swap + off) len =
    s.storeError (off / 8 * 8) := by
  have hid : masterId m = true := by simp [masterId, hm]
  have hparity : s.readParity (atomicBase swap + off) len = some (s.storeError (off / 8 * 8)) := by
    unfold State.readParity
    rw [busTarget_atomic swap hoff]
    cases swap <;> simp [atomicView, State.storeBadAt_one hbad]
  unfold State.aliasRead
  rw [if_pos hid, State.busRead_atomic swap hm hoff hw hp, hparity]

end

/-- The word that an atomic operation finds. -/
def State.atomicOld (s : State) (off : Nat) : Nat := leNat ((List.range 8).map (fun i => s.store.read (off / 8 * 8 + i)))

/-- The word that it leaves. -/
def State.atomicNew (s : State) (m off : Nat) (swap : Bool) : Nat :=
  if swap then (if s.atomicOld off = (s.latch (3 * m + 1)).toNat then (s.latch (3 * m)).toNat else s.atomicOld off)
  else (s.atomicOld off + (s.latch (3 * m)).toNat) % 2 ^ 64

theorem State.atomicOld_lt : s.atomicOld off < 2 ^ 64 := Nat.lt_of_lt_of_eq (leNat_lt _) (by simp)

theorem State.atomicNew_lt (swap : Bool) : s.atomicNew m off swap < 2 ^ 64 := by
  have hold := s.atomicOld_lt (off := off)
  unfold State.atomicNew
  repeat' split
  · exact (s.latch (3 * m)).isLt
  · exact hold
  · exact Nat.mod_lt _ (by decide)

theorem State.atomic_eq (swap : Bool) : s.atomic m off swap =
    (s.storeWrite (off / 8 * 8) (leBytes 8 (s.atomicNew m off swap))).setLatch (3 * m + 2) (BitVec.ofNat 64 (s.atomicOld off)) := by
  have hold : s.storeNat (off / 8 * 8) 8 = s.atomicOld off := congrArg leNat (Memory.readList_eq_map ..)
  have hlt := s.atomicOld_lt (off := off)
  have hnew : (if swap then (if BitVec.ofNat 64 (s.atomicOld off) = s.latch (3 * m + 1) then s.latch (3 * m)
      else BitVec.ofNat 64 (s.atomicOld off)) else BitVec.ofNat 64 (s.atomicOld off) + s.latch (3 * m)).toNat =
      s.atomicNew m off swap := by
    have hiff : BitVec.ofNat 64 (s.atomicOld off) = s.latch (3 * m + 1) ↔ s.atomicOld off = (s.latch (3 * m + 1)).toNat := by
      rw [← BitVec.toNat_inj, BitVec.toNat_ofNat, Nat.mod_eq_of_lt hlt]
    unfold State.atomicNew
    simp only [hiff]
    have hlt' : s.atomicOld off < 18446744073709551616 := hlt
    (repeat' split) <;> simp [hlt']
  unfold State.atomic
  simp only [hold, hnew]

/-- What an atomic operation leaves: the new word, and OLD of its master. -/
theorem State.atomic_leaves (swap : Bool) (bs : List Byte) (hgood : s.storeBad = []) :
    ∃ t, (s.atomic m off swap).emit (.readData bs) = t ∧ t = { s with store := t.store, latches := t.latches, out := t.out } ∧
      t.out = .readData bs :: s.out ∧ t.latch (3 * m + 2) = BitVec.ofNat 64 (s.atomicOld off) ∧
      (∀ n, n ≠ 3 * m + 2 → t.latch n = s.latch n) ∧
      leNat ((List.range 8).map (fun i => t.store.read (off / 8 * 8 + i))) = s.atomicNew m off swap ∧
      ∀ x, x < off / 8 * 8 ∨ off / 8 * 8 + 8 ≤ x → t.store.read x = s.store.read x := by
  rw [State.atomic_eq]
  have hlatch (u : State) (v : W64) (k n : Nat) (e : Emit) : ((u.setLatch k v).emit e).latch n = if n = k then v else u.latch n :=
    Tab.get_set ..
  refine ⟨_, rfl, State.ext_parts (by simp [State.storeWrite, State.setLatch, State.emit, hgood]), rfl, ?_, fun n hn => ?_, ?_,
    fun x hx => ?_⟩
  · rw [hlatch, if_pos rfl]
  · rw [hlatch, if_neg hn]; rfl
  · have hread := Memory.readList_writeList_same s.store (off / 8 * 8) (leBytes 8 (s.atomicNew m off swap))
    rw [length_leBytes] at hread
    refine (congrArg leNat hread).trans ?_
    rw [leNat_leBytes, Nat.mod_eq_of_lt (by simpa using s.atomicNew_lt swap)]
  · refine (Memory.read_writeList ..).trans (if_neg ?_)
    rw [length_leBytes]
    omega

/-! ### BAR4 (R263, R302) -/

/-- The blocks of 4 KiB that an access within the window meets: one, or two. -/
theorem blocksOf_two (hlo : 1 ≤ len) (hhi : len ≤ 4096) : blocksOf off len =
    if 4096 * (off / 4096 + 1) < off + len then [off / 4096, off / 4096 + 1] else [off / 4096] := by
  have hfirst : 4096 * (off / 4096) < off + len := by omega
  have hthird : ¬ 4096 * (off / 4096 + 2) < off + len := by omega
  unfold blocksOf
  by_cases h : len = 4096
  · have hr : List.range (len / 4096 + 2) = [0, 1, 2] := by rw [h]; rfl
    rw [hr]
    by_cases h2 : 4096 * (off / 4096 + 1) < off + len <;> simp [hfirst, hthird, h2]
  · have hr : List.range (len / 4096 + 2) = [0, 1] := by rw [show len / 4096 = 0 by omega]; rfl
    rw [hr]
    by_cases h2 : 4096 * (off / 4096 + 1) < off + len <;> simp [hfirst, h2]

theorem blockPart_first (h : off + len ≤ 4096 * (off / 4096 + 1)) : blockPart off len (off / 4096) = (off, len) := by
  have hmax : Nat.max off (4096 * (off / 4096)) = off := Nat.max_eq_left (by omega)
  have hmin : Nat.min (off + len) (4096 * (off / 4096 + 1)) = off + len := Nat.min_eq_left h
  simp only [blockPart, hmax, hmin, Nat.add_sub_cancel_left]

theorem blockPart_before (h : 4096 * (off / 4096 + 1) < off + len) :
    blockPart off len (off / 4096) = (off, 4096 * (off / 4096 + 1) - off) := by
  have hmax : Nat.max off (4096 * (off / 4096)) = off := Nat.max_eq_left (by omega)
  have hmin : Nat.min (off + len) (4096 * (off / 4096 + 1)) = 4096 * (off / 4096 + 1) := Nat.min_eq_right (Nat.le_of_lt h)
  simp only [blockPart, hmax, hmin]

theorem blockPart_after (hhi : len ≤ 4096) :
    blockPart off len (off / 4096 + 1) = (4096 * (off / 4096 + 1), off + len - 4096 * (off / 4096 + 1)) := by
  have hmax : Nat.max off (4096 * (off / 4096 + 1)) = 4096 * (off / 4096 + 1) := Nat.max_eq_right (by omega)
  have hmin : Nat.min (off + len) (4096 * (off / 4096 + 1 + 1)) = off + len := Nat.min_eq_left (by omega)
  simp only [blockPart, hmax, hmin]

theorem State.busWrite_on {bs : List Byte} (h : s.storeOn off bs.length = true) :
    s.busWrite m off bs = (s.storeWrite off bs, true) := if_pos h

section
variable {bs : List Byte} {b c k : Nat} (hp : ∀ g < 8, s.powered (32 + g) = true) (hlt : off + bs.length ≤ 0x2000000)
include hp hlt

theorem State.barWrite_one (hblocks : blocksOf off bs.length = [b]) (hpart : blockPart off bs.length b = (off, bs.length)) :
    ∃ bad, s.barWrite off bs = { s with store := s.store.writeList off bs, storeBad := bad } := by
  have hon : s.storeOn off bs.length = true := State.storeOn_all hlt hp
  unfold State.barWrite
  rw [hblocks]
  simp only [List.foldl_cons, List.foldl_nil, hpart, Nat.sub_self, List.drop_zero, List.take_length, State.busWrite_on hon]
  exact ⟨_, rfl⟩

theorem State.barWrite_two (hblocks : blocksOf off bs.length = [b, c]) (hk : k ≤ bs.length)
    (hfirst : blockPart off bs.length b = (off, k)) (hsecond : blockPart off bs.length c = (off + k, bs.length - k)) :
    ∃ bad, s.barWrite off bs = { s with store := s.store.writeList off bs, storeBad := bad } := by
  have hlen1 : (bs.take k).length = k := by rw [List.length_take]; omega
  have hlen2 : (bs.drop k).length = bs.length - k := List.length_drop
  have hrest : (bs.drop k).take (bs.length - k) = bs.drop k := List.take_of_length_le (Nat.le_of_eq hlen2)
  have hon1 : s.storeOn off (bs.take k).length = true := State.storeOn_all (by omega) hp
  have hon2 : (s.storeWrite off (bs.take k)).storeOn (off + k) (bs.drop k).length = true := State.storeOn_all (by omega) hp
  have happ := Memory.writeList_append s.store off (bs.take k) (bs.drop k)
  rw [List.take_append_drop, hlen1] at happ
  unfold State.barWrite
  rw [hblocks]
  simp only [List.foldl_cons, List.foldl_nil, hfirst, hsecond, Nat.sub_self, List.drop_zero, Nat.add_sub_cancel_left, hrest,
    State.busWrite_on hon1, State.busWrite_on hon2, Bool.and_self, if_true, happ]
  exact ⟨_, rfl⟩

end

/-- With power in every bank, a write within the window stores its bytes, in one part or in two. -/
theorem State.barWrite_on {bs : List Byte} (hlo : 1 ≤ bs.length) (hhi : bs.length ≤ 4096) (hlt : off + bs.length ≤ 0x2000000)
    (hp : ∀ g < 8, s.powered (32 + g) = true) :
    ∃ bad, s.barWrite off bs = { s with store := s.store.writeList off bs, storeBad := bad } := by
  have hblocks := blocksOf_two (off := off) hlo hhi
  by_cases htwo : 4096 * (off / 4096 + 1) < off + bs.length
  · rw [if_pos htwo] at hblocks
    refine State.barWrite_two hp hlt hblocks (k := 4096 * (off / 4096 + 1) - off) (by omega) (blockPart_before htwo) ?_
    rw [blockPart_after hhi, Prod.mk.injEq]
    constructor <;> omega
  · rw [if_neg htwo] at hblocks
    exact State.barWrite_one hp hlt hblocks (blockPart_first (Nat.le_of_not_lt htwo))

theorem State.barRead_good (hon : s.storeOn off len = true) (hgood : s.storeBad = []) :
    s.barRead off len = s.emit (.bar4Data ((List.range len).map (fun i => s.store.read (off + i))) false) := by
  simp [State.barRead, hon, State.storeBadAt_none hgood, State.storeRead, Memory.readList_eq_map]

theorem State.barRead_bad (hon : s.storeOn off len = true) (hbad : s.storeBad = [e]) (hlo : off ≤ e) (hhi : e < off + len) :
    s.barRead off len =
      ((s.storeError e).emit (.bar4Data ((List.range len).map (fun i => s.store.read (off + i))) true)).aer aerPoisoned := by
  simp [State.barRead, hon, State.storeBadAt_one hbad hlo hhi, State.storeRead, Memory.readList_eq_map]

theorem State.barRead_off (hoff : s.storeOn off len = false) :
    s.barRead off len = (s.decodeError (0x100000000 + off) 0 false).barAbort := by
  simp [State.barRead, hoff]

/-- A request inside the window that the host makes while the function answers. -/
theorem exec_bar4Access_inside {data : Option (List Byte)} (hok : bar4Ok off len = true) (hears : s.hostHears = true)
    (hd3 : s.pcie.d3 = false) (hmode : s.misc.mode ≠ 3) : exec (.bar4Access off len data) s = .next (s.barAccess off len data) := by
  refine (if_neg (by simp [hok])).trans (congrArg Host.Outcome.next ?_)
  simp [State.fromHost, hears, hd3, hmode]

theorem exec_bar4Access_d3 {data : Option (List Byte)} (hok : bar4Ok off len = true) (hears : s.hostHears = true)
    (hd3 : s.pcie.d3 = true) : exec (.bar4Access off len data) s = .next ((s.emit .unsupported).aer aerUnsupported) := by
  refine (if_neg (by simp [hok])).trans (congrArg Host.Outcome.next ?_)
  simp [State.fromHost, hears, hd3]

end

/-- Settles O41: the atomic views of a store word, and the store behind BAR4. -/
theorem storeWindows : Obligations.StoreWindows := by
  unfold Obligations.StoreWindows
  intro m off len b s w word opnd e atomically
  have halias (swap : Bool) : exec (if swap then .compareSwap m off len else .fetchAdd m off len) s =
      .next (s.aliasRead m.toNat (atomicBase swap + off) len) := by cases swap <;> rfl
  refine ⟨fun hid => ?_, fun hm hlo hw hlt hon => ⟨fun hgood => ?_, fun hbad i hi => ?_⟩, fun hout => ?_, fun hlo hhi hlt hears =>
    ⟨fun hd3 => ?_, fun hd3 hmode => ⟨fun hclr => ?_, fun hclr hall => ⟨fun hgood => ?_, fun hbad hle hge => ?_, fun hlen => ?_⟩,
      fun hclr hoff => ?_⟩⟩⟩
  · have hnone (swap : Bool) : s.aliasRead m.toNat (atomicBase swap + off) len = s := if_neg (by simp [hid])
    exact ⟨(halias false).trans (congrArg _ (hnone false)), (halias true).trans (congrArg _ (hnone true))⟩
  · have hp := State.powered_of_isOn hon
    have hboth (swap : Bool) (new : Nat) (hnew : s.atomicNew m.toNat off swap = new) :
        atomically (if swap then .compareSwap m off len else .fetchAdd m off len) new := by
      subst hnew
      obtain ⟨t, ht, hframe, hout, hold, hkeep, hnew, hother⟩ := State.atomic_leaves (s := s) (m := m.toNat) (off := off) swap
        ((List.range len).map (fun i => s.store.read (off + i))) hgood
      refine ⟨t, ?_, hframe, hout, hold, hkeep, hnew, hother⟩
      rw [halias, State.aliasRead_atomic swap hm hlt hw hp hgood, ht]
    exact ⟨hboth false _ (if_neg Bool.false_ne_true), hboth true _ (if_pos rfl)⟩
  · have hp := State.powered_of_isOn hon
    have hboth (swap : Bool) : exec (if swap then .compareSwap m off len else .fetchAdd m off len) s = .next (s.storeError w) := by
      rw [halias, State.aliasRead_bad swap hm hlt hw hp hbad]
    have hi' : exec i s = .next (s.storeError w) := by
      rcases eq_or_eq_of_mem_pair hi with rfl | rfl
      · exact hboth false
      · exact hboth true
    exact ⟨_, hi', s.storeError_frame w, by simp, by simp, by simp, State.reg_storeErrAddr_storeError, State.pend_storeError⟩
  · have hbad : bar4Ok off len = false := by
      unfold bar4Ok
      rcases hout with h | h | h <;> simp <;> omega
    exact ⟨if_pos (by simp [hbad]), if_pos (by simp [hbad])⟩
  all_goals have hok : bar4Ok off len = true := by simp [bar4Ok, hlo, hhi, hlt]
  · refine ⟨_, exec_bar4Access_d3 hok hears hd3, ?_, ?_, State.bit_aer (by decide), State.pend_aer _⟩
    · rw [State.aer_frame]; rfl
    · rw [State.aer_frame]; rfl
  all_goals have hexec {data} := exec_bar4Access_inside (data := data) hok hears hd3 hmode
  · exact hexec.trans (congrArg Host.Outcome.next (if_pos hclr))
  all_goals have hread : s.barAccess off len none = s.barRead off len := if_neg (by simp [hclr])
  · have hon : s.storeOn off len = true := State.storeOn_all hlt fun g hg => State.powered_of_isOn (hall g hg)
    exact hexec.trans (congrArg Host.Outcome.next (hread.trans (State.barRead_good hon hgood)))
  · have hon : s.storeOn off len = true := State.storeOn_all hlt fun g hg => State.powered_of_isOn (hall g hg)
    have hclear : Reg.storeErrAddr.clearOf 453 := by unfold Reg.clearOf; decide
    refine ⟨_, hexec.trans (congrArg Host.Outcome.next (hread.trans (State.barRead_bad hon hbad hle hge))), ?_, ?_,
      State.bit_aer (by decide), State.pend_aer _, State.pend_aer_kept _ State.pend_storeError, ?_⟩
    · rw [State.aer_frame, State.storeError_frame]; rfl
    · rw [State.aer_frame, State.storeError_frame]; rfl
    · exact (State.reg_aer _ hclear).trans State.reg_storeErrAddr_storeError
  · have hwrite : s.barAccess off len (some b) = s.barWrite off b := if_neg (by simp [hclr])
    subst hlen
    obtain ⟨bad, hbad⟩ := State.barWrite_on hlo hhi hlt fun g hg => State.powered_of_isOn (hall g hg)
    exact ⟨_, hexec.trans (congrArg Host.Outcome.next (hwrite.trans hbad)), rfl, rfl⟩
  · have hclear : Reg.mtxErrAddrLo.clearOf 453 ∧ Reg.mtxErrAddrLo.clearOf 490 := by unfold Reg.clearOf; decide
    refine ⟨_, hexec.trans (congrArg Host.Outcome.next (hread.trans (State.barRead_off (State.storeOn_off hlo hoff)))), ?_, ?_,
      State.bit_aer (by decide), State.pend_aer _, ?_, State.pend_aer_kept _ (State.pend_raise _ 490)⟩
    · rw [State.barAbort, State.aer_frame]
      exact State.ext_parts (by simp [State.emit])
    · rw [State.barAbort, State.aer_frame]
      simp [State.emit]
    · refine (State.reg_aer _ hclear.1).trans ((State.reg_raise _ _ hclear.2).trans ?_)
      have hinfo : Reg.mtxErrAddrLo.off ≠ Reg.mtxErrInfo.off := by decide
      have hhi' : Reg.mtxErrAddrLo.off ≠ Reg.mtxErrAddrHi.off := by decide
      have hcount : Reg.mtxErrAddrLo.off ≠ (Reg.mtxCount 0).off := by decide
      simp only [State.bump_eq, State.reg_setReg, if_neg hinfo, if_neg hhi', if_neg hcount, if_true]
      refine BitVec.eq_of_toNat_eq ?_
      rw [BitVec.toNat_ofNat, BitVec.toNat_ofNat]
      omega

end Sys2Proof.Machine
end

section
/-!
PROOF. Proofs/DoorbellsAndLinkStates.lean: doorbells (R269, R274), the states of the function (R264, R283), the requests that no BAR
serves, and the moderation timer (R282).
-/
namespace Sys2Proof.Machine

section
variable {s : State}

/-! ### Doorbells -/

/-- A doorbell while the function hears the host and the queue engine is in service acts; before that it does nothing. -/
theorem State.doorbell_eq (hears : s.hostHears = true) (hd3 : s.pcie.d3 = false) (g : State → State) :
    s.doorbell g = if bit (s.reg .qeStatus) 0 then g s else s := by
  simp [State.doorbell, State.fromHost, hears, hd3]

/-- A value that is refused is counted and reported. -/
theorem State.doorbellError_leaves (s : State) : ∃ t, s.doorbellError = t ∧ t = { s with srcs := t.srcs, regs := t.regs } ∧
    t.reg (.qeCount 5) = s.reg (.qeCount 5) + 1 ∧ (t.src 450).pend = true := by
  have hclear : (Reg.qeCount 5).clearOf 450 := by unfold Reg.clearOf; decide
  refine ⟨_, rfl, State.ext_parts (by simp [State.doorbellError]), ?_, State.pend_raise _ 450⟩
  unfold State.doorbellError
  rw [State.reg_raise _ _ hclear]
  simp

theorem State.cqRoom_none {k : Nat} {now : Bool} (h : (s.cq k).held = []) : s.cqRoom now k = s := by
  simp [State.cqRoom, h]

theorem State.headDoorbell_inRange {k : Nat} {v : W32} (hears : s.hostHears = true) (hd3 : s.pcie.d3 = false)
    (hready : bit (s.reg .qeStatus) 0 = true) (hheld : (s.cq k).held = []) (hok : (s.cq k).headOk (fld v 11 0) = true) :
    s.headDoorbell k v = s.setCq k { s.cq k with head := fld v 11 0 } := by
  unfold State.headDoorbell
  rw [State.doorbell_eq hears hd3, if_pos hready, if_pos hok, State.cqRoom_none (by simp [hheld])]
  rfl

theorem State.headDoorbell_wrong {k : Nat} {v : W32} (hears : s.hostHears = true) (hd3 : s.pcie.d3 = false)
    (hready : bit (s.reg .qeStatus) 0 = true) (hok : (s.cq k).headOk (fld v 11 0) = false) :
    s.headDoorbell k v = s.doorbellError := by
  unfold State.headDoorbell
  rw [State.doorbell_eq hears hd3, if_pos hready, if_neg (by simp [hok])]

/-! ### The function leaves or enters a state -/

theorem State.flushPba_none (h : s.pcie.pba = []) : s.flushPba = s := by
  have hnone : (List.range 64).filter (fun _ => false) = [] := List.filter_eq_nil_iff.mpr fun _ _ => Bool.false_ne_true
  simp [State.flushPba, h, State.forEach, hnone]

/-- Nothing is held, and no message is pending. -/
def State.Quiet (s : State) : Prop :=
  s.engine.heldC = [] ∧ s.engine.heldE = [] ∧ s.pcie.pba = [] ∧ ∀ k < 65, (s.cq k).held = []

theorem State.releaseHeld_quiet (h : s.Quiet) : s.releaseHeld = s := by
  obtain ⟨hc, he, hpba, hheld⟩ := h
  have hengine : { s with engine := { s.engine with heldC := [], heldE := [] } } = s := by
    have heq : ({ s.engine with heldC := [], heldE := [] } : Engine) = s.engine := by rw [← hc, ← he]
    rw [heq]
  have hroom : s.forEach (List.range 64) (State.cqRoom · false ·) = s := State.forEach_eq_self fun k hk =>
    State.cqRoom_none (hheld k (Nat.lt_succ_of_lt (List.mem_range.mp hk)))
  have hmod : s.forEach (List.range 64) (fun t k => t.moderateN k ((s.cq k).held.length + 0 - (s.cq k).held.length)) = s :=
    State.forEach_eq_self fun k _ => by rw [Nat.add_zero, Nat.sub_self]; rfl
  unfold State.releaseHeld
  split
  · rfl
  · simp only [hengine, hroom, hc, he]
    exact (congrArg State.flushPba hmod).trans (State.flushPba_none hpba)

theorem State.Quiet.congr {t : State} (h : s.Quiet) (hengine : t.engine = s.engine) (hpba : t.pcie.pba = s.pcie.pba)
    (hcqs : t.cqs = s.cqs) : t.Quiet := by
  obtain ⟨hc, he, hp, hheld⟩ := h
  exact ⟨by rw [hengine]; exact hc, by rw [hengine]; exact he, hpba.trans hp, fun k hk => by
    have hcq : t.cq k = s.cq k := by unfold State.cq; rw [hcqs]
    rw [hcq]; exact hheld k hk⟩

/-- The function's configuration changes while nothing is held: the source is raised where there is a change. -/
theorem State.releaseHeld_change (h : s.Quiet) (p : Pcie) (b : Bool) (i : Nat) (hpba : p.pba = s.pcie.pba) :
    ∃ t, (State.raiseIf { s with pcie := p } b i).releaseHeld = t ∧ t = { s with pcie := t.pcie, srcs := t.srcs, regs := t.regs } ∧
      t.pcie = p ∧ (b = true → (t.src i).pend = true) ∧ (b = false → t.srcs = s.srcs) := by
  have hframe := State.raiseIf_frame (s := { s with pcie := p }) (i := i) b
  have hquiet : (State.raiseIf { s with pcie := p } b i).Quiet :=
    h.congr (by rw [hframe]) (by rw [hframe]; exact hpba) (by rw [hframe])
  refine ⟨_, State.releaseHeld_quiet hquiet, ?_, ?_, fun hb => ?_, fun hb => ?_⟩
  · rw [hframe]
  · rw [hframe]
  · subst hb; exact State.pend_raise _ i
  · subst hb; rfl

/-! ### Requests that no BAR serves -/

/-- What AER leaves: the status bit, and the header of the first error. -/
theorem State.aer_leaves (s : State) {b : Nat} (hb : b < 32) : ∃ t, s.aer b = t ∧
    t = { s with free := t.free, pcie := t.pcie, out := t.out, srcs := t.srcs, regs := t.regs } ∧
    t.pcie = { s.pcie with aer := t.pcie.aer, hdr := t.pcie.hdr } ∧ bit t.pcie.aer b = true ∧
    (s.pcie.aer ≠ 0 → t.pcie.hdr = s.pcie.hdr) ∧ (t.src 453).pend = true ∧ t.out = s.out := by
  refine ⟨_, rfl, ?_, ?_, State.bit_aer hb, fun h => ?_, State.pend_aer b, by rw [State.aer_frame]⟩
  · rw [State.aer_frame]
  · unfold State.aer; rw [State.raise_frame]
  · unfold State.aer; rw [State.raise_frame]; exact if_neg h

/-! ### MODERATION_TIMER -/

theorem State.signal_sent {v : Nat} (hmsix : s.pcie.msix = true) (hheld : s.qeHeld = false) (hf : s.pcie.fmask = false)
    (hv : s.vecMasked v = false) (hpba : v ∉ s.pcie.pba) : s.signal v = s.sendMsix v := by
  have hd3 : s.pcie.d3 = false := by
    unfold State.qeHeld at hheld
    simp_all
  simp [State.signal, hmsix, hd3, hheld, hf, hv, hpba]

theorem State.sendMsix_leaves (s : State) (v : Nat) : ∃ t, s.sendMsix v = t ∧ t = { s with regs := t.regs, out := t.out } ∧
    t.out.length = s.out.length + 1 ∧ t.reg (.qeCount 7) = s.reg (.qeCount 7) + 1 :=
  ⟨_, rfl, State.ext_parts (by simp [State.sendMsix]), by simp [State.sendMsix], by simp [State.sendMsix]⟩

/-- A request that no BAR serves, while the function hears the host. -/
theorem exec_unsupportedRequest_heard (r : BadRequest) (hears : s.hostHears = true) : exec (.unsupportedRequest r) s =
    .next (if r = .poisonedWrite then s.aer aerPoisoned else (s.emit .unsupported).aer aerUnsupported) := by
  refine congrArg Host.Outcome.next ((if_neg (by simp [hears])).trans ?_)
  cases r <;> rfl

end

/-- Settles O43: doorbells, the states of the function, refused requests and the moderation timer. -/
theorem doorbellsAndLinkStates : Obligations.DoorbellsAndLinkStates := by
  unfold Obligations.DoorbellsAndLinkStates
  intro q v up e f g sp wd vec s n size x live quiet wrong inRange
  have hwrong (i : Instr) (h : exec i s = .next s.doorbellError) : wrong i := by
    obtain ⟨t, ht, hleaves⟩ := s.doorbellError_leaves
    exact ⟨t, ht ▸ h, hleaves⟩
  have hquiet : quiet → s.Quiet := fun ⟨hc, he, hp, hheld⟩ => ⟨hc, he, hp, hheld⟩
  refine ⟨fun hears hd3 hready i hi => ?_, fun ⟨hears, hd3, hready⟩ => ⟨fun hlt => ?_, fun hge => ?_, ?_, fun hheld hok => ?_,
    fun hok => ?_, fun hheld hok => ?_, fun hok => ?_⟩, fun hpba => ?_, fun hq => ?_, fun hq => ?_, fun hq => ?_,
    fun hears i hi => ?_, fun hears i hi => ?_, fun hoff => ?_, fun hon hien => ?_, fun hon hien hmsix hheld hfm hvm hpba => ?_⟩
  · have hnone (k : State → State) : s.doorbell k = s := by rw [State.doorbell_eq hears hd3, if_neg (by simp [hready])]
    simp only [List.mem_cons, List.not_mem_nil, or_false] at hi
    rcases hi with rfl | rfl | rfl | rfl <;> exact congrArg Host.Outcome.next (hnone _)
  · refine congrArg Host.Outcome.next ((State.doorbell_eq hears hd3 _).trans ((if_pos hready).trans ?_))
    exact if_pos hlt
  · refine hwrong _ (congrArg Host.Outcome.next ((State.doorbell_eq hears hd3 _).trans ((if_pos hready).trans ?_)))
    exact if_neg (Nat.not_lt.mpr hge)
  · exact congrArg Host.Outcome.next ((State.doorbell_eq hears hd3 _).trans (if_pos hready))
  · exact congrArg Host.Outcome.next (State.headDoorbell_inRange hears hd3 hready hheld hok)
  · exact hwrong _ (congrArg Host.Outcome.next (State.headDoorbell_wrong hears hd3 hready hok))
  · exact congrArg Host.Outcome.next (State.headDoorbell_inRange hears hd3 hready hheld hok)
  · exact hwrong _ (congrArg Host.Outcome.next (State.headDoorbell_wrong hears hd3 hready hok))
  · cases vec with
    | none =>
      exact ⟨_, congrArg Host.Outcome.next (State.flushPba_none hpba), rfl, rfl, fun k hk => absurd hk nofun⟩
    | some k =>
      refine ⟨_, congrArg Host.Outcome.next (State.flushPba_none hpba), rfl, rfl, fun k' hk => ?_⟩
      obtain rfl := Option.some.inj hk
      have hreg (j : Nat) : (s.updReg (.msixTab (4 * k + 3)) (fun w => setBit w 0 false)).vecMasked j =
          if j = k then false else s.vecMasked j := by
        unfold State.vecMasked
        rw [State.updReg_eq, State.reg_setReg]
        by_cases hj : j = k
        · rw [if_pos hj, if_pos (by rw [hj])]
          exact bit_setBit_same _ (by decide) false
        · rw [if_neg hj, if_neg (by simp only [Reg.off]; omega)]
      exact ⟨(hreg k).trans (if_pos rfl), fun j hj => (hreg j).trans (if_neg hj)⟩
  · obtain ⟨t, ht, hframe, hpcie, hchg, hkeep⟩ := State.releaseHeld_change (hquiet hq)
      { s.pcie with d3 := e, pmeEn := f, pmeSt := s.pcie.pmeSt && !g } (s.pcie.d3 != e) 454 rfl
    refine ⟨t, congrArg Host.Outcome.next ht, hframe, hpcie, fun hne => hchg (by simpa using hne), fun heq => hkeep (by simp [heq]),
      fun he => ?_⟩
    simp [State.qeHeld, hpcie, he]
  · exact congrArg Host.Outcome.next (State.releaseHeld_quiet ((hquiet hq).congr rfl rfl rfl))
  · obtain ⟨t, ht, hframe, hpcie, hchg, hkeep⟩ := State.releaseHeld_change (hquiet hq)
      { s.pcie with up := up && s.hostHears, speed := sp, width := wd }
      (decide ({ s.pcie with up := up && s.hostHears, speed := sp, width := wd } ≠ s.pcie)) 452 rfl
    refine ⟨t, congrArg Host.Outcome.next ht, hframe, hpcie, fun hne => hchg (decide_eq_true (hpcie ▸ hne)),
      fun heq => hkeep (decide_eq_false (by rw [← hpcie]; exact not_not_intro heq)), fun hup => ?_⟩
    simp [State.qeHeld, hpcie, hup]
  · exact congrArg Host.Outcome.next (if_pos (by simp [hears]))
  · have hexec := exec_unsupportedRequest_heard i hears
    by_cases hpoison : i = .poisonedWrite
    · obtain ⟨t, ht, hframe, hpcie, hbit, hhdr, hpend, hout⟩ := s.aer_leaves (b := aerPoisoned) (by decide)
      rw [if_pos hpoison, ht] at hexec
      rw [if_pos hpoison, if_pos hpoison]
      exact ⟨t, hexec, hframe, hpcie, hbit, hhdr, hpend, hout⟩
    · obtain ⟨t, ht, hframe, hpcie, hbit, hhdr, hpend, hout⟩ := (s.emit .unsupported).aer_leaves (b := aerUnsupported) (by decide)
      rw [if_neg hpoison, ht] at hexec
      rw [if_neg hpoison, if_neg hpoison]
      exact ⟨t, hexec, hframe, hpcie, hbit, hhdr, hpend, hout⟩
  · exact congrArg Host.Outcome.next (if_neg (by simpa using hoff))
  · refine congrArg Host.Outcome.next ((if_pos hon).trans ((if_neg (by simp [hien])).trans ?_))
    rfl
  · obtain ⟨t, ht, hframe, hout, hcount⟩ :=
      (s.updCq q (fun c => { c with cnt := 0, timerOn := false })).sendMsix_leaves (s.cq q).vec
    have hsig : s.cqSignal q = t := (State.signal_sent (s := s.updCq q (fun c => { c with cnt := 0, timerOn := false }))
      hmsix hheld hfm hvm hpba).trans ht
    have hcqs : t.cqs = (s.updCq q (fun c => { c with cnt := 0, timerOn := false })).cqs := by rw [hframe]
    refine ⟨t, congrArg Host.Outcome.next ((if_pos hon).trans ((if_pos hien).trans hsig)), ?_, ?_, hout, hcount⟩
    · rw [hframe]; rfl
    · unfold State.cq at hcqs ⊢
      rw [hcqs]
      exact (Tab.get_set ..).trans (if_pos rfl)

end Sys2Proof.Machine
end

section
/-!
PROOF. Proofs/Generations.lean: building, verifying and adopting generations (R180 to R188): what giving buffers back leaves alone, the
descriptor that a state names, the word of GEN_STATUS, and the windows that MRD_CTL restarts.
-/
namespace Sys2Proof.Machine

/-! ### Giving buffers back -/

/-- A register of Mordant's own, which no edge and no error record counts in. -/
def Reg.mordant (r : Reg) : Prop := 0xB000 ≤ r.off ∧ r.off < 0xB080

theorem Reg.mordant.clearOf {r : Reg} (h : r.mordant) {i : Nat} (hi : i < 512) : r.clearOf i := by
  obtain ⟨hlo, hhi⟩ := h
  have hsrc (n : Nat) : (Reg.srcCount n).off = 0x4004 + 8 * n := rfl
  have hevc (n : Nat) : (Reg.evcCount n).off = 0x2200 + 4 * n := rfl
  unfold Reg.clearOf
  rw [hsrc, hsrc, hevc, hevc]
  omega

/-- The state t comes of s by giving buffers back, by table pages that leave their frames, and by changes of descriptors; ALLOC_LOW
and other sources may be raised. -/
structure State.Frees (s t : State) : Prop where
  /-- What may change. -/
  frame : t = { s with regs := t.regs, clusters := t.clusters, alloc := t.alloc, gens := t.gens, srcs := t.srcs }
  /-- The registers of Mordant stay. -/
  reg : ∀ r : Reg, r.mordant → t.reg r = s.reg r
  /-- What is pending stays so. -/
  pend : ∀ i, (s.src i).pend = true → (t.src i).pend = true

section
variable {s t u : State} {i j k b n : Nat}

theorem State.Frees.refl (s : State) : s.Frees s := ⟨rfl, fun _ _ => rfl, fun _ => id⟩

theorem State.Frees.trans (h : s.Frees t) (h' : t.Frees u) : s.Frees u := by
  refine ⟨?_, fun r hr => (h'.reg r hr).trans (h.reg r hr), fun i hi => h'.pend i (h.pend i hi)⟩
  rw [h'.frame, h.frame]

theorem State.frees_forEach {α : Type} {g : State → α → State} (h : ∀ t a, State.Frees t (g t a)) (l : List α) (s : State) :
    s.Frees (s.forEach l g) := by
  induction l generalizing s with
  | nil => exact .refl s
  | cons a l ih => exact (h s a).trans (ih (g s a))

theorem State.frees_setGen (s : State) (i : Nat) (g : Gen) : s.Frees (s.setGen i g) := ⟨rfl, fun _ _ => rfl, fun _ => id⟩

theorem State.frees_dropPages (s : State) (c : Nat) (p : PageId → Bool) : s.Frees (s.dropPages c p) :=
  ⟨rfl, fun _ _ => rfl, fun _ => id⟩

theorem State.frees_setCls_low (s : State) (k : Nat) (a : AllocClass) : s.Frees (s.setCls_low k a) := by
  unfold State.setCls_low
  dsimp only
  refine ⟨?_, fun r hr => State.reg_raiseIf _ _ (hr.clearOf (by decide)),
    fun i hi => State.pend_raiseIf_kept _ _ hi⟩
  rw [State.raiseIf_frame]
  rfl

theorem State.frees_allocFree (s : State) (k b : Nat) : s.Frees (s.allocFree k b) := by
  unfold State.allocFree
  dsimp only
  split
  · exact s.frees_setCls_low ..
  · exact .refl s

theorem State.frees_freeGen (s : State) (i : Nat) : s.Frees (s.freeGen i) :=
  ((s.frees_setGen i Gen.reset).trans (State.frees_forEach (fun t b => t.frees_allocFree 3 b) _ _)).trans
    (State.frees_forEach (fun t c => t.frees_dropPages c _) _ _)

theorem State.frees_raise (s : State) {i : Nat} (hi : i < 512) : s.Frees (s.raise i) := by
  refine ⟨?_, fun r hr => State.reg_raise _ _ (hr.clearOf hi), fun j hj => State.pend_raise_kept _ hj⟩
  rw [State.raise_frame]

/-- A write of a register that is not Mordant's. -/
theorem State.frees_setReg (s : State) {r : Reg} (h : ¬ r.mordant) (v : W32) : s.Frees (s.setReg r v) :=
  ⟨rfl, fun q hq => by rw [State.reg_setReg, if_neg (fun heq => h (by unfold Reg.mordant at hq ⊢; rwa [← heq]))], fun _ => id⟩

theorem State.frees_setFault (s : State) (n : Nat) : s.Frees (s.setFault n) := by
  have hstatus : ¬ Reg.faultStatus.mordant := by unfold Reg.mordant; decide
  unfold State.setFault State.faultEdge State.raiseIf
  split
  · exact (s.frees_setReg hstatus _).trans (State.frees_raise _ (by decide))
  · exact s.frees_setReg hstatus _

theorem State.frees_storeError (s : State) (a : Nat) : s.Frees (s.storeError a) := by
  have hcount : ¬ (Reg.accessFound 4).mordant := by unfold Reg.mordant; decide
  have haddr : ¬ Reg.storeErrAddr.mordant := by unfold Reg.mordant; decide
  have hrecord : s.Frees ((s.bump (.accessFound 4)).setReg .storeErrAddr (BitVec.ofNat 32 a)) :=
    (s.frees_setReg hcount _).trans (State.frees_setReg _ haddr _)
  exact (hrecord.trans (State.frees_setFault _ 1)).trans (State.frees_raise _ (by decide))

theorem State.frees_decodeError (s : State) (a m : Nat) (wr : Bool) : s.Frees (s.decodeError a m wr) := by
  have hlo : ¬ Reg.mtxErrAddrLo.mordant := by unfold Reg.mordant; decide
  have hhi : ¬ Reg.mtxErrAddrHi.mordant := by unfold Reg.mordant; decide
  have hinfo : ¬ Reg.mtxErrInfo.mordant := by unfold Reg.mordant; decide
  have hcount : ¬ (Reg.mtxCount 0).mordant := by unfold Reg.mordant; decide
  have hrecord : s.Frees ((((s.setReg .mtxErrAddrLo (BitVec.ofNat 32 a)).setReg .mtxErrAddrHi (BitVec.ofNat 32 (a / 2 ^ 32 % 256))).setReg
      .mtxErrInfo (BitVec.ofNat 32 (2 ^ 31 + 256 * (m % 256) + b2n wr))).bump (.mtxCount 0)) :=
    (((s.frees_setReg hlo _).trans (State.frees_setReg _ hhi _)).trans (State.frees_setReg _ hinfo _)).trans (State.frees_setReg _ hcount _)
  exact hrecord.trans (State.frees_raise _ (by decide))

/-! ### Descriptors -/

/-- A part that no step of a loop changes. -/
theorem State.forEach_part {α β : Type} (f : State → β) {g : State → α → State} (h : ∀ t a, f (g t a) = f t) (l : List α)
    (s : State) : f (s.forEach l g) = f s := by
  induction l generalizing s with
  | nil => rfl
  | cons a l ih => exact (ih (g s a)).trans (h s a)

theorem State.gens_setCls_low (k : Nat) (a : AllocClass) : (s.setCls_low k a).gens = s.gens := by
  unfold State.setCls_low
  dsimp only
  rw [State.raiseIf_frame]
  rfl

theorem State.gens_allocFree (s : State) (k b : Nat) : (s.allocFree k b).gens = s.gens := by
  unfold State.allocFree
  dsimp only
  split
  · exact State.gens_setCls_low ..
  · rfl

theorem State.gen_congr (h : t.gens = s.gens) (j : Nat) : t.gen j = s.gen j := by unfold State.gen; rw [h]

/-- A descriptor that goes FREE leaves the others. -/
theorem State.gen_freeGen (s : State) (i j : Nat) : (s.freeGen i).gen j = if j = i then Gen.reset else s.gen j := by
  unfold State.freeGen
  dsimp only
  rw [State.gen_congr (State.forEach_part State.gens (g := fun t c => t.dropPages c (PageId.isGen (s.gen i).num)) (fun _ _ => rfl) _ _),
    State.gen_congr (State.forEach_part State.gens (fun t b => t.gens_allocFree 3 b) _ _)]
  simp

theorem State.gen_forEach_freeGen (l : List Nat) (s : State) (j : Nat) :
    (s.forEach l (fun t i => t.freeGen i)).gen j = if j ∈ l then Gen.reset else s.gen j := by
  induction l generalizing s with
  | nil => rfl
  | cons i l ih =>
    refine (ih (s.freeGen i)).trans ?_
    rw [State.gen_freeGen]
    by_cases hi : j = i <;> by_cases hl : j ∈ l <;> simp [hi, hl]

/-- The first descriptor in a state. -/
def State.First (s : State) (n i : Nat) : Prop := i < 8 ∧ (s.gen i).st = n ∧ ∀ d < i, (s.gen d).st ≠ n

theorem State.genIn_first (h : s.First n i) : s.genIn n = some i := by
  obtain ⟨hi, hst, hbefore⟩ := h
  exact List.find?_range_eq_some.mpr ⟨by simpa using hst, by simpa using hi, fun d hd => by simpa using hbefore d hd⟩

theorem State.genIn_none (h : ∀ d < 8, (s.gen d).st ≠ n) : s.genIn n = none :=
  List.find?_range_eq_none.mpr fun d hd => by simpa using h d hd

theorem State.genIn_isSome : (s.genIn n).isSome = true ↔ ∃ d < 8, (s.gen d).st = n := by
  unfold State.genIn
  rw [List.find?_isSome]
  simp

/-! ### GEN_STATUS -/

/-- The word of GEN_STATUS after a result: its number, its result and its reason. -/
theorem fld_genStatus {a b c : Nat} (ha : a < 16) (hb : b < 4) (hc : c < 65536) :
    fld (BitVec.ofNat 32 (a * 2 ^ 28 + b * 2 ^ 24 + c)) 31 28 = a ∧ fld (BitVec.ofNat 32 (a * 2 ^ 28 + b * 2 ^ 24 + c)) 25 24 = b ∧
      fld (BitVec.ofNat 32 (a * 2 ^ 28 + b * 2 ^ 24 + c)) 15 0 = c := by
  have hlt : a * 2 ^ 28 + b * 2 ^ 24 + c < 2 ^ 32 := by omega
  simp only [fld, BitVec.toNat_ofNat, Nat.mod_eq_of_lt hlt]
  omega

theorem State.reg_genStatus_self (r m e : Nat) : (s.genStatus r m e).reg .genStatus =
    BitVec.ofNat 32 ((if r = 3 then e else fld (s.reg .genStatus) 31 28) * 2 ^ 28 + r * 2 ^ 24 + m % 65536) := by
  simp [State.genStatus]

theorem State.genStatus_frame (s : State) (r m e : Nat) : s.genStatus r m e = { s with regs := (s.genStatus r m e).regs } := rfl

theorem State.reg_genStatus_other {q : Reg} (h : q.off ≠ Reg.genStatus.off) (r m e : Nat) :
    (s.genStatus r m e).reg q = s.reg q := by simp [State.genStatus, h]

/-! ### The windows of the calibration slots -/

/-- The table of the slots after every window has restarted. -/
theorem Tab.get_restart {t : Tab CalSlot} {b k : Nat} (h : Tab.wfAbove (fun _ => CalSlot.reset) b t = true) :
    Tab.get (fun _ => CalSlot.reset) (t.filterMap (fun e =>
      let c := e.2.restart
      if c = CalSlot.reset then none else some (e.1, c))) k = (Tab.get (fun _ => CalSlot.reset) t k).restart ∧
    (k < b → Tab.get (fun _ => CalSlot.reset) t k = CalSlot.reset) := by
  induction t generalizing b with
  | nil => exact ⟨rfl, fun _ => rfl⟩
  | cons e t ih =>
    obtain ⟨a, v⟩ := e
    simp only [Tab.wfAbove, Bool.and_eq_true, decide_eq_true_eq] at h
    obtain ⟨⟨hle, _⟩, hrest⟩ := h
    obtain ⟨hget, hbelow⟩ := ih hrest
    refine ⟨?_, fun hk => ?_⟩
    · by_cases hv : v.restart = CalSlot.reset
      · by_cases hk : a = k
        · have hreset : CalSlot.reset.restart = CalSlot.reset := rfl
          rw [hbelow (by omega), hreset] at hget
          simp [Tab.get, hv, hk]
          simpa using hget
        · simp [Tab.get, hv, hk]
          simpa using hget
      · by_cases hk : a = k <;> simp [Tab.get, hv, hk]
        simpa using hget
    · simpa [Tab.get, show a ≠ k by omega] using hbelow (by omega)

/-! ### Building (R180) -/

theorem State.freeGen_only (hnamed : (s.gen i).bufs = [b]) (hdir : (s.gen i).dir = []) (hb : b ∉ s.otherBufs i) :
    s.freeGen i = ((s.setGen i Gen.reset).allocFree 3 b).forEach (List.range 32) (fun t c =>
      t.dropPages c (PageId.isGen (s.gen i).num)) := by
  have hgen : (s.gen i).named = [b] := by simp [Gen.named, hnamed, hdir, List.eraseDups_cons]
  have hgone : [b].filter (fun b => !(s.otherBufs i).contains b) = [b] := by simp [hb]
  unfold State.freeGen
  dsimp only
  rw [hgen]
  change ((s.setGen i Gen.reset).forEach ([b].filter (fun b => !(s.otherBufs i).contains b)) _).forEach _ _ = _
  rw [hgone]
  rfl

/-- A class after one of its buffers has been given back. -/
theorem State.cls_allocFree : (s.allocFree k b).cls k = { s.cls k with
    freeL := if (s.cls k).used.any (fun u => decide (u.1 = b)) then (s.cls k).freeL ++ [b] else (s.cls k).freeL,
    used := (s.cls k).used.filter (fun u => decide (u.1 ≠ b)) } := by
  unfold State.allocFree State.setCls_low
  dsimp only
  split
  · rw [State.raiseIf_frame]
    exact (Tab.get_set ..).trans (if_pos rfl)
  · next hnone =>
    have hkeep : (s.cls k).used.filter (fun u => decide (u.1 ≠ b)) = (s.cls k).used :=
      List.filter_eq_self.mpr fun u hu => by
        have hne : ¬ (u.1 = b) := fun heq => hnone (List.any_eq_true.mpr ⟨u, hu, decide_eq_true heq⟩)
        exact decide_eq_true hne
    rw [hkeep]

/-- A request of a holder without a reservation, in a class without any. -/
theorem State.allocAnswer_free (h : Holder) (hresv : (s.cls k).resv = []) : s.allocAnswer k h = (s.cls k).freeL.head? := by
  have hout : (s.cls k).outstanding = 0 := by simp [AllocClass.outstanding, AllocClass.holders, hresv, sumNat]
  have hres : (s.cls k).resvOf h = 0 := by simp [AllocClass.resvOf, hresv, sumNat]
  unfold State.allocAnswer
  simp only [hout, hres]
  cases (s.cls k).freeL <;> simp

/-! ### Verification (R181) -/

theorem State.frees_verifyReads (s : State) (i : Nat) (es cur : List DirEnt) : s.Frees (s.verifyReads i es cur) := by
  unfold State.verifyReads
  split
  · split
    · exact (s.frees_storeError _).trans (State.frees_decodeError _ _ _ _)
    · exact .refl s
  · split
    · exact s.frees_storeError _
    · exact .refl s
  · exact .refl s

theorem State.gens_verifyReads (s : State) (i : Nat) (es cur : List DirEnt) : (s.verifyReads i es cur).gens = s.gens := by
  unfold State.verifyReads
  split
  · split <;> simp
  · split <;> simp
  · rfl

/-- The directory of the CURRENT generation. -/
def State.currentDir (s : State) : List DirEnt := match s.genIn gCurrent with | some c => (s.gen c).dir | none => []

/-- The buffers that a directory names. -/
def dirBufs (es : List DirEnt) : List Nat := es.flatMap (fun e => if 8 < e.pages then [e.b0, e.b1] else [e.b0])

/-- D_STEP of a generation with the directory es. -/
def State.diffStep (s : State) (es : List DirEnt) : Nat :=
  if (s.diffBad es s.currentDir).isSome then Config.freeVal s.free % 65536 else diffDirs s.store es s.store s.currentDir

/-- D_BASE of it. -/
def State.diffBase (s : State) (es : List DirEnt) : Nat := diffDirs s.store es s.baseMem s.baseDir

/-- A generation that has passed its verification. -/
def State.passedGen (s : State) (i : Nat) (es : List DirEnt) : Gen := { s.gen i with
  st := gReady, dir := es, bufs := (s.gen i).bufs.filter (dirBufs es).contains, dStep := s.diffStep es, dBase := s.diffBase es }

/-- What a verification that passes leaves: GEN_DIFF, GEN_STATUS and GEN_READY. -/
def State.reportReady (s : State) (diff num : Nat) : State :=
  ((s.setReg .genDiff (BitVec.ofNat 32 diff)).genStatus 2 num 0).raise 405

theorem genDiff_mordant : Reg.genDiff.mordant := by unfold Reg.mordant; decide
theorem genStatus_mordant : Reg.genStatus.mordant := by unfold Reg.mordant; decide
theorem genDiff_off_ne : Reg.genDiff.off ≠ Reg.genStatus.off := by decide

theorem State.reportReady_frame (s : State) (diff num : Nat) : s.reportReady diff num = { s with
    regs := (s.reportReady diff num).regs, srcs := (s.reportReady diff num).srcs } :=
  State.ext_parts (by simp [State.reportReady, State.genStatus])

theorem State.reg_genDiff_reportReady (diff num : Nat) : (s.reportReady diff num).reg .genDiff = BitVec.ofNat 32 diff := by
  unfold State.reportReady
  rw [State.reg_raise _ _ (genDiff_mordant.clearOf (by decide)), State.reg_genStatus_other genDiff_off_ne, State.reg_setReg, if_pos rfl]

theorem State.reg_genStatus_reportReady (diff num : Nat) : (s.reportReady diff num).reg .genStatus =
    BitVec.ofNat 32 (fld (s.reg .genStatus) 31 28 * 2 ^ 28 + 2 * 2 ^ 24 + num % 65536) := by
  unfold State.reportReady
  rw [State.reg_raise _ _ (genStatus_mordant.clearOf (by decide)), State.reg_genStatus_self, if_neg (by decide), State.reg_setReg,
    if_neg genDiff_off_ne.symm]

theorem State.reg_reportReady {r : Reg} (h : r.mordant) (hns : r.off ≠ Reg.genStatus.off) (hnd : r.off ≠ Reg.genDiff.off)
    (diff num : Nat) : (s.reportReady diff num).reg r = s.reg r := by
  unfold State.reportReady
  rw [State.reg_raise _ _ (h.clearOf (by decide)), State.reg_genStatus_other hns, State.reg_setReg, if_neg hnd]

theorem State.Frees.frame_free {n : Nat} (h : s.Frees t) (h' : State.Frees { t with free := n } u) : u = { s with
    free := n, regs := u.regs, clusters := u.clusters, alloc := u.alloc, gens := u.gens, srcs := u.srcs } := by
  rw [h'.frame, h.frame]

/-- A verification that rejects nothing makes the generation READY; auto-adoption follows. -/
theorem State.verified_passed (h : s.verifyReason i = 0) :
    let es := s.readDir.map (·.1)
    ∃ u : State, s.verified i = (u.reportReady (s.diffBase es * 65536 + s.diffStep es) (s.gen i).num).autoAdopt i ∧
      u = { s with free := s.free + 1, regs := u.regs, clusters := u.clusters, alloc := u.alloc, gens := u.gens, srcs := u.srcs } ∧
      u.gens = (s.setGen i (s.passedGen i es)).gens ∧ ∀ r : Reg, r.mordant → u.reg r = s.reg r := by
  intro es
  have hreads := s.frees_verifyReads i es s.currentDir
  have hfrees : State.Frees { s.verifyReads i es s.currentDir with free := s.free + 1 }
      ((({ s.verifyReads i es s.currentDir with free := s.free + 1 } : State).setGen i (s.passedGen i es)).forEach
        ((s.gen i).bufs.filter (fun b => !(dirBufs es).contains b)) (fun s b => s.allocFree 3 b)) :=
    (State.frees_setGen _ _ _).trans (State.frees_forEach (fun t b => t.frees_allocFree 3 b) _ _)
  refine ⟨_, ?_, hreads.frame_free hfrees, ?_, fun r hr => (hfrees.reg r hr).trans (hreads.reg r hr)⟩
  · unfold State.verified
    simp only [h]
    rfl
  · refine (State.forEach_part State.gens (fun t b => t.gens_allocFree 3 b) _ _).trans ?_
    unfold State.setGen
    rw [State.gens_verifyReads]

/-- ENTRIES of 0 is rejected. -/
theorem State.verified_rejected {r : Nat} (h : s.verifyReason i = r) (hr : r ≠ 0) (hr4 : r ≠ 4) :
    s.verified i = State.rejectGen { s with free := s.free + 1 } i r := by
  unfold State.verified State.verifyReads
  rw [h]
  rcases r with _ | _ | _ | _ | _ | r
  · exact absurd rfl hr
  · rfl
  · rfl
  · rfl
  · exact absurd rfl hr4
  · rfl

/-! ### Auto-adoption (R184) -/

/-- What an auto-adoption leaves of the generation and of the device. -/
theorem State.autoAdopt_keeps (s : State) (i : Nat) : ∃ t, s.autoAdopt i = t ∧
    t = { s with regs := t.regs, gens := t.gens, srcs := t.srcs } ∧
    (∀ r : Reg, r.mordant → r.off ≠ (Reg.mrdCount 7).off → t.reg r = s.reg r) ∧
    (∀ j, (s.src j).pend = true → (t.src j).pend = true) ∧
    t.gen i = { s.gen i with st := (t.gen i).st, byHost := (t.gen i).byHost, retry := (t.gen i).retry } := by
  unfold State.autoAdopt
  dsimp only
  repeat' split
  · exact ⟨s, rfl, rfl, fun _ _ _ => rfl, fun _ => id, rfl⟩
  · refine ⟨_, rfl, State.ext_parts (by simp), fun r hr hoff => ?_, fun j hj => ?_, by simp⟩
    · rw [State.bump_eq, State.reg_setReg, if_neg hoff, State.reg_raise _ _ (hr.clearOf (by decide))]
      rfl
    · exact State.pend_raise_kept _ hj
  · exact ⟨_, rfl, rfl, fun _ _ _ => rfl, fun _ => id, by simp⟩
  · exact ⟨_, rfl, rfl, fun _ _ _ => rfl, fun _ => id, by simp [State.adopt]⟩

theorem State.autoAdopt_off (h : bit (s.reg .mrdCtl) 2 = false) : s.autoAdopt i = s := by simp [State.autoAdopt, h]

theorem State.autoAdopt_over (hon : bit (s.reg .mrdCtl) 2 = true)
    (h : fld (s.reg .adoptLimit) 15 0 < (s.gen i).dStep ∨ fld (s.reg .adoptLimit) 31 16 < (s.gen i).dBase) :
    s.autoAdopt i = ((s.updGen i (fun g => { g with retry := false })).raise 409).bump (.mrdCount 7) := by
  simp [State.autoAdopt, hon, h]

theorem State.autoAdopt_within (hon : bit (s.reg .mrdCtl) 2 = true)
    (hstep : (s.gen i).dStep ≤ fld (s.reg .adoptLimit) 15 0) (hbase : (s.gen i).dBase ≤ fld (s.reg .adoptLimit) 31 16) :
    s.autoAdopt i = if s.adopting then s.updGen i (fun g => { g with retry := true }) else s.adopt i false := by
  unfold State.autoAdopt
  simp only [hon, Bool.not_true, Bool.false_eq_true, if_false]
  rw [if_neg (by omega)]

/-! ### The adoption takes effect (R183) -/

/-- The CURRENT generation goes RETIRING, or FREE where nothing is bound to it. -/
def State.retireCurrent (s : State) : State :=
  match s.genIn gCurrent with
  | some c => if (s.gen c).refs = 0 then s.freeGen c else s.updGen c (fun g => { g with st := gRetiring })
  | none => s

theorem State.frees_retireCurrent (s : State) : s.Frees s.retireCurrent := by
  unfold State.retireCurrent
  split
  · split
    · exact s.frees_freeGen _
    · exact s.frees_setGen _ _
  · exact .refl s

theorem State.gen_retireCurrent (s : State) (j : Nat) : s.retireCurrent.gen j =
    if s.genIn gCurrent = some j then (if (s.gen j).refs = 0 then Gen.reset else { s.gen j with st := gRetiring }) else s.gen j := by
  unfold State.retireCurrent
  cases hc : s.genIn gCurrent with
  | none => simp
  | some c =>
    by_cases hj : j = c
    · subst hj
      by_cases hr : (s.gen j).refs = 0 <;> simp [hr, State.gen_freeGen]
    · have hcj : c ≠ j := Ne.symm hj
      by_cases hr : (s.gen c).refs = 0 <;> simp [hr, State.gen_freeGen, hj, hcj]

/-- The READY descriptors that were submitted before descriptor i. -/
def State.earlierReady (s : State) (i : Nat) : List Nat :=
  (List.range 8).filter (fun j => decide ((s.gen j).st = gReady) && decide ((s.gen j).order < (s.gen i).order))

/-- Descriptor i becomes CURRENT, and what it replaces goes. -/
def State.makeCurrent (s : State) (i : Nat) : State :=
  (s.retireCurrent.forEach (s.earlierReady i) (fun s j => s.freeGen j)).updGen i (fun g => { g with st := gCurrent })

theorem State.frees_makeCurrent (s : State) (i : Nat) : s.Frees (s.makeCurrent i) :=
  (s.frees_retireCurrent.trans (State.frees_forEach State.frees_freeGen _ _)).trans (State.frees_setGen _ _ _)

theorem State.gen_makeCurrent (s : State) (i j : Nat) : (s.makeCurrent i).gen j =
    if j = i then { (if i ∈ s.earlierReady i then Gen.reset else s.retireCurrent.gen i) with st := gCurrent }
    else if j ∈ s.earlierReady i then Gen.reset else s.retireCurrent.gen j := by
  unfold State.makeCurrent State.updGen
  rw [State.gen_setGen, State.gen_forEach_freeGen, State.gen_forEach_freeGen]

/-- The baseline follows an adoption by the host (R183). -/
def State.takeBaseline (s : State) (g : Gen) : State :=
  if g.byHost then
    let inDir (a : Nat) : Bool := g.dir.any (fun e => (List.range e.pages).any (fun k =>
      decide (e.pageAt k ≤ a) && decide (a < e.pageAt k + 2048)))
    { s with baseline := g.num, baseDir := g.dir, baseMem := s.store.filter (fun c => inDir c.1) }
  else s

theorem State.takeBaseline_frame (s : State) (g : Gen) : s.takeBaseline g = { s with
    baseline := if g.byHost then g.num else s.baseline, baseDir := (s.takeBaseline g).baseDir,
    baseMem := (s.takeBaseline g).baseMem } := by
  unfold State.takeBaseline
  split <;> rfl

/-- The adoption is reported. -/
def State.reportAdopted (s : State) (i : Nat) : State :=
  (((s.makeCurrent i).takeBaseline (s.gen i)).raise 407).bump (.mrdCount 6)

theorem State.gens_reportAdopted (s : State) (i : Nat) : (s.reportAdopted i).gens = (s.makeCurrent i).gens := by
  unfold State.reportAdopted
  rw [State.raise_frame, State.takeBaseline_frame]
  rfl

/-- Where no generation is to be reconsidered, nothing follows. -/
theorem State.adopted_eq (h : ∀ j < 8, ((s.makeCurrent i).gen j).retry = false) : s.adopted i = s.reportAdopted i := by
  have hnone : (List.range 8).filter (fun j => decide (((s.reportAdopted i).gen j).st = gReady) && ((s.reportAdopted i).gen j).retry) = [] :=
    List.filter_eq_nil_iff.mpr fun j hj => by
      rw [State.gen_congr (s.gens_reportAdopted i)]
      simp [h j (List.mem_range.mp hj)]
  change (s.reportAdopted i).forEach ((List.range 8).filter (fun j =>
    decide (((s.reportAdopted i).gen j).st = gReady) && ((s.reportAdopted i).gen j).retry)) (fun s j => s.autoAdopt j) = _
  rw [hnone]
  rfl

theorem State.loadGen_empty (h : s.First gLoading i) (hl : s.loadList (s.gen i).num = []) :
    s.loadGen = (s.raise 387).adopted i := by
  unfold State.loadGen
  rw [State.genIn_first h]
  simp only [hl]
  rfl

/-- What the adoption leaves. -/
theorem State.reportAdopted_leaves (s : State) (i : Nat) : ∃ t, s.reportAdopted i = t ∧
    t = { s with regs := t.regs, clusters := t.clusters, alloc := t.alloc, gens := t.gens, baseline := t.baseline, baseDir := t.baseDir, baseMem := t.baseMem, srcs := t.srcs } ∧
    (∀ j, (s.src j).pend = true → (t.src j).pend = true) ∧ (t.src 407).pend = true ∧
    t.reg (.mrdCount 6) = s.reg (.mrdCount 6) + 1 ∧ t.baseline = (if (s.gen i).byHost then (s.gen i).num else s.baseline) ∧
    ∀ j, t.gen j = (s.makeCurrent i).gen j := by
  have hcount : (Reg.mrdCount 6).mordant := by unfold Reg.mordant; decide
  have hfrees := s.frees_makeCurrent i
  have hgens := s.gens_reportAdopted i
  have hbase := State.takeBaseline_frame (s.makeCurrent i) (s.gen i)
  refine ⟨_, rfl, ?_, fun j hj => ?_, State.pend_raise _ 407, ?_, ?_, fun j => State.gen_congr hgens j⟩
  · unfold State.reportAdopted
    rw [State.raise_frame, hbase, hfrees.frame]
    rfl
  · refine State.pend_raise_kept (s := (s.makeCurrent i).takeBaseline (s.gen i)) (i := 407) ?_
    rw [hbase]
    exact hfrees.pend j hj
  · unfold State.reportAdopted
    rw [State.bump_eq, State.reg_setReg, if_pos rfl, State.reg_raise _ _ (hcount.clearOf (by decide)), hbase]
    exact congrArg (· + 1) (hfrees.reg _ hcount)
  · unfold State.reportAdopted
    rw [State.raise_frame, hbase, hfrees.frame]
    rfl

/-! ### The rows -/

theorem State.openGen_ignored (h : ¬ ((∀ d < 8, (s.gen d).st ≠ 1) ∧ ∀ d < 8, (s.gen d).st ≠ 2)) : s.openGen = s := by
  refine if_pos ?_
  rw [Bool.or_eq_true, State.genIn_isSome, State.genIn_isSome]
  refine Classical.byContradiction fun hnone => ?_
  simp only [not_or, not_exists, not_and] at hnone
  exact h hnone

theorem State.openGen_free (h1 : ∀ d < 8, (s.gen d).st ≠ 1) (h2 : ∀ d < 8, (s.gen d).st ≠ 2) (h : s.First gFree i) :
    s.openGen = { s.setGen i { Gen.reset with st := gBuilding, num := s.genNum % 65535 + 1 } with
      genNum := s.genNum % 65535 + 1 } := by
  unfold State.openGen
  rw [State.genIn_none (n := gBuilding) h1, State.genIn_none (n := gVerifying) h2, State.genIn_first h]
  rfl

theorem State.openGen_full (h1 : ∀ d < 8, (s.gen d).st ≠ 1) (h2 : ∀ d < 8, (s.gen d).st ≠ 2) (h : ∀ d < 8, (s.gen d).st ≠ 0) :
    s.openGen = s.setReg .genStatus (setFld (s.reg .genStatus) 31 28 5) := by
  unfold State.openGen
  rw [State.genIn_none (n := gBuilding) h1, State.genIn_none (n := gVerifying) h2, State.genIn_none (n := gFree) h]
  rfl

/-- The only buffer of the BUILDING generation returns to class 3. -/
theorem State.abandonGen_leaves (h : s.First gBuilding i) (hbufs : (s.gen i).bufs = [b]) (hdir : (s.gen i).dir = [])
    (hb : b ∉ s.otherBufs i) : ∃ t, s.abandonGen = t ∧ s.Frees t ∧ (∀ j, t.gen j = if j = i then Gen.reset else s.gen j) ∧
    t.cls 3 = { s.cls 3 with
      freeL := if (s.cls 3).used.any (fun u => decide (u.1 = b)) then (s.cls 3).freeL ++ [b] else (s.cls 3).freeL,
      used := (s.cls 3).used.filter (fun u => decide (u.1 ≠ b)) } := by
  have hfree : s.abandonGen = s.freeGen i := by unfold State.abandonGen; rw [State.genIn_first h]
  refine ⟨_, hfree, s.frees_freeGen i, s.gen_freeGen i, ?_⟩
  rw [State.freeGen_only hbufs hdir hb]
  have hcls : ∀ u : State, (u.forEach (List.range 32) (fun t c => t.dropPages c (PageId.isGen (s.gen i).num))).cls 3 = u.cls 3 :=
    fun u => State.forEach_part (fun t => t.cls 3) (g := fun t c => t.dropPages c (PageId.isGen (s.gen i).num)) (fun _ _ => rfl) _ u
  rw [hcls]
  exact State.cls_allocFree

theorem State.setCls_low_frame (s : State) (k : Nat) (a : AllocClass) : s.setCls_low k a = { s with
    regs := (s.setCls_low k a).regs, alloc := (s.setCls_low k a).alloc, srcs := (s.setCls_low k a).srcs } := by
  unfold State.setCls_low
  dsimp only
  rw [State.raiseIf_frame]
  rfl

theorem State.cls_setCls_low (a : AllocClass) : (s.setCls_low k a).cls k = a := by
  unfold State.setCls_low
  dsimp only
  rw [State.raiseIf_frame]
  exact (Tab.get_set ..).trans (if_pos rfl)

/-- REQ takes the head of class 3. -/
theorem State.requestGenBuf_taken {e : Nat} (h : s.First gBuilding i) (hresv : (s.cls 3).resv = []) (he : (s.cls 3).freeL.head? = some e) :
    ∃ t, s.requestGenBuf = t ∧ t = { s with regs := t.regs, alloc := t.alloc, gens := t.gens, srcs := t.srcs } ∧
      (t.cls 3).freeL = (s.cls 3).freeL.tail ∧ (t.cls 3).used = (s.cls 3).used ++ [(e, Holder.gen (s.gen i).num)] ∧
      t.gen i = { s.gen i with bufs := (s.gen i).bufs ++ [e] } ∧ t.reg .genBuf = BitVec.ofNat 32 e ∧
      ∀ d, d ≠ i → t.gen d = s.gen d := by
  have hans := (State.allocAnswer_free (s := s) (k := 3) (Holder.gen (s.gen i).num) hresv).trans he
  let a : AllocClass := { s.cls 3 with freeL := (s.cls 3).freeL.tail, used := (s.cls 3).used ++ [(e, Holder.gen (s.gen i).num)] }
  have htake : s.allocTake 3 (Holder.gen (s.gen i).num) = s.setCls_low 3 a := by
    unfold State.allocTake
    rw [hans]
  have hreq : s.requestGenBuf = ((s.setCls_low 3 a).updGen i (fun g => { g with bufs := g.bufs ++ [e] })).setReg .genBuf (BitVec.ofNat 32 e) := by
    unfold State.requestGenBuf
    rw [State.genIn_first h]
    simp only [hans, htake]
  have hgen (d : Nat) : (s.setCls_low 3 a).gen d = s.gen d := State.gen_congr (State.gens_setCls_low 3 a) d
  have hcls : ((s.setCls_low 3 a).updGen i (fun g => { g with bufs := g.bufs ++ [e] })).cls 3 = a := State.cls_setCls_low a
  refine ⟨_, hreq, ?_, ?_, ?_, ?_, ?_, fun d hd => ?_⟩
  · unfold State.updGen State.setGen State.setReg
    rw [State.setCls_low_frame]
  · rw [State.cls_setReg, hcls]
  · rw [State.cls_setReg, hcls]
  · simp [State.updGen, hgen]
  · rw [State.reg_setReg, if_pos rfl]
  · simp [State.updGen, hgen, hd]

/-- REQ is refused while no buffer is free. -/
theorem State.requestGenBuf_refused (h : s.First gBuilding i) (hresv : (s.cls 3).resv = []) (he : (s.cls 3).freeL = []) :
    s.requestGenBuf = (s.allocMiss 3).updReg .genBuf (fun v => setBit v 30 true) := by
  have hans : s.allocAnswer 3 (Holder.gen (s.gen i).num) = none :=
    (State.allocAnswer_free (s := s) (k := 3) _ hresv).trans (by rw [he]; rfl)
  have htake : s.allocTake 3 (Holder.gen (s.gen i).num) = s.allocMiss 3 := by
    unfold State.allocTake
    rw [hans]
  unfold State.requestGenBuf
  rw [State.genIn_first h]
  simp only [hans, htake]

/-- A generation is counted and shown as VERIFYING. -/
def State.reportSubmit (s : State) (num : Nat) : State := (s.bump (.mrdCount 4)).genStatus 1 num 0

theorem State.reportSubmit_frame (s : State) (num : Nat) : s.reportSubmit num = { s with regs := (s.reportSubmit num).regs } := rfl

theorem State.reg_mrdCount_reportSubmit (num : Nat) : (s.reportSubmit num).reg (.mrdCount 4) = s.reg (.mrdCount 4) + 1 := by
  have hoff : (Reg.mrdCount 4).off ≠ Reg.genStatus.off := by decide
  rw [State.reportSubmit, State.reg_genStatus_other hoff, State.bump_eq, State.reg_setReg, if_pos rfl]

theorem State.reg_genStatus_reportSubmit (num : Nat) : (s.reportSubmit num).reg .genStatus =
    BitVec.ofNat 32 (fld (s.reg .genStatus) 31 28 * 2 ^ 28 + 1 * 2 ^ 24 + num % 65536) := by
  have hoff : Reg.genStatus.off ≠ (Reg.mrdCount 4).off := by decide
  rw [State.reportSubmit, State.reg_genStatus_self, if_neg (by decide), State.bump_eq, State.reg_setReg, if_neg hoff]

/-- The descriptor that GO submits. -/
def State.submitted (s : State) (i : Nat) : State :=
  { s with genOrder := s.genOrder + 1 }.updGen i (fun g => { g with st := gVerifying, order := s.genOrder + 1 })

theorem State.submitted_frame (s : State) (i : Nat) : s.submitted i = { s with
    gens := (s.submitted i).gens, genOrder := s.genOrder + 1 } := rfl

theorem State.gen_submitted (s : State) (i : Nat) : (s.submitted i).gen i =
    { s.gen i with st := gVerifying, order := s.genOrder + 1 } := by
  rw [State.submitted, State.updGen, State.gen_setGen, if_pos rfl]
  rfl

/-- GO submits the BUILDING generation. -/
theorem State.submitGen_leaves (h : s.First gBuilding i) : ∃ t, s.submitGen = t ∧
    t = { s with regs := t.regs, gens := t.gens, genOrder := t.genOrder } ∧
    t.gen i = { s.gen i with st := gVerifying, order := s.genOrder + 1 } ∧ t.genOrder = s.genOrder + 1 ∧
    t.reg (.mrdCount 4) = s.reg (.mrdCount 4) + 1 ∧
    t.reg .genStatus = BitVec.ofNat 32 (fld (s.reg .genStatus) 31 28 * 2 ^ 28 + 1 * 2 ^ 24 + (s.gen i).num % 65536) := by
  have hsub : s.submitGen = (s.submitted i).reportSubmit (s.gen i).num := by
    unfold State.submitGen
    rw [State.genIn_first h]
    simp only [State.reportSubmit, State.submitted]
  have hreg (r : Reg) : (s.submitted i).reg r = s.reg r := by rw [State.submitted_frame]; rfl
  refine ⟨_, hsub, ?_, ?_, ?_, ?_, ?_⟩
  · rw [State.reportSubmit_frame, State.submitted_frame]
  · have hgens : ((s.submitted i).reportSubmit (s.gen i).num).gens = (s.submitted i).gens := by rw [State.reportSubmit_frame]
    rw [State.gen_congr hgens, State.gen_submitted]
  · rw [State.reportSubmit_frame, State.submitted_frame]
  · rw [State.reg_mrdCount_reportSubmit, hreg]
  · rw [State.reg_genStatus_reportSubmit, hreg]

/-! ### MRD_CTL -/

theorem exec_mrdCtl_restarts {v : W32} (h : bit v 0 = false) : exec (.mrdCtl v) s =
    .next (s.updReg .mrdCtl (fun o => Reg.merge .mrdCtl o v 0xFFFFFFFF)).restartWindows :=
  congrArg Host.Outcome.next (if_neg (by simp [h]))

theorem merge_mrdCtl (o v : W32) : Reg.merge .mrdCtl o v 0xFFFFFFFF = (o &&& 0xFFFFFFF8) ||| (v &&& 7) := by
  have hrw : Reg.rw .mrdCtl = 7 := rfl
  have hclr : Reg.w1c .mrdCtl = 0 := rfl
  unfold Reg.merge
  have hall : (0xFFFFFFFF : W32) = BitVec.allOnes 32 := rfl
  have hnot : ~~~(7 : W32) = 0xFFFFFFF8 := rfl
  have hzero : ~~~((0 : W32) &&& v) = BitVec.allOnes 32 := by rw [show (0 : W32) &&& v = 0 from BitVec.zero_and]; rfl
  simp only [hrw, hclr, hall, BitVec.and_allOnes, hzero, hnot]

/-- The low bits of the new MRD_CTL. -/
theorem fld_merge_mrdCtl (o v : W32) : fld (Reg.merge .mrdCtl o v 0xFFFFFFFF) 2 0 = fld v 2 0 := by
  rw [merge_mrdCtl]
  have hlow : ((o &&& 0xFFFFFFF8) ||| (v &&& 7)).toNat % 8 = v.toNat % 8 := by
    rw [BitVec.toNat_or, BitVec.toNat_and, BitVec.toNat_and]
    change (o.toNat &&& 4294967288 ||| v.toNat &&& 7) % 2 ^ 3 = v.toNat % 2 ^ 3
    rw [Nat.or_mod_two_pow, Nat.and_mod_two_pow, Nat.and_mod_two_pow]
    change (o.toNat % 2 ^ 3 &&& 0) ||| (v.toNat % 2 ^ 3 &&& 2 ^ 3 - 1) = _
    rw [Nat.and_zero, Nat.zero_or, Nat.and_two_pow_sub_one_eq_mod, Nat.mod_mod]
  simpa [fld] using hlow

theorem State.genIn_congr {t : State} (h : t.gens = s.gens) (n : Nat) : t.genIn n = s.genIn n := by
  unfold State.genIn
  simp only [State.gen_congr h]

/-- A generation that is found in a state is in it. -/
theorem State.st_of_genIn (h : s.genIn n = some i) : (s.gen i).st = n := by
  simpa using (List.find?_range_eq_some.mp h).1

/-- The descriptors once a LOADING generation has become CURRENT. -/
theorem State.gen_makeCurrent_of_loading (h : (s.gen i).st = gLoading) (j : Nat) : (s.makeCurrent i).gen j =
    if j = i then { s.gen i with st := gCurrent }
    else if j < 8 ∧ (s.gen j).st = gReady ∧ (s.gen j).order < (s.gen i).order then Gen.reset
    else if s.genIn gCurrent = some j then (if (s.gen j).refs = 0 then Gen.reset else { s.gen j with st := gRetiring })
    else s.gen j := by
  have hready : i ∉ s.earlierReady i := by
    unfold State.earlierReady
    simp [h, gLoading, gReady]
  have hcur : s.genIn gCurrent ≠ some i := fun hc => by
    have hst := State.st_of_genIn hc
    rw [h] at hst
    exact absurd hst (by decide)
  have hmem : j ∈ s.earlierReady i ↔ j < 8 ∧ (s.gen j).st = gReady ∧ (s.gen j).order < (s.gen i).order := by
    unfold State.earlierReady
    simp
  rw [State.gen_makeCurrent, if_neg hready, State.gen_retireCurrent, State.gen_retireCurrent, if_neg hcur]
  simp only [hmem]

/-! ### Results of a verification -/

/-- A rejection is shown and raised. -/
def State.reportReject (s : State) (num r : Nat) : State := ((s.genStatus 3 num r).raise 406).bump (.mrdCount 5)

theorem State.reportReject_frame (s : State) (num r : Nat) : s.reportReject num r = { s with
    regs := (s.reportReject num r).regs, srcs := (s.reportReject num r).srcs } :=
  State.ext_parts (by simp [State.reportReject, State.genStatus])

theorem mrdCount_mordant {n : Nat} (hn : n < 16) : (Reg.mrdCount n).mordant := by
  have hoff : (Reg.mrdCount n).off = 0xB040 + 4 * n := rfl
  unfold Reg.mordant
  omega

theorem State.reg_mrdCount_reportReject (num r : Nat) : (s.reportReject num r).reg (.mrdCount 5) = s.reg (.mrdCount 5) + 1 := by
  have hoff : (Reg.mrdCount 5).off ≠ Reg.genStatus.off := by decide
  rw [State.reportReject, State.bump_eq, State.reg_setReg, if_pos rfl,
    State.reg_raise _ _ ((mrdCount_mordant (by decide)).clearOf (by decide)), State.reg_genStatus_other hoff]

theorem State.reg_genStatus_reportReject (num r : Nat) : (s.reportReject num r).reg .genStatus =
    BitVec.ofNat 32 (r * 2 ^ 28 + 3 * 2 ^ 24 + num % 65536) := by
  have hoff : Reg.genStatus.off ≠ (Reg.mrdCount 5).off := by decide
  rw [State.reportReject, State.bump_eq, State.reg_setReg, if_neg hoff, State.reg_raise _ _ (genStatus_mordant.clearOf (by decide)),
    State.reg_genStatus_self, if_pos rfl]

theorem State.pend_reportReject (num r : Nat) : ((s.reportReject num r).src 406).pend = true := by
  rw [State.reportReject, State.bump_eq, State.src_setReg]
  exact State.pend_raise _ 406

/-- A rejected generation goes FREE. -/
theorem State.rejectGen_leaves (s : State) (i r : Nat) : ∃ t, s.rejectGen i r = t ∧
    t = { s with regs := t.regs, clusters := t.clusters, alloc := t.alloc, gens := t.gens, srcs := t.srcs } ∧
    (∀ j, t.gen j = if j = i then Gen.reset else s.gen j) ∧ (t.src 406).pend = true ∧
    t.reg (.mrdCount 5) = s.reg (.mrdCount 5) + 1 ∧
    t.reg .genStatus = BitVec.ofNat 32 (r * 2 ^ 28 + 3 * 2 ^ 24 + (s.gen i).num % 65536) := by
  have hframe := State.reportReject_frame (s.freeGen i) (s.gen i).num r
  have hfrees := s.frees_freeGen i
  have hgens : ((s.freeGen i).reportReject (s.gen i).num r).gens = (s.freeGen i).gens := by rw [hframe]
  refine ⟨(s.freeGen i).reportReject (s.gen i).num r, rfl, ?_, fun j => ?_, State.pend_reportReject _ _, ?_,
    State.reg_genStatus_reportReject _ _⟩
  · rw [hframe, hfrees.frame]
  · rw [State.gen_congr hgens, State.gen_freeGen]
  · rw [State.reg_mrdCount_reportReject, hfrees.reg _ (mrdCount_mordant (by decide))]

theorem State.verifyReason_noEntries (h : fld (s.reg .genSubmit) 10 0 = 0) : s.verifyReason i = 1 := by
  simp [State.verifyReason, h]

theorem diffDirs_none (m1 m2 : Memory) (es : List DirEnt) : diffDirs m1 es m2 [] = 0 := by
  have hfold : es.foldl (fun acc e => match ([] : List DirEnt).find? (fun f => decide (f.tset = e.tset)) with
      | some f => (List.range (Nat.min e.pages f.pages)).foldl (fun acc i =>
          diffWords (Memory.readList m1 (e.pageAt i) 2048) (Memory.readList m2 (f.pageAt i) 2048) acc) acc
      | none => acc) 0 = 0 := by
    induction es with
    | nil => rfl
    | cons e es ih => exact ih
  exact (congrArg (Nat.min 65535) hfold).trans rfl

/-- Without a CURRENT generation and without a baseline there is no difference. -/
theorem State.diffs_none (h : ∀ d < 8, (s.gen d).st ≠ 6) (hbase : s.baseDir = []) (es : List DirEnt) :
    s.diffBase es = 0 ∧ s.diffStep es = 0 := by
  have hcur : s.currentDir = [] := by
    unfold State.currentDir
    rw [State.genIn_none (n := gCurrent) h]
  have hbad : s.diffBad es [] = none := List.findSome?_eq_none_iff.mpr fun e _ => rfl
  refine ⟨?_, ?_⟩
  · unfold State.diffBase
    rw [hbase, diffDirs_none]
  · unfold State.diffStep
    rw [hcur, hbad]
    exact diffDirs_none s.store s.store es

/-- The state in which auto-adoption considers a generation that has passed. -/
theorem State.verified_ready (h : s.verifyReason i = 0) : ∃ w : State, s.verified i = w.autoAdopt i ∧
    w = { s with free := w.free, regs := w.regs, clusters := w.clusters, alloc := w.alloc, gens := w.gens, srcs := w.srcs } ∧
    (w.src 405).pend = true ∧ (∀ d, w.gen d = if d = i then s.passedGen i (s.readDir.map (·.1)) else s.gen d) ∧
    w.reg .genStatus = BitVec.ofNat 32 (fld (s.reg .genStatus) 31 28 * 2 ^ 28 + 2 * 2 ^ 24 + (s.gen i).num % 65536) ∧
    w.reg .genDiff = BitVec.ofNat 32 (s.diffBase (s.readDir.map (·.1)) * 65536 + s.diffStep (s.readDir.map (·.1))) ∧
    ∀ r : Reg, r.mordant → r.off ≠ Reg.genStatus.off → r.off ≠ Reg.genDiff.off → w.reg r = s.reg r := by
  obtain ⟨u, hu, hframe, hgens, hreg⟩ := State.verified_passed h
  have hw := u.reportReady_frame (s.diffBase (s.readDir.map (·.1)) * 65536 + s.diffStep (s.readDir.map (·.1))) (s.gen i).num
  refine ⟨_, hu, ?_, State.pend_raise _ 405, fun d => ?_, ?_, State.reg_genDiff_reportReady _ _, fun r hr hns hnd => ?_⟩
  · rw [hw, hframe]
  · have hwg := congrArg State.gens hw
    rw [State.gen_congr (hwg.trans hgens), State.gen_setGen]
  · rw [State.reg_genStatus_reportReady, hreg _ genStatus_mordant]
  · rw [State.reg_reportReady hr hns hnd, hreg r hr]

theorem State.adopting_iff : s.adopting = true ↔ ∃ d < 8, (s.gen d).st = 4 ∨ (s.gen d).st = 5 := by
  unfold State.adopting
  rw [Bool.or_eq_true, State.genIn_isSome, State.genIn_isSome]
  constructor
  · rintro (⟨d, hd, h⟩ | ⟨d, hd, h⟩)
    · exact ⟨d, hd, .inl h⟩
    · exact ⟨d, hd, .inr h⟩
  · rintro ⟨d, hd, h | h⟩
    · exact .inl ⟨d, hd, h⟩
    · exact .inr ⟨d, hd, h⟩

end

/-- Settles O49: the rows of generations, from OPEN to the adoption. -/
theorem generations : Obligations.Generations := by
  unfold Obligations.Generations
  refine ⟨fun i b k v s => ?_, fun i c s => ?_⟩
  · intro g a none_ first status
    have hfirst (n : Nat) (h : first n) : s.First n i := ⟨i.isLt, h.1, h.2⟩
    refine ⟨fun h => congrArg Host.Outcome.next (State.openGen_ignored h), fun h1 h2 h0 => ?_, fun h0 h1 h2 => ?_, fun h1 => ?_,
      fun h hbufs hdir hb => ?_, fun h hresv => ⟨fun hne => ?_, fun hnil => ?_⟩, fun h => ?_, fun hv => ?_, fun hv => ?_⟩
    · exact congrArg Host.Outcome.next (State.openGen_free h1 h2 (hfirst 0 h0))
    · refine ⟨_, congrArg Host.Outcome.next (State.openGen_full h1 h2 h0), ?_, ?_, ?_⟩
      · rw [State.reg_setReg, if_pos rfl]
      · rw [State.reg_setReg, if_pos rfl]
        exact fld_setFld_same _ (by decide) (by decide) 5
      · rw [State.reg_setReg, if_pos rfl]
        exact fld_setFld_other _ (by decide) (by decide) (by decide) (by decide) 5
    · have hnone := State.genIn_none (s := s) (n := gBuilding) h1
      refine ⟨congrArg Host.Outcome.next ?_, congrArg Host.Outcome.next ?_, congrArg Host.Outcome.next ?_⟩
      · unfold State.abandonGen; rw [hnone]
      · unfold State.requestGenBuf; rw [hnone]
      · unfold State.submitGen; rw [hnone]
    · obtain ⟨t, ht, hfrees, hgen, hcls⟩ := State.abandonGen_leaves (hfirst 1 h) hbufs hdir hb
      refine ⟨t, congrArg Host.Outcome.next ht, hfrees.frame, (hgen i).trans (if_pos rfl), fun d hd => (hgen d).trans (if_neg hd), ?_, ?_, ?_⟩
      · rw [hcls]
      · rw [hcls]
      · rw [hfrees.frame]
    · have hhead : a.freeL.head? = some (a.freeL.headD 0) := by
        cases hl : a.freeL with
        | nil => exact absurd hl hne
        | cons e l => rfl
      obtain ⟨t, ht, hframe, hfree, hused, hgen, hreg, hother⟩ := State.requestGenBuf_taken (hfirst 1 h) hresv hhead
      exact ⟨t, congrArg Host.Outcome.next ht, hframe, hfree, hused, hgen, hreg, hother⟩
    · have hclear : (Reg.allocMiss 3).clearOf 359 := by unfold Reg.clearOf; decide
      have hoff : (Reg.allocMiss 3).off ≠ Reg.genBuf.off := by decide
      refine ⟨_, congrArg Host.Outcome.next (State.requestGenBuf_refused (hfirst 1 h) hresv hnil),
        State.ext_parts (by simp [State.allocMiss]), ?_, by simp [State.allocMiss], by simp [State.allocMiss], ?_, ?_⟩
      · rw [State.updReg_eq, State.reg_setReg, if_pos rfl]
        exact bit_setBit_same _ (by decide) true
      · rw [State.updReg_eq, State.src_setReg]
        exact State.pend_raise _ 359
      · rw [State.updReg_eq, State.reg_setReg, if_neg hoff, State.allocMiss, State.reg_raise _ _ hclear, State.bump_eq, State.reg_setReg, if_pos rfl]
    · obtain ⟨t, ht, hframe, hgen, horder, hcount, hreg⟩ := State.submitGen_leaves (hfirst 1 h)
      have hfld := fld_genStatus (a := fld status 31 28) (b := 1) (c := g.num % 65536) (Nat.mod_lt _ (by decide)) (by decide)
        (Nat.mod_lt _ (by decide))
      obtain ⟨hreason, hresult, hnum⟩ := hfld
      refine ⟨t, congrArg Host.Outcome.next ht, hframe, hgen, horder, hcount, ?_, ?_, ?_, by rw [hframe]⟩
      · rw [hreg]; exact hnum
      · rw [hreg]; exact hresult
      · rw [hreg]; exact hreason
    · refine congrArg Host.Outcome.next ((if_pos hv).trans ?_)
      rw [State.updReg_eq, merge_mrdCtl]
    · refine ⟨_, exec_mrdCtl_restarts hv, rfl, ?_, fun hwf => ?_⟩
      · refine (congrArg (fld · 2 0) (?_ : _ = Reg.merge .mrdCtl (s.reg .mrdCtl) v 0xFFFFFFFF)).trans (fld_merge_mrdCtl _ v)
        exact (Tab.get_set ..).trans (if_pos rfl)
      · exact (Tab.get_restart hwf).1
  · intro g none_ first lim
    have hfirst (n : Nat) (e : Fin 8) (h : first n e) : s.First n e := ⟨e.isLt, h.1, h.2⟩
    refine ⟨fun h2 => ?_, fun h5 => ?_, fun h hn => ?_, fun h hreason => ?_, fun h hl hretry => ?_⟩
    · refine congrArg Host.Outcome.next ?_
      rw [State.genIn_none (n := gVerifying) h2]
    · refine congrArg Host.Outcome.next ?_
      unfold State.loadGen
      rw [State.genIn_none (n := gLoading) h5]
    · have hexec : exec .genVerificationDone s = .next (State.rejectGen { s with free := s.free + 1 } i 1) := by
        refine congrArg Host.Outcome.next ?_
        rw [State.genIn_first (n := gVerifying) (hfirst 2 i h)]
        exact State.verified_rejected (State.verifyReason_noEntries hn) (by decide) (by decide)
      obtain ⟨t, ht, hframe, hgen, hpend, hcount, hreg⟩ := State.rejectGen_leaves { s with free := s.free + 1 } i 1
      refine ⟨t, hexec.trans (congrArg _ ht), ?_, (hgen i).trans (if_pos rfl), hpend, hcount, ?_, fun d hd => (hgen d).trans (if_neg hd)⟩
      · rw [hframe]
      · rw [hreg]
        exact congrArg (BitVec.ofNat 32) rfl
    · obtain ⟨w, hw, hwframe, hwpend, hwgen, hwstatus, hwdiff, hwreg⟩ := State.verified_ready hreason
      obtain ⟨t, ht, hframe, hreg, hpend, hgen⟩ := w.autoAdopt_keeps i
      have hexec : exec .genVerificationDone s = .next t := by
        refine congrArg Host.Outcome.next ?_
        rw [State.genIn_first (n := gVerifying) (hfirst 2 i h)]
        exact hw.trans ht
      have hwi := (hwgen i).trans (if_pos rfl)
      have hstatus : t.reg .genStatus = w.reg .genStatus := hreg _ genStatus_mordant (by decide)
      have hdiff : t.reg .genDiff = w.reg .genDiff := hreg _ genDiff_mordant (by decide)
      have hfld := fld_genStatus (a := fld (s.reg .genStatus) 31 28) (b := 2) (c := g.num % 65536) (Nat.mod_lt _ (by decide)) (by decide)
        (Nat.mod_lt _ (by decide))
      have hdir : (t.gen i).dir = s.readDir.map (·.1) := by rw [hgen, hwi]; rfl
      have hnum : (t.gen i).num = g.num := by rw [hgen, hwi]; rfl
      have horder : (t.gen i).order = g.order := by rw [hgen, hwi]; rfl
      have hstep : (t.gen i).dStep = s.diffStep (s.readDir.map (·.1)) := by rw [hgen, hwi]; rfl
      have hbase : (t.gen i).dBase = s.diffBase (s.readDir.map (·.1)) := by rw [hgen, hwi]; rfl
      have hctl : w.reg .mrdCtl = s.reg .mrdCtl := hwreg _ (by unfold Reg.mordant; decide) (by decide) (by decide)
      have hlim : w.reg .adoptLimit = lim := hwreg _ (by unfold Reg.mordant; decide) (by decide) (by decide)
      have hwstep : (w.gen i).dStep = (t.gen i).dStep := by rw [hgen]
      have hwbase : (w.gen i).dBase = (t.gen i).dBase := by rw [hgen]
      have hwst : (w.gen i).st = 3 := by rw [hwi]; rfl
      have hst (n : Nat) (h3 : n ≠ 3) (h2 : n ≠ 2) : (∃ d < 8, (w.gen d).st = n) ↔ ∃ d < 8, (s.gen d).st = n := by
        refine exists_congr fun d => and_congr_right fun _ => ?_
        by_cases hd : d = i
        · rw [hd, hwst, show (s.gen i).st = 2 from h.1]
          exact iff_of_false (Ne.symm h3) (Ne.symm h2)
        · rw [hwgen, if_neg hd]
      refine ⟨t, hexec, ?_, hpend 405 hwpend, ?_, ?_, hdir, hnum, horder, ?_, fun h6 hb => ?_, fun hoff => ?_,
        fun hon => ⟨fun hover => ?_, fun hls hlb => ⟨fun hbusy => ?_, fun h4 h5 => ?_⟩⟩⟩
      · rw [hframe, hwframe]
      · rw [hstatus, hwstatus]; exact hfld.2.1
      · rw [hstatus, hwstatus]; exact hfld.2.2
      · rw [hdiff, hwdiff, hstep, hbase]
      · obtain ⟨hb0, hs0⟩ := State.diffs_none h6 hb (s.readDir.map (·.1))
        rw [hdiff, hwdiff, hb0, hs0]
        rfl
      · rw [← ht, State.autoAdopt_off (by rw [hctl]; exact hoff)]
        exact hwst
      · have hcount : (Reg.mrdCount 7).off ≠ Reg.genStatus.off ∧ (Reg.mrdCount 7).off ≠ Reg.genDiff.off := by decide
        have hm := mrdCount_mordant (n := 7) (by decide)
        rw [← hlim, ← hwstep, ← hwbase] at hover
        have htw := ht.symm.trans (State.autoAdopt_over (by rw [hctl]; exact hon) hover)
        refine ⟨?_, ?_, ?_⟩
        · have hgens : t.gens = (w.updGen i (fun g => { g with retry := false })).gens := by
            rw [htw, State.raise_frame]; rfl
          rw [State.gen_congr hgens, State.updGen, State.gen_setGen, if_pos rfl]
          exact hwst
        · rw [htw, State.bump_eq, State.src_setReg]
          exact State.pend_raise _ 409
        · rw [htw, State.bump_eq, State.reg_setReg, if_pos rfl, State.reg_raise _ _ (hm.clearOf (by decide))]
          exact congrArg (· + 1) (hwreg _ hm hcount.1 hcount.2)
      all_goals
        rw [← hlim, ← hwstep] at hls
        rw [← hlim, ← hwbase] at hlb
        have htw := ht.symm.trans (State.autoAdopt_within (by rw [hctl]; exact hon) hls hlb)
      · have hadopt : w.adopting = true := State.adopting_iff.mpr (by
          refine Classical.byContradiction fun hnone => ?_
          refine hbusy ⟨fun d hd hd4 => ?_, fun d hd hd5 => ?_⟩
          · obtain ⟨e, he, he4⟩ := (hst 4 (by decide) (by decide)).mpr ⟨d, hd, hd4⟩
            exact hnone ⟨e, he, .inl he4⟩
          · obtain ⟨e, he, he5⟩ := (hst 5 (by decide) (by decide)).mpr ⟨d, hd, hd5⟩
            exact hnone ⟨e, he, .inr he5⟩)
        rw [if_pos hadopt] at htw
        rw [htw, State.updGen, State.gen_setGen, if_pos rfl]
        exact hwst
      · have hadopt : ¬ w.adopting = true := fun hbusy => by
          obtain ⟨d, hd, hd4 | hd5⟩ := State.adopting_iff.mp hbusy
          · obtain ⟨e, he, he4⟩ := (hst 4 (by decide) (by decide)).mp ⟨d, hd, hd4⟩
            exact h4 e he he4
          · obtain ⟨e, he, he5⟩ := (hst 5 (by decide) (by decide)).mp ⟨d, hd, hd5⟩
            exact h5 e he he5
        rw [if_neg hadopt] at htw
        have hretiring : (w.genIn gRetiring).isSome = (List.range 8).any (fun d => decide ((s.gen d).st = 7)) := by
          rw [Bool.eq_iff_iff, State.genIn_isSome]
          exact (hst 7 (by decide) (by decide)).trans (by simp)
        rw [htw, State.adopt, State.updGen, State.gen_setGen, if_pos rfl]
        refine ⟨?_, rfl⟩
        simp only [hretiring]
        rfl
    · have hf := hfirst 5 i h
      have hgens : (s.raise 387).gens = s.gens := by rw [State.raise_frame]
      have hgen (d : Nat) : (s.raise 387).gen d = s.gen d := State.gen_congr hgens d
      have hloading : ((s.raise 387).gen i).st = gLoading := by rw [hgen]; exact h.1
      have hnoretry : ∀ j < 8, (((s.raise 387).makeCurrent i).gen j).retry = false := fun j hj => by
        rw [State.gen_makeCurrent_of_loading hloading]
        simp only [hgen]
        repeat' split
        · exact hretry i i.isLt
        · rfl
        · rfl
        · exact hretry j hj
        · exact hretry j hj
      obtain ⟨t, ht, hframe, hpend, hpend407, hcount, hbaseline, htgen⟩ := (s.raise 387).reportAdopted_leaves i
      have hexec : exec .genLoaded s = .next t :=
        congrArg Host.Outcome.next ((State.loadGen_empty hf hl).trans ((State.adopted_eq hnoretry).trans ht))
      have htgen' (j : Nat) : t.gen j = _ := (htgen j).trans (State.gen_makeCurrent_of_loading hloading j)
      simp only [hgen, State.genIn_congr hgens] at htgen' hbaseline
      have hne (n : Nat) (hn : n ≠ 5) (hc : (s.gen c).st = n) : c.val ≠ i.val := fun hci => by
        rw [hci] at hc
        exact hn (hc.symm.trans h.1)
      refine ⟨t, hexec, ?_, ?_, ?_, ?_, hpend 387 (State.pend_raise _ 387), hpend407, ?_, fun hc => ⟨fun hrefs => ?_, fun hrefs => ?_⟩,
        fun hc hlt => ?_, fun hc hge => ?_, ?_⟩
      · rw [hframe, State.raise_frame]
      · rw [htgen', if_pos rfl]; rfl
      · rw [htgen', if_pos rfl]
      · rw [htgen', if_pos rfl]
      · rw [hcount, State.reg_raise _ _ ((mrdCount_mordant (by decide)).clearOf (by decide))]
      · have hcur := State.genIn_first (n := gCurrent) (hfirst 6 c hc)
        rw [htgen', if_neg (hne 6 (by decide) hc.1), if_neg (fun hr => absurd (hc.1.symm.trans hr.2.1) (by decide)), if_pos hcur,
          if_neg (by omega)]
        exact ⟨rfl, rfl, rfl⟩
      · have hcur := State.genIn_first (n := gCurrent) (hfirst 6 c hc)
        rw [htgen', if_neg (hne 6 (by decide) hc.1), if_neg (fun hr => absurd (hc.1.symm.trans hr.2.1) (by decide)), if_pos hcur,
          if_pos hrefs]
      · rw [htgen', if_neg (hne 3 (by decide) hc), if_pos ⟨c.isLt, hc, hlt⟩]
      · have hcur : s.genIn gCurrent ≠ some c.val := fun hcur =>
          absurd (hc.symm.trans (State.st_of_genIn hcur)) (by decide)
        rw [htgen', if_neg (hne 3 (by decide) hc), if_neg (fun hr => absurd hr.2.2 (Nat.not_lt.mpr hge)), if_neg hcur]
      · rw [hbaseline, State.raise_frame]

end Sys2Proof.Machine
end

section
/-!
PROOF. Proofs/KernelServices.lean: the services of the kernel for a calling Shingle, and their refusal (R252, R253, R260).
-/
namespace Sys2Proof.Machine

/-! ### Bytes -/

theorem leBytes_leNat (bs : List Byte) : leBytes bs.length (leNat bs) = bs := by
  induction bs with
  | nil => rfl
  | cons b bs ih =>
    have hb := b.isLt
    rw [List.length_cons, leBytes, leNat]
    refine congr (congrArg List.cons ?_) ?_
    · refine BitVec.eq_of_toNat_eq ?_
      rw [BitVec.toNat_ofNat]
      omega
    · rw [show (b.toNat + 256 * leNat bs) / 256 = leNat bs by omega, ih]

theorem leBytes_leAt {bs : List Byte} {a n : Nat} (h : a + n ≤ bs.length) : leBytes n (leAt bs a n) = (bs.drop a).take n := by
  have hlen : ((bs.drop a).take n).length = n := by rw [List.length_take, List.length_drop]; omega
  have hround := leBytes_leNat ((bs.drop a).take n)
  rwa [hlen] at hround

theorem leNat_append (xs ys : List Byte) : leNat (xs ++ ys) = leNat xs + 256 ^ xs.length * leNat ys := by
  induction xs with
  | nil => simp [leNat]
  | cons x xs ih =>
    rw [List.cons_append, leNat, ih, leNat, List.length_cons, Nat.pow_succ', Nat.mul_add, Nat.mul_assoc, Nat.add_assoc]

theorem map_getD_left (xs ys : List Byte) {n : Nat} (h : xs.length = n) :
    (List.range n).map (fun i => (xs ++ ys).getD i 0) = xs := by
  subst h
  refine List.ext_getElem (by simp) fun i hi hi' => ?_
  rw [List.getElem_map, List.getElem_range, List.getD_eq_getElem?_getD, List.getElem?_append_left hi', List.getElem?_eq_getElem hi',
    Option.getD_some]

theorem map_getD_right (xs ys : List Byte) {m n : Nat} (hx : xs.length = m) (hy : ys.length = n) :
    (List.range n).map (fun i => (xs ++ ys).getD (m + i) 0) = ys := by
  subst hx hy
  refine List.ext_getElem (by simp) fun i hi hi' => ?_
  rw [List.getElem_map, List.getElem_range, List.getD_eq_getElem?_getD, List.getElem?_append_right (by omega), Nat.add_sub_cancel_left,
    List.getElem?_eq_getElem hi', Option.getD_some]

/-- The two bytes of a word, the high one first. -/
theorem append_leBytes (v : W16) (l : List Byte) : (leBytes 2 v.toNat ++ l).getD 1 0 ++ (leBytes 2 v.toNat ++ l).getD 0 0 = v := by
  have hv := v.isLt
  change BitVec.ofNat 8 (v.toNat / 256) ++ BitVec.ofNat 8 v.toNat = v
  refine BitVec.eq_of_toNat_eq ?_
  have hlo : (BitVec.ofNat 8 v.toNat).toNat < 2 ^ 8 := (BitVec.ofNat 8 v.toNat).isLt
  rw [BitVec.toNat_append, ← Nat.shiftLeft_add_eq_or_of_lt hlo, Nat.shiftLeft_eq, BitVec.toNat_ofNat, BitVec.toNat_ofNat]
  omega

/-! ### Results in the caller's bank -/

/-- Results in the V registers of a bank, from 0 up. -/
def Core.putV (c : Core) (sh : Bool) (bs : List Byte) : Core :=
  (List.range bs.length).foldl (fun c i => c.setVAt sh i (bs.getD i 0)) c

theorem Core.vAt_setVAt (c : Core) (sh : Bool) (n m : Nat) (b : Byte) :
    (c.setVAt sh n b).vAt sh m = if m = n then b else c.vAt sh m := by
  cases sh <;> simp [Core.setVAt, Core.vAt]

theorem Core.vAt_foldl (sh : Bool) (bs : List Byte) (l : List Nat) (hl : l.Nodup) (c : Core) (m : Nat) :
    (l.foldl (fun c i => c.setVAt sh i (bs.getD i 0)) c).vAt sh m = if m ∈ l then bs.getD m 0 else c.vAt sh m := by
  induction l generalizing c with
  | nil => rfl
  | cons i l ih =>
    obtain ⟨hi, hl'⟩ := List.nodup_cons.mp hl
    rw [List.foldl_cons, ih hl', Core.vAt_setVAt]
    by_cases hm : m = i
    · simp [hm, hi]
    · by_cases hml : m ∈ l <;> simp [hm, hml]

theorem Core.vAt_putV (c : Core) (sh : Bool) (bs : List Byte) (m : Nat) :
    (c.putV sh bs).vAt sh m = if m < bs.length then bs.getD m 0 else c.vAt sh m := by
  rw [Core.putV, Core.vAt_foldl sh bs _ List.nodup_range]
  simp only [List.mem_range]

theorem Core.setVAt_frame (c : Core) (sh : Bool) (n : Nat) (b : Byte) :
    c.setVAt sh n b = { c with v := (c.setVAt sh n b).v, sv := (c.setVAt sh n b).sv } := by
  cases sh <;> rfl

theorem Core.putV_frame (c : Core) (sh : Bool) (bs : List Byte) : c.putV sh bs = { c with v := (c.putV sh bs).v, sv := (c.putV sh bs).sv } := by
  unfold Core.putV
  induction List.range bs.length generalizing c with
  | nil => rfl
  | cons i l ih =>
    rw [List.foldl_cons, ih, Core.setVAt_frame]

section
variable {s : State} {k : Nat}

/-- Results for a caller, which then changes otherwise: one change of its core. -/
theorem State.forEach_setVAt (sh : Bool) (bs : List Byte) (f : Core → Core) (hcall : (s.core k).state = .calling)
    (hsh : (s.core k).shadow = sh) (l : List Nat) :
    (s.forEach l (fun s i => s.updCore k (fun c => c.setVAt c.imgBank i (bs.getD i 0)))).updCore k f =
      s.setCore k (f (l.foldl (fun c i => c.setVAt sh i (bs.getD i 0)) (s.core k))) := by
  induction l generalizing s with
  | nil => rfl
  | cons i l ih =>
    have hbank : (s.core k).imgBank = sh := by simp [Core.imgBank, hcall, hsh]
    change ((s.updCore k (fun c => c.setVAt c.imgBank i (bs.getD i 0))).forEach l _).updCore k f = _
    have hupd : s.updCore k (fun c => c.setVAt c.imgBank i (bs.getD i 0)) = s.setCore k ((s.core k).setVAt sh i (bs.getD i 0)) := by
      rw [State.updCore_eq, hbank]
    rw [hupd]
    have hframe := Core.setVAt_frame (s.core k) sh i (bs.getD i 0)
    rw [ih (by rw [State.core_setCore, if_pos rfl, hframe]; exact hcall) (by rw [State.core_setCore, if_pos rfl, hframe]; exact hsh),
      State.core_setCore, if_pos rfl, State.setCore_setCore]
    rfl

theorem State.core_forEach_setVAt (sh : Bool) (bs : List Byte) (hcall : (s.core k).state = .calling)
    (hsh : (s.core k).shadow = sh) (l : List Nat) :
    (s.forEach l (fun s i => s.updCore k (fun c => c.setVAt c.imgBank i (bs.getD i 0)))).core k =
      l.foldl (fun c i => c.setVAt sh i (bs.getD i 0)) (s.core k) := by
  induction l generalizing s with
  | nil => rfl
  | cons i l ih =>
    have hbank : (s.core k).imgBank = sh := by simp [Core.imgBank, hcall, hsh]
    have hupd : s.updCore k (fun c => c.setVAt c.imgBank i (bs.getD i 0)) = s.setCore k ((s.core k).setVAt sh i (bs.getD i 0)) := by
      rw [State.updCore_eq, hbank]
    have hframe := Core.setVAt_frame (s.core k) sh i (bs.getD i 0)
    change ((s.updCore k (fun c => c.setVAt c.imgBank i (bs.getD i 0))).forEach l _).core k = _
    rw [hupd, ih (by rw [State.core_setCore, if_pos rfl, hframe]; exact hcall) (by rw [State.core_setCore, if_pos rfl, hframe]; exact hsh),
      State.core_setCore, if_pos rfl]
    rfl

theorem State.putArgs_resumes (bs : List Byte) (hcall : (s.core k).state = .calling) :
    (s.putArgs k bs).updCore k (fun c => { c with state := .run }) =
      s.setCore k { (s.core k).putV (s.core k).shadow bs with state := .run } :=
  State.forEach_setVAt (s.core k).shadow bs _ hcall rfl _

theorem State.core_putArgs (bs : List Byte) (hcall : (s.core k).state = .calling) :
    (s.putArgs k bs).core k = (s.core k).putV (s.core k).shadow bs :=
  State.core_forEach_setVAt (s.core k).shadow bs hcall rfl _

/-! ### The way of a call -/

/-- The call of Shingle k has left the queue. -/
def State.unqueued (s : State) (k : Nat) : State :=
  { s with ridge := { s.ridge with kcq := s.ridge.kcq.filter (fun x => decide (x ≠ k)) } }

theorem State.serves_calling {n : Nat} (h : s.serves k n = true) : (s.core k).state = .calling := by
  simp only [State.serves, Bool.and_eq_true, decide_eq_true_eq] at h
  exact h.1.1.2

/-- A caller that waits resumes with status 0. -/
theorem State.kcAnswer_resumes (hk : k < 64) (hcall : (s.core k).state = .calling) :
    s.kcAnswer k 0 = s.updCore k (fun c => { c with state := .run }) := by
  simp [State.kcAnswer, hk, hcall]

theorem State.serve_idle {n : Nat} {denied : Bool} {g : State → State × Nat} (h : (s.core k).state ≠ .calling) :
    s.serve k n denied g = s := if_neg fun hs => h (State.serves_calling hs)

/-- A service that succeeds. -/
theorem State.serve_success {n : Nat} {g : State → State × Nat} {u : State} (hk : k < 64) (hserves : s.serves k n = true)
    (hg : g (s.unqueued k) = (u, 0)) (hcall : (u.core k).state = .calling) :
    s.serve k n false g = u.updCore k (fun c => { c with state := .run }) := by
  unfold State.serve
  rw [if_pos hserves]
  change (g (s.unqueued k)).1.kcAnswer k (g (s.unqueued k)).2 = _
  rw [hg]
  exact State.kcAnswer_resumes hk hcall

/-- A call that ends with an error where the entry of vector 6 can be read. -/
theorem State.callError_clean {status : Nat} (hgm : (s.core k).gm = false) (hwd : (s.core k).wdPend = false)
    (h0 : s.readable k ((s.core k).vb + 12).toNat) (h1 : s.readable k ((s.core k).vb + 13).toNat) :
    ∃ d, s.callError k status = { s with free := s.free + 1 }.setCore k d := by
  have haddr : ((s.core k).vb + 12).toNat = ((s.core k).vb.toNat + 2 * 6) % 65536 := by simp
  have hnext : (s.core k).vb + 12 + 1 = (s.core k).vb + 13 := by rw [BitVec.add_assoc]; rfl
  unfold State.callError State.except
  dsimp only
  rw [State.updCore_eq, State.core_setCore, if_pos rfl]
  have hgm' : ({ (s.freeNext.1.core k) with state := CoreSt.run } : Core).gm = false := hgm
  rw [if_neg (by rw [hgm']; exact Bool.false_ne_true), if_pos (by decide), State.updCore_eq, State.core_setCore, if_pos rfl, State.setCore_setCore]
  rw [State.enter_eq (e := (s.core k).vb + 12)]
  · exact ⟨_, State.setCore_setCore _ _ _ _⟩
  · rw [State.core_setCore, if_pos rfl]; exact haddr
  · rw [State.core_setCore, if_pos rfl]; exact hwd
  · exact State.readable_setCore rfl rfl h0
  · rw [hnext]; exact State.readable_setCore rfl rfl h1

theorem State.callError_locks {status : Nat} (hgm : (s.core k).gm = true) :
    s.callError k status = ({ s with free := s.free + 1 }.setCore k { s.core k with state := .run }).lockCore k := by
  unfold State.callError State.except
  dsimp only
  rw [State.updCore_eq, State.core_setCore, if_pos rfl]
  have hgm' : ({ (s.freeNext.1.core k) with state := CoreSt.run } : Core).gm = true := hgm
  rw [if_pos hgm']
  rfl

/-- What a call leaves that ends with an error. -/
theorem State.callError_leaves (status : Nat) (hk : k < 64) (hgm : (s.core k).gm = false) :
    ∃ t, (s.unqueued k).callError k status = t ∧ (t.core k).excVec = 6 ∧ (t.core k).excDetail = BitVec.ofNat 8 status ∧
      (t.core k).spc = (s.core k).pc ∧ t.ridge.kcq = (s.unqueued k).ridge.kcq ∧
      ((s.core k).wdPend = false → s.readable k ((s.core k).vb + 12).toNat → s.readable k ((s.core k).vb + 13).toNat →
        t = { s with free := t.free, cores := t.cores, ridge := (s.unqueued k).ridge } ∧ t.core 64 = s.core 64) := by
  obtain ⟨hvec, hdetail, hspc, -, hkcq⟩ := State.callError_shingle (s := s.unqueued k) hk (status := status) hgm
  refine ⟨_, rfl, hvec, hdetail, hspc, hkcq, fun hwd h0 h1 => ?_⟩
  obtain ⟨d, hd⟩ := State.callError_clean (s := s.unqueued k) (status := status) hgm hwd h0 h1
  rw [hd]
  refine ⟨rfl, ?_⟩
  rw [State.core_setCore, if_neg (by omega)]
  rfl

/-- What it leaves of a caller with GM = 1: a lockup. -/
theorem State.callError_lockup (status : Nat) (hk : k < 64) (hgm : (s.core k).gm = true) :
    ∃ t, (s.unqueued k).callError k status = t ∧
      t = { s with free := t.free, regs := t.regs, cores := t.cores, ridge := t.ridge, srcs := t.srcs } ∧ (t.core k).state = .locked := by
  refine ⟨_, rfl, ?_, ?_⟩
  · rw [State.callError_locks (s := s.unqueued k) hgm, State.lockCore_frame hk]
    rfl
  · rw [State.callError_locks (s := s.unqueued k) hgm]
    exact State.state_lockCore hk

/-! ### The services -/

/-- A caller that goes on in RUN where it called from. -/
def Core.Resumed (c d : Core) : Prop :=
  d.state = .run ∧ d.pc = c.pc ∧ d.st = c.st ∧ d.shadow = c.shadow ∧ d.px = c.px ∧ d.py = c.py ∧ d.data = c.data

theorem Core.resumed_run (c : Core) : c.Resumed { c with state := .run } := ⟨rfl, rfl, rfl, rfl, rfl, rfl, rfl⟩

theorem Core.resumed_putV (c : Core) (sh : Bool) (bs : List Byte) : c.Resumed { c.putV sh bs with state := .run } := by
  rw [Core.putV_frame]
  exact ⟨rfl, rfl, rfl, rfl, rfl, rfl, rfl⟩

section
variable (hk : k < 64)
include hk

/-- A service that only returns results. -/
theorem State.serve_results {n : Nat} (hserves : s.serves k n = true) (bs : State → List Byte) :
    s.serve k n false (fun s => (s.putArgs k (bs s), 0)) =
      (s.unqueued k).setCore k { (s.core k).putV (s.core k).shadow (bs (s.unqueued k)) with state := .run } := by
  have hcall := State.serves_calling hserves
  rw [State.serve_success hk hserves (u := (s.unqueued k).putArgs k (bs (s.unqueued k))) rfl ?_]
  · exact State.putArgs_resumes (s := s.unqueued k) _ hcall
  · rw [State.core_putArgs (s := s.unqueued k) _ hcall, Core.putV_frame]
    exact hcall

/-- A call that names what the service does not take. -/
theorem State.serve_badArg {n : Nat} {g : State → State × Nat} (hserves : s.serves k n = true)
    (hg : g (s.unqueued k) = (s.unqueued k, 2)) : s.serve k n false g = (s.unqueued k).callError k 2 :=
  State.serve_error hk hserves (by decide) hg

theorem State.serve_denied {n : Nat} {g : State → State × Nat} (hserves : s.serves k n = true) :
    s.serve k n true g = (s.unqueued k).callError k 3 :=
  State.serve_error hk hserves (by decide) rfl

end

/-! ### LOG -/

theorem State.argNat_eq (hcall : (s.core k).state = .calling) (i n : Nat) : s.argNat k i n =
    leNat ((List.range n).map (fun j => (s.core k).vAt (s.core k).shadow (i + j))) := by
  have hbank : (s.core k).imgBank = (s.core k).shadow := by simp [Core.imgBank, hcall]
  simp [State.argNat, State.arg, hbank]

theorem length_logRec (r : LogRec) : r.bytes.length = 16 := by simp [LogRec.bytes, length_leBytes]

/-- The parts of a record: its time, then code and data. -/
theorem take_logRec (r : LogRec) : r.bytes.take 8 = leBytes 4 r.secs ++ leBytes 4 r.ns := by
  unfold LogRec.bytes
  rw [List.append_assoc (leBytes 4 r.secs ++ leBytes 4 r.ns), List.append_assoc (leBytes 4 r.secs ++ leBytes 4 r.ns)]
  exact List.take_left' (by simp [length_leBytes])

theorem drop_logRec (r : LogRec) : r.bytes.drop 10 = leBytes 2 r.code ++ leBytes 4 r.data := by
  unfold LogRec.bytes
  rw [List.append_assoc]
  exact List.drop_left' (by simp [length_leBytes])

/-- Where record i of the fault log begins. -/
def logAt (i : Nat) : Nat := logBase + 16 * (i % 256)

theorem State.logAdd_core (s : State) (origin code data : Nat) : ∃ c, s.logAdd origin code data =
    { s with ridge := { s.ridge with logs := s.ridge.logs + 1 } }.setCore 64 c ∧
    c.data = (s.core 64).data.writeList (logAt s.ridge.logs)
      (LogRec.bytes ⟨s.cald.sec % 2 ^ 32, s.cald.sub * 1000000000 / 32768, origin, code % 65536, data % 2 ^ 32⟩) :=
  ⟨_, rfl, rfl⟩

theorem Memory.readList_writeList_other (m : Memory) {a b n : Nat} {bs : List Byte} (h : b + n ≤ a ∨ a + bs.length ≤ b) :
    (m.writeList a bs).readList b n = m.readList b n := by
  rw [Memory.readList_eq_map, Memory.readList_eq_map]
  refine List.map_congr_left fun i hi => ?_
  have hi' := List.mem_range.mp hi
  rw [Memory.read_writeList, if_neg (by omega)]

theorem Memory.readList_writeList_self (m : Memory) (a : Nat) (bs : List Byte) : (m.writeList a bs).readList a bs.length = bs := by
  rw [Memory.readList_eq_map, Memory.readList_writeList_same]

/-- The fault log in a data memory that n records have been appended to. -/
def logOf (m : Memory) (n : Nat) : List Byte :=
  (List.range (Nat.min 256 n)).flatMap (fun i => m.readList (logAt (n - Nat.min 256 n + i)) 16)

theorem State.logBytes_eq : s.logBytes = logOf (s.core 64).data s.ridge.logs := rfl

theorem length_flatMap_records (m : Memory) (f : Nat → Nat) (l : List Nat) :
    (l.flatMap (fun i => m.readList (f i) 16)).length = 16 * l.length := by
  induction l with
  | nil => rfl
  | cons i l ih =>
    rw [List.flatMap_cons, List.length_append, ih, Memory.readList_length, List.length_cons]
    omega

/-- The newest record of the log. -/
theorem logOf_last (m : Memory) (n : Nat) {bs : List Byte} (hbs : bs.length = 16) :
    (logOf (m.writeList (logAt n) bs) (n + 1)).drop (16 * Nat.min 255 n) = bs := by
  have hmin : Nat.min 256 (n + 1) = Nat.min 255 n + 1 := Nat.succ_min_succ 255 n
  have hle : Nat.min 255 n ≤ n := Nat.min_le_right 255 n
  unfold logOf
  rw [hmin, List.range_succ, List.flatMap_append]
  rw [List.drop_left' (by rw [length_flatMap_records, List.length_range])]
  have hself := Memory.readList_writeList_self m (logAt n) bs
  rw [hbs] at hself
  rw [List.flatMap_singleton, show n + 1 - (Nat.min 255 n + 1) + Nat.min 255 n = n by omega, hself]

/-- Until 256 records are there, the older ones stay. -/
theorem logOf_before (m : Memory) {n : Nat} (hn : n < 256) {bs : List Byte} (hbs : bs.length = 16) :
    (logOf (m.writeList (logAt n) bs) (n + 1)).take (16 * n) = logOf m n := by
  have hmin : Nat.min 256 (n + 1) = n + 1 := Nat.min_eq_right hn
  have hmin' : Nat.min 256 n = n := Nat.min_eq_right (Nat.le_of_lt hn)
  unfold logOf
  rw [hmin, hmin', List.range_succ, List.flatMap_append]
  rw [List.take_left' (by rw [length_flatMap_records, List.length_range]), Nat.sub_self, Nat.sub_self]
  have hsame : ∀ i ∈ List.range n, (m.writeList (logAt n) bs).readList (logAt (0 + i)) 16 = m.readList (logAt (0 + i)) 16 := fun i hi => by
    have hi' := List.mem_range.mp hi
    refine Memory.readList_writeList_other m ?_
    unfold logAt
    omega
  rw [List.flatMap_def, List.flatMap_def, List.map_congr_left hsame]

/-- LOG appends a record; its origin is a free value. -/
theorem State.serve_log (hk : k < 64) (hserves : s.serves k 2 = true) : ∃ t c, exec (.svcLog ⟨k, hk⟩ false) s = .next t ∧
    t = ({ s.unqueued k with free := s.free + 1, ridge := { (s.unqueued k).ridge with logs := s.ridge.logs + 1 } }.setCore 64 c).setCore k
      { s.core k with state := .run } ∧
    c.data = (s.core 64).data.writeList (logAt s.ridge.logs) (LogRec.bytes ⟨s.cald.sec % 2 ^ 32, s.cald.sub * 1000000000 / 32768,
      Config.freeVal s.free % 65536, ((s.core k).vAt (s.core k).shadow 0).toNat % 65536,
      leNat ((List.range 4).map (fun j => (s.core k).vAt (s.core k).shadow (1 + j))) % 2 ^ 32⟩) := by
  have hcall := State.serves_calling hserves
  have hne : k ≠ 64 := by omega
  have harg : ∀ u : State, u.cores = s.cores → u.arg k 0 = (s.core k).vAt (s.core k).shadow 0 := fun u hu => by
    have hcore : u.core k = s.core k := by unfold State.core; rw [hu]
    have hbank : (s.core k).imgBank = (s.core k).shadow := by simp [Core.imgBank, hcall]
    rw [State.arg, hcore, hbank]
  obtain ⟨c, hlog, hdata⟩ := State.logAdd_core { s.unqueued k with free := s.free + 1 } (Config.freeVal s.free % 65536)
    ((s.core k).vAt (s.core k).shadow 0).toNat (leNat ((List.range 4).map (fun j => (s.core k).vAt (s.core k).shadow (1 + j))))
  have hcorek : ((State.logAdd { s.unqueued k with free := s.free + 1 } (Config.freeVal s.free % 65536)
      ((s.core k).vAt (s.core k).shadow 0).toNat (leNat ((List.range 4).map (fun j => (s.core k).vAt (s.core k).shadow (1 + j))))).core k)
      = s.core k := by
    rw [hlog, State.core_setCore, if_neg hne]; rfl
  refine ⟨_, c, congrArg Host.Outcome.next (State.serve_success hk hserves (u := State.logAdd { s.unqueued k with free := s.free + 1 }
    (Config.freeVal s.free % 65536) ((s.core k).vAt (s.core k).shadow 0).toNat
    (leNat ((List.range 4).map (fun j => (s.core k).vAt (s.core k).shadow (1 + j))))) ?_ ?_), ?_, hdata⟩
  · dsimp only
    rw [harg (s.unqueued k) rfl, State.argNat_eq (s := s.unqueued k) hcall]
    rfl
  · rw [hcorek]; exact hcall
  · rw [State.updCore_eq, hcorek, hlog]
    rfl

/-! ### MAILBOX, RAISE and HOST_NOTE -/

theorem State.argBytes_in {n : Nat} (h : (s.core k).px.toNat + n ≤ 0x4000) :
    s.argBytes k n = some ((List.range n).map (fun i => (s.core k).data.read ((s.core k).px.toNat + i))) := by
  unfold State.argBytes
  dsimp only
  rw [if_pos h, Memory.readList_eq_map]

theorem State.argBytes_out {n : Nat} (h : 0x4000 < (s.core k).px.toNat + n) : s.argBytes k n = none := if_neg (by omega)

/-- Eight bytes in a mailbox: the last one raises MAILBOX. -/
theorem State.eachByte_mailPoke (s : State) (t : Nat) {bs : List Byte} (h : bs.length = 8) :
    ∃ m, s.eachByte 0 bs (fun s i b => s.mailPoke t i b) = (s.setCore t { s.core t with mbox := m }).raise (128 + 2 * t) ∧
      ∀ i < 8, Tab.get (fun _ => 0) m i = bs.getD i 0 := by
  refine ⟨(List.range 8).foldl (fun m i => Tab.set (fun _ => 0) m i (bs.getD i 0)) (s.core t).mbox, ?_, fun i hi => ?_⟩
  · have hr : List.range 8 = [0, 1, 2, 3, 4, 5, 6, 7] := rfl
    unfold State.eachByte
    rw [h, hr]
    simp [State.forEach, State.mailPoke, State.raiseIf]
  · have hr : List.range 8 = [0, 1, 2, 3, 4, 5, 6, 7] := rfl
    rw [hr]
    (obtain rfl | rfl | rfl | rfl | rfl | rfl | rfl | rfl := lt_eight_cases hi) <;> simp

theorem State.signal_cores (s : State) (v : Nat) : (s.signal v).cores = s.cores := by
  unfold State.signal
  dsimp only
  (repeat' split) <;> rfl

theorem State.evSignal_cores (s : State) (v : Option Nat) : (s.evSignal v).cores = s.cores := by
  unfold State.evSignal
  split
  · exact s.signal_cores _
  · split
    · exact s.signal_cores _
    · rfl

theorem State.evDrop_cores (s : State) (e : EvEntry) : (s.evDrop e).cores = s.cores := by
  unfold State.evDrop
  dsimp only
  split
  · rw [State.signal_cores, State.raiseIf_frame]; rfl
  · rw [State.raiseIf_frame]; rfl

theorem State.evWrite_cores (s : State) (e : EvEntry) : (s.evWrite e).cores = s.cores := by
  unfold State.evWrite
  rw [State.evSignal_cores]
  rfl

theorem State.evPut_cores (s : State) (e : EvEntry) : (s.evPut e).cores = s.cores := by
  unfold State.evPut
  dsimp only
  repeat' split
  · exact s.evDrop_cores e
  · exact s.evWrite_cores e
  · rw [State.evWrite_cores, State.evWrite_cores]
  · exact s.evDrop_cores e

theorem State.postEvent_cores (s : State) (e : EvEntry) : (s.postEvent e).cores = s.cores := by
  unfold State.postEvent
  repeat' split
  · exact s.evPut_cores e
  · rfl
  · exact s.evDrop_cores e

/-- The bytes of a NOTE entry. -/
theorem evBytes_note {bs : List Byte} (h : bs.length = 12) (k : Nat) :
    evBytes (leAt bs 0 8) (leAt bs 8 4) k 2 0 = bs ++ leBytes 2 k ++ leBytes 2 0x2000 := by
  have hsplit : (bs.drop 0).take 8 ++ (bs.drop 8).take 4 = bs := by
    have hlast : (bs.drop 8).take 4 = bs.drop 8 := List.take_of_length_le (by rw [List.length_drop]; omega)
    rw [List.drop_zero, hlast, List.take_append_drop]
  unfold evBytes
  rw [leBytes_leAt (by omega), leBytes_leAt (by omega), hsplit]

/-- An argument of a caller, in the bank that it called from. -/
theorem State.arg_eq (hcall : (s.core k).state = .calling) (n : Nat) : s.arg k n = (s.core k).vAt (s.core k).shadow n := by
  have hbank : (s.core k).imgBank = (s.core k).shadow := by simp [Core.imgBank, hcall]
  rw [State.arg, hbank]

/-- A core with another mailbox, or the same core. -/
def Core.SameButMbox (c d : Core) : Prop := d = { c with mbox := d.mbox }

theorem Core.SameButMbox.resumed {c d : Core} (h : c.SameButMbox d) :
    c.Resumed { d with state := .run } ∧ ∀ m, ({ d with state := .run } : Core).vAt c.shadow m = c.vAt c.shadow m := by
  rw [h]
  exact ⟨⟨rfl, rfl, rfl, rfl, rfl, rfl, rfl⟩, fun _ => rfl⟩

/-- MAILBOX writes the 8 bytes at PX, and raises the mailbox of the target. -/
theorem State.serve_mailbox (hk : k < 64) (hserves : s.serves k 3 = true) {target : Nat} (ht : target < 64)
    (harg : ((s.core k).vAt (s.core k).shadow 0).toNat = target) (hpx : (s.core k).px.toNat + 8 ≤ 0x4000)
    (hon : s.powered (40 + target / 16) = true) :
    ∃ t, exec (.svcMailbox ⟨k, hk⟩ false) s = .next t ∧
      t = { s with regs := t.regs, cores := t.cores, ridge := t.ridge, srcs := t.srcs } ∧ (s.core k).Resumed (t.core k) ∧
      (∀ m, (t.core k).vAt (s.core k).shadow m = (s.core k).vAt (s.core k).shadow m) ∧
      (List.range 8).map (fun i => Tab.get (fun _ => 0) (t.core target).mbox i) =
        (List.range 8).map (fun i => (s.core k).data.read ((s.core k).px.toNat + i)) ∧
      (t.src (128 + 2 * target)).pend = true := by
  have hcall := State.serves_calling hserves
  let bs := (List.range 8).map (fun i => (s.core k).data.read ((s.core k).px.toNat + i))
  have hlen : bs.length = 8 := by simp [bs]
  obtain ⟨m, hm, hget⟩ := (s.unqueued k).eachByte_mailPoke target hlen
  let u := ((s.unqueued k).setCore target { s.core target with mbox := m }).raise (128 + 2 * target)
  have hu : (s.unqueued k).eachByte 0 bs (fun s i b => s.mailPoke target i b) = u := hm
  have hcore (j : Nat) : u.core j = if j = target then { s.core target with mbox := m } else s.core j := by
    change (((s.unqueued k).setCore target { s.core target with mbox := m }).raise (128 + 2 * target)).core j = _
    rw [State.raise_frame]
    exact State.core_setCore ..
  have hsame : (s.core k).SameButMbox (u.core k) := by
    rw [hcore]
    by_cases hkt : k = target
    · rw [if_pos hkt, hkt]; rfl
    · rw [if_neg hkt]; rfl
  have hstate : (u.core k).state = .calling := by rw [hsame]; exact hcall
  have hcorek (j : Nat) (f : Core → Core) : (u.updCore k f).core j = if j = k then f (u.core k) else u.core j := State.core_setCore ..
  refine ⟨_, congrArg Host.Outcome.next (State.serve_success hk hserves (u := u) ?_ hstate), ?_, ?_, fun m => ?_, ?_, ?_⟩
  · dsimp only
    rw [State.argBytes_in (s := s.unqueued k) hpx, State.arg_eq (s := s.unqueued k) hcall]
    have harg' : (((s.unqueued k).core k).vAt ((s.unqueued k).core k).shadow 0).toNat = target := harg
    have hon' : (s.unqueued k).powered (40 + target / 16) = true := hon
    rw [harg']
    exact (if_pos (by simp [ht, hon'])).trans (congrArg (·, 0) hu)
  · rw [State.updCore_eq]
    change u.setCore k _ = _
    have hframe : u = { s.unqueued k with regs := u.regs, cores := u.cores, srcs := u.srcs } := by
      exact State.ext_parts (by simp [u])
    rw [hframe]
    rfl
  · rw [hcorek, if_pos rfl]
    exact hsame.resumed.1
  · rw [hcorek, if_pos rfl]
    exact hsame.resumed.2 m
  · have hmbox : ((u.updCore k (fun c => { c with state := .run })).core target).mbox = m := by
      rw [hcorek]
      by_cases hkt : target = k
      · rw [if_pos hkt, hcore, if_pos hkt.symm]
      · rw [if_neg hkt, hcore, if_pos rfl]
    rw [hmbox]
    refine List.map_congr_left fun i hi => (hget i (List.mem_range.mp hi)).trans ?_
    have hi' : i < bs.length := by rw [hlen]; exact List.mem_range.mp hi
    rw [getD_of_lt hi', List.getElem_map, List.getElem_range]
  · rw [State.updCore_eq, State.src_setCore]
    exact State.pend_raise _ _

/-- RAISE raises a software source. -/
theorem State.serve_raise (hk : k < 64) (hserves : s.serves k 4 = true) {i : Nat} (hlo : 496 ≤ i) (hhi : i < 512)
    (harg : (s.unqueued k).argNat k 0 2 = i) :
    exec (.svcRaise ⟨k, hk⟩ false) s = .next (((s.unqueued k).raise i).setCore k { s.core k with state := .run }) := by
  have hcall := State.serves_calling hserves
  have hcore : ((s.unqueued k).raise i).core k = s.core k := by rw [State.raise_frame]; rfl
  refine congrArg Host.Outcome.next ((State.serve_success hk hserves (u := (s.unqueued k).raise i) ?_ ?_).trans ?_)
  · dsimp only
    rw [harg]
    exact if_pos ⟨hlo, hhi⟩
  · rw [hcore]; exact hcall
  · rw [State.updCore_eq, hcore]

/-- HOST_NOTE hands a NOTE entry to the engine. -/
theorem State.serve_note (hk : k < 64) (hserves : s.serves k 5 = true) (hpx : (s.core k).px.toNat + 12 ≤ 0x4000) :
    exec (.svcHostNote ⟨k, hk⟩ false) s = .next
      (((s.unqueued k).postEvent ⟨(List.range 12).map (fun i => (s.core k).data.read ((s.core k).px.toNat + i)) ++ leBytes 2 k ++
        leBytes 2 0x2000, none⟩).updCore k (fun d => { d with state := .run })) := by
  have hcall := State.serves_calling hserves
  refine congrArg Host.Outcome.next (State.serve_success hk hserves ?_ ?_)
  · dsimp only
    rw [State.argBytes_in (s := s.unqueued k) hpx]
    dsimp only
    rw [evBytes_note (by simp)]
    rfl
  · have hcores := (s.unqueued k).postEvent_cores ⟨(List.range 12).map (fun i => (s.core k).data.read ((s.core k).px.toNat + i)) ++
      leBytes 2 k ++ leBytes 2 0x2000, none⟩
    have hcore (t : State) (h : t.cores = s.cores) : t.core k = s.core k := by unfold State.core; rw [h]
    rw [hcore _ hcores]
    exact hcall

end

/-- Settles O36: the services of the kernel, and calls that end with BAD_ARG or DENIED. -/
theorem kernelServices : Obligations.KernelServices := by
  unfold Obligations.KernelServices
  refine ⟨fun k s => ?_, fun k s p hp => ?_⟩
  · intro c v q ns resumed kept target bytes badArg
    have hk := k.isLt
    have hbad {n : Nat} {i : Instr} {g : State → State × Nat} (hserves : s.serves k n = true) (hi : exec i s = .next (s.serve k n false g))
        (hg : g (s.unqueued k) = (s.unqueued k, 2)) : badArg i := fun hgm => by
      obtain ⟨t, ht, hvec, hdetail, hspc, hkcq, hclean⟩ := State.callError_leaves (s := s) 2 hk hgm
      exact ⟨t, by rw [hi, State.serve_badArg hk hserves hg, ht], hvec, hdetail, hspc, hkcq, fun hwd h0 h1 => (hclean hwd h0 h1).1⟩
    have hargs (hcall : c.state = .calling) : (s.unqueued k).argNat k 0 2 = v 0 + 256 * v 1 := by
      have hr : List.range 2 = [0, 1] := rfl
      rw [State.argNat_eq (s := s.unqueued k) hcall, hr]
      simp only [List.map_cons, List.map_nil, leNat, Nat.mul_zero, Nat.add_zero]
      rfl
    refine ⟨fun hserves => ?_, fun hserves => ?_, fun hserves => ?_, fun hserves ht => ⟨fun hpx hon => ?_, fun hpx => ?_⟩,
      fun hserves ht => ?_, fun hserves => ⟨fun hlo hhi => ?_, fun hout => ?_⟩, fun hserves => ⟨fun hpx => ?_, fun hpx => ?_⟩⟩
    · have hexec : exec (.svcVersion k false) s = .next _ := congrArg Host.Outcome.next (State.serve_results hk hserves _)
      have hlen : (leBytes 2 Config.kernelVersion.toNat ++ [5]).length = 3 := by simp [length_leBytes]
      have hv (m : Nat) : (((s.unqueued k).setCore k { (s.core k).putV (s.core k).shadow (leBytes 2 Config.kernelVersion.toNat ++ [5]) with
          state := .run }).core k).vAt c.shadow m = if m < 3 then (leBytes 2 Config.kernelVersion.toNat ++ [5]).getD m 0 else c.vAt c.shadow m := by
        rw [State.core_setCore, if_pos rfl]
        exact (Core.vAt_putV ..).trans (by rw [hlen])
      refine ⟨_, hexec, rfl, ?_, ?_, ?_, ?_, fun m hm => ?_⟩
      · rw [State.core_setCore, if_pos rfl]; rfl
      · rw [State.core_setCore, if_pos rfl]
        exact Core.resumed_putV c _ _
      · rw [hv, hv, if_pos (by decide), if_pos (by decide)]
        exact append_leBytes _ _
      · rw [hv, if_pos (by decide)]
        rfl
      · rw [hv, if_neg (by omega)]
    · have hexec : exec (.svcWallclock k false) s = .next _ := congrArg Host.Outcome.next
        (State.serve_results hk hserves (fun s => leBytes 4 s.cald.sec ++ leBytes 4 (s.cald.sub * 1000000000 / 32768)))
      have hv (m : Nat) (hm : m < 8) : (((s.unqueued k).setCore k { (s.core k).putV (s.core k).shadow
          (leBytes 4 s.cald.sec ++ leBytes 4 ns) with state := .run }).core k).vAt c.shadow m = (leBytes 4 s.cald.sec ++ leBytes 4 ns).getD m 0 := by
        rw [State.core_setCore, if_pos rfl]
        exact (Core.vAt_putV ..).trans (if_pos (by simpa [length_leBytes] using hm))
      refine ⟨_, hexec, rfl, ?_, ?_, ?_, ?_⟩
      · rw [State.core_setCore, if_pos rfl]; rfl
      · rw [State.core_setCore, if_pos rfl]
        exact Core.resumed_putV c _ _
      · have hmap := List.map_congr_left (l := List.range 4) fun i hi => hv i (by have := List.mem_range.mp hi; omega)
        exact (congrArg leNat (hmap.trans (map_getD_left _ _ (length_leBytes 4 _)))).trans (leNat_leBytes 4 _)
      · have hmap := List.map_congr_left (l := List.range 4) fun i hi => hv (4 + i) (by have := List.mem_range.mp hi; omega)
        exact (congrArg leNat (hmap.trans (map_getD_right _ _ (length_leBytes 4 _) (length_leBytes 4 _)))).trans (leNat_leBytes 4 _)
    · obtain ⟨t, d, ht, hframe, hdata⟩ := State.serve_log hk hserves
      have hcorek : t.core k = { c with state := .run } := by rw [hframe, State.core_setCore, if_pos rfl]
      have hcore64 : t.core 64 = d := by
        rw [hframe, State.core_setCore, if_neg (by omega), State.core_setCore, if_pos rfl]
      have hlogs : t.ridge.logs = s.ridge.logs + 1 := by rw [hframe]; rfl
      have hbytes : t.logBytes = logOf d.data (s.ridge.logs + 1) := by rw [State.logBytes_eq, hcore64, hlogs]
      refine ⟨t, ht, ?_, by rw [hcorek]; exact c.resumed_run, fun m _ => by rw [hcorek]; rfl, by rw [hframe]; rfl, hlogs, fun hlt => ?_, ?_⟩
      · rw [hframe]; rfl
      · rw [hbytes, hdata, logOf_before _ hlt (length_logRec _)]
        rfl
      · have hcode : v 0 % 65536 = v 0 := Nat.mod_eq_of_lt (Nat.lt_trans (c.vAt c.shadow 0).isLt (by decide))
        have hargs : leNat ((List.range 4).map (fun j => c.vAt c.shadow (1 + j))) = v 1 + 256 * v 2 + 65536 * v 3 + 16777216 * v 4 := by
          have hr : List.range 4 = [0, 1, 2, 3] := rfl
          have hbyte (i : Nat) : v i = (c.vAt c.shadow i).toNat := rfl
          rw [hr]
          simp only [List.map_cons, List.map_nil, leNat, hbyte, Nat.add_zero, Nat.reduceAdd]
          omega
        have hlt : leNat ((List.range 4).map (fun j => c.vAt c.shadow (1 + j))) < 2 ^ 32 := Nat.lt_of_lt_of_eq (leNat_lt _) (by simp)
        rw [hbytes, hdata]
        refine ⟨?_, ?_⟩
        · rw [logOf_last _ _ (length_logRec _), take_logRec]
        · rw [logOf_last _ _ (length_logRec _), drop_logRec]
          exact congr (congrArg (fun w => HAppend.hAppend (leBytes 2 w)) hcode) (congrArg (leBytes 4) ((Nat.mod_eq_of_lt hlt).trans hargs))
    · obtain ⟨t, hexec, hframe, hres, hkeep, hmbox, hpend⟩ :=
        State.serve_mailbox hk hserves ht rfl hpx (State.powered_of_isOn hon)
      exact ⟨t, hexec, hframe, hres, fun m _ => hkeep m, hmbox, hpend⟩
    · refine hbad hserves rfl ?_
      dsimp only
      rw [State.argBytes_out (s := s.unqueued k) hpx]
    · refine hbad hserves rfl ?_
      dsimp only
      rw [State.arg_eq (s := s.unqueued k) (State.serves_calling (s := s) hserves)]
      have hlt : decide ((((s.unqueued k).core k).vAt ((s.unqueued k).core k).shadow 0).toNat < 64) = false := decide_eq_false (Nat.not_lt.mpr ht)
      rw [hlt]
      split <;> rfl
    all_goals have hcall := State.serves_calling hserves
    · have harg : (s.unqueued k).argNat k 0 2 = v 0 + 256 * v 1 := hargs hcall
      refine ⟨_, State.serve_raise hk hserves hlo hhi harg, ?_, ?_, fun m _ => ?_, ?_, fun j hj h491 => ?_⟩
      · rw [State.raise_frame]; rfl
      · rw [State.core_setCore, if_pos rfl]
        exact c.resumed_run
      · rw [State.core_setCore, if_pos rfl]
        rfl
      · rw [State.src_setCore]
        exact State.pend_raise _ _
      · rw [State.src_setCore, State.src_raise_other _ hj h491]
        rfl
    · refine hbad hserves rfl (if_neg ?_)
      rw [hargs hcall]
      omega
    · exact State.serve_note hk hserves hpx
    · refine hbad hserves rfl ?_
      rw [State.argBytes_out (s := s.unqueued k) hpx]
  · have hk := k.isLt
    have hserve : ∀ s' : State, s' = s → ∃ (g : State → State × Nat), exec p.2 s = .next (s.serve k p.1 true g) := fun _ _ => by
      simp only [List.mem_cons, List.not_mem_nil, or_false] at hp
      rcases hp with rfl | rfl | rfl | rfl | rfl | rfl <;> exact ⟨_, rfl⟩
    obtain ⟨g, hexec⟩ := hserve s rfl
    refine ⟨fun hidle => hexec.trans (congrArg Host.Outcome.next (State.serve_idle hidle)), fun hserves => ⟨fun hgm => ?_, fun hgm => ?_⟩⟩
    · obtain ⟨t, ht, hvec, hdetail, hspc, -, hclean⟩ := State.callError_leaves (s := s) 3 hk hgm
      refine ⟨t, hexec.trans (congrArg Host.Outcome.next ((State.serve_denied hk hserves).trans ht)), hvec, hdetail, hspc, fun hwd h0 h1 => ?_⟩
      obtain ⟨hframe, h64⟩ := hclean hwd h0 h1
      have hridge : t.ridge = (s.unqueued k).ridge := by rw [hframe]
      refine ⟨hframe.trans (by rw [hridge]), ?_⟩
      rw [State.logBytes_eq, State.logBytes_eq, h64, hridge]
      rfl
    · obtain ⟨t, ht, hframe, hlocked⟩ := State.callError_lockup (s := s) 3 hk hgm
      exact ⟨t, hexec.trans (congrArg Host.Outcome.next ((State.serve_denied hk hserves).trans ht)), hframe, hlocked⟩

end Sys2Proof.Machine
end

section
/-!
PROOF. Proofs/QueueEngine.lean: the queue engine reads descriptors, chains, link words and arguments, and ends the segments whose
descriptor or read fails (R271 to R275, R278).
-/
namespace Sys2Proof.Machine

section
variable {s : State} {q : Nat}

/-! ### The completion of an ended segment (R278) -/

/-- The entry of a segment that CHAIN_RESUME has not started, with its PHASE bit. -/
theorem phased_compBytes (cid : Nat) (st : Status) (h r i q : Nat) (ph : Bool) : phased (compBytes cid st h r i q false false) ph =
    leBytes 2 cid ++ leBytes 1 st.code ++ leBytes 1 st.reason ++ leBytes 2 (h % 4096) ++ leBytes 2 0 ++ leBytes 4 r ++ leBytes 2 i ++
      leBytes 1 q ++ leBytes 1 (0 + if ph then 0x80 else 0) := by
  cases ph <;> simp [phased, compBytes, leBytes, b2n]

/-- The completion queue k takes an entry now, and no signal follows. -/
def State.CqTakes (s : State) (k : Nat) : Prop :=
  (s.cq k).en = true ∧ 0 < (s.cq k).room ∧ (s.cq k).held = [] ∧ (s.cq k).ien = false ∧ s.qeHeld = false

theorem State.CqTakes.congr {t : State} {k : Nat} (h : s.CqTakes k) (hcq : t.cq k = s.cq k) (hqe : t.qeHeld = s.qeHeld) : t.CqTakes k := by
  unfold State.CqTakes
  rw [hcq, hqe]
  exact h

/-- The host write of entry e of completion queue c. -/
def Cq.put (c : Cq) (e : List Byte) : Emit := .hostWrite (c.base.toNat + 16 * c.tail) (phased e c.phase)

theorem State.postCompletion_takes {k : Nat} (h : s.CqTakes k) (e : List Byte) :
    s.postCompletion k e = { s.setCq k (s.cq k).advance with out := (s.cq k).put e :: s.out } := by
  obtain ⟨hen, hroom, hheld, hien, hqe⟩ := h
  have hput : s.postCompletion k e = (s.ringWrite k e).moderate k := by
    simp [State.postCompletion, State.cqPut, hqe, hen, hroom, hheld, State.moderateIf]
  have hquiet : ((s.ringWrite k e).cq k).ien = false := by simp [State.ringWrite, Cq.advance, hien]
  rw [hput, State.moderate, if_pos (by simp [hquiet])]
  rfl

/-- A completion posted in a state whose completion queues are those of s. -/
theorem State.postCompletion_of (t : State) {k : Nat} (h : s.CqTakes k) (hcqs : t.cqs = s.cqs) (hpcie : t.pcie = s.pcie) (e : List Byte) :
    ∃ cqs out, t.postCompletion k e = { t with cqs := cqs, out := out } ∧ cqs = (s.setCq k (s.cq k).advance).cqs ∧
      out = (s.cq k).put e :: t.out := by
  have hk : t.cq k = s.cq k := congrArg (fun x => Tab.get (fun _ => Cq.reset) x k) hcqs
  have hqe : t.qeHeld = s.qeHeld := by unfold State.qeHeld; rw [hpcie]
  refine ⟨_, _, State.postCompletion_takes (h.congr hk hqe) e, ?_, by rw [hk]⟩
  rw [hk]
  exact congrArg (fun x => Tab.set (fun _ => Cq.reset) x k (s.cq k).advance) hcqs

/-- A ring with room has a size, so TAIL wraps at it. -/
theorem Cq.advance_tail {c : Cq} (h : 0 < c.room) : c.advance.tail = (c.tail + 1) % Nat.min c.size 4096 := by
  have hsize : sizeEff c.size ≠ 0 := fun h0 => by simp [Cq.room, h0] at h
  exact congrArg ((c.tail + 1) % ·) (Nat.max_eq_right (Nat.one_le_iff_ne_zero.mpr hsize))

/-- The completion queue k has taken one entry: what the statement says of it. -/
theorem State.advanced {t : State} {k : Nat} (h : s.CqTakes k) (hcqs : t.cqs = (s.setCq k (s.cq k).advance).cqs) :
    (t.cq k).tail = ((s.cq k).tail + 1) % Nat.min (s.cq k).size 4096 ∧
      (t.cq k).phase = (if (t.cq k).tail = 0 then !(s.cq k).phase else (s.cq k).phase) ∧ (t.cq k).head = (s.cq k).head ∧
      ∀ j : Nat, j ≠ k → t.cq j = s.cq j := by
  have hcq (j : Nat) : t.cq j = if j = k then (s.cq k).advance else s.cq j := by
    rw [← State.cq_setCq]
    exact congrArg (fun x => Tab.get (fun _ => Cq.reset) x j) hcqs
  rw [hcq k, if_pos rfl]
  exact ⟨Cq.advance_tail h.2.1, rfl, rfl, fun j hj => by rw [hcq j, if_neg hj]⟩

/-! ### DESCRIPTOR_READ (R271, R274, R275) -/

/-- The only queue that can act is the next one. -/
theorem State.nextQueue_alone (hq : q < 64) (hready : s.sqReady q = true) (halone : ∀ k : Nat, k < 64 → k ≠ q → s.sqReady k = false) :
    s.nextQueue = some q := by
  have hmem : q ∈ (List.range 64).map (fun i => (s.engine.last + 1 + i) % 64) :=
    List.mem_map.mpr ⟨(q + 64 - (s.engine.last + 1) % 64) % 64, List.mem_range.mpr (Nat.mod_lt _ (by decide)), by omega⟩
  cases hfind : s.nextQueue with
  | none => exact absurd hready (List.find?_eq_none.mp hfind q hmem)
  | some k =>
    have hk := List.find?_some hfind
    obtain ⟨i, -, rfl⟩ := List.mem_map.mp (List.mem_of_find?_eq_some hfind)
    refine Classical.byContradiction fun hne => ?_
    rw [halone _ (Nat.mod_lt _ (by decide)) fun h => hne (congrArg some h)] at hk
    cases hk

theorem exec_descriptorRead_idle (h : bit (s.reg .qeStatus) 0 = false ∨ s.qeHeld = true) : exec .descriptorRead s = .next s :=
  congrArg Host.Outcome.next (if_neg (by rcases h with h | h <;> simp [h]))

theorem exec_descriptorRead_alone (hq : q < 64) (hon : bit (s.reg .qeStatus) 0 = true) (hheld : s.qeHeld = false)
    (hready : s.sqReady q = true) (halone : ∀ k : Nat, k < 64 → k ≠ q → s.sqReady k = false) :
    exec .descriptorRead s = .next (State.sqAct { s with engine := { s.engine with last := q } } q) := by
  refine congrArg Host.Outcome.next ((if_pos (by simp [hon, hheld])).trans ?_)
  rw [State.nextQueue_alone hq hready halone]

theorem State.cqOpen_of {x : Sq} {c : Cq} (hx : s.sq q = x) (hc : s.cq x.cq = c) (hen : c.en = true) (hroom : 0 < c.room) (hheld : c.held = []) :
    s.cqOpen q = true := by
  subst hx hc
  simp [State.cqOpen, hen, hroom, hheld]

/-- A read of a queue that has been changed to y. -/
theorem State.request_setSq (r : Rd) (a n : Nat) (y : Sq) : (s.setSq q y).request q r a n =
    { s.setSq q { y with rd := some r } with out := .hostRead q a n :: s.out } := by
  unfold State.request State.updSq
  rw [State.sq_setSq, if_pos rfl, State.setSq_setSq]
  rfl

/-! ### The read that returns a descriptor (R271, R276) -/

theorem State.setSq_frame (y : Sq) : s.setSq q y = { s with sqs := (s.setSq q y).sqs } := rfl

/-- A descriptor at the head of a ring segment has been read: counted, and the command of its queue. -/
def State.described (s : State) (q : Nat) (d : Desc) : State :=
  (s.bump (.qeCount 2)).setSq q { s.sq q with rd := none, cmd := some ⟨d, [], .ready⟩, seg := some ⟨true, false, d.cid, 0⟩ }

theorem State.reg_bump_self (s : State) (r : Reg) : (s.bump r).reg r = s.reg r + 1 := by
  simp [State.bump]

theorem State.sq_described (s : State) (q : Nat) (d : Desc) (k : Nat) : (s.described q d).sq k =
    if k = q then { s.sq q with rd := none, cmd := some ⟨d, [], .ready⟩, seg := some ⟨true, false, d.cid, 0⟩ } else s.sq k := by
  unfold State.described
  rw [State.sq_setSq]
  rfl

theorem State.reg_described (s : State) (q n : Nat) (d : Desc) :
    (s.described q d).reg (.qeCount n) = s.reg (.qeCount n) + if n = 2 then 1 else 0 := by
  unfold State.described
  by_cases hn : n = 2
  · subst hn; simp [State.bump]
  · have hoff : 4128 + 4 * n ≠ 4136 := by omega
    simp [State.bump, State.updReg, Reg.off, hn, hoff]

theorem State.described_frame (s : State) (q : Nat) (d : Desc) :
    s.described q d = { s with regs := (s.described q d).regs, sqs := (s.described q d).sqs } :=
  State.ext_parts (by simp [State.described, State.bump])

theorem State.gotDesc_ring (hseg : (s.sq q).seg = some ⟨true, false, 0xFFFF, 0⟩) (d : Desc) : s.gotDesc q d true =
    if d.op = 0 ∨ 0x1D ≤ d.op then (s.described q d).finish q .invalidOpcode 0
    else if !d.fieldsOk then (s.described q d).finish q .invalidField 0
    else { s.described q d with engine := { s.engine with order := s.engine.order.filter (· ≠ q) ++ [q] } } := by
  have hsq : (s.bump (.qeCount 2)).updSq q (fun x => { x with
      rd := none, cmd := some ⟨d, [], .ready⟩, seg := x.seg.map (fun g => if true then { g with cid := d.cid } else g) }) = s.described q d := by
    unfold State.updSq State.described
    rw [show (s.bump (.qeCount 2)).sq q = s.sq q from rfl]
    dsimp only
    rw [hseg]
    rfl
  unfold State.gotDesc
  rw [hsq]
  rfl

/-- A segment of one ring entry ends with a status other than a success. -/
theorem State.endSegment_ring {at_ cid : Nat} {st : Status} {x : Sq} {g : Seg} (hx : s.sq q = x) (hseg : x.seg = some g)
    (hg : g.ring = true) (hres : g.resumed = false) (hst : st ≠ .success) (hread : st ≠ .hostReadFailed) (hlimit : st ≠ .chainLimit)
    (htakes : s.CqTakes x.cq) : ∃ t, s.endSegment q at_ cid 0 st 0 = t ∧
      t = { s with regs := t.regs, sqs := t.sqs, cqs := t.cqs, out := t.out } ∧
      t.sqs = (s.setSq q { x with head := x.nextHead, seg := none, nextAt := none, rd := none, cmd := none, point := some (at_, cid) }).sqs ∧
      t.out = (s.cq x.cq).put (compBytes cid st x.nextHead 0 0 q false false) :: s.out ∧
      t.cqs = (s.setCq x.cq (s.cq x.cq).advance).cqs ∧ t.regs = (s.bump (.qeCount 1)).regs := by
  have hcount (u : State) : u.countEnd st = u.bump (.qeCount 1) := by
    unfold State.countEnd
    rw [if_neg hst]
    cases st with
    | success => exact absurd rfl hst
    | hostReadFailed => exact absurd rfl hread
    | chainLimit => exact absurd rfl hlimit
    | _ => rfl
  unfold State.endSegment
  rw [hx]
  dsimp only
  rw [hseg]
  dsimp only
  rw [hg, hres, hcount, if_pos rfl]
  obtain ⟨cqs, out, hp, hcqs, hout⟩ := State.postCompletion_of ((s.setSq q { x with
    head := x.nextHead, seg := none, nextAt := none, rd := none, cmd := none, point := some (at_, cid) }).bump (.qeCount 1)) htakes rfl rfl
    (compBytes cid st x.nextHead 0 0 q false false)
  exact ⟨_, hp, rfl, rfl, hout, hcqs, rfl⟩

/-- A descriptor that is not accepted ends its segment. -/
theorem State.finish_described {d : Desc} {st : Status} (hst : st ≠ .success) (hread : st ≠ .hostReadFailed) :
    (s.described q d).finish q st 0 = (s.described q d).endSegment q d.at_ d.cid 0 st 0 := by
  unfold State.finish
  rw [State.described, State.sq_setSq, if_pos rfl]
  dsimp only
  rw [if_pos (by simp [hst]), if_neg hread]

theorem exec_readCompletion_done {r : Rd} {bs : List Byte} {q : Fin 64} (hrd : (s.sq q).rd = some r) (hlen : bs.length = s.rdLen q r) :
    exec (.readCompletion q bs true) s = .next (s.readDone q r bs) := by
  refine congrArg Host.Outcome.next ?_
  rw [hrd]
  exact if_pos (by simp [hlen])

theorem exec_readCompletion_failed {r : Rd} {bs : List Byte} {q : Fin 64} (hrd : (s.sq q).rd = some r) :
    exec (.readCompletion q bs false) s = .next ((if bs.isEmpty then s else s.aer aerPoisoned).readFailed q r) := by
  refine congrArg Host.Outcome.next ?_
  rw [hrd]
  rfl

theorem exec_completionTimeout_open {r : Rd} {q : Fin 64} (hrd : (s.sq q).rd = some r) :
    exec (.completionTimeout q) s = .next ((s.aer aerTimeout).readFailed q r) := by
  refine congrArg Host.Outcome.next ?_
  rw [hrd]

/-! ### A read that fails (R265, R272) -/

/-- The engine stops a queue. -/
theorem State.stopQueue_leaves (s : State) (q why : Nat) : ∃ regs srcs,
    s.stopQueue q why = { s.setSq q { s.sq q with run := false, stop := why } with regs := regs, srcs := srcs } ∧
    (Tab.get (fun _ => Src.reset) srcs 449).pend = true ∧
    (∀ i : Nat, (s.src i).pend = true → (Tab.get (fun _ => Src.reset) srcs i).pend = true) ∧
    Tab.get regReset regs (Reg.qeCount 3).off = s.reg (.qeCount 3) :=
  ⟨_, _, State.raise_frame .., State.pend_raise .., fun _ h => State.pend_raise_kept _ h, State.reg_raise _ _ (by unfold Reg.clearOf; decide)⟩

/-- A read of the ring of queue q has failed, is counted, and its queue has not stopped yet. -/
def State.unread (s : State) (q : Nat) : State :=
  ((s.setSq q { s.sq q with rd := none, seg := none }).bump (.qeCount 1)).bump (.qeCount 3)

theorem State.countEnd_hostReadFailed (s : State) : s.countEnd .hostReadFailed = (s.bump (.qeCount 1)).bump (.qeCount 3) := by
  unfold State.countEnd
  rw [if_neg (by decide)]

theorem State.readFailed_ring_eq (s : State) (q : Nat) : s.readFailed q .ring = ((s.unread q).postCompletion (s.sq q).cq
    (compBytes 0xFFFF .hostReadFailed (s.sq q).head 0 0 q false false)).stopQueue q 2 := by
  unfold State.readFailed State.readStops State.updSq
  dsimp only
  rw [State.sq_setSq, if_pos rfl, State.setSq_setSq, State.sq_setSq, if_pos rfl, State.countEnd_hostReadFailed]
  rfl

theorem State.reg_unread (s : State) (q : Nat) : (s.unread q).reg (.qeCount 3) = s.reg (.qeCount 3) + 1 := by
  simp [State.unread, State.bump, State.updReg, Reg.off]

/-- The read of a ring entry fails: HOST_READ_FAILED without a CID, and the queue stops. -/
theorem State.readFailed_ring (htakes : s.CqTakes (s.sq q).cq) : ∃ t, s.readFailed q .ring = t ∧
    t = { s with regs := t.regs, sqs := t.sqs, cqs := t.cqs, srcs := t.srcs, out := t.out } ∧
    t.sqs = (s.setSq q { s.sq q with rd := none, seg := none, run := false, stop := 2 }).sqs ∧
    t.out = (s.cq (s.sq q).cq).put (compBytes 0xFFFF .hostReadFailed (s.sq q).head 0 0 q false false) :: s.out ∧
    t.cqs = (s.setCq (s.sq q).cq (s.cq (s.sq q).cq).advance).cqs ∧ (t.src 449).pend = true ∧
    (∀ i : Nat, (s.src i).pend = true → (t.src i).pend = true) ∧ t.reg (.qeCount 3) = s.reg (.qeCount 3) + 1 := by
  obtain ⟨cqs, out, hp, hcqs, hout⟩ := State.postCompletion_of (s.unread q) htakes rfl rfl
    (compBytes 0xFFFF .hostReadFailed (s.sq q).head 0 0 q false false)
  have hsq : (s.unread q).sq q = { s.sq q with rd := none, seg := none } := (s.sq_setSq q _ q).trans (if_pos rfl)
  obtain ⟨regs, srcs, hstop, hpend, hsrc, hreg⟩ :=
    State.stopQueue_leaves { s.unread q with cqs := cqs, out := out } q 2
  rw [State.readFailed_ring_eq, hp]
  refine ⟨_, hstop, State.ext_parts (by simp [State.unread, State.bump, State.updReg]), ?_, hout, hcqs, hpend, hsrc, hreg.trans (s.reg_unread q)⟩
  have hset (v : Sq) : ((s.unread q).setSq q v).sqs = (s.setSq q v).sqs := by
    unfold State.unread State.setSq
    simp [State.bump, State.updReg]
  exact (hset _).trans (congrArg (fun y : Sq => (s.setSq q { y with run := false, stop := 2 }).sqs) hsq)

/-- AER has logged nothing, or bit b, before the read of a ring entry fails. -/
theorem State.readFailed_logged {u : State} {x : Sq} (hx : s.sq q = x) (htakes : s.CqTakes x.cq)
    (hu : u = { s with free := u.free, pcie := u.pcie, regs := u.regs, srcs := u.srcs }) (hqe : u.qeHeld = s.qeHeld)
    (hthree : u.reg (.qeCount 3) = s.reg (.qeCount 3)) : ∃ t, u.readFailed q .ring = t ∧
    t = { s with free := t.free, pcie := t.pcie, regs := t.regs, sqs := t.sqs, cqs := t.cqs, srcs := t.srcs, out := t.out } ∧
    t.sqs = (s.setSq q { x with rd := none, seg := none, run := false, stop := 2 }).sqs ∧
    t.out = (s.cq x.cq).put (compBytes 0xFFFF .hostReadFailed x.head 0 0 q false false) :: s.out ∧
    t.cqs = (s.setCq x.cq (s.cq x.cq).advance).cqs ∧ (t.src 449).pend = true ∧ t.reg (.qeCount 3) = s.reg (.qeCount 3) + 1 ∧
    t.pcie = u.pcie ∧ ∀ i : Nat, (u.src i).pend = true → (t.src i).pend = true := by
  generalize u.free = free, u.pcie = pcie, u.regs = regs, u.srcs = srcs at hu
  subst hu hx
  obtain ⟨t, ht, hframe, hsqs, hout, hcqs, hpend, hkept, hreg⟩ :=
    State.readFailed_ring (s := { s with free := free, pcie := pcie, regs := regs, srcs := srcs }) (q := q) (htakes.congr rfl hqe)
  refine ⟨t, ht, ?_, hsqs, hout, hcqs, hpend, hreg.trans (congrArg (· + 1) hthree), congrArg State.pcie hframe, hkept⟩
  rw [hframe]

theorem State.qeHeld_aer (b : Nat) : (s.aer b).qeHeld = s.qeHeld := by
  unfold State.aer
  rw [State.raise_frame]
  rfl

/-! ### Arguments and link words (R274, R276) -/

theorem State.rdLen_args {c : Cmd} (hc : (s.sq q).cmd = some c) : s.rdLen q .args = Nat.min s.readMax (s.argLen c.d - c.args.length) := by
  unfold State.rdLen
  rw [hc]

/-- The arguments of queue q's command with the bytes of its read. -/
theorem State.readDone_args {c : Cmd} (hc : (s.sq q).cmd = some c) (bs : List Byte) : s.readDone q .args bs =
    if (c.args ++ bs).length < s.argLen c.d then
      (s.setSq q { s.sq q with rd := none, cmd := some { c with args := c.args ++ bs, st := .ready } }).fetchArgs q
        { c with args := c.args ++ bs, st := .ready }
    else s.setSq q { s.sq q with rd := none, cmd := some { c with args := c.args ++ bs, st := .ready } } := by
  unfold State.readDone
  dsimp only
  rw [hc]

/-- The next part of the arguments of a command that is queue q's. -/
theorem State.fetchArgs_more {y : Sq} {c : Cmd} (hqe : s.qeHeld = false) : (s.setSq q y).fetchArgs q c =
    { s.setSq q { y with rd := some .args, cmd := some { c with st := .fetching } } with
      out := .hostRead q (c.d.addr + c.args.length) (Nat.min s.readMax (s.argLen c.d - c.args.length)) :: s.out } := by
  unfold State.fetchArgs State.updSq
  dsimp only
  rw [if_neg (by rw [show (s.setSq q y).qeHeld = s.qeHeld from rfl, hqe]; decide), State.setSq_setSq, State.sq_setSq, if_pos rfl,
    State.request_setSq]
  rfl

theorem State.sq_of_sqs {t : State} {y : Sq} (h : t.sqs = (s.setSq q y).sqs) (k : Nat) : t.sq k = if k = q then y else s.sq k := by
  rw [← State.sq_setSq]
  exact congrArg (fun x => Tab.get (fun _ => Sq.reset) x k) h

end

/-- Settles O44: the queue engine's reads, the commands they bring, and the completions of the segments that end. -/
theorem queueEngine : Obligations.QueueEngine := by
  unfold Obligations.QueueEngine
  intro q bs link cid s x c d m active asks room entry written
  refine ⟨exec_descriptorRead_idle, fun ⟨hon, hqe, halone⟩ hrd hcmd hen hroom hheld => ?_, fun hrd => ⟨?_, ?_⟩,
    fun hrd hseg hcmd hlen => ⟨fun hop hop' hok => ?_, fun hbad hroom => ?_⟩, fun hrd hroom p hp => ?_,
    fun hrd hcmd hlen => ⟨fun hall => ?_, fun hmore hqe => ?_⟩, fun hrd hlen => ?_⟩
  · have hask (r : Rd) (a n : Nat) (y : Sq) (hready : s.sqReady q = true)
        (hact : ∀ u : State, u.sq q = x → u.sqAct q = (u.setSq q y).request q r a n) : asks r a n y := by
      refine (exec_descriptorRead_alone q.isLt hon hqe hready halone).trans (congrArg Host.Outcome.next ?_)
      exact (hact { s with engine := { s.engine with last := q } } rfl).trans (State.request_setSq ..)
    have hopen : s.cqOpen q = true := State.cqOpen_of rfl rfl hen hroom hheld
    refine ⟨fun hseg hrun hres hne => hask _ _ _ _ ?_ ?_, fun hseg hnext => hask _ _ _ _ ?_ ?_, fun hseg hrun hres hpoint => hask _ _ _ _ ?_ ?_⟩
    · simp [State.sqReady, hrd, hcmd, hseg, hrun, hres, hne, hopen, x]
    · intro u hu
      unfold State.sqAct
      rw [hu]
      dsimp only
      rw [hseg]
      exact if_neg (by simp [hres])
    · simp [State.sqReady, hrd, hcmd, hseg, hnext, hopen, x]
    · intro u hu
      obtain ⟨g, hg⟩ := Option.isSome_iff_exists.mp hseg
      unfold State.sqAct
      rw [hu]
      dsimp only
      rw [hg, hnext]
    · simp [State.sqReady, hrd, hcmd, hseg, hrun, hres, x]
    · intro u hu
      unfold State.sqAct
      rw [hu]
      dsimp only
      rw [hseg]
      refine (if_pos hres).trans ?_
      rw [hpoint]
  · exact congrArg Host.Outcome.next (by rw [hrd])
  · refine ⟨s.aer aerUnexpected, congrArg Host.Outcome.next (by rw [hrd]), ?_, State.bit_aer (by decide), State.pend_aer _⟩
    rw [State.aer_frame]
  · have hread : exec (.readCompletion q bs true) s = .next (s.gotDesc q d true) := exec_readCompletion_done hrd (hlen.trans rfl)
    rw [State.gotDesc_ring hseg, if_neg (by omega), if_neg (by simp [hok])] at hread
    refine ⟨_, hread, ?_, (s.sq_described q d q).trans (if_pos rfl), fun k hk => (s.sq_described q d k).trans (if_neg hk), s.reg_described q 2 d⟩
    rw [State.described_frame]
  · have hread : exec (.readCompletion q bs true) s = .next (s.gotDesc q d true) := exec_readCompletion_done hrd (hlen.trans rfl)
    have htakes : s.CqTakes x.cq := hroom
    have hend : ∃ st : Status, s.gotDesc q d true = (s.described q d).endSegment q d.at_ d.cid 0 st 0 ∧ st ≠ .success ∧ st ≠ .hostReadFailed ∧
        st ≠ .chainLimit ∧ st.code = (if d.op = 0 ∨ 0x1D ≤ d.op then 1 else 2) ∧ st.reason = 0 := by
      rw [State.gotDesc_ring hseg]
      by_cases hop : d.op = 0 ∨ 0x1D ≤ d.op
      · rw [if_pos hop, if_pos hop]
        exact ⟨.invalidOpcode, State.finish_described (by decide) (by decide), by decide, by decide, by decide, rfl, rfl⟩
      · rw [if_neg hop, if_neg hop]
        have hok : d.fieldsOk = false := (hbad.resolve_left fun h => hop (.inl h)).resolve_left fun h => hop (.inr h)
        rw [if_pos (by simp [hok])]
        exact ⟨.invalidField, State.finish_described (by decide) (by decide), by decide, by decide, by decide, rfl, rfl⟩
    obtain ⟨st, hgot, hsucc, hfail, hlimit, hcode, hreason⟩ := hend
    obtain ⟨t, ht, hframe, hsqs, hout, hcqs, hregs⟩ := State.endSegment_ring (s := s.described q d) (at_ := d.at_) (cid := d.cid)
      ((s.sq_described q d q).trans (if_pos rfl)) rfl rfl rfl hsucc hfail hlimit (htakes.congr rfl rfl)
    have hsq := State.sq_of_sqs hsqs
    refine ⟨t, hread.trans (congrArg _ (hgot.trans ht)), ?_, (hsq q).trans (if_pos rfl), ?_, State.advanced htakes hcqs, ?_⟩
    · rw [hframe, State.described_frame]
    · rw [hout]
      refine congrArg (fun e => Emit.hostWrite _ e :: s.out) ?_
      rw [phased_compBytes, hcode, hreason]
      rfl
    · exact (congrArg (fun r => Tab.get regReset r (Reg.qeCount 1).off) hregs).trans
        (((s.described q d).reg_bump_self _).trans (congrArg (· + 1) ((s.reg_described q 1 d).trans (BitVec.add_zero _))))
  · have hleaves (i : Instr) (u : State) (b : Option Nat) (hi : exec i s = .next (u.readFailed q .ring))
        (hu : u = { s with free := u.free, pcie := u.pcie, regs := u.regs, srcs := u.srcs }) (hqe : u.qeHeld = s.qeHeld)
        (hthree : u.reg (.qeCount 3) = s.reg (.qeCount 3)) (hnone : b = none → u = s)
        (hsome : ∀ n : Nat, b = some n → (u.src 453).pend = true ∧ bit u.pcie.aer n = true) : ∃ t, exec i s = .next t ∧
          t = { s with free := t.free, pcie := t.pcie, regs := t.regs, sqs := t.sqs, cqs := t.cqs, srcs := t.srcs, out := t.out } ∧
          t.sq q = { x with rd := none, seg := none, run := false, stop := 2 } ∧ (∀ k : Nat, k ≠ q → t.sq k = s.sq k) ∧
          t.out = entry 0xFFFF 0xC (x.head % 4096) 0 0 :: s.out ∧ written t ∧ (t.src 449).pend = true ∧
          t.reg (.qeCount 3) = s.reg (.qeCount 3) + 1 ∧
          (b = none → t.pcie = s.pcie) ∧ (∀ n : Nat, b = some n → (t.src 453).pend = true ∧ bit t.pcie.aer n = true) := by
      have htakes : s.CqTakes x.cq := hroom
      obtain ⟨t, ht, hframe, hsqs, hout, hcqs, hpend, hreg, hpcie, hkept⟩ := State.readFailed_logged rfl htakes hu hqe hthree
      have hsq := State.sq_of_sqs hsqs
      refine ⟨t, hi.trans (congrArg _ ht), hframe, (hsq q).trans (if_pos rfl), fun k hk => (hsq k).trans (if_neg hk), ?_,
        State.advanced htakes hcqs, hpend, hreg, fun hb => hpcie.trans (congrArg State.pcie (hnone hb)), fun n hb => ⟨hkept _ (hsome n hb).1, ?_⟩⟩
      · rw [hout]
        exact congrArg (fun e => Emit.hostWrite _ e :: s.out) (phased_compBytes ..)
      · rw [hpcie]
        exact (hsome n hb).2
    have haer (b : Nat) (hb : b < 32) : ∀ n : Nat, some b = some n → ((s.aer b).src 453).pend = true ∧ bit (s.aer b).pcie.aer n = true := by
      rintro n ⟨⟩
      exact ⟨State.pend_aer b, State.bit_aer hb⟩
    have hlogged (i : Instr) (b : Nat) (hb : b < 32) (hi : exec i s = .next ((s.aer b).readFailed q .ring)) :=
      hleaves i (s.aer b) (some b) hi (s.aer_frame b) (State.qeHeld_aer b) (State.reg_aer b (by unfold Reg.clearOf; decide)) nofun (haer b hb)
    simp only [List.mem_cons, List.not_mem_nil, or_false] at hp
    rcases hp with rfl | rfl | rfl
    · exact hleaves _ s none (exec_readCompletion_failed hrd) rfl rfl rfl (fun _ => rfl) nofun
    · exact hlogged _ 12 (by decide) (exec_readCompletion_failed hrd)
    · exact hlogged _ 14 (by decide) (exec_completionTimeout_open hrd)
  · obtain ⟨cmd, hc⟩ := Option.isSome_iff_exists.mp hcmd
    have hm : m = cmd := by simp only [m, hc, Option.getD_some]
    have hread : exec (.readCompletion q bs true) s = .next (s.readDone q .args bs) := by
      refine exec_readCompletion_done hrd (hlen.trans ?_)
      rw [hm]
      exact (State.rdLen_args hc).symm
    rw [State.readDone_args hc, ← hm, if_neg (by simp; omega)] at hread
    exact hread
  · obtain ⟨cmd, hc⟩ := Option.isSome_iff_exists.mp hcmd
    have hm : m = cmd := by simp only [m, hc, Option.getD_some]
    have hread : exec (.readCompletion q bs true) s = .next (s.readDone q .args bs) := by
      refine exec_readCompletion_done hrd (hlen.trans ?_)
      rw [hm]
      exact (State.rdLen_args hc).symm
    rw [State.readDone_args hc, ← hm, if_pos (by simp; omega), State.fetchArgs_more hqe] at hread
    refine ⟨_, hread, rfl, ?_⟩
    simp only [List.length_append, Nat.add_assoc]
  · have hread : exec (.readCompletion q bs true) s = .next (s.readDone q .link bs) :=
      exec_readCompletion_done hrd hlen
    have hword : leAt bs 0 8 = leNat bs := by simp [leAt, ← hlen]
    refine ⟨_, hread, ?_⟩
    by_cases hlast : leNat bs % 2 = 1
    · have hdone : s.readDone q .link bs = s.setSq q { x with rd := none } := if_pos (by simp [hword, nbit, hlast])
      have hsq : (s.setSq q { x with rd := none }).sq q = { x with rd := none } := (s.sq_setSq q _ q).trans (if_pos rfl)
      rw [hdone, hsq]
      exact ⟨rfl, rfl, fun _ => rfl, fun h0 => by omega⟩
    · have hmore : s.readDone q .link bs = ((s.setSq q { x with rd := none }).freeNext.1).updSq q (fun y => { y with
          seg := some ⟨false, true, (s.setSq q { x with rd := none }).freeNext.2 % 65536, 0⟩, nextAt := some (leNat bs / 32 * 32) }) := by
        rw [← hword]
        exact if_neg (by simpa [hword, nbit] using hlast)
      have hsq (v : Sq) : ((s.setSq q { x with rd := none }).freeNext.1.setSq q v).sq q = v := (State.sq_setSq _ q _ q).trans (if_pos rfl)
      have hold : (s.setSq q { x with rd := none }).freeNext.1.sq q = { x with rd := none } := (s.sq_setSq q _ q).trans (if_pos rfl)
      rw [hmore, State.updSq, hsq, hold]
      exact ⟨rfl, rfl, fun h1 => absurd h1 hlast, fun _ => ⟨rfl, rfl⟩⟩

end Sys2Proof.Machine
end

section
/-!
PROOF. Proofs/BootSteps.lean: BOOT_GO, the end of a kernel load and the soft resets (R323, R325 to R329).
-/
namespace Sys2Proof.Machine

section
variable {s : State} {k : Nat}

/-! ### The callers of a Ridge that is reset (R254, R325) -/

/-- Entry of a vector whose word can be read, at a core whose watchdog has expired inside the run. -/
theorem State.enter_late {v saved : Nat} {e : W16} (he : e.toNat = ((s.core k).vb.toNat + 2 * v) % 65536)
    (hwd : (s.core k).wdPend = true) (h0 : s.readable k e.toNat) (h1 : s.readable k (e + 1).toNat) :
    s.enter k v saved = ((s.setCore k ((s.core k).entry (BitVec.ofNat 16 saved) (s.core k).pc (s.wdogArmed k))).lockCore k, true) := by
  have hread {j : Nat} (h : s.readable k j) :
      (s.setCore k ((s.core k).entry (BitVec.ofNat 16 saved) (s.core k).pc (s.wdogArmed k))).readable k j :=
    State.readable_setCore rfl rfl h
  unfold State.enter
  dsimp only
  rw [State.enter_begin, ← he, State.readData2_readable (hread h0) (by rw [toNat_succ]; exact hread h1)]
  exact if_pos hwd

theorem State.callError_late {status : Nat} (hgm : (s.core k).gm = false) (hwd : (s.core k).wdPend = true)
    (h0 : s.readable k ((s.core k).vb + 12).toNat) (h1 : s.readable k ((s.core k).vb + 13).toNat) :
    ∃ d, s.callError k status = ({ s with free := s.free + 1 }.setCore k d).lockCore k := by
  have haddr : ((s.core k).vb + 12).toNat = ((s.core k).vb.toNat + 2 * 6) % 65536 := by simp
  have hnext : (s.core k).vb + 12 + 1 = (s.core k).vb + 13 := by rw [BitVec.add_assoc]; rfl
  unfold State.callError State.except
  dsimp only
  rw [State.updCore_eq, State.core_setCore, if_pos rfl]
  have hgm' : ({ (s.freeNext.1.core k) with state := CoreSt.run } : Core).gm = false := hgm
  rw [if_neg (by rw [hgm']; exact Bool.false_ne_true), if_pos (by decide), State.updCore_eq, State.core_setCore, if_pos rfl, State.setCore_setCore]
  rw [State.enter_late (e := (s.core k).vb + 12)]
  · exact ⟨_, by rw [State.setCore_setCore]; rfl⟩
  · rw [State.core_setCore, if_pos rfl]; exact haddr
  · rw [State.core_setCore, if_pos rfl]; exact hwd
  · exact State.readable_setCore rfl rfl h0
  · rw [hnext]; exact State.readable_setCore rfl rfl h1

/-- From s to t only the cores of a list have changed, with the sources of their lockups. -/
def State.OnlyCores (s t : State) (l : List Nat) : Prop :=
  t = { s with free := t.free, regs := t.regs, cores := t.cores, srcs := t.srcs } ∧ (∀ j : Nat, j ∉ l → t.core j = s.core j) ∧
    ∀ j : Nat, j < 128 ∨ 256 ≤ j → j ≠ 491 → t.src j = s.src j

theorem State.OnlyCores.trans {t u : State} {l m : List Nat} (h : s.OnlyCores t l) (h' : t.OnlyCores u m) : s.OnlyCores u (l ++ m) := by
  obtain ⟨hframe, hcore, hsrc⟩ := h
  obtain ⟨hframe', hcore', hsrc'⟩ := h'
  refine ⟨?_, fun j hj => ?_, fun j hj h491 => (hsrc' j hj h491).trans (hsrc j hj h491)⟩
  · rw [hframe', hframe]
  · rw [List.mem_append, not_or] at hj
    rw [hcore' j hj.2, hcore j hj.1]

theorem State.onlyCores_setCore (n : Nat) (d : Core) : s.OnlyCores ({ s with free := n }.setCore k d) [k] :=
  ⟨rfl, fun j hj => by rw [State.core_setCore, if_neg (by simpa using hj)]; rfl, fun _ _ _ => rfl⟩

theorem State.onlyCores_lockCore (hk : k < 64) : s.OnlyCores (s.lockCore k) [k] := by
  have hk64 : k ≠ 64 := by omega
  refine ⟨by rw [State.lockCore_frame hk], fun j hj => ?_, fun j hj h491 => ?_⟩
  · have hne : j ≠ k := by simpa using hj
    simp [State.lockCore, hk64, hne]
  · unfold State.lockCore
    dsimp only
    have hsource : j ≠ 128 + 2 * k + 1 := by omega
    rw [if_neg hk64, State.src_raise_other _ hsource h491]
    simp

/-- A caller whose entry of vector 6 can be read is the only core that the end of its call changes. -/
theorem State.onlyCores_callError {status : Nat} (hk : k < 64) (h0 : s.readable k ((s.core k).vb + 12).toNat)
    (h1 : s.readable k ((s.core k).vb + 13).toNat) : s.OnlyCores (s.callError k status) [k] := by
  have hlocked (d : Core) : s.OnlyCores (({ s with free := s.free + 1 }.setCore k d).lockCore k) [k] := by
    obtain ⟨hframe, hcore, hsrc⟩ := (State.onlyCores_setCore (s := s) (s.free + 1) d).trans (State.onlyCores_lockCore hk)
    exact ⟨hframe, fun j hj => hcore j (by simpa using hj), hsrc⟩
  cases hgm : (s.core k).gm with
  | true => rw [State.callError_locks hgm]; exact hlocked _
  | false =>
    cases hwd : (s.core k).wdPend with
    | true =>
      obtain ⟨d, hd⟩ := State.callError_late (status := status) hgm hwd h0 h1
      rw [hd]
      exact hlocked d
    | false =>
      obtain ⟨d, hd⟩ := State.callError_clean (status := status) hgm hwd h0 h1
      rw [hd]
      exact State.onlyCores_setCore _ d

/-- Core k can read its entry of vector 6. -/
def State.sixReadable (s : State) (k : Nat) : Prop :=
  s.readable k ((s.core k).vb + 12).toNat ∧ s.readable k ((s.core k).vb + 13).toNat

theorem State.onlyCores_callErrors {status : Nat} (l : List Nat) (s : State) (hl : ∀ k ∈ l, k < 64) (hnodup : l.Nodup)
    (hread : ∀ k ∈ l, s.sixReadable k) : s.OnlyCores (s.forEach l (fun s k => s.callError k status)) l := by
  induction l generalizing s with
  | nil => exact ⟨rfl, fun _ _ => rfl, fun _ _ _ => rfl⟩
  | cons k l ih =>
    obtain ⟨hkl, hl'⟩ := List.nodup_cons.mp hnodup
    obtain ⟨h0, h1⟩ := hread k List.mem_cons_self
    have hone := State.onlyCores_callError (status := status) (hl k List.mem_cons_self) h0 h1
    refine hone.trans (ih (s.callError k status) (fun j hj => hl j (List.mem_cons_of_mem _ hj)) hl' fun j hj => ?_)
    have hcore : (s.callError k status).core j = s.core j := hone.2.1 j (by rintro h; exact hkl (by simpa [List.mem_singleton.mp h] using hj))
    unfold State.sixReadable State.readable
    rw [hcore]
    exact hread j (List.mem_cons_of_mem _ hj)

theorem State.mem_callers {j : Nat} : j ∈ s.callers ↔ j < 64 ∧ (s.core j).state = .calling := by simp [State.callers]

theorem State.onlyCores_dropCalls (hread : ∀ k : Nat, k < 64 → (s.core k).state = .calling → s.sixReadable k) :
    State.OnlyCores { s with ridge := { s.ridge with kcq := [] } } s.dropCalls s.callers :=
  State.onlyCores_callErrors _ { s with ridge := { s.ridge with kcq := [] } } (fun _ hk => (State.mem_callers.mp hk).1)
    (List.nodup_range.filter _) fun k hk => hread k (State.mem_callers.mp hk).1 (State.mem_callers.mp hk).2

/-! ### The running priorities of a target (R293) -/

theorem State.emptyStack_frame (s : State) (t : Nat) :
    s.emptyStack t = { s with srcs := (s.emptyStack t).srcs, running := (s.emptyStack t).running } := by
  have hloop (l : List Nat) : ∀ s : State, s.forEach l (fun s i => s.updSrc i (fun r => { r with act := none })) =
      { s with srcs := (s.forEach l (fun s i => s.updSrc i (fun r => { r with act := none }))).srcs } := by
    induction l with
    | nil => exact fun s => rfl
    | cons i l ih => exact fun s => (ih _).trans rfl
  unfold State.emptyStack
  rw [hloop]
  rfl

/-- A source that is not active anywhere stays as it is. -/
theorem State.src_emptyStack {j : Nat} (hact : (s.src j).act = none) (t : Nat) : (s.emptyStack t).src j = s.src j := by
  have hloop (l : List Nat) : ∀ s : State, (s.src j).act = none →
      (s.forEach l (fun s i => s.updSrc i (fun r => { r with act := none }))).src j = s.src j := by
    induction l with
    | nil => exact fun s _ => rfl
    | cons i l ih =>
      intro s hact
      have hone : (s.updSrc i (fun r => { r with act := none })).src j = s.src j := by
        unfold State.updSrc
        rw [State.src_setSrc]
        split
        next h =>
          rw [← h]
          exact congrArg (fun a => { s.src j with act := a }) hact.symm
        · rfl
      exact (ih _ (by rw [hone]; exact hact)).trans hone
  exact hloop _ s hact

theorem State.stack_emptyStack (s : State) (t j : Nat) : (s.emptyStack t).stack j = if j = t then [] else s.stack j := by
  have hloop (l : List Nat) : (s.forEach l (fun s i => s.updSrc i (fun r => { r with act := none }))).stack j = s.stack j :=
    State.forEach_part (fun u => u.stack j) (g := fun s i => s.updSrc i (fun r => { r with act := none })) (fun _ _ => rfl) l s
  unfold State.emptyStack
  rw [State.stack_setStack, hloop]

/-! ### SOFT_RST.RIDGE (R325) -/

/-- From s to t only what the callers' end and the Ridge's stack change. -/
theorem State.bootState_emptyStack_frame {s u t : State} {l : List Nat} {v : Nat} (h : s.OnlyCores u l) (ht : (u.emptyStack 0).bootState v = t) :
    t = { s with free := t.free, regs := t.regs, cores := t.cores, srcs := t.srcs, running := t.running } := by
  have hstack := u.emptyStack_frame 0
  obtain ⟨hframe, -, -⟩ := h
  generalize (u.emptyStack 0).srcs = srcs, (u.emptyStack 0).running = running at hstack
  generalize u.free = free, u.regs = regs, u.cores = cores, u.srcs = srcs' at hframe
  subst hframe
  rw [hstack] at ht
  subst ht
  rfl

theorem State.core_bootState_emptyStack (u : State) (v j : Nat) : ((u.emptyStack 0).bootState v).core j = u.core j := by
  rw [State.bootState, State.updReg_eq, State.emptyStack_frame]
  rfl

theorem State.stack_bootState_emptyStack (u : State) (v : Nat) : ((u.emptyStack 0).bootState v).stack 0 = [] :=
  (u.stack_emptyStack 0 0).trans (if_pos rfl)

theorem State.src_bootState_emptyStack {u : State} {j : Nat} (hact : (u.src j).act = none) (v : Nat) :
    ((u.emptyStack 0).bootState v).src j = u.src j := State.src_emptyStack hact 0

theorem State.fld_bootState (u : State) {v : Nat} (hv : v < 256) : fld ((u.bootState v).reg .bootStatus) 7 0 = v := by
  rw [State.bootState, State.updReg_eq, State.reg_setReg, if_pos rfl]
  exact (fld_setFld_same _ (by decide) (by decide) v).trans (Nat.mod_eq_of_lt hv)

/-- The Ridge as SOFT_RST.RIDGE resets it, before its callers resume. -/
def State.ridgeReset (s : State) : State :=
  (({ s with ridge := { s.ridge with clearing := true, kcCall := 0, kcTarget := 0, sa := 0, logs := 0 },
             misc := { s.misc with boot := .ridgeClear, fellBack := false } }.updCore 64 (fun _ => Core.fresh true)).setReg
    .ridgeCtl Reg.ridgeCtl.reset).setClearing 48 true

theorem State.softRidge_eq (h : s.misc.mode ≠ 3) : s.softRidge = (s.ridgeReset.dropCalls.emptyStack 0).bootState 1 := if_neg h

theorem State.ridgeReset_frame (s : State) : s.ridgeReset = { s with
    regs := s.ridgeReset.regs, cores := s.ridgeReset.cores
    ridge := { s.ridge with clearing := true, kcCall := 0, kcTarget := 0, sa := 0, logs := 0 }
    misc := { s.misc with boot := .ridgeClear, fellBack := false, clearing := s.ridgeReset.misc.clearing } } := by
  unfold State.ridgeReset
  rw [State.setClearing_frame]
  rfl

theorem State.core_ridgeReset (j : Nat) : s.ridgeReset.core j = if j = 64 then Core.fresh true else s.core j := by
  have hcores : s.ridgeReset.cores = (s.setCore 64 (Core.fresh true)).cores := by rw [State.ridgeReset, State.setClearing_frame]; rfl
  rw [← State.core_setCore]
  exact congrArg (fun c => Tab.get Core.reset c j) hcores

theorem State.src_ridgeReset (s : State) (j : Nat) : s.ridgeReset.src j = s.src j := by
  rw [State.ridgeReset_frame]
  rfl

theorem State.clearing_ridgeReset (s : State) : s.ridgeReset.clearing 48 = true := State.clearing_setClearing_self

theorem State.softRidge_leaves (hmode : s.misc.mode ≠ 3) (hread : ∀ c : Nat, c < 64 → (s.core c).state = .calling → s.sixReadable c) :
    ∃ t, s.softRidge = t ∧
      t = { s with free := t.free, regs := t.regs, cores := t.cores, srcs := t.srcs, running := t.running
                   ridge := { s.ridge with clearing := true, kcCall := 0, kcTarget := 0, sa := 0, logs := 0, kcq := [] }
                   misc := { s.misc with boot := .ridgeClear, fellBack := false, clearing := s.ridgeReset.misc.clearing } } ∧
      (∀ j : Nat, j < 64 → (s.core j).state = .calling ∨ t.core j = s.core j) ∧ t.core 64 = Core.fresh true ∧
      fld (t.reg .bootStatus) 7 0 = 1 ∧ t.stack 0 = [] ∧
      ∀ j : Nat, (s.src j).act = none → j < 128 ∨ 256 ≤ j → j ≠ 491 → t.src j = s.src j := by
  have hcore {c : Nat} (hc : c < 64) : s.ridgeReset.core c = s.core c := State.core_ridgeReset c |>.trans (if_neg (by omega))
  have honly := State.onlyCores_dropCalls (s := s.ridgeReset) fun c hc hcall => by
    unfold State.sixReadable State.readable
    rw [hcore hc] at hcall ⊢
    exact hread c hc hcall
  have hcores : ∀ j : Nat, j ∉ s.ridgeReset.callers → s.ridgeReset.dropCalls.core j = s.ridgeReset.core j := by
    obtain ⟨-, hcores, -⟩ := honly
    exact hcores
  have hsrcs : ∀ j : Nat, j < 128 ∨ 256 ≤ j → j ≠ 491 → s.ridgeReset.dropCalls.src j = s.src j := by
    obtain ⟨-, -, hsrc⟩ := honly
    exact fun j hj h491 => (hsrc j hj h491).trans (s.src_ridgeReset j)
  refine ⟨_, State.softRidge_eq hmode, ?_, fun j hj => ?_, ?_, ?_, ?_, fun j hact hj h491 => ?_⟩
  · have hfinal := State.bootState_emptyStack_frame (v := 1) honly rfl
    have hreset := s.ridgeReset_frame
    generalize s.ridgeReset.regs = regs, s.ridgeReset.cores = cores, s.ridgeReset.misc.clearing = clearing at hreset
    rw [hreset] at hfinal ⊢
    exact hfinal
  · by_cases hcall : (s.core j).state = .calling
    · exact .inl hcall
    · refine .inr ?_
      have hnot : j ∉ s.ridgeReset.callers := by rw [State.mem_callers, hcore hj]; exact fun h => hcall h.2
      rw [State.core_bootState_emptyStack, hcores j hnot, hcore hj]
  · have hnot : 64 ∉ s.ridgeReset.callers := by rw [State.mem_callers]; exact fun h => absurd h.1 (by decide)
    rw [State.core_bootState_emptyStack, hcores 64 hnot, State.core_ridgeReset, if_pos rfl]
  · exact State.fld_bootState _ (by decide)
  · exact State.stack_bootState_emptyStack _ _
  · have hold := hsrcs j hj h491
    rw [State.src_bootState_emptyStack (by rw [hold]; exact hact), hold]

/-! ### SOFT_RST.SHINGLE (R323) -/

/-- What one step establishes and every step keeps holds after a loop that makes it. -/
theorem State.forEach_attains {α : Type} {P : State → Prop} {g : State → α → State} {a : α} (hone : ∀ s, P (g s a)) (hkeep : ∀ s b, P s → P (g s b))
    (l : List α) (ha : a ∈ l) (s : State) : P (s.forEach l g) := by
  have hkept (l : List α) : ∀ s : State, P s → P (s.forEach l g) := by
    induction l with
    | nil => exact fun s h => h
    | cons b l ih => exact fun s h => ih _ (hkeep s b h)
  induction l generalizing s with
  | nil => exact absurd ha List.not_mem_nil
  | cons b l ih =>
    rcases List.mem_cons.mp ha with rfl | hb
    · exact hkept l _ (hone s)
    · exact ih hb (g s b)

/-- A Shingle as SOFT_RST.SHINGLE holds it, before its memories are cleared. -/
def State.softCore (s : State) (k : Nat) : State :=
  (((s.holdCore k).updReg (.shgRun (k / 32)) (fun v => setBit v (k % 32) false)).updReg (.lockupSrc (k / 32))
    (fun v => setBit v (k % 32) false)).emptyStack (coreTarget k)

/-- The numbers of the Shingles of group g. -/
def groupCores (g : Nat) : List Nat := (List.range 16).map (16 * g + ·)

theorem mem_groupCores {g j : Nat} : j ∈ groupCores g ↔ j / 16 = g := by
  unfold groupCores
  rw [List.mem_map]
  constructor
  · rintro ⟨i, hi, rfl⟩
    have := List.mem_range.mp hi
    omega
  · rintro rfl
    exact ⟨j % 16, List.mem_range.mpr (Nat.mod_lt _ (by decide)), by omega⟩

theorem State.softShingle_eq (s : State) (g : Nat) : s.softShingle g =
    if s.isOn (40 + g) then ((s.forEach (groupCores g) State.softCore).clearMemory (40 + g)).setClearing (40 + g) true
    else (s.forEach (groupCores g) State.softCore).clearMemory (40 + g) := rfl

theorem State.softCore_frame (s : State) (k : Nat) : s.softCore k = { s with
    regs := (s.softCore k).regs, cores := (s.softCore k).cores, ridge := (s.softCore k).ridge
    srcs := (s.softCore k).srcs, running := (s.softCore k).running } := by
  have hstack (u : State) (n : Nat) : ∃ srcs running, u.emptyStack n = { u with srcs := srcs, running := running } := ⟨_, _, u.emptyStack_frame n⟩
  obtain ⟨srcs, running, h⟩ := hstack (((s.holdCore k).updReg (.shgRun (k / 32)) (fun v => setBit v (k % 32) false)).updReg
    (.lockupSrc (k / 32)) (fun v => setBit v (k % 32) false)) (coreTarget k)
  unfold State.softCore
  rw [h]
  exact State.ext_parts (by simp [State.holdCore])

theorem State.core_softCore (k j : Nat) : (s.softCore k).core j =
    if j = k then { s.core k with state := .held, rpt := false, waitd := false, pre := none, wdPend := false } else s.core j := by
  unfold State.softCore
  rw [State.emptyStack_frame]
  exact State.core_setCore ..

theorem State.kcq_softCore (k : Nat) : (s.softCore k).ridge.kcq = s.ridge.kcq.filter (· ≠ k) := by
  unfold State.softCore
  rw [State.emptyStack_frame]
  rfl

/-- A bit that is 0 stays 0 where another is cleared. -/
theorem State.bit_clearBit_kept {r : Reg} {m : Nat} (hm : m < 32) (h : bit (s.reg r) m = false) (r' : Reg) (n : Nat) :
    bit ((s.updReg r' (fun v => setBit v n false)).reg r) m = false := by
  rw [State.updReg_eq, State.reg_setReg]
  split
  next hoff =>
    have hsame : s.reg r' = s.reg r := by unfold State.reg; rw [hoff]
    rw [hsame]
    by_cases hn : m = n
    · rw [hn, bit_setBit_same _ (hn ▸ hm)]
    · rw [bit_setBit_other _ hm hn]; exact h
  · exact h

theorem State.bit_clearBit_self (r : Reg) {m : Nat} (hm : m < 32) : bit ((s.updReg r (fun v => setBit v m false)).reg r) m = false := by
  rw [State.updReg_eq, State.reg_setReg, if_pos rfl]
  exact bit_setBit_same _ hm false

theorem State.reg_softCore_eq (k : Nat) (r : Reg) : (s.softCore k).reg r =
    (((s.holdCore k).updReg (.shgRun (k / 32)) (fun v => setBit v (k % 32) false)).updReg (.lockupSrc (k / 32))
      (fun v => setBit v (k % 32) false)).reg r := by
  unfold State.softCore
  rw [State.emptyStack_frame]
  rfl

theorem State.bit_softCore_kept {r : Reg} {m : Nat} (hm : m < 32) (h : bit (s.reg r) m = false) (k : Nat) :
    bit ((s.softCore k).reg r) m = false := by
  rw [State.reg_softCore_eq]
  exact State.bit_clearBit_kept hm (State.bit_clearBit_kept hm h _ _) _ _

theorem State.bit_shgRun_softCore (s : State) (k : Nat) : bit ((s.softCore k).reg (.shgRun (k / 32))) (k % 32) = false := by
  have hm : k % 32 < 32 := Nat.mod_lt _ (by decide)
  rw [State.reg_softCore_eq]
  exact State.bit_clearBit_kept hm (State.bit_clearBit_self _ hm) _ _

theorem State.bit_lockupSrc_softCore (s : State) (k : Nat) : bit ((s.softCore k).reg (.lockupSrc (k / 32))) (k % 32) = false := by
  rw [State.reg_softCore_eq]
  exact State.bit_clearBit_self _ (Nat.mod_lt _ (by decide))

theorem State.shgNx_softCore (k : Nat) {i : Nat} (hi : i < 64) : (s.softCore k).reg (.shgNx i) = s.reg (.shgNx i) := by
  rw [State.reg_softCore_eq, State.updReg_eq, State.reg_setReg, if_neg (by simp only [Reg.off]; omega), State.updReg_eq, State.reg_setReg,
    if_neg (by simp only [Reg.off]; omega)]
  rfl

theorem State.stack_softCore (k j : Nat) : (s.softCore k).stack j = if j = coreTarget k then [] else s.stack j := by
  unfold State.softCore
  rw [State.stack_emptyStack]
  rfl

/-- A core whose memories have been cleared. -/
def Core.cleared (c : Core) : Core := { c with prog := [], progBad := [], data := [], dataBad := [], mbox := [] }

theorem State.clearMemory_group {g : Nat} (hg : g < 4) :
    s.clearMemory (40 + g) = s.forEach (List.range 16) (fun s i => s.updCore (16 * g + i) Core.cleared) := by
  have hsub : 40 + g - 40 = g := by omega
  unfold State.clearMemory
  rw [if_neg (by omega), if_neg (by omega), if_pos (by omega), hsub]
  rfl

theorem State.clearMemory_group_frame {g : Nat} (hg : g < 4) : s.clearMemory (40 + g) = { s with cores := (s.clearMemory (40 + g)).cores } := by
  rw [State.clearMemory_group hg, State.forEach_updCore_frame]

theorem State.ridge_clearMemory_group {g : Nat} (hg : g < 4) : (s.clearMemory (40 + g)).ridge = s.ridge := by
  rw [State.clearMemory_group_frame hg]

theorem State.reg_clearMemory_group {g : Nat} (hg : g < 4) (r : Reg) : (s.clearMemory (40 + g)).reg r = s.reg r := by
  rw [State.clearMemory_group_frame hg]
  rfl

theorem State.stack_clearMemory_group {g : Nat} (hg : g < 4) (n : Nat) : (s.clearMemory (40 + g)).stack n = s.stack n := by
  rw [State.clearMemory_group_frame hg]
  rfl

/-- Nothing but the memories of the group's cores changes. -/
theorem State.core_clearMemory_other {g j : Nat} (hg : g < 4) (hj : j / 16 ≠ g) : (s.clearMemory (40 + g)).core j = s.core j := by
  rw [State.clearMemory_group hg]
  have hloop (l : List Nat) : (∀ i ∈ l, i < 16) → ∀ s : State, (s.forEach l (fun s i => s.updCore (16 * g + i) Core.cleared)).core j = s.core j := by
    induction l with
    | nil => exact fun _ s => rfl
    | cons i l ih =>
      intro hl s
      have hi := hl i List.mem_cons_self
      refine (ih (fun k hk => hl k (List.mem_cons_of_mem _ hk)) _).trans ?_
      exact (State.core_setCore ..).trans (if_neg (by omega))
  exact hloop _ (fun i hi => List.mem_range.mp hi) s

theorem State.core_clearMemory_group {g j : Nat} (hg : g < 4) (hj : j / 16 = g) : ((s.clearMemory (40 + g)).core j).prog = [] ∧
    ((s.clearMemory (40 + g)).core j).data = [] ∧ ((s.clearMemory (40 + g)).core j).state = (s.core j).state := by
  rw [State.clearMemory_group hg]
  refine ⟨?_, ?_, ?_⟩
  · refine State.forEach_attains (P := fun u => (u.core j).prog = []) (a := j % 16) (fun u => ?_) (fun u i hu => ?_) _
      (List.mem_range.mpr (Nat.mod_lt _ (by decide))) s
    · rw [State.updCore_eq, State.core_setCore, if_pos (by omega)]; rfl
    · rw [State.updCore_eq, State.core_setCore]
      split
      · rfl
      · exact hu
  · refine State.forEach_attains (P := fun u => (u.core j).data = []) (a := j % 16) (fun u => ?_) (fun u i hu => ?_) _
      (List.mem_range.mpr (Nat.mod_lt _ (by decide))) s
    · rw [State.updCore_eq, State.core_setCore, if_pos (by omega)]; rfl
    · rw [State.updCore_eq, State.core_setCore]
      split
      · rfl
      · exact hu
  · refine State.forEach_part (fun u => (u.core j).state) (g := fun s i => s.updCore (16 * g + i) Core.cleared) (fun u i => ?_) _ s
    rw [State.updCore_eq, State.core_setCore]
    split
    next h =>
      rw [h]
      rfl
    next => rfl

/-- What SOFT_RST.SHINGLE leaves of the cores of group g, before MEM_CLEAR shows the clearing. -/
def State.softGroup (s : State) (g : Nat) : State := (s.forEach (groupCores g) State.softCore).clearMemory (40 + g)

theorem State.forEach_softCore_frame (l : List Nat) (s : State) : s.forEach l State.softCore = { s with
    regs := (s.forEach l State.softCore).regs, cores := (s.forEach l State.softCore).cores, ridge := (s.forEach l State.softCore).ridge
    srcs := (s.forEach l State.softCore).srcs, running := (s.forEach l State.softCore).running } := by
  induction l generalizing s with
  | nil => rfl
  | cons k l ih =>
    refine (ih (s.softCore k)).trans ?_
    have hone := s.softCore_frame k
    generalize (s.softCore k).regs = regs, (s.softCore k).cores = cores, (s.softCore k).ridge = ridge, (s.softCore k).srcs = srcs,
      (s.softCore k).running = running at hone
    have hcons : s.forEach (k :: l) State.softCore = (s.softCore k).forEach l State.softCore := rfl
    rw [hcons, hone]

theorem State.softGroup_frame {g : Nat} (hg : g < 4) (s : State) : s.softGroup g = { s with
    regs := (s.softGroup g).regs, cores := (s.softGroup g).cores, ridge := (s.softGroup g).ridge
    srcs := (s.softGroup g).srcs, running := (s.softGroup g).running } := by
  unfold State.softGroup
  rw [State.clearMemory_group_frame hg, State.forEach_softCore_frame]

/-- A Shingle of the group is held, with its memories cleared, its call forgotten and its running priorities empty. -/
theorem State.softGroup_core {g j : Nat} (hg : g < 4) (hj : j / 16 = g) (s : State) :
    ((s.softGroup g).core j).state = .held ∧ ((s.softGroup g).core j).prog = [] ∧ ((s.softGroup g).core j).data = [] ∧
      j ∉ (s.softGroup g).ridge.kcq ∧ bit ((s.softGroup g).reg (.shgRun (j / 32))) (j % 32) = false ∧
      bit ((s.softGroup g).reg (.lockupSrc (j / 32))) (j % 32) = false ∧ (s.softGroup g).stack (j + 1) = [] := by
  have hmem : j ∈ groupCores g := mem_groupCores.mpr hj
  have hm : j % 32 < 32 := Nat.mod_lt _ (by decide)
  obtain ⟨hprog, hdata, hstate⟩ := State.core_clearMemory_group (s := s.forEach (groupCores g) State.softCore) hg hj
  refine ⟨hstate.trans ?_, hprog, hdata, ?_, ?_, ?_, ?_⟩
  · refine State.forEach_attains (P := fun u => (u.core j).state = .held) (fun u => ?_) (fun u k hu => ?_) _ hmem s
    · rw [State.core_softCore, if_pos rfl]
    · rw [State.core_softCore]
      split
      · rfl
      · exact hu
  · rw [State.softGroup, State.ridge_clearMemory_group hg]
    refine State.forEach_attains (P := fun u => j ∉ u.ridge.kcq) (fun u => ?_) (fun u k hu => ?_) _ hmem s
    · rw [State.kcq_softCore]; simp
    · rw [State.kcq_softCore]; exact fun h => hu ((List.mem_filter.mp h).1)
  · rw [State.softGroup, State.reg_clearMemory_group hg]
    exact State.forEach_attains (P := fun u => bit (u.reg (.shgRun (j / 32))) (j % 32) = false) (fun u => u.bit_shgRun_softCore j)
      (fun u k hu => State.bit_softCore_kept hm hu k) _ hmem s
  · rw [State.softGroup, State.reg_clearMemory_group hg]
    exact State.forEach_attains (P := fun u => bit (u.reg (.lockupSrc (j / 32))) (j % 32) = false) (fun u => u.bit_lockupSrc_softCore j)
      (fun u k hu => State.bit_softCore_kept hm hu k) _ hmem s
  · rw [State.softGroup, State.stack_clearMemory_group hg]
    refine State.forEach_attains (P := fun u => u.stack (j + 1) = []) (fun u => ?_) (fun u k hu => ?_) _ hmem s
    · rw [State.stack_softCore, if_pos (by unfold coreTarget; rw [if_neg (by omega)])]
    · rw [State.stack_softCore]
      split
      · rfl
      · exact hu

theorem State.softGroup_other {g j : Nat} (hg : g < 4) (hj : j / 16 ≠ g) (s : State) : (s.softGroup g).core j = s.core j := by
  have hloop (l : List Nat) : (∀ k ∈ l, k ≠ j) → ∀ s : State, (s.forEach l State.softCore).core j = s.core j := by
    induction l with
    | nil => exact fun _ s => rfl
    | cons k l ih =>
      intro hl s
      refine (ih (fun i hi => hl i (List.mem_cons_of_mem _ hi)) _).trans ?_
      rw [State.core_softCore, if_neg (Ne.symm (hl k List.mem_cons_self))]
  refine (State.core_clearMemory_other hg hj).trans (hloop _ (fun k hk h => hj ?_) s)
  rw [← h]
  exact mem_groupCores.mp hk

theorem State.softGroup_shgNx {g i : Nat} (hg : g < 4) (hi : i < 64) (s : State) : (s.softGroup g).reg (.shgNx i) = s.reg (.shgNx i) := by
  rw [State.softGroup, State.reg_clearMemory_group hg]
  exact State.forEach_part (fun u => u.reg (.shgNx i)) (fun u k => State.shgNx_softCore k hi) _ s

theorem State.reg_setClearing_other {d : Nat} (hd : 32 ≤ d) (b : Bool) {r : Reg} (hr : r.off ≠ 0x8144) : (s.setClearing d b).reg r = s.reg r := by
  unfold State.setClearing
  dsimp only
  rw [if_neg (by omega), State.updReg_eq, State.reg_setReg, if_neg (c := r.off = Reg.memClearOther.off) hr]
  rfl

/-- SOFT_RST.SHINGLE[g], with MEM_CLEAR where the group has power. -/
theorem State.softShingle_leaves {g : Nat} (hg : g < 4) (s : State) : ∃ t, s.softShingle g = t ∧
    t = { s with regs := t.regs, cores := t.cores, ridge := t.ridge, srcs := t.srcs, running := t.running
                 misc := { s.misc with clearing := t.misc.clearing } } ∧
    (s.isOn (40 + g) = true → t.clearing (40 + g) = true) ∧ t.cores = (s.softGroup g).cores ∧ t.ridge = (s.softGroup g).ridge ∧
    t.running = (s.softGroup g).running ∧ ∀ r : Reg, r.off ≠ 0x8144 → t.reg r = (s.softGroup g).reg r := by
  have hframe := State.softGroup_frame hg s
  have hsoft : s.softShingle g = if s.isOn (40 + g) then (s.softGroup g).setClearing (40 + g) true else s.softGroup g := State.softShingle_eq s g
  cases hon : s.isOn (40 + g) with
  | false =>
    rw [hon, if_neg Bool.false_ne_true] at hsoft
    refine ⟨_, hsoft, ?_, fun h => absurd h Bool.false_ne_true, rfl, rfl, rfl, fun _ _ => rfl⟩
    generalize (s.softGroup g).regs = regs, (s.softGroup g).cores = cores, (s.softGroup g).ridge = ridge, (s.softGroup g).srcs = srcs,
      (s.softGroup g).running = running at hframe
    rw [hframe]
  | true =>
    rw [hon, if_pos rfl] at hsoft
    have hmark := (s.softGroup g).setClearing_frame (40 + g) true
    refine ⟨_, hsoft, ?_, fun _ => State.clearing_setClearing_self, by rw [hmark], by rw [hmark], by rw [hmark],
      fun r hr => State.reg_setClearing_other (by omega) true hr⟩
    generalize ((s.softGroup g).setClearing (40 + g) true).regs = regs', ((s.softGroup g).setClearing (40 + g) true).misc.clearing = clearing at hmark
    generalize (s.softGroup g).regs = regs, (s.softGroup g).cores = cores, (s.softGroup g).ridge = ridge, (s.softGroup g).srcs = srcs,
      (s.softGroup g).running = running at hframe
    rw [hmark, hframe]

/-! ### SOFT_RST.FIELD (R323) -/

theorem mem_groupLanes {k j : Nat} : j ∈ groupLanes k ↔ j / 8 = k := by
  unfold groupLanes
  rw [List.mem_map]
  constructor
  · rintro ⟨i, hi, rfl⟩
    have := List.mem_range.mp hi
    omega
  · rintro rfl
    exact ⟨j % 8, List.mem_range.mpr (Nat.mod_lt _ (by decide)), by omega⟩

/-- One lane of SOFT_RST.FIELD. -/
def State.softLane (s : State) (l : Nat) : State := State.linkEvent s l (s.updLane l Lane.resetLane)

theorem State.softLane_frame (s : State) (l : Nat) : s.softLane l = { s with
    regs := (s.softLane l).regs, lanes := (s.softLane l).lanes, srcs := (s.softLane l).srcs } := by
  unfold State.softLane State.linkEvent
  rw [State.raiseIf_frame]
  rfl

theorem State.lane_softLane (l j : Nat) : (s.softLane l).lane j = if j = l then (s.lane l).resetLane else s.lane j := by
  unfold State.softLane State.linkEvent
  rw [State.raiseIf_frame]
  exact State.lane_setLane ..

theorem Lane.resetLane_resetLane (d : Lane) : d.resetLane.resetLane = d.resetLane := rfl

theorem State.lane_forEach_softLane (l : List Nat) (j : Nat) (s : State) :
    (s.forEach l State.softLane).lane j = if j ∈ l then (s.lane j).resetLane else s.lane j := by
  induction l generalizing s with
  | nil => exact (if_neg List.not_mem_nil).symm
  | cons k l ih =>
    refine (ih (s.softLane k)).trans ?_
    rw [State.lane_softLane]
    by_cases hk : j = k
    · subst hk
      rw [if_pos rfl, Lane.resetLane_resetLane, ite_self, if_pos List.mem_cons_self]
    · simp [hk]

theorem State.forEach_softLane_frame (l : List Nat) (s : State) : s.forEach l State.softLane = { s with
    regs := (s.forEach l State.softLane).regs, lanes := (s.forEach l State.softLane).lanes, srcs := (s.forEach l State.softLane).srcs } := by
  induction l generalizing s with
  | nil => rfl
  | cons k l ih =>
    refine (ih (s.softLane k)).trans ?_
    have hone := s.softLane_frame k
    generalize (s.softLane k).regs = regs, (s.softLane k).lanes = lanes, (s.softLane k).srcs = srcs at hone
    have hcons : s.forEach (k :: l) State.softLane = (s.softLane k).forEach l State.softLane := rfl
    rw [hcons, hone]

/-- SOFT_RST.FIELD[k] of a group without a running line. -/
theorem State.softField_leaves {k : Nat} (h : s.groupRuns k = false) : ∃ t, s.softField k = t ∧
    t = { s with regs := t.regs, lanes := t.lanes, srcs := t.srcs } ∧
    ∀ j : Nat, t.lane j = if j / 8 = k then (s.lane j).resetLane else s.lane j := by
  have heq : s.softField k = (s.forEach (groupLanes k) State.softLane).resetRegs (fun off =>
      decide (0x9000 + 0x800 * k ≤ off) && decide (off < 0x9800 + 0x800 * k) && decide (0x18 ≤ off % 0x100)) :=
    if_neg (by rw [h]; exact Bool.false_ne_true)
  refine ⟨_, heq, ?_, fun j => ?_⟩
  · have hframe := State.forEach_softLane_frame (groupLanes k) s
    generalize s.forEach (groupLanes k) State.softLane = u at hframe
    generalize u.regs = regs, u.lanes = lanes, u.srcs = srcs at hframe
    subst hframe
    rfl
  · refine (State.lane_forEach_softLane (groupLanes k) j s).trans ?_
    simp only [mem_groupLanes]

/-! ### The end of a kernel load (R326 to R329) -/

theorem getD_imageWords (n : Nat) (bs : List Byte) {i : Nat} (hi : i < n) : (imageWords n bs).getD i 0 = leAt bs (2 * i) 2 := by
  induction n generalizing bs i with
  | zero => omega
  | succ n ih =>
    cases i with
    | zero => rfl
    | succ i =>
      have hdrop : leAt (bs.drop 2) (2 * i) 2 = leAt bs (2 * (i + 1)) 2 := by
        unfold leAt
        rw [List.drop_drop, Nat.add_comm 2, Nat.mul_succ]
      exact (ih (bs.drop 2) (by omega)).trans hdrop

theorem length_imageWords (n : Nat) (bs : List Byte) : (imageWords n bs).length = n := by
  induction n generalizing bs with
  | zero => rfl
  | succ n ih => exact congrArg (· + 1) (ih (bs.drop 2))

theorem get_putWords (ws : List Nat) (p : Tab W12) (a x : Nat) : Tab.get (fun _ => (0 : W12)) (putWords p a ws) x =
    if a ≤ x ∧ x < a + ws.length then BitVec.ofNat 12 (ws.getD (x - a) 0) else Tab.get (fun _ => 0) p x := by
  induction ws generalizing p a with
  | nil => exact (if_neg (by simp)).symm
  | cons w ws ih =>
    unfold putWords
    rw [ih, Tab.get_set]
    by_cases hx : x = a
    · subst hx
      rw [if_neg (by omega), if_pos rfl, if_pos (by simp)]
      simp
    · rw [if_neg hx, List.length_cons]
      by_cases hin : a + 1 ≤ x ∧ x < a + 1 + ws.length
      · obtain ⟨i, rfl⟩ := Nat.exists_eq_add_of_le hin.1
        have hi : a + 1 + i - a = i + 1 := by omega
        rw [if_pos hin, if_pos (by omega), hi, Nat.add_sub_cancel_left]
        rfl
      · rw [if_neg hin, if_neg (by omega)]

theorem State.misc_updReg (u : State) (r : Reg) (f : W32 → W32) : (u.updReg r f).misc = u.misc := rfl

/-- BOOT_STATUS after its STATE is written. -/
theorem State.reg_bootState (u : State) (v : Nat) : (u.bootState v).reg .bootStatus = setFld (u.reg .bootStatus) 7 0 v := by
  rw [State.bootState, State.updReg_eq, State.reg_setReg, if_pos rfl]

theorem State.bootState_frame (u : State) (v : Nat) : u.bootState v = { u with regs := (u.bootState v).regs } := rfl

/-- The whole kernel is in Ridge RAM and runs. -/
theorem State.kernelRuns_leaves (s : State) (entry : Nat) (ws : List Nat) (host : Bool) : ∃ t, s.kernelRuns entry ws host = t ∧
    t = { s with regs := t.regs, cores := t.cores, misc := { s.misc with boot := .done } } ∧
    fld (t.reg .bootStatus) 7 0 = 4 ∧ bit (t.reg .bootStatus) 17 = host ∧
    (t.core 64).pc = BitVec.ofNat 16 entry ∧ (t.core 64).data = (s.core 64).data ∧ (t.core 64).prog = putWords (s.core 64).prog 0x2000 ws ∧
    (∀ i : Nat, i < ws.length → 0x2000 + i ∉ (t.core 64).progBad ∧ 0x2000 + i ∉ (t.core 64).progLost) ∧
    ∀ j : Nat, j ≠ 64 → t.core j = s.core j := by
  have hcore (j : Nat) : (s.kernelRuns entry ws host).core j = _ := State.core_setCore s 64 _ j
  have hself := (hcore 64).trans (if_pos rfl)
  refine ⟨_, rfl, State.ext_parts (by simp [State.kernelRuns, State.bootState]), State.fld_bootState _ (by decide), ?_, ?_, ?_, ?_, fun i hi => ?_,
    fun j hj => (hcore j).trans (if_neg hj)⟩
  · unfold State.kernelRuns
    dsimp only
    rw [State.reg_bootState, State.updReg_eq, State.reg_setReg, if_pos rfl, bit_setFld_other _ (by decide) (by decide) (by decide)]
    exact bit_setBit_same _ (by decide) host
  · rw [hself]
  · rw [hself]
  · rw [hself]
  · rw [hself]
    simp [hi]

/-- Writing STATE leaves LAST_ERR. -/
theorem fld_lastErr_state (v : W32) (n : Nat) : fld (setFld v 7 0 n) 15 8 = fld v 15 8 :=
  fld_setFld_other _ (by decide) (by decide) (by decide) (by decide) n

theorem fld_lastErr (v : W32) {code : Nat} (hcode : code < 256) : fld (setFld v 15 8 code) 15 8 = code :=
  (fld_setFld_same _ (by decide) (by decide) code).trans (Nat.mod_eq_of_lt hcode)

theorem State.bootError_host {code : Nat} (hcode : code < 256) (h : s.hostMode = true) : ∃ t, s.bootError code = t ∧
    t = { s with regs := t.regs } ∧ fld (t.reg .bootStatus) 15 8 = code ∧ fld (t.reg .bootStatus) 7 0 = 2 := by
  have heq : s.bootError code = (s.updReg .bootStatus (fun v => setFld v 15 8 code)).bootState 2 := if_pos h
  refine ⟨_, heq, rfl, ?_, State.fld_bootState _ (by decide)⟩
  rw [State.reg_bootState, State.updReg_eq, State.reg_setReg, if_pos rfl]
  exact (fld_lastErr_state _ 2).trans (fld_lastErr _ hcode)

theorem State.bootError_stop {code : Nat} (hcode : code < 256) (h : s.hostMode = false) (hmode : s.misc.mode ≠ 2) : ∃ t, s.bootError code = t ∧
    t = { s with regs := t.regs, misc := t.misc } ∧ fld (t.reg .bootStatus) 15 8 = code ∧ t.misc = { s.misc with boot := .stop } ∧
    fld (t.reg .bootStatus) 7 0 = code := by
  have heq : s.bootError code = State.bootState { s.updReg .bootStatus (fun v => setFld v 15 8 code) with misc := { s.misc with boot := .stop } } code :=
    (if_neg (by rw [h]; exact Bool.false_ne_true)).trans (if_neg hmode)
  refine ⟨_, heq, rfl, ?_, rfl, State.fld_bootState _ hcode⟩
  rw [State.reg_bootState]
  exact (congrArg (fun v => fld (setFld v 7 0 code) 15 8) ((State.reg_setReg ..).trans (if_pos rfl))).trans
    ((fld_lastErr_state _ code).trans (fld_lastErr _ hcode))

/-- The boot of the second flash mode falls back to the host. -/
def State.fallen (s : State) (code : Nat) : State :=
  (({ s with misc := { s.misc with fellBack := true } }.updReg .bootStatus (fun v => setFld v 15 8 code)).updReg .bootStatus
    (fun v => setBit v 16 true)).bootState 1

theorem State.misc_fallen (s : State) (code : Nat) : (s.fallen code).misc = { s.misc with fellBack := true } := by
  simp [State.fallen, State.bootState]

theorem State.fallen_frame (s : State) (code : Nat) :
    s.fallen code = { s with regs := (s.fallen code).regs, misc := (s.fallen code).misc } :=
  State.ext_parts (by simp [State.fallen, State.bootState])

theorem State.fallen_fields (s : State) {code : Nat} (hcode : code < 256) : fld ((s.fallen code).reg .bootStatus) 15 8 = code ∧
    bit ((s.fallen code).reg .bootStatus) 16 = true ∧ fld ((s.fallen code).reg .bootStatus) 7 0 = 1 := by
  refine ⟨?_, ?_, State.fld_bootState _ (by decide)⟩
  · rw [State.fallen, State.reg_bootState, fld_lastErr_state, State.updReg_eq, State.reg_setReg, if_pos rfl, setBit,
      fld_setFld_other _ (by decide) (by decide) (by decide) (by decide), State.updReg_eq, State.reg_setReg, if_pos rfl]
    exact fld_lastErr _ hcode
  · rw [State.fallen, State.reg_bootState, bit_setFld_other _ (by decide) (by decide) (by decide), State.updReg_eq, State.reg_setReg, if_pos rfl]
    exact bit_setBit_same _ (by decide) true

theorem State.bootError_fallback {code : Nat} (hcode : code < 256) (h : s.hostMode = false) (hmode : s.misc.mode = 2) (hload : s.misc.boot = .load) :
    ∃ t, s.bootError code = t ∧ t = { s with regs := t.regs, misc := t.misc } ∧ fld (t.reg .bootStatus) 15 8 = code ∧
    t.misc = { s.misc with fellBack := true } ∧ bit (t.reg .bootStatus) 16 = true ∧
    fld (t.reg .bootStatus) 7 0 = if s.storeClearing then 1 else 2 := by
  have heq : s.bootError code = (s.fallen code).tryHostWait := (if_neg (by rw [h]; exact Bool.false_ne_true)).trans (if_pos hmode)
  obtain ⟨hlast, hbit, hone⟩ := s.fallen_fields hcode
  have hwait : (s.fallen code).tryHostWait = if s.storeClearing then s.fallen code else (s.fallen code).bootState 2 := by
    have hhost : (s.fallen code).hostMode = true := by simp [State.hostMode, State.misc_fallen]
    have hclear : (s.fallen code).storeClearing = s.storeClearing := by simp [State.storeClearing, State.clearing, State.misc_fallen]
    have hboot : (s.fallen code).misc.boot = .load := by rw [State.misc_fallen]; exact hload
    unfold State.tryHostWait
    rw [hone, hhost, hclear, hboot]
    cases s.storeClearing <;> rfl
  rw [heq, hwait]
  cases s.storeClearing with
  | true => exact ⟨_, if_pos rfl, s.fallen_frame code, hlast, s.misc_fallen code, hbit, hone⟩
  | false =>
    have hmisc : ((s.fallen code).bootState 2).misc = (s.fallen code).misc := by simp [State.bootState]
    have hframe : (s.fallen code).bootState 2 = { s with regs := ((s.fallen code).bootState 2).regs, misc := ((s.fallen code).bootState 2).misc } :=
      State.ext_parts (by simp [State.fallen, State.bootState])
    refine ⟨_, if_neg Bool.false_ne_true, hframe, ?_, hmisc.trans (s.misc_fallen code), ?_, State.fld_bootState _ (by decide)⟩
    · rw [State.reg_bootState, fld_lastErr_state]; exact hlast
    · rw [State.reg_bootState, bit_setFld_other _ (by decide) (by decide) (by decide)]; exact hbit

theorem State.fromHost_heard (hears : s.hostHears = true) (hd3 : s.pcie.d3 = false) (g : State → State) : s.fromHost g = g s := by
  unfold State.fromHost
  rw [hears, hd3]
  rfl

/-- A flash image whose header stands at offset 0. -/
theorem bytesAt_header {h body : List Byte} (hh : h.length = 32) : bytesAt (h ++ body) 0 32 = some h := by
  unfold bytesAt
  rw [if_pos (by simp [hh]), List.drop_zero, ← hh, List.take_left]

theorem bytesAt_body {h body : List Byte} (hh : h.length = 32) {n : Nat} (hbody : body.length = n) : bytesAt (h ++ body) 32 n = some body := by
  unfold bytesAt
  rw [if_pos (by simp [hh, hbody]), ← hh, List.drop_left, ← hbody, List.take_length]

/-- The ROM ends a load from flash. -/
theorem State.kernelLoaded_flash {h body : List Byte} (hload : s.misc.boot = .load) (hhost : s.hostMode = false) (hh : h.length = 32) :
    s.kernelLoaded (h ++ body) = if bootHeaderOk false h then
      (match bytesAt (h ++ body) (leAt h 12 4) (2 * leAt h 16 4) with
        | none => s.bootError 9
        | some bs => if kernelOk (leAt h 16 4) (leAt h 20 4) bs then s.kernelRuns (leAt h 10 2) (imageWords (leAt h 16 4) bs) false else s.bootError 9)
      else s.bootError 8 := by
  unfold State.kernelLoaded State.loadKernel
  rw [if_neg (not_not_intro hload), if_neg (by rw [hhost]; exact Bool.false_ne_true)]
  dsimp only
  rw [bytesAt_header hh]
  dsimp only
  cases bootHeaderOk false h with
  | false => rfl
  | true =>
    refine (if_neg (by decide)).trans ?_
    rw [if_pos rfl]
    cases bytesAt (h ++ body) (leAt h 12 4) (2 * leAt h 16 4) <;> rfl

/-- The image that follows the header at once. -/
theorem State.kernelLoaded_image {h body : List Byte} (hload : s.misc.boot = .load) (hhost : s.hostMode = false) (hh : h.length = 32)
    (hok : bootHeaderOk false h = true) (hoff : leAt h 12 4 = 32) (hbody : body.length = 2 * leAt h 16 4) : s.kernelLoaded (h ++ body) =
      if kernelOk (leAt h 16 4) (leAt h 20 4) body then s.kernelRuns (leAt h 10 2) (imageWords (leAt h 16 4) body) false else s.bootError 9 := by
  rw [State.kernelLoaded_flash hload hhost hh, if_pos hok, hoff, bytesAt_body hh hbody]

/-- A header in the store that R327 does not allow. -/
theorem State.kernelLoaded_store {flash : List Byte} (hload : s.misc.boot = .load) (hhost : s.hostMode = true)
    (hst : fld (s.reg .bootStatus) 7 0 = 3) (hon : s.storeOn (fld (s.reg .bootCtl) 24 12 * 4096) 32 = true) (hgood : s.storeBad = [])
    (hbad : bootHeaderOk true ((List.range 32).map (fun b => Memory.read s.store (fld (s.reg .bootCtl) 24 12 * 4096 + b))) = false) :
    s.kernelLoaded flash = s.bootError 0x0A := by
  have hread : s.romStore (fld (s.reg .bootCtl) 24 12 * 4096 + 0) 32 =
      (s, some ((List.range 32).map (fun b => Memory.read s.store (fld (s.reg .bootCtl) 24 12 * 4096 + b)))) := by
    unfold State.romStore
    rw [Nat.add_zero, if_neg (by rw [hon]; decide), State.storeBadAt_none hgood, State.storeRead, Memory.readList_eq_map]
  unfold State.kernelLoaded State.loadKernel
  rw [if_neg (not_not_intro hload), if_pos hhost, if_pos hst]
  dsimp only
  rw [hread]
  exact if_pos (by rw [hbad]; rfl)

end

/-- Settles O53: BOOT_GO, the end of a kernel load, and the soft resets of the Ridge, a Shingle group and a field port group. -/
theorem bootSteps : Obligations.BootSteps := by
  unfold Obligations.BootSteps
  intro g k i j h body s flash st n entry good flashBoot base called
  have hhost : flashBoot → s.hostMode = false := fun ⟨_, hmode, hfell⟩ => by
    rcases hmode with hmode | hmode <;> simp [State.hostMode, hmode, hfell]
  refine ⟨fun hears hd3 hst => ?_, fun hears hd3 hst => ?_, fun hboot => ?_, fun hflash hgood hok => ?_, fun hflash hbad => ?_,
    fun hload hmode => ⟨fun hst => ?_, fun hst hon hgood hbad => ?_⟩, fun hmode => ?_, fun hmode hcalled => ?_, ?_, fun hruns => ?_, fun hruns => ?_⟩
  · refine congrArg Host.Outcome.next ((State.fromHost_heard hears hd3 _).trans (if_neg hst))
  · refine ⟨_, congrArg Host.Outcome.next ((State.fromHost_heard hears hd3 _).trans (if_pos hst)), rfl, ?_⟩
    rw [State.reg_bootState]
    simp [setFld]
  · exact congrArg Host.Outcome.next (if_pos hboot)
  · obtain ⟨hload, -, -⟩ := id hflash
    obtain ⟨hh, hhok, hoff, hbody⟩ := hgood
    obtain ⟨t, ht, hframe, hst, hbit, hpc, hdata, hprog, herr, hother⟩ := s.kernelRuns_leaves entry (imageWords n body) false
    have hrun := (State.kernelLoaded_image hload (hhost hflash) hh hhok hoff hbody).trans ((if_pos hok).trans ht)
    refine ⟨t, congrArg Host.Outcome.next hrun, by rw [hframe], by rw [hframe], by rw [hframe], hst, hbit, hpc, hdata, fun hi => ⟨?_, ?_⟩,
      fun hi => ?_, hother j⟩
    · rw [hprog, get_putWords, length_imageWords, if_pos (by omega), Nat.add_sub_cancel_left, getD_imageWords n body hi]
      rfl
    · exact herr i (by rw [length_imageWords]; exact hi)
    · rw [hprog, get_putWords, if_neg (by omega)]
  · obtain ⟨hload, hmode, hfell⟩ := id hflash
    have hcode : (if bootHeaderOk false h = true then 9 else 8) < 256 := by (repeat' split) <;> decide
    have herr : s.kernelLoaded flash = s.bootError (if bootHeaderOk false h then 9 else 8) := by
      rcases hbad with ⟨hbad, hh⟩ | ⟨⟨hh, hhok, hoff, hbody⟩, hbad⟩
      · rw [State.kernelLoaded_flash hload (hhost hflash) hh, if_neg (by rw [hbad]; decide), if_neg (by rw [hbad]; decide)]
      · rw [State.kernelLoaded_image hload (hhost hflash) hh hhok hoff hbody, if_pos hhok]
        exact if_neg (ne_true_of_eq_false hbad)
    rcases hmode with hmode | hmode
    · obtain ⟨t, ht, hframe, hlast, hmisc, hst⟩ := State.bootError_stop hcode (hhost hflash) (by rw [hmode]; decide)
      exact ⟨t, congrArg Host.Outcome.next (herr.trans ht), hframe, hlast, fun _ => ⟨hmisc, hst⟩, fun h2 => absurd (hmode.symm.trans h2) (by decide)⟩
    · obtain ⟨t, ht, hframe, hlast, hmisc, hbit, hst⟩ := State.bootError_fallback hcode (hhost hflash) hmode hload
      exact ⟨t, congrArg Host.Outcome.next (herr.trans ht), hframe, hlast, fun h1 => absurd (hmode.symm.trans h1) (by decide), fun _ => ⟨hmisc, hbit, hst⟩⟩
  · have hmode' : s.hostMode = true := by rcases hmode with hmode | hmode <;> simp [State.hostMode, hmode]
    exact congrArg Host.Outcome.next ((if_neg (not_not_intro hload)).trans ((if_pos hmode').trans (if_neg hst)))
  · have hmode' : s.hostMode = true := by rcases hmode with hmode | hmode <;> simp [State.hostMode, hmode]
    obtain ⟨t, ht, hframe, hlast, hfin⟩ := State.bootError_host (s := s) (code := 0x0A) (by decide) hmode'
    exact ⟨t, congrArg Host.Outcome.next ((State.kernelLoaded_store hload hmode' hst hon hgood hbad).trans ht), hframe, hlast, hfin⟩
  · exact congrArg Host.Outcome.next (if_pos hmode)
  · obtain ⟨t, ht, hframe, hcores, hridge, hst, hstack, hsrc⟩ := State.softRidge_leaves hmode hcalled
    have hmisc := congrArg State.misc hframe
    refine ⟨t, congrArg Host.Outcome.next ht, by rw [hframe], hridge, by rw [hframe], by rw [hframe], by rw [hframe], by rw [hframe], ?_, hst, ?_, hstack,
      fun hj hcall => (hcores j hj).resolve_left hcall, by rw [hframe], by rw [hframe], by rw [hframe], fun hact hj h491 => hsrc j hact hj h491⟩
    · rw [hframe]
    · unfold State.clearing
      rw [hmisc]
      exact s.clearing_ridgeReset
  · obtain ⟨t, ht, hframe, hclear, hcores, hridge, hrunning, hreg⟩ := State.softShingle_leaves g.isLt s
    have hcore (c : Nat) : t.core c = (s.softGroup g).core c := congrArg (fun l => Tab.get Core.reset l c) hcores
    refine ⟨t, congrArg Host.Outcome.next ht, hframe, hclear, fun hj => ?_, fun hj => (hcore j).trans (State.softGroup_other g.isLt hj s), fun hi => ?_⟩
    · obtain ⟨hheld, hprog, hdata, hkcq, hrun, hlock, hstack⟩ := State.softGroup_core g.isLt hj s
      have hword : (Fin.ofNat 2 (j / 32)).val = j / 32 := Nat.mod_eq_of_lt (by omega)
      rw [hcore, hridge, hword, hreg _ (by simp only [Reg.off]; omega), hreg _ (by simp only [Reg.off]; omega)]
      exact ⟨hheld, hprog, hdata, hkcq, hrun, hlock, (congrArg (fun l => Tab.get (fun _ => []) l (j + 1)) hrunning).trans hstack⟩
    · have hword : (Fin.ofNat 64 i).val = i := Nat.mod_eq_of_lt hi
      rw [hword, hreg _ (by simp only [Reg.off]; omega)]
      exact State.softGroup_shgNx g.isLt hi s
  · exact congrArg Host.Outcome.next (if_pos hruns)
  · obtain ⟨t, ht, hframe, hlane⟩ := State.softField_leaves hruns
    refine ⟨t, congrArg Host.Outcome.next ht, hframe, by rw [hframe], by rw [hframe], fun hi => ?_, fun hj => (hlane j).trans (if_neg hj)⟩
    exact (hlane _).trans (if_pos (by omega))

end Sys2Proof.Machine
end

section
/-!
PROOF. Proofs/InstanceLife.lean: release, drop, commit and publication of an instance that runs alone, and a Checked pair that
disagrees (R103 to R121, R138 to R144).
-/
namespace Sys2Proof.Machine

section
variable {s : State} {j : Job}

/-! ### The end of an instance that runs alone (R10, R117, R134) -/

/-- The instance j runs alone, pins nothing and names no generation, and no removal or stop waits for it. -/
def State.Solo (s : State) (j : Job) : Prop :=
  s.jobs = [j] ∧ j.pins = [] ∧ s.genNamed j.gen = none ∧ (s.task j.t).removing = [] ∧ ∀ k : Nat, k < 64 → s.waits k 8 = false

theorem State.Solo.congr {t : State} (h : s.Solo j) (hjobs : t.jobs = s.jobs) (hgens : t.gens = s.gens) (htasks : t.tasks = s.tasks)
    (hsqs : t.sqs = s.sqs) : t.Solo j := by
  have hgen (n : Nat) : t.genNamed n = s.genNamed n := by unfold State.genNamed State.gen; rw [hgens]
  have htask (n : Nat) : t.task n = s.task n := by unfold State.task; rw [htasks]
  have hwait (k n : Nat) : t.waits k n = s.waits k n := by unfold State.waits State.sq; rw [hsqs]
  unfold State.Solo
  rw [hjobs, hgen, htask]
  simp only [hwait]
  exact h

theorem State.checkStops_none (h : ∀ k : Nat, k < 64 → s.waits k 8 = false) : s.checkStops = s :=
  State.forEach_eq_self fun q hq => if_neg (by rw [h q (List.mem_range.mp hq)]; exact Bool.false_ne_true)

theorem State.checkRemoval_none {t : Nat} (h : (s.task t).removing = []) : s.checkRemoval t = s := if_pos (by rw [h]; rfl)

theorem State.unbindGen_none {n : Nat} (h : s.genNamed n = none) : s.unbindGen n = s := by
  unfold State.unbindGen
  rw [h]

theorem State.bindGen_none {n : Nat} (h : s.genNamed n = none) : s.bindGen n = s := by
  unfold State.bindGen
  rw [h]

/-- Such an instance leaves nothing behind. -/
theorem State.endJob_solo (h : s.Solo j) : s.endJob j = { s with jobs := [] } := by
  obtain ⟨hjobs, hpins, hgen, hrem, hstops⟩ := h
  unfold State.endJob
  rw [hjobs, hpins, List.erase_cons_head]
  have hgen' : ({ s with jobs := [] } : State).genNamed j.gen = none := hgen
  have hrem' : (({ s with jobs := [] } : State).task j.t).removing = [] := hrem
  have hbind : ({ s with jobs := [] } : State).unbindGen j.gen = { s with jobs := [] } := State.unbindGen_none hgen'
  refine (congrArg (fun u : State => (u.checkRemoval j.t).checkStops) hbind).trans ?_
  exact (congrArg State.checkStops (State.checkRemoval_none hrem')).trans (State.checkStops_none hstops)

/-! ### Release (R113 to R116) -/

section
variable {t n : Nat}

/-- The record, the tasklet and the counters after a release. -/
def State.released (s : State) (t n : Nat) : State :=
  ((((s.updTask t (fun k => { k with lastCyc := some n, started := true })).setRecOf t 57
    (BitVec.ofNat 32 (if (s.task t).started then ((s.recOf t 57) + 1).toNat else 0))).setRecOf t 59 (BitVec.ofNat 32 s.currentGen)).setRecOf t 60
    (s.recOf t 60 + 1)).bump (.dspCount 6)

/-- The instance that is released of a guaranteed tasklet without inputs. -/
def State.newJob (s : State) (t n : Nat) (deferred : Bool) : Job :=
  let r := s.recOf t
  let nominal := s.t0Of (s.portA r.line) n
  { t := t, seq := (if (s.task t).started then ((r 57) + 1).toNat else 0), cyc := n, nominal := nominal, deadline := nominal + r.deadline * 1000,
    pins := [], hdr := [], gen := s.currentGen, host := r.hostImg, img := r.imgAddr, cl := r.home, checked := r.checked, guaranteed := true,
    deferred := deferred, active := false, late := false, noFrame := false, replay := false, newBufs := [] }

/-- The instances of a tasklet. -/
def State.mine (s : State) (t : Nat) : List Job := s.jobs.filter (fun i => decide (i.t = t))

theorem State.release_overrun (hrun : s.timeRuns = true) (h : (s.mine t).any (·.deferred) = true) :
    s.release t n = ((s.raise 354).bump (.dspCount 2)).updTask t (fun k => { k with lastCyc := some n }) := by
  unfold State.release
  rw [if_neg (by rw [hrun]; decide)]
  exact if_pos h

/-- A guaranteed tasklet without inputs, and no generation is CURRENT. -/
def State.Plain (s : State) (t : Nat) : Prop :=
  s.timeRuns = true ∧ (s.recOf t).nIn = 0 ∧ (s.recOf t).bestEffort = false ∧ s.genNamed s.currentGen = none

theorem State.Plain.bind {u : State} (h : s.Plain t) (hgens : u.gens = s.gens) : u.bindGen s.currentGen = u := by
  obtain ⟨-, -, -, hgen⟩ := h
  refine State.bindGen_none ?_
  rw [← hgen]
  unfold State.genNamed State.gen
  rw [hgens]

theorem State.gens_released (s : State) (t n : Nat) : (s.released t n).gens = s.gens := by simp [State.released, State.setRecOf]

theorem State.release_first (h : s.Plain t) (hmine : s.mine t = []) :
    s.release t n = { s.released t n with jobs := s.jobs ++ [s.newJob t n false] } := by
  obtain ⟨hrun, hin, hbe, -⟩ := id h
  have hins : (s.recOf t).ins = [] := by unfold Rec.ins; rw [hin]; rfl
  unfold State.release
  rw [if_neg (by rw [hrun]; decide)]
  dsimp only
  rw [show s.jobs.filter (fun j => decide (j.t = t)) = [] from hmine, hins, hbe, if_neg (by decide)]
  exact h.bind (u := { s.released t n with jobs := s.jobs ++ [s.newJob t n false] }) (s.gens_released t n)

/-- The one that is released behind an instance that has not ended. -/
def State.deferred (s : State) (t n : Nat) : State :=
  let u := (((s.released t n).raise 353).bump (.dspCount 1)).setRecOf t 62 (satInc16 (s.recOf t 62) 31 16)
  { u with jobs := u.jobs ++ [s.newJob t n true] }

theorem State.gens_deferred (s : State) (t n : Nat) : (s.deferred t n).gens = s.gens := by
  simp [State.deferred, State.released, State.setRecOf]

theorem State.jobs_deferred (s : State) (t n : Nat) : (s.deferred t n).jobs = s.jobs ++ [s.newJob t n true] := by
  simp [State.deferred, State.released, State.setRecOf]

theorem State.deferred_leaves (s : State) (t n : Nat) : s.deferred t n = { s with regs := (s.deferred t n).regs, recs := (s.deferred t n).recs
                                                                                  tasks := (s.deferred t n).tasks, jobs := (s.deferred t n).jobs
                                                                                  srcs := (s.deferred t n).srcs } ∧
    ((s.deferred t n).src 353).pend = true ∧ (s.deferred t n).reg (.dspCount 1) = s.reg (.dspCount 1) + 1 := by
  have hsrcs : (s.deferred t n).srcs = ((s.released t n).raise 353).srcs := by simp [State.deferred, State.setRecOf]
  have hregs : (s.deferred t n).regs = (((s.released t n).raise 353).bump (.dspCount 1)).regs := by simp [State.deferred, State.setRecOf]
  have hpend : (s.deferred t n).src 353 = ((s.released t n).raise 353).src 353 := by unfold State.src; rw [hsrcs]
  have hreg : (s.deferred t n).reg (.dspCount 1) = (((s.released t n).raise 353).bump (.dspCount 1)).reg (.dspCount 1) := by
    unfold State.reg
    rw [hregs]
  refine ⟨State.ext_parts (by simp [State.deferred, State.released, State.setRecOf]), by rw [hpend]; exact State.pend_raise _ _, ?_⟩
  have hcount : ((s.released t n).raise 353).reg (.dspCount 1) = s.reg (.dspCount 1) := by
    rw [State.reg_raise _ _ (by unfold Reg.clearOf; decide)]
    simp [State.released, State.setRecOf, Reg.off]
  rw [hreg, State.reg_bump_self, hcount]

theorem State.release_deferred (h : s.Plain t) (hmine : s.mine t ≠ []) (hnone : (s.mine t).any (·.deferred) = false) :
    s.release t n = s.deferred t n := by
  obtain ⟨hrun, hin, hbe, -⟩ := id h
  have hins : (s.recOf t).ins = [] := by unfold Rec.ins; rw [hin]; rfl
  have hempty : (s.jobs.filter (fun j => decide (j.t = t))).isEmpty = false := List.isEmpty_eq_false_iff.mpr hmine
  unfold State.release
  rw [if_neg (by rw [hrun]; decide)]
  dsimp only
  rw [show (s.jobs.filter (fun j => decide (j.t = t))).any (·.deferred) = false from hnone, hempty, hins, hbe, if_neg (by decide)]
  exact h.bind (u := s.deferred t n) (by rw [s.gens_deferred t n])

theorem State.recOf_setRecOf (s : State) (t w : Nat) (v : W32) (w' : Nat) : (s.setRecOf t w v).recOf t w' = if w' = w then v else s.recOf t w' := by
  unfold State.setRecOf State.recOf
  rw [State.recW_setRecW]
  simp

/-- What a release writes besides the instance. -/
theorem State.released_leaves (s : State) (t n : Nat) : s.released t n =
      { s with regs := (s.released t n).regs, recs := (s.released t n).recs, tasks := (s.released t n).tasks } ∧
    (s.released t n).reg (.dspCount 6) = s.reg (.dspCount 6) + 1 ∧ (s.released t n).reg (.dspCount 1) = s.reg (.dspCount 1) ∧
    ((s.released t n).task t).lastCyc = some n ∧ ((s.released t n).task t).started = true ∧ (s.released t n).recOf t 60 = s.recOf t 60 + 1 := by
  refine ⟨State.ext_parts (by simp [State.released, State.setRecOf]), ?_, ?_, ?_, ?_, ?_⟩
  · simp [State.released, State.setRecOf]
  · simp [State.released, State.setRecOf, Reg.off]
  · simp [State.released, State.setRecOf]
  · simp [State.released, State.setRecOf]
  · exact (State.recOf_setRecOf _ t 60 _ 60).trans (if_pos rfl)

/-- BE_DROP of an instance that runs alone. -/
theorem State.dropJob_solo (h : s.Solo j) : s.dropJob j = { (s.raise 356).bump (.dspCount 4) with jobs := [] } :=
  State.endJob_solo (h.congr (by simp) (by simp) (by simp) (by simp))

end


/-! ### Commit (R140, R142) -/

theorem State.commit_jobOn {c : Nat} (hjob : s.jobOn c = some j) : s.commit c =
    if j.clusters.all (fun d => decide ((s.cluster d).phase = .ended)) then s.commitJob j else s := by
  unfold State.commit
  rw [hjob]

theorem Job.clusters_single (h : j.checked = false) : j.clusters = [j.cl] := if_neg (by rw [h]; exact Bool.false_ne_true)

theorem State.putJob_same (h : j.newBufs = []) : s.putJob j { j with newBufs := [] } = s := by
  have hj : { j with newBufs := [] } = j := by rw [← h]
  have hmap : s.jobs.map (fun i => if i = j then j else i) = s.jobs := by
    refine (List.map_congr_left fun i _ => ?_).trans (List.map_id s.jobs)
    exact ite_eq_right_iff.mpr Eq.symm
  unfold State.putJob
  rw [hj, hmap]

/-- Words without an error are read as they stand. -/
theorem State.readOut_clean (hbad : (s.cluster j.cl).bad = []) (l : List (Nat × Nat)) (acc : List W16) :
    s.readOut j l acc = (s, some (acc.reverse ++ l.map (fun p => (s.cluster j.cl).word p.1 p.2))) := by
  induction l generalizing acc with
  | nil => simp [State.readOut]
  | cons p l ih =>
    have hp : (s.cluster j.cl).isBad p.1 p.2 = false := by simp [Cluster.isBad, hbad]
    unfold State.readOut
    dsimp only
    rw [hp, if_neg Bool.false_ne_true, ih]
    simp

theorem length_wordBytes (ws : List W16) : (wordBytes ws).length = 2 * ws.length := by
  induction ws with
  | nil => rfl
  | cons w ws ih =>
    have hcons : wordBytes (w :: ws) = leBytes 2 w.toNat ++ wordBytes ws := rfl
    rw [hcons, List.length_append, ih, length_leBytes, List.length_cons]
    omega

/-- The state words go to the copy that CKPT does not name; only the store changes. -/
theorem State.commitState_clean {off : Nat} (hbad : (s.cluster j.cl).bad = []) (hoff : off = (s.recOf j.t).copyAt (!(s.recOf j.t).ckpt))
    (hon : s.storeOn off (2 * (s.stateWordsAt j).length) = true) : ∃ storeBad, s.commitState j =
      ({ s with store := Memory.writeList s.store off (wordBytes ((s.stateWordsAt j).map (fun p => (s.cluster j.cl).word p.1 p.2))), storeBad := storeBad }, true) := by
  unfold State.commitState
  rw [State.readOut_clean hbad]
  dsimp only
  rw [← hoff, List.reverse_nil, List.nil_append]
  generalize hws : (s.stateWordsAt j).map (fun p => (s.cluster j.cl).word p.1 p.2) = ws
  have hlen : (wordBytes ws).length = 2 * (s.stateWordsAt j).length := by rw [length_wordBytes, ← hws, List.length_map]
  by_cases hempty : ws = []
  · subst hempty
    exact ⟨s.storeBad, rfl⟩
  · rw [if_neg (by simpa using hempty)]
    unfold State.commitWrite State.busWrite
    rw [hlen, if_pos hon]
    exact ⟨_, rfl⟩

/-- Steps 1 to 3 of R140 without outputs, whose state has been written. -/
theorem State.commitJob_single {u : State} (hch : j.checked = false) (hout : (s.recOf j.t).nOut = 0) (hnew : j.newBufs = [])
    (hstate : s.commitState j = (u, true)) : s.commitJob j = u.setCluster j.cl { u.cluster j.cl with phase := .committing } := by
  have houts : (s.recOf j.t).outs = [] := by unfold Rec.outs; rw [hout]; rfl
  have hput := State.putJob_same (s := u) hnew
  unfold State.commitJob
  dsimp only
  rw [if_neg (by simp [hch]), if_neg (by simp [hch]), houts]
  have hnone : s.commitOutputs j [] [] = (s, [], true) := rfl
  rw [hnone]
  dsimp only
  rw [if_pos rfl, hstate]
  dsimp only
  rw [hput, if_pos rfl, Job.clusters_single (j := { j with newBufs := [] }) hch]
  rfl

/-! ### Publication (R140 step 4, R121) -/

/-- Words 56, 61 and 63 of the record after a commit. -/
def State.recorded (s : State) (j : Job) : State :=
  let r := s.recOf j.t
  let s1 := (s.setRecOf j.t 56 (setFld (setBit (r 56) 0 (!r.ckpt)) 20 16 j.cl)).setRecOf j.t 61 (r 61 + 1)
  let low := clampInt (sMin 32) (sMax 32) ((j.deadline : Int) - (s.clk.dt : Int))
  if low < (r 63).toInt then s1.setRecOf j.t 63 (BitVec.ofInt 32 low) else s1

theorem State.recorded_leaves (s : State) (j : Job) : s.recorded j = { s with recs := (s.recorded j).recs } ∧
    (s.recorded j).recOf j.t 56 = setFld (setBit (s.recOf j.t 56) 0 (!(s.recOf j.t).ckpt)) 20 16 j.cl ∧
    (s.recorded j).recOf j.t 61 = s.recOf j.t 61 + 1 ∧ (s.recorded j).recOf j.t 62 = s.recOf j.t 62 := by
  unfold State.recorded
  dsimp only
  repeat' split
  · exact ⟨rfl, by simp [State.recOf_setRecOf], by simp [State.recOf_setRecOf], by simp [State.recOf_setRecOf]⟩
  · exact ⟨rfl, by simp [State.recOf_setRecOf], by simp [State.recOf_setRecOf], by simp [State.recOf_setRecOf]⟩

theorem State.publishRecord_onTime (h : s.clk.dt ≤ j.deadline) : s.publishRecord j = s.recorded j := if_neg (by omega)

theorem State.publishRecord_late (h : j.deadline < s.clk.dt) : s.publishRecord j =
    (((s.recorded j).setRecOf j.t 62 (satInc16 (s.recOf j.t 62) 15 0)).raise 352).bump (.dspCount 0) := if_pos (by omega)

theorem State.recOf_late (s : State) (t : Nat) (v : W32) (i n w : Nat) :
    (((s.setRecOf t 62 v).raise i).bump (.dspCount n)).recOf t w = if w = 62 then v else s.recOf t w := by
  rw [← State.recOf_setRecOf]
  simp [State.recOf, State.recW]

theorem State.reg_late {t i n : Nat} {v : W32} (s : State) {r : Reg} (h : r.clearOf i) :
    (((s.setRecOf t 62 v).raise i).bump (.dspCount n)).reg r = if r.off = (Reg.dspCount n).off then s.reg r + 1 else s.reg r := by
  have hraise : ((s.setRecOf t 62 v).raise i).reg r = s.reg r := State.reg_raise _ _ h
  rw [State.bump, State.updReg_eq, State.reg_setReg]
  split
  next hoff =>
    have hsame : ((s.setRecOf t 62 v).raise i).reg (.dspCount n) = ((s.setRecOf t 62 v).raise i).reg r := by unfold State.reg; rw [hoff]
    rw [hsame, hraise]
  · exact hraise

/-- What the record and the counters hold after a commit. -/
theorem State.publishRecord_leaves (s : State) (j : Job) : ∃ t, s.publishRecord j = t ∧ t = { s with recs := t.recs, regs := t.regs, srcs := t.srcs } ∧
    t.recOf j.t 56 = setFld (setBit (s.recOf j.t 56) 0 (!(s.recOf j.t).ckpt)) 20 16 j.cl ∧ t.recOf j.t 61 = s.recOf j.t 61 + 1 ∧
    t.reg (.dspCount 7) = s.reg (.dspCount 7) ∧
    (j.deadline < s.clk.dt → (t.src 352).pend = true ∧ t.reg (.dspCount 0) = s.reg (.dspCount 0) + 1) ∧
    (s.clk.dt ≤ j.deadline → t.reg (.dspCount 0) = s.reg (.dspCount 0) ∧ t.recOf j.t 62 = s.recOf j.t 62) := by
  obtain ⟨hframe, h56, h61, h62⟩ := s.recorded_leaves j
  have hreg (r : Reg) : (s.recorded j).reg r = s.reg r := by rw [hframe]; rfl
  rcases Nat.lt_or_ge j.deadline s.clk.dt with hlate | htime
  · refine ⟨_, State.publishRecord_late hlate, ?_, ?_, ?_, ?_, fun _ => ⟨State.pend_raise _ _, ?_⟩, fun h => by omega⟩
    · exact State.ext_parts (by rw [hframe]; simp [State.setRecOf])
    · rw [State.recOf_late, if_neg (by decide), h56]
    · rw [State.recOf_late, if_neg (by decide), h61]
    · rw [State.reg_late _ (by unfold Reg.clearOf; decide), if_neg (by decide), hreg]
    · rw [State.reg_late _ (by unfold Reg.clearOf; decide), if_pos rfl, hreg]
  · refine ⟨_, State.publishRecord_onTime htime, by rw [hframe], h56, h61, hreg _, fun h => by omega, fun _ => ⟨hreg _, h62⟩⟩

theorem State.forEach_clusters_frame {α : Type} {g : State → α → State} (hg : ∀ s a, g s a = { s with clusters := (g s a).clusters }) (l : List α)
    (s : State) : s.forEach l g = { s with clusters := (s.forEach l g).clusters } := by
  induction l generalizing s with
  | nil => rfl
  | cons a l ih =>
    refine (ih (g s a)).trans ?_
    have hone := hg s a
    have hcons : s.forEach (a :: l) g = (g s a).forEach l g := rfl
    generalize (g s a).clusters = clusters at hone
    rw [hcons, hone]

theorem State.spoilState_frame (s : State) (t : Nat) (keep : List Nat) : s.spoilState t keep = { s with clusters := (s.spoilState t keep).clusters } :=
  State.forEach_clusters_frame (g := fun s c => s.spoilPages c (PageId.isState t)) (fun _ _ => rfl) _ s

/-- The resident STATE frames of tasklet t are good. -/
def Cluster.confirm (t : Nat) (x : Cluster) : Cluster :=
  { x with frames := x.frames.map (fun e =>
    match e.2.page with
    | some p => if PageId.isState t p then (e.1, { e.2 with ok := true }) else e
    | none => e) }

theorem State.publishResident_eq (s : State) (j : Job) : s.publishResident j =
    (s.forEach j.clusters (fun s c => s.updCluster c (Cluster.confirm j.t))).spoilState j.t j.clusters := rfl

theorem State.publishResident_frame (s : State) (j : Job) : s.publishResident j = { s with clusters := (s.publishResident j).clusters } := by
  have hspoil (u : State) (h : ∃ clusters, u = { s with clusters := clusters }) :
      u.spoilState j.t j.clusters = { s with clusters := (u.spoilState j.t j.clusters).clusters } := by
    obtain ⟨clusters, rfl⟩ := h
    exact State.spoilState_frame _ _ _
  rw [State.publishResident_eq]
  exact hspoil _ ⟨_, State.forEach_clusters_frame (g := fun s c => s.updCluster c (Cluster.confirm j.t)) (fun _ _ => rfl) j.clusters s⟩

theorem State.stopClusters_frame (s : State) (cs : List Nat) : s.stopClusters cs = { s with clusters := (s.stopClusters cs).clusters } :=
  State.forEach_clusters_frame (g := fun s c => s.updCluster c Cluster.stopWork) (fun _ _ => rfl) _ s

/-- Clusters that stop are idle and have no instance. -/
theorem State.cluster_stopClusters {cs : List Nat} {c : Nat} (hc : c ∈ cs) (s : State) :
    ((s.stopClusters cs).cluster c).phase = .idle ∧ ((s.stopClusters cs).cluster c).job = none :=
  State.forEach_attains (P := fun u => (u.cluster c).phase = .idle ∧ (u.cluster c).job = none)
    (fun u => by rw [State.updCluster_eq, State.cluster_setCluster, if_pos rfl]; exact ⟨rfl, rfl⟩)
    (fun u d hu => by
      rw [State.updCluster_eq, State.cluster_setCluster]
      split
      · exact ⟨rfl, rfl⟩
      · exact hu) cs hc s

theorem State.publication_jobOn {c : Nat} (hjob : s.jobOn c = some j) : s.publication c =
    if decide ((s.cluster c).phase = .committing) then s.publish j else s := by
  unfold State.publication
  rw [hjob]

/-- Step 4 of R140 up to the end of the instance. -/
def State.published (s : State) (j : Job) : State :=
  ((((s.publishRecord j).publishResident j).bump (.dspCount 7)).raise (4 * j.cl)).stopClusters j.clusters

theorem State.publish_noOutput (hout : (s.recOf j.t).nOut = 0) (hrep : j.replay = false) : s.publish j = (s.published j).endJob j := by
  have houts : (s.recOf j.t).outs = [] := by unfold Rec.outs; rw [hout]; rfl
  unfold State.publish
  dsimp only
  rw [houts, if_neg (by rw [hrep]; exact Bool.false_ne_true)]
  simp only [List.filter_nil, State.forEach, List.foldl_nil]
  unfold State.published
  rfl

/-- The frame of the steps after the record. -/
theorem State.published_frame (s : State) (j : Job) : s.published j = { s.publishRecord j with
    regs := (s.published j).regs, clusters := (s.published j).clusters, srcs := (s.published j).srcs } := by
  have hresident : ∃ clusters, (s.publishRecord j).publishResident j = { s.publishRecord j with clusters := clusters } :=
    ⟨_, State.publishResident_frame _ j⟩
  have hstop (u : State) : ∃ clusters, u.stopClusters j.clusters = { u with clusters := clusters } := ⟨_, u.stopClusters_frame _⟩
  obtain ⟨clusters, hresident⟩ := hresident
  obtain ⟨stopped, hstop⟩ := hstop ((((s.publishRecord j).publishResident j).bump (.dspCount 7)).raise (4 * j.cl))
  unfold State.published
  rw [hstop, hresident]
  exact State.ext_parts (by simp)

/-- A counter of the dispatcher after these steps. -/
theorem State.reg_published (hcl : j.cl < 32) {n : Nat} (hn : n < 8) : (s.published j).reg (.dspCount n) =
    if n = 7 then (s.publishRecord j).reg (.dspCount 7) + 1 else (s.publishRecord j).reg (.dspCount n) := by
  have hresident (r : Reg) : ((s.publishRecord j).publishResident j).reg r = (s.publishRecord j).reg r := by
    rw [State.publishResident_frame]
    rfl
  have hstop : (s.published j).reg (.dspCount n) =
      ((((s.publishRecord j).publishResident j).bump (.dspCount 7)).raise (4 * j.cl)).reg (.dspCount n) := by
    rw [State.published, State.stopClusters_frame]
    rfl
  rw [hstop, State.reg_raise _ _ (by unfold Reg.clearOf; simp only [Reg.off]; omega), State.bump, State.updReg_eq, State.reg_setReg, hresident,
    hresident]
  have hoff : (Reg.dspCount n).off = (Reg.dspCount 7).off ↔ n = 7 := by simp only [Reg.off]; omega
  simp only [hoff]

theorem State.src_published {i : Nat} (h : i = 4 * j.cl ∨ ((s.publishRecord j).src i).pend = true) : ((s.published j).src i).pend = true := by
  have hstop : (s.published j).src i = ((((s.publishRecord j).publishResident j).bump (.dspCount 7)).raise (4 * j.cl)).src i := by
    rw [State.published, State.stopClusters_frame]
    rfl
  rw [hstop]
  rcases h with rfl | h
  · exact State.pend_raise _ _
  · refine State.pend_raise_kept _ ?_
    have hresident : (((s.publishRecord j).publishResident j).bump (.dspCount 7)).src i = (s.publishRecord j).src i := by
      rw [State.publishResident_frame]
      rfl
    rw [hresident]
    exact h

/-! ### A Checked pair that disagrees (R138, R143, R144) -/

theorem Job.clusters_pair (h : j.checked = true) : j.clusters = [j.cl, j.cl + 1] := if_pos h

theorem State.setFault_frame (s : State) (n : Nat) : s.setFault n = { s with regs := (s.setFault n).regs, srcs := (s.setFault n).srcs } :=
  State.ext_parts (by simp)

theorem State.reg_setFault {r : Reg} (n : Nat) (hclear : r.clearOf 442) (hr : r.off ≠ Reg.faultStatus.off) : (s.setFault n).reg r = s.reg r := by
  rw [State.setFault, State.reg_faultEdge hclear, State.updReg_eq, State.reg_setReg, if_neg hr]

theorem State.bit_setFault {n : Nat} (hn : n < 32) : bit ((s.setFault n).reg .faultStatus) n = true := by
  rw [State.setFault, State.reg_faultEdge (by unfold Reg.clearOf; decide), State.updReg_eq, State.reg_setReg, if_pos rfl]
  exact bit_setBit_same _ hn true

theorem State.pend_setFault {i n : Nat} (h : (s.src i).pend = true) : ((s.setFault n).src i).pend = true :=
  State.pend_raiseIf_kept (s.updReg .faultStatus (fun v => setBit v n true)) _ h

/-- The work of a cluster stops, and the state that it holds of the tasklet becomes invalid. -/
def State.stopOne (t : Nat) (s : State) (c : Nat) : State := (s.updCluster c Cluster.stopWork).spoilPages c (PageId.isState t)

/-- The instance is abandoned, under Report only, once its fault has been reported. -/
theorem State.abandon_solo (h : s.Solo j) (hact : j.active = true) (hnew : j.newBufs = []) :
    ∃ clusters, s.abandon j = { s with clusters := clusters, jobs := [] } ∧
      ∀ c ∈ j.clusters, (Tab.get (fun _ => Cluster.reset) clusters c).phase = .idle := by
  have hstop := s.stopClusters_frame j.clusters
  have hspoil := (s.stopClusters j.clusters).spoilState_frame j.t []
  have habandon : s.abandon j = ((s.stopClusters j.clusters).spoilState j.t []).endJob j := by
    unfold State.abandon
    dsimp only
    rw [hact, hnew, if_pos rfl]
    rfl
  have hsolo : ((s.stopClusters j.clusters).spoilState j.t []).Solo j := by
    generalize ((s.stopClusters j.clusters).spoilState j.t []).clusters = spoilt at hspoil
    generalize (s.stopClusters j.clusters).clusters = stopped at hstop
    rw [hspoil, hstop]
    exact h
  have hphase (c : Nat) (hc : c ∈ j.clusters) : (((s.stopClusters j.clusters).spoilState j.t []).cluster c).phase = .idle := by
    rw [← (State.cluster_stopClusters hc s).1]
    refine State.forEach_part (fun u => (u.cluster c).phase) (g := fun s d => s.spoilPages d (PageId.isState j.t)) (fun u d => ?_) _ _
    unfold State.spoilPages
    rw [State.updCluster_eq, State.cluster_setCluster]
    split
    next hd => rw [hd]
    next => rfl
  refine ⟨((s.stopClusters j.clusters).spoilState j.t []).clusters, ?_, hphase⟩
  rw [habandon, State.endJob_solo hsolo]
  generalize ((s.stopClusters j.clusters).spoilState j.t []).clusters = spoilt at hspoil ⊢
  generalize (s.stopClusters j.clusters).clusters = stopped at hstop
  rw [hspoil, hstop]

theorem State.policyOf_congr {t : State} {n : Nat} (hrecs : t.recs = s.recs) (hreg : ∀ m : Nat, m < 16 → t.reg (.recoveryPolicy m) = s.reg (.recoveryPolicy m)) :
    t.policyOf n = s.policyOf n := by
  have hrec : t.recOf n = s.recOf n := by unfold State.recOf State.recW; rw [hrecs]
  have hclass : (s.recOf n).rclass < 16 := by
    unfold Rec.rclass
    rw [fld_eq_extract]
    exact ((s.recOf n 0).extractLsb' 20 4).isLt
  unfold State.policyOf
  rw [hrec, hreg _ hclass]

theorem State.forEach_nil {α : Type} (s : State) (g : State → α → State) : s.forEach [] g = s := rfl

theorem State.faultJob_report {c cause : Nat} (hact : j.active = true) (hnew : j.newBufs = []) : s.faultJob j c cause =
    State.fenceCharged (State.recover (State.putJob ((s.reportFault j c cause).forEach j.clusters (State.stopOne j.t)) j { j with newBufs := [] })
      { j with newBufs := [] }) (charged j c cause) (s.policyOf j.t) (fld (s.reg (.recoveryPolicy (s.recOf j.t).rclass)) 11 8) := by
  unfold State.faultJob
  dsimp only
  rw [if_pos hact, hnew, State.forEach_nil]
  rfl

/-- What follows the fault of an instance that runs alone, under Report only. -/
theorem State.faultJob_solo {u : State} {c cause : Nat} (hrep : s.reportFault j c cause = u) (hu : u = { s with regs := u.regs, srcs := u.srcs })
    (h : s.Solo j) (hact : j.active = true) (hnew : j.newBufs = []) (hpol : s.policyOf j.t = 0)
    (hreg : ∀ m : Nat, m < 16 → u.reg (.recoveryPolicy m) = s.reg (.recoveryPolicy m)) :
    ∃ halted clusters, s.faultJob j c cause = { State.setFault { u with clusters := halted } 0 with clusters := clusters, jobs := [] } ∧
      ∀ c ∈ j.clusters, (Tab.get (fun _ => Cluster.reset) clusters c).phase = .idle := by
  have hstop : u.forEach j.clusters (State.stopOne j.t) = { u with clusters := (u.forEach j.clusters (State.stopOne j.t)).clusters } :=
    State.forEach_clusters_frame (fun _ _ => rfl) _ u
  generalize (u.forEach j.clusters (State.stopOne j.t)).clusters = halted at hstop
  have hj : { j with newBufs := [] } = j := by rw [← hnew]
  have hpol' : ({ u with clusters := halted } : State).policyOf j.t = 0 :=
    (State.policyOf_congr (s := s) (t := { u with clusters := halted }) (by rw [hu]) hreg).trans hpol
  have hfault : s.faultJob j c cause = (State.setFault { u with clusters := halted } 0).abandon j := by
    have hput := State.putJob_same (s := { u with clusters := halted }) hnew
    rw [State.faultJob_report hact hnew, hrep, hpol, hstop, hput, hj, State.recover, if_pos hpol', State.fenceCharged, if_neg (by decide)]
    rfl
  have hsolo : (State.setFault { u with clusters := halted } 0).Solo j := by
    refine h.congr ?_ ?_ ?_ ?_ <;> (rw [State.setFault_frame, hu])
  obtain ⟨clusters, habandon, hphase⟩ := State.abandon_solo hsolo hact hnew
  exact ⟨halted, clusters, hfault.trans habandon, hphase⟩

theorem State.faultJob_leaves {u : State} {c cause : Nat} (hrep : s.reportFault j c cause = u) (hu : u = { s with regs := u.regs, srcs := u.srcs })
    (h : s.Solo j) (hact : j.active = true) (hnew : j.newBufs = []) (hpol : s.policyOf j.t = 0)
    (hreg : ∀ m : Nat, m < 16 → u.reg (.recoveryPolicy m) = s.reg (.recoveryPolicy m)) : ∃ t, s.faultJob j c cause = t ∧
      t = { s with regs := t.regs, clusters := t.clusters, jobs := t.jobs, srcs := t.srcs } ∧ t.jobs = [] ∧
      (∀ d ∈ j.clusters, (t.cluster d).phase = .idle) ∧ bit (t.reg .faultStatus) 0 = true ∧
      (∀ r : Reg, r.clearOf 442 → r.off ≠ Reg.faultStatus.off → t.reg r = u.reg r) ∧ ∀ i : Nat, (u.src i).pend = true → (t.src i).pend = true := by
  obtain ⟨halted, clusters, hfault, hphase⟩ := State.faultJob_solo hrep hu h hact hnew hpol hreg
  refine ⟨_, hfault, ?_, rfl, hphase, State.bit_setFault (by decide), fun r hclear hr => State.reg_setFault (s := { u with clusters := halted }) 0 hclear hr,
    fun i hi => State.pend_setFault (s := { u with clusters := halted }) hi⟩
  generalize u.regs = regs, u.srcs = srcs at hu
  rw [State.setFault_frame, hu]

/-- The report that every fault of a Checked pair makes (R143). -/
def State.reported (s : State) (j : Job) (cause : Nat) : State :=
  (((((s.raise (4 * j.cl + 2)).bump (.replayCount 0)).chargeFault j.cl).chargeFault (j.cl + 1)).setReg .faultInfo0
    (BitVec.ofNat 32 (cause * 2 ^ 24 + j.cl * 2 ^ 16 + b2n j.replay * 2 ^ 15 + j.t))).setReg .faultInfo1 (BitVec.ofNat 32 j.seq)

theorem State.reported_frame (s : State) (j : Job) (cause : Nat) :
    s.reported j cause = { s with regs := (s.reported j cause).regs, srcs := (s.reported j cause).srcs } :=
  State.ext_parts (by simp [State.reported, State.chargeFault])

theorem State.src_reported (s : State) (j : Job) (cause : Nat) : ((s.reported j cause).src (4 * j.cl + 2)).pend = true := by
  simp [State.reported, State.chargeFault, State.pend_raise]

theorem State.faultInfo_reported (s : State) (j : Job) (cause : Nat) : (s.reported j cause).reg .faultInfo0 =
    BitVec.ofNat 32 (cause * 2 ^ 24 + j.cl * 2 ^ 16 + b2n j.replay * 2 ^ 15 + j.t) := by
  unfold State.reported
  rw [State.reg_setReg, if_neg (by decide), State.reg_setReg, if_pos rfl]

theorem State.policy_reported (hcl : j.cl + 1 < 32) (cause : Nat) {m : Nat} (hm : m < 16) :
    (s.reported j cause).reg (.recoveryPolicy m) = s.reg (.recoveryPolicy m) := by
  unfold State.reported State.chargeFault
  rw [State.reg_setReg, if_neg (by simp only [Reg.off]; omega), State.reg_setReg, if_neg (by simp only [Reg.off]; omega), State.updReg_eq,
    State.reg_setReg, if_neg (by simp only [Reg.off]; omega), State.updReg_eq, State.reg_setReg, if_neg (by simp only [Reg.off]; omega), State.bump,
    State.updReg_eq, State.reg_setReg, if_neg (by simp only [Reg.off]; omega)]
  exact State.reg_raise _ _ (by unfold Reg.clearOf; simp only [Reg.off]; omega)

/-- The report of DIVERGE. -/
def State.diverged (s : State) (j : Job) : State := ((s.reported j 9).raise 436).bump (.replayCount 6)

theorem State.diverged_leaves (s : State) (hcl : j.cl + 1 < 32) : s.diverged j = { s with regs := (s.diverged j).regs, srcs := (s.diverged j).srcs } ∧
    ((s.diverged j).src (4 * j.cl + 2)).pend = true ∧ ((s.diverged j).src 436).pend = true ∧
    (s.diverged j).reg .faultInfo0 = BitVec.ofNat 32 (9 * 2 ^ 24 + j.cl * 2 ^ 16 + b2n j.replay * 2 ^ 15 + j.t) ∧
    ∀ m : Nat, m < 16 → (s.diverged j).reg (.recoveryPolicy m) = s.reg (.recoveryPolicy m) := by
  refine ⟨State.ext_parts (by simp [State.diverged, State.reported, State.chargeFault]), State.pend_raise_kept (s.reported j 9) (s.src_reported j 9),
    State.pend_raise (s.reported j 9) 436, ?_, fun m hm => ?_⟩
  · rw [State.diverged, State.bump, State.updReg_eq, State.reg_setReg, if_neg (by decide), State.reg_raise _ _ (by unfold Reg.clearOf; decide),
      State.faultInfo_reported]
  · rw [State.diverged, State.bump, State.updReg_eq, State.reg_setReg, if_neg (by simp only [Reg.off]; omega),
      State.reg_raise _ _ (by unfold Reg.clearOf; simp only [Reg.off]; omega), State.policy_reported hcl 9 hm]

theorem State.reportFault_diverge (hch : j.checked = true) (c : Nat) :
    s.reportFault j c cDiverge = s.diverged j := by
  have hcharged : charged j c cDiverge = [j.cl, j.cl + 1] := if_pos ⟨.inr rfl, hch⟩
  unfold State.reportFault
  rw [hcharged]
  rfl

/-- The signatures are latched, with their final XOR. -/
def State.latchSigs (s : State) (e o : BitVec 64) : State :=
  (((s.setReg (.sigReg 0) (e.setWidth 32)).setReg (.sigReg 1) ((e >>> 32).setWidth 32)).setReg (.sigReg 2) (o.setWidth 32)).setReg (.sigReg 3)
    ((o >>> 32).setWidth 32)

theorem halves_append (v : BitVec 64) : ((v >>> 32).setWidth 32 ++ v.setWidth 32 : BitVec 64) = v := by
  refine BitVec.eq_of_getLsbD_eq fun i hi => ?_
  rw [BitVec.getLsbD_append]
  by_cases h : i < 32
  · simp [h]
  · have hin : 32 + (i - 32) = i := by omega
    have hlt : i - 32 < 32 := by omega
    simp [h, hin, hlt]

theorem State.reg_latchSigs (s : State) (e o : BitVec 64) :
    ((s.latchSigs e o).reg (.sigReg 1) ++ (s.latchSigs e o).reg (.sigReg 0) : BitVec 64) = e ∧
      ((s.latchSigs e o).reg (.sigReg 3) ++ (s.latchSigs e o).reg (.sigReg 2) : BitVec 64) = o := by
  constructor
  · refine Eq.trans ?_ (halves_append e)
    simp [State.latchSigs, Reg.off]
  · refine Eq.trans ?_ (halves_append o)
    simp [State.latchSigs, Reg.off]

theorem State.reg_latchSigs_other {r : Reg} (hr : r.off < 0x8108) (e o : BitVec 64) : (s.latchSigs e o).reg r = s.reg r := by
  unfold State.latchSigs
  have hne (n : Nat) : r.off ≠ (Reg.sigReg n).off := by
    have hoff : (Reg.sigReg n).off = 0x8108 + 4 * n := rfl
    omega
  rw [State.reg_setReg, if_neg (hne 3), State.reg_setReg, if_neg (hne 2), State.reg_setReg, if_neg (hne 1), State.reg_setReg, if_neg (hne 0)]

theorem State.src_latchSigs (s : State) (e o : BitVec 64) (i : Nat) : (s.latchSigs e o).src i = s.src i := by simp [State.latchSigs]

/-- The report of SIGNATURE. -/
def State.signed (s : State) (j : Job) (e o : BitVec 64) : State := (((s.reported j 8).raise 435).bump (.replayCount 5)).latchSigs e o

theorem State.signed_leaves (s : State) (hcl : j.cl + 1 < 32) (e o : BitVec 64) :
    s.signed j e o = { s with regs := (s.signed j e o).regs, srcs := (s.signed j e o).srcs } ∧
    ((s.signed j e o).src (4 * j.cl + 2)).pend = true ∧ ((s.signed j e o).src 435).pend = true ∧
    (s.signed j e o).reg .faultInfo0 = BitVec.ofNat 32 (8 * 2 ^ 24 + j.cl * 2 ^ 16 + b2n j.replay * 2 ^ 15 + j.t) ∧
    ∀ m : Nat, m < 16 → (s.signed j e o).reg (.recoveryPolicy m) = s.reg (.recoveryPolicy m) := by
  refine ⟨State.ext_parts (by simp [State.signed, State.latchSigs, State.reported, State.chargeFault]),
    ?_, ?_, ?_, fun m hm => ?_⟩
  · rw [State.signed, State.src_latchSigs]
    exact State.pend_raise_kept (s.reported j 8) (s.src_reported j 8)
  · rw [State.signed, State.src_latchSigs]
    exact State.pend_raise (s.reported j 8) 435
  · rw [State.signed, State.reg_latchSigs_other (by decide), State.bump, State.updReg_eq, State.reg_setReg, if_neg (by decide),
      State.reg_raise _ _ (by unfold Reg.clearOf; decide), State.faultInfo_reported]
  · rw [State.signed, State.reg_latchSigs_other (by simp only [Reg.off]; omega), State.bump, State.updReg_eq, State.reg_setReg,
      if_neg (by simp only [Reg.off]; omega), State.reg_raise _ _ (by unfold Reg.clearOf; simp only [Reg.off]; omega), State.policy_reported hcl 8 hm]

theorem State.reportFault_signature (hch : j.checked = true) (c : Nat) : s.reportFault j c cSignature =
    s.signed j (~~~(s.cluster j.cl).sig) (~~~(s.cluster (j.cl + 1)).sig) := by
  have hcharged : charged j c cSignature = [j.cl, j.cl + 1] := if_pos ⟨.inl rfl, hch⟩
  unfold State.reportFault
  rw [hcharged]
  rfl

end

/-- Settles O47: release, drop, commit and publication, and the fault of a Checked pair that disagrees. -/
theorem instanceLife : Obligations.InstanceLife := by
  unfold Obligations.InstanceLife
  refine ⟨fun tk c n j s => ?_, fun c j s => ?_⟩
  · intro r q x quiet mine
    refine ⟨fun htime => ?_, fun hrun htime hin hbe hgen => ⟨fun hmine => ?_, fun hmine => ?_, fun hmine hnone => ?_⟩, fun hall => ?_,
      fun hq hj hguar hact => ?_, fun hphase hjob hch hcl => ?_, fun hq hjob hch hcl hphase hout => ⟨fun hwords => ?_, fun hwords hbad hon => ?_⟩,
      fun hq hjob hch hcl hphase hout hrep => ?_, fun hphase => ?_⟩
    · exact congrArg Host.Outcome.next (by rw [htime])
    · obtain ⟨hframe, hsix, -, hlast, hstart, hrec⟩ := s.released_leaves tk n
      refine ⟨_, (congrArg Host.Outcome.next (by rw [htime])).trans (congrArg Host.Outcome.next (State.release_first ⟨hrun, hin, hbe, hgen⟩ hmine)),
        ?_, rfl, hsix, hlast, hstart, hrec, ?_, ?_⟩
      · rw [hframe]
      · rw [hframe]
      · rw [hframe]
    · refine ⟨_, (congrArg Host.Outcome.next (by rw [htime])).trans (congrArg Host.Outcome.next (State.release_overrun hrun hmine)),
        State.ext_parts (by simp), by simp, State.pend_raise s 354, ?_, by simp⟩
      have hcount : (s.raise 354).reg (.dspCount 2) = s.reg (.dspCount 2) := State.reg_raise _ _ (by unfold Reg.clearOf; decide)
      rw [← hcount]
      exact (s.raise 354).reg_bump_self _
    · obtain ⟨hframe, hpend, hcount⟩ := s.deferred_leaves tk n
      refine ⟨_, (congrArg Host.Outcome.next (by rw [htime])).trans
        (congrArg Host.Outcome.next (State.release_deferred ⟨hrun, hin, hbe, hgen⟩ hmine hnone)), hframe, ?_, ?_, hpend, hcount⟩
      · rw [State.jobs_deferred]; simp
      · rw [State.jobs_deferred]; simp [State.newJob]
    · refine congrArg Host.Outcome.next ?_
      have hfind : s.jobs.find? (fun i => decide (i.t = tk.val) && !i.guaranteed && !i.active) = none :=
        List.find?_eq_none.mpr fun i hi => by
          have hone := List.all_eq_true.mp hall i hi
          simp only [Bool.or_eq_true, decide_eq_true_eq] at hone
          rcases hone with (ht | hg) | ha
          · simp [ht]
          · simp [hg]
          · simp [ha]
      rw [hfind]
    · have hfind : s.jobs.find? (fun i => decide (i.t = tk.val) && !i.guaranteed && !i.active) = some j := by
        rw [hq.1, List.find?_cons_of_pos]
        simp [hj, hguar, hact]
      have hsolo : s.Solo j := by
        obtain ⟨hjobs, hpins, -, hgen, hrem, hstops⟩ := hq
        exact ⟨hjobs, hpins, hgen, hrem, hstops⟩
      refine ⟨_, (congrArg Host.Outcome.next (by rw [hfind])).trans (congrArg Host.Outcome.next (State.dropJob_solo hsolo)), State.ext_parts (by simp), rfl,
        State.pend_raise s 356, ?_, by simp, by simp⟩
      have hcount : (s.raise 356).reg (.dspCount 4) = s.reg (.dspCount 4) := State.reg_raise _ _ (by unfold Reg.clearOf; decide)
      rw [← hcount]
      exact (s.raise 356).reg_bump_self _
    · refine congrArg Host.Outcome.next ((State.commit_jobOn hjob).trans (if_neg ?_))
      rw [Job.clusters_single hch, hcl]
      simpa using hphase
    · obtain ⟨-, -, hnew, -⟩ := hq
      have hended : j.clusters.all (fun d => decide ((s.cluster d).phase = .ended)) = true := by
        rw [Job.clusters_single hch, hcl]; simpa using hphase
      have hstate : s.commitState j = (s, true) := by
        have hnone : s.stateWordsAt j = [] := by
          unfold State.stateWordsAt
          dsimp only
          rw [show (s.recOf j.t).stateWords = 0 from hwords]
          rfl
        unfold State.commitState
        rw [hnone]
        rfl
      have hjobc := State.commitJob_single hch hout hnew hstate
      rw [hcl] at hjobc
      exact congrArg Host.Outcome.next ((State.commit_jobOn hjob).trans ((if_pos hended).trans hjobc))
    · obtain ⟨-, -, hnew, -⟩ := hq
      have hended : j.clusters.all (fun d => decide ((s.cluster d).phase = .ended)) = true := by
        rw [Job.clusters_single hch, hcl]; simpa using hphase
      have hcopy : q.ckptAddr + (if q.ckpt then 0 else classSize q.ckptClass / 2) = q.copyAt (!q.ckpt) := by
        unfold Rec.copyAt
        cases q.ckpt <;> rfl
      have hbad' : (s.cluster j.cl).bad = [] := by rw [hcl]; exact hbad
      obtain ⟨storeBad, hstate⟩ := State.commitState_clean hbad' hcopy hon
      have hjobc := State.commitJob_single hch hout hnew hstate
      refine ⟨_, congrArg Host.Outcome.next ((State.commit_jobOn hjob).trans ((if_pos hended).trans hjobc)), rfl, ?_, rfl, rfl, ?_⟩
      · rw [hcl, State.cluster_setCluster, if_pos rfl]
      · rw [hcl]
        exact congrArg (Memory.writeList s.store _) (List.flatMap_map ..)
    · obtain ⟨hjobs, hpins, hnew, hgen, hrem, hstops⟩ := hq
      have hsolo : s.Solo j := ⟨hjobs, hpins, hgen, hrem, hstops⟩
      have hpub : exec (.commitPublication c) s = .next ((s.published j).endJob j) :=
        congrArg Host.Outcome.next ((State.publication_jobOn hjob).trans ((if_pos (by simpa using hphase)).trans (State.publish_noOutput hout hrep)))
      obtain ⟨u, hu, hframe, h56, h61, hseven, hlate, htime⟩ := s.publishRecord_leaves j
      have hpubf := s.published_frame j
      have hcl32 : j.cl < 32 := by rw [hcl]; exact c.isLt
      have hrecs (w : Nat) : ({ s.published j with jobs := [] } : State).recOf j.t w = u.recOf j.t w := by
        rw [← hu, hpubf]
        rfl
      have hphases : ((s.published j).cluster c).phase = .idle ∧ ((s.published j).cluster c).job = none :=
        State.cluster_stopClusters (by rw [Job.clusters_single hch, hcl]; exact List.mem_singleton_self _) _
      rw [hu, hframe] at hpubf
      have hsolo' : (s.published j).Solo j := hsolo.congr (by rw [hpubf]) (by rw [hpubf]) (by rw [hpubf]) (by rw [hpubf])
      rw [State.endJob_solo hsolo'] at hpub
      have hcount {n : Nat} (hn : n < 8) := State.reg_published (s := s) hcl32 hn
      refine ⟨_, hpub, ?_, rfl, hphases.1, hphases.2, ?_, ?_, (hrecs 61).trans h61, ?_, ?_, ?_, fun h => ⟨?_, ?_⟩, fun h => ⟨?_, ?_⟩⟩
      · rw [hpubf]
      · rw [hrecs, h56, bit_setFld_other _ (by decide) (by decide) (by decide)]
        exact bit_setBit_same _ (by decide) _
      · have hlast : fld (u.recOf j.t 56) 20 16 = c := by
          rw [h56, fld_setFld_same _ (by decide) (by decide), hcl]
          exact Nat.mod_eq_of_lt c.isLt
        exact (congrArg (fun w => fld w 20 16) (hrecs 56)).trans hlast
      · exact State.src_published (.inl (by rw [hcl]))
      · refine (hcount (by decide)).trans ?_
        rw [if_pos rfl, hu, hseven]
      · rw [hpubf]
      · exact State.src_published (.inr (by rw [hu]; exact (hlate h).1))
      · refine (hcount (by decide)).trans ?_
        rw [if_neg (by decide), hu]
        exact (hlate h).2
      · refine (hcount (by decide)).trans ?_
        rw [if_neg (by decide), hu]
        exact (htime h).1
      · exact (hrecs 62).trans (htime h).2
    · refine congrArg Host.Outcome.next ?_
      unfold State.publication
      cases s.jobOn c with
      | none => rfl
      | some i => exact if_neg (by simpa using hphase)
  · intro x y hjob hjobs hch hact hcl heven hx hy hpol hpins hnew hgen hrem hstops hdiff
    have hsolo : s.Solo j := ⟨hjobs, hpins, hgen, hrem, hstops⟩
    have hcl1 : j.cl + 1 < 32 := by have := c.isLt; omega
    have hended : j.clusters.all (fun d => decide ((s.cluster d).phase = .ended)) = true := by
      have hx' : (s.cluster c).phase = .ended := hx
      have hy' : (s.cluster (c.val + 1)).phase = .ended := hy
      rw [Job.clusters_pair hch, hcl]
      simp [hx', hy']
    have hcommit : exec (.commit c) s = .next (s.commitJob j) := congrArg Host.Outcome.next ((State.commit_jobOn hjob).trans (if_pos hended))
    have hmem : c.val ∈ j.clusters ∧ c.val + 1 ∈ j.clusters := by rw [Job.clusters_pair hch, hcl]; simp
    have hinfo : Reg.faultInfo0.clearOf 442 ∧ Reg.faultInfo0.off ≠ Reg.faultStatus.off := by unfold Reg.clearOf; decide
    by_cases hcyc : x.cycle = y.cycle
    · have hsig : x.sig ≠ y.sig := hdiff.resolve_left (not_not_intro hcyc)
      have hfault : s.commitJob j = s.faultJob j j.cl cSignature := by
        unfold State.commitJob
        dsimp only
        rw [hch, hcl, if_neg (by simpa using hcyc), if_pos (by simpa using hsig)]
      obtain ⟨huframe, hudet, hucause, huinfo, hupolicy⟩ := s.signed_leaves hcl1 (~~~(s.cluster j.cl).sig) (~~~(s.cluster (j.cl + 1)).sig)
      obtain ⟨t, ht, hframe, hnone, hidle, hbit, hreg, hsrc⟩ :=
        State.faultJob_leaves (State.reportFault_signature hch j.cl) huframe hsolo hact hnew hpol hupolicy
      refine ⟨t, hcommit.trans (congrArg _ (hfault.trans ht)), hframe, hnone, by rw [hframe], by rw [hframe], hidle _ hmem.1, hidle _ hmem.2, ?_, ?_, ?_, hbit, fun _ => ?_⟩
      · rw [hreg _ hinfo.1 hinfo.2, huinfo, hcl, if_neg (not_not_intro hcyc)]
      · rw [← hcl]
        exact hsrc _ hudet
      · rw [if_neg (not_not_intro hcyc)]
        exact hsrc _ hucause
      · have hword {n : Nat} (hn : n < 4) : t.reg (.sigReg n) = (s.signed j (~~~(s.cluster j.cl).sig) (~~~(s.cluster (j.cl + 1)).sig)).reg (.sigReg n) :=
          hreg _ (by unfold Reg.clearOf; simp only [Reg.off]; omega) (by simp only [Reg.off]; omega)
        rw [hword (by decide), hword (by decide), hword (by decide), hword (by decide), hcl]
        exact State.reg_latchSigs ..
    · have hfault : s.commitJob j = s.faultJob j j.cl cDiverge := by
        unfold State.commitJob
        dsimp only
        rw [hch, hcl, if_pos (by simpa using hcyc)]
      obtain ⟨huframe, hudet, hucause, huinfo, hupolicy⟩ := s.diverged_leaves hcl1
      obtain ⟨t, ht, hframe, hnone, hidle, hbit, hreg, hsrc⟩ :=
        State.faultJob_leaves (State.reportFault_diverge hch j.cl) huframe hsolo hact hnew hpol hupolicy
      refine ⟨t, hcommit.trans (congrArg _ (hfault.trans ht)), hframe, hnone, by rw [hframe], by rw [hframe], hidle _ hmem.1, hidle _ hmem.2, ?_, ?_, ?_, hbit,
        fun h => absurd h hcyc⟩
      · rw [hreg _ hinfo.1 hinfo.2, huinfo, hcl, if_pos hcyc]
      · rw [← hcl]
        exact hsrc _ hudet
      · rw [if_pos hcyc]
        exact hsrc _ hucause

end Sys2Proof.Machine
end

section
/-!
PROOF. Proofs/PrivilegeMark.lean: what R249 speaks of, K of every core's ST and the clearing of the Ridge's memories, as one mark of a
state; a shared operation that neither writes a K nor starts or ends that clearing leaves the mark.
-/
namespace Sys2Proof.Machine

/-- K of each core of a bank. -/
def coreKs (cores : Tab Core) : Nat → Bool := fun k => bit (Tab.get Core.reset cores k).st 6

/-- The privilege mark: K of every core, and whether the Ridge is held while its memories are cleared. -/
def State.mark (s : State) : (Nat → Bool) × Bool := (coreKs s.cores, s.ridge.clearing)

@[simp] theorem State.mark_mk a0 a1 a2 a3 a4 a5 a6 a7 a8 a9 a10 a11 a12 a13 a14 a15 a16 a17 a18 a19 a20 a21 a22 a23 a24 a25 a26
    a27 a28 a29 a30 a31 a32 a33 a34 a35 a36 a37 a38 a39 a40 a41 a42 a43 a44 a45 a46 : State.mark (State.mk a0 a1 a2 a3 a4 a5 a6 a7
    a8 a9 a10 a11 a12 a13 a14 a15 a16 a17 a18 a19 a20 a21 a22 a23 a24 a25 a26 a27 a28 a29 a30 a31 a32 a33 a34 a35 a36 a37 a38 a39
    a40 a41 a42 a43 a44 a45 a46) = (coreKs a28, a29.clearing) := by
  rw [State.mark]

@[simp] theorem State.coreKs_eq (s : State) : coreKs s.cores = s.mark.1 := by rw [State.mark]

@[simp] theorem State.clearing_eq (s : State) : s.ridge.clearing = s.mark.2 := by rw [State.mark]

@[simp] theorem Core.kept_eq (c : Core) : c.kept = bit c.st 6 := by rw [Core.kept]

@[simp] theorem State.core_k (s : State) (k : Nat) : bit (s.core k).st 6 = s.mark.1 k := by
  rw [State.mark, State.core]
  rfl

@[simp] theorem State.setCore_mark {s : State} {k : Nat} {v : Core} (h : bit v.st 6 = s.mark.1 k) : (s.setCore k v).mark = s.mark := by
  refine Prod.ext (funext fun j => ?_) rfl
  show bit ((s.setCore k v).core j).st 6 = s.mark.1 j
  rw [State.core_setCore]
  split
  · next hj => rw [h, hj]
  · rfl

@[simp] theorem ite_mark (c : Prop) [Decidable c] (a b : State) :
    (if c then a else b).mark = if c then a.mark else b.mark := apply_ite _ _ _ _

@[simp] theorem State.forEach_mark {α : Type} {s : State} {l : List α} {g : State → α → State}
    (hg : ∀ s x, (g s x).mark = s.mark) : (s.forEach l g).mark = s.mark := by
  unfold State.forEach
  induction l generalizing s with
  | nil => rfl
  | cons x l ih => exact (ih (s := g s x)).trans (hg s x)

@[simp] theorem foldl_mark {α : Type} {s : State} {l : List α} {g : State → α → State}
    (hg : ∀ s x, (g s x).mark = s.mark) : (l.foldl g s).mark = s.mark := by
  induction l generalizing s with
  | nil => rfl
  | cons x l ih => exact (ih (s := g s x)).trans (hg s x)

@[simp] theorem foldl_fst_mark {α β : Type} {x : State × β} {l : List α} {g : State × β → α → State × β}
    (hg : ∀ x y, (g x y).1.mark = x.1.mark) : (l.foldl g x).1.mark = x.1.mark := by
  induction l generalizing x with
  | nil => rfl
  | cons y l ih => exact (ih (x := g x y)).trans (hg x y)

theorem mark_of_pair {β : Type} {x : State × β} {s : State} {b : β} {m : (Nat → Bool) × Bool} (h : x = (s, b)) (hx : x.1.mark = m) :
    s.mark = m := by
  rw [← hx, h]

@[simp] theorem State.setReg_mark (s : State) (r : Reg) (v : W32) : (s.setReg r v).mark = s.mark := by
  rw [State.mark, State.setReg, State.mark]

@[simp] theorem ite_st (c : Prop) [Decidable c] (a b : Core) : (if c then a else b).st = if c then a.st else b.st := apply_ite _ _ _ _

@[simp] theorem ite_fst {α β : Type} (c : Prop) [Decidable c] (a b : α × β) : (if c then a else b).1 = if c then a.1 else b.1 :=
  apply_ite _ _ _ _

@[simp] theorem bit_setBit_k (x : Byte) {n : Nat} (h : 6 ≠ n) (b : Bool) : bit (setBit x n b) 6 = bit x 6 :=
  bit_setBit_other x (by decide) h b

@[simp] theorem Core.setVAt_st (c : Core) (sh : Bool) (n : Nat) (b : Byte) : (c.setVAt sh n b).st = c.st := by
  unfold Core.setVAt
  split <;> rfl

@[simp] theorem Core.setV_st (c : Core) (n : Nat) (b : Byte) : (c.setV n b).st = c.st := c.setVAt_st _ n b

@[simp] theorem Core.progPoke_st (c : Core) (a : Nat) (w : W12) : (c.progPoke a w).st = c.st := rfl

@[simp] theorem Core.dataPoke_st (c : Core) (a : Nat) (b : Byte) : (c.dataPoke a b).st = c.st := rfl

@[simp] theorem Core.takeImage_st (c : Core) (im : List Byte) : (c.takeImage im).st = c.st := rfl

@[simp] theorem Core.prefetch_st (c : Core) (p : Prefetch) : (c.prefetch p).st = c.st := rfl

@[simp] theorem Core.setExc_st (c : Core) (v detail addr : Nat) : (c.setExc v detail addr).st = c.st := rfl

@[simp] theorem State.setCluster_mark (s : State) (k : Nat) (v : Cluster) : (s.setCluster k v).mark = s.mark := by simp [State.setCluster]

@[simp] theorem State.updCluster_mark (s : State) (k : Nat) (g : Cluster → Cluster) : (s.updCluster k g).mark = s.mark := by
  simp [State.updCluster]

@[simp] theorem State.setRecW_mark (s : State) (k : Nat) (v : W32) : (s.setRecW k v).mark = s.mark := by simp [State.setRecW]

@[simp] theorem State.setTask_mark (s : State) (k : Nat) (v : Task) : (s.setTask k v).mark = s.mark := by simp [State.setTask]

@[simp] theorem State.setInSlot_mark (s : State) (k : Nat) (v : Slot) : (s.setInSlot k v).mark = s.mark := by simp [State.setInSlot]

@[simp] theorem State.setOutSlot_mark (s : State) (k : Nat) (v : Slot) : (s.setOutSlot k v).mark = s.mark := by simp [State.setOutSlot]

@[simp] theorem State.setIntSlot_mark (s : State) (k : Nat) (v : Slot) : (s.setIntSlot k v).mark = s.mark := by simp [State.setIntSlot]

@[simp] theorem State.setCls_mark (s : State) (k : Nat) (v : AllocClass) : (s.setCls k v).mark = s.mark := by simp [State.setCls]

@[simp] theorem State.setCalW_mark (s : State) (k : Nat) (v : W32) : (s.setCalW k v).mark = s.mark := by simp [State.setCalW]

@[simp] theorem State.setCalSlot_mark (s : State) (k : Nat) (v : CalSlot) : (s.setCalSlot k v).mark = s.mark := by simp [State.setCalSlot]

@[simp] theorem State.setGen_mark (s : State) (k : Nat) (v : Gen) : (s.setGen k v).mark = s.mark := by simp [State.setGen]

@[simp] theorem State.setLineW_mark (s : State) (k : Nat) (v : W32) : (s.setLineW k v).mark = s.mark := by simp [State.setLineW]

@[simp] theorem State.setPartW_mark (s : State) (k : Nat) (v : W32) : (s.setPartW k v).mark = s.mark := by simp [State.setPartW]

@[simp] theorem State.setLane_mark (s : State) (k : Nat) (v : Lane) : (s.setLane k v).mark = s.mark := by simp [State.setLane]

@[simp] theorem State.updLane_mark (s : State) (k : Nat) (g : Lane → Lane) : (s.updLane k g).mark = s.mark := by simp [State.updLane]

@[simp] theorem State.setPartner_mark (s : State) (k : Nat) (v : Partner) : (s.setPartner k v).mark = s.mark := by simp [State.setPartner]

@[simp] theorem State.setSq_mark (s : State) (k : Nat) (v : Sq) : (s.setSq k v).mark = s.mark := by simp [State.setSq]

@[simp] theorem State.setCq_mark (s : State) (k : Nat) (v : Cq) : (s.setCq k v).mark = s.mark := by simp [State.setCq]

@[simp] theorem State.setSrc_mark (s : State) (k : Nat) (v : Src) : (s.setSrc k v).mark = s.mark := by simp [State.setSrc]

@[simp] theorem State.setStack_mark (s : State) (k : Nat) (v : List (Nat × Nat)) : (s.setStack k v).mark = s.mark := by
  simp [State.setStack]

@[simp] theorem State.setClaimed_mark (s : State) (k : Nat) (v : Option Nat) : (s.setClaimed k v).mark = s.mark := by
  simp [State.setClaimed]

@[simp] theorem State.setDma_mark (s : State) (k : Nat) (v : Dma) : (s.setDma k v).mark = s.mark := by simp [State.setDma]

@[simp] theorem State.setLatch_mark (s : State) (k : Nat) (v : W64) : (s.setLatch k v).mark = s.mark := by simp [State.setLatch]

@[simp] theorem State.setDom_mark (s : State) (k : Nat) (v : Dom) : (s.setDom k v).mark = s.mark := by simp [State.setDom]

@[simp] theorem State.setScr_mark (s : State) (k : Nat) (v : Scrub) : (s.setScr k v).mark = s.mark := by simp [State.setScr]

@[simp] theorem State.emit_mark (s : State) (e : Emit) : (s.emit e).mark = s.mark := by simp [State.emit]

@[simp] theorem State.setClearing_mark (s : State) (d : Nat) (b : Bool) : (s.setClearing d b).mark = s.mark := by simp [State.setClearing]

@[simp] theorem State.edge_mark (s : State) (i : Nat) : (s.edge i).mark = s.mark := by simp [State.edge]

@[simp] theorem State.undeliverable_mark (s : State) (i : Nat) : (s.undeliverable i).mark = s.mark := by simp [State.undeliverable]

@[simp] theorem State.raise_mark (s : State) (i : Nat) : (s.raise i).mark = s.mark := by simp [State.raise]

@[simp] theorem State.raiseIf_mark (s : State) (b : Bool) (i : Nat) : (s.raiseIf b i).mark = s.mark := by simp [State.raiseIf]

@[simp] theorem State.faultEdge_mark (old s : State) : (State.faultEdge old s).mark = s.mark := by simp [State.faultEdge]

@[simp] theorem State.ridgeDown_mark (s : State) : s.ridgeDown.mark = s.mark := by simp [State.ridgeDown]

@[simp] theorem State.setFault_mark (s : State) (n : Nat) : (s.setFault n).mark = s.mark := by simp [State.setFault]

@[simp] theorem State.uncorrectable_mark (s : State) : s.uncorrectable.mark = s.mark := by simp [State.uncorrectable]

@[simp] theorem State.corrected_mark (s : State) (k : Nat) : (s.corrected k).mark = s.mark := by simp [State.corrected]

@[simp] theorem State.decodeError_mark (s : State) (addr master : Nat) (wr : Bool) : (s.decodeError addr master wr).mark = s.mark := by
  simp [State.decodeError]

@[simp] theorem State.usedHost_mark (s : State) : s.usedHost.mark = s.mark := by simp [State.usedHost]

@[simp] theorem State.hostWrite_mark (s : State) (a : Nat) (bs : List Byte) :
    (s.hostWrite a bs).mark = s.mark := by simp [State.hostWrite]

@[simp] theorem State.storeWrite_mark (s : State) (off : Nat) (bs : List Byte) : (s.storeWrite off bs).mark = s.mark := by
  simp [State.storeWrite]

@[simp] theorem State.storeError_mark (s : State) (a : Nat) : (s.storeError a).mark = s.mark := by simp [State.storeError]

@[simp] theorem State.storeChecked_mark (s : State) (off n : Nat) : (s.storeChecked off n).mark = s.mark := by
  unfold State.storeChecked
  (repeat' split) <;> simp

@[simp] theorem State.busWrite_mark (s : State) (master off : Nat) (bs : List Byte) : (s.busWrite master off bs).1.mark = s.mark := by
  simp [State.busWrite]

@[simp] theorem State.freeNext_mark (s : State) : s.freeNext.1.mark = s.mark := by simp [State.freeNext]

@[simp] theorem State.setCls_low_mark (s : State) (k : Nat) (a : AllocClass) : (s.setCls_low k a).mark = s.mark := by
  simp [State.setCls_low]

@[simp] theorem State.allocMiss_mark (s : State) (k : Nat) : (s.allocMiss k).mark = s.mark := by simp [State.allocMiss]

@[simp] theorem State.allocTake_mark (s : State) (k : Nat) (h : Holder) : (s.allocTake k h).mark = s.mark := by
  unfold State.allocTake
  (repeat' split) <;> simp

@[simp] theorem State.allocFree_mark (s : State) (k b : Nat) : (s.allocFree k b).mark = s.mark := by simp [State.allocFree]

@[simp] theorem State.reclaim_mark (s : State) (b : Nat) : (s.reclaim b).mark = s.mark := by
  unfold State.reclaim
  (repeat' split) <;> simp

@[simp] theorem State.reclaimAll_mark (s : State) (bs : List (Option Nat)) : (s.reclaimAll bs).mark = s.mark := by
  refine State.forEach_mark fun s b => ?_
  split <;> simp

@[simp] theorem State.unreserve_mark (s : State) (k : Nat) (h : Holder) (n : Nat) : (s.unreserve k h n).mark = s.mark := by
  simp [State.unreserve]

@[simp] theorem State.resetRegs_mark (s : State) (p : Nat → Bool) : (s.resetRegs p).mark = s.mark := by simp [State.resetRegs]

@[simp] theorem State.aer_mark (s : State) (b : Nat) : (s.aer b).mark = s.mark := by simp [State.aer]

@[simp] theorem State.sendMsix_mark (s : State) (v : Nat) : (s.sendMsix v).mark = s.mark := by simp [State.sendMsix]

@[simp] theorem State.setPba_mark (s : State) (v : Nat) : (s.setPba v).mark = s.mark := by simp [State.setPba]

@[simp] theorem State.signal_mark (s : State) (v : Nat) : (s.signal v).mark = s.mark := by simp [State.signal]

@[simp] theorem State.flushPba_mark (s : State) : s.flushPba.mark = s.mark := by simp [State.flushPba]

@[simp] theorem State.ringWrite_mark (s : State) (k : Nat) (e : List Byte) : (s.ringWrite k e).mark = s.mark := by simp [State.ringWrite]

@[simp] theorem State.cqSignal_mark (s : State) (k : Nat) : (s.cqSignal k).mark = s.mark := by simp [State.cqSignal]

@[simp] theorem State.moderate_mark (s : State) (k : Nat) : (s.moderate k).mark = s.mark := by simp [State.moderate]

@[simp] theorem State.moderateIf_mark (s : State) (now : Bool) (k : Nat) :
    (s.moderateIf now k).mark = s.mark := by simp [State.moderateIf]

@[simp] theorem State.cqPut_mark (s : State) (now : Bool) (k : Nat) (e : List Byte) : (s.cqPut now k e).mark = s.mark := by
  simp [State.cqPut]

@[simp] theorem State.postCompletion_mark (s : State) (k : Nat) (e : List Byte) : (s.postCompletion k e).mark = s.mark := by
  simp [State.postCompletion]

@[simp] theorem State.cqDrain_mark (now : Bool) (k n : Nat) (s : State) : (s.cqDrain now k n).mark = s.mark := by
  induction n generalizing s with
  | zero => rfl
  | succ n ih =>
    unfold State.cqDrain
    dsimp only
    split
    · simp
    · simp [ih]

@[simp] theorem State.evSignal_mark (s : State) (v : Option Nat) : (s.evSignal v).mark = s.mark := by
  cases v <;> simp [State.evSignal]

@[simp] theorem State.evDrop_mark (s : State) (e : EvEntry) : (s.evDrop e).mark = s.mark := by
  unfold State.evDrop
  (repeat' split) <;> simp

@[simp] theorem State.evWrite_mark (s : State) (e : EvEntry) : (s.evWrite e).mark = s.mark := by simp [State.evWrite]

@[simp] theorem State.evPut_mark (s : State) (e : EvEntry) : (s.evPut e).mark = s.mark := by simp [State.evPut]

@[simp] theorem State.postEvent_mark (s : State) (e : EvEntry) : (s.postEvent e).mark = s.mark := by simp [State.postEvent]

@[simp] theorem State.cqRoom_mark (s : State) (now : Bool) (k : Nat) : (s.cqRoom now k).mark = s.mark := by simp [State.cqRoom]

@[simp] theorem State.moderateN_mark (s : State) (k n : Nat) : (s.moderateN k n).mark = s.mark := by simp [State.moderateN]

@[simp] theorem State.releaseHeld_mark (s : State) : s.releaseHeld.mark = s.mark := by simp [State.releaseHeld]

@[simp] theorem State.countEnd_mark (s : State) (st : Status) : (s.countEnd st).mark = s.mark := by
  unfold State.countEnd
  (repeat' split) <;> simp

@[simp] theorem State.stopQueue_mark (s : State) (q why : Nat) : (s.stopQueue q why).mark = s.mark := by simp [State.stopQueue]

@[simp] theorem State.endSegment_mark (s : State) (q at_ cid index : Nat) (st : Status) (result : Nat) :
    (s.endSegment q at_ cid index st result).mark = s.mark := by
  unfold State.endSegment
  dsimp only
  (repeat' split) <;> simp

@[simp] theorem State.finish_mark (s : State) (q : Nat) (st : Status) (result : Nat) : (s.finish q st result).mark = s.mark := by
  unfold State.finish
  dsimp only
  (repeat' split) <;> simp

@[simp] theorem State.wait_mark (s : State) (q : Nat) : (s.wait q).mark = s.mark := by simp [State.wait]

@[simp] theorem State.finishWaiting_mark (s : State) (q op : Nat) (st : Status) (result : Nat) :
    (s.finishWaiting q op st result).mark = s.mark := by
  simp [State.finishWaiting]

@[simp] theorem State.setRecOf_mark (s : State) (t w : Nat) (v : W32) : (s.setRecOf t w v).mark = s.mark := by simp [State.setRecOf]

@[simp] theorem State.setSlotOf_mark (s : State) (h : Holder) (v : Slot) : (s.setSlotOf h v).mark = s.mark := by
  unfold State.setSlotOf
  (repeat' split) <;> simp

@[simp] theorem State.addResv_mark (s : State) (l : List (Nat × Holder × Nat)) : (s.addResv l).mark = s.mark := by simp [State.addResv]

@[simp] theorem State.dropResv_mark (s : State) (l : List (Nat × Holder × Nat)) : (s.dropResv l).mark = s.mark := by
  refine State.forEach_mark fun s x => ?_
  split <;> simp

@[simp] theorem State.dropPages_mark (s : State) (c : Nat) (g : PageId → Bool) : (s.dropPages c g).mark = s.mark := by
  simp [State.dropPages]

@[simp] theorem State.freeGen_mark (s : State) (i : Nat) : (s.freeGen i).mark = s.mark := by simp [State.freeGen]

@[simp] theorem State.promoteGen_mark (s : State) : s.promoteGen.mark = s.mark := by
  unfold State.promoteGen
  (repeat' split) <;> simp

@[simp] theorem State.retireGen_mark (s : State) : s.retireGen.mark = s.mark := by
  unfold State.retireGen
  (repeat' split) <;> simp

@[simp] theorem State.bindGen_mark (s : State) (n : Nat) : (s.bindGen n).mark = s.mark := by
  unfold State.bindGen
  (repeat' split) <;> simp

@[simp] theorem State.unbindGen_mark (s : State) (n : Nat) : (s.unbindGen n).mark = s.mark := by
  unfold State.unbindGen
  (repeat' split) <;> simp

@[simp] theorem State.giveFrame_mark (s : State) (c sp f : Nat) (p : Option PageId) (ok : Bool) :
    (s.giveFrame c sp f p ok).mark = s.mark := by
  simp [State.giveFrame]

@[simp] theorem State.dropCopies_mark (s : State) (c sp f : Nat) (p : PageId) : (s.dropCopies c sp f p).mark = s.mark := by
  simp [State.dropCopies]

@[simp] theorem State.fillFrame_mark (s : State) (c sp f : Nat) (ws : List W16) : (s.fillFrame c sp f ws).mark = s.mark := by
  simp [State.fillFrame]

@[simp] theorem State.pageRead_mark (s : State) (p : PageId) : (s.pageRead p).mark = s.mark := by
  unfold State.pageRead
  split <;> simp

theorem State.pageFail_mark {s t : State} {p : PageId} {hostOk : Bool} (h : s.pageFail p hostOk = some t) : t.mark = s.mark := by
  unfold State.pageFail at h
  (repeat' split at h) <;> cases h <;> simp

@[simp] theorem State.loadInto_mark (s : State) (cs : List Nat) (sp : Nat) (p : PageId) (f : Nat) :
    (s.loadInto cs sp p f).mark = s.mark := by
  unfold State.loadInto
  split
  · next h => simp [State.pageFail_mark h]
  · simp

@[simp] theorem State.loadPage_mark (s : State) (cs : List Nat) (sp : Nat) (p : PageId) : (s.loadPage cs sp p).mark = s.mark := by
  unfold State.loadPage
  (repeat' split) <;> simp

@[simp] theorem State.spoilPages_mark (s : State) (c : Nat) (g : PageId → Bool) : (s.spoilPages c g).mark = s.mark := by
  simp [State.spoilPages]

@[simp] theorem State.spoilState_mark (s : State) (t : Nat) (keep : List Nat) : (s.spoilState t keep).mark = s.mark := by
  simp [State.spoilState]

@[simp] theorem State.pinAll_mark (s : State) (t : Nat) : (s.pinAll t).mark = s.mark := by
  refine State.forEach_mark fun s e => ?_
  split <;> simp

@[simp] theorem State.setHome_mark (s : State) (t c : Nat) : (s.setHome t c).mark = s.mark := by simp [State.setHome]

@[simp] theorem State.tryHome_mark (s : State) (t since : Nat) : (s.tryHome t since).mark = s.mark := by
  unfold State.tryHome
  (repeat' split) <;> simp

@[simp] theorem State.retryHomes_mark (s : State) : s.retryHomes.mark = s.mark := by simp [State.retryHomes]

@[simp] theorem State.checkRemoval_mark (s : State) (t : Nat) : (s.checkRemoval t).mark = s.mark := by simp [State.checkRemoval]

@[simp] theorem State.checkStops_mark (s : State) : s.checkStops.mark = s.mark := by simp [State.checkStops]

@[simp] theorem State.endJob_mark (s : State) (j : Job) : (s.endJob j).mark = s.mark := by simp [State.endJob]

@[simp] theorem State.stopClusters_mark (s : State) (cs : List Nat) : (s.stopClusters cs).mark = s.mark := by simp [State.stopClusters]

@[simp] theorem State.eachJob_mark {s : State} {l : List Job} {g : State → Job → State} (hg : ∀ s j, (g s j).mark = s.mark) :
    (s.eachJob l g).mark = s.mark := by
  refine State.forEach_mark fun s k => ?_
  split <;> simp [hg]

@[simp] theorem State.putJob_mark (s : State) (old new : Job) : (s.putJob old new).mark = s.mark := by simp [State.putJob]

@[simp] theorem State.abandon_mark (s : State) (j : Job) : (s.abandon j).mark = s.mark := by
  unfold State.abandon
  dsimp only
  rw [State.endJob_mark, State.spoilState_mark]
  refine (State.forEach_mark fun s b => ?_).trans (State.stopClusters_mark _ _)
  split <;> simp

@[simp] theorem State.dropJob_mark (s : State) (j : Job) : (s.dropJob j).mark = s.mark := by simp [State.dropJob]

@[simp] theorem State.release_mark (s : State) (t n : Nat) : (s.release t n).mark = s.mark := by
  unfold State.release
  dsimp only
  (repeat' split) <;> simp

@[simp] theorem State.dataRelease_mark (s : State) (h : Holder) : (s.dataRelease h).mark = s.mark := by
  refine State.forEach_mark fun s t => ?_
  split <;> simp

@[simp] theorem State.chargeFault_mark (s : State) (c : Nat) : (s.chargeFault c).mark = s.mark := by simp [State.chargeFault]

@[simp] theorem State.reportFault_mark (s : State) (j : Job) (c cause : Nat) : (s.reportFault j c cause).mark = s.mark := by
  simp [State.reportFault]

@[simp] theorem State.startReplay_mark (s : State) (j : Job) (c : Nat) : (s.startReplay j c).mark = s.mark := by simp [State.startReplay]

@[simp] theorem State.abandonFault_mark (s : State) (j : Job) : (s.abandonFault j).mark = s.mark := by simp [State.abandonFault]

@[simp] theorem State.recover_mark (s : State) (j : Job) : (s.recover j).mark = s.mark := by
  unfold State.recover
  (repeat' split) <;> simp

@[simp] theorem State.rehomeOne_mark (s : State) (t : Nat) : (s.rehomeOne t).mark = s.mark := by
  simp [State.rehomeOne]

@[simp] theorem State.replace_mark (s : State) (c : Nat) (j : Job) : (s.replace c j).mark = s.mark := by
  unfold State.replace
  dsimp only
  (repeat' split) <;> simp

@[simp] theorem State.rehome_mark (s : State) (c : Nat) : (s.rehome c).mark = s.mark := by simp [State.rehome]

@[simp] theorem State.fence_mark (s : State) (c : Nat) : (s.fence c).mark = s.mark := by simp [State.fence]

@[simp] theorem State.fenceCharged_mark (s : State) (cs : List Nat) (policy fenceAt : Nat) :
    (s.fenceCharged cs policy fenceAt).mark = s.mark := by
  simp [State.fenceCharged]

@[simp] theorem State.faultJob_mark (s : State) (j : Job) (c cause : Nat) : (s.faultJob j c cause).mark = s.mark := by
  unfold State.faultJob
  dsimp only
  rw [State.fenceCharged_mark, State.recover_mark, State.putJob_mark]
  refine (State.forEach_mark fun s b => ?_).trans (by simp)
  split <;> simp

@[simp] theorem State.instFault_mark (s : State) (c cause : Nat) : (s.instFault c cause).mark = s.mark := by
  unfold State.instFault
  (repeat' split) <;> simp

@[simp] theorem State.fromMate_mark (s : State) (c sp a : Nat) : (s.fromMate c sp a).mark = s.mark := by simp [State.fromMate]

@[simp] theorem State.clusterParity_mark (s : State) (c sp a : Nat) : (s.clusterParity c sp a).mark = s.mark := by
  unfold State.clusterParity
  dsimp only
  repeat' split
  all_goals simp only [State.fromMate_mark, State.uncorrectable_mark, State.updCluster_mark, State.fillFrame_mark]

@[simp] theorem State.accessParity_mark (s : State) (c sp a : Nat) : (s.accessParity c sp a).mark = s.mark := by simp [State.accessParity]

@[simp] theorem State.issue_mark (s : State) (c : Nat) (g : Cluster → Op) : (s.issue c g).mark = s.mark := by simp [State.issue]

@[simp] theorem State.diverge_mark (s : State) (c : Nat) : (s.diverge c).mark = s.mark := by simp [State.diverge]

@[simp] theorem State.judge_mark (s : State) (c n : Nat) : (s.judge c n).mark = s.mark := by simp [State.judge]

@[simp] theorem State.hold_mark (s : State) (c : Nat) : (s.hold c).mark = s.mark := by simp [State.hold]

@[simp] theorem State.trapAt_mark (s : State) (c cause syl : Nat) : (s.trapAt c cause syl).mark = s.mark := by
  unfold State.trapAt
  dsimp only
  (repeat' split) <;> simp

@[simp] theorem State.failAt_mark (s : State) (c : Nat) (f : Fail) : (s.failAt c f).mark = s.mark := by
  unfold State.failAt
  (repeat' split) <;> simp

@[simp] theorem State.killedCycle_mark (s : State) (c : Nat) : (s.killedCycle c).mark = s.mark := by
  unfold State.killedCycle
  dsimp only
  (repeat' split) <;> simp

@[simp] theorem State.endCycle_mark (s : State) (c : Nat) : (s.endCycle c).mark = s.mark := by simp [State.endCycle]

@[simp] theorem State.issuedCycle_mark (s : State) (c : Nat) : (s.issuedCycle c).mark = s.mark := by simp [State.issuedCycle]

@[simp] theorem State.drainCycle_mark (s : State) (c : Nat) : (s.drainCycle c).mark = s.mark := by simp [State.drainCycle]

@[simp] theorem State.tick_mark (s : State) (c : Nat) : (s.tick c).mark = s.mark := by
  unfold State.tick
  dsimp only
  (repeat' split) <;> simp

@[simp] theorem State.reissue_mark (s : State) (c : Nat) (r : Resume) : (s.reissue c r).mark = s.mark := by simp [State.reissue]

@[simp] theorem State.resumeGo_mark (s : State) (c : Nat) (r : Resume) : (s.resumeGo c r).mark = s.mark := by
  unfold State.resumeGo
  dsimp only
  (repeat' split) <;> simp

@[simp] theorem State.resumeFail_mark (s : State) (c : Nat) : (s.resumeFail c).mark = s.mark := by simp [State.resumeFail]

@[simp] theorem State.writeResume_mark (s : State) (c v : Nat) : (s.writeResume c v).mark = s.mark := by simp [State.writeResume]

@[simp] theorem State.genStatus_mark (s : State) (result num reason : Nat) : (s.genStatus result num reason).mark = s.mark := by
  simp [State.genStatus]

@[simp] theorem State.openGen_mark (s : State) : s.openGen.mark = s.mark := by
  unfold State.openGen
  (repeat' split) <;> simp

@[simp] theorem State.abandonGen_mark (s : State) : s.abandonGen.mark = s.mark := by
  unfold State.abandonGen
  (repeat' split) <;> simp

@[simp] theorem State.requestGenBuf_mark (s : State) : s.requestGenBuf.mark = s.mark := by
  unfold State.requestGenBuf
  dsimp only
  (repeat' split) <;> simp

@[simp] theorem State.submitGen_mark (s : State) : s.submitGen.mark = s.mark := by
  unfold State.submitGen
  (repeat' split) <;> simp

@[simp] theorem State.adopt_mark (s : State) (i : Nat) (byHost : Bool) : (s.adopt i byHost).mark = s.mark := by simp [State.adopt]

@[simp] theorem State.autoAdopt_mark (s : State) (i : Nat) : (s.autoAdopt i).mark = s.mark := by simp [State.autoAdopt]

@[simp] theorem State.rejectGen_mark (s : State) (i reason : Nat) : (s.rejectGen i reason).mark = s.mark := by simp [State.rejectGen]

@[simp] theorem State.verifyReads_mark (s : State) (i : Nat) (es cur : List DirEnt) : (s.verifyReads i es cur).mark = s.mark := by
  unfold State.verifyReads
  (repeat' split) <;> simp

@[simp] theorem State.verified_mark (s : State) (i : Nat) : (s.verified i).mark = s.mark := by
  unfold State.verified
  (repeat' split) <;> simp

@[simp] theorem State.adopted_mark (s : State) (i : Nat) : (s.adopted i).mark = s.mark := by
  unfold State.adopted
  (repeat' split) <;> simp

@[simp] theorem State.loadGen_mark (s : State) : s.loadGen.mark = s.mark := by
  unfold State.loadGen
  dsimp only
  split
  · rfl
  · split
    · next h =>
      obtain ⟨e, -, he⟩ := List.exists_of_findSome?_eq_some h
      rw [State.rejectGen_mark, State.pageFail_mark he]
    · simp

@[simp] theorem State.take_mark (s : State) (t i : Nat) : (s.take t i).mark = s.mark := by simp [State.take]

@[simp] theorem State.coreClaim_mark (s : State) (t : Nat) : (s.coreClaim t).1.mark = s.mark := by
  unfold State.coreClaim
  (repeat' split) <;> simp

@[simp] theorem State.hostClaim_mark (s : State) (v : Nat) : (s.hostClaim v).mark = s.mark := by
  unfold State.hostClaim
  (repeat' split) <;> simp

@[simp] theorem State.endInt_mark (s : State) (t i : Nat) : (s.endInt t i).mark = s.mark := by simp [State.endInt]

@[simp] theorem State.emptyStack_mark (s : State) (t : Nat) : (s.emptyStack t).mark = s.mark := by simp [State.emptyStack]

@[simp] theorem State.srcConfig_mark (s : State) (i : Nat) (v : W32) : (s.srcConfig i v).mark = s.mark := by simp [State.srcConfig]

@[simp] theorem State.pendClear_mark (s : State) (i : Nat) : (s.pendClear i).mark = s.mark := by simp [State.pendClear]

@[simp] theorem State.ridgeStore_mark (s : State) (a : Nat) (bs : List Byte) : (s.ridgeStore a bs).mark = s.mark := by
  simp [State.ridgeStore]

@[simp] theorem State.logAdd_mark (s : State) (origin code data : Nat) : (s.logAdd origin code data).mark = s.mark := by
  simp [State.logAdd]

@[simp] theorem State.kernelTakes_mark (s : State) (k i : Nat) : (s.kernelTakes k i).mark = s.mark := by simp [State.kernelTakes]

@[simp] theorem State.claimPort_mark (s : State) (k : Nat) : (s.claimPort k).1.mark = s.mark := by
  unfold State.claimPort
  dsimp only
  (repeat' split) <;> simp

@[simp] theorem State.eoiPort_mark (s : State) (k : Nat) (hi : Byte) : (s.eoiPort k hi).mark = s.mark := by simp [State.eoiPort]

@[simp] theorem State.postMsg_mark (s : State) (p mtype : Nat) (body : List Byte) (by_ : MsgFrom) :
    (s.postMsg p mtype body by_).mark = s.mark := by
  simp [State.postMsg]

@[simp] theorem State.dropMsgs_mark (s : State) (p : Nat) (gone : Msg → Bool) : (s.dropMsgs p gone).mark = s.mark := by
  simp [State.dropMsgs]

@[simp] theorem State.armDither_mark (s : State) (k : Nat) : (s.armDither k).mark = s.mark := by simp [State.armDither]

@[simp] theorem State.postStop_mark (s : State) (p ch amp : Nat) : (s.postStop p ch amp).mark = s.mark := by simp [State.postStop]

@[simp] theorem State.disableSlot_mark (s : State) (k : Nat) : (s.disableSlot k).mark = s.mark := by simp [State.disableSlot]

@[simp] theorem State.enableSlot_mark (s : State) (k : Nat) : (s.enableSlot k).mark = s.mark := by simp [State.enableSlot]

@[simp] theorem State.ditherSync_mark (s : State) (k : Nat) : (s.ditherSync k).mark = s.mark := by simp [State.ditherSync]

@[simp] theorem State.drift_mark (s : State) (k : Nat) (e : Estimate) : (s.drift k e).mark = s.mark := by simp [State.drift]

@[simp] theorem State.putResult_mark (s : State) (bytes : List Byte) : (s.putResult bytes).mark = s.mark := by simp [State.putResult]

@[simp] theorem State.windowEnd_mark (s : State) (k q : Nat) : (s.windowEnd k q).mark = s.mark := by simp [State.windowEnd]

@[simp] theorem State.sample_mark (s : State) (k q : Nat) (plus : Bool) (x : Int) : (s.sample k q plus x).mark = s.mark := by
  simp [State.sample]

@[simp] theorem State.readBlock_mark (s : State) (k q : Nat) (payload : List Byte) : (s.readBlock k q payload).mark = s.mark := by
  simp [State.readBlock]

@[simp] theorem State.correlate_mark (s : State) (k n mask chips : Nat) (placed : Bool) (payload : List Byte) :
    (s.correlate k n mask chips placed payload).mark = s.mark := by
  simp [State.correlate]

@[simp] theorem State.missBlocks_mark (s : State) (p n : Nat) : (s.missBlocks p n).mark = s.mark := by simp [State.missBlocks]

@[simp] theorem State.restartWindows_mark (s : State) : s.restartWindows.mark = s.mark := by simp [State.restartWindows]

@[simp] theorem State.pageLate_mark (s : State) (c : Nat) : (s.pageLate c).mark = s.mark := by
  unfold State.pageLate
  (repeat' split) <;> simp

@[simp] theorem State.startOn_mark (s : State) (c : Nat) : (s.startOn c).mark = s.mark := by
  unfold State.startOn
  (repeat' split) <;> simp

@[simp] theorem State.stageIn_mark (s : State) (c : Nat) : (s.stageIn c).mark = s.mark := by simp [State.stageIn]

theorem State.inputFail_mark {s t : State} {j : Job} (h : s.inputFail j = some t) : t.mark = s.mark := by
  unfold State.inputFail at h
  obtain ⟨e, -, he⟩ := List.exists_of_findSome?_eq_some h
  dsimp only at he
  (repeat' split at he) <;> cases he <;> simp

theorem State.stateFail_mark {s t : State} {j : Job} (h : s.stateFail j = some t) : t.mark = s.mark := by
  unfold State.stateFail at h
  obtain ⟨e, -, he⟩ := List.exists_of_findSome?_eq_some h
  (repeat' split at he) <;> cases he <;> simp

@[simp] theorem State.copyState_mark (s : State) (j : Job) : (s.copyState j).mark = s.mark := by
  refine State.forEach_mark fun s e => State.forEach_mark fun s c => ?_
  split <;> simp

@[simp] theorem State.zeroTail_mark (s : State) (j : Job) : (s.zeroTail j).mark = s.mark := by
  unfold State.zeroTail
  dsimp only
  split
  · rfl
  · refine State.forEach_mark fun s c => ?_
    split <;> simp

@[simp] theorem State.noteMapped_mark (s : State) (c : Nat) (maps : List (Nat × W16)) (clock : Nat) :
    (s.noteMapped c maps clock).mark = s.mark := by
  simp [State.noteMapped]

@[simp] theorem State.stageJob_mark (s : State) (j : Job) : (s.stageJob j).mark = s.mark := by
  unfold State.stageJob
  dsimp only
  split
  · simp
  · split
    · next h => simp [State.inputFail_mark h]
    · split
      · next h => simp [State.stateFail_mark h]
      · simp

@[simp] theorem State.stageDone_mark (s : State) (c : Nat) : (s.stageDone c).mark = s.mark := by
  unfold State.stageDone
  (repeat' split) <;> simp

@[simp] theorem State.startFetch_mark (s : State) (c : Nat) : (s.startFetch c).mark = s.mark := by
  unfold State.startFetch
  (repeat' split) <;> simp

@[simp] theorem State.fillFetched_mark (s : State) (c : Nat) (p : PageId) (ws : List W16) : (s.fillFetched c p ws).mark = s.mark := by
  unfold State.fillFetched
  (repeat' split) <;> simp

@[simp] theorem State.dropFetched_mark (s : State) (c : Nat) (p : PageId) : (s.dropFetched c p).mark = s.mark := by
  unfold State.dropFetched
  (repeat' split) <;> simp

@[simp] theorem State.abandonStage_mark (s : State) (j : Job) (c : Nat) : (s.abandonStage j c).mark = s.mark := by
  simp [State.abandonStage]

@[simp] theorem State.fetchFailed_mark (s : State) (c : Nat) (p : PageId) : (s.fetchFailed c p).mark = s.mark := by
  simp [State.fetchFailed]

@[simp] theorem State.endFetch_mark (s : State) (c : Nat) (hostOk : Bool) : (s.endFetch c hostOk).mark = s.mark := by
  unfold State.endFetch
  dsimp only
  split
  · rfl
  · split
    · next h => simp [State.pageFail_mark h]
    · simp

@[simp] theorem State.readOut_mark (j : Job) (l : List (Nat × Nat)) (s : State) (acc : List W16) :
    (s.readOut j l acc).1.mark = s.mark := by
  induction l generalizing s acc with
  | nil => rfl
  | cons a l ih =>
    unfold State.readOut
    dsimp only
    (repeat' split) <;> simp [ih]

@[simp] theorem State.commitWrite_mark (s : State) (off : Nat) (bs : List Byte) : (s.commitWrite off bs).1.mark = s.mark := by
  simp [State.commitWrite]

@[simp] theorem State.commitOutput_mark (s : State) (j : Job) (i : Nat) (taken : List Nat) :
    (s.commitOutput j i taken).1.mark = s.mark := by
  unfold State.commitOutput
  dsimp only
  split
  · simp
  · split
    · next h => exact mark_of_pair h (by simp)
    · next h => exact (State.commitWrite_mark _ _ _).trans (mark_of_pair h (by simp))

@[simp] theorem State.commitOutputs_mark (j : Job) (l : List Nat) (s : State) (taken : List Nat) :
    (s.commitOutputs j l taken).1.mark = s.mark := by
  induction l generalizing s taken with
  | nil => rfl
  | cons i l ih =>
    unfold State.commitOutputs
    split
    · next h => exact (ih _ _).trans (mark_of_pair h (s.commitOutput_mark j i taken))
    · next h => exact mark_of_pair h (s.commitOutput_mark j i taken)

@[simp] theorem State.commitState_mark (s : State) (j : Job) : (s.commitState j).1.mark = s.mark := by
  unfold State.commitState
  dsimp only
  split
  all_goals have h := mark_of_pair ‹_› (State.readOut_mark j (s.stateWordsAt j) s [])
  · exact h
  · simp [h]

@[simp] theorem State.commitJob_mark (s : State) (j : Job) : (s.commitJob j).mark = s.mark := by simp [State.commitJob]

@[simp] theorem State.commit_mark (s : State) (c : Nat) : (s.commit c).mark = s.mark := by
  unfold State.commit
  (repeat' split) <;> simp

@[simp] theorem State.noteLate_mark (s : State) (h : Holder) (j : Job) : (s.noteLate h j).mark = s.mark := by
  unfold State.noteLate
  (repeat' split) <;> simp

@[simp] theorem State.publishOutput_mark (s : State) (j : Job) (i : Nat) : (s.publishOutput j i).mark = s.mark := by
  simp [State.publishOutput]

@[simp] theorem State.publishRecord_mark (s : State) (j : Job) : (s.publishRecord j).mark = s.mark := by simp [State.publishRecord]

@[simp] theorem State.publishResident_mark (s : State) (j : Job) : (s.publishResident j).mark = s.mark := by simp [State.publishResident]

@[simp] theorem State.publish_mark (s : State) (j : Job) : (s.publish j).mark = s.mark := by simp [State.publish]

@[simp] theorem State.publication_mark (s : State) (c : Nat) : (s.publication c).mark = s.mark := by
  unfold State.publication
  (repeat' split) <;> simp

@[simp] theorem State.allocInit_mark (s : State) (k : Nat) : (s.allocInit k).mark = s.mark := by simp [State.allocInit]

@[simp] theorem State.allocBuilt_mark (s : State) (k : Nat) : (s.allocBuilt k).mark = s.mark := by simp [State.allocBuilt]

@[simp] theorem State.scrubStore_mark (s : State) (a : Nat) : (s.scrubStore a).mark = s.mark := by simp [State.scrubStore]

@[simp] theorem State.ridgeFixed_mark (s : State) (data : Bool) (a : Nat) : (s.ridgeFixed data a).mark = s.mark := by
  simp [State.ridgeFixed]

@[simp] theorem State.ridgeRead_mark (s : State) (data : Bool) (a : Nat) : (s.ridgeRead data a).1.mark = s.mark := by
  simp [State.ridgeRead]

@[simp] theorem State.scrubWord_mark (s : State) (k m w : Nat) : (s.scrubWord k m w).mark = s.mark := by simp [State.scrubWord]

@[simp] theorem State.scrubLap_mark (s : State) (k : Nat) : (s.scrubLap k).mark = s.mark := by simp [State.scrubLap]

@[simp] theorem State.scrubSlow_mark (s : State) (k : Nat) : (s.scrubSlow k).mark = s.mark := by simp [State.scrubSlow]

@[simp] theorem State.scrubStep_mark (s : State) (k : Nat) : (s.scrubStep k).mark = s.mark := by
  unfold State.scrubStep
  dsimp only
  (repeat' split) <;> simp

@[simp] theorem State.linkEvent_mark (old : State) (l : Nat) (s : State) : (State.linkEvent old l s).mark = s.mark := by
  simp [State.linkEvent]

@[simp] theorem State.readOutRec_mark (s : State) (a p : Nat) (stale : Bool) : (s.readOutRec a p stale).1.mark = s.mark := by
  unfold State.readOutRec
  dsimp only
  (repeat' split) <;> simp

@[simp] theorem State.readOutRecs_mark (a : Nat) (stale : Nat → Bool) (l : List Nat) (s : State) :
    (s.readOutRecs a stale l).1.mark = s.mark := by
  induction l generalizing s with
  | nil => rfl
  | cons p l ih => simp [State.readOutRecs, ih]

@[simp] theorem State.putFrame_mark (s : State) (l : Nat) (f : TxFrame) : (s.putFrame l f).mark = s.mark := by simp [State.putFrame]

@[simp] theorem State.markDelayed_mark (s : State) (l : Nat) : (s.markDelayed l).mark = s.mark := by simp [State.markDelayed]

@[simp] theorem State.sendFrames_mark (l t : Nat) (fs : List TxFrame) (s : State) : (s.sendFrames l t fs).1.mark = s.mark := by
  induction fs generalizing s t with
  | nil => rfl
  | cons f fs ih => simp [State.sendFrames, ih]

@[simp] theorem State.postConfigs_mark (s : State) (a : Nat) : (s.postConfigs a).mark = s.mark := by simp [State.postConfigs]

@[simp] theorem State.serveLine_mark (s : State) (a : Nat) : (s.serveLine a).mark = s.mark := by simp [State.serveLine]

@[simp] theorem State.tOf_mark (s : State) (l : Nat) : (s.tOf l).mark = s.mark := by simp [State.tOf]

@[simp] theorem State.startDone_mark (s : State) (l : Nat) : (s.startDone l).mark = s.mark := by
  unfold State.startDone
  (repeat' split) <;> simp

@[simp] theorem State.portCycle_mark (s : State) (p t : Nat) (fs : List TxFrame) : (s.portCycle p t fs).mark = s.mark := by
  simp [State.portCycle]

@[simp] theorem State.renewSpares_mark (s : State) (l : Nat) : (s.renewSpares l).mark = s.mark := by simp [State.renewSpares]

@[simp] theorem State.t0Run_mark (s : State) (l : Nat) : (s.t0Run l).mark = s.mark := by simp [State.t0Run]

@[simp] theorem State.t0Last_mark (s : State) (l : Nat) : (s.t0Last l).mark = s.mark := by simp [State.t0Last]

@[simp] theorem State.t0_mark (s : State) (l : Nat) : (s.t0 l).mark = s.mark := by simp [State.t0]

@[simp] theorem State.applyTime_mark (s : State) (l : Nat) : (s.applyTime l).mark = s.mark := by simp [State.applyTime]

@[simp] theorem State.recallFrames_mark (s : State) (l n : Nat) (r : Option (List Byte)) : (s.recallFrames l n r).mark = s.mark := by
  simp [State.recallFrames]

@[simp] theorem State.cutFrames_mark (s : State) (l now : Nat) : (s.cutFrames l now).1.mark = s.mark := by
  unfold State.cutFrames
  dsimp only
  (repeat' split) <;> simp

@[simp] theorem State.startLate_mark (s : State) (l : Nat) : (s.startLate l).mark = s.mark := by
  unfold State.startLate
  dsimp only
  (repeat' split) <;> simp

@[simp] theorem State.lateSet_mark (s : State) (l : Nat) : (s.lateSet l).mark = s.mark := by simp [State.lateSet]

@[simp] theorem State.contFrame_mark (s : State) (l : Nat) : (s.contFrame l).mark = s.mark := by
  unfold State.contFrame
  dsimp only
  (repeat' split) <;> simp

@[simp] theorem State.failMsg_mark (s : State) (m : Msg) : (s.failMsg m).mark = s.mark := by
  unfold State.failMsg
  (repeat' split) <;> simp

@[simp] theorem State.retryMsg_mark (s : State) (l p mseq : Nat) : (s.retryMsg l p mseq).mark = s.mark := by
  unfold State.retryMsg
  dsimp only
  (repeat' split) <;> simp

@[simp] theorem State.retryStop_mark (s : State) (p ch : Nat) : (s.retryStop p ch).mark = s.mark := by
  unfold State.retryStop
  (repeat' split) <;> simp

@[simp] theorem State.returned_mark (s : State) (l : Nat) (firstOut : Bool) (delay : Nat) :
    (s.returned l firstOut delay).mark = s.mark := by
  simp [State.returned]

@[simp] theorem State.returnLimit_mark (s : State) (l : Nat) : (s.returnLimit l).mark = s.mark := by simp [State.returnLimit]

@[simp] theorem State.sendPtp_mark (s : State) (l kind time : Nat) : (s.sendPtp l kind time).mark = s.mark := by simp [State.sendPtp]

@[simp] theorem State.updPtp_mark (s : State) (l : Nat) (g : PtpTimes → PtpTimes) : (s.updPtp l g).mark = s.mark := by simp [State.updPtp]

@[simp] theorem State.ptpEvent_mark (s : State) (l : Nat) : (s.ptpEvent l).mark = s.mark := by simp [State.ptpEvent]

@[simp] theorem State.peerDelay_mark (s : State) (l delay : Nat) : (s.peerDelay l delay).mark = s.mark := by
  unfold State.peerDelay
  (repeat' split) <;> simp

@[simp] theorem State.askDelay_mark (s : State) (l : Nat) : (s.askDelay l).mark = s.mark := by simp [State.askDelay]

@[simp] theorem State.delayAnswer_mark (s : State) (l now turn : Nat) : (s.delayAnswer l now turn).mark = s.mark := by
  unfold State.delayAnswer
  (repeat' split) <;> simp

@[simp] theorem State.ptpIn_mark (s : State) (l : Nat) (m : PtpMsg) : (s.ptpIn l m).mark = s.mark := by
  unfold State.ptpIn
  (repeat' split) <;> simp

@[simp] theorem State.sync_mark (s : State) (l : Nat) : (s.sync l).mark = s.mark := by simp [State.sync]

@[simp] theorem State.frameErr_mark (s : State) (l : Nat) : (s.frameErr l).mark = s.mark := by simp [State.frameErr]

@[simp] theorem State.frameIn_mark (s : State) (l : Nat) (b : List Byte) (fcsOk : Bool) (first last : Nat) :
    (s.frameIn l b fcsOk first last).mark = s.mark := by
  unfold State.frameIn
  (repeat' split) <;> simp

@[simp] theorem State.ackIn_mark (s : State) (a p n seq result : Nat) : (s.ackIn a p n seq result).mark = s.mark := by
  unfold State.ackIn
  (repeat' split) <;> simp

@[simp] theorem State.hostMsgIn_mark (s : State) (p mtype mseq : Nat) (body : List Byte) :
    (s.hostMsgIn p mtype mseq body).mark = s.mark := by
  unfold State.hostMsgIn
  (repeat' split) <;> simp

@[simp] theorem State.msgIn_mark (s : State) (l p n : Nat) (b : List Byte) : (s.msgIn l p n b).mark = s.mark := by simp [State.msgIn]

@[simp] theorem State.partnerHeard_mark (s : State) (l p : Nat) (b : List Byte) : (s.partnerHeard l p b).mark = s.mark := by
  simp [State.partnerHeard]

@[simp] theorem State.placeIt_mark (s : State) (l p n : Nat) (b pay : List Byte) : (s.placeIt l p n b pay).1.mark = s.mark := by
  unfold State.placeIt
  dsimp only
  (repeat' split) <;> simp

@[simp] theorem State.icRelease_mark (s : State) (a : Nat) : (s.icRelease a).mark = s.mark := by
  unfold State.icRelease
  (repeat' split) <;> simp

@[simp] theorem State.firstCopy_mark (s : State) (l p n : Nat) (b pay : List Byte) : (s.firstCopy l p n b pay).mark = s.mark := by
  simp [State.firstCopy]

@[simp] theorem State.placement_mark (s : State) (l : Nat) : (s.placement l).mark = s.mark := by
  unfold State.placement
  dsimp only
  (repeat' split) <;> simp

@[simp] theorem State.judgePartner_mark (s : State) (a p : Nat) (missed : Bool) : (s.judgePartner a p missed).mark = s.mark := by
  simp [State.judgePartner]

@[simp] theorem State.judgeMisses_mark (s : State) (a n : Nat) : (s.judgeMisses a n).mark = s.mark := by simp [State.judgeMisses]

@[simp] theorem State.ringStatus_mark (s : State) (a : Nat) : (s.ringStatus a).mark = s.mark := by simp [State.ringStatus]

@[simp] theorem State.tIc_mark (s : State) (l : Nat) : (s.tIc l).mark = s.mark := by
  unfold State.tIc
  dsimp only
  (repeat' split) <;> simp

@[simp] theorem State.readEffect_mark (s : State) (r : Reg) : (s.readEffect r).mark = s.mark := by
  unfold State.readEffect
  split <;> simp

@[simp] theorem State.readWord_mark (s : State) (off : Nat) : (s.readWord off).1.mark = s.mark := by
  unfold State.readWord
  split <;> simp

@[simp] theorem State.accessDenied_mark (s : State) (n : Nat) : (s.accessDenied n).mark = s.mark := by simp [State.accessDenied]

theorem State.readParity_mark {s t : State} {a n : Nat} (h : s.readParity a n = some t) : t.mark = s.mark := by
  unfold State.readParity at h
  split at h
  · obtain ⟨_, -, rfl⟩ := Option.map_eq_some_iff.1 h; simp
  · obtain ⟨_, -, rfl⟩ := Option.map_eq_some_iff.1 h; simp
  · obtain ⟨_, -, rfl⟩ := Option.map_eq_some_iff.1 h; simp
  · dsimp only at h
    (repeat' split at h) <;> cases h <;> simp
  · obtain ⟨_, -, rfl⟩ := Option.map_eq_some_iff.1 h; simp
  · cases h

@[simp] theorem State.atomic_mark (s : State) (m o : Nat) (swap : Bool) : (s.atomic m o swap).mark = s.mark := by simp [State.atomic]

@[simp] theorem State.ridgeTouch_mark (s : State) (o n : Nat) : (s.ridgeTouch o n).mark = s.mark := by simp [State.ridgeTouch]

@[simp] theorem State.touch_mark (s : State) (m a n : Nat) : (s.touch m a n).mark = s.mark := by
  unfold State.touch
  (repeat' split) <;> simp

@[simp] theorem State.hostReadBad_mark (s : State) : s.hostReadBad.mark = s.mark := by simp [State.hostReadBad]

@[simp] theorem State.busRead_mark (s : State) (m a n : Nat) (dma : Bool) : (s.busRead m a n dma).1.mark = s.mark := by
  unfold State.busRead
  dsimp only
  split
  · simp
  · split
    · simp
    · split
      · simp
      · split
        · simp
        · split
          · next h => exact State.readParity_mark h
          · simp

@[simp] theorem State.spend_mark (s : State) (k n : Nat) : (s.spend k n).mark = s.mark := by simp [State.spend]

@[simp] theorem State.localRead_mark (s : State) (k a : Nat) : (s.localRead k a).1.mark = s.mark := by simp [State.localRead]

@[simp] theorem State.readData_mark (s : State) (k a : Nat) : (s.readData k a).1.mark = s.mark := by
  unfold State.readData
  repeat' split
  all_goals exact mark_of_pair ‹_› (by simp)

theorem State.windowCheck_mark {s : State} {k a : Nat} {wr : Bool} {e : State × (Nat × Nat)} (h : s.windowCheck k a wr = some e) :
    e.1.mark = s.mark := by
  unfold State.windowCheck at h
  dsimp only at h
  (repeat' split at h) <;> cases h <;> simp

theorem State.windowChecks_mark {s : State} {k a b : Nat} {wr c : Bool} {e : State × (Nat × Nat)}
    (h : (if c then (s.windowCheck k a wr).orElse (fun _ => s.windowCheck k b wr) else none) = some e) : e.1.mark = s.mark := by
  split at h
  · cases ha : s.windowCheck k a wr with
    | none =>
      rw [ha] at h
      exact State.windowCheck_mark h
    | some e' =>
      rw [ha] at h
      cases h
      exact State.windowCheck_mark ha
  · cases h

@[simp] theorem State.readData2_mark (s : State) (k a : Nat) : (s.readData2 k a).1.mark = s.mark := by
  unfold State.readData2
  dsimp only
  split
  · exact State.windowChecks_mark ‹_›
  · split
    · split
      · exact mark_of_pair ‹_› (s.readData_mark k a)
      · next h =>
        have h1 := mark_of_pair h (s.readData_mark k a)
        split
        all_goals exact mark_of_pair ‹_› ((State.readData_mark _ _ _).trans h1)
    · split
      all_goals exact mark_of_pair ‹_› (s.busRead_mark _ _ _ _)

@[simp] theorem State.lockCore_mark (s : State) (k : Nat) : (s.lockCore k).mark = s.mark := by simp [State.lockCore]

@[simp] theorem State.enter_mark (s : State) (k v saved : Nat) : (s.enter k v saved).1.mark = s.mark := by
  unfold State.enter
  dsimp only
  split
  all_goals have h := mark_of_pair ‹_› (State.readData2_mark _ k _)
  all_goals simp at h
  · simp [h]
  · split <;> simp [h]

@[simp] theorem State.except_mark (s : State) (k v saved detail addr : Nat) : (s.except k v saved detail addr).1.mark = s.mark := by
  simp [State.except]

@[simp] theorem State.callError_mark (s : State) (k status : Nat) : (s.callError k status).mark = s.mark := by simp [State.callError]

@[simp] theorem State.dropCalls_mark (s : State) : s.dropCalls.mark = s.mark := by simp [State.dropCalls]

@[simp] theorem State.ridgeStop_mark (s : State) : s.ridgeStop.mark = s.mark := by simp [State.ridgeStop]

@[simp] theorem State.afterStop_mark (s old : State) : (s.afterStop old).mark = s.mark := by
  simp [State.afterStop]

@[simp] theorem State.takeException_mark (s : State) (k v saved detail addr : Nat) :
    (s.takeException k v saved detail addr).mark = s.mark := by
  simp [State.takeException]

@[simp] theorem State.takeInterrupt_mark (s : State) (k p saved : Nat) : (s.takeInterrupt k p saved).mark = s.mark := by
  simp [State.takeInterrupt]

@[simp] theorem State.wdBoundary_mark (s : State) (k : Nat) : (s.wdBoundary k).mark = s.mark := by simp [State.wdBoundary]

@[simp] theorem State.endWaitd_mark (s : State) (k : Nat) (z : Bool) : (s.endWaitd k z).mark = s.mark := by simp [State.endWaitd]

@[simp] theorem State.doneEdge_mark (s : State) (n : Nat) : (s.doneEdge n).mark = s.mark := by simp [State.doneEdge]

@[simp] theorem State.breakWaitd_mark (s : State) (k : Nat) : (s.breakWaitd k).mark = s.mark := by simp [State.breakWaitd]

@[simp] theorem State.holdCore_mark (s : State) (k : Nat) : (s.holdCore k).mark = s.mark := by simp [State.holdCore]

@[simp] theorem State.clearMemory_mark (s : State) (d : Nat) : (s.clearMemory d).mark = s.mark := by simp [State.clearMemory]

@[simp] theorem State.barAbort_mark (s : State) : s.barAbort.mark = s.mark := by simp [State.barAbort]

@[simp] theorem State.barWrite_mark (s : State) (off : Nat) (bs : List Byte) : (s.barWrite off bs).mark = s.mark := by
  simp [State.barWrite]

@[simp] theorem State.barRead_mark (s : State) (off len : Nat) : (s.barRead off len).mark = s.mark := by
  unfold State.barRead
  (repeat' split) <;> simp

@[simp] theorem State.barAccess_mark (s : State) (off len : Nat) (data : Option (List Byte)) :
    (s.barAccess off len data).mark = s.mark := by
  unfold State.barAccess
  (repeat' split) <;> simp

@[simp] theorem State.releaseBar_mark (s : State) : s.releaseBar.mark = s.mark := by simp [State.releaseBar]

@[simp] theorem State.setDomSt_mark (s : State) (d : Nat) (st : DomSt) : (s.setDomSt d st).mark = s.mark := by simp [State.setDomSt]

@[simp] theorem State.powerUp_mark (s : State) (d : Nat) : (s.powerUp d).mark = s.mark := by simp [State.powerUp]

@[simp] theorem State.lanesDown_mark (s : State) (k : Nat) : (s.lanesDown k).mark = s.mark := by simp [State.lanesDown]

@[simp] theorem State.powerDown_mark (s : State) (d : Nat) : (s.powerDown d).mark = s.mark := by simp [State.powerDown]

@[simp] theorem State.settle_mark (d n : Nat) (s : State) : (s.settle d n).mark = s.mark := by
  induction n generalizing s with
  | zero => rfl
  | succ n ih =>
    unfold State.settle
    split <;> simp [ih]

@[simp] theorem State.settled_mark (s : State) (d : Nat) : (s.settled d).mark = s.mark := by simp [State.settled]

@[simp] theorem State.bootState_mark (s : State) (v : Nat) : (s.bootState v).mark = s.mark := by simp [State.bootState]

@[simp] theorem State.tryHostWait_mark (s : State) : s.tryHostWait.mark = s.mark := by simp [State.tryHostWait]

@[simp] theorem State.bootError_mark (s : State) (code : Nat) : (s.bootError code).mark = s.mark := by simp [State.bootError]

@[simp] theorem State.kernelRuns_mark (s : State) (entry : Nat) (ws : List Nat) (host : Bool) :
    (s.kernelRuns entry ws host).mark = s.mark := by
  simp [State.kernelRuns]

theorem State.loadKernel_mark {s : State} {read : State → Nat → Nat → State × Option (List Byte)} {e : Nat} {host : Bool}
    (hr : ∀ s o n, (read s o n).1.mark = s.mark) : (s.loadKernel read e host).mark = s.mark := by
  unfold State.loadKernel
  dsimp only
  split
  all_goals have h1 := mark_of_pair ‹_› (hr s 0 32)
  · simp [h1]
  · split
    · simp [h1]
    · split
      all_goals have h2 := (mark_of_pair ‹_› (hr _ _ _)).trans h1
      · simp [h2]
      · split <;> simp [h2]

@[simp] theorem State.romStore_mark (s : State) (off n : Nat) : (s.romStore off n).1.mark = s.mark := by
  unfold State.romStore
  (repeat' split) <;> simp

@[simp] theorem State.kernelLoaded_mark (s : State) (flash : List Byte) : (s.kernelLoaded flash).mark = s.mark := by
  unfold State.kernelLoaded
  dsimp only
  split
  · rfl
  · split
    · split
      · exact State.loadKernel_mark fun _ _ _ => by simp
      · rfl
    · exact State.loadKernel_mark fun _ _ _ => rfl

@[simp] theorem State.bootGo_mark (s : State) : s.bootGo.mark = s.mark := by simp [State.bootGo]

@[simp] theorem State.bootBatch_mark (s : State) : s.bootBatch.mark = s.mark := by simp [State.bootBatch]

@[simp] theorem State.rampDone_mark (s : State) (d : Nat) : (s.rampDone d).mark = s.mark := by simp [State.rampDone]

@[simp] theorem State.drainDone_mark (s : State) (d : Nat) : (s.drainDone d).mark = s.mark := by simp [State.drainDone]

@[simp] theorem State.lastSetOf_mark (s : State) (a : Nat) : (s.lastSetOf a).mark = s.mark := by simp [State.lastSetOf]

@[simp] theorem State.flr_mark (s : State) : s.flr.mark = s.mark := by simp [State.flr]

@[simp] theorem State.pcieReset_mark (s : State) (up : Bool) : (s.pcieReset up).mark = s.mark := by simp [State.pcieReset]

@[simp] theorem State.softShingle_mark (s : State) (g : Nat) : (s.softShingle g).mark = s.mark := by simp [State.softShingle]

@[simp] theorem State.softField_mark (s : State) (k : Nat) : (s.softField k).mark = s.mark := by simp [State.softField]

@[simp] theorem State.checkClocks_mark (s : State) : s.checkClocks.mark = s.mark := by
  refine State.forEach_mark fun s q => ?_
  split
  · split <;> simp
  · rfl

@[simp] theorem State.thermSample_mark (s : State) (t : BitVec 12) : (s.thermSample t).mark = s.mark := by simp [State.thermSample]

@[simp] theorem State.calMoved_mark (s : State) : s.calMoved.mark = s.mark := by
  simp [State.calMoved]

@[simp] theorem State.calCommit_mark (s : State) (v : W32) : (s.calCommit v).mark = s.mark := by simp [State.calCommit]

@[simp] theorem State.ppsServo_mark (s : State) (cap : Nat) : (s.ppsServo cap).mark = s.mark := by simp [State.ppsServo]

@[simp] theorem State.jtagSelect_mark (s : State) (i : Byte) : (s.jtagSelect i).mark = s.mark := by simp [State.jtagSelect]

@[simp] theorem State.writeCqCfg_mark (s : State) (k : Nat) (nv : W32) : (s.writeCqCfg k nv).mark = s.mark := by simp [State.writeCqCfg]

@[simp] theorem State.writeSpare_mark (s : State) (nv : W32) : (s.writeSpare nv).mark = s.mark := by simp [State.writeSpare]

@[simp] theorem State.writeFence_mark (s : State) (ones : W32) : (s.writeFence ones).mark = s.mark := by simp [State.writeFence]

@[simp] theorem State.writeAdm_mark (s : State) (nv : W32) : (s.writeAdm nv).mark = s.mark := by simp [State.writeAdm]

@[simp] theorem State.dmaStart_mark (s : State) (n m : Nat) : (s.dmaStart n m).mark = s.mark := by simp [State.dmaStart]

@[simp] theorem State.dmaAbort_mark (s : State) (n : Nat) : (s.dmaAbort n).mark = s.mark := by simp [State.dmaAbort]

@[simp] theorem State.holdRx_mark (s : State) (l : Nat) : (s.holdRx l).mark = s.mark := by simp [State.holdRx]

@[simp] theorem State.writeFldCtl_mark (s : State) (l : Nat) (nv : W32) :
    (s.writeFldCtl l nv).mark = s.mark := by simp [State.writeFldCtl]

@[simp] theorem State.writeFldRxeq_mark (s : State) (l : Nat) (nv : W32) : (s.writeFldRxeq l nv).mark = s.mark := by
  simp [State.writeFldRxeq]

@[simp] theorem State.writeDtCtl_mark (s : State) (nv : W32) : (s.writeDtCtl nv).mark = s.mark := by simp [State.writeDtCtl]

@[simp] theorem State.writeMrdCtl_mark (s : State) (nv : W32) : (s.writeMrdCtl nv).mark = s.mark := by simp [State.writeMrdCtl]

@[simp] theorem State.fromHost_mark {s : State} {g : State → State} (hg : ∀ s, (g s).mark = s.mark) : (s.fromHost g).mark = s.mark := by
  simp [State.fromHost, hg]

@[simp] theorem State.doorbellError_mark (s : State) : s.doorbellError.mark = s.mark := by simp [State.doorbellError]

@[simp] theorem State.doorbell_mark {s : State} {g : State → State} (hg : ∀ s, (g s).mark = s.mark) : (s.doorbell g).mark = s.mark := by
  refine State.fromHost_mark fun s => ?_
  split
  · exact hg s
  · rfl

@[simp] theorem State.headDoorbell_mark (s : State) (k : Nat) (v : W32) : (s.headDoorbell k v).mark = s.mark := by
  simp [State.headDoorbell]

@[simp] theorem State.request_mark (s : State) (q : Nat) (r : Rd) (a n : Nat) : (s.request q r a n).mark = s.mark := by
  simp [State.request]

@[simp] theorem State.sqAct_mark (s : State) (q : Nat) : (s.sqAct q).mark = s.mark := by
  unfold State.sqAct
  dsimp only
  (repeat' split) <;> simp

@[simp] theorem State.gotDesc_mark (s : State) (q : Nat) (d : Desc) (first : Bool) : (s.gotDesc q d first).mark = s.mark := by
  simp [State.gotDesc]

@[simp] theorem State.readStops_mark (s : State) (q cid index : Nat) (resumed : Bool) :
    (s.readStops q cid index resumed).mark = s.mark := by
  simp [State.readStops]

@[simp] theorem State.readFailed_mark (s : State) (q : Nat) (r : Rd) : (s.readFailed q r).mark = s.mark := by
  unfold State.readFailed
  dsimp only
  (repeat' split) <;> simp

@[simp] theorem State.fetchArgs_mark (s : State) (q : Nat) (c : Cmd) : (s.fetchArgs q c).mark = s.mark := by simp [State.fetchArgs]

@[simp] theorem State.readDone_mark (s : State) (q : Nat) (r : Rd) (bs : List Byte) : (s.readDone q r bs).mark = s.mark := by
  unfold State.readDone
  dsimp only
  (repeat' split) <;> simp

theorem State.command_mark {s : State} {q : Nat} {p : Desc → Bool} {check : State → Desc → Option Status}
    {act : State → Desc → List Byte → State} (hg : ∀ s d b, (act s d b).mark = s.mark) :
    (s.command q p check act).mark = s.mark := by
  unfold State.command
  repeat' split
  all_goals simp [hg]

theorem State.pinFails_mark {s t : State} {cs : List Nat} {k : Nat} {r : Rec} {hostOk : Bool} (h : s.pinFails cs k r hostOk = some t) :
    t.mark = s.mark := by
  unfold State.pinFails at h
  obtain ⟨e, -, he⟩ := List.exists_of_findSome?_eq_some h
  split at he
  · cases he
  · exact State.pageFail_mark he

@[simp] theorem State.putRec_mark (s : State) (t n : Nat) (r : Rec) : (s.putRec t n r).mark = s.mark := by simp [State.putRec]

@[simp] theorem State.admitTo_mark (s : State) (t c : Nat) (r : Rec) : (s.admitTo t c r).mark = s.mark := by simp [State.admitTo]

@[simp] theorem State.define_mark (s : State) (q t : Nat) (r : Rec) (hostOk : Bool) : (s.define q t r hostOk).mark = s.mark := by
  unfold State.define
  dsimp only
  split
  · simp
  · split
    · simp
    · split
      · next h => simp [State.pinFails_mark h]
      · split <;> simp

@[simp] theorem State.putImage_mark (s : State) (t : Nat) (n : Rec) : (s.putImage t n).mark = s.mark := by simp [State.putImage]

@[simp] theorem State.rebind_mark (s : State) (q t : Nat) (n : Rec) (hostOk : Bool) : (s.rebind q t n hostOk).mark = s.mark := by
  unfold State.rebind
  dsimp only
  split
  · simp
  · split
    · simp
    · split
      · simp
      · split
        · simp
        · split
          · next h => simp [State.pinFails_mark h]
          · split <;> simp

@[simp] theorem State.dropQueued_mark (s : State) (t : Nat) : (s.dropQueued t).mark = s.mark := by simp [State.dropQueued]

@[simp] theorem State.remove_mark (s : State) (q t : Nat) : (s.remove q t).mark = s.mark := by simp [State.remove]

@[simp] theorem State.hostPin_mark (s : State) (q c a : Nat) (hostOk : Bool) : (s.hostPin q c a hostOk).mark = s.mark := by
  unfold State.hostPin
  dsimp only
  split
  · simp
  · split
    · next h => simp [State.pageFail_mark h]
    · split <;> simp

@[simp] theorem State.startLine_mark (s : State) (q t0 l : Nat) : (s.startLine q t0 l).mark = s.mark := by simp [State.startLine]

@[simp] theorem State.slotLoad_mark (s : State) (q a slot : Nat) (bs : List Byte) : (s.slotLoad q a slot bs).mark = s.mark := by
  unfold State.slotLoad
  dsimp only
  (repeat' split) <;> simp

@[simp] theorem State.lineSet_mark (s : State) (q l : Nat) (lr : Nat → W32) : (s.lineSet q l lr).mark = s.mark := by simp [State.lineSet]

@[simp] theorem State.partnerSet_mark (s : State) (q p : Nat) (r : Nat → W32) : (s.partnerSet q p r).mark = s.mark := by
  simp [State.partnerSet]

@[simp] theorem State.calSet_mark (s : State) (q k : Nat) (r : Nat → W32) : (s.calSet q k r).mark = s.mark := by simp [State.calSet]

@[simp] theorem State.storeCopyIn_mark (s : State) (off : Nat) (bs : List Byte) : (s.storeCopyIn off bs).mark = s.mark := by
  simp [State.storeCopyIn]

@[simp] theorem State.storeCopyOut_mark (s : State) (off n : Nat) : (s.storeCopyOut off n).1.mark = s.mark := by simp [State.storeCopyOut]

@[simp] theorem State.stepTime_mark (s : State) (dt frac : Nat) : (s.stepTime dt frac).mark = s.mark := by
  simp [State.stepTime]

@[simp] theorem State.askStep_mark (s : State) (st c : Nat) : (s.askStep st c).mark = s.mark := by simp [State.askStep]

@[simp] theorem State.clockSet_mark (s : State) (q st m : Nat) : (s.clockSet q st m).mark = s.mark := by
  unfold State.clockSet
  dsimp only
  (repeat' split) <;> simp

@[simp] theorem State.powerAccept_mark (s : State) (q d : Nat) (on : Bool) : (s.powerAccept q d on).mark = s.mark := by
  simp [State.powerAccept]

@[simp] theorem State.kernelRead_mark (n a : Nat) (s : State) : (s.kernelRead a n).1.mark = s.mark := by
  induction n generalizing s a with
  | zero => rfl
  | succ n ih =>
    unfold State.kernelRead
    split
    · exact mark_of_pair ‹_› (s.busRead_mark 2 a 1 true)
    · next h =>
      have h1 := mark_of_pair h (s.busRead_mark 2 a 1 true)
      split
      all_goals exact (mark_of_pair ‹_› (ih _ _)).trans h1

@[simp] theorem State.copyImage_mark (s : State) (ts : List Nat) (im : List Byte) : (s.copyImage ts im).mark = s.mark := by
  simp [State.copyImage]

@[simp] theorem State.loadFails_mark (s : State) (q : Nat) (n : Fin 4) : (s.loadFails q n).mark = s.mark := by simp [State.loadFails]

@[simp] theorem State.eachByte_mark {s : State} {o : Nat} {bs : List Byte} {g : State → Nat → Byte → State}
    (hg : ∀ s a b, (g s a b).mark = s.mark) : (s.eachByte o bs g).mark = s.mark :=
  State.forEach_mark fun s _ => hg s _ _

@[simp] theorem State.ridgeProg_mark (s : State) (a : Nat) (w : W12) : (s.ridgeProg a w).mark = s.mark := by simp [State.ridgeProg]

@[simp] theorem State.ridgePoke_mark (s : State) (o : Nat) (b : Byte) : (s.ridgePoke o b).mark = s.mark := by
  unfold State.ridgePoke
  repeat' split
  all_goals simp

@[simp] theorem State.framePoke_mark (s : State) (c o : Nat) (b : Byte) : (s.framePoke c o b).mark = s.mark := by simp [State.framePoke]

@[simp] theorem State.clusterPoke_mark (s : State) (c o : Nat) (v m : W32) : (s.clusterPoke c o v m).mark = s.mark := by
  simp [State.clusterPoke]

@[simp] theorem State.mailPoke_mark (s : State) (k i : Nat) (b : Byte) : (s.mailPoke k i b).mark = s.mark := by simp [State.mailPoke]

@[simp] theorem State.latchPoke_mark (s : State) (m o : Nat) (b : Byte) : (s.latchPoke m o b).mark = s.mark := by simp [State.latchPoke]

@[simp] theorem State.localWrite_mark (s : State) (k a : Nat) (b : Byte) :
    (s.localWrite k a b).mark = s.mark := by simp [State.localWrite]

@[simp] theorem State.aliasRead_mark (s : State) (m a len : Nat) : (s.aliasRead m a len).mark = s.mark := by
  unfold State.aliasRead
  split
  · split
    all_goals have h := mark_of_pair ‹_› (s.busRead_mark m a len false)
    all_goals simp [h]
  · rfl

@[simp] theorem State.dmaHalt_mark (s : State) (k : Nat) (f : DmaFail) : (s.dmaHalt k f).mark = s.mark := by simp [State.dmaHalt]

@[simp] theorem State.raiseExc_mark (s : State) (k saved : Nat) (e : Exc) : (s.raiseExc k saved e).mark = s.mark := by
  simp [State.raiseExc]

@[simp] theorem State.portExc_mark (s : State) (detail : Nat) : (s.portExc detail).1.mark = s.mark := by simp [State.portExc]

@[simp] theorem State.fetchWord_mark (s : State) (k a : Nat) : (s.fetchWord k a).1.mark = s.mark := by
  unfold State.fetchWord
  dsimp only
  repeat' split
  all_goals simp

@[simp] theorem State.kcPop_mark (s : State) : s.kcPop.1.mark = s.mark := by
  unfold State.kcPop
  (repeat' split) <;> simp

@[simp] theorem State.kcAnswer_mark (s : State) (k status : Nat) : (s.kcAnswer k status).mark = s.mark := by simp [State.kcAnswer]

@[simp] theorem State.saRead_mark (s : State) : s.saRead.1.mark = s.mark := by
  unfold State.saRead
  split
  all_goals have h := mark_of_pair ‹_› (s.busRead_mark _ _ 1 false)
  all_goals simp [h]

@[simp] theorem State.kernelPortRead_mark (s : State) (p : Nat) : (s.kernelPortRead p).1.mark = s.mark := by simp [State.kernelPortRead]

@[simp] theorem State.portRead_mark (s : State) (k p : Nat) : (s.portRead k p).1.mark = s.mark := by simp [State.portRead]

@[simp] theorem State.kick_mark (s : State) (k : Nat) : (s.kick k).mark = s.mark := by simp [State.kick]

@[simp] theorem State.popWord_mark (s : State) (k : Nat) : (s.popWord k).1.mark = s.mark := by
  unfold State.popWord
  split
  all_goals have h := mark_of_pair ‹_› (s.readData2_mark k _)
  all_goals simp [h]

@[simp] theorem State.loadV_mark (s : State) (k r a : Nat) : (s.loadV k r a).1.mark = s.mark := by
  unfold State.loadV
  split
  all_goals have h := mark_of_pair ‹_› (s.readData_mark k a)
  all_goals simp [h]

theorem andCore_mark {k : Nat} {x : State × Option Exc} {g : Core → Core} (hg : ∀ c, (g c).st = c.st) :
    (andCore k x g).1.mark = x.1.mark := by
  obtain ⟨s, _ | e⟩ := x <;> simp [andCore, hg]

@[simp] theorem State.inPort_mark (s : State) (k r p : Nat) : (s.inPort k r p).1.mark = s.mark := by
  unfold State.inPort
  split
  all_goals have h := mark_of_pair ‹_› (s.portRead_mark k p)
  all_goals simp [h]

@[simp] theorem State.putArgs_mark (s : State) (k : Nat) (bs : List Byte) : (s.putArgs k bs).mark = s.mark := by simp [State.putArgs]

@[simp] theorem State.serve_mark {s : State} {k n : Nat} {denied : Bool} {g : State → State × Nat} (hg : ∀ s, (g s).1.mark = s.mark) :
    (s.serve k n denied g).mark = s.mark := by
  simp [State.serve, hg]

@[simp] theorem State.secondWord_mark (s : State) (k w : Nat) : (s.secondWord k w).mark = s.mark := by
  unfold State.secondWord
  dsimp only
  split
  · rfl
  · split
    all_goals have h := mark_of_pair ‹_› (s.fetchWord_mark k _)
    · simp [h]
    · split <;> simp [h]

@[simp] theorem State.fetchBoundary_mark (s : State) (k : Nat) : (s.fetchBoundary k).mark = s.mark := by
  unfold State.fetchBoundary
  dsimp only
  split
  all_goals have h := mark_of_pair ‹_› (s.fetchWord_mark k _)
  · simp [h]
  · split <;> simp [h]

@[simp] theorem State.boundary_mark (s : State) (k : Nat) : (s.boundary k).mark = s.mark := by
  unfold State.boundary
  (repeat' split) <;> simp

end Sys2Proof.Machine
end

section
/-!
PROOF. Proofs/KeptCores.lean: no operation makes a core Kept short of a reset of the Ridge (R249). What has a write of some K, or a
reset of the Ridge, in it goes through `KeptFrom`; everything else leaves the privilege mark.
-/
namespace Sys2Proof.Machine

/-- What R249 says of a mark that is reached from state `b`: a core that is Kept was Kept in `b`, or it is the Ridge and its memories are
being cleared; and while they are, the Ridge is Kept. -/
def KeptFrom (b : State) (m : (Nat → Bool) × Bool) : Prop :=
  (∀ k, m.1 k = true → b.mark.1 k = true ∨ k = 64 ∧ m.2 = true) ∧ (m.2 = true → m.1 64 = true)

theorem State.setCore_marked (s : State) (k : Nat) (v : Core) :
    (s.setCore k v).mark = (fun j => if j = k then bit v.st 6 else s.mark.1 j, s.mark.2) := by
  refine Prod.ext (funext fun j => ?_) rfl
  show bit ((s.setCore k v).core j).st 6 = _
  rw [State.core_setCore, apply_ite Core.st, apply_ite (bit · 6), State.core_k]

namespace KeptFrom

variable {b s : State}

/-- A core other than a Ridge that is being cleared may lose its K. -/
theorem setCore {k : Nat} {v : Core} (h : KeptFrom b s.mark) (hk : k = 64 → s.mark.2 = false)
    (hv : bit v.st 6 = true → s.mark.1 k = true) : KeptFrom b (s.setCore k v).mark := by
  obtain ⟨hup, hclr⟩ := h
  rw [State.setCore_marked]
  refine ⟨fun j hj => ?_, fun hc => ?_⟩
  · by_cases hjk : j = k
    · subst hjk
      exact hup j (hv (by simpa using hj))
    · exact hup j (by simpa [hjk] using hj)
  · have hne : ¬ (64 = k) := fun e => by simp [hk e.symm] at hc
    simpa [hne] using hclr hc

theorem forEach {α : Type} {l : List α} {g : State → α → State} (h : KeptFrom b s.mark)
    (hg : ∀ s, ∀ x ∈ l, KeptFrom b s.mark → KeptFrom b (g s x).mark) : KeptFrom b (s.forEach l g).mark := by
  unfold State.forEach
  induction l generalizing s with
  | nil => exact h
  | cons x l ih => exact ih (hg s x List.mem_cons_self h) fun s y hy => hg s y (List.mem_cons_of_mem x hy)

theorem of_pair {β : Type} {x : State × β} {y : β} (hx : KeptFrom b x.1.mark) (h : x = (s, y)) : KeptFrom b s.mark := by
  rw [h] at hx
  exact hx

theorem ite {c : Prop} [Decidable c] {t : State} (hs : KeptFrom b s.mark) (ht : KeptFrom b t.mark) :
    KeptFrom b (if c then s else t).mark := by
  split <;> assumption

end KeptFrom

/-! ### The start of cores (R251) -/

@[simp] theorem Core.fresh_k (k : Bool) : bit (Core.fresh k).st 6 = k := by cases k <;> decide

@[simp] theorem Core.restart_k (c : Core) (k : Bool) : bit (c.restart k).st 6 = k := Core.fresh_k k

theorem State.leaveReset_marked (s : State) (k : Nat) :
    (s.leaveReset k).mark = (fun j => if j = k then decide (k = 64) else s.mark.1 j, s.mark.2) := by
  unfold State.leaveReset
  dsimp only
  split
  all_goals have h := mark_of_pair ‹_› (State.readData2_mark _ k 0)
  all_goals rw [State.emptyStack_mark, State.updCore, State.setCore_marked] at h
  all_goals simp [h]

theorem State.leaveReset_keptFrom {b s : State} {k : Nat} (h : KeptFrom b s.mark) (hk : k ≠ 64) : KeptFrom b (s.leaveReset k).mark := by
  obtain ⟨hup, hclr⟩ := h
  rw [State.leaveReset_marked]
  refine ⟨fun j hj => ?_, fun hc => by simpa [hk.symm] using hclr hc⟩
  by_cases hjk : j = k
  · simp [hjk, hk] at hj
  · exact hup j (by simpa [hjk] using hj)

theorem State.startGroup_keptFrom {b s : State} {g : Nat} (h : KeptFrom b s.mark) (hg : g < 4) : KeptFrom b (s.startGroup g).mark := by
  refine h.forEach fun s k hk h => ?_
  obtain ⟨i, hi, rfl⟩ := List.mem_map.1 hk
  have := List.mem_range.1 hi
  exact (State.leaveReset_keptFrom h (by omega)).ite h

theorem State.writeShgRun_keptFrom {b s : State} {w : Nat} (v : W32) (h : KeptFrom b s.mark) (hw : w < 2) :
    KeptFrom b (s.writeShgRun w v).mark := by
  refine KeptFrom.forEach (by simpa using h) fun s i hi h => ?_
  have := List.mem_range.1 hi
  exact h.ite (((State.leaveReset_keptFrom h (by omega)).ite h).ite (by simpa using h))

/-! ### Resets of the Ridge (R325, R329) -/

theorem State.softRidge_keptFrom {b s : State} (h : KeptFrom b s.mark) : KeptFrom b s.softRidge.mark := by
  unfold State.softRidge
  split
  · exact h
  · dsimp only
    have hup := h.1
    simp only [State.bootState_mark, State.emptyStack_mark, State.dropCalls_mark, State.setClearing_mark, State.setReg_mark, State.updCore,
      State.setCore_marked]
    refine ⟨fun j hj => ?_, fun _ => by simp⟩
    by_cases hjk : j = 64
    · exact .inr ⟨hjk, rfl⟩
    · exact (hup j (by simpa [hjk] using hj)).imp_right fun e => absurd e.1 hjk

theorem State.heldReset_mark (s : State) : s.heldReset.mark = (fun k => decide (k = 64), true) := by
  have hreset : ∀ k, bit (Core.reset k).st 6 = decide (k = 64) := fun k => Core.fresh_k _
  unfold State.heldReset
  rw [State.forEach_mark (fun t l => State.updLane_mark t l _)]
  exact Prod.ext (funext hreset) rfl

theorem State.powerOn_mark (s : State) (mode : Nat) : (s.powerOn mode).mark = (fun k => decide (k = 64), true) := by
  rw [← s.heldReset_mark]
  simp [State.powerOn]

theorem State.aonOff_mark (s : State) : s.aonOff.mark = (fun k => decide (k = 64), true) := by
  rw [← s.heldReset_mark]
  simp [State.aonOff]

/-- After a reset of the device the Ridge alone is Kept, and its memories are being cleared. -/
theorem keptFrom_reset (b : State) : KeptFrom b (fun k => decide (k = 64), true) :=
  ⟨fun _ hk => .inr ⟨of_decide_eq_true hk, rfl⟩, fun _ => rfl⟩

theorem State.ridgeClear_mark (s : State) : s.ridgeClear.mark = (fun j => if j = 64 then true else s.mark.1 j, false) := by
  simp [State.ridgeClear, State.leaveReset_marked]

/-- The end of clearing: the Ridge, Kept while it lasted, stays Kept as it leaves reset. -/
theorem State.clearDone_keptFrom {s : State} (d : Nat) (h : KeptFrom s s.mark) : KeptFrom s (s.clearDone d).mark := by
  have hdom : KeptFrom s (s.clearMemory d |>.setDomSt d .on).mark := by simpa using h
  unfold State.clearDone
  dsimp only
  split
  · split
    next hc =>
      have hclr : s.mark.2 = true := by simp at hc; exact hc.1.1
      rw [State.ridgeClear_mark]
      refine ⟨fun j hj => .inl ?_, fun hf => by simp at hf⟩
      by_cases hj64 : j = 64
      · exact hj64 ▸ h.2 hclr
      · simpa [hj64] using hj
    · exact h
  · split
    · split
      · simpa using hdom
      · rw [State.settled_mark]
        split
        · exact State.startGroup_keptFrom (by simpa using h) (by omega)
        · simpa using h
    · split
      next hg =>
        simp only [Bool.and_eq_true, decide_eq_true_eq] at hg
        exact State.startGroup_keptFrom (by simpa using h) (by omega)
      · exact h

/-! ### Register writes (R3, R299) -/

/-- A RUN register is one of the two that stand in the register map. -/
def Reg.runInMap : Reg → Bool
  | .shgRun w => decide (w < 2)
  | _ => true

theorem regRows_runInMap : regRows.all (fun row => (List.range row.2.2.1).all (fun n => (row.2.2.2 n).runInMap)) = true := by
  decide +kernel

theorem decodeReg_runInMap {off : Nat} {r : Reg} (h : decodeReg off = some r) : r.runInMap = true := by
  obtain ⟨row, hrow, hfind⟩ := List.exists_of_findSome?_eq_some h
  unfold RegRow.find at hfind
  split at hfind
  next hin =>
    have hn : (off - row.1) / row.2.1 < row.2.2.1 := Nat.div_lt_of_lt_mul (by omega)
    rw [← Option.some.inj hfind]
    exact List.all_eq_true.1 (List.all_eq_true.1 regRows_runInMap row hrow) _ (List.mem_range.2 hn)
  · cases hfind

theorem State.writeReg_keptFrom {b s : State} (master : Nat) {r : Reg} (v m : W32) (h : KeptFrom b s.mark) (hr : r.runInMap = true) :
    KeptFrom b (s.writeReg master r v m).mark := by
  cases r
  case shgRun w => exact State.writeShgRun_keptFrom _ h (of_decide_eq_true hr)
  case softRst =>
    have h1 : KeptFrom b (if bit (v &&& m) 0 then s.softRidge else s).mark := (State.softRidge_keptFrom h).ite h
    simpa [State.writeReg] using h1
  all_goals
    unfold State.writeReg
    dsimp only
    repeat' split
    all_goals simpa using h

/-! ### Accesses to the address map (R226, R302) -/

theorem busTarget_shingle {a o : Nat} (h : busTarget a = (.shingle, o)) : o < 0x4000000 := by
  unfold busTarget at h
  (repeat' split at h) <;> simp at h
  omega

theorem Core.imgPoke_k {c : Core} {k : Nat} (o : Nat) (b : Byte) (hk : k ≠ 64) (h : bit (c.imgPoke k o b).st 6 = true) :
    bit c.st 6 = true := by
  unfold Core.imgPoke at h
  by_cases ho : o = 20
  · subst ho
    simp [hk] at h
    split at h
    · exact h
    · cases hsh : c.shadow <;> simp [hsh, bit] at h
  · simpa [ho] using h

theorem State.shinglePoke_keptFrom {b s : State} {k : Nat} (o : Nat) (x : Byte) (h : KeptFrom b s.mark) (hk : k ≠ 64) :
    KeptFrom b (s.shinglePoke k o x).mark := by
  unfold State.shinglePoke
  repeat' split
  · simpa using h
  · simpa using h
  · simpa using h
  · exact h.setCore (fun e => absurd e hk) (Core.imgPoke_k _ x hk)

theorem State.writeOff_keptFrom {b s : State} (master off : Nat) (v m : W32) (h : KeptFrom b s.mark) :
    KeptFrom b (s.writeOff master off v m).mark := by
  unfold State.writeOff
  split
  · next hr => exact State.writeReg_keptFrom master v m h (decodeReg_runInMap hr)
  · exact h

theorem State.poke_keptFrom {b s : State} (m a : Nat) (bs : List Byte) (h : KeptFrom b s.mark) : KeptFrom b (s.poke m a bs).mark := by
  unfold State.poke
  split
  case h_5 o ho =>
    have := busTarget_shingle ho
    exact h.forEach fun s i _ h => State.shinglePoke_keptFrom _ _ h (by omega)
  case h_6 => exact h.forEach fun s w _ h => State.writeOff_keptFrom _ _ _ _ h
  all_goals simpa using h

theorem State.sysWrite_keptFrom {b s : State} (m a : Nat) (bs : List Byte) (dma : Bool) (h : KeptFrom b s.mark) :
    KeptFrom b (s.sysWrite m a bs dma).1.mark := by
  unfold State.sysWrite
  repeat' split
  · simpa using h
  · simpa using h
  · simpa using h
  · exact State.poke_keptFrom m a bs h

/-! ### DMA (R295 to R297) -/

theorem State.dmaPut_keptFrom {b : State} (n fuel : Nat) (bs : List Byte) {s : State} (h : KeptFrom b s.mark) :
    KeptFrom b (s.dmaPut n fuel bs).1.mark := by
  induction fuel generalizing s bs with
  | zero => exact h
  | succ fuel ih =>
    unfold State.dmaPut
    dsimp only
    split
    · exact h
    · split
      all_goals have h1 := KeptFrom.of_pair (State.sysWrite_keptFrom _ _ _ _ h) ‹_›
      · exact h1
      · exact ih _ (by simpa using h1)

theorem State.dmaTurn_keptFrom {b s : State} (n rem : Nat) (h : KeptFrom b s.mark) : KeptFrom b (s.dmaTurn n rem).1.mark := by
  unfold State.dmaTurn
  dsimp only
  split
  all_goals have h1 := mark_of_pair ‹_› (State.busRead_mark _ _ _ _ true)
  all_goals rw [← show _ = s.mark from h1.trans (by simp)] at h
  · exact h
  · exact State.dmaPut_keptFrom _ _ _ h

theorem State.dmaTurns_keptFrom {b : State} (n fuel rem : Nat) {s : State} (h : KeptFrom b s.mark) :
    KeptFrom b (s.dmaTurns n fuel rem).1.mark := by
  induction fuel generalizing s rem with
  | zero => exact h
  | succ fuel ih =>
    unfold State.dmaTurns
    dsimp only
    split
    · exact h
    · split
      · exact h
      · next k _ =>
        generalize (if k = n then rem else (s.dma k).cnt) = r
        split
        · exact ih rem (by simpa using h)
        · split
          · next hx => exact (State.dmaTurn_keptFrom _ _ h).of_pair hx
          · next hx => exact ih _ ((State.dmaTurn_keptFrom _ _ h).of_pair hx)

theorem State.dmaRun_keptFrom {b s : State} (n rem : Nat) (h : KeptFrom b s.mark) : KeptFrom b (s.dmaRun n rem).1.mark := by
  unfold State.dmaRun
  split
  all_goals have h1 := KeptFrom.of_pair (State.dmaTurns_keptFrom _ _ _ h) ‹_›
  all_goals simpa using h1

/-! ### Stores and ports of a core (R223, R225, R238) -/

theorem State.writeData_keptFrom {b s : State} (k a : Nat) (x : Byte) (h : KeptFrom b s.mark) :
    KeptFrom b (s.writeData k a x).1.mark := by
  unfold State.writeData
  split
  · simpa using h
  · exact State.sysWrite_keptFrom _ _ _ _ h

theorem State.writeData2_keptFrom {b s : State} (k a : Nat) (lo hi : Byte) (h : KeptFrom b s.mark) :
    KeptFrom b (s.writeData2 k a lo hi).1.mark := by
  unfold State.writeData2
  dsimp only
  split
  · next he => rw [State.windowChecks_mark he]; exact h
  · split
    · split
      · exact KeptFrom.of_pair (State.writeData_keptFrom _ _ _ h) ‹_›
      · next h1 =>
        have h1 := KeptFrom.of_pair (State.writeData_keptFrom _ _ _ h) h1
        split
        all_goals exact KeptFrom.of_pair (State.writeData_keptFrom _ _ _ h1) ‹_›
    · split
      · simpa using h
      · exact State.sysWrite_keptFrom _ _ _ _ h

theorem State.storeV_keptFrom {b s : State} (k a : Nat) (x : Byte) (h : KeptFrom b s.mark) : KeptFrom b (s.storeV k a x).1.mark := by
  unfold State.storeV
  split
  all_goals exact KeptFrom.of_pair (State.writeData_keptFrom _ _ _ h) ‹_›

theorem andCore_keptFrom {b : State} {k : Nat} {x : State × Option Exc} {g : Core → Core} (h : KeptFrom b x.1.mark)
    (hg : ∀ c, (g c).st = c.st) :
    KeptFrom b (andCore k x g).1.mark := by
  rw [andCore_mark hg]
  exact h

theorem State.storeOrUndo_keptFrom {b s s1 : State} (k a : Nat) (x : Byte) {g : Core → Core} (h : KeptFrom b s.mark)
    (h1 : KeptFrom b s1.mark)
    (hg : ∀ c, (g c).st = c.st) : KeptFrom b (s.storeOrUndo s1 k a x g).1.mark := by
  unfold State.storeOrUndo
  split
  · have h2 := KeptFrom.of_pair (State.storeV_keptFrom k a x h1) ‹_›
    simpa [hg] using h2
  · exact State.storeV_keptFrom k a x h

theorem State.pushWord_keptFrom {b s : State} (k : Nat) (v : W16) (h : KeptFrom b s.mark) : KeptFrom b (s.pushWord k v).1.mark := by
  unfold State.pushWord
  dsimp only
  split
  all_goals have h1 := KeptFrom.of_pair (State.writeData2_keptFrom _ _ _ _ h) ‹_›
  all_goals simpa using h1

theorem State.callTo_keptFrom {b s : State} (k : Nat) (a : W16) (h : KeptFrom b s.mark) : KeptFrom b (s.callTo k a).1.mark := by
  unfold State.callTo
  split
  all_goals have h1 := KeptFrom.of_pair (State.pushWord_keptFrom _ _ h) ‹_›
  all_goals simpa using h1

theorem State.saWrite_keptFrom {b s : State} (x : Byte) (h : KeptFrom b s.mark) : KeptFrom b (s.saWrite x).1.mark := by
  unfold State.saWrite
  split
  all_goals have h1 := KeptFrom.of_pair (State.sysWrite_keptFrom _ _ _ _ h) ‹_›
  all_goals simpa using h1

@[simp] theorem Core.portPoke_st (c : Core) (ridge : Bool) (p : Nat) (b : Byte) : (c.portPoke ridge p b).st = c.st := by
  unfold Core.portPoke
  repeat' split
  all_goals rfl

theorem State.portWrite_keptFrom {b s : State} (k p : Nat) (x : Byte) (h : KeptFrom b s.mark) :
    KeptFrom b (s.portWrite k p x).1.mark := by
  unfold State.portWrite
  split
  · split
    · unfold State.kernelPortWrite
      repeat' split
      case isTrue.isTrue.isFalse.isFalse.isFalse.isTrue => exact State.saWrite_keptFrom x h
      all_goals simpa using h
    · exact h
  · repeat' split
    all_goals simpa using h

theorem State.outPort_keptFrom {b s : State} (k r p : Nat) (h : KeptFrom b s.mark) : KeptFrom b (s.outPort k r p).1.mark := by
  unfold State.outPort
  split
  all_goals have h1 := KeptFrom.of_pair (State.portWrite_keptFrom _ _ _ h) ‹_›
  all_goals simpa using h1

/-! ### Host windows and queue commands -/

theorem State.fromHost_keptFrom {b s : State} {g : State → State} (h : KeptFrom b s.mark) (hg : KeptFrom b (g s).mark) :
    KeptFrom b (s.fromHost g).mark := by
  unfold State.fromHost
  repeat' split
  · exact h
  · simpa using h
  · exact hg

theorem State.command_keptFrom {b s : State} {q : Nat} {p : Desc → Bool} {check : State → Desc → Option Status}
    {act : State → Desc → List Byte → State} (h : KeptFrom b s.mark) (hg : ∀ d bs, KeptFrom b (act s d bs).mark) :
    KeptFrom b (s.command q p check act).mark := by
  unfold State.command
  repeat' split
  · exact h
  · simpa using h
  · simpa using h
  · exact hg _ _

theorem State.setRuns_keptFrom {b s : State} (ts : List Nat) (x : Bool) (h : KeptFrom b s.mark) : KeptFrom b (s.setRuns ts x).mark := by
  refine h.forEach fun s w hw h => State.writeShgRun_keptFrom _ h ?_
  have : w = 0 ∨ w = 1 := by simpa using hw
  omega

theorem State.shingleLoad_keptFrom {b s : State} (q : Nat) (bs : List Byte) (h : KeptFrom b s.mark) :
    KeptFrom b (s.shingleLoad q bs).mark := by
  have h1 := State.setRuns_keptFrom (loadTargets bs) false h
  unfold State.shingleLoad
  dsimp only
  split
  · simpa using h
  · split
    · simpa using h1
    · split
      all_goals have h2 := mark_of_pair ‹_› (State.kernelRead_mark _ _ _)
      · split <;> simpa [h2] using h1
      · split
        · simpa [h2] using h1
        · unfold State.loadEnds
          dsimp only
          (repeat' split) <;> simp [h2]
          · exact h1
          · exact h1
          · exact State.setRuns_keptFrom _ _ (by simpa [h2] using h1)

/-! ### Instructions of the cores -/

@[simp] theorem Core.setFlags_k (c : Core) (z n cf v : Bool) : bit (c.setFlags z n cf v).st 6 = bit c.st 6 := by
  have hflags : bit (BitVec.ofNat 8 (b2n z + 2 * b2n n + 4 * b2n cf + 8 * b2n v) : Byte) 6 = false := by
    revert z n cf v
    decide
  unfold Core.setFlags bit at *
  rw [BitVec.getLsbD_or, hflags, BitVec.getLsbD_and, Bool.or_false]
  exact Bool.and_true _

@[simp] theorem Core.flagsOf_k (c : Core) (r : ByteRes) : bit (c.flagsOf r).st 6 = bit c.st 6 := c.setFlags_k _ _ _ _

@[simp] theorem Core.putRes_k (c : Core) (d : Nat) (r : ByteRes) : bit (c.putRes d r).st 6 = bit c.st 6 := by simp [Core.putRes]

@[simp] theorem Core.setZ_k (c : Core) (z : Bool) : bit (c.setZ z).st 6 = bit c.st 6 := by simp [Core.setZ]

theorem Core.writeSt_k {c : Core} {v : Byte} (h : bit (c.writeSt v).st 6 = true) : bit c.st 6 = true := by
  have hgm : ∀ x : Bool, (if x then 0x80 else 0 : Byte).getLsbD 6 = false := by decide
  unfold Core.writeSt bit at h
  rw [BitVec.getLsbD_or, BitVec.getLsbD_or, hgm, BitVec.getLsbD_and, BitVec.getLsbD_and, BitVec.getLsbD_and] at h
  simp at h
  simpa [bit] using h.2

@[simp] theorem Core.setPz_st (c : Core) (x : W16) : (c.setPz x).st = c.st := by
  unfold Core.setPz
  split <;> rfl

@[simp] theorem Core.setPtr_st (c : Core) (p : Nat) (x : W16) : (c.setPtr p x).st = c.st := by
  unfold Core.setPtr
  repeat' split
  all_goals simp

@[simp] theorem Core.setPair_st (c : Core) (n : Nat) (x : W16) : (c.setPair n x).st = c.st := by simp [Core.setPair]

@[simp] theorem Core.stepPtr_k (c : Core) (p : Nat) (x : W16) : bit (c.stepPtr p x).st 6 = bit c.st 6 := by simp [Core.stepPtr]

@[simp] theorem Core.modeStep_st (c : Core) (p m : Nat) : (c.modeStep p m).st = c.st := by
  unfold Core.modeStep
  repeat' split
  all_goals simp

@[simp] theorem Core.iterated_st (c : Core) (stop : Bool) : (c.iterated stop).st = c.st := by
  unfold Core.iterated
  dsimp only
  split <;> rfl

@[simp] theorem State.spent_st (s : State) (k n : Nat) : (s.spent k n).st = (s.core k).st := rfl

/-- The Ridge executes only while its memories are not being cleared (R162, R325). -/
theorem State.shgReady_clear {s : State} {k : Nat} (h : s.shgReady k = true) (hk : k = 64) : s.mark.2 = false := by
  subst hk
  simp [State.shgReady, State.coreRuns] at h
  exact h.1.2.2

section
variable {b s : State} {k cyc : Nat} {res : Bool} {body : State → State × Option Exc}

theorem State.shgRun_keptFrom {words : Nat} (h : KeptFrom b s.mark)
    (hg : ∀ t : State, t.mark = s.mark → KeptFrom b (body t).1.mark) : KeptFrom b (s.shgRun k words cyc res body).mark := by
  unfold State.shgRun
  dsimp only
  split
  all_goals have h1 := mark_of_pair ‹_› (s.fetchWord_mark k _)
  · simpa [h1] using h
  · split
    · simpa [h1] using h
    · split
      all_goals
        have h2 := (mark_of_pair (m := s.mark) ‹_› (by split <;> simp [h1]))
      · simpa [h2] using h
      · split
        · next hx => simpa using (hg _ (by simp [h2])).of_pair hx
        · next hx => simpa using (hg _ (by simp [h2])).of_pair hx

theorem State.shg_keptFrom {words : Nat} (h : KeptFrom b s.mark)
    (hg : ∀ t : State, KeptFrom b t.mark → (k = 64 → t.mark.2 = false) → KeptFrom b (body t).1.mark) :
    KeptFrom b (s.shg k words cyc res body).mark := by
  unfold State.shg
  split
  · exact h
  next hr =>
    have hclr := State.shgReady_clear (s := s) (k := k) (by simpa using hr)
    rw [State.afterStop_mark]
    exact State.shgRun_keptFrom h fun t ht => hg t (ht ▸ h) (ht ▸ hclr)

theorem State.shgPlain_keptFrom {words : Nat} {g : Core → Core} (h : KeptFrom b s.mark)
    (hg : ∀ c, bit (g c).st 6 = true → bit c.st 6 = true) : KeptFrom b (s.shgPlain k words cyc res g).mark :=
  State.shg_keptFrom h fun _ ht hk => ht.setCore hk (hg _)

theorem State.blockRun_keptFrom {stop : Core → Bool} (h : KeptFrom b s.mark)
    (hg : ∀ t : State, t.mark = s.mark → KeptFrom b (body t).1.mark) : KeptFrom b (s.blockRun k cyc res stop body).mark := by
  unfold State.blockRun
  dsimp only
  split
  all_goals have h1 := mark_of_pair ‹_› (s.fetchWord_mark k _)
  · simpa [h1] using h
  · split
    · simpa [h1] using h
    · split
      · simpa [h1] using h
      · split
        · next hx =>
          have h3 := (hg _ (by simp [h1])).of_pair hx
          rw [State.updCore, State.setCore_mark]
          · exact h3
          · (repeat' split) <;> simp
        · next hx => simpa using (hg _ (by simp [h1])).of_pair hx

theorem State.shgBlock_keptFrom {stop : Core → Bool} (h : KeptFrom b s.mark)
    (hg : ∀ t : State, KeptFrom b t.mark → KeptFrom b (body t).1.mark) : KeptFrom b (s.shgBlock k cyc res stop body).mark := by
  unfold State.shgBlock
  split
  · exact h
  · rw [State.afterStop_mark, State.wdBoundary_mark]
    exact State.blockRun_keptFrom h fun t ht => hg t (ht ▸ h)

theorem State.ridgePort_keptFrom (h : KeptFrom b s.mark) (hg : KeptFrom b (body s).1.mark) : KeptFrom b (s.ridgePort body).mark := by
  have hx : KeptFrom b (if s.kept = true then body s else s.portExc 0).1.mark := by
    split
    · exact hg
    · simpa using h
  unfold State.ridgePort
  split
  · exact h
  · split
    all_goals have h1 := hx.of_pair ‹_›
    all_goals simpa using h1

end

/-! ### The bodies of the commands that write a K, or that act on the device through a window -/

/-- Every state that the answer goes on in has a mark that R249 allows from `b`. -/
def Answer.NeverRises (b : State) (a : Answer) : Prop := ∀ t, a = .next t → KeptFrom b t.mark

theorem Answer.neverRises_next {b t : State} (h : KeptFrom b t.mark) : Answer.NeverRises b (.next t) := by
  rintro _ ⟨⟩
  exact h

theorem Answer.neverRises_fault (b : State) (f : Fault) : Answer.NeverRises b (.fault f) := by rintro _ ⟨⟩

section
variable {s : State} (h : KeptFrom s s.mark)
include h

theorem Answer.neverRises_of_mark {t : State} (ht : t.mark = s.mark) : Answer.NeverRises s (.next t) :=
  Answer.neverRises_next (ht ▸ h)

theorem execShgRfe_neverRises (k : Fin 65) : Answer.NeverRises s (execShgRfe k s) := by
  refine Answer.neverRises_next (State.shg_keptFrom h fun t ht hk => ?_)
  dsimp only
  rw [State.raiseIf_mark, State.updCore]
  refine ht.setCore hk fun hb => ?_
  dsimp only at hb
  rw [bit_setBit_same _ (by decide)] at hb
  simpa using (Bool.and_eq_true _ _ ▸ hb : _ ∧ (t.core k).kept = true).2

theorem execShgWait_neverRises (k : Fin 65) : Answer.NeverRises s (execShgWait k s) := by
  refine Answer.neverRises_next (State.shg_keptFrom h fun t ht _ => ?_)
  split <;> simpa using ht

theorem execShgRet_neverRises (k : Fin 65) : Answer.NeverRises s (execShgRet k s) := by
  refine Answer.neverRises_next (State.shg_keptFrom h fun t ht _ => ?_)
  split
  all_goals have h1 := mark_of_pair ‹_› (t.popWord_mark k)
  all_goals simpa [h1] using ht

theorem execShgPopp_neverRises (k : Fin 65) (p : Fin 8) : Answer.NeverRises s (execShgPopp k p s) := by
  refine Answer.neverRises_next (State.shg_keptFrom h fun t ht _ => ?_)
  split
  all_goals have h1 := mark_of_pair ‹_› (t.popWord_mark k)
  all_goals simpa [h1] using ht

theorem execShgKcall_neverRises (k : Fin 65) (n : Fin 16) : Answer.NeverRises s (execShgKcall k n s) := by
  refine Answer.neverRises_next (State.shg_keptFrom h fun t ht _ => ?_)
  dsimp only
  split
  · simpa using ht
  · rw [State.updCore, State.setCore_mark]
    · simpa using ht
    · split <;> simp

theorem execShgLdp_neverRises (k : Fin 65) (r : Fin 8) : Answer.NeverRises s (execShgLdp k r s) := by
  refine Answer.neverRises_next (State.shg_keptFrom h fun t ht _ => ?_)
  dsimp only
  repeat' split
  all_goals simpa using ht

theorem execShgStp_neverRises (k : Fin 65) (r : Fin 8) : Answer.NeverRises s (execShgStp k r s) := by
  refine Answer.neverRises_next (State.shg_keptFrom h fun t ht _ => ?_)
  dsimp only
  repeat' split
  all_goals simpa using ht

theorem execShgCpyb_neverRises (k : Fin 65) : Answer.NeverRises s (execShgCpyb k s) := by
  refine Answer.neverRises_next (State.shgBlock_keptFrom h fun t ht => ?_)
  dsimp only
  split
  all_goals have h1 := mark_of_pair ‹_› (t.readData_mark k _)
  · exact h1 ▸ ht
  · exact State.storeOrUndo_keptFrom _ _ _ ht (h1 ▸ ht) fun _ => rfl

theorem execShgFilb_neverRises (k : Fin 65) : Answer.NeverRises s (execShgFilb k s) :=
  Answer.neverRises_next (State.shgBlock_keptFrom h fun _ ht => andCore_keptFrom (State.storeV_keptFrom _ _ _ ht) fun _ => rfl)

theorem execShgCmpb_neverRises (k : Fin 65) : Answer.NeverRises s (execShgCmpb k s) := by
  refine Answer.neverRises_next (State.shgBlock_keptFrom h fun t ht => ?_)
  dsimp only
  split
  · next hx => exact mark_of_pair hx (t.readData_mark k _) ▸ ht
  next hx =>
    have h1 := mark_of_pair hx (t.readData_mark k _)
    split
    · simpa using ht
    next hy =>
      have h2 := (mark_of_pair hy (State.readData_mark _ k _)).trans h1
      simpa [h2] using ht

theorem execShgPrdb_neverRises (k : Fin 65) : Answer.NeverRises s (execShgPrdb k s) := by
  refine Answer.neverRises_next (State.shgBlock_keptFrom h fun t ht => ?_)
  dsimp only
  split
  all_goals have h1 := mark_of_pair ‹_› (t.portRead_mark k _)
  · simpa [h1] using ht
  · exact State.storeOrUndo_keptFrom _ _ _ ht (h1 ▸ ht) fun _ => rfl

theorem execShgPwrb_neverRises (k : Fin 65) : Answer.NeverRises s (execShgPwrb k s) := by
  refine Answer.neverRises_next (State.shgBlock_keptFrom h fun t ht => ?_)
  dsimp only
  split
  · next hx => exact mark_of_pair hx (t.readData_mark k _) ▸ ht
  next hx =>
    have h1 := mark_of_pair hx (t.readData_mark k _)
    split
    · next hy => simpa using (State.portWrite_keptFrom _ _ _ (h1 ▸ ht)).of_pair hy
    · next hy => simpa using (State.portWrite_keptFrom _ _ _ (h1 ▸ ht)).of_pair hy

theorem execShgLd_neverRises (k : Fin 65) (p m : Fin 4) (r : Fin 8) : Answer.NeverRises s (execShgLd k p m r s) := by
  refine Answer.neverRises_next (State.shgBlock_keptFrom h fun t ht => andCore_keptFrom ?_ fun c => c.modeStep_st p m)
  split
  · split
    all_goals have h1 := mark_of_pair ‹_› (t.readData2_mark k _)
    all_goals simpa [h1] using ht
  · simpa using ht

theorem execShgSt_neverRises (k : Fin 65) (p m : Fin 4) (r : Fin 8) : Answer.NeverRises s (execShgSt k p m r s) := by
  refine Answer.neverRises_next (State.shgBlock_keptFrom h fun t ht => andCore_keptFrom ?_ fun c => c.modeStep_st p m)
  split
  · split
    · next hx => exact (State.writeData2_keptFrom _ _ _ _ ht).of_pair hx
    · next hx => exact (State.writeData2_keptFrom _ _ _ _ ht).of_pair hx
  · exact State.storeV_keptFrom _ _ _ ht

theorem execSaData_neverRises (wr : Bool) (r : Fin 8) : Answer.NeverRises s (execSaData wr r s) := by
  refine Answer.neverRises_next (State.ridgePort_keptFrom h ?_)
  split
  · split
    · next hx => simpa using (State.saWrite_keptFrom _ h).of_pair hx
    · next hx => exact (State.saWrite_keptFrom _ h).of_pair hx
  · split
    all_goals have h1 := mark_of_pair ‹_› s.saRead_mark
    all_goals simpa [h1] using h

theorem execDmaAbort_neverRises (n : Fin 16) (moved : Nat) : Answer.NeverRises s (execDmaAbort n moved s) := by
  have hrun := State.dmaRun_keptFrom n (Nat.min moved (s.dma n).cnt) h
  exact Answer.neverRises_next (KeptFrom.ite (KeptFrom.ite (by simpa using hrun) hrun) h)

theorem execDmaDone_neverRises (n : Fin 16) : Answer.NeverRises s (execDmaDone n s) := by
  have hrun := State.dmaRun_keptFrom n (s.dma n).cnt h
  exact Answer.neverRises_next (KeptFrom.ite (KeptFrom.ite (by simpa using hrun) hrun) h)

theorem execDmaStop_neverRises (n : Fin 16) : Answer.NeverRises s (execDmaStop n s) :=
  Answer.neverRises_next (KeptFrom.ite (KeptFrom.ite h (State.dmaRun_keptFrom n (s.dma n).cnt h)) h)

theorem execCqCfg_neverRises (q : Option (Fin 64)) (v : W32) : Answer.NeverRises s (execCqCfg q v s) := by
  refine Answer.neverRises_next (State.fromHost_keptFrom h ?_)
  cases q <;> exact State.writeReg_keptFrom _ _ _ h rfl

theorem execRegionSet_neverRises (q : Fin 64) : Answer.NeverRises s (execRegionSet q s) := by
  refine Answer.neverRises_next (State.command_keptFrom h fun d bs => ?_)
  simpa using State.writeReg_keptFrom _ _ _ (State.writeReg_keptFrom _ _ _ h rfl) rfl

theorem execRegWrite_neverRises (q : Fin 64) : Answer.NeverRises s (execRegWrite q s) := by
  refine Answer.neverRises_next (State.command_keptFrom h fun d bs => ?_)
  simpa using State.writeOff_keptFrom _ _ _ _ h

theorem execPorstN_neverRises (mode : BitVec 2) : Answer.NeverRises s (execPorstN mode s) := by
  refine Answer.neverRises_next (h.ite ?_)
  rw [State.powerOn_mark]
  exact keptFrom_reset s

omit h in
theorem execVddAonLoss_neverRises : Answer.NeverRises s (execVddAonLoss s) := by
  refine Answer.neverRises_next ?_
  rw [State.aonOff_mark]
  exact keptFrom_reset s

end

/-! ### The other commands that match on their own state -/

section
variable {s : State} (h : KeptFrom s s.mark)
include h

theorem execTimeRelease_neverRises (k : Fin 4096) : Answer.NeverRises s (execTimeRelease k s) := by
  refine Answer.neverRises_of_mark h ?_
  split <;> simp

theorem execBeDrop_neverRises (k : Fin 4096) : Answer.NeverRises s (execBeDrop k s) := by
  refine Answer.neverRises_of_mark h ?_
  split <;> simp

theorem execTrap_neverRises (c : Fin 32) : Answer.NeverRises s (execTrap c s) := by
  refine Answer.neverRises_of_mark h ?_
  (repeat' split) <;> simp

theorem execGenVerificationDone_neverRises : Answer.NeverRises s (execGenVerificationDone s) := by
  refine Answer.neverRises_of_mark h ?_
  split <;> simp

theorem execBar4Access_neverRises (off len : Nat) (data : Option (List Byte)) : Answer.NeverRises s (execBar4Access off len data s) := by
  unfold execBar4Access
  split
  · exact Answer.neverRises_fault s _
  · exact Answer.neverRises_of_mark h (State.fromHost_mark fun _ => by simp)

theorem execDescriptorRead_neverRises : Answer.NeverRises s (execDescriptorRead s) := by
  refine Answer.neverRises_of_mark h ?_
  (repeat' split) <;> simp

theorem execReadCompletion_neverRises (q : Fin 64) (data : List Byte) (ok : Bool) :
    Answer.NeverRises s (execReadCompletion q data ok s) := by
  refine Answer.neverRises_of_mark h ?_
  split <;> simp

theorem execCompletionTimeout_neverRises (q : Fin 64) : Answer.NeverRises s (execCompletionTimeout q s) := by
  refine Answer.neverRises_of_mark h ?_
  split <;> simp

theorem execMsixUnmask_neverRises (enable fmask : Bool) (v : Option (Fin 64)) : Answer.NeverRises s (execMsixUnmask enable fmask v s) :=
  Answer.neverRises_of_mark h (by cases v <;> simp)

theorem execUnsupportedRequest_neverRises (r : BadRequest) : Answer.NeverRises s (execUnsupportedRequest r s) :=
  Answer.neverRises_of_mark h (by cases r <;> simp)

theorem execCalAdopt_neverRises (q : Fin 64) : Answer.NeverRises s (execCalAdopt q s) := by
  refine Answer.neverRises_of_mark h (State.command_mark fun t d bs => ?_)
  split <;> simp

theorem execCalDiscard_neverRises (q : Fin 64) : Answer.NeverRises s (execCalDiscard q s) := by
  refine Answer.neverRises_of_mark h (State.command_mark fun t d bs => ?_)
  split <;> simp

theorem execClockChange_neverRises (c : Fin 32) : Answer.NeverRises s (execClockChange c s) := by
  refine Answer.neverRises_of_mark h ?_
  split <;> simp

theorem execCalTick_neverRises : Answer.NeverRises s (execCalTick s) := by
  unfold execCalTick
  dsimp only
  split
  · exact Answer.neverRises_next h
  · refine Answer.neverRises_of_mark h ?_
    split <;> simp

theorem execSvcMailbox_neverRises (k : Fin 64) (denied : Bool) : Answer.NeverRises s (execSvcMailbox k denied s) := by
  refine Answer.neverRises_of_mark h (State.serve_mark fun t => ?_)
  dsimp only
  (repeat' split) <;> simp

theorem execSvcRaise_neverRises (k : Fin 64) (denied : Bool) : Answer.NeverRises s (execSvcRaise k denied s) := by
  refine Answer.neverRises_of_mark h (State.serve_mark fun t => ?_)
  dsimp only
  split <;> simp

theorem execSvcHostNote_neverRises (k : Fin 64) (denied : Bool) : Answer.NeverRises s (execSvcHostNote k denied s) := by
  refine Answer.neverRises_of_mark h (State.serve_mark fun t => ?_)
  split <;> simp

end

/-! ### Every command -/

/-- From a state in which the Ridge is Kept while its memories are cleared, no command makes a core Kept short of a reset of the Ridge.
What leaves the privilege mark is an operation of Proofs/PrivilegeMark.lean, or one of the frames (a cluster operation, a core instruction,
a kernel service, a host access, a queue command) around a body that leaves it. -/
theorem exec_neverRises (i : Instr) {s : State} (h : KeptFrom s s.mark) : Answer.NeverRises s (exec i s) := by
  cases i with
  | timeRelease a => exact execTimeRelease_neverRises h a
  | trap a => exact execTrap_neverRises h a
  | beDrop a => exact execBeDrop_neverRises h a
  | shgRfe a => exact execShgRfe_neverRises h a
  | shgWait a => exact execShgWait_neverRises h a
  | shgRet a => exact execShgRet_neverRises h a
  | shgCpyb a => exact execShgCpyb_neverRises h a
  | shgFilb a => exact execShgFilb_neverRises h a
  | shgCmpb a => exact execShgCmpb_neverRises h a
  | shgPrdb a => exact execShgPrdb_neverRises h a
  | shgPwrb a => exact execShgPwrb_neverRises h a
  | shgKcall a b => exact execShgKcall_neverRises h a b
  | shgLdp a b => exact execShgLdp_neverRises h a b
  | shgStp a b => exact execShgStp_neverRises h a b
  | shgPopp a b => exact execShgPopp_neverRises h a b
  | shgLd a b c d => exact execShgLd_neverRises h a b c d
  | shgSt a b c d => exact execShgSt_neverRises h a b c d
  | shgPush =>
    exact Answer.neverRises_next (State.shg_keptFrom h fun _ ht _ => andCore_keptFrom (State.storeV_keptFrom _ _ _ ht) fun _ => rfl)
  | shgPop => exact Answer.neverRises_next (State.shg_keptFrom h fun _ ht _ => andCore_keptFrom (by simpa using ht) fun _ => rfl)
  | shgPushp => exact Answer.neverRises_next (State.shg_keptFrom h fun _ ht _ => State.pushWord_keptFrom _ _ ht)
  | shgCall | shgCallpz | shgRcall => exact Answer.neverRises_next (State.shg_keptFrom h fun _ ht _ => State.callTo_keptFrom _ _ ht)
  | shgSta => exact Answer.neverRises_next (State.shg_keptFrom h fun _ ht _ => State.storeV_keptFrom _ _ _ ht)
  | shgOut | shgOutPz => exact Answer.neverRises_next (State.shg_keptFrom h fun _ ht _ => State.outPort_keptFrom _ _ _ ht)
  | shgIn | shgInPz | shgLda => exact Answer.neverRises_next (State.shg_keptFrom h fun _ ht _ => by simpa using ht)
  | shgMovp => exact Answer.neverRises_next (State.shgPlain_keptFrom h fun c hc => by
      split at hc
      · exact Core.writeSt_k hc
      · simpa using hc)
  | shgWaitd => exact Answer.neverRises_next (State.shgPlain_keptFrom h fun c hc => by split at hc <;> simpa using hc)
  | shgNop | shgSetgm | shgClrgm | shgRpt | shgJpz | shgMovv | shgIncp | shgDecp | shgLdip | shgAdd
    | shgAdc | shgSub | shgSbc | shgAnd | shgOr | shgXor | shgCmp | shgAddi | shgAdci | shgSubi | shgMovi | shgAndi |
    shgOri | shgXori | shgCmpi | shgMov | shgMul | shgInc | shgDec | shgNot | shgNeg | shgTst | shgSwap | shgClr |
    shgShl | shgShr | shgAsr | shgRol | shgRor | shgRcl | shgRcr | shgJcc | shgBr =>
    exact Answer.neverRises_next (State.shgPlain_keptFrom h fun c hc => by simpa using hc)
  | saData a b => exact execSaData_neverRises h a b
  | dmaAbort a b => exact execDmaAbort_neverRises h a b
  | dmaDone a => exact execDmaDone_neverRises h a
  | dmaStop a => exact execDmaStop_neverRises h a
  | bar4Access a b c => exact execBar4Access_neverRises h a b c
  | cqCfg a b => exact execCqCfg_neverRises h a b
  | descriptorRead => exact execDescriptorRead_neverRises h
  | readCompletion a b c => exact execReadCompletion_neverRises h a b c
  | completionTimeout a => exact execCompletionTimeout_neverRises h a
  | msixUnmask a b c => exact execMsixUnmask_neverRises h a b c
  | calAdopt a => exact execCalAdopt_neverRises h a
  | calDiscard a => exact execCalDiscard_neverRises h a
  | regionSet a => exact execRegionSet_neverRises h a
  | regWrite a => exact execRegWrite_neverRises h a
  | clockChange a => exact execClockChange_neverRises h a
  | genVerificationDone => exact execGenVerificationDone_neverRises h
  | calTick => exact execCalTick_neverRises h
  | unsupportedRequest a => exact execUnsupportedRequest_neverRises h a
  | svcMailbox a b => exact execSvcMailbox_neverRises h a b
  | svcRaise a b => exact execSvcRaise_neverRises h a b
  | svcHostNote a b => exact execSvcHostNote_neverRises h a b
  | porstN a => exact execPorstN_neverRises h a
  | vddAonLoss => exact execVddAonLoss_neverRises
  | softRstRidge => exact Answer.neverRises_next (State.softRidge_keptFrom h)
  | memClearDone a => exact Answer.neverRises_next (State.clearDone_keptFrom a h)
  | shgRun k run =>
    exact Answer.neverRises_next (State.writeReg_keptFrom _ _ _ h (decide_eq_true (Nat.div_lt_of_lt_mul k.isLt)))
  | shingleLoad => exact Answer.neverRises_next (State.command_keptFrom h fun _ _ => State.shingleLoad_keptFrom _ _ h)
  | registerWrite => exact Answer.neverRises_next (State.fromHost_keptFrom h (State.writeOff_keptFrom _ _ _ _ h))
  | spareMask | fenceStatus | admCtl | queueCtl | sqBaseLo =>
    exact Answer.neverRises_next (State.fromHost_keptFrom h (State.writeReg_keptFrom _ _ _ h rfl))
  | add | sub | adc | sbc | neg | abs | min | max | and | or | xor | andn | not | mov | norm | lsl | lsr | asr | ror |
    lsli | lsri | asri | add32 | sub32 | neg32 | abs32 | asr32i | lsl32i | mov32 | cmp | tst | cmp32 | fadd | fsub |
    fmul | fmin | fmax | fabs | fneg | fcmp | flt | fix | fq15 | qf15 | fq31 | qf31 | div | divu | divq | fdiv | fsqrt |
    sqrtu | movc | ldia | ldik | ldi | clr | clrp | mpy | mac | msu | mac2 | msu2 | cmpy | cmac | cmacj | ftap | macsu |
    macuu | ash | adda | suba | lda | ext | extl | extd | extg | ld | ldd | st | std | sts | stsc | stsd | tli | trd |
    trdi | nop | endOp | ret | br | call | brd | loopd | loopi =>
    exact Answer.neverRises_of_mark h (State.issue_mark _ _ _)
  | kcHead | kcReturn => exact Answer.neverRises_next (State.ridgePort_keptFrom h (by simpa using h))
  | svcVersion | svcWallclock | svcLog => exact Answer.neverRises_of_mark h (State.serve_mark fun _ => by simp)
  | hostEoi | bootGo => exact Answer.neverRises_of_mark h (State.fromHost_mark fun _ => by simp)
  | sqTail | chainResume => exact Answer.neverRises_of_mark h (State.doorbell_mark fun _ => by simp)
  | cmdNop | taskletDefine | taskletRebind | taskletRemove | taskletRead | schedStart | slotLoad | fieldLineSet |
    fieldPartnerSet | partnerRead | fieldMsgPost | msgFree | calSlotSet | calSlotRead | logRead | clockSet
    | powerSet | timeSetDt | timeSetRate | statsRead | storeWrite | pagePin | schedStop | timeSetStep | storeRead =>
    exact Answer.neverRises_of_mark h (State.command_mark fun _ _ _ => by simp)
  | announce | overrun | emulationTimeout | wdtKick | claim | eoi | mailboxWrite | dmaStart | moderationTimer
    | functionLevelReset | perstN | ppsIn | ppsLost | ppsOut | peerDelayGeneration | modPresent | waitdExpiry | watchdog =>
    exact Answer.neverRises_of_mark h (by split <;> simp)
  | tOf | t0 | applyTime | tIc | inFrameArrival | placement | returnedFrame | returnLimit | lateSet | contFrame |
    messageRetry | ditherStopRetry | sync | ptpMessage | stageIn | stageInComplete | pageFetch | pageFetchDone |
    genLoaded | resultLands | trapResumeGo | trapResumeRedirect | trapResumeFail | commit | commitPublication |
    allocInit | allocInitDone | scrub | lockstepMismatch | exceptionEntry | sourceEdge | pend | pendClr |
    srcCfg | hostTargetClaim | fetchAdd | compareSwap | cqHead | evqHead | busMasterEnable | genOpen | genAbandon |
    genReq | genGo | kernelLoaded | softRstShingle | softRstField | powerRampDone |
    drainDone | thermSample | thermtrip | calSecHi | calSecLo | dtLo | sysclkLoss | sysclkReturn |
    jtagInstruction | link | dStateChange | linkChange | mrdCtl | backupLoss =>
    exact Answer.neverRises_of_mark h (by simp)

/-- Settles O35: a core that a command makes Kept is the Ridge in a reset. -/
theorem keptNeverRises : Obligations.KeptNeverRises := by
  unfold Obligations.KeptNeverRises
  intro i k s t hridge hexec
  have h : KeptFrom s s.mark := ⟨fun _ hk => .inl hk, hridge⟩
  obtain ⟨hup, hclr⟩ := exec_neverRises i h t hexec
  refine ⟨fun hs ht => ?_, hclr⟩
  obtain hold | ⟨h64, hc⟩ := hup k ht
  · exact absurd (hs.symm.trans hold) Bool.false_ne_true
  · exact ⟨Fin.ext h64, hc⟩

end Sys2Proof.Machine
end
